-- ==== Sys2Proof/Word.lean ====
section
/-! DEFINITION. The word types of the stack's interfaces (R10 to R12): slots, flits, registers, SSNs. -/

namespace Sys2Proof

/-- One 64-byte block, or one Wide Port flit (R52): bit 8k is bit 0 of byte k (R12). -/
abbrev Block := BitVec 512
/-- One 16-byte Wide Port slot (R54). -/
abbrev Slot := BitVec 128
/-- A 32-bit CSR word. -/
abbrev Word := BitVec 32
/-- A 64-bit quantity: an SSN, an epoch, an event argument. -/
abbrev DWord := BitVec 64
abbrev Byte := BitVec 8
/-- A Wide Port, P0 to P15 (R48). -/
abbrev Port := Fin 16
/-- A pseudo-channel, PC0 to PC63 (R23). -/
abbrev Pc := Fin 64
/-- A CSR access path: 0 to 15 the ports, 16 the management port, 17 the Keeper (R336, R534). -/
abbrev Path := Fin 18
/-- A member of the epoch set: 0 to 15 the ports, 16 ENGINE, 17 MIRROR (R272). -/
abbrev Member := Fin 18

/-- A sparse table: (key, value) pairs in one canonical form, keys strictly rising and no entry equal to what an unlisted
key reads as (`Sys2Proof.Machine.smGet`, `smSet`, `smWf`). -/
abbrev SMap (α : Type) := List (Nat × α)

/-- Bits [lo + w - 1 : lo] of a number. -/
def bitsOf (x lo w : Nat) : Nat := (x >>> lo) % 2 ^ w

/-- Saturating increment of a counter that stops at `top` (R102). -/
def satAdd (top x k : Nat) : Nat := min top (x + k)

end Sys2Proof
end

