-- ==== Sys2Proof/Syntax.lean ====
section
/-! DEFINITION. The commands of the stack: one constructor of `Instr` per row of spec/opcode_table.json, with the row's
operands. What the spec measures or the outside world supplies (an eye, a pin, a received frame, a reading) is an operand. -/

namespace Sys2Proof

/-- A region of training and of calibration storage (R110, R123). -/
inductive Region where
  | port (p : Port)
  | pc (n : Pc)
  | crossing
deriving DecidableEq, Repr

/-- What the compare counters of one lane show in training (R107, R110, R115): the bit errors of each dwell, in order of the
sweep; a dwell not listed shows none. `lane` is a lane position 0 to 71 of a port, a TSV lane 0 to 73 of a pseudo-channel or a
crossing group 0 to 255; `write` marks the write direction of a TSV lane (R112). `delayErr` is step 2 (or the sweep of R113),
`threshErr` step 3, `centreErr` step 4 from 64 taps below step 2's result, `verifyErr` step 5 at the centre, 16 taps below and
16 above, and then the same again after a repeat of steps 3 and 4 (R115). -/
structure LaneSweep where
  lane : Nat
  write : Bool := false
  delayErr : List Nat := []
  threshErr : List Nat := []
  centreErr : List Nat := []
  verifyErr : List Nat := []
deriving DecidableEq, Repr

/-- A receiver's name: `group` 0 Wide Port downstream, 1 TSV, 2 crossing group, as in SEXTANT.QSEL (R129). -/
structure LaneRef where
  group : Nat
  index : Nat
  lane : Nat
deriving DecidableEq, Repr

/-- What the shadow sampler counts in one measurement period (R118): disagreements with the main sampler at phase offsets 0 to
127 and at threshold taps 0 to 63, ones at each threshold tap, ones of the main sampler in the last dwell, and the samples of
one dwell; a count not listed is 0. -/
structure CalMeas where
  phase : List Nat := []
  thresh : List Nat := []
  ones : List Nat := []
  main : Nat := 0
  samples : Nat := 0
deriving DecidableEq, Repr

/-- What the early and late detector of a crossing group shows at a housekeeping round (R132): the passing run now, as its first
tap and its length in taps. -/
structure XingCheck where
  group : Nat
  lo : Nat
  len : Nat
deriving DecidableEq, Repr

/-- Upsets that strike the stored code word of a block before it is read: symbol 0 to 71 and the bits flipped (R213). -/
structure Upset where
  blk : Nat
  sym : Nat
  flip : Byte
deriving DecidableEq, Repr

/-- The readings of one fuse word at the normal, tight and loose references (R498). -/
structure FuseReading where
  word : Nat
  normal : Word
  tight : Word
  loose : Word
deriving DecidableEq, Repr

/-- A failure that Transit logs, in the layout of R488. -/
structure TransitFail where
  kind : Nat
  lo : Nat
  hi : Nat
deriving DecidableEq, Repr

/-- One character of the Chrosy control lane after 8b/10b decoding: `err` marks an error character, `k` a K symbol (R359). -/
structure ChrChar where
  err : Bool
  k : Bool
  byte : Byte
deriving DecidableEq, Repr

/-- One service figure of a Chrosy receive lane (R375, R381): its eye, its error rate exponent, the steps adaptation takes. -/
structure ChrAdapt where
  lane : Nat
  eye : Nat
  berExp : Nat
  ctleUp : Int
  taps : List Int
deriving DecidableEq, Repr

/-- The part of an image header (R515) that the Keeper checks, with the outcomes of the two cryptographic checks left to
`Config` (the public key and the signature are carried whole). -/
structure ImageHeader where
  magic : Word
  hwType : Nat
  component : Nat
  hdrFmt : Nat
  version : Nat
  rangeLoMin : Nat
  rangeLoMax : Nat
  rangeHiMin : Nat
  rangeHiMax : Nat
  unitBind : BitVec 128
  rollback : Nat
  keySlot : Nat
  length : Nat
  setFmt : Nat
  setFmtMin : Nat
  bodyHash : BitVec 384
  signature : BitVec 768
  pubkey : BitVec 768
  hdrCrc : Word
  /-- Bytes 0 to 507, over which HDR_CRC runs; bytes 0 to 103 are those the signature covers. -/
  raw : List Byte
deriving DecidableEq, Repr

/-- The slot of a NOP, with a flag that a higher-numbered slot of its header flit is a link slot with ACK_VALID = 1: of
several such slots of one header the highest-numbered takes effect (R58). -/
structure NopSlot where
  slot : Slot
  shadowed : Bool
deriving DecidableEq, Repr

/-- A converted Watch reading (R456) and, with the last channel of a round, what
the crossing detectors showed (R132). -/
structure WatchValue where
  value : Nat
  xing : List XingCheck
deriving DecidableEq, Repr

/-- The commands of the stack, in the order of the table. -/
inductive Instr where
  -- Wide Port requests (02)
  | rd (p : Port) (slot : Slot)
  | wr (p : Port) (slot : Slot) (flits : List Block)
  | wrm (p : Port) (slot : Slot) (flits : List Block)
  | cfgRd (p : Port) (slot : Slot)
  | cfgWr (p : Port) (slot : Slot)
  | mark (p : Port) (slot : Slot)
  | fence (p : Port) (slot : Slot)
  -- `shadowed`: a higher-numbered slot of the same header flit is a link slot with ACK_VALID = 1 (R58)
  | nop (p : Port) (slot : NopSlot)
  | unlistedOpcode (p : Port) (slot : Slot)
  -- Wide Port link and control (02, 03)
  | flitLinkCheck (p : Port) (flit : Block) (check : Word)
  | resendStart (p : Port)
  | replayStorm (p : Port)
  | downstreamLaneFailed (p : Port) (lane : Nat)
  | hckFault (p : Port)
  | remap (p : Port) (arg : BitVec 16)
  | remapDone (p : Port) (arg : BitVec 16)
  | portReset (p : Port)
  | portResetDone (p : Port)
  | portFail (p : Port) (arg : BitVec 16)
  | pctlFrameInvalid (p : Port) (cmd : Byte) (arg : BitVec 16) (crc : Byte)
  | pctlAnswerTimeout (p : Port)
  | trnAck (p : Port) (arg : BitVec 16)
  | phaseDone (p : Port) (arg : BitVec 16)
  | laneBad (p : Port) (arg : BitVec 16)
  | trnFail (p : Port) (arg : BitVec 16)
  -- staging, epochs, egress
  | stagingRelease (p : Port)
  | boundaryRelease (m : Member)
  | epochClose
  | epochStall (m : Member)
  | upstreamResponseSend (p : Port)
  | sigSend (p : Port)
  -- training and calibration (03)
  | fullTraining (r : Region) (sweeps : List LaneSweep)
  | fastTraining (r : Region) (sweeps : List LaneSweep)
  | pcTrainingLost (n : Pc) (lockLost : Bool)
  | pcRetrainDone (n : Pc) (ok : Bool)
  | calPeriodEnd (l : LaneRef) (m : CalMeas)
  | calStep (l : LaneRef)
  | overrideStep (entry : Fin 64)
  | calRecordRewrite (rec : Fin 81)
  | sextantQselWrite (path : Path) (value : Word)
  | sextantQualRead (path : Path)
  -- memory service (04, 05, 06, 07)
  | schedulerPick (n : Pc)
  | readDataDecoded (n : Pc) (id : Nat) (upsets : List Upset)
  | dramWriteDone (n : Pc) (id : Nat)
  | derivedWriteEnqueue (n : Pc)
  | urgentLapseEnd (n : Pc)
  | wrmMerge (n : Pc) (id : Nat)
  | captureOffer (n : Pc) (bank : Fin 32) (row : Nat)
  | captureCopyDone (n : Pc) (bank : Fin 32) (row : Nat)
  | lineWritebackTimeout (n : Pc) (line : Nat)
  | lineWritebackDone (n : Pc) (line : Nat)
  | wayFailureDetected (way : Fin 16) (cause : Fin 5) (tagLost : Option (Pc × Nat)) (lostBlocks : List Nat)
  | wayRecoveryDone (way : Fin 16) (lostBlocks : List Nat)
  | refreshSlot (n : Pc)
  | refreshStart (n : Pc) (bank : Fin 32)
  | nbrRefreshTrigger (n : Pc) (bank : Fin 32) (row : Nat)
  | targetedRefreshDone (n : Pc) (bank : Fin 32)
  | trackerWindowEnd
  | throttleStepUp (req : Fin 1024)
  | tidefillDone (micros : Nat)
  | freshClaimFill (page : Nat)
  | scrubInitdone (path : Path) (value complement : Word)
  | scrubUnitIssue (n : Pc)
  | scrubLapEnd
  -- repair (08)
  | softRepairStart (n : Pc) (bank : Fin 32) (row : Nat)
  | softRepairDone (n : Pc)
  | tsvLaneFailed (n : Pc) (lane : Nat)
  | tsvSwitchStart (n : Pc)
  | tsvSwitchDone (n : Pc)
  | repairFuseauth (path : Path) (value complement : Word)
  -- epochs (09)
  | epochPortsetWrite (path : Path) (value : Word)
  | portsetApply
  | epochInitWrite (path : Path) (value : DWord)
  | trigArm (path : Path) (i : Fin 16) (value : Word)
  | deferredTriggerAction
  -- Wetex (10)
  | sqTailDoorbell (path : Path) (r : Fin 64) (value : Word)
  | cqHeadDoorbell (path : Path) (r : Fin 64) (value : Word)
  | ringEnable (path : Path) (r : Fin 64) (value : Word)
  | ringDisable (path : Path) (r : Fin 64) (value : Word)
  | descFetch (r : Fin 64)
  | descDispatch
  | completionRecord (r : Fin 64) (sqIdx : Nat)
  | copy (r : Fin 64) (sqIdx : Nat)
  | fill (r : Fin 64) (sqIdx : Nat)
  | crc64 (r : Fin 64) (sqIdx : Nat)
  | compare (r : Fin 64) (sqIdx : Nat)
  | zero (r : Fin 64) (sqIdx : Nat)
  | scrubRange (r : Fin 64) (sqIdx : Nat)
  | poisonClear (r : Fin 64) (sqIdx : Nat)
  | epochAdvance (r : Fin 64) (sqIdx : Nat)
  | tidemarkExport (r : Fin 64) (sqIdx : Nat)
  | tidemarkClear (r : Fin 64) (sqIdx : Nat)
  | mirrorResync (r : Fin 64) (sqIdx : Nat)
  | mirrorPull (r : Fin 64) (sqIdx : Nat)
  | journalRead (r : Fin 64) (sqIdx : Nat)
  | fwStage (r : Fin 64) (sqIdx : Nat)
  | fwActivate (r : Fin 64) (sqIdx : Nat) (selfCheck : Bool)
  | fwCommit (r : Fin 64) (sqIdx : Nat)
  | bistRun (r : Fin 64) (sqIdx : Nat) (cclkCount : Nat)
  | repairSoft (r : Fin 64) (sqIdx : Nat)
  | repairFuse (r : Fin 64) (sqIdx : Nat) (verified : Bool)
  | pcOffline (r : Fin 64) (sqIdx : Nat)
  | pcOnline (r : Fin 64) (sqIdx : Nat) (sweeps : List LaneSweep)
  | seal (r : Fin 64) (sqIdx : Nat)
  | descFence (r : Fin 64) (sqIdx : Nat)
  -- journal and events (11)
  | journalUnitFlush
  | almanacRselWrite (path : Path) (value : DWord)
  | almanacLookupDone
  | almanacRdataRead (path : Path)
  | eventRecordWrite (k : Fin 4)
  | evtRingEnable (path : Path) (k : Fin 4) (value : Word)
  | evtRingDisable (path : Path) (k : Fin 4) (value : Word)
  | evtRingHeadWrite (path : Path) (k : Fin 4) (value : Word)
  | evtFatalAckWrite (path : Path) (value : DWord)
  | evtMfifoRead (path : Path)
  | smbusAlertResponse
  -- Chrosy (12)
  | chrosyBlockStart
  | chrosyBlockReceived (chars : List ChrChar) (frames : List (BitVec 288))
  | chrosyAck (fsn : Byte)
  | chrosyNak (fsn : Byte)
  | chrosyCredit (vc : Fin 2) (n : Byte)
  | heartbeat (data : Byte)
  | alignNext (width : BitVec 4)
  | alignOk (width : BitVec 4)
  | linkUp
  | degrade (pair : BitVec 4)
  | linkDown (reason : BitVec 4)
  | chrosyAligned (goodPairs : BitVec 4)
  | seekTimeout (goodPairs : Nat)
  | chrosyLaneFailed (lane : Fin 9) (cause : Fin 5)
  | degradeRepeat
  | chrosyNoBlockTimeout
  | chrosyStallTimeout
  | chrosyAdaptTick (readings : List ChrAdapt)
  | chrosyEnable (path : Path) (value : Word)
  | chrosyDisable (path : Path) (value : Word)
  | chrosyQselWrite (path : Path) (value : Word)
  | chrosyQualRead (path : Path)
  -- mirroring (13)
  | syncWrite (hdr : BitVec 256) (blocks : List Block)
  | asyncWrite (hdr : BitVec 256) (blocks : List Block)
  | markMessage (hdr : BitVec 256)
  | barrier (hdr : BitVec 256)
  | mirrorAck (hdr : BitVec 256)
  | nack (hdr : BitVec 256)
  | barrierAck (hdr : BitVec 256)
  | pullReq (hdr : BitVec 256)
  | pullData (hdr : BitVec 256) (blocks : List Block)
  | resyncData (hdr : BitVec 256) (blocks : List Block)
  | reservedMessage (hdr : BitVec 256)
  | applyWrite (vc : Fin 2)
  | mirrorMessageSend (vc : Fin 2)
  | backlogRead
  | syncTimeout (w : Fin 64)
  | windowSetAsync (path : Path) (w : Fin 64) (value : Word)
  | windowSetSync (path : Path) (w : Fin 64) (value : Word)
  | windowSetOff (path : Path) (w : Fin 64) (value : Word)
  -- power (14)
  | lowPowerEntry
  | lowPowerEntryDone
  | wake (cause : Fin 7)
  | wakeDone
  | pfailDetect (steps : Fin 8)
  | droopDetect (steps : Fin 8)
  | lanternRailFault (vddD vpp : Bool)
  | pfailRecovered
  -- start-up and reset (15)
  | powerGood (strap : BitVec 3)
  | fuseSenseDone (drift : List FuseReading)
  | keeperBootDone (selfCheck : Bool)
  | startRelease (ms : Nat)
  | prstAssert (steps : Fin 8)
  | hrstAssert
  | logicResetRelease
  | pfailDetectArm
  | keeperResetRequest (path : Path) (value complement : Word)
  | wipeNextWrite (path : Path) (value complement : Word)
  | keeperWatchdogExpiry
  | keeperRestartDone (selfCheck : Bool) (micros : Nat)
  -- thermal (16)
  | watchReading (raw : Nat) (value : WatchValue)
  | thermalResumeArm (path : Path) (value complement : Word)
  -- Transit (17)
  | transitCclkWindow (count : Nat)
  -- `missing`: the test cycles the run fell short of its expected count (R486)
  | transitRunDone (missing : DWord) (signature expected : DWord) (fails : List TransitFail)
  | transitAbort (path : Path) (value : Word)
  | bypass (code : Byte)
  | idcode
  | samplePreload (bumps : List Bool)
  | extest
  | wrapSel
  -- fuses (18)
  | fuseWrite (path : Path) (value complement : Word)
  | fuseWriteCrc (path : Path) (value complement : Word)
  | fuseLock (path : Path) (value complement : Word)
  | lcAdvance (path : Path) (value complement : Word)
  | fuseDirect (path : Path) (value complement : Word)
  | fuseOpStart
  | fuseOpDone (weak : List FuseReading) (pulses : Nat)
  | fuseResense (drift : List FuseReading)
  | fuseRdselWrite (path : Path) (value : Word)
  -- firmware (19)
  | mgmtStage (value : Word)
  | mgmtActivate (value : Word) (selfCheck : Bool)
  | mgmtCommit (value : Word)
  | fwupRelease (path : Path) (value complement : Word)
  | leaseTimeout
  | cleanBoot
  | settingsStore
  | rollbackFuseRetry (ok : Bool)
  -- registers (20)
  | regWrite (path : Path) (addr : BitVec 24) (value : Word)
  | dwWindowExpiry
  | cfgownerWrite (path : Path) (value complement : Word)
  | mgmtSetPointer (bytes : List Byte)
  | mgmtWrite (bytes : List Byte)
  | mgmtRead (bytes : List Byte)
  | smbusTimeout
  -- supplies and clock (21)
  | refclkLoss (code : Nat)
  | vddCoreLoss
  | vlanLoss
deriving DecidableEq, Repr

end Sys2Proof
end

