-- ==== Sys2Proof/Decode.lean ====
section
/-! DEFINITION. Commands from words: spec/opcode_table.json gives its rows no bits, so no word spells a command. -/

namespace Sys2Proof

/-- The command a word of the table's bits spells. Log entry 15. -/
def decodeTableWord (_nbits _w : Nat) : Option Instr := none

end Sys2Proof
end

