-- ==== Sys2Proof/Machine/Flags.lean ====
section
/-! DEFINITION. Encodings and check words: status codes, severities, CRCs, bit counts. -/

namespace Sys2Proof.Machine

/-! Status codes (R18). -/
def stOk : Nat := 0
def stCorr : Nat := 1
def stPoison : Nat := 2
def stUncorr : Nat := 3
def stUnwritten : Nat := 4
def stAddr : Nat := 5
def stOffline : Nat := 6
def stFenced : Nat := 7
def stProto : Nat := 8
def stMirrorFail : Nat := 9

/-- Severity of a block status for the overall status of a response (R86): larger is more severe. -/
def stRank (st : Nat) : Nat :=
  if st = stProto then 7 else if st = stAddr then 6 else if st = stOffline then 5 else if st = stUncorr then 4
  else if st = stPoison then 3 else if st = stUnwritten then 2 else if st = stCorr then 1 else 0

/-- The most severe of some statuses (R86). -/
def worst (l : List Nat) : Nat := l.foldl (fun a b => if stRank a < stRank b then b else a) stOk

/-! Severities (R340). -/
def sevInfo : Nat := 0
def sevNotice : Nat := 1
def sevWarn : Nat := 2
def sevError : Nat := 3
def sevFatal : Nat := 4

/-- The bytes of a number, least significant first. -/
def bytesOf (n x : Nat) : List Nat := (List.range n).map fun i => (x >>> (8 * i)) % 256

/-- The number a list of bytes spells, least significant first. -/
def ofBytes (l : List Nat) : Nat := l.foldr (fun b acc => b + 256 * acc) 0

/-- One bit step of a reflected CRC. -/
def crcRefStep (poly c : Nat) : Nat := if c % 2 = 1 then (c / 2) ^^^ poly else c / 2

/-- A reflected CRC over bytes. -/
def crcRef (poly : Nat) (c : Nat) (bs : List Nat) : Nat :=
  bs.foldl (fun c b => (List.range 8).foldl (fun c _ => crcRefStep poly c) (c ^^^ b)) c

/-- CRC-32C with the parameters of R53. -/
def crc32c (bs : List Nat) : Nat := (crcRef 0x82F63B78 0xFFFFFFFF bs) ^^^ 0xFFFFFFFF

/-- A CRC of width `w`, most significant bit first. -/
def crcMsb (w poly c : Nat) (bs : List Nat) : Nat :=
  bs.foldl (fun c b =>
    (List.range 8).foldl (fun c _ => if c.testBit (w - 1) then ((c * 2) % 2 ^ w) ^^^ poly else (c * 2) % 2 ^ w)
      (c ^^^ (b * 2 ^ (w - 8)))) c

/-- The CRC-8 of PCTL frames and of SMBus transactions (R71, R546). -/
def crc8 (bs : List Nat) : Nat := crcMsb 8 0x07 0 bs

/-- The CRC-16 of event records and fuse check words (R258, R339). -/
def crc16 (bs : List Nat) : Nat := crcMsb 16 0x1021 0xFFFF bs

/-- Set bits of the low 2^d bits of a number, by halving. -/
def popc (d x : Nat) : Nat :=
  match d with
  | 0 => x % 2
  | d + 1 => if x = 0 then 0 else popc d (x % 2 ^ 2 ^ d) + popc d (x >>> 2 ^ d)

/-- A Bool as a bit. -/
def b2n (b : Bool) : Nat := if b then 1 else 0

/-- Replace bits [lo + w - 1 : lo] of a number. -/
def putBits (x lo w v : Nat) : Nat := x - bitsOf x lo w * 2 ^ lo + (v % 2 ^ w) * 2 ^ lo

/-- Bytes of a block, in address order. -/
def blockBytes (b : Block) : List Nat := bytesOf 64 b.toNat

end Sys2Proof.Machine
end

