-- ==== Sys2Proof/Machine/Code.lean ====
section
/-! DEFINITION. The Reed–Solomon code of R212: the field, the encoder, the decoder of R214 to R219. -/

namespace Sys2Proof.Machine

/-- Multiplication in GF(2^8) by the polynomial of R212, over the low `k` bits of `b`. -/
def gfMulN (k a b : Nat) : Nat :=
  match k with
  | 0 => 0
  | k + 1 =>
    let a2 := if 128 ≤ a then (a * 2) ^^^ 0x11D else a * 2
    (if b % 2 = 1 then a else 0) ^^^ gfMulN k a2 (b / 2)

def gfMul (a b : Nat) : Nat := if a = 0 ∨ b = 0 then 0 else gfMulN 8 a b

/-- Powers in the field. -/
def gfPow (a n : Nat) : Nat := n.repeat (gfMul a) 1

/-- alpha to the `n`, the exponent taken modulo 255. -/
def alpha (n : Nat) : Nat := gfPow 2 (n % 255)

/-- The inverse: the 254th power. -/
def gfInv (a : Nat) : Nat :=
  let a2 := gfMul a a; let a4 := gfMul a2 a2; let a8 := gfMul a4 a4; let a16 := gfMul a8 a8
  let a32 := gfMul a16 a16; let a64 := gfMul a32 a32; let a128 := gfMul a64 a64
  gfMul a128 (gfMul a64 (gfMul a32 (gfMul a16 (gfMul a8 (gfMul a4 a2)))))

/-- The generator polynomial of R212, g_0 to g_7 (g_8 = 1). -/
def genPoly : List Nat :=
  ((List.range 8).foldl (fun g i =>
    let r := alpha i
    List.zipWith (fun a b => a ^^^ gfMul r b) (0 :: g) (g ++ [0])) [1]).take 8

/-- Data symbol k of a block (R213): bit j is data bit 64 j + k. -/
def symOf (d : Nat) (k : Nat) : Nat :=
  (List.range 8).foldl (fun acc j => acc + ((d >>> (64 * j + k)) % 2) * 2 ^ j) 0

/-- The 64 data symbols of a block. -/
def symsOf (b : Block) : List Nat := (List.range 64).map (symOf b.toNat)

/-- The data bits of a symbol error at data symbol k. -/
def symBits (k e : Nat) : Nat :=
  (List.range 8).foldl (fun acc j => acc + ((e >>> j) % 2) * 2 ^ (64 * j + k)) 0

/-- One step of the division by g(x): the register p_0 to p_7 and the next data symbol, highest power first. -/
def encStep (p : List Nat) (d : Nat) : List Nat :=
  let f := d ^^^ p.getLastD 0
  if f = 0 then 0 :: p.take 7 else List.zipWith (fun a g => a ^^^ gfMul f g) (0 :: p.take 7) genPoly

/-- Check symbols p_0 to p_7 of a block (R212), p_i in byte i. -/
def rsCheck (b : Block) : DWord :=
  if b = 0 then 0 else
  BitVec.ofNat 64 (ofBytes ((symsOf b).reverse.foldl encStep (List.replicate 8 0)))

/-- The code word's symbols by number: data 0 to 63, check 64 to 71. -/
def cwSyms (b : Block) (c : DWord) : List Nat := symsOf b ++ bytesOf 8 c.toNat

/-- The power of x that symbol k stands at. -/
def symPow (k : Nat) : Nat := if k < 64 then k + 8 else k - 64

/-- Syndrome j: c(alpha^j). -/
def syndrome (syms : List Nat) (j : Nat) : Nat :=
  let r := alpha j
  let hi := syms.take 64
  let lo := syms.drop 64
  (lo ++ hi).foldr (fun s acc => s ^^^ gfMul r acc) 0

/-- The eight syndromes. -/
def syndromes (syms : List Nat) : List Nat := (List.range 8).map (syndrome syms)

/-- Subtract a multiple of `p` from `r` so that its head becomes 0, and drop the head. `p` has head 1. -/
def elimRow (p r : List Nat) : List Nat :=
  match r with
  | [] => []
  | h :: _ => (List.zipWith (fun a b => a ^^^ gfMul h b) r p).drop 1

/-- Solve a linear system over the field: each row lists the `n` coefficients and the right side. Answers the unique solution
where there is one. -/
def gfSolve (n : Nat) (rows : List (List Nat)) : Option (List Nat) :=
  match n with
  | 0 => if rows.all (fun r => r.all (· = 0)) then some [] else none
  | n + 1 =>
    match rows.find? (fun r => r.headD 0 ≠ 0) with
    | none => none
    | some p =>
      let i := gfInv (p.headD 0)
      let p1 := p.map (gfMul i)
      match gfSolve n (rows.map (elimRow p1)) with
      | none => none
      | some xs =>
        let rest := p1.drop 1
        let v := (List.zipWith gfMul rest xs).foldl (· ^^^ ·) (rest.getLastD 0)
        some (v :: xs)

/-- Multiply the syndromes by (1 - X_1 x) for each erasure: the modified syndromes, one fewer for each. -/
def modSyn (syn : List Nat) (er : List Nat) : List Nat :=
  er.foldl (fun s k => List.zipWith (fun a b => b ^^^ gfMul (alpha (symPow k)) a) s (s.drop 1)) syn

/-- Error positions for exactly `v` errors from the modified syndromes: the locator's roots among the 72 symbols. -/
def locate (t : List Nat) (v : Nat) (er : List Nat) : Option (List Nat) :=
  let rows := (List.range (t.length - v)).map fun i => (t.drop i).take (v + 1)
  match gfSolve v rows with
  | none => none
  | some lam =>
    -- T_{i+v} = sum_j lam_j T_{i+j}: X is an error place when X^v = sum_j lam_j X^j
    let pos := (List.range 72).filter fun k =>
      let x := alpha (symPow k)
      decide (lam.foldr (fun a acc => a ^^^ gfMul x acc) 0 = gfPow x v)
    if pos.length = v ∧ pos.all (fun k => !er.contains k) then some pos else none

/-- Magnitudes at known positions, from the syndromes. -/
def magnitudes (syn : List Nat) (pos : List Nat) : Option (List Nat) :=
  gfSolve pos.length ((List.range 8).map fun j => pos.map (fun k => alpha (symPow k * j)) ++ [syn.getD j 0])

/-- The errors of a word within `v0` to `v0 + fuel - 1` errors beyond its erasures (R214, R215): positions and flips. -/
def findErrors (syn er : List Nat) (fuel v : Nat) : Option (List (Nat × Nat)) :=
  match fuel with
  | 0 => none
  | fuel + 1 =>
    match locate (modSyn syn er) v er with
    | some pos =>
      match magnitudes syn (er ++ pos) with
      | some ms => some (((er ++ pos).zip ms).filter (fun x => x.2 ≠ 0))
      | none => findErrors syn er fuel (v + 1)
    | none => findErrors syn er fuel (v + 1)

/-- The poison mask of R218, byte i for p_i. -/
def poisonMask : DWord := 0x3A87F053C52E9D6B#64

/-- What decoding yields. -/
structure Decoded where
  status : Nat
  data : Block
  /-- Positions of the corrected symbols. -/
  syms : List Nat := []
deriving DecidableEq, Repr

/-- Apply corrections to the data symbols. -/
def applyErrs (b : Block) (errs : List (Nat × Nat)) : Block :=
  errs.foldl (fun b e => if e.1 < 64 then b ^^^ BitVec.ofNat 512 (symBits e.1 e.2) else b) b

/-- The decoder of R216, with the erasures of R215. -/
def rsDecode (er : List Nat) (b : Block) (c : DWord) : Decoded :=
  if c = rsCheck b then { status := stOk, data := b } else
  let syn := syndromes (cwSyms b c)
  match findErrors syn er 4 0 with
  | some errs => { status := stCorr, data := applyErrs b errs, syms := errs.map (·.1) }
  | none =>
    if c ^^^ poisonMask = rsCheck b then { status := stPoison, data := 0 } else
    match findErrors (syndromes (cwSyms b (c ^^^ poisonMask))) [] 3 0 with
    | some _ => { status := stPoison, data := 0 }
    | none => { status := stUncorr, data := 0 }

end Sys2Proof.Machine
end

