-- ==== Sys2Proof/Config.lean ====
section
/-! DEFINITION. What the model holds fixed: the free values, whose content nothing in Lean can see, and the outcomes of the
cryptographic functions the spec names and the model does not compute. -/

namespace Sys2Proof.Config

/-- A value the spec leaves open, fresh at each use: applied to `State.free`, a counter each use advances. Log entry 2. -/
opaque freeNat : Nat → Nat
/-- The bytes of a block the spec leaves open (R229: data of a block no write has reached). Log entry 2. -/
opaque freeBlock : Nat → Block
/-- The TRIM curve that converts a mean leakage current, in nA, to a temperature in quarter degrees (R471). Log entry 2. -/
opaque leakTemp : Nat → Int
/-- SHA-384 of some bytes (R515, R516). Log entry 17. -/
opaque sha384 : List Byte → BitVec 384
/-- ECDSA P-384 verification: public key, digest, signature (R515, R516). Log entry 17. -/
opaque ecdsaOk : BitVec 768 → BitVec 384 → BitVec 768 → Bool
/-- AES-128 encryption of a block under a key (R439). Log entry 17. -/
opaque aes128 : BitVec 128 → BitVec 128 → BitVec 128
/-- The wipe key drawn at each generation (R439): a random value. Log entry 17. -/
opaque wipeKey : Nat → BitVec 128
/-- The die-level repairs the DRAM dies report when they are initialised at a start, fresh at each start (R198): pseudo-channel,
bank, row, spare row 0 to 31. Log entry 2. -/
opaque dieRows : Nat → List (Nat × Nat × Nat × Nat)
/-- The worst-case training pattern of the Keeper firmware (R107, R110). Log entry 84. -/
opaque calPattern : BitVec 128

end Sys2Proof.Config
end

