-- ==== Sys2Proof/Machine/State.lean ====
section
/-! DEFINITION. The state of the stack: every register, table, queue, counter and mode the spec gives it, as plain data. -/

namespace Sys2Proof.Machine

/-- No command of this model ends in a fault: the spec reports failures as statuses, events and journal entries, all of which
are in `State`. The one constructor is raised by nobody; it stands so that the type is inhabited (safe). -/
inductive Fault where
  /-- Raised by nobody (safe). -/
  | none
deriving DecidableEq, Repr

/-- Why a command has no meaning. -/
inductive Refusal where
  /-- Raised by `exec` alone, for a command whose meaning is not written yet (safe: it stops). -/
  | notModelled (mnemonic : String)
deriving DecidableEq, Repr

/-! ### Requests, responses, records -/

/-- What a request asks (R73, R139): host requests and the stack's own. -/
inductive ReqKind where
  | rd | wr | wrm | cfgRd | cfgWr | mark | fence
deriving DecidableEq, Repr

/-- Where a queue entry comes from (R139, R140). -/
inductive Src where
  | host (p : Port)
  | scrub
  | apply
  | corrwb
  | wetex
  /-- The write-back of a Lagoon line: no queue entry, but picked as one (R175, R176). -/
  | line (unit : Nat)
deriving DecidableEq, Repr

/-- A request in a port's staging (R89, R93). `ord` is its place in the order of arrival, `bar` that of the last MARK or FENCE
of its port before it (0: none), `arrived` the CCLK of its header's last UI. -/
structure StReq where
  kind : ReqKind
  slot : Slot
  data : List Block := []
  ord : Nat
  bar : Nat := 0
  arrived : Nat
  /-- Raised to URGENT priority under R93 rule 5. -/
  raised : Bool := false
  /-- A MARK accepted but held under R275, with the CCLK the holding began and whether EPOCH_STALL has been raised. -/
  heldSince : Option Nat := .none
  stalled : Bool := false
  /-- Waiting for a claim entry under R234 has been reported. -/
  claimWait : Bool := false
deriving DecidableEq, Repr

/-- A response waiting at a port's egress (R85, R153). `after` bars it until no write of the port with a smaller `ord`
waits for its WRA (R95); `ord` is its own request's place. -/
structure Resp where
  kind : ReqKind
  tag : Nat
  status : Nat
  dup : Bool := false
  len : Nat := 0
  bst : List Nat := []
  data : List Block := []
  rdata : DWord := 0
  urgent : Bool := false
  ord : Nat := 0
  after : Bool := false
  /-- Where the URGENT latency of R161 is measured: pseudo-channel and arrival. -/
  pc : Nat := 0
  arrived : Nat := 0
  /-- The request's write slot, for the outstanding count of R150. -/
  id : Nat := 0
deriving DecidableEq, Repr

/-- One upstream flit in the replay buffer: its sequence number, its bytes, its check word (R53, R57). -/
structure TxFlit where
  seq : Nat
  flit : Block
  check : Word := 0
deriving DecidableEq, Repr

/-- An event record (R339); `flags` without PHASE. -/
structure EvRec where
  ssn : Nat
  src : Nat
  code : Nat
  sev : Nat
  flags : Nat
  arg0 : Nat
  arg1 : Nat
deriving DecidableEq, Repr

/-- A journal entry (R335); `body` is the number whose byte 0 is byte 24 of the entry. -/
structure JEntry where
  j : Nat
  ssn : Nat
  kind : Nat
  src : Nat
  epoch : Nat
  body : Nat
  starts : Nat
deriving DecidableEq, Repr

/-- A record presented before the series value is decided (R331). -/
inductive Held where
  | entry (kind src body : Nat)
  | event (src code sev arg0 arg1 : Nat) (journalled deferred : Bool)
deriving DecidableEq, Repr

/-- The series of SSNs (R327 to R331). -/
structure SeqSt where
  /-- `SEQ.NEXT`; the Lantern's SRAM holds the same value (R330). -/
  next : Nat := 1
  /-- `SEQ.STARTS`. -/
  starts : Nat := 0
  /-- The series value of this start is decided; until then records wait in the start buffer. -/
  decided : Bool := false
  /-- The start buffer, oldest first, at most 1,024 records. -/
  buf : List Held := []
  /-- Records discarded from the start buffer, saturating at 255. -/
  dropped : Nat := 0
deriving DecidableEq, Repr

/-- The journal (R332, R333) and its window registers (R338). -/
structure JrnSt where
  /-- The newest entries, newest first, at most 16,384 (the tail in the Lagoon). -/
  tail : List JEntry := []
  /-- `ALMANAC.COUNT`: J of the next entry. -/
  count : Nat := 0
  /-- Entries below this J have been written to DRAM. -/
  flushed : Nat := 0
  /-- CCLK at which the first entry of the unit not yet written was formed. -/
  unitAt : Nat := 0
  /-- A lookup is in progress. -/
  busy : Bool := false
  rsel : Nat := 0
  found : Bool := false
  gap : Bool := false
  unreadable : Bool := false
  rdata : Block := 0
  /-- J of the slot found, and the J from which a lookup of the next entry starts. -/
  foundJ : Nat := 0
  fromJ : Option Nat := none
deriving DecidableEq, Repr

/-- One event ring (R343 to R347): absolute record counts `tail` and `head` since the ring was enabled. -/
structure EvRing where
  active : Bool := false
  tail : Nat := 0
  head : Nat := 0
  /-- `EVT.RING[k].STAT` keeps the last tail and phase while the ring is DISABLED. -/
  lastTail : Nat := 0
  lastPhase : Bool := false
  waiting : List EvRec := []
  lostBefore : Bool := false
  lostSince : Nat := 0
  /-- Absolute index of the last record written at or above the pin severity. -/
  pinIdx : Option Nat := none
  /-- The record last written to an even slot (R304). -/
  last : BitVec 256 := 0
deriving DecidableEq, Repr

/-- Event delivery (R342 to R348). -/
structure EvtSt where
  rings : Vector EvRing 4 := Vector.replicate 4 {}
  fatalSsn : Nat := 0
  fatalAck : Nat := 0
  mfifo : List EvRec := []
  mfifoOvf : Bool := false
  alertN : Bool := false
  /-- Delivery has stopped at power-fail detection (R349). -/
  stopped : Bool := false
  /-- Rate limits: key 65,536 × source + code (times 2^32 plus a lane where the limit is per lane); value CCLK of the last
  raise plus one, and the occurrences suppressed since. -/
  limits : SMap (Nat × Nat) := []
deriving DecidableEq, Repr

/-! ### Wide Port -/

/-- `PORT[p].STAT.LINK` (R102). -/
inductive Link where
  | down | training | up | remap | reset | failed
deriving DecidableEq, Repr

/-- A PCTL frame whose answer the stack awaits (R71). -/
structure PctlWait where
  cmd : Nat
  arg : Nat
  sentAt : Nat
  repeats : Nat := 0
deriving DecidableEq, Repr

/-- The step a port's training has reached (R109). -/
inductive TrnStep where
  | idle
  | started (fast : Bool)
  | running (fast : Bool) (step : Nat) (up : Bool) (sentAt : Nat)
  | done (fast : Bool)
deriving DecidableEq, Repr

/-- One Wide Port (R48 to R103). -/
structure PortSt where
  link : Link := .down
  failReason : Nat := 0
  sigLost : Bool := false
  /-- Lane maps: the logical lane carried on each spare. -/
  mapDn : Vector (Option Nat) 4 := Vector.replicate 4 none
  mapUp : Vector (Option Nat) 4 := Vector.replicate 4 none
  /-- Credits the host holds, per class URGENT, LATENCY, BULK. -/
  credits : Vector Nat 3 := Vector.replicate 3 0
  /-- Credits to be returned in the next CRD. -/
  returns : Vector Nat 3 := Vector.replicate 3 0
  staging : List StReq := []
  tags : List Nat := []
  egress : List Resp := []
  sigWait : List EvRec := []
  sigCred : Nat := 0
  /-- Writes not yet in the drain domain, and writes whose WRA has not left, by `ord` (R95). -/
  undrained : List Nat := []
  unacked : List Nat := []
  /-- `ord` of the last MARK or FENCE that arrived, and of the last MARK recorded (R96). -/
  lastBar : Nat := 0
  lastMark : Nat := 0
  /-- Staged requests discarded and queued ones performed without response by the reset under way (R101). -/
  discarded : Nat := 0
  noResp : Nat := 0
  /-- `PORT_RESET` in progress. -/
  resetting : Bool := false
  /-- First CCLK at which the next request may leave staging: one leaves per CCLK (R93). -/
  leaveAt : Nat := 0
deriving DecidableEq, Repr

/-- The link layer, PCTL and training of one port. Log entry 80. -/
structure LinkSt where
  rxSeq : Nat := 0
  txSeq : Nat := 0
  replay : List TxFlit := []
  /-- First failed copy of the awaited flit with its check lanes, and how many copies have failed (R63, R64). -/
  failedCopy : Option (Block × Word) := none
  failCount : Nat := 0
  nakPending : Bool := false
  ackPending : Bool := false
  /-- A NAK of the host waits for its resend: the sequence number asked for (R60). -/
  resendFrom : Option Nat := none
  /-- Lane attributions of the last 100 us: lane, CCLK (R65). -/
  laneErrs : List (Nat × Nat) := []
  /-- The scrambler registers s[22:0] of each direction: logical lanes 0 to 67, spares S0 to S3 at 68 to 71 (R50, R51). -/
  scrDn : Vector (BitVec 23) 72 := Vector.replicate 72 0
  scrUp : Vector (BitVec 23) 72 := Vector.replicate 72 0
  /-- The downstream repair that waits for REMAP_DONE: argument; the lanes waiting behind it; flits discarded since the
  declaration and not accepted again (R67, R68). -/
  repair : Option Nat := none
  repairQ : List Nat := []
  heldBack : Nat := 0
  /-- An upstream repair: zero payload is sent until NAK; the last flit to be resent is not acknowledged yet (R67, R68). -/
  muted : Bool := false
  upHeld : Option Nat := none
  pctl : Option PctlWait := none
  /-- The last PCTL_UP frame sent: command, argument; the 34-bit frames sent in CCLK `pctlAt`, oldest first; frames received
  with a wrong CRC-8 (R71). -/
  pctlUp : Option (Nat × Nat) := none
  pctlSent : List Nat := []
  pctlAt : Nat := 0
  pctlBad : Nat := 0
  trn : TrnStep := .idle
  /-- Argument of the TRN_DONE that waits for the release of the start (R442). -/
  trnDone : Option Nat := none
  /-- Fast training after PORT_RESET has ended; CCLK of the TRN_ACK. -/
  trained : Bool := false
  trnAt : Nat := 0
  /-- Pattern the upstream generators send in a training step: 0 PRBS-15, 1 programmable, 2 scrambled idle (R107, R108). -/
  gen : Option Nat := none
  /-- Upstream lane positions found bad: by LANE_BAD, by Transit, or as a spare a lane has left. -/
  upBad : List Nat := []
  /-- CCLKs of link checks failed, and of resends with their flits, in the last 1 ms (R101). -/
  errTimes : List Nat := []
  resendTimes : List (Nat × Nat) := []
  /-- The flits last sent, oldest first, and what each put on the lanes: UI u of lane position k at bit 72 u + k. -/
  lastSent : List TxFlit := []
  wire : List Nat := []
deriving DecidableEq, Repr

/-! ### Training and calibration (03) -/

/-- One calibrated receiver (R104, R118 to R121): the current position, the target, the eye. Lane positions of a port:
downstream 0 to 71; of a pseudo-channel 0 to 73 (read), 74 to 147 (write direction of lane - 74). Log entry 80. -/
structure Lane where
  delay : Nat := 0
  thresh : Nat := 32
  /-- Targets of the last measurement period; one beyond the range names a position off its end (R120). -/
  target : Int := 0
  threshTarget : Int := 32
  onesOff : Bool := false
  eyeW : Nat := 0
  eyeH : Nat := 0
  /-- The passing delay run: its length and its first tap. -/
  run : Nat := 0
  runLo : Nat := 0
  /-- The compare counter of the last dwell: 16 bits, saturating (R107). -/
  cmp : Nat := 0
  low : Nat := 0
  failed : Bool := false
  steps : Nat := 0
  stepAt : Nat := 0
  lastWasDelay : Bool := false
  /-- One full measurement period has passed since training or test ended (R122). -/
  measured : Bool := false
  /-- Where the measurement period began: CCLK, or received beats on a TSV lane (R118, R119). -/
  periodAt : Nat := 0
  overridden : Bool := false
  /-- The values before an override began to move the lane: these are stored (R128). -/
  auto : Option (Nat × Nat) := none
deriving DecidableEq, Repr

/-- One lane of a calibration record: delay, threshold, eye width and height of the last measurement period (R123).
Log entry 80. -/
structure CalLane where
  delay : Nat := 0
  thresh : Nat := 32
  eyeW : Nat := 0
  eyeH : Nat := 0
deriving DecidableEq, Repr

/-- One copy of a calibration record (R123): its generation of 32 bits, its lanes by position, its lane map, its check word.
Log entry 80. -/
structure CalCopy where
  gen : Word := 0
  lanes : SMap CalLane := []
  map : List (Option Nat) := []
  crc : Word := 0
deriving DecidableEq, Repr

structure CalRec where
  a : CalCopy := {}
  b : CalCopy := {}
  due : Bool := false
  mapDue : Bool := false
  rewrittenAt : Nat := 0
deriving DecidableEq, Repr

/-- Sextant (R104 to R132). Lanes are keyed 256 × region + position, regions 0 to 15 ports, 16 to 79 pseudo-channels, 80 the
crossing groups. -/
structure TrainSt where
  lanes : SMap Lane := []
  recs : Vector CalRec 81 := Vector.replicate 81 {}
  activity : Nat := 0
  lastFull : Bool := false
  untuned : Nat := 0
  /-- Records whose copies both failed at their last load. -/
  bad : List Nat := []
  /-- The crossing groups have been tuned or verified in this start. -/
  xingDone : Bool := false
  rewrites : Nat := 0
  qual : Word := 0
  qpos : Word := 0
  xingFatal : Bool := false
deriving DecidableEq, Repr

/-! ### Memory service, refresh, row guard, integrity, repair (04, 06, 07, 08) -/

/-- A request in a pseudo-channel queue (R139). -/
structure QEnt where
  id : Nat
  src : Src
  kind : ReqKind
  /-- 0 URGENT, 1 LATENCY, 2 BULK, 3 BACKGROUND. -/
  cls : Nat
  raised : Bool := false
  stream : Nat := 0
  tag : Nat := 0
  blk : Nat
  n : Nat
  data : List Block := []
  /-- Check symbols of each block's code word, as queued (R218). -/
  chk : List DWord := []
  mask : BitVec 64 := 0
  arrived : Nat
  /-- 0 URGENT reserve, 1 shared host, 2 internal. -/
  pool : Nat
  ord : Nat := 0
  /-- The entry's column command has been issued. -/
  issued : Bool := false
  /-- A WRM is merged; a write is in the drain domain. -/
  merged : Bool := false
  drained : Bool := false
  /-- The response is discarded by a per-port reset (R98). -/
  noResp : Bool := false
  /-- Derived write or claim fill: blocks covered (bit j: block j). -/
  cover : Nat := 15
  /-- The write waits for a line or for the dirty cap: R170, R176. -/
  lineWait : Bool := false
  /-- An ACT was issued for this request. -/
  acted : Bool := false
  /-- The Lagoon's write policy and dirty cap, in lines, when the entry was taken (R178). -/
  thru : Bool := false
  cap : Nat := 0
deriving DecidableEq, Repr

/-- A DRAM bank (R148): open row and the CCLKs its timing counts from. -/
structure Bank where
  row : Option Nat := none
  actAt : Nat := 0
  preAt : Nat := 0
  rdAt : Nat := 0
  wrEnd : Nat := 0
  refAt : Nat := 0
  debt : Nat := 0
  /-- Row of an accepted capture whose copy is under way. -/
  capture : Option Nat := none
  /-- Rows waiting for a targeted refresh. -/
  trig : List Nat := []
  /-- Row whose soft-repair copy is under way. -/
  repair : Option Nat := none
deriving DecidableEq, Repr

/-- An activation tracker entry (R195). -/
structure TrkEnt where
  bank : Nat
  row : Nat
  est : Nat
deriving DecidableEq, Repr

/-- An URGENT request counted under R150; `until` is set when its WRA leaves. -/
structure UrgOut where
  id : Nat
  port : Nat
  bank : Nat
  stream : Nat := 0
  til : Option Nat := none
deriving DecidableEq, Repr

/-- A bank notice (R152): its request, its bank, the CCLK in which it reaches the controller. -/
structure Notice where
  id : Nat
  bank : Nat
  at_ : Nat
deriving DecidableEq, Repr

/-- A capture offer due: the row, the requester whose ACT made it due, whether that ACT was URGENT, its CCLK (R197, R202). -/
structure Offer where
  bank : Nat
  row : Nat
  req : Option Nat
  urgent : Bool
  at_ : Nat
deriving DecidableEq, Repr

/-- A write derived from a read and not yet in a queue (R224). -/
structure Derived where
  blk : Nat
  readId : Nat
  data : Block
  poison : Bool
  finder : Nat
  /-- Corrective write-back of R245. -/
  corrective : Bool := false
deriving DecidableEq, Repr

/-- Why a pseudo-channel is not in service. -/
inductive PcMode where
  | online
  | offline
  | retrain
  | tsvSwitch
  | selfRefresh
deriving DecidableEq, Repr

/-- A walker of the scrubber (R237, R240): next unit, units done in the lap, the unit outstanding. -/
structure Walker where
  pos : Nat := 0
  outstanding : Option Nat := none
  issuedAt : Nat := 0
  behindRaised : Bool := false
  /-- It was more than 1% behind, and is not on schedule again yet (R240). -/
  catchUp : Bool := false
  inLap : Bool := true
  /-- Range pointers (R241). -/
  rpos : Vector Nat 8 := Vector.replicate 8 0
  rIssued : Vector Nat 8 := Vector.replicate 8 0
deriving DecidableEq, Repr

/-- One pseudo-channel controller. Log entry 80. -/
structure PcSt where
  mode : PcMode := .selfRefresh
  queue : List QEnt := []
  banks : Vector Bank 32 := Vector.replicate 32 {}
  streak : Nat := 0
  /-- CCLKs of the last four ACTs, newest first (tRRD, tFAW). -/
  acts : List Nat := []
  rdBeat : Nat := 0
  wrBeat : Nat := 0
  /-- Bank notices under way and pending (R152). -/
  notices : List Notice := []
  /-- The last request to enter the queue: CCLK, its source's place in the order of one CCLK (R94, R140). -/
  lastEnter : Nat × Nat := (0, 0)
  lapsed : Bool := false
  cause : Nat := 0
  breachAt : Nat := 0
  urgOut : List UrgOut := []
  /-- Bytes of URGENT headers in the last 1 us: CCLK, bytes. -/
  urgBytes : List (Nat × Nat) := []
  derived : List Derived := []
  tracker : List TrkEnt := []
  /-- The tracker window the estimates belong to (R195). -/
  trkWin : Nat := 0
  /-- Capture offers due. -/
  offers : List Offer := []
  /-- Refresh (R189 to R194): the slot's place in the order, the double rate selected and in force in this slot, the CCLK in
  which the slot began, and whether its own command has been given. -/
  refPos : Nat := 0
  order : List Nat := List.range 32
  rate2x : Bool := true
  slot2x : Bool := false
  slotAt : Nat := 0
  slotDone : Bool := false
  /-- First CCLK of a command after self-refresh (tXS, R148). -/
  readyAt : Nat := 0
  walker : Walker := {}
  /-- The TSV lanes have been trained since the start, or since training was lost; the outcome of a retraining (R110, R117). -/
  trained : Bool := false
  retrained : Option Bool := none
  /-- Beats received on each TSV lane since the start (R119), the 8-beat latches of the idle spares, and the 8 beats of each
  lane in the last burst, data and check lanes first (R106). -/
  beats : Nat := 0
  latch : Vector Byte 2 := Vector.replicate 2 0
  burst : List Byte := []
  /-- Corrections per TSV lane: lane, CCLK (R117, R266). -/
  laneCorr : List (Nat × Nat) := []
  /-- TSV lanes declared failed, and the lane each spare carries (R266 to R268). -/
  failedLanes : List Nat := []
  spares : Vector (Option Nat) 2 := Vector.replicate 2 none
  switching : Option (Nat × Nat) := none
deriving DecidableEq, Repr

/-- A Lagoon line (R164): its place (way 16: merge reserve), its 256-byte unit, its four code words. -/
structure Line where
  way : Nat
  unit : Nat
  data : Vector Block 4 := Vector.replicate 4 0
  chk : Vector DWord 4 := Vector.replicate 4 0
  valid : Nat := 0
  dirty : Nat := 0
  captured : Bool := false
  usedAt : Nat := 0
  wroteAt : Nat := 0
  /-- Blocks being written back, and those written again meanwhile (R175); the CCLK in which they were drawn and their rank,
  4 for URGENT; the ACT and the column commands of the write-back have been issued. -/
  wb : Nat := 0
  again : Nat := 0
  wbAt : Nat := 0
  lvl : Nat := 0
  acted : Bool := false
  issued : Bool := false
  /-- A write-back is to be drawn; the blocks to be written through at URGENT priority (R169); it ranks as urgency level 3
  (R170, R173, R179). -/
  due : Bool := false
  urg : Nat := 0
  raised : Bool := false
  /-- The row of the line is being released (R173). -/
  rel : Bool := false
deriving DecidableEq, Repr

/-- The Lagoon (R163 to R188). -/
structure LagoonSt where
  lines : List Line := []
  failed : Nat := 0
  degrade : Nat := 0
  recovering : Option Nat := none
  /-- A second failed way waiting for its own recovery, with its cause. -/
  nextWay : Option (Nat × Nat) := none
  cause : Nat := 0
  written : Nat := 0
  flushing : Bool := false
  /-- Accesses of each captured row: key 2^27 × window + 2^21 × pc + 2^16 × bank + row. -/
  rowAcc : SMap Nat := []
  waited : Nat := 0
  /-- Words corrected by SEC-DED in the last 1 ms: way, CCLK (R179). -/
  corr : List (Nat × Nat) := []
deriving DecidableEq, Repr

/-- A repeat table entry (R244). -/
structure RepEnt where
  blk : Nat
  count : Nat
  writtenBack : Bool
  lap : Nat
  syms : List Nat
deriving DecidableEq, Repr

/-- A soft repair (R260): the spare is 32 + `spare`. -/
structure SoftRep where
  pc : Nat
  bank : Nat
  row : Nat
  spare : Nat
deriving DecidableEq, Repr

/-- A claim of an unwritten page (R233): bit i of `done` is block i of the page filled or written. -/
structure Claim where
  page : Nat
  done : BitVec 64
deriving DecidableEq, Repr

/-- DRAM contents and the tables kept about them (R212 to R252, R253 to R271). -/
structure DramSt where
  /-- Data bytes by host byte address; a byte not listed reads as 0. -/
  mem : List Host.Cell := []
  /-- Check symbols: key 8 × block + i; not listed reads as 0. -/
  chk : SMap Byte := []
  /-- Blocks written since the last wipe, rising; `all` after TideFill. -/
  written : List Nat := []
  all : Bool := false
  /-- Row ranges a march has left, newest first: all blocks zero code words (true) or contents lost (false); pseudo-channel,
  first row, last row (R480, R484). -/
  marched : List (Bool × Nat × Nat × Nat) := []
  /-- The id of the last write to a block that entered its queue (R224). -/
  lastWrite : SMap Nat := []
  /-- The address map order in force (R136). -/
  mapActive : Nat := 2
  fresh : List Nat := []
  freshAll : Bool := false
  freshActive : Bool := false
  tidefillRan : Bool := false
  claims : List Claim := []
  /-- The poison list by entry index: block and finder. -/
  poison : Vector (Option (Nat × Nat)) 512 := Vector.replicate 512 none
  listFull : Bool := false
  /-- The last poisoning to enter a queue: its CCLK, its place among those of one CCLK (R247). -/
  lastPoison : Nat × Nat := (0, 0)
  repeats : List RepEnt := []
  soft : Vector (Option SoftRep) 256 := Vector.replicate 256 none
  /-- Row and column fuse entries in force since this start (R259). -/
  fuseRows : List SoftRep := []
  /-- Die-level repairs the DRAM dies have reported at this start (R198): pseudo-channel, bank, row, spare row 0 to 31. -/
  dieRows : List (Nat × Nat × Nat × Nat) := []
  /-- Column entries in force, bits [18:0] of their words (R256). -/
  fuseCols : List Nat := []
  /-- TSV entries to be programmed into REPAIR_FIELD at the next permitted moment: pseudo-channel, lane, spare (R267). -/
  tsvPending : List (Nat × Nat × Nat) := []
  /-- Soft-repair candidates waiting: pseudo-channel, bank, row. -/
  candidates : List (Nat × Nat × Nat) := []
  /-- Keystream shares lost: DRAM unreadable (R439, R449). -/
  keyLost : Bool := false
deriving DecidableEq, Repr

/-- The scrubber's laps (R235 to R243). -/
structure ScrubSt where
  held : Bool := true
  lap : Nat := 0
  lapStart : Nat := 0
  verify : Bool := false
  verifyDue : Bool := false
  lapTime : Nat := 0
  tidefill : Bool := false
deriving DecidableEq, Repr

/-- A host requester's throttle (R202 to R205). -/
structure Thr where
  /-- Spill counts by sub-window, numbered from the first window of all, and whether an URGENT ACT was one of them. -/
  spills : List (Nat × Nat × Bool) := []
  /-- The sub-window of the last step, and the pseudo-channel of the last spill. -/
  stepped : Option Nat := none
  lastPc : Nat := 0
  step : Nat := 0
  urg : Bool := false
  /-- Pseudo-channels on which the capped URGENT requests hold the guarantee lapsed (R205). -/
  pcs : List Nat := []
  base : Nat := 0
  bucket : Nat := 0
  filledAt : Nat := 0
  /-- Releases of the last 10 us: CCLK, bytes. -/
  rel : List (Nat × Nat) := []
deriving DecidableEq, Repr

/-- Row guard's stack-wide part. -/
structure GuardSt where
  thr : SMap Thr := []
  /-- The window whose end has not been taken yet: its first CCLK and its number (R195). -/
  windowAt : Nat := 0
  winNo : Nat := 0
  /-- A refused refresh order has been reported since the last ORDER write (R209). -/
  orderRefused : Bool := false
deriving DecidableEq, Repr

/-! ### Epochs and Tidemark (09) -/

/-- One epoch bitmap (R281, R282): granule g is bit g. -/
structure EpMap where
  epoch : Nat
  bits : Nat := 0
  forced : Bool := false
deriving DecidableEq, Repr

/-- A trigger action waiting for the Keeper, or an export under way (R290). -/
structure Deferred where
  trig : Nat
  epoch : Nat
  action : Nat
  src : Bool
  arg : Nat
deriving DecidableEq, Repr

/-- Epochs, Tidemark and triggers (R272 to R294). -/
structure EpochSt where
  portset : BitVec 18 := 0x1FFFF#18
  pendingSet : Option (BitVec 18) := none
  /-- Current epoch of each member. -/
  cur : Vector Nat 18 := Vector.replicate 18 0
  /-- Newest open epoch, and whether two are open. -/
  newest : Nat := 0
  two : Bool := false
  started : Bool := false
  init : Nat := 0
  cum : Nat := 0
  /-- Granules of the cumulative map set for a loss and not cleared since (R284). -/
  cumForced : Nat := 0
  maps : List EpMap := [{ epoch := 0 }]
  /-- A boundary of ENGINE or MIRROR held under R275: value and since when. -/
  engHeld : Option (Nat × Nat) := none
  mirHeld : Option (Nat × Nat) := none
  engStalled : Bool := false
  mirStalled : Bool := false
  deferred : List Deferred := []
  /-- TRIG[i].CTL.FIRED and STALE. -/
  fired : BitVec 16 := 0
  stale : BitVec 16 := 0
  /-- CCLK in which each trigger was last armed, plus one (R291). -/
  armedAt : Vector Nat 16 := Vector.replicate 16 0
deriving DecidableEq, Repr

/-! ### Registers (20) -/

/-- A dual write waiting for its complement (R542). -/
structure Dual where
  path : Nat
  addr : Nat
  value : Word
  at_ : Nat
deriving DecidableEq, Repr

/-- The register file's own state (R532 to R550). `csr` holds the stored bits of every register, by address, each as
the difference (XOR) from its reset value in `Sys2Proof.Machine.regMap`: an address not listed holds its reset value. -/
structure RegSt where
  csr : SMap Word := []
  /-- `csr` as it stood before the first write of this CCLK: settings in force until the next CCLK (R147, R178, R206). -/
  csr0 : Option (SMap Word) := none
  /-- The low word each path holds (R540): path to address and value; the latched high word of its last access. -/
  held : Vector (Option (Nat × Word)) 18 := Vector.replicate 18 none
  latch : Vector (Option (Nat × Word)) 18 := Vector.replicate 18 none
  /-- Dual writes pending: of a port or the management port, and of the Keeper, whose writes interrupt no other. -/
  dual : Option Dual := none
  dualK : Option Dual := none
  /-- `GLOBAL.REGSTAT.WLOST`. -/
  wlost : BitVec 16 := 0
  /-- Fields hardware changed in this CCLK: address and mask (R547). -/
  hwField : List (Nat × Nat) := []
  /-- Counter increments of this CCLK: address and amount. -/
  hwCount : List (Nat × Nat) := []
  /-- Triplicated copies that differ from the stored word: address to the three copies (R544). -/
  copies : SMap (Option (Word × Word × Word)) := []
  /-- Management port page pointer and offset (R546), and until when it is busy. -/
  page : Nat := 0
  off : Nat := 0
  mgmtBusy : Nat := 0
  /-- The management port's last read data. -/
  mgmtOut : List Byte := []
  /-- What the last read of a register returned, and whether the management port's last transaction was refused with NACK. -/
  lastRead : DWord := 0
  lastNak : Bool := false
deriving DecidableEq, Repr

/-- The Keeper and the stack's service state (R25 to R30, R39). -/
inductive KeeperMode where
  | off | running | restarting
deriving DecidableEq, Repr

structure StackSt where
  ready : Bool := false
  keeper : KeeperMode := .off
  restarts : Nat := 0
deriving DecidableEq, Repr

/-- Transit (R477 to R493). -/
structure TransitSt where
  /-- Spare lanes under analogue test (R126): port or 16 + pseudo-channel, direction, spare. -/
  spareTest : List (Nat × Nat × Nat) := []
  /-- The Lagoon way out of service for test (R182). -/
  wayTest : Option Nat := none
  /-- A run is in progress; it is the QUICK run of a start; its descriptor otherwise: ring, index. -/
  running : Bool := false
  quick : Bool := false
  desc : Option (Nat × Nat) := none
  /-- Tests of the run after skipping, as bits of R477, and those skipped; the test shown in `TRANSIT.STAT.TEST`. -/
  tests : Nat := 0
  skipped : Nat := 0
  test : Nat := 0
  algo : Nat := 1
  done : Bool := false
  verdict : Nat := 0
  abortCause : Nat := 0
  ovf : Bool := false
  fails : Nat := 0
  cycles : Nat := 0
  expect : Nat := 0
  sig : Nat := 0
  sigexp : Nat := 0
  /-- The fail log: FLOG_LO and FLOG_HI of each entry. -/
  log : List (Nat × Nat) := []
  /-- Pseudo-channels under march and their rows, first and last. -/
  pcs : List Nat := []
  rowLo : Nat := 0
  rowHi : Nat := 49151
  /-- CCLK counted in the last window. -/
  window : Nat := 0
deriving DecidableEq, Repr

/-- The IEEE 1149.1 port (R489, R490): the instruction in force, what its data register has captured, the boundary register,
and whether EXTEST drives the bumps. Log entry 56. -/
structure JtagSt where
  ir : Nat := 0xFF
  dr : Nat := 0
  boundary : List Bool := []
  driven : Bool := false
deriving DecidableEq, Repr

/-- A write-intent entry (R422). -/
structure WiEnt where
  bank : Nat
  row : Nat
  mask : Nat
deriving DecidableEq, Repr

/-- The seal (R420); STATE 0 EMPTY, 1 TORN, 2 CLEAN, 3 INVALID. -/
structure Seal where
  state : Nat := 0
  cause : Nat := 0
  rails : Nat := 0
  memState : Nat := 0
  nextSsn : Nat := 0
  starts : Nat := 0
  drainNs : Nat := 0
  epochOpen : Nat := 0
  dirty : Nat := 0
  stamp : Nat := 0
deriving DecidableEq, Repr

/-- Where the stack stands between power-up and power loss (R423, R435, R444, R446). -/
inductive Phase where
  /-- Unpowered, before power good. -/
  | off
  /-- A start is under way. -/
  | starting
  /-- READY has been set. -/
  | service
  /-- Power-fail retention. -/
  | lowWater
  /-- Logic reset holds, with the kind of R435: 1 PRST_N, 2 HRST_N. -/
  | held (kind : Nat)
  /-- A start has halted (R444). -/
  | halted
deriving DecidableEq, Repr

/-- Power and Low Water (14). -/
structure PowerSt where
  phase : Phase := .off
  /-- The write-intent ring; pseudo-channel n owns entries 4n to 4n + 3. -/
  ring : Vector (Option WiEnt) 256 := Vector.replicate 256 none
  /-- Power-fail detection has come and the stack has not resumed. -/
  failing : Bool := false
  /-- `POWER.STAT.STATE`: 0 FLOOD, 1 NEAP, 2 EBB, 3 SLACK; the state being entered; an exit under way; the last wake cause. -/
  low : Nat := 0
  target : Option Nat := none
  exiting : Bool := false
  lastWake : Nat := 0
  /-- CCLK from which the idle time is counted, of the last change of state, and of the wake cause of the exit under way. -/
  idleAt : Option Nat := none
  lowAt : Nat := 0
  wakeAt : Nat := 0
  /-- The deepest state entered or being entered when the wake cause came. -/
  wakeFrom : Nat := 0
  /-- Residency in CCLK not yet counted as a millisecond: NEAP, EBB, SLACK. -/
  resid : Vector Nat 3 := Vector.replicate 3 0
  /-- Awake for a scrubber walker alone (R411). -/
  scrubWake : Bool := false
  /-- Power-fail detection is armed (R448). -/
  armed : Bool := true
  /-- The Lantern: its seal and its progress record (next SSN, unflushed count, drain step); lost with VLAN. -/
  lwSeal : Seal := {}
  lantern : Bool := true
  progress : Option (Nat × Nat × Nat) := none
  /-- The drain reached this step before its power was lost (7: whole). -/
  drained : Nat := 7
  /-- VDD_CORE has left tolerance since the drain. -/
  coreLost : Bool := true
  /-- The LWSTAT pin: 0 SERVICE, 1 RETAIN, 2 RELEASE. -/
  lwstat : Nat := 0
  /-- `LOWWATER`: seal check, last cause, last drain in ns, unflushed count, resume time, entries found: index, entry, poisoned. -/
  sealCheck : Nat := 0
  lastCause : Nat := 3
  lastDrain : Nat := 0
  unflushed : Nat := 0
  resumeMs : Nat := 0
  wiFound : List (Nat × WiEnt × Bool) := []
deriving DecidableEq, Repr

/-- The start sequence and the resets (15). -/
structure StartSt where
  /-- `RESET.STAT`: kind, wiped, key lost, QUICK failed, time to READY. -/
  kind : Nat := 0
  wiped : Bool := false
  keyLost : Bool := false
  quickFail : Bool := false
  startMs : Nat := 0
  hrstLost : Nat := 0
  /-- Step of R441 reached. -/
  step : Nat := 0
  /-- Generation of the wipe key; its copies hold. -/
  keyGen : Nat := 0
  keyOk : Bool := true
  /-- LIFECYCLE state recorded in MRAM at the last start; none before the first. -/
  lcSeen : Option Nat := none
  /-- ADDR[2:0] as sampled; a REFCLK loss has been declared since the start. -/
  strap : Nat := 0
  refclkLost : Bool := false
  /-- CCLK at which logic reset may be released, and at which power-fail detection is armed. -/
  holdTil : Nat := 0
  armAt : Option Nat := none
  /-- CCLK in which this start began: the DRAM is in self-refresh from then on, for 32 ms at least (R201). -/
  begunAt : Nat := 0
deriving DecidableEq, Repr

/-- A channel of the Watch (R455, R469, R475). -/
structure Chan where
  value : Nat := 0
  raw : Nat := 0
  /-- Readings in a row with this raw count; readings in a row off the median. -/
  same : Nat := 0
  off : Nat := 0
  cause : Nat := 0
  seen : Bool := false
deriving DecidableEq, Repr

/-- A die (R459, R461): level 0 NORMAL to 3 SHUTDOWN, throttle step, R470. Log entry 31. -/
structure DieSt where
  level : Nat := 0
  step : Nat := 0
  allBroken : Bool := false
deriving DecidableEq, Repr

/-- The Watch and the thermal manager (16). Dies 0 to 15 DRAM, 16 Lagoon, 17 base. -/
structure ThermSt where
  next : Nat := 0
  lastAt : Option Nat := none
  chans : Vector Chan 128 := Vector.replicate 128 {}
  dies : Vector DieSt 18 := Vector.replicate 18 {}
  shut : Bool := false
  shutAt : Nat := 0
  armed : Bool := false
  crit : Bool := false
  mismatch : Nat := 0
  inferOk : Bool := false
  tInf : Int := 0
  lgInfer : Bool := false
  /-- A full round has ended, the last with no die at SHUTDOWN (R467). -/
  coolRound : Bool := false
  /-- CCLK of the last reading and CCLK at a throttle step not yet counted as a millisecond. -/
  stepAcc : Nat := 0
  /-- Token buckets of R463: key 4 × pseudo-channel + class; bytes short of full, and CCLK. -/
  buckets : SMap (Nat × Nat) := []
  /-- Non-URGENT accesses of a Lagoon way in the last 1 us: way, CCLK (R464). -/
  lagAcc : List (Nat × Nat) := []
deriving DecidableEq, Repr

/-! ### Chrosy link and mirroring (12, 13) -/

/-- `CHROSY.STAT.STATE` (R373). -/
inductive ChrState where
  | down | seek | align | up | degrade
deriving DecidableEq, Repr

/-- A data frame (R362): its virtual channel, its payload, its FSN once sent; `head` names the window and WSEQ of the message
whose header it is. -/
structure ChrFrame where
  fsn : Nat := 0
  vc : Nat
  payload : BitVec 256
  head : Option (Nat × Nat) := none
deriving DecidableEq, Repr

/-- Line coding of one transmit lane (R357, R358): the last 58 scrambled bits, the run under way, the debt. Log entry 80. -/
structure ChrLaneTx where
  scr : Nat := 0
  last : Bool := false
  run : Nat := 0
  debt : Nat := 0
deriving DecidableEq, Repr

/-- One receive lane (R375, R381). Log entry 80. -/
structure ChrLane where
  eye : Nat := 0
  ber : Nat := 0
  ctle : Nat := 0
  ctleAt : Nat := 0
  taps : List Int := List.replicate 12 0
  locked : Bool := false
  failed : Bool := false
deriving DecidableEq, Repr

/-- The Chrosy link of this end (R355 to R382). Widths are numbers of lanes; pairs dropped are bit masks. -/
structure ChrosySt where
  st : ChrState := .down
  txW : Nat := 0
  rxW : Nat := 0
  rxDropped : Nat := 0
  txDropped : Nat := 0
  hb : Nat := 0
  hbAt : Option Nat := none
  downReason : Nat := 0
  credits : Vector Nat 2 := Vector.replicate 2 0
  replay : List ChrFrame := []
  nextFsn : Nat := 0
  /-- A resend is due from this FSN on. -/
  resend : Option Nat := none
  /-- Frames of messages already taken from the send queues. -/
  txq : Vector (List ChrFrame) 2 := Vector.replicate 2 []
  /-- FSN of the next frame to accept; frames are being discarded since one failed (R367). -/
  rxNext : Nat := 0
  discarding : Bool := false
  ackDue : Bool := false
  nakDue : Bool := false
  /-- The receive buffers, oldest first, and the frames freed whose credits are to be returned (R368). -/
  rxq : Vector (List (BitVec 256)) 2 := Vector.replicate 2 []
  freed : Vector Nat 2 := Vector.replicate 2 0
  /-- Link commands to be sent: command, argument. -/
  cmds : List (Nat × Nat) := []
  rcvOk : Bool := false
  rcvUp : Bool := false
  seekAt : Nat := 0
  attempts : Nat := 0
  lastBlock : Nat := 0
  /-- CCLK of the last acknowledgement of a frame, or of the first frame since none was unacknowledged (R377). -/
  progressAt : Nat := 0
  /-- A degradation of the receive direction: pair, CCLK and count of DEGRADE; answered by ALIGN_NEXT; aligned since (R376). -/
  degr : Option (Nat × Nat × Nat) := none
  degrAnswered : Bool := false
  degrAligned : Bool := false
  degrQ : List Nat := []
  /-- A degradation of the transmit direction: the pair. -/
  txDegr : Option Nat := none
  /-- The next block carries markers: sent, received (R363, R372). -/
  txMarker : Bool := false
  rxMarker : Bool := false
  /-- Blocks started since bring-up began, since the last idle slot and since the last heartbeat; CCLK of the last block. -/
  blocks : Nat := 0
  sinceIdle : Nat := 0
  sinceHb : Nat := 0
  startAt : Nat := 0
  /-- The control block last sent: bytes, K symbols first of each slot as R361 lays them out. -/
  ctl : List Nat := []
  lanes : Vector ChrLane 9 := Vector.replicate 9 {}
  tx : Vector ChrLaneTx 8 := Vector.replicate 8 {}
  /-- QUAL and QTAP as latched (R381). -/
  qual : Vector Word 4 := Vector.replicate 4 0
  /-- Frames resent and invalid blocks of the LINK_RETRY period (R382). -/
  resentMs : Nat := 0
  invalidMs : Nat := 0
deriving DecidableEq, Repr

/-- A mirror message (R386): its header frame and its blocks. -/
structure Msg where
  hdr : BitVec 256
  blocks : List Block := []
  /-- Frames of the receive buffer it still occupies (R389). -/
  frames : Nat := 0
  /-- The 64-byte blocks of the backlog it lies in, its header first (R397). -/
  cellsAt : List Nat := []
deriving DecidableEq, Repr

/-- `MIRROR.WIN[w].STAT.STATE` (R385). -/
inductive WinMode where
  | off | inSync | diverged | resync
deriving DecidableEq, Repr

/-- A window's sending state. -/
structure WinSt where
  st : WinMode := .off
  reason : Nat := 0
  next : Nat := 0
  acked : Nat := 0
deriving DecidableEq, Repr

/-- A numbered message without ACK: `sync` marks a SYNC write, `resync` a RESYNC_DATA; CCLK its header left, if it has. -/
structure MirOut where
  win : Nat
  wseq : Nat
  sync : Bool
  resync : Bool
  sentAt : Option Nat := none
deriving DecidableEq, Repr

/-- A SYNC write in the drain domain that waits for its ACK (R392). -/
structure SyncWait where
  win : Nat
  wseq : Nat
  port : Port
  resp : Resp
  /-- The response is discarded by a per-port reset (R98). -/
  gone : Bool := false
deriving DecidableEq, Repr

/-- A PULL_REQ in flight (R402): tag, first block, blocks, those not answered yet, the order at which it was formed. -/
structure PullReq where
  tag : Nat
  blk : Nat
  left : Nat
  formed : Nat
deriving DecidableEq, Repr

/-- A MIRROR_PULL under way: its descriptor, the units still to ask for. -/
structure PullJob where
  ring : Nat
  idx : Nat
  win : Nat
  next : Nat
  stop : Nat
  reqs : List PullReq := []
  restored : Nat := 0
  missing : Nat := 0
deriving DecidableEq, Repr

/-- A MIRROR_RESYNC under way (R400): its descriptor, the windows left, the unit next read in the first of them.
Log entry 42. -/
structure ResyncJob where
  ring : Nat
  idx : Nat
  all : Bool
  wins : List Nat
  unit : Nat := 0
  stop : Nat := 0
  granules : Nat := 0
  notSent : Nat := 0
  /-- Windows whose copy is complete and not yet acknowledged. -/
  copied : List Nat := []
  failed : Bool := false
deriving DecidableEq, Repr

/-- Mirroring (R383 to R406). Queues are indexed by virtual channel. -/
structure MirrorSt where
  wins : Vector WinSt 64 := Vector.replicate 64 {}
  q : Vector (List Msg) 2 := Vector.replicate 2 []
  backlog : List Msg := []
  outs : List MirOut := []
  waits : List SyncWait := []
  /-- Messages received and not yet taken by apply. -/
  apply : Vector (List Msg) 2 := Vector.replicate 2 []
  /-- Acknowledgements and barrier answers to be sent: window, WSEQ. -/
  acks : List (Nat × Nat) := []
  backs : List (Nat × Nat) := []
  /-- Window settings that wait for the Keeper: window, value written. -/
  waitSet : List (Nat × Nat) := []
  pullTag : Nat := 0
  pull : Option PullJob := none
  resync : Option ResyncJob := none
deriving DecidableEq, Repr

/-! ### Fuses and firmware (18, 19) -/

/-- The readings of a fuse word at the normal, tight and loose references (R498). -/
structure FuseWord where
  normal : Word := 0
  tight : Word := 0
  loose : Word := 0
deriving DecidableEq, Repr

/-- A group's status (R511): validity 0 BLANK, 1 VALID, 2 MARGINAL_RECOVERED, 3 INVALID. -/
structure GroupSt where
  validity : Nat := 0
  locked : Bool := false
  lockedInvalid : Bool := false
  marginal : Nat := 0
  drift : Bool := false
deriving DecidableEq, Repr

/-- A fuse operation requested or running (R503). -/
structure FuseOp where
  op : Nat
  group : Nat
  word : Nat
  data : Word
  started : Bool := false
deriving DecidableEq, Repr

/-- The fuse array and its controller (R494 to R511). Log entry 15. -/
structure FuseSt where
  /-- The array as it reads now, and as latched at power-up. -/
  arr : SMap FuseWord := []
  latched : SMap FuseWord := []
  groups : Vector GroupSt 8 := Vector.replicate 8 {}
  lc : Nat := 0
  inconsistent : Bool := false
  op : Option FuseOp := none
  result : Nat := 0
  pulses : Nat := 0
  /-- An LC_ADVANCE has been accepted since power-up (R502). -/
  advanced : Bool := false
  /-- Words reported by FUSE_DRIFT since power-up. -/
  drifted : List Nat := []
  resenseAt : Nat := 0
  /-- `FUSE.RDATA`: its value, and the CCLK from which it reads. -/
  rdata : Word := 0
  rdataAt : Nat := 0
deriving DecidableEq, Repr

/-- A firmware slot (R513): its header, its state as an idle slot (0 EMPTY, 1 STAGING, 2 STAGED, 3 PREVIOUS), the image bytes
taken, the body taken so far, newest block first; `ok` marks a whole image whose hash passed. -/
structure FwSlot where
  hdr : Option ImageHeader := none
  st : Nat := 0
  got : Nat := 0
  body : List Block := []
  ok : Bool := false
deriving DecidableEq, Repr

/-- A settings record (R525): its format and the stored words by CSR address. Log entry 80. -/
structure SetRec where
  fmt : Nat := 0
  vals : SMap Word := []
  /-- Generation numbers of its lower and its other copy (R513). -/
  gens : Vector Word 2 := Vector.replicate 2 0
deriving DecidableEq, Repr

/-- Firmware, the update lease and settings (R513 to R530). Log entries 15, 80. -/
structure FwSt where
  slots : Vector (Vector FwSlot 2) 3 := Vector.replicate 3 #v[{ ok := true }, {}]
  active : Vector Nat 3 := Vector.replicate 3 0
  /-- Generation numbers of the boot record's lower and other copy (R513). -/
  bootGens : Vector Word 2 := Vector.replicate 2 0
  /-- Lease: 0 none, 1 host, 2 management port. -/
  holder : Nat := 0
  activated : Nat := 0
  cleanBoots : Nat := 0
  wdog : Nat := 0
  rbPending : Bool := false
  leaseAt : Nat := 0
  floors : Vector Nat 3 := Vector.replicate 3 0
  areas : Vector SetRec 2 := Vector.replicate 2 {}
  area : Nat := 0
  oldArea : Option Nat := none
  defaulted : Bool := false
  /-- Settings-backed addresses written and not yet stored. -/
  unsaved : List Nat := []
  mResult : Nat := 0
  /-- The image each source is staging (host, management port): component and next offset; header blocks taken before the
  header is whole, oldest first. -/
  staging : Vector (Option (Nat × Nat)) 2 := Vector.replicate 2 none
  hdrBuf : Vector (List Block) 2 := Vector.replicate 2 []
  /-- Components staged in the lease, bit c. -/
  staged : Nat := 0
  /-- A management command that waits for the Keeper or for Sextant, and the self-check of what it activates; a Keeper
  activation under way: source, descriptor, its self-check failed. -/
  mPend : Option (Nat × Bool) := none
  actPend : Option (Nat × Option (Nat × Nat) × Bool) := none
  mAccepted : Nat := 0
  /-- CCLK of the Keeper's last start, and whether its clean boot has been counted. -/
  bootAt : Nat := 0
  bootCounted : Bool := false
  /-- CCLK of the last try of a pending fuse advance. -/
  rbTriedAt : Nat := 0
  /-- The kind of the Keeper restart under way (3 to 5), and when it began. -/
  restart : Option (Nat × Nat) := none
deriving DecidableEq, Repr

/-! ### Wetex (10) -/

/-- A fetched descriptor (R301, R318): its SQ slot, its block; `bad` where the block could not be read (R320); its place in the
dispatch order and ENGINE's epoch at its dispatch (R316); its STATUS, RESULT and DETAIL when it has ended; the SYNC writes its
record waits for (R311): window, WSEQ; `running` where its end comes with other commands. -/
structure WxDesc where
  idx : Nat
  desc : Block
  bad : Bool := false
  disp : Option Nat := none
  tag : Option Nat := none
  fin : Option (Nat × Nat × Nat) := none
  waits : List (Nat × Nat) := []
  mfail : Bool := false
  running : Bool := false
deriving DecidableEq, Repr

/-- `WETEX.RING[r].STAT.STATE` (R297). -/
inductive WxMode where
  | disabled | active | draining | stopped
deriving DecidableEq, Repr

/-- A ring pair: indices modulo the ring sizes, records written and not yet freed, active descriptors in SQ order, the record
last written to an even slot (R304). -/
structure WxRing where
  st : WxMode := .disabled
  sqHead : Nat := 0
  sqTail : Nat := 0
  cqHead : Nat := 0
  cqTail : Nat := 0
  phase : Bool := false
  unfreed : Nat := 0
  stop : Nat := 0
  act : List WxDesc := []
  last : BitVec 256 := 0
deriving DecidableEq, Repr

/-- The engine: rings, the pair last served by dispatch, the next place in the dispatch order, bytes of requests since cold
start. Log entry 80. -/
structure WetexSt where
  rings : Vector WxRing 64 := Vector.replicate 64 {}
  rr : Nat := 63
  order : Nat := 0
  bytes : Nat := 0
  /-- R319: the CCLK of the last engine request and how many it holds; from when each pseudo-channel may take the next. -/
  paceAt : Nat := 0
  paceNo : Nat := 0
  pcPace : Vector Nat 64 := Vector.replicate 64 0
deriving DecidableEq, Repr

/-- The whole stack. -/
structure State where
  /-- The CCLK count: the model's own clock (log entry 1). -/
  now : Nat := 0
  /-- Next free value's index (the model's own, log entry 2). -/
  free : Nat := 0
  /-- Next request id and place in the order of arrival. -/
  nextId : Nat := 1
  /-- Commands that wait, first in first out. -/
  pending : List Instr := []
  regs : RegSt := {}
  seq : SeqSt := {}
  jrn : JrnSt := {}
  evt : EvtSt := {}
  ports : Vector PortSt 16 := Vector.replicate 16 {}
  links : Vector LinkSt 16 := Vector.replicate 16 {}
  train : TrainSt := {}
  pcs : Vector PcSt 64 := Vector.replicate 64 {}
  dram : DramSt := {}
  scrub : ScrubSt := {}
  guard : GuardSt := {}
  lagoon : LagoonSt := {}
  epochs : EpochSt := {}
  stack : StackSt := {}
  transit : TransitSt := {}
  jtag : JtagSt := {}
  power : PowerSt := {}
  start : StartSt := {}
  therm : ThermSt := {}
  chrosy : ChrosySt := {}
  mirror : MirrorSt := {}
  fuse : FuseSt := {}
  fw : FwSt := {}
  wetex : WetexSt := {}
deriving DecidableEq, Repr

/-- The machine right after power is applied, before POWER_GOOD. Log entries 15, 80. -/
def State.reset : State := {}

end Sys2Proof.Machine
end

