-- ==== Sys2Proof/Machine/LaneCode.lean ====
section
/-! DEFINITION. What the lanes carry: the scramblers of the Wide Port (R50 to R53), the training patterns (R107), the keystream of
the TSV lanes (R106, R439), PCTL frames (R71), calibration check words (R123). -/

namespace Sys2Proof.Machine

/-! ### Wide Port scramblers -/

/-- The output bit of a scrambler in UI `u` (0 to 7) of a flit that begins with register `r`: s[22] xor s[17] after `u` shifts. -/
def scrBit (r : BitVec 23) (u : Nat) : Bool := xor (r.getLsbD (22 - u)) (r.getLsbD (17 - u))

/-- The register after the 8 UIs of a flit: the outputs of UI 0 to 7 have entered at s[0], UI 7's last. -/
def scrFlit (r : BitVec 23) : BitVec 23 := (r <<< 8) ||| (((r >>> 15) ^^^ (r >>> 10)) &&& 0xFF#23)

/-- The seeds of logical lanes 0 to 67 and of the idle spares S0 to S3. -/
def scrSeeds : Vector (BitVec 23) 72 := Vector.ofFn fun k : Fin 72 => BitVec.ofNat 23 ((k.val + 1) * 0x29B1)

/-- Payload bit of logical lane `k` in UI `u` of a flit and its check word (R52, R53). -/
def flitBit (f : Block) (check : Word) (k u : Nat) : Bool :=
  if k < 64 then f.getLsbD (64 * u + k) else if k < 68 then check.getLsbD (4 * u + (k - 64)) else false

/-- What a flit puts on the lanes: UI u of lane position k at bit 72 u + k; a spare in use carries its logical lane. -/
def wireOf (scr : Vector (BitVec 23) 72) (map : Vector (Option Nat) 4) (f : Block) (check : Word) : Nat :=
  let lane (k : Nat) : Nat := if k < 68 then k else (map.toList.getD (k - 68) none).getD k
  let bit (u k : Nat) : Bool := xor (flitBit f check (lane k) u) (scrBit (scr.toList.getD (lane k) 0) u)
  (List.range 8).foldl (fun n u => (List.range 72).foldl (fun n k => if bit u k then n + 2 ^ (72 * u + k) else n) n) 0

/-- The check word of a flit (R53). -/
def flitCheck (seq : Nat) (f : Block) : Word := BitVec.ofNat 32 (crc32c (seq :: blockBytes f))

/-! ### Training patterns (R107) -/

/-- PRBS-15 registers: the seed of lane position `k`, the register of the next UI (x^15 + x^14 + 1), the bit sent. -/
def prbsSeed (k : Nat) : BitVec 15 := BitVec.ofNat 15 ((k + 1) * 0x0A5)
def prbsBit (r : BitVec 15) : Bool := xor (r.getLsbD 14) (r.getLsbD 13)
def prbsNext (r : BitVec 15) : BitVec 15 := (r <<< 1) ||| (if prbsBit r then 1#15 else 0#15)

/-- The bit a generator sends on lane position `k` in UI `t` of a step: PRBS-15 (0), the programmable pattern (1), or scrambled
idle (2). -/
def genBit (pattern k t : Nat) : Bool :=
  if pattern = 0 then prbsBit (t.repeat prbsNext (prbsSeed k))
  else if pattern = 1 then Config.calPattern.getLsbD (t % 128)
  else scrBit ((t / 8).repeat scrFlit (BitVec.ofNat 23 ((k + 1) * 0x29B1))) (t % 8)

/-- The eight PAT_WORD arguments that load the programmable pattern (R108). -/
def patWords : List Nat := (List.range 8).map fun i => bitsOf Config.calPattern.toNat (16 * i) 16

/-! ### PCTL frames (R71) -/

/-- CRC-8 of a frame's CMD and ARG. Log entry 85. -/
def frameCrc (cmd arg : Nat) : Nat := crc8 (cmd % 256 :: bytesOf 2 arg)

/-- The 34 bits of a frame, first bit lowest: start 0, CMD, ARG, CRC-8, stop 1. Log entry 85. -/
def pctlFrame (cmd arg : Nat) : Nat :=
  cmd % 256 * 2 + arg % 65536 * 2 ^ 9 + frameCrc cmd arg * 2 ^ 25 + 2 ^ 33

/-! ### The TSV keystream (R106, R439) -/

/-- Counter block j of a block address. -/
def aesCounter (blk j : Nat) : BitVec 128 := BitVec.ofNat 128 (blk % 2 ^ 31 + j * 2 ^ 32)

/-- Byte k of the keystream of a block under the key of a generation: symbols 0 to 71, then the two spares. Log entry 17. -/
def keystream (gen blk k : Nat) : Byte :=
  BitVec.ofNat 8 (bitsOf (Config.aes128 (Config.wipeKey gen) (aesCounter blk (k / 16))).toNat (8 * (k % 16)) 8)

/-- The 8 beats of TSV lanes 0 to 71 in a burst of a code word, given by its symbols: each lane's symbol XOR its keystream.
Log entry 17. -/
def scrambleWord (gen blk : Nat) (syms : List Nat) : List Byte :=
  syms.zipIdx.map fun (b, k) => BitVec.ofNat 8 b ^^^ keystream gen blk k

/-! ### Calibration records (R123) -/

/-- The bytes of a record that its check word covers. Log entry 84. -/
def calBytes (c : CalCopy) : List Nat :=
  bytesOf 4 c.gen.toNat ++
  (c.lanes.flatMap fun e => bytesOf 2 e.1 ++ bytesOf 2 e.2.delay ++ [e.2.thresh % 256] ++ bytesOf 2 e.2.eyeW ++ bytesOf 2 e.2.eyeH) ++
  c.map.map fun m => (m.getD 255) % 256

/-- The check word of a copy: CRC-32 with the parameters of R53. Log entry 84. -/
def calCrc (c : CalCopy) : Word := BitVec.ofNat 32 (crc32c (calBytes c))

/-- The copy's check word passes. -/
def CalCopy.ok (c : CalCopy) : Bool := decide (c.crc = calCrc c)

end Sys2Proof.Machine
end

