-- ==== Sys2Proof/Machine/Operands.lean ====
section
/-! DEFINITION. Operand forms: the fields of Wide Port slots (R75 to R82), byte addresses and the address map orders (R133). -/

namespace Sys2Proof.Machine

/-! ### Slots -/

def slotOpc (w : Slot) : Nat := bitsOf w.toNat 0 8
def slotTag (w : Slot) : Nat := bitsOf w.toNat 8 9
def slotClass (w : Slot) : Nat := bitsOf w.toNat 17 2
def slotStream (w : Slot) : Nat := bitsOf w.toNat 19 6
def slotLen (w : Slot) : Nat := bitsOf w.toNat 25 2
def slotBlk (w : Slot) : Nat := bitsOf w.toNat 32 31
def slotMask (w : Slot) : BitVec 64 := BitVec.ofNat 64 (bitsOf w.toNat 64 64)
def slotSize (w : Slot) : Nat := bitsOf w.toNat 19 2
def slotCsr (w : Slot) : Nat := bitsOf w.toNat 32 24
def slotWdata (w : Slot) : Nat := bitsOf w.toNat 64 64
def slotEpoch (w : Slot) : Nat := bitsOf w.toNat 64 64
def slotAckSeq (w : Slot) : Nat := bitsOf w.toNat 8 8
def slotAckValid (w : Slot) : Bool := w.toNat.testBit 16
def slotNak (w : Slot) : Bool := w.toNat.testBit 17
def slotSigCrd (w : Slot) : Nat := bitsOf w.toNat 32 8

/-- Blocks of a length code (R75): 1, 2 or 4. -/
def lenBlocks (len : Nat) : Nat := 2 ^ len

/-- Data flits that follow a slot downstream (R55). -/
def dataFlits (opc len : Nat) : Nat :=
  if opc = 2 then (if len < 3 then lenBlocks len else 0) else if opc = 3 then 1 else 0

/-! ### Addresses -/

/-- First byte above DRAM (R36). -/
def dramTop : Nat := 0x1800000000
/-- First byte of the Keeper region (R38). -/
def keeperBase : Nat := 0x17FC000000
def hostTop : Nat := keeperBase

/-- Bytes [a, a + n) all lie in host-usable memory (R36, R37). -/
def hostUsable (a n : Nat) : Bool := decide (a + n ≤ hostTop)

/-- A block's place in DRAM (R23, R133). -/
structure Coord where
  pc : Nat
  bank : Nat
  row : Nat
  col : Nat
deriving DecidableEq, Repr

/-- Six gibibytes: a region of PARTITIONED. -/
def region6 : Nat := 0x180000000

/-- The map orders of R133, from a block number (byte address bits [36:6]). -/
def coordOf (order blk : Nat) : Coord :=
  let a := blk * 64
  let lo := bitsOf a 6 2
  match order with
  | 0 => ⟨bitsOf a 8 6, bitsOf a 16 5, bitsOf a 21 16, bitsOf a 14 2 * 4 + lo⟩
  | 1 => ⟨bitsOf a 13 6, bitsOf a 8 5, bitsOf a 21 16, bitsOf a 19 2 * 4 + lo⟩
  | 2 =>
    let r := bitsOf a 21 16
    ⟨bitsOf a 8 6 ^^^ bitsOf r 0 6 ^^^ bitsOf r 6 6, bitsOf a 16 5 ^^^ bitsOf r 11 5, r, bitsOf a 14 2 * 4 + lo⟩
  | _ =>
    let p := a / region6
    let o := a % region6
    ⟨4 * p + bitsOf o 8 2, bitsOf o 12 5, bitsOf o 17 16, bitsOf o 10 2 * 4 + lo⟩

/-- The block at a place: the inverse of `coordOf`. -/
def blkOf (order : Nat) (c : Coord) : Nat :=
  let lo := c.col % 4
  let hi := c.col / 4
  match order with
  | 0 => lo + 4 * c.pc + 256 * hi + 1024 * c.bank + 32768 * c.row
  | 1 => lo + 4 * c.bank + 128 * c.pc + 8192 * hi + 32768 * c.row
  | 2 =>
    lo + 4 * (c.pc ^^^ bitsOf c.row 0 6 ^^^ bitsOf c.row 6 6) + 256 * hi
      + 1024 * (c.bank ^^^ bitsOf c.row 11 5) + 32768 * c.row
  | _ => (c.pc / 4) * (region6 / 64) + lo + 4 * (c.pc % 4) + 16 * hi + 64 * c.bank + 2048 * c.row

/-- The Lagoon set of a unit within its pseudo-channel (R165). -/
def lagoonSet (c : Coord) : Nat := (128 * c.row + 4 * c.bank + c.col / 4) % 704

/-- The granule of a block (R281). -/
def granuleOf (blk : Nat) : Nat := blk / 1024

/-- The 4 KiB page of a block (R231). -/
def pageOf (blk : Nat) : Nat := blk / 64

/-- Merge the masked bytes of `w` into `old` (R75). -/
def mergeBytes (mask : BitVec 64) (old w : Block) : Block :=
  BitVec.ofNat 512 ((List.range 64).foldl (fun acc i =>
    acc + bitsOf (if mask.getLsbD i then w.toNat else old.toNat) (8 * i) 8 * 2 ^ (8 * i)) 0)

end Sys2Proof.Machine
end

