-- ==== Sys2Proof/Machine/RegMap.lean ====
section
/-! DEFINITION. The register map (R532): one row per register or register array, with its reset value and the bits each access
code covers (R15, R541). Bits of no mask are RO or RV: RV values are computed from the state where they are read. -/

namespace Sys2Proof.Machine

/-- One register, or an array of `n` at `stride` bytes. `inc` adds to the reset value of each later element. -/
structure RegRow where
  name : String
  base : Nat
  n : Nat := 1
  stride : Nat := 4
  reset : Nat := 0
  inc : Nat := 0
  /-- Bits software writes: RW, RWH, RWL. -/
  w : Nat := 0
  /-- Expert bits, and the MODE register that governs them (R545). -/
  x : Nat := 0
  mode : Nat := 0
  /-- RWL bits; the lock bit (R541). -/
  l : Nat := 0
  /-- Settings-backed bits, whose accepted writes are journalled and stored (R334). -/
  sb : Nat := 0
  /-- DW bits (R542); the complement register follows at + 4. -/
  dw : Nat := 0
  /-- 1: low word of a designated pair; 2: its high word (R540). -/
  pair : Nat := 0
  /-- A counter that stops at its top (R547). -/
  cnt : Bool := false
  /-- Triplicated bits (R544). -/
  tv : Nat := 0
deriving DecidableEq, Repr

/-- Global registers (00, 01, 04, 20). -/
def regsGlobal : List RegRow :=
  [ { name := "GLOBAL.ID", base := 0x000000, reset := 0x19616, tv := 0xFF00000 },
    { name := "GLOBAL.FEATURE", base := 0x000008, tv := 0xFF1F },
    { name := "GLOBAL.STACKSTAT", base := 0x00000C },
    { name := "GLOBAL.HOST_TOP_LO", base := 0x000010, reset := 0xFC000000, pair := 1 },
    { name := "GLOBAL.HOST_TOP_HI", base := 0x000014, reset := 0x17, pair := 2 },
    { name := "GLOBAL.MEMCFG", base := 0x000020, reset := 2, w := 0x13, l := 0x13, sb := 0x3, tv := 0xF },
    { name := "GLOBAL.CFGOWNER", base := 0x000040, reset := 0xFFFF, dw := 0xFFFF },
    { name := "GLOBAL.REGSTAT", base := 0x000048 },
    { name := "GLOBAL.UNIT", base := 0x000050, n := 4, tv := 0xFFFFFFFF },
    { name := "GLOBAL.PINS", base := 0x000060, tv := 7 },
    { name := "RESET.STAT", base := 0x000100 },
    { name := "RESET.HRST_LOST", base := 0x000104 },
    { name := "RESET.KEEPER", base := 0x000108, dw := 1 },
    { name := "RESET.WIPE", base := 0x000110, dw := 1, sb := 1 } ]

/-- Port registers (R102, R160). -/
def regsPort : List RegRow :=
  [ { name := "PORT.STAT", base := 0x020000, n := 16, stride := 0x1000 },
    { name := "PORT.CRDINIT", base := 0x020004, n := 16, stride := 0x1000, reset := 0x204020, w := 0xFFFFFF },
    { name := "PORT.LANEMAP_DN", base := 0x020008, n := 16, stride := 0x1000 },
    { name := "PORT.LANEMAP_UP", base := 0x02000C, n := 16, stride := 0x1000 },
    { name := "PORT.LINKERR", base := 0x020010, n := 16, stride := 0x1000, w := 0xFFFFFFFF, cnt := true },
    { name := "PORT.RESENDS", base := 0x020014, n := 16, stride := 0x1000, w := 0xFFFFFFFF, cnt := true },
    { name := "PORT.PROTOERR", base := 0x020018, n := 16, stride := 0x1000, w := 0xFFFFFFFF, cnt := true },
    { name := "PORT.OCCUPANCY", base := 0x02001C, n := 16, stride := 0x1000 },
    { name := "PORT.LATTGT", base := 0x020020, n := 16, stride := 0x1000, reset := 0x64, w := 0x3FFF3FFF, x := 0x3FFF3FFF,
      mode := 0x030000 },
    { name := "QOS.MODE", base := 0x030000, w := 1 },
    { name := "QOS.CURVE", base := 0x030004, reset := 0x644B32, w := 0xFFFFFF, x := 0xFFFFFF, mode := 0x030000 },
    { name := "QOS.LAPSED_LO", base := 0x030010, pair := 1 },
    { name := "QOS.LAPSED_HI", base := 0x030014, pair := 2 } ]

/-- Pseudo-channel registers (R161, R210, R251). -/
def regsPc : List RegRow :=
  [ { name := "PC.QSTAT", base := 0x040000, n := 64, stride := 0x400 },
    { name := "PC.URGSTAT", base := 0x040004, n := 64, stride := 0x400 },
    { name := "PC.URGLATMAX", base := 0x040008, n := 64, stride := 0x400, w := 0xFFFFFFFF },
    { name := "PC.ROWHITS", base := 0x04000C, n := 64, stride := 0x400, w := 0xFFFFFFFF, cnt := true },
    { name := "PC.ACTS", base := 0x040010, n := 64, stride := 0x400, w := 0xFFFFFFFF, cnt := true },
    { name := "PC.STREAKCAPS", base := 0x040014, n := 64, stride := 0x400, w := 0xFFFFFFFF, cnt := true },
    { name := "PC.REFSTAT", base := 0x040040, n := 64, stride := 0x400 },
    { name := "PC.REFFORCED", base := 0x040044, n := 64, stride := 0x400, w := 0xFFFFFFFF, cnt := true },
    { name := "PC.NBRREF", base := 0x040048, n := 64, stride := 0x400, w := 0xFFFFFFFF, cnt := true },
    { name := "PC.SPILLS", base := 0x04004C, n := 64, stride := 0x400, w := 0xFFFFFFFF, cnt := true },
    { name := "PC.TRKMIN", base := 0x040050, n := 64, stride := 0x400 },
    { name := "PC.ECCCORR", base := 0x040060, n := 64, stride := 0x400, w := 0xFFFFFFFF, cnt := true },
    { name := "PC.ECCUNCORR", base := 0x040064, n := 64, stride := 0x400, w := 0xFFFFFFFF, cnt := true } ]

/-- Refresh and row guard (R208), Lagoon (R186), Sextant (R129). -/
def regsMem : List RegRow :=
  [ { name := "REFRESH.MODE", base := 0x050000, w := 3, x := 2, mode := 0x050000 },
    { name := "REFRESH.PPW", base := 0x050004, reset := 8, w := 0xF, x := 0xF, mode := 0x050000 },
    { name := "REFRESH.ORDER", base := 0x050010, n := 8, reset := 0x03020100, inc := 0x04040404, w := 0x1F1F1F1F,
      x := 0x1F1F1F1F, mode := 0x050000 },
    { name := "ROWGUARD.MODE", base := 0x050100, w := 3 },
    { name := "ROWGUARD.THRESH", base := 0x050104, reset := 0x02000100, w := 0x03FF03FF, x := 0x03FF03FF, mode := 0x050100 },
    { name := "ROWGUARD.THROTTLE", base := 0x050108, reset := 0x00040040, w := 0x000703FF, x := 0x000703FF,
      mode := 0x050100 },
    { name := "ROWGUARD.STAT", base := 0x050110 },
    { name := "ROWGUARD.STEP", base := 0x050200, n := 128 },
    { name := "LAGOON.MODE", base := 0x060000, reset := 2, w := 7 },
    { name := "LAGOON.LIMITS", base := 0x060004, reset := 0x00408040, w := 0xFFFFFFFF, x := 0xFFFFFFFF, mode := 0x060000 },
    { name := "LAGOON.STAT", base := 0x060010 },
    { name := "LAGOON.WAYS", base := 0x060014 },
    { name := "LAGOON.CAPTURED", base := 0x060018 },
    { name := "LAGOON.HITS", base := 0x060020, w := 0xFFFFFFFF, cnt := true },
    { name := "LAGOON.MERGES", base := 0x060024, w := 0xFFFFFFFF, cnt := true },
    { name := "LAGOON.CAPTREFUSED", base := 0x060028, w := 0xFFFFFFFF, cnt := true },
    { name := "LAGOON.WRITEBACKS", base := 0x06002C, w := 0xFFFFFFFF, cnt := true },
    { name := "LAGOON.WAYCORR", base := 0x060030, w := 0xFFFFFFFF, cnt := true },
    { name := "SEXTANT.MODE", base := 0x0F0000, w := 1 },
    { name := "SEXTANT.STAT", base := 0x0F0004 },
    { name := "SEXTANT.STORE", base := 0x0F0008 },
    { name := "SEXTANT.QSEL", base := 0x0F0010, w := 0x1FFFF },
    { name := "SEXTANT.QUAL", base := 0x0F0014 },
    { name := "SEXTANT.QPOS", base := 0x0F0018 },
    { name := "SEXTANT.QCORR", base := 0x0F001C, w := 0xFFFFFFFF },
    { name := "SEXTANT.OVR_SEL", base := 0x0F0200, n := 64, stride := 8, w := 0x3FFFF, x := 0x20000, mode := 0x0F0000 },
    { name := "SEXTANT.OVR_VAL", base := 0x0F0204, n := 64, stride := 8, w := 0x7FFF, x := 0x7FFF, mode := 0x0F0000 } ]

/-- Scrub, integrity, poison, Fresh Map, repair (R248 to R250, R270). -/
def regsInteg : List RegRow :=
  [ { name := "SCRUB.MODE", base := 0x070000, w := 1 },
    { name := "SCRUB.CTL", base := 0x070004, reset := 0x3C, w := 0x1FFFF, x := 0x1F000, mode := 0x070000 },
    { name := "SCRUB.INIT", base := 0x070008, w := 3, x := 2, mode := 0x070000, sb := 3, tv := 0xF },
    { name := "SCRUB.INITDONE", base := 0x070010, dw := 1 },
    { name := "SCRUB.STAT", base := 0x070018 },
    { name := "SCRUB.LAPTIME", base := 0x07001C },
    { name := "SCRUB.LAPS", base := 0x070020, w := 0xFFFFFFFF, cnt := true },
    { name := "SCRUB.CORRECTED", base := 0x070024, w := 0xFFFFFFFF, cnt := true },
    { name := "SCRUB.UNCORR", base := 0x070028, w := 0xFFFFFFFF, cnt := true },
    { name := "INTEG.CORRWB", base := 0x07002C, w := 0xFFFFFFFF, cnt := true },
    { name := "INTEG.HARDFAULTS", base := 0x070030, w := 0xFFFFFFFF, cnt := true },
    { name := "INTEG.DROPPED", base := 0x070034, w := 0xFFFFFFFF, cnt := true },
    { name := "POISON.STAT", base := 0x070040 },
    { name := "POISON.SEL", base := 0x070044, w := 0x1FF },
    { name := "POISON.ENTRY_LO", base := 0x070048, pair := 1 },
    { name := "POISON.ENTRY_HI", base := 0x07004C, pair := 2 },
    { name := "FRESH.STAT", base := 0x070050 },
    { name := "SCRUB.RANGE_BASE", base := 0x070100, n := 8, stride := 8, w := 0x801FFFFF, x := 0x801FFFFF,
      mode := 0x070000 },
    { name := "SCRUB.RANGE_LEN", base := 0x070104, n := 8, stride := 8, w := 0xFFFFFFFF, x := 0xFFFFFFFF,
      mode := 0x070000 },
    { name := "REPAIR.CTL", base := 0x070200, reset := 1, w := 1 },
    { name := "REPAIR.CAP", base := 0x070204 },
    { name := "REPAIR.SOFTSTAT", base := 0x070208 },
    { name := "REPAIR.FUSEAUTH", base := 0x070210, dw := 0x01FFFFFF },
    { name := "REPAIR.SEL", base := 0x070218, w := 0xFF },
    { name := "REPAIR.ENTRY", base := 0x07021C } ]

/-- Events, sequence, journal, epochs, triggers (R351 to R353, R292, R293). -/
def regsEvents : List RegRow :=
  [ { name := "EVT.MODE", base := 0x0A0000, w := 1 },
    { name := "EVT.SEV", base := 0x0A0004, reset := 0x322, w := 0x777, x := 0x777, mode := 0x0A0000 },
    { name := "EVT.SIGPORTS", base := 0x0A0008, reset := 0xFFFF, w := 0xFFFF, x := 0xFFFF, mode := 0x0A0000 },
    { name := "EVT.STAT", base := 0x0A000C },
    { name := "EVT.FATAL_SSN_LO", base := 0x0A0010, pair := 1 },
    { name := "EVT.FATAL_SSN_HI", base := 0x0A0014, pair := 2 },
    { name := "EVT.FATAL_ACK_LO", base := 0x0A0018, w := 0xFFFFFFFF, pair := 1 },
    { name := "EVT.FATAL_ACK_HI", base := 0x0A001C, w := 0xFFFFFFFF, pair := 2 },
    { name := "SEQ.NEXT_LO", base := 0x0A0020, pair := 1 },
    { name := "SEQ.NEXT_HI", base := 0x0A0024, pair := 2 },
    { name := "SEQ.STARTS", base := 0x0A0028 },
    { name := "ALMANAC.OLDEST_LO", base := 0x0A0030, pair := 1 },
    { name := "ALMANAC.OLDEST_HI", base := 0x0A0034, pair := 2 },
    { name := "ALMANAC.NEWEST_LO", base := 0x0A0038, pair := 1 },
    { name := "ALMANAC.NEWEST_HI", base := 0x0A003C, pair := 2 },
    { name := "ALMANAC.COUNT_LO", base := 0x0A0040, pair := 1 },
    { name := "ALMANAC.COUNT_HI", base := 0x0A0044, pair := 2 },
    { name := "ALMANAC.RSEL_LO", base := 0x0A0048, w := 0xFFFFFFFF, pair := 1 },
    { name := "ALMANAC.RSEL_HI", base := 0x0A004C, w := 0xFFFFFFFF, pair := 2 },
    { name := "ALMANAC.RSTAT", base := 0x0A0050 },
    { name := "ALMANAC.RDATA", base := 0x0A0080, n := 16 },
    { name := "EVT.RING.BASE_LO", base := 0x0A0100, n := 4, stride := 0x20, w := 0xFFFFF000, pair := 1 },
    { name := "EVT.RING.BASE_HI", base := 0x0A0104, n := 4, stride := 0x20, w := 0x1F, pair := 2 },
    { name := "EVT.RING.CFG", base := 0x0A0108, n := 4, stride := 0x20, reset := 0x47, w := 0x7F },
    { name := "EVT.RING.HEAD", base := 0x0A010C, n := 4, stride := 0x20, w := 0xFFFF },
    { name := "EVT.RING.STAT", base := 0x0A0110, n := 4, stride := 0x20 },
    { name := "EVT.RING.LOST", base := 0x0A0114, n := 4, stride := 0x20, w := 0xFFFFFFFF, cnt := true },
    { name := "EVT.ROUTE", base := 0x0A0200, n := 96, w := 0xFFFFFFFF, x := 0xFFFFFFFF, mode := 0x0A0000 },
    { name := "EVT.MASK", base := 0x0A0400, n := 48, w := 0xFFFFFFFF, x := 0xFFFFFFFF, mode := 0x0A0000 },
    { name := "EVT.MFIFO", base := 0x0A0500, n := 8 },
    { name := "EPOCH.PORTSET", base := 0x0A0800, reset := 0x1FFFF, w := 0x3FFFF },
    { name := "EPOCH.STAT", base := 0x0A0804 },
    { name := "EPOCH.OPEN_LO", base := 0x0A0808, pair := 1 },
    { name := "EPOCH.OPEN_HI", base := 0x0A080C, pair := 2 },
    { name := "EPOCH.CLOSED_LO", base := 0x0A0810, pair := 1 },
    { name := "EPOCH.CLOSED_HI", base := 0x0A0814, pair := 2 },
    { name := "EPOCH.INIT_LO", base := 0x0A0818, w := 0xFFFFFFFF, pair := 1 },
    { name := "EPOCH.INIT_HI", base := 0x0A081C, w := 0xFFFFFFFF, pair := 2 },
    { name := "TIDEMARK.CUMCOUNT", base := 0x0A0820 },
    { name := "TIDEMARK.EPCOUNT", base := 0x0A0824 },
    { name := "TRIG.CTL", base := 0x0A0900, n := 16, stride := 0x20, w := 0x3F },
    { name := "TRIG.EPOCH_LO", base := 0x0A0904, n := 16, stride := 0x20, w := 0xFFFFFFFF, pair := 1 },
    { name := "TRIG.EPOCH_HI", base := 0x0A0908, n := 16, stride := 0x20, w := 0xFFFFFFFF, pair := 2 },
    { name := "TRIG.ARG_LO", base := 0x0A090C, n := 16, stride := 0x20, w := 0xFFFFFFFF, pair := 1 },
    { name := "TRIG.ARG_HI", base := 0x0A0910, n := 16, stride := 0x20, w := 0xFFFFFFFF, pair := 2 } ]

/-- Chrosy link and mirroring (R380, R381, R404, R405). -/
def regsChrosy : List RegRow :=
  [ { name := "CHROSY.CTL", base := 0x0B0000, reset := 1, w := 1 },
    { name := "CHROSY.STAT", base := 0x0B0004 },
    { name := "CHROSY.CREDITS", base := 0x0B0008 },
    { name := "CHROSY.REPLAY", base := 0x0B000C },
    { name := "CHROSY.CRCERR", base := 0x0B0010, w := 0xFFFFFFFF, cnt := true },
    { name := "CHROSY.HDRERR", base := 0x0B0014, w := 0xFFFFFFFF, cnt := true },
    { name := "CHROSY.RESENT", base := 0x0B0018, w := 0xFFFFFFFF, cnt := true },
    { name := "CHROSY.LINKUPS", base := 0x0B001C, w := 0xFFFFFFFF, cnt := true },
    { name := "CHROSY.RUNVIOL", base := 0x0B0020, w := 0xFFFFFFFF, cnt := true },
    { name := "CHROSY.QSEL", base := 0x0B0040, w := 0xF },
    { name := "CHROSY.QUAL", base := 0x0B0044 },
    { name := "CHROSY.QTAP", base := 0x0B0048, n := 3 },
    { name := "MIRROR.MODE", base := 0x0B0100, w := 1 },
    { name := "MIRROR.CTL", base := 0x0B0104, reset := 0x00100201, w := 0x1F7F01, x := 0x1F0000, mode := 0x0B0100 },
    { name := "MIRROR.RXCTL", base := 0x0B0108, w := 1 },
    { name := "MIRROR.STAT", base := 0x0B010C },
    { name := "MIRROR.DIVERGED_LO", base := 0x0B0110, pair := 1 },
    { name := "MIRROR.DIVERGED_HI", base := 0x0B0114, pair := 2 },
    { name := "MIRROR.SENT", base := 0x0B0120, w := 0xFFFFFFFF, cnt := true },
    { name := "MIRROR.APPLIED", base := 0x0B0124, w := 0xFFFFFFFF, cnt := true },
    { name := "MIRROR.SYNCFAIL", base := 0x0B0128, w := 0xFFFFFFFF, cnt := true },
    { name := "MIRROR.RXBASE", base := 0x0B0130, w := 0x3FFFFF },
    { name := "MIRROR.RXLEN", base := 0x0B0134, w := 0x3FFFFF },
    { name := "MIRROR.WIN.BASE", base := 0x0B1000, n := 64, stride := 0x20, w := 0x1FFFFF, sb := 0x1FFFFF },
    { name := "MIRROR.WIN.LEN", base := 0x0B1004, n := 64, stride := 0x20, w := 0x3FFFFF, sb := 0x3FFFFF },
    { name := "MIRROR.WIN.PBASE", base := 0x0B1008, n := 64, stride := 0x20, w := 0x1FFFFF, sb := 0x1FFFFF },
    { name := "MIRROR.WIN.CTL", base := 0x0B100C, n := 64, stride := 0x20, w := 3, sb := 3 },
    { name := "MIRROR.WIN.STAT", base := 0x0B1010, n := 64, stride := 0x20 },
    { name := "MIRROR.WIN.WSEQ", base := 0x0B1014, n := 64, stride := 0x20 },
    { name := "MIRROR.WIN.ACKED", base := 0x0B1018, n := 64, stride := 0x20 } ]

/-- Fuses (R511). -/
def regsFuse : List RegRow :=
  [ { name := "FUSE.LC", base := 0x010000, tv := 0xF },
    { name := "FUSE.GSTAT", base := 0x010010, n := 8, tv := 0xFFFF },
    { name := "FUSE.PADDR", base := 0x010040, w := 0x1FFF },
    { name := "FUSE.PDATA", base := 0x010044, w := 0xFFFFFFFF },
    { name := "FUSE.PCMD", base := 0x010048, dw := 0x3F },
    { name := "FUSE.PSTAT", base := 0x010050 },
    { name := "FUSE.RDSEL", base := 0x010058, w := 0x7FFF },
    { name := "FUSE.RDATA", base := 0x01005C },
    { name := "FUSE.ROLLBACK", base := 0x010060 } ]

/-- Thermal and housekeeping (R474, R475). -/
def regsThermal : List RegRow :=
  [ { name := "THERMAL.MODE", base := 0x080000, w := 1 },
    { name := "THERMAL.THRESH", base := 0x080004, reset := 0x695F55, w := 0xFFFFFF, x := 0xFFFFFF, mode := 0x080000 },
    { name := "THERMAL.THRESH", base := 0x080008, n := 2, reset := 0x73695F, w := 0xFFFFFF, x := 0xFFFFFF,
      mode := 0x080000 },
    { name := "THERMAL.STEPCFG", base := 0x080010, reset := 5, w := 0xF, x := 0xF, mode := 0x080000 },
    { name := "THERMAL.STAT", base := 0x080014 },
    { name := "THERMAL.RESUME", base := 0x080018, dw := 1 },
    { name := "THERMAL.INFER", base := 0x080020 },
    { name := "THERMAL.COEF", base := 0x080024 },
    { name := "THERMAL.THROTTLE_MS", base := 0x080028, w := 0xFFFFFFFF, cnt := true },
    { name := "THERMAL.SHUTDOWNS", base := 0x08002C, w := 0xFFFFFFFF, cnt := true },
    { name := "THERMAL.DIE", base := 0x080040, n := 18 },
    { name := "THERMAL.CH", base := 0x080100, n := 128 } ]

/-- Power states and Low Water (R431 to R433). -/
def regsPower : List RegRow :=
  [ { name := "POWER.MODE", base := 0x0C0000, w := 1 },
    { name := "POWER.WAKE", base := 0x0C0004, w := 0xFFFFFF },
    { name := "POWER.ENABLE", base := 0x0C0008, reset := 7, w := 7, x := 7, mode := 0x0C0000 },
    { name := "POWER.HYST", base := 0x0C000C, reset := 0x0A640A, w := 0xFFFFFF, x := 0xFFFFFF, mode := 0x0C0000 },
    { name := "POWER.STAT", base := 0x0C0010 },
    { name := "POWER.RES_NEAP", base := 0x0C0020, w := 0xFFFFFFFF, cnt := true },
    { name := "POWER.RES_EBB", base := 0x0C0024, w := 0xFFFFFFFF, cnt := true },
    { name := "POWER.RES_SLACK", base := 0x0C0028, w := 0xFFFFFFFF, cnt := true },
    { name := "POWER.EXITS", base := 0x0C002C, w := 0xFFFFFFFF, cnt := true },
    { name := "LOWWATER.CTL", base := 0x0C0100, reset := 1, w := 1, sb := 1, tv := 1 },
    { name := "LOWWATER.STAT", base := 0x0C0104 },
    { name := "LOWWATER.LASTDRAIN", base := 0x0C0108 },
    { name := "LOWWATER.UNFLUSHED", base := 0x0C010C },
    { name := "LOWWATER.RESUME_MS", base := 0x0C0110 },
    { name := "LOWWATER.WISEL", base := 0x0C0114, w := 0xFF },
    { name := "LOWWATER.WIENT_LO", base := 0x0C0118, pair := 1 },
    { name := "LOWWATER.WIENT_HI", base := 0x0C011C, pair := 2 } ]

/-- Keeper and update (R530). -/
def regsFw : List RegRow :=
  [ { name := "FWUP.VER", base := 0x0D0000, n := 3 },
    { name := "FWUP.SLOT", base := 0x0D0010 },
    { name := "FWUP.LEASE", base := 0x0D0014 },
    { name := "FWUP.RELEASE", base := 0x0D0018, dw := 1 },
    { name := "FWUP.SETFMT", base := 0x0D0020 },
    { name := "FWUP.MCMD", base := 0x0D0080 },
    { name := "FWUP.MOFFSET", base := 0x0D0084, w := 0x1FFFFF },
    { name := "FWUP.MSTAT", base := 0x0D0088 },
    { name := "FWUP.MBUF", base := 0x0D0100, n := 64, w := 0xFFFFFFFF } ]

/-- Wetex, its doorbell pages apart (R324, R325). -/
def regsWetex : List RegRow :=
  [ { name := "WETEX.CTL", base := 0x090000, reset := 0x19, w := 0xFF },
    { name := "WETEX.STAT", base := 0x090004 },
    { name := "WETEX.DESCS", base := 0x090010, w := 0xFFFFFFFF, cnt := true },
    { name := "WETEX.ERRS", base := 0x090014, w := 0xFFFFFFFF, cnt := true },
    { name := "WETEX.BYTES_LO", base := 0x090018, pair := 1 },
    { name := "WETEX.BYTES_HI", base := 0x09001C, pair := 2 },
    { name := "WETEX.RING.SQ_BASE_LO", base := 0x091000, n := 64, stride := 0x40, w := 0xFFFFF000, pair := 1 },
    { name := "WETEX.RING.SQ_BASE_HI", base := 0x091004, n := 64, stride := 0x40, w := 0x1F, pair := 2 },
    { name := "WETEX.RING.CQ_BASE_LO", base := 0x091008, n := 64, stride := 0x40, w := 0xFFFFF000, pair := 1 },
    { name := "WETEX.RING.CQ_BASE_HI", base := 0x09100C, n := 64, stride := 0x40, w := 0x1F, pair := 2 },
    { name := "WETEX.RING.CFG", base := 0x091010, n := 64, stride := 0x40, reset := 0x44, w := 0x7FF },
    { name := "WETEX.RING.STAT", base := 0x091014, n := 64, stride := 0x40 },
    { name := "WETEX.RING.TAILS", base := 0x091018, n := 64, stride := 0x40 },
    { name := "WETEX.RING.ACTIVE", base := 0x09101C, n := 64, stride := 0x40 } ]

/-- Transit (R493). -/
def regsTransit : List RegRow :=
  [ { name := "TRANSIT.MODE", base := 0x0E0000, w := 1 },
    { name := "TRANSIT.SEL", base := 0x0E0004, reset := 0x5037F, w := 0x7FFFF, x := 0x7FFFF, mode := 0x0E0000 },
    { name := "TRANSIT.CTL", base := 0x0E0008 },
    { name := "TRANSIT.STAT", base := 0x0E000C },
    { name := "TRANSIT.CYCLES_LO", base := 0x0E0010, pair := 1 },
    { name := "TRANSIT.CYCLES_HI", base := 0x0E0014, pair := 2 },
    { name := "TRANSIT.EXPECT_LO", base := 0x0E0018, pair := 1 },
    { name := "TRANSIT.EXPECT_HI", base := 0x0E001C, pair := 2 },
    { name := "TRANSIT.SIG_LO", base := 0x0E0020, pair := 1 },
    { name := "TRANSIT.SIG_HI", base := 0x0E0024, pair := 2 },
    { name := "TRANSIT.SIGEXP_LO", base := 0x0E0028, pair := 1 },
    { name := "TRANSIT.SIGEXP_HI", base := 0x0E002C, pair := 2 },
    { name := "TRANSIT.PCMASK_LO", base := 0x0E0030, reset := 0xFFFFFFFF, w := 0xFFFFFFFF, x := 0xFFFFFFFF,
      mode := 0x0E0000, pair := 1 },
    { name := "TRANSIT.PCMASK_HI", base := 0x0E0034, reset := 0xFFFFFFFF, w := 0xFFFFFFFF, x := 0xFFFFFFFF,
      mode := 0x0E0000, pair := 2 },
    { name := "TRANSIT.ROWS", base := 0x0E0038, reset := 0xBFFF0000, w := 0xFFFFFFFF, x := 0xFFFFFFFF, mode := 0x0E0000 },
    { name := "TRANSIT.FLOG_SEL", base := 0x0E003C, w := 0x3F },
    { name := "TRANSIT.FLOG_LO", base := 0x0E0040, pair := 1 },
    { name := "TRANSIT.FLOG_HI", base := 0x0E0044, pair := 2 },
    { name := "TRANSIT.RUNS", base := 0x0E0048, w := 0xFFFFFFFF, cnt := true } ]

/-- The rows of one address block (R532). -/
def regsOfBlock (b : Nat) : List RegRow :=
  match b with
  | 0x00 => regsGlobal
  | 0x01 => regsFuse
  | 0x02 | 0x03 => regsPort
  | 0x04 => regsPc
  | 0x05 | 0x06 | 0x0F => regsMem
  | 0x07 => regsInteg
  | 0x08 => regsThermal
  | 0x09 => regsWetex
  | 0x0A => regsEvents
  | 0x0B => regsChrosy
  | 0x0C => regsPower
  | 0x0D => regsFw
  | 0x0E => regsTransit
  | _ => []

/-- A row holds an address. -/
def RegRow.holds (r : RegRow) (a : Nat) : Bool :=
  decide (r.base ≤ a) && decide (a < r.base + r.n * r.stride) && decide ((a - r.base) % r.stride = 0)

/-- The row of an address. -/
def regRow (a : Nat) : Option RegRow := (regsOfBlock (a / 65536)).find? (·.holds a)

/-- Index within an array. -/
def RegRow.idx (r : RegRow) (a : Nat) : Nat := (a - r.base) / r.stride

/-- The reset value at an address; 0 where no register stands. Log entry 7. -/
def regReset (a : Nat) : Nat :=
  match regRow a with
  | some r => r.reset + r.inc * r.idx a
  | none => 0

end Sys2Proof.Machine
end

