-- ==== Sys2Proof/Machine/Ops.lean ====
section
/-! DEFINITION. Named operations every command uses: stored registers and counters, the sequence unit, the journal, event
delivery, responses, PCTL frames. -/

namespace Sys2Proof.Machine

/-- The outcome of a command. Log entry 3. -/
abbrev Out := Host.Outcome State Fault Refusal

/-- Run an effect where its condition holds; a command whose condition does not hold changes nothing (log entry 3). -/
def whenDo (c : Bool) (s t : State) : Out := if c then .next t else .next s

/-! ### Time, ids, parts of the state -/

/-- Move the clock on to at least `t`: the command's happening takes place no earlier (log entry 4). -/
def State.atLeast (s : State) (t : Nat) : State :=
  if t ≤ s.now then s else { s with now := t, regs := { s.regs with hwField := [], hwCount := [], csr0 := none } }

def State.modPort (s : State) (p : Port) (f : PortSt → PortSt) : State := { s with ports := s.ports.set p (f s.ports[p]) }
def State.modLink (s : State) (p : Port) (f : LinkSt → LinkSt) : State := { s with links := s.links.set p (f s.links[p]) }
def State.modPc (s : State) (n : Pc) (f : PcSt → PcSt) : State := { s with pcs := s.pcs.set n (f s.pcs[n]) }

/-- The pseudo-channel of a number, taken modulo 64. -/
def pcFin (n : Nat) : Pc := ⟨n % 64, Nat.mod_lt _ (by decide)⟩
/-- The port of a number, taken modulo 16. -/
def portFin (n : Nat) : Port := ⟨n % 16, Nat.mod_lt _ (by decide)⟩

/-- A fresh id. Log entry 1. -/
def State.tick (s : State) : State := { s with nextId := s.nextId + 1 }

/-- A fresh free value's index. Log entry 2. -/
def State.useFree (s : State) : State := { s with free := s.free + 1 }

/-- The stack is in FLOOD and stays there (R407): no low state, none being entered or left. -/
def flood (s : State) : Bool := decide (s.power.low = 0) && s.power.target.isNone && !s.power.exiting

/-- The Keeper runs (R25, R26). -/
def keeperUp (s : State) : Bool := s.stack.keeper == .running

/-! ### Stored registers -/

/-- The stored word at an address. Log entry 7. -/
def csrGet (s : State) (a : Nat) : Nat := (smGet 0 s.regs.csr a).toNat ^^^ regReset a

/-- Store a word at an address. Log entry 7. -/
def csrSet (s : State) (a v : Nat) : State :=
  { s with regs := { s.regs with csr := smSet 0 s.regs.csr a (BitVec.ofNat 32 (v ^^^ regReset a)) } }

/-- A stored field. -/
def csrFld (s : State) (a lo w : Nat) : Nat := bitsOf (csrGet s a) lo w

/-- Hardware writes a field (R547 sees it in `hwField`). Log entry 66. -/
def hwFld (s : State) (a lo w v : Nat) : State :=
  let s := csrSet s a (putBits (csrGet s a) lo w v)
  { s with regs := { s.regs with hwField := (a, (2 ^ w - 1) * 2 ^ lo) :: s.regs.hwField } }

/-- A counter that stops at 0xFFFF_FFFF rises by `k` (R102, R547). Log entry 66. -/
def bump (a k : Nat) (s : State) : State :=
  let s := csrSet s a (satAdd 0xFFFFFFFF (csrGet s a) k)
  { s with regs := { s.regs with hwCount := (a, k) :: s.regs.hwCount } }

/-- The MODE bit of a block (R545). -/
def expert (s : State) (mode : Nat) : Bool := csrFld s mode 0 1 == 1

/-- The value in force of a register whose expert bits BASIC overrides with their reset values (R545). -/
def csrForce (s : State) (a : Nat) : Nat :=
  match regRow a with
  | none => 0
  | some r =>
    let v := csrGet s a
    if r.mode = 0 ∨ expert s r.mode then v else (v &&& (0xFFFFFFFF ^^^ r.x)) ||| (regReset a &&& r.x)

/-- A field in force. -/
def csrForceFld (s : State) (a lo w : Nat) : Nat := bitsOf (csrForce s a) lo w

/-- The registers as they stood when this CCLK began: a setting written now acts from the next CCLK (R147, R178, R206).
Log entry 66. -/
def before (s : State) : State :=
  match s.regs.csr0 with
  | some c => { s with regs := { s.regs with csr := c } }
  | none => s

/-- A register write begins: what this CCLK began with is kept. -/
def keepCsr (s : State) : State :=
  { s with regs := { s.regs with csr0 := some (s.regs.csr0.getD s.regs.csr) } }

/-! ### The sequence unit and the journal (R327 to R337) -/

/-- A BODY field: value `v` at byte `b` of the entry. -/
def bodyAt (b v : Nat) : Nat := v * 2 ^ (8 * (b - 24))

/-- Form a journal entry with the next SSN (R332, R333). Log entry 98. -/
def formEntry (s : State) (kind src body : Nat) : State :=
  let e : JEntry := { j := s.jrn.count, ssn := s.seq.next, kind := kind, src := src, epoch := s.epochs.newest,
                      body := body % 2 ^ 256, starts := s.seq.starts }
  { s with
    seq := { s.seq with next := s.seq.next + 1 }
    jrn := { s.jrn with
      tail := (e :: s.jrn.tail).take 16384
      count := s.jrn.count + 1
      unitAt := if s.jrn.count % 4 = 0 then s.now else s.jrn.unitAt } }

/-- The 64 bytes of a journal entry (R335). -/
def entryBytes (e : JEntry) : List Nat :=
  let b := bytesOf 8 e.ssn ++ bytesOf 2 e.kind ++ bytesOf 2 (e.src % 2048) ++ [1, 0, 0, 0] ++ bytesOf 8 e.epoch
    ++ bytesOf 32 e.body ++ bytesOf 4 e.starts
  b ++ bytesOf 4 (crc32c b)

def entryBlock (e : JEntry) : Block := BitVec.ofNat 512 (ofBytes (entryBytes e))

/-! ### Event delivery (R339 to R349) -/

/-- The first 30 bytes of an event record and its CRC (R339); `phase` is FLAGS bit 0. -/
def recBytes (r : EvRec) (phase : Bool) : List Nat :=
  let b := bytesOf 8 r.ssn ++ bytesOf 2 (r.src % 2048) ++ bytesOf 2 r.code ++ [r.sev % 256, r.flags + b2n phase]
    ++ bytesOf 8 r.arg0 ++ bytesOf 8 r.arg1
  b ++ bytesOf 2 (crc16 b)

/-- Bytes 8 to 29 of a record: the BODY of its EVENT entry (R336). -/
def recBody (src code sev flags arg0 arg1 : Nat) : Nat :=
  ofBytes (bytesOf 2 (src % 2048) ++ bytesOf 2 code ++ [sev % 256, flags] ++ bytesOf 8 arg0 ++ bytesOf 8 arg1)

/-- The ring a source goes to: a change acts from the next CCLK (R342, R353). -/
def routeOf (s : State) (src : Nat) : Fin 4 :=
  let s := before s
  if expert s 0x0A0000 then
    ⟨csrFld s (0x0A0200 + 4 * (src / 16)) (2 * (src % 16)) 2 % 4, Nat.mod_lt _ (by decide)⟩
  else 0

/-- A record of a source is masked (R342). -/
def isMasked (s : State) (src sev : Nat) : Bool :=
  let s := before s
  expert s 0x0A0000 && decide (sev ≠ sevFatal) && decide (csrFld s (0x0A0400 + 4 * (src / 32)) (src % 32) 1 = 1)

/-- A severity of `EVT.SEV` in force: 0 pin, 4 alert, 8 SIG (R351). -/
def sevLimit (s : State) (lo : Nat) : Nat := min 4 (csrForceFld (before s) 0x0A0004 lo 3)

/-- `EVT.STAT.FATAL_PEND` (R347). -/
def fatalPend (s : State) : Bool := decide (s.evt.fatalAck < s.evt.fatalSsn)

/-- Drop the first element that meets a condition. -/
def eraseFirst {α : Type} (p : α → Bool) : List α → List α
  | [] => []
  | a :: l => if p a then l else a :: eraseFirst p l

/-- Put a record into a ring's staging share of 8,192 (R345); the flag tells that a record was discarded. -/
def stage (r : EvRing) (e : EvRec) : EvRing × Bool :=
  if r.waiting.length < 8192 then ({ r with waiting := r.waiting ++ [e] }, false)
  else if sevWarn ≤ e.sev && r.waiting.any (fun x => decide (x.sev < sevWarn)) then
    ({ r with waiting := eraseFirst (fun x => decide (x.sev < sevWarn)) r.waiting ++ [e], lostBefore := true,
              lostSince := r.lostSince + 1 }, true)
  else if e.sev = sevFatal && r.waiting.any (fun x => decide (x.sev ≠ sevFatal)) then
    ({ r with waiting := eraseFirst (fun x => decide (x.sev ≠ sevFatal)) r.waiting ++ [e], lostBefore := true,
              lostSince := r.lostSince + 1 }, true)
  else ({ r with lostBefore := true, lostSince := r.lostSince + 1 }, true)

/-- A SIG waits at a port (R84): at most 16, the oldest discarded. -/
def sigPush (e : EvRec) (p : PortSt) : PortSt :=
  if p.sigWait.length < 16 then { p with sigWait := p.sigWait ++ [e] }
  else { p with sigWait := p.sigWait.drop 1 ++ [e], sigLost := true }

/-- A record enters the management FIFO (R348). -/
def mfifoPush (e : EvRec) (v : EvtSt) : EvtSt :=
  if v.mfifo.length < 64 then { v with mfifo := v.mfifo ++ [e], alertN := true }
  else { v with mfifo := v.mfifo.drop 1 ++ [e], mfifoOvf := true, alertN := true }

/-- A FATAL record stays pending until it is acknowledged (R347). -/
def deliverFatal (s : State) (e : EvRec) : State :=
  if e.sev = sevFatal then { s with evt := { s.evt with fatalSsn := e.ssn, alertN := s.evt.alertN || !fatalPend s } } else s

/-- A record waits in its ring's share; one that must be discarded is counted (R345, R354). -/
def deliverRing (s : State) (k : Fin 4) (e : EvRec) : State × Bool :=
  let r := stage s.evt.rings[k] e
  let t := { s with evt := { s.evt with rings := s.evt.rings.set k r.1 } }
  (if r.2 then bump (0x0A0114 + 0x20 * k.val) 1 t else t, r.2)

/-- A record of SIG severity waits at every port of `EVT.SIGPORTS` (R346). -/
def deliverSigs (s : State) (e : EvRec) : State :=
  if !s.evt.stopped && decide (sevLimit s 8 ≤ e.sev) then
    let ps := csrForceFld (before s) 0x0A0008 0 16
    { s with ports := Vector.ofFn fun i : Fin 16 => if ps.testBit i.val then sigPush e s.ports[i] else s.ports[i] }
  else s

/-- A record of alert severity enters the management FIFO (R348). -/
def deliverMgmt (s : State) (e : EvRec) : State :=
  if !s.evt.stopped && decide (sevLimit s 4 ≤ e.sev) then { s with evt := mfifoPush e s.evt } else s

/-- Deliver a record (R342 to R348). The second component names the ring that discarded a record. -/
def deliver (s : State) (e : EvRec) : State × Option (Fin 4) :=
  let s := deliverFatal s e
  if isMasked s e.src e.sev then (s, none)
  else
    let k := routeOf s e.src
    let d := deliverRing s k e
    (deliverMgmt (deliverSigs d.1 e) e, if d.2 then some k else none)

/-- Issue an event: its journal entry where it is journalled and no entry of another kind serves it, then its record
(R328, R337). `served` tells that the entry with the SSN one below is already formed. -/
def issueEvent (s : State) (src code sev arg0 arg1 : Nat) (journalled deferred served : Bool) : State × Option (Fin 4) :=
  let flags := 2 * b2n journalled + 8 * b2n deferred
  let s := if journalled && !served then
      formEntry s 0x000B src (recBody src code sev flags arg0 arg1) else s
  let e : EvRec := { ssn := s.seq.next, src := src, code := code, sev := sev, flags := flags,
                     arg0 := arg0 % 2 ^ 64, arg1 := arg1 % 2 ^ 64 }
  deliver { s with seq := { s.seq with next := s.seq.next + 1 } } e

/-- Severity of a held record for the discard order of R331; entries and journalled events are never discarded. -/
def heldSev : Held → Option Nat
  | .entry _ _ _ => none
  | .event _ _ sev _ _ j _ => if j then none else some sev

/-- Put a record into the start buffer of 1,024 (R331). -/
def pushHeld (q : SeqSt) (h : Held) : SeqSt :=
  let b := q.buf ++ [h]
  if b.length ≤ 1024 then { q with buf := b }
  else
    let q := { q with dropped := satAdd 255 q.dropped 1 }
    if b.any (fun x => heldSev x = some sevInfo) then { q with buf := eraseFirst (fun x => heldSev x = some sevInfo) b }
    else if b.any (fun x => heldSev x = some sevNotice) then
      { q with buf := eraseFirst (fun x => heldSev x = some sevNotice) b }
    else if b.any (fun x => (heldSev x).isSome) then { q with buf := eraseFirst (fun x => (heldSev x).isSome) b }
    else { q with buf := b }

/-- Write a journal entry (R334), or hold it until the series value is decided (R331). Log entry 98. -/
def journal (s : State) (kind src body : Nat) : State :=
  if s.seq.decided then formEntry s kind src body else { s with seq := pushHeld s.seq (.entry kind src body) }

/-- The rate limits: is the event under `key` due, and what its suppressed count is (R576). -/
def limitDue (s : State) (key period : Nat) : Option Nat :=
  let (t, c) := smGet (0, 0) s.evt.limits key
  if t = 0 ∨ t - 1 + period ≤ s.now then some c else none

def limitSet (s : State) (key : Nat) (v : Nat × Nat) : State :=
  { s with evt := { s.evt with limits := smSet (0, 0) s.evt.limits key v } }

/-- EVT_LOST of a ring (R345, R354), at most once per 1 ms per ring; it raises no further EVT_LOST itself. -/
def raiseLost (s : State) (k : Fin 4) : State :=
  let key := (1464 + k.val) * 65536 + 0x0600
  match limitDue s key 1600000 with
  | none => s
  | some _ =>
    let n := s.evt.rings[k].lostSince
    let s := limitSet s key (s.now + 1, 0)
    let s := { s with evt := { s.evt with rings := s.evt.rings.set k { s.evt.rings[k] with lostSince := 0 } } }
    (issueEvent s (1464 + k.val) 0x0600 sevWarn n k.val true false false).1

/-- Raise an event. -/
def raiseX (s : State) (src code sev arg0 arg1 : Nat) (journalled deferred served : Bool) : State :=
  if s.seq.decided then
    let (s, lost) := issueEvent s src code sev arg0 arg1 journalled deferred served
    match lost with
    | some k => raiseLost s k
    | none => s
  else { s with seq := pushHeld s.seq (.event src code sev arg0 arg1 journalled deferred) }

/-- Raise an event that is not journalled. Log entry 98. -/
def raise (s : State) (src code sev arg0 arg1 : Nat) : State := raiseX s src code sev arg0 arg1 false false false

/-- Raise a journalled event with its own EVENT entry (R337). Log entry 98. -/
def raiseJ (s : State) (src code sev arg0 arg1 : Nat) : State := raiseX s src code sev arg0 arg1 true false false

/-- Raise an event at most once per `period` CCLK under its key (R576); the suppressed count fills argument 1
(`sup` 1), stands in its upper half (2) or is not carried (0). Log entry 74. -/
def raiseLim (s : State) (key period src code sev arg0 arg1 sup : Nat) (journalled : Bool) : State :=
  match limitDue s key period with
  | none =>
    let (t, c) := smGet (0, 0) s.evt.limits key
    limitSet s key (t, satAdd 0xFFFFFFFF c 1)
  | some c =>
    let s := limitSet s key (s.now + 1, 0)
    raiseX s src code sev arg0 (if sup = 1 then c else if sup = 2 then arg1 + c * 2 ^ 32 else arg1) journalled false false

/-- The key of a source and code. -/
def evKey (src code : Nat) : Nat := src * 65536 + code

/-- CCLK in 1 ms and in 10 us. -/
def ms : Nat := 1600000
def us10 : Nat := 16000

/-- The first port-or-path REG_WRITE entry of R334: an accepted write to an RWL (0), DW (1) or settings-backed (2) field. -/
def journalReg (s : State) (path addr value kind : Nat) : State :=
  journal s 0x0004 1472 (bodyAt 24 addr + bodyAt 27 path + bodyAt 28 value + bodyAt 32 kind)

/-- REG_ACCESS (R550). -/
def regAccess (s : State) (addr path reason : Nat) : State :=
  raiseLim s (evKey 1473 0x0F00) ms 1473 0x0F00 sevWarn (addr + path * 2 ^ 24 + reason * 2 ^ 32) 0 1 false

/-- REG_DW (R543, R550). -/
def regDw (s : State) (addr path reason : Nat) : State :=
  raiseLim s (evKey 1476 0x0F03) ms 1476 0x0F03 sevWarn (addr + path * 2 ^ 24 + reason * 2 ^ 32) 0 1 false

/-- Hardware changes a DW field of the register at `a`: a dual write pending there is discarded (R542, R543 reason 4). -/
def dwHardware (s : State) (a : Nat) : State :=
  let s := match s.regs.dual with
    | some d => if d.addr = a then regDw { s with regs := { s.regs with dual := none } } a d.path 4 else s
    | none => s
  match s.regs.dualK with
  | some d => if d.addr = a then regDw { s with regs := { s.regs with dualK := none } } a d.path 4 else s
  | none => s

/-- Hold a record of the series: decide the series value and issue the RESET entry first, then the held records (R331). -/
def issueHeld (s : State) (h : Held) : State :=
  match h with
  | .entry k src body => formEntry s k src body
  | .event src code sev a0 a1 j d => (issueEvent s src code sev a0 a1 j d false).1

/-! ### Ports: sources, responses, PCTL -/

/-- Port p's event source (R101). -/
def portSrc (p : Port) (off : Nat) : Nat := 768 + 16 * p.val + off
/-- Pseudo-channel n's event source (R341). -/
def pcSrc (n off : Nat) : Nat := 12 * n + off

/-- A register of port p, of pseudo-channel n. -/
def portReg (p : Port) (off : Nat) : Nat := 0x020000 + 0x1000 * p.val + off
def pcReg (n off : Nat) : Nat := 0x040000 + 0x400 * n + off

/-- A response reaches a port's egress; a response with PROTO counts in PROTOERR (R102). -/
def respond (s : State) (p : Port) (r : Resp) : State :=
  let s := s.modPort p fun q => { q with egress := q.egress ++ [r] }
  if r.status = stProto then bump (portReg p 0x018) 1 s else s

/-- A PCTL_UP frame is sent; where `await`, its answer is awaited (R71). Log entry 14. -/
def pctlSend (s : State) (p : Port) (cmd arg : Nat) (await : Bool) : State :=
  s.modLink p fun l =>
    { l with pctlUp := some (cmd, arg)
             pctlSent := (if l.pctlAt = s.now then l.pctlSent else []) ++ [pctlFrame cmd arg], pctlAt := s.now
             pctl := if await then some { cmd := cmd, arg := arg, sentAt := s.now } else l.pctl }

/-- PROTO_NOCREDIT, PROTO_DUPTAG, PROTO_FORMAT, MARK_REFUSED: once per 10 us for each code (R101). -/
def protoEvent (s : State) (p : Port) (code arg0 : Nat) : State :=
  raiseLim s (evKey (portSrc p 4) code) us10 (portSrc p 4) code sevWarn arg0 0 1 false

end Sys2Proof.Machine
end

