-- ==== Sys2Proof/Machine/WxOps.lean ====
section
/-! DEFINITION. Fields of Wetex descriptors (R301) and what other parts of the stack do to active ones: ends, acknowledgements,
failures of SYNC writes, soft repairs that end or are abandoned. -/

namespace Sys2Proof.Machine

/-! ### Descriptors (R301) -/

def WxDesc.opc (d : WxDesc) : Nat := if d.bad then 0 else bitsOf d.desc.toNat 0 8
def WxDesc.notify (d : WxDesc) : Bool := !d.bad && d.desc.toNat.testBit 8
def WxDesc.userTag (d : WxDesc) : Nat := if d.bad then 0 else bitsOf d.desc.toNat 32 32
def WxDesc.adrA (d : WxDesc) : Nat := bitsOf d.desc.toNat 64 37
def WxDesc.adrB (d : WxDesc) : Nat := bitsOf d.desc.toNat 128 37
def WxDesc.len (d : WxDesc) : Nat := bitsOf d.desc.toNat 192 32
def WxDesc.opd (d : WxDesc) (i : Nat) : Nat := bitsOf d.desc.toNat (256 + 64 * i) 64

/-! Engine statuses (R306). -/
def wxParam : Nat := 0x10
def wxAddr : Nat := 0x11
def wxUnsup : Nat := 0x12
def wxOffline : Nat := 0x13
def wxFenced : Nat := 0x14
def wxRefused : Nat := 0x15
def wxBusy : Nat := 0x16
def wxDescErr : Nat := 0x17

def wxModRing (s : State) (r : Fin 64) (f : WxRing → WxRing) : State :=
  { s with wetex := { s.wetex with rings := s.wetex.rings.set r (f s.wetex.rings[r]) } }

/-- Change a pair's descriptor. -/
def wxMod (s : State) (r : Fin 64) (idx : Nat) (f : WxDesc → WxDesc) : State :=
  wxModRing s r fun q => { q with act := q.act.map fun d => if d.idx = idx then f d else d }

/-- A descriptor ends with a status, RESULT and DETAIL. -/
def wxEnd (s : State) (r : Fin 64) (idx st res det : Nat) : State :=
  wxMod s r idx fun d => { d with fin := some (st, res, det), running := false }

/-- `a` is at or before `b` in WSEQ order, modulo 2^32. -/
def seqLe (a b : Nat) : Bool := decide ((b + 2 ^ 32 - a) % 2 ^ 32 < 2 ^ 31)

/-- SYNC writes of descriptors up to WSEQ `q` of window `w` are acknowledged. -/
def wxAcked (s : State) (w q : Nat) : State :=
  let f (d : WxDesc) : WxDesc := { d with waits := d.waits.filter fun x => !(decide (x.1 = w) && seqLe x.2 q) }
  let g (r : WxRing) : WxRing := { r with act := r.act.map f }
  { s with wetex := { s.wetex with rings := s.wetex.rings.map g } }

/-- SYNC writes of descriptors into window `w` have failed (R311, R395). -/
def wxSyncLost (s : State) (w : Nat) : State :=
  let f (d : WxDesc) : WxDesc :=
    { d with mfail := d.mfail || d.waits.any (fun x => decide (x.1 = w)), waits := d.waits.filter fun x => decide (x.1 ≠ w) }
  let g (r : WxRing) : WxRing := { r with act := r.act.map f }
  { s with wetex := { s.wetex with rings := s.wetex.rings.map g } }

/-- The running REPAIR_SOFT descriptors that meet a condition on pseudo-channel, bank and row end. -/
def endRepairs (s : State) (p : Nat → Nat → Nat → Bool) (st res det : Nat) : State :=
  let f (d : WxDesc) : WxDesc :=
    if d.opc = 0x14 && d.running && p (d.opd 0 % 64) (bitsOf (d.opd 0) 6 5) (bitsOf (d.opd 0) 11 16) then
      { d with fin := some (st, res, det), running := false } else d
  let g (r : WxRing) : WxRing := { r with act := r.act.map f }
  { s with wetex := { s.wetex with rings := s.wetex.rings.map g } }

end Sys2Proof.Machine
end

