-- ==== Sys2Proof/Machine/EpochOps.lean ====
section
/-! DEFINITION. Epoch members, tags and bitmaps (R272 to R284): what memory writes and ports need of them. -/

namespace Sys2Proof.Machine

/-- A member of the epoch set (R272): 0 to 15 the ports, 16 ENGINE, 17 MIRROR. -/
def isMember (s : State) (m : Nat) : Bool := s.epochs.portset.getLsbD m

/-- Current epoch of member m. -/
def curEpoch (s : State) (m : Member) : Nat := s.epochs.cur[m]

/-- The closed epoch next below the open ones (R276). -/
def newestClosed (s : State) : Nat :=
  if s.epochs.two then (s.epochs.newest + 2 ^ 64 - 2) % 2 ^ 64 else (s.epochs.newest + 2 ^ 64 - 1) % 2 ^ 64

/-- Epoch E is open (R276, R277). -/
def epochOpen (s : State) (e : Nat) : Bool :=
  decide (e = s.epochs.newest) || (s.epochs.two && decide (e + 1 = s.epochs.newest))

/-- Epoch E is closed: below the open ones. -/
def epochClosed (s : State) (e : Nat) : Bool := decide (e < s.epochs.newest) && !epochOpen s e

/-- Epoch E is retained (R282): N - 3 to N. -/
def epochRetained (s : State) (e : Nat) : Bool := decide (e ≤ s.epochs.newest) && decide (s.epochs.newest ≤ e + 3)

/-- The bitmap of a retained epoch; one not listed is empty (R277). -/
def epochBits (s : State) (e : Nat) : Nat :=
  match s.epochs.maps.find? (fun m => m.epoch = e) with
  | some m => m.bits
  | none => 0

/-- The Keeper region's granules are always 0 (R281). -/
def keeperGranule (g : Nat) : Bool := decide (1571840 ≤ g)

/-- Set a granule in one epoch's bitmap. -/
def setMapBit (maps : List EpMap) (e g : Nat) : List EpMap :=
  maps.map fun m => if m.epoch = e then { m with bits := m.bits ||| 2 ^ g } else m

/-- A write tagged with epoch `e` marks its granule in its bitmap and in the cumulative map (R283). -/
def markGranule (s : State) (e g : Nat) : State :=
  if keeperGranule g then s else
  { s with epochs := { s.epochs with cum := s.epochs.cum ||| 2 ^ g, maps := setMapBit s.epochs.maps e g } }

/-- The tag of a write (R273): a member's given epoch, or the newest open epoch. -/
def tagOf (s : State) (t : Option Nat) : Nat := t.getD s.epochs.newest

/-- A tagged write enters the drain domain. -/
def tagWrite (s : State) (t : Option Nat) (blk : Nat) : State := markGranule s (tagOf s t) (granuleOf blk)

/-- The tag of a port's write by its place in the order of arrival (R96, R273): none where the port is no member. -/
def portTag (s : State) (p : Port) (ord : Nat) : Option Nat :=
  if isMember s p.val then
    let c := s.epochs.cur[p.val]
    some (if s.ports[p].lastMark < ord then c else c - 1)
  else none

/-- A member leaves the set at once (R279). -/
def dropMember (s : State) (m : Member) : State :=
  if isMember s m.val then
    let clr (b : BitVec 18) : BitVec 18 := b &&& ~~~(1#18 <<< m.val)
    let s := { s with epochs := { s.epochs with
                        portset := clr s.epochs.portset
                        pendingSet := s.epochs.pendingSet.map clr } }
    let s := { s with regs := { s.regs with hwField := (0x0A0800, 2 ^ m.val) :: s.regs.hwField } }
    raiseJ s 1456 0x0402 sevNotice m.val s.epochs.cur[m]
  else { s with epochs := { s.epochs with pendingSet := s.epochs.pendingSet.map (fun b => b &&& ~~~(1#18 <<< m.val)) } }

end Sys2Proof.Machine
end

