-- ==== Sys2Proof/Machine/TransitOps.lean ====
section
/-! DEFINITION. What other units need of Transit (R477 to R493): the verdict, the effect of a march, the abort of a run. -/

namespace Sys2Proof.Machine

/-- DETAIL of R487. -/
def transitDetail (t : TransitSt) : Nat :=
  t.log.length + 128 * b2n t.ovf + 256 * (t.skipped % 1024) + 2 ^ 20 * t.abortCause

/-- The verdict of a run that was not refused (R486). -/
def transitVerdict (t : TransitSt) : Nat :=
  if !t.done || decide (t.cycles ≠ t.expect) then 3
  else if t.sig ≠ t.sigexp ∨ t.log ≠ [] ∨ t.ovf then 2 else 1

/-- The 64 KiB granules that hold units of rows `lo` to `hi` of a pseudo-channel, as a bitmap. -/
def rangeGranules (s : State) (n lo hi : Nat) : Nat :=
  (List.range (hi + 1 - lo)).foldl (fun a r =>
    (List.range 128).foldl (fun a k => a ||| 2 ^ granuleOf (blkOf s.dram.mapActive ⟨n, k / 4, lo + r, 4 * (k % 4)⟩)) a) 0

/-- Granules outside the Keeper region (R281). -/
def hostGranules : Nat := 2 ^ 1571840 - 1

/-- Every granule of a range is marked in the newest open epoch and in the cumulative map (R480). Log entry 64. -/
def markRange (s : State) (n lo hi : Nat) : State :=
  let g := rangeGranules s n lo hi &&& hostGranules
  let f (m : EpMap) : EpMap := if m.epoch = s.epochs.newest then { m with bits := m.bits ||| g } else m
  { s with epochs := { s.epochs with cum := s.epochs.cum ||| g, maps := s.epochs.maps.map f } }

/-- The stored words of a row range are dropped: every block reads as zero data (`zero`), or holds no code word. -/
def rangeErase (s : State) (zero : Bool) (n lo hi : Nat) : State :=
  let out (blk : Nat) : Bool :=
    let c := coordOf s.dram.mapActive blk
    !(decide (c.pc = n) && decide (lo ≤ c.row) && decide (c.row ≤ hi))
  let keep (e : Option (Nat × Nat)) : Option (Nat × Nat) :=
    match e with
    | some x => if out x.1 then some x else none
    | none => none
  { s with dram := { s.dram with
      mem := s.dram.mem.filter fun e => out (e.1 / 64)
      chk := s.dram.chk.filter fun e => out (e.1 / 8)
      written := s.dram.written.filter out
      poison := s.dram.poison.map keep
      marched := (zero, n, lo, hi) :: s.dram.marched } }

/-- Elements of a march (R479). -/
def algoElements (a : Nat) : Nat := if a = 0 then 3 else if a = 2 then 5 else 6

/-- Operations per block of a march (R479). Log entry 50. -/
def algoOps (a : Nat) : Nat := if a = 0 then 5 else if a = 2 then 17 else 10

/-- A march that has ended has opened each row once for each element, and applied its operations to the row's 16 blocks (R196,
R479). Log entry 50. -/
def marchActs (s : State) (n lo hi algo : Nat) : State :=
  let rows := 32 * (hi + 1 - lo)
  let acts := algoElements algo * rows
  let cols := 16 * algoOps algo * rows
  let s := bump (pcReg (n % 64) 0x010) acts (bump (pcReg (n % 64) 0x00C) (cols - acts) s)
  s.modPc (pcFin n) fun c => { c with beats := c.beats + 8 * cols }

/-- What a march leaves behind, with its MARCH_RANGE entry (R480); `whole` marks a range an abort took as the whole. -/
def marchLeaves (s : State) (n lo hi algo : Nat) (whole : Bool) : State :=
  let s := if whole then s else marchActs s n lo hi algo
  let s := markRange (rangeErase s true n lo hi) n lo hi
  journal s 0x000D 1504 (bodyAt 24 n + bodyAt 26 lo + bodyAt 28 hi + bodyAt 30 algo + bodyAt 31 (b2n whole))

/-- Background calibration of the spares under test begins a new period (R122). -/
def spareResume (s : State) : State :=
  s.transit.spareTest.foldl (fun s x =>
    if x.2.1 = 0 then
      let k := 256 * x.1 + (if x.1 < 16 then 68 else 72) + x.2.2
      let at_ := if x.1 < 16 then s.now else s.pcs[pcFin (x.1 - 16)].beats
      { s with train := { s.train with
          lanes := smSet {} s.train.lanes k { smGet {} s.train.lanes k with measured := false, periodAt := at_ } } }
    else s) s

/-- Spares and the way under test return to service. -/
def transitRelease (s : State) : State :=
  let s := spareResume s
  { s with transit := { s.transit with spareTest := [], wayTest := none, pcs := [], running := false, quick := false
                                       desc := none } }

/-- The descriptor of the run completes with its verdict. -/
def transitComplete (s : State) (desc : Option (Nat × Nat)) : State :=
  match desc with
  | some (r, i) => wxEnd s ⟨r % 64, Nat.mod_lt _ (by decide)⟩ i 0 s.transit.verdict (transitDetail s.transit)
  | none => s

/-- A march range is left as lost, with every granule marked. Log entry 64. -/
def marchLost (s : State) : State :=
  s.transit.pcs.foldl (fun s n => markRange (rangeErase s false n 0 49151) n 0 49151) s

/-- PRST_N and HRST_N end a run without a verdict (R484). Log entry 64. -/
def transitStop (s : State) : State :=
  if s.transit.running then transitRelease (marchLost { s with transit := { s.transit with done := false } }) else s

/-- The run in progress is cut short by a cause of R484; verdict INCOMPLETE. At power-fail detection nothing returns. -/
def transitAbort (s : State) (cause : Nat) : State :=
  if !s.transit.running then s else
  let desc := s.transit.desc
  let s := { s with transit := { s.transit with done := false, abortCause := cause, verdict := 3 } }
  let s := if cause = 5 then marchLost s else s.transit.pcs.foldl (fun s n => marchLeaves s n 0 49151 s.transit.algo true) s
  let s := transitRelease s
  let s := raiseJ s 1506 0x0C02 sevWarn cause (s.transit.cycles % 2 ^ 32)
  transitComplete s desc

/-- A repair takes a spare: a run that has it under test is aborted (R126). -/
def transitSpareTaken (s : State) (key : Nat × Nat × Nat) : State :=
  if s.transit.spareTest.contains key then transitAbort s 3 else s

end Sys2Proof.Machine
end

