-- ==== Sys2Proof/Machine/PortOps.lean ====
section
/-! DEFINITION. Port operations shared by several commands: URGENT accounting, failing and resetting a port, credits, lane maps. -/

namespace Sys2Proof.Machine

/-! ### The URGENT guarantee (R150 to R156) -/

/-- The guarantee lapses on a pseudo-channel (R155, R156): causes 1 BANK, 2 PC, 3 PORT, 4 RATE, 5 THROTTLE. -/
def lapse (s : State) (n : Pc) (cause bank port stream : Nat) : State :=
  let s := s.modPc n fun c => { c with lapsed := true, cause := cause, breachAt := s.now }
  raiseLim s (evKey (pcSrc n.val 0) 0x0200) us10 (pcSrc n.val 0) 0x0200 sevWarn
    (cause + bank * 8 + port * 256 + stream * 4096) 0 1 false

/-- The request is outstanding in CCLK `t` (R150). -/
def UrgOut.outAt (u : UrgOut) (t : Nat) : Bool := match u.til with | some x => decide (t < x) | none => true

/-- Drop what is no longer outstanding, and bytes older than 1 us. -/
def pruneUrg (now : Nat) (c : PcSt) : PcSt :=
  { c with urgOut := c.urgOut.filter (·.outAt now), urgBytes := c.urgBytes.filter (fun b => decide (now < b.1 + 1600)) }

/-- URGENT requests of a port outstanding across the stack in CCLK `t`. -/
def portUrgent (s : State) (p t : Nat) : Nat :=
  (s.pcs.toList.map fun c => (c.urgOut.filter fun u => decide (u.port = p) && u.outAt t).length).sum

/-- Which limit of R150 the pseudo-channel breaks in CCLK `t`, for one bank: 0 none. The spec gives no order of causes; BANK is
named first, then PC, then RATE. Log entry 90. -/
def breach (s : State) (n : Pc) (bank t : Nat) : Nat :=
  let c := s.pcs[n]
  let out := c.urgOut.filter (·.outAt t)
  if 1 < (out.filter (fun u => decide (u.bank = bank))).length then 1
  else if 8 < out.length then 2
  else if 6400 < ((c.urgBytes.filter fun b => decide (t < b.1 + 1600)).map (·.2)).sum then 4
  else 0

/-- Some limit of R150 is broken on the pseudo-channel in CCLK `t`. Log entry 90. -/
def anyBreach (s : State) (n : Pc) (t : Nat) : Bool :=
  (List.range 32).any (fun b => decide (breach s n b t ≠ 0)) ||
  s.pcs[n].urgOut.any fun u => u.outAt t && decide (32 < portUrgent s u.port t)

/-- The CCLKs up to now in which a breach can have ended: the last of a request's outstanding time, of a header's microsecond. -/
def breachEnds (s : State) : List Nat :=
  (s.now :: s.pcs.toList.flatMap fun c =>
    (c.urgOut.filterMap fun u => u.til.map (· - 1)) ++ c.urgBytes.map (·.1 + 1599)).filter fun t => decide (t ≤ s.now)

/-- A lapse runs on from the last CCLK in which a limit was broken (R155); called before anything leaves the counts. -/
def noteBreach (s : State) (n : Pc) : State :=
  if s.pcs[n].lapsed then
    let last := ((breachEnds s).filter (anyBreach s n)).foldl max s.pcs[n].breachAt
    s.modPc n fun c => { c with breachAt := last }
  else s

/-- Every pseudo-channel's lapse is brought up to date. -/
def noteAll (s : State) : State := (List.finRange 64).foldl noteBreach s

/-- Count an URGENT request of `bytes` bytes whose header came at `at_`, and check every limit (R150, R155). The port limit is
named last. Log entry 90. -/
def countUrgent (s : State) (p : Port) (n : Pc) (bank bytes id stream at_ : Nat) : State :=
  let s := (noteAll s).modPc n fun c =>
    let c := pruneUrg s.now c
    { c with urgOut := c.urgOut ++ [{ id := id, port := p.val, bank := bank, stream := stream }], urgBytes := c.urgBytes ++ [(at_, bytes)] }
  let b := breach s n bank s.now
  let s := if b ≠ 0 then lapse s n b bank p.val stream else s
  if 32 < portUrgent s p.val s.now then
    (List.finRange 64).foldl (fun s (m : Pc) =>
      if s.pcs[m].urgOut.any (fun u => decide (u.port = p.val) && u.outAt s.now) then lapse s m 3 bank p.val stream else s) s
  else s

/-- A row is held for a targeted refresh (R198). -/
def rowHeld (b : Bank) (row : Nat) : Bool := b.trig.contains row

/-- Class of a request for credits (R80, R81, R89): LATENCY for CFG, MARK and FENCE. -/
def creditClass (k : ReqKind) (w : Slot) : Nat :=
  match k with
  | .rd | .wr | .wrm => slotClass w
  | _ => 1

/-- A credit of a class goes back to the host in the next CRD (R89). -/
def returnCredit (c : Nat) (p : PortSt) : PortSt :=
  if h : c < 3 then { p with returns := p.returns.set c (p.returns[c] + 1) } else p

/-! ### Failing and resetting (R98 to R100) -/

/-- Ids of the staged requests of a port. -/
def stagedOrds (q : PortSt) : List Nat := q.staging.map (·.ord)

/-- Items 2 and 3 of R98: staging is discarded; queued requests are performed and answered to nobody. -/
def discardRequests (s : State) (p : Port) : State :=
  let q := s.ports[p]
  let gone := stagedOrds q
  let mine (e : QEnt) : Bool := decide (e.src = .host p) && !e.noResp
  -- a write in the drain domain has had its response, which is in egress, waits for the partner, or has left
  let owed (e : QEnt) : Bool := mine e && !(e.drained || e.merged)
  let performed (r : Resp) : Bool :=
    decide (r.status ≠ stProto) && decide (r.status ≠ stAddr) && decide (r.status ≠ stOffline) && decide (r.status ≠ stFenced)
  let nq := (s.pcs.toList.map fun c => (c.queue.filter owed).length).sum + (q.egress.filter performed).length
    + (s.mirror.waits.filter fun w => decide (w.port = p) && !w.gone).length
  let clear (c : PcSt) : PcSt :=
    { c with queue := c.queue.map (fun e => if mine e then { e with noResp := true } else e)
             notices := c.notices.filter (fun x => !gone.contains x.id)
             urgOut := c.urgOut.filter (fun u => decide (u.port ≠ p.val)) }
  let wait (w : SyncWait) : SyncWait := if w.port = p then { w with gone := true } else w
  let s := noteAll s
  let s := { s with pcs := s.pcs.map clear, mirror := { s.mirror with waits := s.mirror.waits.map wait } }
  s.modPort p fun q =>
    { q with staging := [], egress := [], unacked := []
             undrained := q.undrained.filter (fun o => !gone.contains o)
             discarded := q.discarded + gone.length, noResp := q.noResp + nq }

/-- Items 2 to 4 of R98: besides, every tag becomes free and waiting SIGs are discarded. -/
def discardPort (s : State) (p : Port) : State :=
  (discardRequests s p).modPort p fun q => { q with tags := [], sigWait := [], sigLost := q.sigLost || !q.sigWait.isEmpty }

/-- A port link fails (R63, R69, R71, R72): reasons 1 REPLAY_STORM, 2 SPARES_EXHAUSTED, 3 PCTL_LOST. The sequence number reported
is the one the receiver expects next. Log entry 87. -/
def failPort (s : State) (p : Port) (reason : Nat) (send : Bool) : State :=
  let seq := s.links[p].rxSeq
  let s := s.modPort p fun q => { q with link := .failed, failReason := reason, resetting := false }
  let s := s.modLink p fun l =>
    { l with pctl := none, repair := none, repairQ := [], heldBack := 0, muted := false, upHeld := none, trn := .idle, gen := none }
  let s := if send then pctlSend s p 0x05 reason false else s
  let s := raiseJ s (portSrc p 3) 0x0104 sevError reason seq
  if reason = 2 then discardRequests (dropMember s ⟨p.val, by omega⟩) p else s

/-- A `PORT[p].CRDINIT` value is valid (R90). -/
def crdValid (v : Nat) : Bool :=
  let u := bitsOf v 0 8; let l := bitsOf v 8 8; let b := bitsOf v 16 8
  decide (8 ≤ u) && decide (1 ≤ l) && decide (1 ≤ b) && decide (u + l + b ≤ 128)

/-- Load the credits (R90, R103). -/
def loadCredits (s : State) (p : Port) : State :=
  let v := csrGet s (portReg p 4)
  if crdValid v then
    s.modPort p fun q => { q with credits := #v[bitsOf v 0 8, bitsOf v 8 8, bitsOf v 16 8], returns := #v[0, 0, 0] }
  else
    let s := s.modPort p fun q => { q with credits := #v[32, 64, 32], returns := #v[0, 0, 0] }
    raise s (portSrc p 6) 0x0109 sevWarn v 0

/-- A port comes up: credits, scramblers, sequence numbers (R51, R53, R84, R90). -/
def portUp (s : State) (p : Port) : State :=
  let s := loadCredits s p
  let s := s.modPort p fun q => { q with link := .up, sigLost := false, sigCred := 0, resetting := false }
  s.modLink p fun l =>
    { l with rxSeq := 0, txSeq := 0, replay := [], failedCopy := none, failCount := 0, nakPending := false
             ackPending := false, resendFrom := none, scrDn := scrSeeds, scrUp := scrSeeds, trn := .idle, gen := none
             pctl := none, repair := none, repairQ := [], heldBack := 0, muted := false, upHeld := none }

/-! ### Lane maps (R66 to R69) -/

/-- Spares of a map in use. -/
def sparesUsed (m : Vector (Option Nat) 4) : Nat := (m.toList.filter (·.isSome)).length

/-- The lowest spare neither in use nor excluded (R66): under Transit test, or marked failed by it (R478). -/
def freeSpare (m : Vector (Option Nat) 4) (testing : Nat → Bool) : Option (Fin 4) :=
  (List.finRange 4).find? fun i => m[i].isNone && !testing i.val

/-- LANE_REMAP and SPARES_LOW (R101); `left` is the number of spares the direction has left. -/
def remapEvents (s : State) (p : Port) (arg dir left : Nat) : State :=
  let s := raise s (portSrc p 1) 0x0102 sevNotice arg left
  if left = 0 then raise s (portSrc p 2) 0x0103 sevWarn dir 0 else s

/-- A spare of a port's downstream direction has been found bad. -/
def dnSpareBad (s : State) (p : Port) (i : Nat) : Bool := (smGet {} s.train.lanes (256 * p.val + 68 + i)).failed

/-- A spare of a port's upstream direction has been found bad. -/
def upSpareBad (s : State) (p : Port) (i : Nat) : Bool := s.links[p].upBad.contains (68 + i)

/-- Good spares of a map not in use. -/
def sparesLeft (m : Vector (Option Nat) 4) (bad : Nat → Bool) : Nat :=
  ((List.finRange 4).filter fun i => m[i].isNone && !bad i.val).length

/-- A logical lane is carried on a spare, and on no other (R66). -/
def remapLane (m : Vector (Option Nat) 4) (lane : Nat) (i : Fin 4) : Vector (Option Nat) 4 :=
  (m.map fun x => if x = some lane then none else x).set i (some lane)

/-- A region's calibration record is due, at once where its lane map changed (R125). -/
def recordDue (s : State) (rec : Fin 81) (map : Bool) : State :=
  let r := s.train.recs[rec]
  let r := { r with due := true, mapDue := r.mapDue || map }
  { s with train := { s.train with recs := s.train.recs.set rec r } }

end Sys2Proof.Machine
end

