-- ==== Sys2Proof/Machine/Mem.lean ====
section
/-! DEFINITION. Memory contents: code words in DRAM and in Lagoon lines, the Fresh Map and its claims, poison, the repeat table,
what a read of a block yields and starts (R212 to R246). -/

namespace Sys2Proof.Machine

/-! ### Bytes and code words -/

/-- One byte of DRAM; a byte no write has reached reads as 0 (log entry 10). -/
def memByte (m : List Host.Cell) (a : Nat) : Byte := smGet 0 m a

/-- Write bytes at ascending addresses. Log entry 8. -/
def memPut (m : List Host.Cell) (a : Nat) (bs : List Nat) : List Host.Cell :=
  match bs with
  | [] => m
  | b :: r => memPut (smSet 0 m a (BitVec.ofNat 8 b)) (a + 1) r

/-- The 64 data bytes of a block of DRAM. -/
def memBlock (m : List Host.Cell) (blk : Nat) : Block :=
  BitVec.ofNat 512 (ofBytes ((List.range 64).map fun i => (memByte m (64 * blk + i)).toNat))

/-- The check symbols of a block of DRAM. Log entries 8, 10. -/
def chkWord (c : SMap Byte) (blk : Nat) : DWord :=
  BitVec.ofNat 64 (ofBytes ((List.range 8).map fun i => (smGet 0 c (8 * blk + i)).toNat))

/-- What the newest march over a block has left, where one has covered it: zero data, or contents lost (R480, R484).
Log entry 10. -/
def marchLeft (s : State) (blk : Nat) : Option Bool :=
  let c := coordOf s.dram.mapActive blk
  (s.dram.marched.find? fun m => decide (m.2.1 = c.pc) && decide (m.2.2.1 ≤ c.row) && decide (c.row ≤ m.2.2.2)).map (·.1)

/-- The block holds a code word (R229): written since the wipe, left by a march, covered by TideFill, or in the Keeper region.
Log entry 10. -/
def blkWritten (s : State) (blk : Nat) : Bool :=
  s.dram.written.contains blk || decide (keeperBase ≤ 64 * blk) || (marchLeft s blk).getD s.dram.all

/-- The lanes of a pseudo-channel in a burst of a code word: each data and check lane its scrambled symbol, a spare in use that
of its lane, an idle spare its latch (R106). -/
def burstOf (gen blk : Nat) (b : Block) (c : DWord) (spares : List (Option Nat)) (latch : List Byte) : List Byte :=
  let w := scrambleWord gen blk (blockBytes b ++ bytesOf 8 c.toNat)
  w ++ (spares.zip latch).map fun x => match x.1 with | some l => w.getD l 0 | none => x.2

/-- A burst of a block crosses the TSV lanes (R106): a write burst loads the latches of the idle spares with their keystream, a
read burst drives them back. Log entry 17. -/
def tsvBurst (s : State) (blk : Nat) (b : Block) (c : DWord) (write : Bool) : State :=
  let gen := s.start.keyGen
  s.modPc (pcFin (coordOf s.dram.mapActive blk).pc) fun p =>
    let latch := if write then #v[keystream gen blk 72, keystream gen blk 73] else p.latch
    { p with latch := latch, burst := burstOf gen blk b c p.spares.toList latch.toList, beats := p.beats + 8 }

/-- Write a code word into DRAM. Log entry 8. -/
def dramWrite (s : State) (blk : Nat) (b : Block) (c : DWord) : State :=
  let s := tsvBurst s blk b c true
  { s with dram := { s.dram with
      mem := memPut s.dram.mem (64 * blk) (blockBytes b)
      chk := memPut s.dram.chk (8 * blk) (bytesOf 8 c.toNat)
      written := if blkWritten s blk then s.dram.written else setInsert s.dram.written blk } }

/-- Flip bits of stored symbols: the upsets that strike a word before it is read. -/
def dramUpset (s : State) (u : Upset) : State :=
  let b := memBlock s.dram.mem u.blk
  let c := chkWord s.dram.chk u.blk
  let b' := if u.sym < 64 then b ^^^ BitVec.ofNat 512 (symBits u.sym u.flip.toNat) else b
  let c' := if u.sym < 64 then c else c ^^^ BitVec.ofNat 64 (u.flip.toNat * 2 ^ (8 * (u.sym - 64)))
  if blkWritten s u.blk && decide (u.sym < 72) then
    { s with dram := { s.dram with mem := memPut s.dram.mem (64 * u.blk) (blockBytes b')
                                   chk := memPut s.dram.chk (8 * u.blk) (bytesOf 8 c'.toNat) } }
  else s

/-! ### Lagoon lines -/

/-- The line that holds a unit. -/
def lineOf (s : State) (unit : Nat) : Option Line := s.lagoon.lines.find? fun l => decide (l.unit = unit)

/-- The line in which a block is valid. -/
def validLine (s : State) (blk : Nat) : Option Line :=
  match lineOf s (blk / 4) with
  | some l => if l.valid.testBit (blk % 4) then some l else none
  | none => none

/-- Index of a block within its unit. -/
def inUnit (blk : Nat) : Fin 4 := ⟨blk % 4, Nat.mod_lt _ (by decide)⟩

/-- Replace the line of a unit. -/
def putLine (s : State) (l : Line) : State :=
  { s with lagoon := { s.lagoon with lines := s.lagoon.lines.map fun k => if k.unit = l.unit then l else k } }

/-- Remove the line of a unit. -/
def dropLine (s : State) (unit : Nat) : State :=
  { s with lagoon := { s.lagoon with lines := s.lagoon.lines.filter fun k => decide (k.unit ≠ unit) } }

/-- Dirty lines, reserve lines included (R176). -/
def dirtyLines (s : State) : Nat := (s.lagoon.lines.filter fun l => decide (l.dirty ≠ 0)).length

/-- A line without some blocks: no longer valid, dirty or drawn for a write-back. -/
def Line.without (l : Line) (mask : Nat) : Line :=
  let k := 15 ^^^ mask
  { l with valid := l.valid &&& k, dirty := l.dirty &&& k, wb := l.wb &&& k, again := l.again &&& k, urg := l.urg &&& k }

/-- Blocks are invalidated in a line; an empty line is free. -/
def invalidate (s : State) (l : Line) (mask : Nat) : State :=
  let k := l.without mask
  if k.valid = 0 then dropLine s l.unit else putLine s k

/-- The line's way is under recovery, waits for its own, or is being emptied for a test (R179, R182). -/
def underWalk (s : State) (l : Line) : Bool :=
  decide (s.lagoon.recovering = some l.way) || decide (s.transit.wayTest = some l.way) || decide (s.lagoon.nextWay.map (·.1) = some l.way)

/-- Write a code word into a line: the block becomes valid and dirty; a block under write-back becomes dirty again (R175); an
URGENT write is to be written through, unless the line is captured (R169). -/
def lineWrite (s : State) (l : Line) (blk : Nat) (b : Block) (c : DWord) (urgent : Bool) : State :=
  let i := inUnit blk
  let bit := 2 ^ i.val
  putLine s { l with data := l.data.set i b, chk := l.chk.set i c, valid := l.valid ||| bit, dirty := l.dirty ||| bit
                     again := if l.wb.testBit i.val then l.again ||| bit else l.again
                     urg := if urgent && !l.captured then l.urg ||| bit else l.urg
                     usedAt := s.now, wroteAt := s.now }

/-- Where a finished write goes: into the line in which its block is valid, else into DRAM (R167). A way under recovery takes
no write: the block is invalidated there (R179). -/
def commitWrite (s : State) (blk : Nat) (b : Block) (c : DWord) (urgent : Bool) : State :=
  match validLine s blk with
  | some l =>
    if underWalk s l then dramWrite (invalidate s l (2 ^ (blk % 4))) blk b c else lineWrite s l blk b c urgent
  | none => dramWrite s blk b c

/-! ### The Fresh Map and its claims (R231 to R234) -/

/-- The page of a block reads as written. -/
def pageWritten (s : State) (blk : Nat) : Bool :=
  s.dram.freshAll || s.dram.fresh.contains (pageOf blk) || decide (keeperBase ≤ 64 * blk)

/-- A host, Wetex or mirror apply write sets the bit of its page. -/
def freshSet (s : State) (blk : Nat) : State :=
  if s.dram.freshAll then s else { s with dram := { s.dram with fresh := setInsert s.dram.fresh (pageOf blk) } }

/-- The claim that covers a block, while some fill of it has not entered its queue. -/
def claimOf (s : State) (blk : Nat) : Option Claim := s.dram.claims.find? fun c => decide (c.page = pageOf blk)

/-- The block awaits its claim's fill: it reads as zero with OK. -/
def claimZero (s : State) (blk : Nat) : Bool :=
  match claimOf s blk with
  | some c => !c.done.getLsbD (blk % 64)
  | none => false

/-- An entry of the claim table is free (R233). -/
def claimRoom (s : State) : Bool := decide (s.dram.claims.length < 256)

/-- A write of a block enters its queue: the claim's fill leaves it out. -/
def claimDone (s : State) (blk : Nat) : State :=
  let f (c : Claim) : Claim := if c.page = pageOf blk then { c with done := c.done ||| (1#64 <<< (blk % 64)) } else c
  { s with dram := { s.dram with claims := (s.dram.claims.map f).filter fun c => decide (c.done ≠ BitVec.allOnes 64) } }

/-! ### Poison (R218 to R228) -/

/-- Check symbols of a poisoned block (R218). -/
def poisonCheck (b : Block) : DWord := rsCheck b ^^^ poisonMask

/-- The first free entry of the poison list. -/
def poisonFree (s : State) : Option (Fin 512) := (List.finRange 512).find? fun i => s.dram.poison[i].isNone

/-- The entry of a block on the poison list. -/
def poisonIdx (s : State) (blk : Nat) : Option (Fin 512) :=
  (List.finRange 512).find? fun i => decide ((s.dram.poison[i].map (·.1)) = some blk)

/-- A poisoned block joins the list, or meets R228. Log entry 34. -/
def poisonList (s : State) (blk finder : Nat) : State :=
  match poisonIdx s blk with
  | some _ => s
  | none =>
    match poisonFree s with
    | some i => { s with dram := { s.dram with poison := s.dram.poison.set i (some (blk, finder)) } }
    | none =>
      let n := (coordOf s.dram.mapActive blk).pc
      let s := { s with dram := { s.dram with listFull := true } }
      raise s (pcSrc n 9) 0x0226 sevWarn (64 * blk) 0

/-- The SSN the next journal entry takes. -/
def nextSsn (s : State) : Nat := s.seq.next

/-- A write has removed a block's poison (R223). -/
def poisonClear (s : State) (blk : Nat) : State :=
  match poisonIdx s blk with
  | none => s
  | some i =>
    let n := (coordOf s.dram.mapActive blk).pc
    let s := { s with dram := { s.dram with poison := s.dram.poison.set i none } }
    raiseJ s (pcSrc n 7) 0x0223 sevNotice (64 * blk) (nextSsn s)

/-- UNCORR_FOUND (R225, R252). Log entry 34. -/
def uncorrFound (s : State) (blk finder : Nat) (poisoned offline : Bool) : State :=
  let n := (coordOf s.dram.mapActive blk).pc
  let a0 := 64 * blk + finder * 2 ^ 37 + b2n poisoned * 2 ^ 40 + b2n offline * 2 ^ 41
  if poisoned then raiseJ s (pcSrc n 7) 0x0222 sevError a0 (nextSsn s) else raise s (pcSrc n 7) 0x0222 sevError a0 0

/-- Steps 2 to 4 of R225, when the poisoning write has entered its queue. -/
def poisonSteps (s : State) (blk finder : Nat) : State :=
  let s := poisonList s blk finder
  let s := uncorrFound s blk finder true false
  markGranule s s.epochs.newest (granuleOf blk)

/-! ### Queues -/

/-- Entries of a pool in a queue (R139). -/
def poolUsed (c : PcSt) (pool : Nat) : Nat := (c.queue.filter fun e => decide (e.pool = pool)).length

/-- The pool a host request takes, where one has room (R139). -/
def hostPool (c : PcSt) (urgent : Bool) : Option Nat :=
  if urgent && decide (poolUsed c 0 < 8) then some 0 else if poolUsed c 1 < 120 then some 1 else none

/-- An internal entry is free. -/
def intRoom (c : PcSt) : Bool := decide (poolUsed c 2 < 16)

/-- The entry covers a block. -/
def QEnt.covers (e : QEnt) (blk : Nat) : Bool :=
  decide (e.blk ≤ blk) && decide (blk < e.blk + e.n) && e.cover.testBit (blk - e.blk)

/-- A write entry whose data answers reads (R141): a full write, or a merged WRM in its own entry. -/
def QEnt.answers (e : QEnt) : Bool := e.kind == .wr || (e.kind == .wrm && e.merged && !e.data.isEmpty)

/-- The latest write queued before entry `id` that covers a block (R141). -/
def queuedWrite (s : State) (blk id : Nat) : Option QEnt :=
  let n := pcFin (coordOf s.dram.mapActive blk).pc
  (s.pcs[n].queue.filter fun e => decide (e.id < id) && e.answers && e.covers blk).getLast?

/-- An earlier WRM of the block waits for its merge. -/
def unmergedBefore (s : State) (blk id : Nat) : Bool :=
  let n := pcFin (coordOf s.dram.mapActive blk).pc
  s.pcs[n].queue.any fun e => decide (e.id < id) && e.kind == .wrm && !e.merged && e.covers blk

/-- The code word an entry holds for a block. -/
def entryWord (e : QEnt) (blk : Nat) : Block × DWord :=
  let b := e.data.getD (blk - e.blk) 0
  (b, e.chk.getD (blk - e.blk) (rsCheck b))

/-- A write enters its queue: derived writes older than it are stale (R224). -/
def noteWrite (s : State) (blk id : Nat) : State :=
  claimDone { s with dram := { s.dram with lastWrite := smSet 0 s.dram.lastWrite blk id } } blk

/-- A source's place among the requests of one CCLK: ports in ascending number, Beachcomber, mirror apply, corrective
write-back, Wetex (R94, R140). -/
def Src.place : Src → Nat
  | .host p => p.val
  | .scrub => 16
  | .apply => 17
  | .corrwb => 18
  | .wetex => 19
  | .line _ => 20

/-- The CCLK in which a source's request enters a queue: the next one where a later source has entered in this (R94, R140). -/
def turn (s : State) (n : Pc) (src : Src) : State :=
  let e := s.pcs[n].lastEnter
  if e.1 = s.now ∧ src.place < e.2 then s.atLeast (s.now + 1) else s

/-- Put an entry into its pseudo-channel's queue. -/
def enqueue (s : State) (n : Pc) (e : QEnt) : State :=
  s.modPc n fun c => { c with queue := c.queue ++ [e], lastEnter := (s.now, e.src.place) }

/-- Free an entry. -/
def freeEntry (s : State) (n : Pc) (id : Nat) : State :=
  s.modPc n fun c => { c with queue := c.queue.filter (fun e => decide (e.id ≠ id))
                              notices := c.notices.filter (fun x => decide (x.id ≠ id)) }

/-- Change an entry. -/
def modEntry (s : State) (n : Pc) (id : Nat) (f : QEnt → QEnt) : State :=
  s.modPc n fun c => { c with queue := c.queue.map fun e => if e.id = id then f e else e }

/-! ### What a read yields (R216, R217, R229) -/

/-- TSV lanes of a pseudo-channel treated as erasures (R215): declared failed and not carried by a spare. -/
def erasures (c : PcSt) : List Nat :=
  c.failedLanes.filter fun l => !(c.spares.toList.contains (some l))

/-- What reading a block finds, and whether it came from DRAM. -/
structure Found where
  dec : Decoded
  /-- The data symbols as stored. -/
  raw : Block
  dram : Bool
deriving DecidableEq, Repr

/-- A status of the four that an unwritten block may read with (R229), from a free number. Log entry 2. -/
def freeStatus (k : Nat) : Nat := k % 4

/-- Read and decode a block that holds a code word from DRAM (R216). -/
def dramRead (s : State) (blk : Nat) : Found × State :=
  let b := memBlock s.dram.mem blk
  let c := chkWord s.dram.chk blk
  let n := pcFin (coordOf s.dram.mapActive blk).pc
  ({ dec := rsDecode (erasures s.pcs[n]) b c, raw := b, dram := true }, tsvBurst s blk b c false)

/-- Read and decode a block from its line or from DRAM (R167, R216, R217). A block that holds no code word yields a free
status and free data (R229). Log entries 2, 10. -/
def readWord (s : State) (blk : Nat) : Found × State :=
  match validLine s blk with
  | some l =>
    let i := inUnit blk
    ({ dec := rsDecode [] l.data[i] l.chk[i], raw := l.data[i], dram := false }, s)
  | none =>
    if blkWritten s blk then dramRead s blk
    else
      let st := freeStatus (Config.freeNat s.free)
      let b := Config.freeBlock s.free
      let zero := decide (st = stPoison) || decide (st = stUncorr)
      ({ dec := { status := st, data := if zero then 0 else b }, raw := b, dram := true },
        tsvBurst s.useFree.useFree blk b ((Config.freeBlock (s.free + 1)).setWidth 64) false)

/-! ### The repeat table (R244 to R246) -/

/-- The table of 4,096 takes an entry: the oldest SEEN entry gives way, or the oldest (R246). -/
def repPush (s : State) (e : RepEnt) : State :=
  if s.dram.repeats.length < 4096 then { s with dram := { s.dram with repeats := s.dram.repeats ++ [e] } }
  else
    let l := s.dram.repeats
    let old := match l.find? (fun x => !x.writtenBack) with
      | some x => some x
      | none => l.head?
    match old with
    | none => { s with dram := { s.dram with repeats := l ++ [e] } }
    | some o =>
      let n := (coordOf s.dram.mapActive o.blk).pc
      let s := { s with dram := { s.dram with repeats := l.erase o ++ [e] } }
      raiseLim s (evKey (pcSrc n 10) 0x0228) ms (pcSrc n 10) 0x0228 sevInfo (64 * o.blk) 0 1 false

/-- Schedule a write derived from a read (R224). A block has one poisoning, of the first read to enter the queue (R227). -/
def derive (s : State) (d : Derived) : State :=
  let n := pcFin (coordOf s.dram.mapActive d.blk).pc
  let same (x : Derived) : Bool := x.poison && decide (x.blk = d.blk)
  if d.poison && s.pcs[n].derived.any same then
    s.modPc n fun c => { c with derived := c.derived.map fun x => if same x && decide (d.readId < x.readId) then d else x }
  else s.modPc n fun c => { c with derived := c.derived ++ [d] }

/-- Is a row already repaired by a soft repair? -/
def softOf (s : State) (pc bank row : Nat) : Option (Fin 256) :=
  (List.finRange 256).find? fun i =>
    match s.dram.soft[i] with
    | some r => decide (r.pc = pc ∧ r.bank = bank ∧ r.row = row)
    | none => false

/-- A hard fault becomes a soft-repair candidate, unless every symbol lies on a failed lane (R245, R260). -/
def candidate (s : State) (c : Coord) (syms : List Nat) : State :=
  let failed := s.pcs[pcFin c.pc].failedLanes
  if csrFld s 0x070200 0 1 = 0 ∨ syms.all (fun k => failed.contains k) ∨
      s.dram.candidates.contains (c.pc, c.bank, c.row) then s
  else { s with dram := { s.dram with candidates := s.dram.candidates ++ [(c.pc, c.bank, c.row)] } }

/-- A CORR read updates the repeat table (R245). `own` tells that the reader writes the corrected block back itself (R244):
its own write serves as the corrective write-back. -/
def repeatUpdate (s : State) (blk readId : Nat) (data : Block) (syms : List Nat) (own : Bool) : State :=
  let c := coordOf s.dram.mapActive blk
  match s.dram.repeats.find? (fun e => decide (e.blk = blk)) with
  | none => repPush s { blk := blk, count := 1, writtenBack := false, lap := s.scrub.lap, syms := syms }
  | some e =>
    if e.writtenBack then
      let s := { s with dram := { s.dram with repeats := s.dram.repeats.erase e } }
      let s := bump 0x070030 1 s
      let s := raiseJ s (pcSrc c.pc 6) 0x0221 sevWarn (64 * blk) (syms.headD 0 % 128 + nextSsn s * 256)
      candidate s c syms
    else
      let f (x : RepEnt) : RepEnt :=
        if x.blk = blk then { x with count := 2, writtenBack := true, lap := s.scrub.lap, syms := syms } else x
      let s := { s with dram := { s.dram with repeats := s.dram.repeats.map f } }
      if own then s
      else derive s { blk := blk, readId := readId, data := data, poison := false, finder := 5, corrective := true }

/-- Corrected symbols are reported lane by lane (R117, R215, R266); corrections older than 100 us are forgotten. -/
def laneReport (s : State) (n : Pc) (syms : List Nat) : State :=
  s.modPc n fun c =>
    { c with laneCorr := syms.map (fun k => (k, s.now)) ++ c.laneCorr.filter (fun e => decide (s.now < e.2 + 160000)) }

/-- What a decoded block starts, for every reader (R225, R245, R251). `finder` as in R249; `own` as in `repeatUpdate`.
Log entry 34. -/
def afterRead (s : State) (blk readId finder : Nat) (f : Found) (own : Bool) : State :=
  let c := coordOf s.dram.mapActive blk
  let n := pcFin c.pc
  if f.dec.status = stCorr then
    let s := bump (pcReg n.val 0x060) 1 s
    let s := laneReport s n f.dec.syms
    repeatUpdate s blk readId f.dec.data f.dec.syms own
  else if f.dec.status = stUncorr then
    let s := bump (pcReg n.val 0x064) 1 s
    derive s { blk := blk, readId := readId, data := f.raw, poison := true, finder := finder }
  else s

end Sys2Proof.Machine
end

