-- ==== Sys2Proof/Machine/PcOps.lean ====
section
/-! DEFINITION. Pseudo-channel operations: responses from queues, going offline (R575), row guard's tracker and spills (R195 to
R205), bank timing (R148). -/

namespace Sys2Proof.Machine

/-! ### Responses -/

/-- The port of an entry. -/
def QEnt.port? (e : QEnt) : Option Port := match e.src with | .host p => some p | _ => none

/-- The response of an entry. -/
def QEnt.resp (e : QEnt) (s : State) (status : Nat) (bst : List Nat) (data : List Block) : Resp :=
  { kind := e.kind, tag := e.tag, status := status, len := if e.kind == .rd then e.n / 2 else 0, bst := bst, data := data
    urgent := decide (e.cls = 0) || e.raised, ord := e.ord, pc := (coordOf s.dram.mapActive e.blk).pc
    arrived := e.arrived, id := e.ord }

/-- An entry's response reaches its port, unless a per-port reset has discarded it (R98). -/
def answer (s : State) (e : QEnt) (status : Nat) (bst : List Nat) (data : List Block) : State :=
  match e.port? with
  | none => s
  | some p =>
    if e.noResp then s.modPort p fun q => { q with unacked := q.unacked.filter (fun o => decide (o ≠ e.ord)) }
    else respond s p (e.resp s status bst data)

/-- An entry's write has entered the drain domain: it no longer holds back later writes of its port (R95). -/
def drainOrd (s : State) (e : QEnt) : State :=
  match e.port? with
  | none => s
  | some p => s.modPort p fun q => { q with undrained := q.undrained.filter (fun o => decide (o ≠ e.ord)) }

/-- An entry ends without its effect: OFFLINE or FENCED. -/
def failEntry (s : State) (n : Pc) (e : QEnt) (status : Nat) : State :=
  let s := answer s e status (if e.kind == .rd then List.replicate e.n status else []) []
  freeEntry (drainOrd s e) n e.id

/-- The entry stays when its pseudo-channel goes offline (R575): a write already in the drain domain. -/
def keptOffline (e : QEnt) : Bool := e.kind == .wr && e.drained || e.kind == .wrm && e.merged

/-- A pseudo-channel goes offline other than by PC_OFFLINE (R575): entries not kept complete with OFFLINE; poisoning writes not
yet queued are abandoned (R225). -/
def goOffline (s : State) (n : Pc) : State :=
  let c := s.pcs[n]
  let s := endRepairs s (fun p _ _ => decide (p = n.val)) 0x15 0 4
  let s := (c.queue.filter fun e => !keptOffline e).foldl (fun s e => failEntry s n e stOffline) s
  let s := (c.derived.filter (·.poison)).foldl (fun s d => uncorrFound s d.blk d.finder false true) s
  s.modPc n fun c =>
    { c with mode := .offline, derived := [], notices := [], offers := [], switching := none
             walker := { c.walker with outstanding := none, inLap := false }
             banks := c.banks.map fun b => { b with row := none, debt := 0, capture := none, trig := [], repair := none } }

/-- The pseudo-channel serves requests. -/
def pcOnline (s : State) (n : Pc) : Bool := s.pcs[n].mode == .online

/-- The block's pseudo-channel is online. -/
def blkOnline (s : State) (blk : Nat) : Bool := pcOnline s (pcFin (coordOf s.dram.mapActive blk).pc)

/-- Exit from self-refresh (R148, R194): `first` is the CCLK in which commands are accepted, tXS after the exit; debts are 0, the
rotation restarts. -/
def refreshRestart (first : Nat) (c : PcSt) : PcSt :=
  { c with refPos := 0, slotAt := first, readyAt := first, slot2x := c.rate2x, slotDone := false
           banks := c.banks.map fun b => { b with debt := 0, row := none } }

/-! ### Row guard -/

/-- An EXPERT parameter set is valid (R206). -/
def guardOk (ct nt sl msx : Nat) : Bool := decide (32 ≤ nt ∧ nt ≤ 512 ∧ 16 ≤ ct ∧ ct ≤ nt - 1 ∧ 1 ≤ sl ∧ sl ≤ 1023 ∧ msx ≤ 4)

/-- CT, NT, SL, MS that the registers as they stand select (R206). -/
def guardSet (s : State) : Nat × Nat × Nat × Nat :=
  if expert s 0x050100 then
    let t := csrGet s 0x050104
    let u := csrGet s 0x050108
    let ct := bitsOf t 0 10; let nt := bitsOf t 16 10; let sl := bitsOf u 0 10; let msx := bitsOf u 16 3
    if guardOk ct nt sl msx then (ct, nt, sl, msx) else (256, 512, 64, 4)
  else if csrFld s 0x050100 1 1 = 1 then (128, 256, 16, 4) else (256, 512, 64, 4)

/-- CT, NT, SL, MS in force: a new set applies from the next CCLK (R206). -/
def guardParams (s : State) : Nat × Nat × Nat × Nat := guardSet (before s)

/-- The number of the tracker window the clock stands in (R195). -/
def winNow (s : State) : Nat := s.guard.winNo + (s.now - s.guard.windowAt) / 51200000

/-- The estimates of the window the clock stands in: its first CCLK clears those of the one before (R195). -/
def trkFresh (w : Nat) (c : PcSt) : PcSt :=
  if c.trkWin < w then { c with trkWin := w, tracker := c.tracker.map fun e => { e with est := 0 } } else c

/-- A row's estimate in window `w`. -/
def estimate (w : Nat) (c : PcSt) (bank row : Nat) : Nat :=
  match (trkFresh w c).tracker.find? (fun e => decide (e.bank = bank ∧ e.row = row)) with
  | some e => e.est
  | none => 0

/-- A row's estimate now. -/
def estOf (s : State) (n : Pc) (bank row : Nat) : Nat := estimate (winNow s) s.pcs[n] bank row

/-- The lowest estimate of a tracker. -/
def minEst (l : List TrkEnt) : Nat := l.foldl (fun m e => min m e.est) (l.headD ⟨0, 0, 0⟩).est

/-- Replace the first entry with a given estimate. -/
def replaceFirst (est : Nat) (x : TrkEnt) : List TrkEnt → List TrkEnt
  | [] => []
  | e :: r => if e.est = est then x :: r else e :: replaceFirst est x r

/-- An ACT counts for its row (R196), in window `w`. -/
def trackAct (w : Nat) (c : PcSt) (bank row : Nat) : PcSt :=
  let c := trkFresh w c
  if c.tracker.any (fun e => decide (e.bank = bank ∧ e.row = row)) then
    { c with tracker := c.tracker.map fun e => if e.bank = bank ∧ e.row = row then { e with est := e.est + 1 } else e }
  else if c.tracker.length < 2048 then { c with tracker := c.tracker ++ [⟨bank, row, 1⟩] }
  else { c with tracker := replaceFirst (minEst c.tracker) ⟨bank, row, minEst c.tracker + 1⟩ c.tracker }

/-- The row takes no ACT (R198, R200): its targeted refresh is triggered, or its estimate stands at NT or above. -/
def rowStopped (s : State) (n : Pc) (bank row : Nat) : Bool :=
  rowHeld (s.pcs[n].banks.toList.getD bank {}) row || decide ((guardParams s).2.1 ≤ estOf s n bank row)

/-- A row is captured: its lines carry the captured bit. -/
def rowUnits (s : State) (n : Nat) (bank row : Nat) : List Nat :=
  (List.range 4).map fun c => blkOf s.dram.mapActive ⟨n, bank, row, 4 * c⟩ / 4

def rowCaptured (s : State) (n bank row : Nat) : Bool :=
  s.lagoon.lines.any fun l => l.captured && (rowUnits s n bank row).contains l.unit

/-- The 1 ms sub-window of a CCLK, numbered from the first window of all (R202). -/
def subOf (s : State) (t : Nat) : Nat := 32 * s.guard.winNo + (t - s.guard.windowAt) / ms

/-- A host requester's throttle record. -/
def thrOf (s : State) (req : Nat) : Thr := smGet {} s.guard.thr req

def thrSet (s : State) (req : Nat) (t : Thr) : State :=
  { s with guard := { s.guard with thr := smSet {} s.guard.thr req t } }

/-- A spill counts in its sub-window. -/
def addSpill (u : Nat) (urgent : Bool) (l : List (Nat × Nat × Bool)) : List (Nat × Nat × Bool) :=
  if l.any (fun x => decide (x.1 = u)) then l.map fun x => if x.1 = u then (u, x.2.1 + 1, x.2.2 || urgent) else x
  else l ++ [(u, 1, urgent)]

/-- A spill of a host requester, by an ACT in CCLK `t` (R202). -/
def spill (s : State) (n : Nat) (req : Option Nat) (urgent : Bool) (t : Nat) : State :=
  match req with
  | none => s
  | some r =>
    let s := bump (pcReg n 0x04C) 1 s
    let x := thrOf s r
    thrSet s r { x with spills := addSpill (subOf s t) urgent x.spills, lastPc := n }

/-- An ACT on a row, attributed to a host requester or to none (R196, R197, R202): the estimate, the offer it makes due or the
spill it is. -/
def countAct (s : State) (n : Pc) (bank row : Nat) (req : Option Nat) (urgent : Bool) : State :=
  let old := estOf s n bank row
  let s := s.modPc n fun c => trackAct (winNow s) c bank row
  let est := estOf s n bank row
  let (ct, nt, _, _) := guardParams s
  if est < ct ∨ rowCaptured s n.val bank row then s
  else if old < ct ∨ ((est - ct) % 64 = 0 ∧ est < nt) then
    s.modPc n fun c => { c with offers := c.offers ++ [{ bank := bank, row := row, req := req, urgent := urgent, at_ := s.now }] }
  else spill s n.val req urgent s.now

/-! ### Bank timing (R148), in CCLK -/

/-- Earliest command that opens or refreshes a row, as far as the other banks decide: tXS, tRRD, tFAW. -/
def actGap (c : PcSt) : Nat :=
  max c.readyAt
    (max (match c.acts with | t :: _ => t + 4 | [] => 0) (match c.acts with | _ :: _ :: _ :: t :: _ => t + 16 | _ => 0))

/-- Earliest ACT on a bank: tRP after its precharge, tRC after its ACT, tRFCpb after its refresh, tRRD, tFAW. -/
def actTime (c : PcSt) (b : Bank) : Nat := max (max (b.preAt + 23) (b.actAt + 69)) (max (b.refAt + 288) (actGap c))

/-- Earliest precharge: tRAS, tRTP, tWR. -/
def preTime (b : Bank) : Nat := max (b.actAt + 47) (max (b.rdAt + 2) (b.wrEnd + 26))

/-- Earliest column command: tRCD, the bursts before it, and the bus turnarounds tWTR and tRTW. -/
def colTime (c : PcSt) (b : Bank) (write : Bool) : Nat :=
  max (b.actAt + 23) (if write then max c.rdBeat (c.wrBeat - 4) else max (c.rdBeat - 26) (c.wrBeat + 8))

/-- Record an ACT command at time t. -/
def pushAct (t : Nat) (c : PcSt) : PcSt := { c with acts := (t :: c.acts).take 4 }

/-- A bank by number, modulo 32. -/
def bankFin (b : Nat) : Fin 32 := ⟨b % 32, Nat.mod_lt _ (by decide)⟩

def modBank (n : Pc) (b : Nat) (f : Bank → Bank) (s : State) : State :=
  s.modPc n fun c => { c with banks := c.banks.set (bankFin b) (f c.banks[bankFin b]) }

/-- `k` column commands of a row, the first now (R148): the bank's last command or beat, the bus. -/
def columns (s : State) (n : Pc) (bank k : Nat) (write : Bool) : State :=
  let s := modBank n bank (fun b => if write then { b with wrEnd := s.now + 4 + 2 * k } else { b with rdAt := s.now + 2 * (k - 1) }) s
  s.modPc n fun c => if write then { c with wrBeat := s.now + 4 + 2 * k } else { c with rdBeat := s.now + 26 + 2 * k }

/-- `k` column commands are given outside the scheduler's picks, the row opened first where it is not (R148, R196): a row cycle
of the stack's own. -/
def rowCycle (s : State) (n : Pc) (bank row k : Nat) (write : Bool) : State :=
  let b := s.pcs[n].banks[bankFin bank]
  if b.row = some row then
    columns (bump (pcReg n.val 0x00C) k (s.atLeast (colTime s.pcs[n] b write))) n bank k write
  else
    let s := if b.row.isSome then
        let s := s.atLeast (preTime b)
        modBank n bank (fun b => { b with row := none, preAt := s.now }) s
      else s
    let s := s.atLeast (actTime s.pcs[n] s.pcs[n].banks[bankFin bank])
    let s := modBank n bank (fun b => { b with row := some row, actAt := s.now }) s
    let s := countAct (bump (pcReg n.val 0x010) 1 (s.modPc n (pushAct s.now))) n bank row none false
    let s := s.atLeast (colTime s.pcs[n] s.pcs[n].banks[bankFin bank] write)
    columns (bump (pcReg n.val 0x00C) (k - 1) s) n bank k write

/-! ### Writes of the stack's own (R196, R232, R233, R311) -/

/-- Pseudo-channel, bank and row of a block. -/
def rowAt (s : State) (blk : Nat) : Nat × Nat × Nat :=
  let c := coordOf s.dram.mapActive blk
  (c.pc, c.bank, c.row)

/-- Blocks written by the stack itself, those of one row in one row cycle. -/
def ownWrites (s : State) (l : List (Nat × Block)) : State :=
  ((l.map fun x => rowAt s x.1).eraseDups).foldl (fun s r =>
    let mine := l.filter fun x => decide (rowAt s x.1 = r)
    mine.foldl (fun s x => dramWrite s x.1 x.2 (rsCheck x.2)) (rowCycle s (pcFin r.1) r.2.1 r.2.2 mine.length true)) s

/-- Blocks read by the stack itself, those of one row in one row cycle. -/
def ownReads (s : State) (l : List Nat) : State :=
  ((l.map (rowAt s)).eraseDups).foldl (fun s r =>
    let mine := l.filter fun b => decide (rowAt s b = r)
    mine.foldl (fun s b => (dramRead s b).2) (rowCycle s (pcFin r.1) r.2.1 r.2.2 mine.length false)) s

/-- Blocks of a claim's page that no write has reached since. -/
def Claim.left (c : Claim) : List Nat := ((List.range 64).filter fun i => !c.done.getLsbD i).map (64 * c.page + ·)

/-- The fills of one claim are written: zero data in the blocks not written since. Log entry 79. -/
def fillClaim (s : State) (c : Claim) : State := ownWrites s (c.left.map fun b => (b, 0))

/-- An engine's first write that finds the table full waits for the oldest claim's fills (R311). -/
def claimWait (s : State) : State :=
  if claimRoom s then s else
  match s.dram.claims with
  | [] => s
  | c :: r => fillClaim { s with dram := { s.dram with claims := r } } c

/-- A first write to an unwritten page claims it (R232, R233). Log entry 79. -/
def freshClaim (s : State) (blk : Nat) : State :=
  if s.dram.freshActive && !pageWritten s blk then
    let s := claimWait s
    freshSet { s with dram := { s.dram with claims := s.dram.claims ++ [{ page := pageOf blk, done := 0 }] } } blk
  else freshSet s blk

/-- A bank notice of another request stands on the bank (R152). -/
def noticed (s : State) (n : Pc) (bank : Nat) : Bool :=
  s.pcs[n].notices.any fun x => x.bank == bank && decide (x.at_ ≤ s.now)

/-- The postponement limit PPW (R192). -/
def ppw (s : State) : Nat :=
  let v := csrForceFld s 0x050004 0 4
  if v = 0 ∨ 8 < v then 8 else v

/-- A bank is forced (R192). -/
def isForced (s : State) (b : Bank) : Bool := decide (ppw s ≤ b.debt)

end Sys2Proof.Machine
end

