-- ==== Sys2Proof/Machine/MirrorOps.lean ====
section
/-! DEFINITION. The sending side of mirroring (R383 to R401): windows, messages, queues, divergence, forwarded marks, barriers. -/

namespace Sys2Proof.Machine

/-! ### Messages (R386) -/

/-- The Chrosy link is enabled on this stack (R6, R7). -/
def chrosyOn (s : State) : Bool := csrFld s 0x000008 2 1 == 1

def hType (h : BitVec 256) : Nat := bitsOf h.toNat 0 8
def hWin (h : BitVec 256) : Nat := bitsOf h.toNat 8 6
def hLen (h : BitVec 256) : Nat := bitsOf h.toNat 14 2
def hCode (h : BitVec 256) : Nat := bitsOf h.toNat 16 8
def hSeq (h : BitVec 256) : Nat := bitsOf h.toNat 32 32
def hStamp (h : BitVec 256) : Nat := bitsOf h.toNat 64 64
def hBlk (h : BitVec 256) : Nat := bitsOf h.toNat 128 31
def hEpoch (h : BitVec 256) : Nat := bitsOf h.toNat 192 64

/-- Entries of an ACK or BARRIER_ACK frame: window, WSEQ. -/
def hEntries (h : BitVec 256) : List (Nat × Nat) :=
  (List.range (min 5 (bitsOf h.toNat 16 8))).map fun i => (bitsOf h.toNat (32 + 40 * i) 6, bitsOf h.toNat (40 + 40 * i) 32)

/-- A header frame; STAMP is the sender's `SEQ.NEXT`. -/
def mkHdr (s : State) (type win len code wseq blk epoch : Nat) : BitVec 256 :=
  BitVec.ofNat 256 (type + (win % 64 + len * 64) * 2 ^ 8 + code * 2 ^ 16 + (wseq % 2 ^ 32) * 2 ^ 32
    + (s.seq.next % 2 ^ 64) * 2 ^ 64 + (blk % 2 ^ 31) * 2 ^ 128 + (epoch % 2 ^ 64) * 2 ^ 192)

/-- An ACK or BARRIER_ACK frame: LEN none, no one sending window. Log entry 24. -/
def ackHdr (type : Nat) (es : List (Nat × Nat)) : BitVec 256 :=
  BitVec.ofNat 256 (type + 3 * 2 ^ 14 + es.length * 2 ^ 16 +
    (es.zipIdx.map fun ((w, q), i) => (w + (q % 2 ^ 32) * 2 ^ 8) * 2 ^ (32 + 40 * i)).sum)

/-- The length code of a number of blocks (R386). -/
def lenCode (n : Nat) : Nat := if n = 1 then 0 else if n = 2 then 1 else if n = 4 then 2 else 3

/-- The message's number lies in its window's WSEQ series: a write, a BARRIER or a RESYNC_DATA (R387). -/
def Msg.numbered (m : Msg) : Bool :=
  let t := hType m.hdr
  t == 1 || t == 2 || t == 4 || t == 10

/-! ### Windows (R383 to R385) -/

def winReg (w off : Nat) : Nat := 0x0B1000 + 0x20 * w + off
def winBase (s : State) (w : Nat) : Nat := csrGet s (winReg w 0)
def winLen (s : State) (w : Nat) : Nat := csrGet s (winReg w 4)
def winPbase (s : State) (w : Nat) : Nat := csrGet s (winReg w 8)
/-- 0 OFF, 1 ASYNC, 2 SYNC. -/
def winMode (s : State) (w : Nat) : Nat := if chrosyOn s then csrFld s (winReg w 12) 0 2 else 0

/-- Window w exists: in BASIC only window 0 does. -/
def winExists (s : State) (w : Nat) : Bool := decide (w = 0) || expert s 0x0B0100

def winFin (w : Nat) : Fin 64 := ⟨w % 64, Nat.mod_lt _ (by decide)⟩

def modWin (s : State) (w : Nat) (f : WinSt → WinSt) : State :=
  { s with mirror := { s.mirror with wins := s.mirror.wins.set (winFin w) (f s.mirror.wins[winFin w]) } }

/-- The window a block lies in, among those not OFF; none where the Chrosy link is disabled (R6). -/
def windowOf (s : State) (blk : Nat) : Option (Fin 64) :=
  (List.finRange 64).find? fun w =>
    chrosyOn s && s.mirror.wins[w].st != .off && winExists s w.val &&
    decide (winBase s w.val ≤ granuleOf blk) && decide (granuleOf blk < winBase s w.val + winLen s w.val)

/-- The partner's block for a block of a window (R383). -/
def partnerBlk (s : State) (w blk : Nat) : Nat := winPbase s w * 1024 + (blk - winBase s w * 1024)

/-- The link carries frames: UP, or degrading with frames held (R376). Log entry 21. -/
def linkUpNow (s : State) : Bool := s.chrosy.st == .up || s.chrosy.st == .degrade

/-- MIRROR_CFG (R406). -/
def mirrorCfg (s : State) (addr value : Nat) : State := raise s 1125 0x0806 sevWarn addr value

/-! ### Responses of SYNC writes (R392) -/

/-- A waiting SYNC write completes. -/
def releaseSync (s : State) (w : SyncWait) (status : Nat) : State :=
  let s := if status = stMirrorFail then bump 0x0B0128 1 s else s
  if w.gone then s.modPort w.port fun q => { q with unacked := q.unacked.filter fun o => decide (o ≠ w.resp.ord) }
  else respond s w.port { w.resp with status := status }

/-- The waiting SYNC writes that meet a condition complete, oldest first. -/
def releaseWaits (s : State) (p : SyncWait → Bool) (status : Nat) : State :=
  let l := s.mirror.waits.filter p
  let s := { s with mirror := { s.mirror with waits := s.mirror.waits.filter fun w => !p w } }
  l.foldl (fun s w => releaseSync s w status) s

/-! ### Divergence (R395) -/

/-- The message belongs to the numbered series of a window. -/
def Msg.ofWin (m : Msg) (w : Nat) : Bool := m.numbered && decide (hWin m.hdr = w)

/-- A window becomes DIVERGED. Log entry 21. -/
def diverge (s : State) (w : Fin 64) (reason : Nat) : State :=
  if s.mirror.wins[w].st == .off || s.mirror.wins[w].st == .diverged then s else
  let m := s.mirror
  let job := m.resync.map fun j =>
    if j.wins.contains w.val || j.copied.contains w.val then { j with failed := true } else j
  let s := { s with mirror := { m with
      q := m.q.map fun l => l.filter fun x => !x.ofWin w.val
      backlog := m.backlog.filter fun x => !x.ofWin w.val
      outs := m.outs.filter fun o => decide (o.win ≠ w.val)
      resync := job } }
  let s := modWin s w.val fun x => { x with st := .diverged, reason := reason }
  let s := raiseJ s 1120 0x0800 sevError (w.val + reason * 256) s.mirror.wins[w].acked
  releaseWaits (wxSyncLost s w.val) (fun x => decide (x.win = w.val)) stMirrorFail

/-- Windows with a message unsent or unacknowledged diverge at a loss of the link. -/
def divergeLoss (s : State) (reason : Nat) : State :=
  (List.finRange 64).foldl (fun s w =>
    if s.mirror.outs.any (fun o => decide (o.win = w.val)) then diverge s w reason else s) s

/-! ### Queues (R393, R397) -/

/-- Blocks a message takes in the backlog. Log entry 23. -/
def Msg.cells (m : Msg) : Nat := 1 + m.blocks.length

def backlogCells (l : List Msg) : Nat := (l.map Msg.cells).sum

/-- `MIRROR.STAT.BACKLOG_KIB`. -/
def backlogKib (s : State) : Nat := (backlogCells s.mirror.backlog * 64 + 1023) / 1024

/-- Limit of the backlog, in 64-byte blocks. Log entry 23. -/
def backlogLimit (s : State) : Nat :=
  let v := csrForceFld s 0x0B0104 16 5
  (if v = 0 ∨ 16 < v then 16 else v) * 16384

def pushQ (s : State) (vc : Fin 2) (m : Msg) : State :=
  { s with mirror := { s.mirror with q := s.mirror.q.set vc (s.mirror.q[vc] ++ [m]) } }

/-- BACKLOG_HIGH where the backlog passes 75% of its limit. -/
def backlogHigh (s t : State) : State :=
  let lim := backlogLimit s
  if 4 * backlogCells s.mirror.backlog ≤ 3 * lim ∧ 3 * lim < 4 * backlogCells t.mirror.backlog then
    raiseLim t (evKey 1123 0x0805) ms 1123 0x0805 sevNotice (backlogKib t) 0 1 false
  else t

/-- Blocks of the backlog, from 0x17_FC80_0000 on, that hold no message: the first `k`. Log entry 23. -/
def backlogFree (s : State) (k : Nat) : List Nat :=
  let used := s.mirror.backlog.flatMap (·.cellsAt)
  ((List.range (used.length + k)).filter fun i => !used.contains i).take k

/-- The block at a place of the backlog (R38). Log entry 23. -/
def backlogBlk (i : Nat) : Nat := (keeperBase + 2 ^ 23) / 64 + i

/-- A message is written to the backlog (R397): a block for its header, one for each data block. Log entry 23. -/
def toBacklog (s : State) (m : Msg) : State :=
  let at_ := backlogFree s m.cells
  let t := { s with mirror := { s.mirror with backlog := s.mirror.backlog ++ [{ m with cellsAt := at_ }] } }
  backlogHigh s (ownWrites t (((at_.map backlogBlk).zip (m.hdr.setWidth 512 :: m.blocks)).filter fun x => blkOnline t x.1))

/-- A numbered message takes its place (R387, R397). An ASYNC message that fits nowhere makes its window DIVERGED.
Log entry 23. -/
def placeMsg (s : State) (w : Fin 64) (m : Msg) (sync resync : Bool) : State :=
  let o : MirOut := { win := w.val, wseq := hSeq m.hdr, sync := sync, resync := resync }
  let note (s : State) : State := { s with mirror := { s.mirror with outs := s.mirror.outs ++ [o] } }
  if winMode s w.val = 2 then note (pushQ s 0 m)
  else if s.mirror.q[1].length < 256 && !s.mirror.backlog.any (·.ofWin w.val) then note (pushQ s 1 m)
  else if backlogCells s.mirror.backlog + m.cells ≤ backlogLimit s then
    note (toBacklog s m)
  else diverge s w 2

/-- The next WSEQ of a window is taken. -/
def takeSeq (s : State) (w : Fin 64) : Nat × State :=
  (s.mirror.wins[w].next, modWin s w.val fun x => { x with next := (x.next + 1) % 2 ^ 32 })

/-- A write of `data` at `blk` tagged `epoch` has entered the drain domain (R388, R392, R395). The answer tells how its WRA
goes: none at once with OK; some none at once with MIRROR_FAIL; some q when the ACK of WSEQ q arrives. Log entries 21, 44. -/
def mirrorWrite (s : State) (blk : Nat) (data : List Block) (epoch : Nat) : Option (Option Nat) × State :=
  match windowOf s blk with
  | none => (none, s)
  | some w =>
    let sync := winMode s w.val == 2
    let s := if linkUpNow s then s else diverge s w 5
    if s.mirror.wins[w].st == .diverged then (if sync then some none else none, s)
    else
      let (q, s) := takeSeq s w
      let h := mkHdr s (if sync then 1 else 2) w.val (lenCode data.length) 0 q (partnerBlk s w.val blk) epoch
      (if sync then some (some q) else none, placeMsg s w { hdr := h, blocks := data } sync false)

/-- A SYNC write's message would find the VC0 queue full (R393). -/
def syncFull (s : State) (blk : Nat) : Bool :=
  match windowOf s blk with
  | none => false
  | some w => winMode s w.val == 2 && s.mirror.wins[w].st != .diverged && decide (256 ≤ s.mirror.q[0].length)

/-- The response of a write that has drained and been mirrored (R392). -/
def respondMirrored (s : State) (p : Port) (r : Resp) (gone : Bool) (win : Nat) (m : Option (Option Nat)) : State :=
  match m with
  | none => releaseSync s { win := win, wseq := 0, port := p, resp := r, gone := gone } r.status
  | some none => releaseSync s { win := win, wseq := 0, port := p, resp := r, gone := gone } stMirrorFail
  | some (some q) =>
    { s with mirror := { s.mirror with
        waits := s.mirror.waits ++ [{ win := win, wseq := q, port := p, resp := r, gone := gone }] } }

/-! ### Marks and barriers (R398, R399) -/

/-- Epoch V opens: a MARK goes to the partner. -/
def fwdMark (s : State) (v : Nat) : State :=
  if chrosyOn s && csrFld s 0x0B0104 0 1 == 1 && s.mirror.wins.toList.any (fun w => w.st != .off) && linkUpNow s then
    pushQ s 0 { hdr := mkHdr s 3 0 3 0 0 0 v }
  else s

/-- A barrier in the windows named (R288, R399). -/
def formBarriers (s : State) (wins : Nat) : State :=
  (List.finRange 64).foldl (fun s w =>
    if wins.testBit w.val && (s.mirror.wins[w].st == .inSync || s.mirror.wins[w].st == .resync) then
      let (q, s) := takeSeq s w
      let m : Msg := { hdr := mkHdr s 4 w.val 3 0 q 0 0 }
      let o : MirOut := { win := w.val, wseq := q, sync := false, resync := false }
      pushQ { s with mirror := { s.mirror with outs := s.mirror.outs ++ [o] } } 0 m
    else s) s

end Sys2Proof.Machine
end

