-- ==== Sys2Proof/Machine/Lagoon.lean ====
section
/-! DEFINITION. The Lagoon: allocation, write-back, capture, way failure (R163 to R188). -/

namespace Sys2Proof.Machine

/-- Set index within the pseudo-channel, and the pseudo-channel, of a unit. -/
def unitSet (s : State) (unit : Nat) : Nat := lagoonSet (coordOf s.dram.mapActive (4 * unit))
def unitPc (s : State) (unit : Nat) : Nat := (coordOf s.dram.mapActive (4 * unit)).pc

/-- A way takes new lines: good, not under test, not under recovery (R166, R179, R182). -/
def wayOpen (s : State) (w : Nat) : Bool :=
  !s.lagoon.failed.testBit w && decide (s.transit.wayTest ≠ some w) && decide (s.lagoon.recovering ≠ some w) &&
  decide (s.lagoon.nextWay.map (·.1) ≠ some w)

/-- The lines of a unit's set. -/
def setLines (s : State) (unit : Nat) : List Line :=
  s.lagoon.lines.filter fun l =>
    decide (l.way < 16) && decide (unitPc s l.unit = unitPc s unit) && decide (unitSet s l.unit = unitSet s unit)

/-- Allocatable: no dirty block and no captured bit (R166). -/
def Line.free (l : Line) : Bool := decide (l.dirty = 0) && !l.captured && decide (l.wb = 0)

/-- The line is invalid: its way has room in the set. -/
def Line.empty (l : Line) : Bool := decide (l.valid = 0) && l.free

/-- The least recently used of some lines. -/
def lru (l : List Line) : Option Line :=
  l.foldl (fun a x => match a with | none => some x | some y => if x.usedAt < y.usedAt then some x else a) none

/-- The open ways in which a set has no valid line. -/
def roomWays (s : State) (unit : Nat) : List Nat :=
  let ls := setLines s unit
  (List.range 16).filter fun w => wayOpen s w && !ls.any fun l => decide (l.way = w) && !l.empty

/-- Where a unit's line goes (R166): an open way with no valid line in the set, else the least recently used allocatable line. -/
def allocWay (s : State) (unit : Nat) : Option (Nat × Option Nat) :=
  let ls := setLines s unit
  match roomWays s unit with
  | w :: _ => some (w, (ls.find? fun l => decide (l.way = w)).map (·.unit))
  | [] =>
    match lru (ls.filter fun l => l.free && wayOpen s l.way) with
    | some l => some (l.way, some l.unit)
    | none => none

/-- Allocate a line for a unit, in the capture and merge area. -/
def allocLine (s : State) (unit : Nat) (captured : Bool) : Option State :=
  match allocWay s unit with
  | none => none
  | some (w, old) =>
    let s := match old with | some u => dropLine s u | none => s
    some { s with lagoon := { s.lagoon with
      lines := s.lagoon.lines ++ [{ way := w, unit := unit, captured := captured, usedAt := s.now, wroteAt := s.now }] } }

/-- Allocate a merge reserve line (R169): 8 per pseudo-channel. -/
def allocReserve (s : State) (unit : Nat) : Option State :=
  if (s.lagoon.lines.filter fun l => decide (l.way = 16) && decide (unitPc s l.unit = unitPc s unit)).length < 8 then
    some { s with lagoon := { s.lagoon with
      lines := s.lagoon.lines ++ [{ way := 16, unit := unit, usedAt := s.now, wroteAt := s.now }] } }
  else none

/-- The dirty cap the registers as they stand select, in lines (R176, R187): 4,096 lines to the MiB. -/
def dirtyCap (s : State) : Nat := csrForceFld s 0x060004 0 8 * 4096

/-- Write-through, as the registers as they stand select it (R174). -/
def writeThrough (s : State) : Bool := csrFld s 0x060000 2 1 == 1 || csrFld s 0x060000 1 1 == 0

/-- A write that enters a queue now takes this policy (R178). -/
def policyNow (s : State) (e : QEnt) : QEnt := { e with thru := writeThrough (before s), cap := dirtyCap (before s) }

/-! ### The write-back buffer (R169 to R176) -/

/-- The line waits to be drawn. A captured line is written back only by its row's release. -/
def Line.wants (l : Line) : Bool :=
  decide (l.wb = 0) && decide (l.dirty ≠ 0) && (l.due || decide (l.urg ≠ 0)) && (!l.captured || l.rel)

/-- The rank a line is drawn with: URGENT, raised, or neither. -/
def Line.drawRank (l : Line) : Nat := if l.urg ≠ 0 then 4 else if l.raised || l.rel then 3 else 0

/-- Draw a line into the buffer: the blocks written URGENT alone, else every dirty block. -/
def Line.draw (now : Nat) (l : Line) : Line :=
  let m := if l.urg ≠ 0 then l.urg &&& l.dirty else l.dirty
  { l with wb := m, again := 0, wbAt := now, lvl := l.drawRank, acted := false, issued := false
           due := l.due && decide (l.dirty ≠ m), urg := 0 }

/-- Lines a pseudo-channel's controller holds in its buffer. -/
def bufUsed (s : State) (n : Nat) : Nat := (s.lagoon.lines.filter fun l => decide (l.wb ≠ 0) && decide (unitPc s l.unit = n)).length

/-- The line drawn before the other: the higher rank, then the longer unwritten. -/
def drawsFirst (a b : Line) : Bool :=
  decide (b.drawRank < a.drawRank) || (decide (a.drawRank = b.drawRank) && decide (a.wroteAt < b.wroteAt))

/-- The buffer of four lines takes one more that waits. -/
def drawOne (s : State) (n : Nat) : State :=
  if 4 ≤ bufUsed s n then s
  else
    match (s.lagoon.lines.filter fun l => l.wants && decide (unitPc s l.unit = n)).foldl (fun a l =>
      match a with | none => some l | some m => if drawsFirst l m then some l else a) none with
    | some l => putLine s (l.draw s.now)
    | none => s

/-- The buffer is filled (R175). -/
def drawAll (s : State) (n : Nat) : State := (List.range 4).foldl (fun s _ => drawOne s n) s

/-- A line is to be written back. -/
def wantWb (s : State) (unit : Nat) (raised : Bool) : State :=
  match lineOf s unit with
  | none => s
  | some l => drawAll (putLine s { l with due := true, raised := l.raised || raised }) (unitPc s unit)

/-- Dirty lines more than the rules of `LAGOON.MODE` and `LAGOON.LIMITS` leave, captured ones apart (R178). -/
def dirtyExcess (s : State) : Nat :=
  let un := (s.lagoon.lines.filter fun l => decide (l.dirty ≠ 0) && !l.captured).length
  if writeThrough s || decide (1 ≤ s.lagoon.degrade) then un else min un (dirtyLines s - dirtyCap s)

/-- FLUSHING ends with the excess (R178). -/
def flushEnds (s : State) : State :=
  if s.lagoon.flushing && decide (dirtyExcess s = 0) then { s with lagoon := { s.lagoon with flushing := false } } else s

/-- The dirty line unwritten for longest, of those whose write-back has not been asked for. -/
def oldestDirty (s : State) : Option Line :=
  (s.lagoon.lines.filter fun l => decide (l.dirty ≠ 0) && !l.captured && decide (l.wb = 0) && !l.due).foldl (fun a l =>
    match a with
    | none => some l
    | some m => if l.wroteAt < m.wroteAt then some l else some m) none

/-- The oldest dirty line is written back while the count exceeds half of DIRTY_CAP, and while R178 flushes (R176). -/
def balanceWb (s : State) : State :=
  if s.lagoon.flushing || decide (dirtyCap s < 2 * dirtyLines s) then
    match oldestDirty s with
    | some l => wantWb s l.unit false
    | none => s
  else s

/-- After a write into a line: write-through, of the block alone where the write was URGENT (R169, R174). -/
def afterLineWrite (s : State) (unit : Nat) (thru : Bool) : State :=
  match lineOf s unit with
  | none => s
  | some l =>
    balanceWb (if l.captured then s
      else if thru || decide (1 ≤ s.lagoon.degrade) || decide (l.way = 16) then wantWb s unit false
      else drawAll s (unitPc s unit))

/-- A write must wait for the cap (R176): it would make a clean line dirty at DIRTY_CAP, and is not URGENT. -/
def capWaits (s : State) (unit cap : Nat) (urgent : Bool) : Bool :=
  !urgent && decide (cap ≤ dirtyLines s) && (match lineOf s unit with | some l => decide (l.dirty = 0) | none => true)

/-- DIRTY_CAP_REACHED (R176, R188). -/
def capReached (s : State) : State :=
  let s := { s with lagoon := { s.lagoon with waited := s.lagoon.waited + 1 } }
  raiseLim s (evKey 1041 0x0304) ms 1041 0x0304 sevNotice (csrForceFld s 0x060004 0 8) s.lagoon.waited 2 false

/-- Write the named blocks of a line to DRAM as they stand (R175). -/
def flushBlocks (s : State) (l : Line) (mask : Nat) : State :=
  (List.finRange 4).foldl (fun s i =>
    if mask.testBit i.val then dramWrite s (4 * l.unit + i.val) l.data[i] l.chk[i] else s) s

/-- The lines of a row under release are free once none of them is dirty (R173): later requests go to DRAM. -/
def closeRelease (s : State) (n bank row : Nat) : State :=
  let us := rowUnits s n bank row
  let mine (l : Line) : Bool := l.rel && us.contains l.unit
  if s.lagoon.lines.any fun l => mine l && decide (l.dirty ≠ 0) then s
  else { s with lagoon := { s.lagoon with lines := s.lagoon.lines.filter fun l => !mine l } }

/-- A line that has been written back: a released row's line closes its row, a clean reserve line and a clean line of a way under
recovery are free (R169, R173, R179). -/
def wbLine (s : State) (l : Line) : State :=
  let c := coordOf s.dram.mapActive (4 * l.unit)
  if l.rel then closeRelease (putLine s l) c.pc c.bank c.row
  else if (l.way = 16 ∨ underWalk s l = true) ∧ l.dirty = 0 ∧ l.captured = false then dropLine s l.unit
  else putLine s l

/-- A line written back is counted; a walk counts its blocks (R187, R188). -/
def countWb (s : State) (l : Line) (mask : Nat) : State :=
  let s := bump 0x06002C 1 s
  if s.lagoon.recovering = some l.way then
    { s with lagoon := { s.lagoon with written := s.lagoon.written + popc 2 mask } } else s

/-- The write-back of a line completes (R175): blocks written again meanwhile stay dirty, and are written back again. -/
def finishWb (s : State) (l : Line) : State :=
  let s := countWb (flushBlocks s l l.wb) l l.wb
  let d := (l.dirty &&& (15 ^^^ l.wb)) ||| l.again
  let s := wbLine s { l with dirty := d, wb := 0, again := 0, raised := l.raised && decide (d ≠ 0)
                             due := decide (d ≠ 0) && (l.due || decide (l.again ≠ 0) && writeThrough s), issued := false, acted := false }
  drawAll (balanceWb (flushEnds s)) (unitPc s l.unit)

/-- A line's dirty blocks are written to DRAM at once, in their row's cycle (R443). -/
def flushLine (s : State) (l : Line) : State :=
  if l.dirty = 0 then s
  else
    let c := coordOf s.dram.mapActive (4 * l.unit)
    let s := rowCycle s (pcFin c.pc) c.bank c.row (popc 2 l.dirty) true
    let s := countWb (flushBlocks s l l.dirty) l l.dirty
    putLine s { l with dirty := 0, wb := 0, again := 0, urg := 0, due := false, raised := false, issued := false, acted := false }

/-- Pseudo-channel, bank and row of some lines, each once. -/
def rowsOf (s : State) (ls : List Line) : List (Nat × Nat × Nat) :=
  (ls.map fun l => let c := coordOf s.dram.mapActive (4 * l.unit); (c.pc, c.bank, c.row)).eraseDups

/-- Lines that meet a condition are written back at once, row by row (R443). -/
def flushLines (s : State) (p : Line → Bool) : State :=
  let ls := s.lagoon.lines.filter fun l => p l && decide (l.dirty ≠ 0)
  (rowsOf s ls).foldl (fun s r => (ls.filter fun l => (rowUnits s r.1 r.2.1 r.2.2).contains l.unit).foldl flushLine s) s

/-- Lines that meet a condition are written back at once and freed. Log entry 99. -/
def emptyLines (s : State) (p : Line → Bool) : State :=
  let s := flushLines s p
  flushEnds { s with lagoon := { s.lagoon with lines := s.lagoon.lines.filter fun l => !p l } }

/-- A row's place in the count of accesses to captured rows. -/
def rowKey (w n bank row : Nat) : Nat := w * 2 ^ 27 + n * 2 ^ 21 + bank * 2 ^ 16 + row

/-- The lines of a captured row. -/
def rowLines (s : State) (n bank row : Nat) : List Line :=
  s.lagoon.lines.filter fun l => l.captured && (rowUnits s n bank row).contains l.unit

/-- A captured row is released (R173): clean, its lines are free; else its dirty blocks are drawn at urgency level 3, and
requests to the row wait. -/
def releaseRow (s : State) (n bank row : Nat) : State :=
  let us := rowUnits s n bank row
  let f (l : Line) : Line := if l.captured && us.contains l.unit then { l with rel := true, due := true } else l
  let s := { s with lagoon := { s.lagoon with
    lines := s.lagoon.lines.map f
    rowAcc := smErase s.lagoon.rowAcc (rowKey (winNow s) n bank row) } }
  drawAll (closeRelease s n bank row) n

/-- Captured rows: pseudo-channel, bank, row, each once. -/
def capturedRows (s : State) : List (Nat × Nat × Nat) := rowsOf s (s.lagoon.lines.filter (·.captured))

/-- Captured rows whose release has not begun. -/
def heldRows (s : State) : List (Nat × Nat × Nat) := rowsOf s (s.lagoon.lines.filter fun l => l.captured && !l.rel)

/-- A read or write reaches a line (R166, R173). -/
def rowAccess (s : State) (blk : Nat) : State :=
  match lineOf s (blk / 4) with
  | some l =>
    let s := putLine s { l with usedAt := s.now }
    if l.captured then
      let c := coordOf s.dram.mapActive blk
      let k := rowKey (winNow s) c.pc c.bank c.row
      { s with lagoon := { s.lagoon with rowAcc := smSet 0 s.lagoon.rowAcc k (smGet 0 s.lagoon.rowAcc k + 1) } }
    else s
  | none => s

/-! ### Capture (R171, R172, R197) -/

/-- CAPT_LIMIT in force, in lines. -/
def captLimit (s : State) : Nat := min 176 (csrForceFld s 0x060004 8 8) * 4096

/-- Lines captured. -/
def capturedLines (s : State) : Nat := (s.lagoon.lines.filter (·.captured)).length

/-- The set keeps an allocatable line and at most 12 captured after taking one more (R166, R171). -/
def setTakes (s : State) (unit : Nat) : Bool :=
  let ls := setLines s unit
  let own := (lineOf s unit).isSome
  let alloc := (roomWays s unit).length +
    (ls.filter fun l => l.free && !l.empty && wayOpen s l.way && decide (l.unit ≠ unit)).length
  decide ((ls.filter (·.captured)).length < 12) && decide ((if own then 1 else 2) ≤ alloc) &&
    !(s.lagoon.lines.any fun l => decide (l.way = 16) && decide (l.unit = unit))

/-- Why an offer is refused (R188): 1 disabled or degraded, 2 recovery, 3 limit, 4 set or merge reserve; 0 accepted. -/
def offerRefused (s : State) (n bank row : Nat) : Nat :=
  if csrFld s 0x060000 1 1 = 0 ∨ s.lagoon.degrade ≠ 0 then 1
  else if s.lagoon.recovering.isSome ∨ s.lagoon.nextWay.isSome then 2
  else if captLimit s < capturedLines s + 4 then 3
  else if (rowUnits s n bank row).all (setTakes s) then 0 else 4

/-- Give the row its four lines: those it has become captured, their write-backs ending; the others are allocated. -/
def captureLines (s : State) (units : List Nat) : State :=
  units.foldl (fun s u =>
    match lineOf s u with
    | some l => putLine s { l with captured := true, wb := 0, again := 0, due := false, urg := 0, raised := false }
    | none => (allocLine s u true).getD s) s

/-- CAPTURE_REFUSED (R171, R188). -/
def captureRefused (s : State) (n bank row why : Nat) : State :=
  raiseLim (bump 0x060028 1 s) (evKey 1040 0x0303) ms 1040 0x0303 sevInfo (n + bank * 64 + row * 2048) why 2 false

/-- The copy's row cycle (R172): one ACT, 16 column reads, a precharge; the bank is free 80 CCLK after the ACT. -/
def copyCycle (s : State) (n : Pc) (bank row : Nat) : State :=
  let s := bump (pcReg n.val 0x010) 1 (s.modPc n fun c => pushAct s.now (trackAct (winNow s) c bank row))
  let s := bump (pcReg n.val 0x00C) 15 s
  modBank n bank (fun b => { b with capture := some row, actAt := s.now, preAt := s.now + 57, row := none }) s

/-- A capture offer's turn (R172): accepted, its lines are allocated and its copy's ACT is counted; refused, it is counted and
reported, and the ACTs that made it due are spills (R171, R202). -/
def offerCapture (s : State) (n : Pc) (bank row : Nat) : State :=
  let mine (o : Offer) : Bool := o.bank == bank && o.row == row
  let due := s.pcs[n].offers.filter mine
  let s := s.modPc n fun c => { c with offers := c.offers.filter fun o => !mine o }
  match offerRefused s n.val bank row with
  | 0 => copyCycle (captureLines s (rowUnits s n.val bank row)) n bank row
  | r + 1 => due.foldl (fun s o => spill s n.val o.req o.urgent o.at_) (captureRefused s n.val bank row (r + 1))

/-- The bank can take the copy's ACT (R152, R172, R192, R207): no copy or targeted refresh stands before it, no notice is
pending, no refresh is due. -/
def offerReady (s : State) (n : Pc) (bank : Fin 32) (row : Nat) : Bool :=
  let b := s.pcs[n].banks[bank]
  pcOnline s n && s.pcs[n].offers.any (fun o => o.bank == bank.val && o.row == row) && b.capture.isNone &&
  !rowStopped s n bank.val row && !rowCaptured s n.val bank.val row && !noticed s n bank.val && decide (b.debt = 0)

/-- When the copy's ACT is legal: after the bank's open row is closed (R148). -/
def offerTime (s : State) (n : Pc) (bank : Fin 32) : Nat :=
  let b := s.pcs[n].banks[bank]
  actTime s.pcs[n] (if b.row.isSome then { b with preAt := max s.now (preTime b) } else b)

/-- The code word DRAM holds for a block: a free one where no write has reached it (R229). Log entries 2, 10. -/
def storedWord (s : State) (blk : Nat) : Block × DWord × State :=
  if blkWritten s blk then (memBlock s.dram.mem blk, chkWord s.dram.chk blk, (dramRead s blk).2)
  else (Config.freeBlock s.free, (Config.freeBlock (s.free + 1)).setWidth 64, s.useFree.useFree)

/-- A block of the row is copied into its line, unless the line's own copy is the current one. -/
def copyStored (s : State) (blk : Nat) : State :=
  match lineOf s (blk / 4) with
  | none => s
  | some l =>
    if l.valid.testBit (blk % 4) then s
    else
      let (b, c, s) := storedWord s blk
      putLine s { l with data := l.data.set (inUnit blk) b, chk := l.chk.set (inUnit blk) c, valid := l.valid ||| 2 ^ (blk % 4) }

/-- The copy ends (R172): every block of the row is valid in its line. -/
def captureCopy (s : State) (units : List Nat) : State :=
  units.foldl (fun s u => (List.range 4).foldl (fun s i => copyStored s (4 * u + i)) s) s

/-! ### The thermal cap on accesses (R464) -/

/-- Non-URGENT accesses of a way permitted in any 1 us window, at the Lagoon die's throttle step (R461, R464). -/
def lagLimit (s : State) : Nat :=
  let k := s.therm.dies[16].step
  if k = 0 then 1600 else if k = 1 then 800 else 400

/-- The ways may take these accesses now. -/
def lagAllows (s : State) (ways : List Nat) : Bool :=
  decide (s.therm.dies[16].step = 0) ||
  ways.all fun w => decide (((s.therm.lagAcc.filter fun a => decide (a.1 = w ∧ s.now < a.2 + 1600)).length +
    (ways.filter fun v => decide (v = w)).length) ≤ lagLimit s)

/-- The accesses are counted. -/
def lagCount (s : State) (ways : List Nat) : State :=
  if s.therm.dies[16].step = 0 then s
  else
    let old := s.therm.lagAcc.filter fun a => decide (s.now < a.2 + 1600)
    { s with therm := { s.therm with lagAcc := ways.map (fun w => (w, s.now)) ++ old } }

/-- The ways of the lines that hold some units. -/
def waysOf (s : State) (units : List Nat) : List Nat :=
  units.filterMap fun u => match lineOf s u with
    | some l => if l.way < 16 then some l.way else none
    | none => none

def execCaptureCopyDone (n : Pc) (bank : Fin 32) (row : Nat) (s : State) : Out :=
  whenDo (decide (s.pcs[n].banks[bank].capture = some row) && lagAllows s (waysOf s (rowUnits s n.val bank.val row))) s
    (let s := lagCount s (waysOf s (rowUnits s n.val bank.val row))
     let s := s.atLeast (s.pcs[n].banks[bank].actAt + 128)
     modBank n bank.val (fun b => { b with capture := none }) (captureCopy s (rowUnits s n.val bank.val row)))

/-! ### Write-back (R170, R175, R176) -/

/-- A dirty line unwritten for 100 us is written back (R176). -/
def execLineWritebackTimeout (n : Pc) (line : Nat) (s : State) : Out :=
  match lineOf s line with
  | none => .next s
  | some l =>
    whenDo (decide (unitPc s line = n.val) && decide (l.dirty ≠ 0) && !l.captured && decide (l.wb = 0)) s
      (wantWb (s.atLeast (l.wroteAt + 160000)) line false)

/-- The DRAM write of a line completes: its column commands have been issued. -/
def execLineWritebackDone (n : Pc) (line : Nat) (s : State) : Out :=
  match lineOf s line with
  | none => .next s
  | some l => whenDo (decide (unitPc s line = n.val) && decide (l.wb ≠ 0) && l.issued && pcOnline s n) s (finishWb s l)

/-! ### Way failure (R179 to R181) -/

/-- Level of degradation for a set of failed ways (R181). -/
def degradeOf (failed : Nat) : Nat :=
  let k := popc 4 failed
  if k ≤ 3 then 0 else if k ≤ 14 then 1 else 2

/-- A Lagoon way is emptied at once: dirty blocks written back, captured rows released whole, lines free (R179, R182). -/
def emptyWay (s : State) (w : Nat) : State :=
  let rows := rowsOf s (s.lagoon.lines.filter fun l => l.captured && decide (l.way = w))
  let us := rows.flatMap fun r => rowUnits s r.1 r.2.1 r.2.2
  emptyLines s fun l => decide (l.way = w) || (l.captured && us.contains l.unit)

/-- A way is disabled; a change of level raises LAGOON_DEGRADED and releases the captured rows; at POOL_ONLY no line but the
merge reserve's is left in use. -/
def disableWay (s : State) (w : Nat) : State :=
  let f := s.lagoon.failed ||| 2 ^ w
  let d := degradeOf f
  let old := s.lagoon.degrade
  let s := { s with lagoon := { s.lagoon with failed := f, degrade := max old d } }
  if old < d then
    let s := raiseJ s 1042 0x0305 sevWarn d f
    if d = 2 then emptyLines s fun l => decide (l.way < 16)
    else (heldRows s).foldl (fun s r => releaseRow s r.1 r.2.1 r.2.2) s
  else s

/-- A dirty block the walk cannot correct is written to DRAM poisoned, with the steps of R225 and WAY_LOSS (R180). -/
def wayLoss (s : State) (w blk : Nat) : State :=
  match validLine s blk with
  | none => s
  | some l =>
    let i := inUnit blk
    if l.dirty.testBit i.val then
      let s := invalidate (dramWrite s blk l.data[i] (poisonCheck l.data[i])) l (2 ^ i.val)
      let s := poisonList s blk 6
      let ssn := nextSsn s
      let s := uncorrFound s blk 6 true false
      let s := markGranule s s.epochs.newest (granuleOf blk)
      raiseJ s (1024 + w) 0x0302 sevError (64 * blk) ssn
    else invalidate s l (2 ^ i.val)

/-- A dirty line with both tag copies lost: its pseudo-channel goes offline (R180). -/
def tagLost (s : State) (w : Nat) (n : Pc) (set : Nat) : State :=
  let gone (l : Line) : Bool := decide (l.way = w) && decide (unitPc s l.unit = n.val) && decide (unitSet s l.unit = set)
  let s := { s with lagoon := { s.lagoon with lines := s.lagoon.lines.filter fun l => !gone l } }
  let s := raiseJ s 1043 0x0307 sevFatal n.val (704 * n.val + set)
  goOffline s n

/-- A run that tests another way is abandoned when a way fails (R182, R484). -/
def abandonWayTest (s : State) (w : Nat) : State :=
  if s.transit.wayTest.isSome && decide (s.transit.wayTest ≠ some w) then transitAbort s 4 else s

/-- A capture copy ends without effect (R185): lines that were the row's before stay, the others are free. -/
def dropCopy (s : State) (n bank row : Nat) : State :=
  let us := rowUnits s n bank row
  let s := modBank (pcFin n) bank (fun b => { b with capture := none }) s
  let g (l : Line) : Line := if us.contains l.unit then { l with captured := false } else l
  { s with lagoon := { s.lagoon with lines := (s.lagoon.lines.map g).filter fun l => !(us.contains l.unit && l.empty) } }

/-- A capture copy with a line in the failing way is abandoned: the capture is refused (R185). -/
def abandonCopies (s : State) (w : Nat) : State :=
  (rowsOf s (s.lagoon.lines.filter fun l => l.captured && decide (l.way = w))).foldl (fun s r =>
    if s.pcs[pcFin r.1].banks[bankFin r.2.1].capture = some r.2.2 then
      captureRefused (dropCopy s r.1 r.2.1 r.2.2) r.1 r.2.1 r.2.2 2
    else s) s

/-- Words of a way corrected in the last 1 ms. -/
def corrRecent (s : State) (w : Nat) : Nat := (s.lagoon.corr.filter fun x => decide (x.1 = w) && decide (s.now < x.2 + ms)).length

/-- Words of a way are corrected by SEC-DED (R179, R183, R188). -/
def wayCorr (s : State) (w k : Nat) : State :=
  let s := bump 0x060030 k s
  let s := { s with lagoon := { s.lagoon with
    corr := List.replicate k (w, s.now) ++ s.lagoon.corr.filter fun x => decide (s.now < x.2 + ms) } }
  raiseLim s (evKey (1024 + w) 0x0300) ms (1024 + w) 0x0300 sevInfo (corrRecent s w) 0 0 false

/-- An upset of one bit strikes a word of a line before it is read: SEC-DED corrects it. -/
def lineUpset (s : State) (u : Upset) : State :=
  match validLine s u.blk with
  | some l => if popc 3 u.flip.toNat = 1 ∧ l.way < 16 then wayCorr s l.way 1 else s
  | none => s

/-- The walk of a way begins (R179, R182): its clean lines are invalid, its dirty ones drawn, at urgency level 3 in a recovery, its
captured rows released. Log entry 99. -/
def walkWay (s : State) (w : Nat) (raised : Bool) : State :=
  let rows := rowsOf s (s.lagoon.lines.filter fun l => l.captured && !l.rel && decide (l.way = w))
  let s := rows.foldl (fun s r => releaseRow s r.1 r.2.1 r.2.2) s
  let mine (l : Line) : Bool := decide (l.way = w) && !l.captured
  let s := { s with lagoon := { s.lagoon with
    lines := (s.lagoon.lines.filter fun l => !(mine l && decide (l.dirty = 0))).map fun l =>
      if mine l then { l with valid := l.dirty, due := true, raised := l.raised || raised } else l } }
  (List.range 64).foldl drawAll s

/-- `LAGOON.WAYS.OUT_OF_SERVICE` (R182): the way under test, once it is empty. -/
def outOfService (s : State) : Nat :=
  match s.transit.wayTest with
  | some w => if s.lagoon.lines.any fun l => decide (l.way = w) then 0 else 2 ^ w
  | none => 0

/-- The next good way after those below `lo` is taken for test (R182): it is emptied, and then out of service.
Log entry 50. -/
def testWay (s : State) (lo : Nat) : State :=
  match (List.range 16).find? fun w => decide (lo ≤ w) && wayOpen s w with
  | some w =>
    let s := abandonCopies s w
    walkWay { s with transit := { s.transit with wayTest := some w } } w false
  | none => { s with transit := { s.transit with wayTest := none } }

/-- A way fails in service (R179). Under cause 2 more than 32 words were corrected within 1 ms. -/
def wayFails (s : State) (w cause : Nat) (tag : Option (Pc × Nat)) (lost : List Nat) : State :=
  let s := abandonWayTest s w
  let s := abandonCopies s w
  let s := if cause = 2 ∧ corrRecent s w < 33 then wayCorr s w (33 - corrRecent s w) else s
  let s := lost.foldl (fun s b => wayLoss s w b) s
  let s := match tag with | some (n, set) => tagLost s w n set | none => s
  if s.lagoon.recovering.isNone then
    walkWay { s with lagoon := { s.lagoon with recovering := some w, cause := cause, written := 0 } } w true
  else { s with lagoon := { s.lagoon with nextWay := some (w, cause) } }

/-- A way can fail: good, and not already under recovery; at most two recoveries stand (R179). -/
def wayMayFail (s : State) (w : Nat) : Bool :=
  wayOpen s w && (s.lagoon.recovering.isNone || s.lagoon.nextWay.isNone)

def execWayFailureDetected (way : Fin 16) (cause : Fin 5) (tag : Option (Pc × Nat)) (lost : List Nat) (s : State) : Out :=
  whenDo (wayMayFail s way.val && decide (1 ≤ cause.val)) s (wayFails s way.val cause.val tag lost)

/-- The walk ends (R179): what it has left is in DRAM, the way disabled, and the walk of a second way begins. Log entry 99. -/
def wayRecovered (s : State) (w : Nat) (lost : List Nat) : State :=
  let s := emptyWay (lost.foldl (fun s b => wayLoss s w b) s) w
  let cause := s.lagoon.cause
  let n := s.lagoon.written
  let s := match s.lagoon.nextWay with
    | none => { s with lagoon := { s.lagoon with recovering := none } }
    | some (v, c) => walkWay { s with lagoon := { s.lagoon with recovering := some v, cause := c, nextWay := none, written := 0 } } v true
  let s := raiseJ s (1024 + w) 0x0301 sevError cause n
  disableWay s w

def execWayRecoveryDone (way : Fin 16) (lost : List Nat) (s : State) : Out :=
  whenDo (decide (s.lagoon.recovering = some way.val)) s (wayRecovered s way.val lost)

end Sys2Proof.Machine
end

