-- ==== Sys2Proof/Machine/Sched.lean ====
section
/-! DEFINITION. Scheduling and service of a pseudo-channel queue (R139 to R154), reads and writes of blocks (R141, R142, R216 to
R227, R238, R239). -/

namespace Sys2Proof.Machine

/-! ### What an entry still needs of DRAM -/

/-- A read of a block is answered without DRAM (R141, R167, R232, R233). -/
def readsLocal (s : State) (e : QEnt) (blk : Nat) : Bool :=
  (queuedWrite s blk e.id).isSome || (validLine s blk).isSome || claimZero s blk ||
  (s.dram.freshActive && !pageWritten s blk)

/-- Blocks an entry covers. -/
def QEnt.blocks (e : QEnt) : List Nat := ((List.range e.n).filter fun j => e.cover.testBit j).map (e.blk + ·)

/-- An entry needs a DRAM command (R167, R168). -/
def needsDram (s : State) (e : QEnt) : Bool :=
  match e.src with
  | .line _ => true
  | .scrub => true
  | _ =>
    match e.kind with
    | .rd => !e.blocks.all (readsLocal s e)
    | .wr => !e.blocks.all fun b => (validLine s b).isSome
    | .wrm => if e.merged then (validLine s e.blk).isNone else decide (e.mask ≠ 0) && (validLine s e.blk).isNone
    | _ => false

/-- An earlier entry of one block must be served first (R94): a write waits for every earlier entry, a read for an earlier WRM
not yet merged, and the scrubber's read of the DRAM copy for every earlier write. -/
def blockedBy (s : State) (n : Pc) (e : QEnt) : Bool :=
  s.pcs[n].queue.any fun f => decide (f.id < e.id) && f.blocks.any (e.covers ·) &&
    (match e.kind with
     | .rd => if e.src == .scrub then f.kind != .rd else f.kind == .wrm && !f.merged
     | _ => true)

/-- The entry's place. -/
def QEnt.coord (e : QEnt) (s : State) : Coord := coordOf s.dram.mapActive e.blk

/-- The bank of an entry. -/
def bankOf (s : State) (n : Pc) (e : QEnt) : Bank := s.pcs[n].banks[bankFin (e.coord s).bank]

/-- The entry is a line's write-back. -/
def QEnt.isLine (e : QEnt) : Bool := match e.src with | .line _ => true | _ => false

/-- The row is being released (R173). -/
def rowReleasing (s : State) (n bank row : Nat) : Bool :=
  s.lagoon.lines.any fun l => l.rel && (rowUnits s n bank row).contains l.unit

/-- Rows whose requests wait: under capture copy or held for a targeted refresh; but for its own write-backs under release; for
writes, under a soft-repair copy (R172, R173, R198, R261). -/
def rowBusy (s : State) (n : Pc) (e : QEnt) : Bool :=
  let b := bankOf s n e
  let c := e.coord s
  decide (b.capture = some c.row) || rowStopped s n c.bank c.row || (!e.isLine && rowReleasing s n.val c.bank c.row) ||
  (decide (b.repair = some c.row) && e.kind != .rd)

/-- URGENT, by class or raised (R93 rule 5, R143). -/
def QEnt.urgent (e : QEnt) : Bool := decide (e.cls = 0) || e.raised

/-- The next command of an entry is a row hit. -/
def rowHit (s : State) (n : Pc) (e : QEnt) : Bool := decide ((bankOf s n e).row = some (e.coord s).row)

/-- The entry's command is a write column command. -/
def QEnt.writes (e : QEnt) : Bool := e.kind == .wr || (e.kind == .wrm && e.merged)

/-- A line's write-back as the scheduler sees it (R175, R176). -/
def Line.entry (l : Line) : QEnt :=
  { id := 0, src := .line l.unit, kind := .wr, cls := if l.lvl = 4 then 0 else 3, blk := 4 * l.unit, n := 4, cover := l.wb
    arrived := l.wbAt, pool := 3, issued := l.issued, acted := l.acted, drained := true }

/-- What a controller's scheduler chooses among: its queue, and the lines in its write-back buffer. -/
def requests (s : State) (n : Pc) : List QEnt :=
  s.pcs[n].queue ++ (s.lagoon.lines.filter fun l => decide (l.wb ≠ 0) && decide (unitPc s l.unit = n.val)).map Line.entry

/-- The first came before the second. -/
def QEnt.older (f e : QEnt) : Bool := decide (f.arrived < e.arrived) || (decide (f.arrived = e.arrived) && decide (f.id < e.id))

/-- An older URGENT write of the bank has not been written yet (R154). -/
def urgentWriteFirst (s : State) (n : Pc) (e : QEnt) : Bool :=
  (requests s n).any fun f => f.writes && f.urgent && !f.issued && f.older e && needsDram s f && !blockedBy s n f &&
    decide ((f.coord s).bank = (e.coord s).bank)

/-- A request may open a row of the bank (R152, R192, R207): an URGENT one always; another not while a notice is pending, nor
before a refresh the bank owes. -/
def mayOpen (s : State) (n : Pc) (bank : Nat) (urgent : Bool) : Bool :=
  urgent || (!noticed s n bank && decide (s.pcs[n].banks[bankFin bank].debt = 0))

/-- The entry may be given its next DRAM command (R143, R152, R154, R192). -/
def pickable (s : State) (n : Pc) (e : QEnt) : Bool :=
  let b := bankOf s n e
  needsDram s e && !e.issued && !blockedBy s n e && !rowBusy s n e && !urgentWriteFirst s n e &&
  (e.urgent || !isForced s b) && (b.row.isSome || mayOpen s n (e.coord s).bank e.urgent)

/-- When the next command of an entry is legal (R148). -/
def legalAt (s : State) (n : Pc) (e : QEnt) : Nat :=
  let c := s.pcs[n]
  let b := bankOf s n e
  match b.row with
  | some r => if r = (e.coord s).row then colTime c b e.writes else preTime b
  | none => actTime c b

/-! ### Rank (R143 to R147) -/

/-- The curve the registers as they stand give (R147). -/
def curveSet (s : State) : Nat × Nat × Nat :=
  let v := csrForce s 0x030004
  let u1 := bitsOf v 0 8; let u2 := bitsOf v 8 8; let u3 := bitsOf v 16 8
  if 1 ≤ u1 ∧ u1 < u2 ∧ u2 < u3 ∧ u3 ≤ 200 then (u1, u2, u3) else (50, 75, 100)

/-- The urgency curve in force: a change applies from the next CCLK (R147). -/
def curve (s : State) : Nat × Nat × Nat := curveSet (before s)

/-- A latency target in CCLK; 0 none (R146, R147). -/
def targetOf (s : State) (p : Port) (cls : Nat) : Nat :=
  let v := csrForce (before s) (portReg p 0x020)
  let t := if cls = 1 then bitsOf v 0 14 else if cls = 2 then bitsOf v 16 14 else 0
  16 * (if t = 0 then 0 else if t < 5 then 5 else if 10000 < t then 10000 else t)

/-- Urgency level from age and target (R145). -/
def levelOf (s : State) (p : Port) (cls age : Nat) : Nat :=
  let t := targetOf s p cls
  let (u1, u2, u3) := curve s
  if t = 0 ∨ 100 * age < u1 * t then 0 else if 100 * age < u2 * t then 1 else if 100 * age < u3 * t then 2 else 3

/-- The level of write-backs (R176, R178): raised from seven-eighths of the cap, and while the stack flushes an excess. -/
def wbLevel (s : State) : Nat := if s.lagoon.flushing || decide (7 * dirtyCap s ≤ 8 * dirtyLines s) then 3 else 0

/-- The level of an entry. -/
def entryLevel (s : State) (e : QEnt) : Nat :=
  match e.src with
  | .host p => levelOf s p e.cls (s.now - e.arrived)
  | .line u => max (wbLevel s) (match lineOf s u with | some l => l.lvl | none => 0)
  | _ => 0

/-- Rules 1 and 2 of R143 as one number: larger goes first. -/
def rank (s : State) (e : QEnt) : Nat := if e.urgent then 4 else entryLevel s e

/-- The class a request is served in. -/
def QEnt.class (e : QEnt) : Nat := if e.raised then 0 else e.cls

/-- The first element with the largest value. -/
def maxBy {α : Type} (f : α → Nat) : List α → Option α
  | [] => none
  | a :: l => match maxBy f l with
    | none => some a
    | some b => if f b ≤ f a then some a else some b

/-- The oldest of some entries. -/
def oldest (l : List QEnt) : Option QEnt :=
  l.foldl (fun a x => match a with | none => some x | some y => if x.arrived < y.arrived then some x else a) none

/-- A pick: the entry, and whether R144 or rule 3 decided it (0 neither, 1 rule 3 over an older, 2 the streak cap). -/
structure Pick where
  e : QEnt
  why : Nat

/-- Choose among entries legal now (R143, R144). -/
def choose (s : State) (n : Pc) (l : List QEnt) : Option Pick :=
  match maxBy (rank s) l with
  | none => none
  | some top =>
    let g := l.filter fun e => decide (rank s e = rank s top)
    match oldest (g.filter (rowHit s n)) with
    | none => (oldest g).map (⟨·, 0⟩)
    | some hit =>
      match oldest (g.filter fun e => decide (e.arrived < hit.arrived) && decide (e.class = hit.class) && !rowHit s n e) with
      | none => some ⟨hit, 0⟩
      | some old => if 16 ≤ s.pcs[n].streak then some ⟨old, 2⟩ else some ⟨hit, 1⟩

/-- The requester an ACT is attributed to (R79, R202). -/
def requester (e : QEnt) : Option Nat := e.port?.map fun p => 64 * p.val + e.stream

/-- Change the entry, or the line whose write-back it is. Log entry 91. -/
def markEnt (s : State) (n : Pc) (e : QEnt) (act : Bool) : State :=
  match e.src with
  | .line u =>
    match lineOf s u with
    | some l => putLine s { l with acted := l.acted || act, issued := !act }
    | none => s
  | _ => modEntry s n e.id fun f => { f with acted := f.acted || act, issued := !act }

/-- Issue the column commands of an entry (R148, R192): with auto-precharge for an URGENT one on a forced bank, or where the bank
has debt and no other row hit waits (R191). ROWHITS counts those that find the row open without an ACT of their own.
Log entry 91. -/
def issueCol (s : State) (n : Pc) (e : QEnt) : State :=
  let b := bankOf s n e
  let bank := (e.coord s).bank
  let others := (requests s n).any fun f => !(decide (f.id = e.id) && f.src == e.src) && pickable s n f && rowHit s n f &&
    decide ((f.coord s).bank = bank)
  let close := (decide (0 < b.debt) && !others) || (isForced s b && e.urgent)
  let k := e.blocks.length
  let s := bump (pcReg n.val 0x00C) (if e.acted then k - 1 else k) s
  let s := columns (markEnt s n e false) n bank k e.writes
  if close then modBank n bank (fun b => { b with row := none, preAt := preTime b }) s else s

/-- Issue the next command of an entry: column commands, precharge or ACT. -/
def issueCmd (s : State) (n : Pc) (e : QEnt) : State :=
  let bank := (e.coord s).bank
  match (bankOf s n e).row with
  | some r =>
    if r = (e.coord s).row then issueCol s n e
    else modBank n bank (fun b => { b with row := none, preAt := s.now }) s
  | none =>
    let row := (e.coord s).row
    let s := modBank n bank (fun b => { b with row := some row, actAt := s.now }) s
    let s := markEnt (s.modPc n (pushAct s.now)) n e true
    countAct (bump (pcReg n.val 0x010) 1 s) n bank row (requester e) e.urgent

/-- The streak count after a pick (R144). -/
def streakAfter (s : State) (n : Pc) (why : Nat) : State :=
  let s := s.modPc n fun c => { c with streak := if why = 1 then c.streak + 1 else 0 }
  if why = 2 then bump (pcReg n.val 0x014) 1 s else s

/-- One pick of the scheduler: at the first CCLK at which some command is legal. -/
def schedule (s : State) (n : Pc) : State :=
  let l := (requests s n).filter (pickable s n)
  match l with
  | [] => s
  | e :: r =>
    let s := s.atLeast (r.foldl (fun m f => min m (legalAt s n f)) (legalAt s n e))
    match choose s n (l.filter fun f => decide (legalAt s n f ≤ s.now)) with
    | none => s
    | some k => issueCmd (streakAfter s n k.why) n k.e

/-- A request legal now goes before a capture copy (R172): an URGENT one; one of urgency level 3 that hits a row or is older. -/
def outranksCopy (s : State) (n : Pc) (at_ : Nat) : Bool :=
  (requests s n).any fun e => pickable s n e && decide (legalAt s n e ≤ s.now) &&
    (decide (rank s e = 4) || (decide (rank s e = 3) && (rowHit s n e || decide (e.arrived < at_))))

def execCaptureOffer (n : Pc) (bank : Fin 32) (row : Nat) (s : State) : Out :=
  match s.pcs[n].offers.find? (fun o => o.bank == bank.val && o.row == row) with
  | none => .next s
  | some o =>
    let t := s.atLeast (offerTime s n bank)
    whenDo (offerReady s n bank row && !outranksCopy t n o.at_) s (offerCapture t n bank.val row)

/-! ### Reads -/

/-- What a read entry finds of a block: an earlier write of its queue, a claim's zeros, the line, or DRAM (R141, R167, R233). -/
def readBlock (s : State) (e : QEnt) (blk : Nat) : Found × State :=
  match queuedWrite s blk e.id with
  | some w =>
    let x := entryWord w blk
    ({ dec := rsDecode [] x.1 x.2, raw := x.1, dram := false }, s)
  | none =>
    if claimZero s blk then ({ dec := { status := stOk, data := 0 }, raw := 0, dram := false }, s)
    else
      let (f, s) := readWord s blk
      (f, if f.dram then s else bump 0x060020 1 (rowAccess s blk))

/-- One block of a host read: its status, its data, and the state after (R141, R216, R232, R233). -/
def hostBlock (s : State) (e : QEnt) (blk : Nat) : Nat × Block × State :=
  if s.dram.freshActive && !pageWritten s blk then (stUnwritten, 0, s)
  else
    let (f, s) := readBlock s e blk
    (f.dec.status, f.dec.data, afterRead s blk e.id 1 f false)

/-- A host read completes (R86). -/
def hostRead (s : State) (n : Pc) (e : QEnt) : State :=
  let (rs, s) := e.blocks.foldl (fun (acc : List (Nat × Block) × State) blk =>
    let (st, d, s) := hostBlock acc.2 e blk
    (acc.1 ++ [(st, d)], s)) ([], s)
  freeEntry (answer s e (worst (rs.map (·.1))) (rs.map (·.1)) (rs.map (·.2))) n e.id

/-- What a scrubber's read of the DRAM copy starts (R238, R239): a correction counts in every case; the write-back or poisoning of
a block dirty in a line is dropped, a clean one is restored from its line. -/
def scrubFound (s : State) (e : QEnt) (n : Pc) (blk : Nat) (f : Found) : State :=
  let d := f.dec
  match validLine s blk with
  | some l =>
    if l.dirty.testBit (blk % 4) then
      if d.status = stCorr then afterRead (bump 0x070034 1 s) blk e.id 0 f true
      else if d.status = stUncorr then bump 0x070034 1 (bump (pcReg n.val 0x064) 1 (bump 0x070028 1 s)) else s
    else if d.status = stCorr then
      derive (afterRead (bump 0x070024 1 s) blk e.id 0 f true) { blk := blk, readId := e.id, data := d.data, poison := false, finder := 0 }
    else if d.status = stUncorr then
      let s := rowCycle s n (e.coord s).bank (e.coord s).row 1 true
      dramWrite (bump (pcReg n.val 0x064) 1 (bump 0x070028 1 s)) blk l.data[inUnit blk] l.chk[inUnit blk]
    else s
  | none =>
    if d.status = stCorr then
      derive (afterRead (bump 0x070024 1 s) blk e.id 0 f true) { blk := blk, readId := e.id, data := d.data, poison := false, finder := 0 }
    else if d.status = stUncorr then afterRead (bump 0x070028 1 s) blk e.id 0 f true
    else s

/-- A block of a scrub unit (R238, R239): the DRAM copy is read. -/
def scrubBlock (s : State) (e : QEnt) (blk : Nat) : State :=
  if s.dram.freshActive && !pageWritten s blk then s
  else if !blkWritten s blk then
    let (f, s) := readWord s blk
    let s := if f.dec.status = stCorr then bump 0x070024 1 s else if f.dec.status = stUncorr then bump 0x070028 1 s else s
    afterRead s blk e.id 0 f true
  else
    let (f, s) := dramRead s blk
    scrubFound s e (pcFin (coordOf s.dram.mapActive blk).pc) blk f

/-- A scrub unit completes: its walker is free for the next (R237). -/
def scrubRead (s : State) (n : Pc) (e : QEnt) : State :=
  let s := e.blocks.foldl (fun s blk => scrubBlock s e blk) s
  (freeEntry s n e.id).modPc n fun c => { c with walker := { c.walker with outstanding := none } }

/-- An entry by id. -/
def entryOf (s : State) (n : Pc) (id : Nat) : Option QEnt := s.pcs[n].queue.find? fun e => decide (e.id = id)

/-- The read's data is there: its column command has been issued, or it needs no DRAM. -/
def readReady (s : State) (n : Pc) (e : QEnt) : Bool :=
  e.kind == .rd && (e.issued || !needsDram s e) && !blockedBy s n e && !rowBusy s n e

/-- The ways a non-URGENT read takes its valid blocks from (R464). -/
def readWays (s : State) (e : QEnt) : List Nat :=
  if e.urgent || e.src == .scrub then [] else
  e.blocks.filterMap fun b => match validLine s b with
    | some l => if l.way < 16 then some l.way else none
    | none => none

def execReadDataDecoded (n : Pc) (id : Nat) (upsets : List Upset) (s : State) : Out :=
  match entryOf s n id with
  | none => .next s
  | some e =>
    whenDo (readReady s n e && lagAllows s (readWays s e)) s
      (let s := lagCount s (readWays s e)
       let us := upsets.filter fun u => e.blocks.contains u.blk
       let s := us.foldl lineUpset (us.foldl dramUpset s)
       if e.src == .scrub then scrubRead s n e else hostRead s n e)

/-! ### Writes -/

/-- One block of a write entry reaches its line or DRAM (R142, R167), under the entry's policy (R178). -/
def commitBlock (s : State) (e : QEnt) (blk : Nat) : State :=
  let (b, c) := entryWord e blk
  let hadLine := (validLine s blk).isSome
  let s := commitWrite s blk b c e.urgent
  if hadLine then afterLineWrite (rowAccess s blk) (blk / 4) e.thru else s

/-- Commit the blocks of a write entry (R142, R167, R223). The stack's own poisonings keep their poison. -/
def commitEntry (s : State) (e : QEnt) : State :=
  e.blocks.foldl (fun s blk => let s := commitBlock s e blk; if e.src == .corrwb then s else poisonClear s blk) s

/-- A write is done: its column command has been issued, or its blocks are valid in lines. -/
def writeReady (s : State) (n : Pc) (e : QEnt) : Bool :=
  e.writes && (e.issued || !needsDram s e) && !blockedBy s n e && !rowBusy s n e

/-- The write meets the dirty cap (R176). -/
def writeCapped (s : State) (e : QEnt) : Bool :=
  e.blocks.any fun b => (validLine s b).isSome && capWaits s (b / 4) e.cap e.urgent

/-- The write waits: a write-back of its block is in flight from a way under recovery (R179), or at POOL_ONLY from the merge
reserve, which no such write uses (R181). -/
def writeHeldByWalk (s : State) (e : QEnt) : Bool :=
  e.blocks.any fun b => match validLine s b with
    | some l => (underWalk s l && l.wb.testBit (b % 4)) || (decide (s.lagoon.degrade = 2) && decide (l.way = 16) && !e.urgent)
    | none => false

/-! ### Derived writes (R224, R225) -/

/-- CORR_WB for a corrective write-back (R245, R252). -/
def corrWb (s : State) (n : Pc) (blk : Nat) : State :=
  raiseLim (bump 0x07002C 1 s) (evKey (pcSrc n.val 5) 0x0220) ms (pcSrc n.val 5) 0x0220 sevInfo (64 * blk) 0 1 false

/-- Poisonings of one CCLK are listed in the order of pseudo-channel and address (R247): one out of this order comes in the next
CCLK. -/
def poisonTurn (s : State) (n : Pc) (d : Derived) : State :=
  if !d.poison then s
  else
    let k := n.val * 2 ^ 31 + d.blk
    let e := s.dram.lastPoison
    let s := if e.1 = s.now ∧ k < e.2 then s.atLeast (s.now + 1) else s
    { s with dram := { s.dram with lastPoison := (s.now, k) } }

/-- The oldest derived write enters the queue, or is dropped for a newer write. -/
def enqueueDerived (s : State) (n : Pc) (d : Derived) : State :=
  let s := (poisonTurn (turn s n .corrwb) n d).modPc n fun c => { c with derived := c.derived.drop 1 }
  let dirtyLine := match validLine s d.blk with | some l => l.dirty.testBit (d.blk % 4) && !d.poison | none => false
  if d.readId < smGet 0 s.dram.lastWrite d.blk ∨ dirtyLine = true then
    let s := bump 0x070034 1 s
    if d.poison then uncorrFound s d.blk d.finder false false else s
  else
    let id := s.nextId
    let e : QEnt := policyNow s
      { id := id, src := .corrwb, kind := .wr, cls := 3, blk := d.blk, n := 1, data := [d.data]
        chk := [if d.poison then poisonCheck d.data else rsCheck d.data], arrived := s.now, pool := 2, drained := true }
    let s := noteWrite (enqueue s.tick n e) d.blk id
    if d.poison then poisonSteps s d.blk d.finder else if d.corrective then corrWb s n d.blk else s

def execDerivedWriteEnqueue (n : Pc) (s : State) : Out :=
  match s.pcs[n].derived with
  | [] => .next s
  | d :: _ => whenDo (intRoom s.pcs[n]) s (enqueueDerived s n d)

/-! ### Lapses (R155, R205) -/

/-- A requester whose URGENT requests are capped holds the pseudo-channel lapsed (R205). -/
def urgThrottled (s : State) (n : Pc) : Bool := s.guard.thr.any fun x => x.2.urg && x.2.pcs.contains n.val

/-- 1 us after the last breach the guarantee is restored (R155). -/
def lapseEnd (s : State) (n : Pc) : State :=
  let s := noteBreach s n
  let s := noteBreach (s.atLeast (s.pcs[n].breachAt + 1600)) n
  if s.pcs[n].breachAt + 1600 ≤ s.now ∧ urgThrottled s n = false then
    s.modPc n fun c => { pruneUrg s.now c with lapsed := false }
  else s

def execUrgentLapseEnd (n : Pc) (s : State) : Out := whenDo (s.pcs[n].lapsed) s (lapseEnd s n)

end Sys2Proof.Machine
end

