-- ==== Sys2Proof/Machine/Merge.lean ====
section
/-! DEFINITION. Merging a WRM (R168 to R170, R181, R221, R236), writes that reach memory with their queue order settled at once, the
scheduler's pick with the write-intent ring (R422). -/

namespace Sys2Proof.Machine

/-! ### Drained writes -/

/-- A host write of an entry has entered the drain domain: tag, mirror message, WRA (R273, R388, R392). Log entry 78. -/
def drainHost (s : State) (e : QEnt) (data : List Block) : State :=
  match e.port? with
  | none => s
  | some p =>
    let t := portTag s p e.ord
    let ep := tagOf s t
    let win := ((windowOf s e.blk).map (·.val)).getD 0
    let s := tagWrite (drainOrd s e) t e.blk
    let (m, s) := mirrorWrite s e.blk data ep
    respondMirrored s p (e.resp s stOk [] []) e.noResp win m

/-- A write's data is in DRAM or in its line: the entry is free. A full write to a captured row is in the drain domain only now
(R41, R142). Log entry 78. -/
def finishWrite (s : State) (n : Pc) (e : QEnt) : State :=
  let s := freeEntry (commitEntry s e) n e.id
  if e.drained then s else drainHost s e e.data

def execDramWriteDone (n : Pc) (id : Nat) (s : State) : Out :=
  match entryOf s n id with
  | none => .next s
  | some e =>
    if writeReady s n e && !writeHeldByWalk s e then
      if writeCapped s e then
        .next (if e.lineWait then s else capReached (modEntry s n id fun f => { f with lineWait := true }))
      else .next (finishWrite s n e)
    else .next s

/-! ### The merge -/

/-- Where a merge's block goes: a line the unit has, a new line, a reserve line, the entry itself, or nowhere yet. -/
inductive MergeAt where
  | line (s : State)
  | entry
  | wait
deriving DecidableEq, Repr

/-- The unit moves out of a way under recovery into a new line that takes over its blocks (R179). -/
def moveLine (s : State) (l : Line) (urgent : Bool) : Option State :=
  let s := dropLine s l.unit
  match (match allocLine s l.unit l.captured with
    | some t => some t
    | none => if urgent then allocReserve s l.unit else none) with
  | none => none
  | some t => (lineOf t l.unit).map fun k => putLine t { l with way := k.way, usedAt := s.now, wb := 0, again := 0 }

/-- Find the merge's place (R168 to R170, R179, R181). At POOL_ONLY only an URGENT merge uses a line, in the reserve. -/
def mergePlace (s : State) (unit : Nat) (urgent : Bool) : MergeAt :=
  match lineOf s unit with
  | some l =>
    if s.lagoon.degrade = 2 ∧ urgent = false then .wait
    else if underWalk s l then (match moveLine s l urgent with | some t => .line t | none => .wait) else .line s
  | none =>
    if s.lagoon.degrade = 2 then
      (if urgent then (match allocReserve s unit with | some t => .line t | none => .wait) else .entry)
    else match allocLine s unit false with
      | some t => .line t
      | none => if urgent then (match allocReserve s unit with | some t => .line t | none => .wait) else .wait

/-- The set's least recently used dirty, uncaptured line is written back at once, one at a time (R170). -/
def makeRoom (s : State) (unit : Nat) : State :=
  let ls := (setLines s unit).filter fun l => decide (l.dirty ≠ 0) && !l.captured
  if ls.any fun l => l.raised then s
  else match lru ls with
    | some l => if l.wb = 0 then wantWb s l.unit true else putLine s { l with raised := true, lvl := max 3 l.lvl }
    | none => s

/-- The old block of a merge. -/
def oldBlock (s : State) (blk : Nat) : Found × State :=
  if claimZero s blk then ({ dec := { status := stOk, data := 0 }, raw := 0, dram := false }, s) else readWord s blk

/-- The merged block is in its own queue entry, which is then a full write (R181). -/
def mergeInEntry (s : State) (n : Pc) (e : QEnt) (b : Block) : State :=
  let s := modEntry s n e.id fun f =>
    { f with merged := true, drained := true, issued := false, data := [b], chk := [rsCheck b], lineWait := false }
  drainHost (bump 0x060024 1 s) e [b]

/-- The merged block is in its line. -/
def mergeInLine (s : State) (n : Pc) (e : QEnt) (b : Block) : State :=
  match lineOf s (e.blk / 4) with
  | none => s
  | some l =>
    let s := lineWrite s l e.blk b (rsCheck b) e.urgent
    let s := afterLineWrite (rowAccess s e.blk) (e.blk / 4) e.thru
    drainHost (freeEntry (bump 0x060024 1 s) n e.id) e [b]

/-- A merge ends without a write: old block POISON or UNCORR (R221). -/
def mergeFails (s : State) (n : Pc) (e : QEnt) (status : Nat) : State :=
  freeEntry (drainOrd (answer s e status [] []) e) n e.id

/-- The old block and the masked bytes become the new block, in a line or in the entry. -/
def mergeDo (s : State) (n : Pc) (e : QEnt) : State :=
  let (f, s) := oldBlock s e.blk
  let s := afterRead s e.blk e.id 2 f true
  if f.dec.status = stPoison ∨ f.dec.status = stUncorr then mergeFails s n e f.dec.status
  else
    let b := mergeBytes e.mask f.dec.data (e.data.headD 0)
    match mergePlace s (e.blk / 4) e.urgent with
    | .line t => mergeInLine t n e b
    | _ => mergeInEntry s n e b

/-- The merge must wait for the dirty cap (R176). -/
def mergeCapped (e : QEnt) : MergeAt → Bool
  | .line t => capWaits t (e.blk / 4) e.cap e.urgent
  | _ => false

/-- Merge an entry whose old block is at hand, unless it waits for the cap (R176) or for a line (R170). -/
def mergeEntry (s : State) (n : Pc) (e : QEnt) : State :=
  if e.mask = 0 then mergeFails s n e stOk
  else
    let place := mergePlace s (e.blk / 4) e.urgent
    let waits := modEntry s n e.id fun f => { f with lineWait := true }
    if mergeCapped e place then (if e.lineWait then s else capReached waits)
    else if place = .wait then makeRoom waits (e.blk / 4)
    else mergeDo s n e

/-- The entry is a WRM whose old block has been obtained. Log entry 35. -/
def mergeReady (s : State) (n : Pc) (e : QEnt) : Bool :=
  e.kind == .wrm && !e.merged && (e.issued || !needsDram s e) && !blockedBy s n e && !rowBusy s n e

def execWrmMerge (n : Pc) (id : Nat) (s : State) : Out :=
  match entryOf s n id with
  | none => .next s
  | some e =>
    let ways := if e.urgent then [] else waysOf s [e.blk / 4]
    whenDo (mergeReady s n e && lagAllows s ways) s (mergeEntry (lagCount s ways) n e)

/-! ### The scheduler's pick and the write-intent ring (R143, R422) -/

/-- Ring entry i of a pseudo-channel. -/
def wiIdx (n : Pc) (i : Fin 4) : Fin 256 := ⟨4 * n.val + i.val, by omega⟩

/-- A write-intent entry stands: a write of its row is issued and not done, or tWR has not passed since the last beat.
Log entry 27. -/
def wiLive (s : State) (n : Pc) (w : WiEnt) : Bool :=
  decide (s.now < s.pcs[n].banks[bankFin w.bank].wrEnd + 26) ||
  (requests s n).any fun e => e.issued && e.writes && decide ((e.coord s).bank = w.bank) && decide ((e.coord s).row = w.row)

/-- Entries that no longer stand are cleared. Log entry 27. -/
def wiClear (s : State) (n : Pc) : State :=
  (List.finRange 4).foldl (fun s i =>
    match s.power.ring[wiIdx n i] with
    | some w => if wiLive s n w then s else { s with power := { s.power with ring := s.power.ring.set (wiIdx n i) none } }
    | none => s) s

/-- Columns of an entry's blocks, as a mask. -/
def colMask (s : State) (e : QEnt) : Nat :=
  e.blocks.foldl (fun m b => m ||| 2 ^ (coordOf s.dram.mapActive b).col) 0

/-- The ring entry a write of a row sets or extends; none where all four name other rows. -/
def wiSlot (s : State) (n : Pc) (c : Coord) : Option (Fin 4) :=
  match (List.finRange 4).find? (fun i =>
      match s.power.ring[wiIdx n i] with | some w => decide (w.bank = c.bank ∧ w.row = c.row) | none => false) with
  | some i => some i
  | none => (List.finRange 4).find? fun i => s.power.ring[wiIdx n i].isNone

/-- Set or extend the entry of a row. Log entry 27. -/
def wiSet (s : State) (n : Pc) (e : QEnt) : State :=
  let c := e.coord s
  match wiSlot s n c with
  | none => s
  | some i =>
    let m := match s.power.ring[wiIdx n i] with | some w => w.mask | none => 0
    let w : WiEnt := { bank := c.bank, row := c.row, mask := m ||| colMask s e }
    { s with power := { s.power with ring := s.power.ring.set (wiIdx n i) (some w) } }

/-- The writes a pick issued. -/
def newlyIssued (s t : State) (n : Pc) : List QEnt :=
  (requests t n).filter fun e => e.issued && e.writes &&
    (requests s n).any fun f => decide (f.id = e.id) && f.src == e.src && !f.issued

/-- When the first of four live entries can be cleared: tWR after its bank's last beat. Log entry 27. -/
def wiFreeAt (s : State) (n : Pc) : Nat :=
  (List.finRange 4).foldl (fun m i =>
    match s.power.ring[wiIdx n i] with
    | some w => min m (s.pcs[n].banks[bankFin w.bank].wrEnd + 26)
    | none => m) (s.now + 65536)

/-- A pick; a write column command that finds all four ring entries naming other rows waits for one (R422). Log entry 27. -/
def pick (s : State) (n : Pc) : State :=
  let s := wiClear s n
  let t := schedule s n
  match newlyIssued s t n with
  | [] => t
  | e :: _ =>
    let t := wiClear t n
    if (wiSlot t n (e.coord t)).isSome then wiSet t n e
    else
      let s := wiClear (s.atLeast (wiFreeAt s n)) n
      let t := schedule s n
      match newlyIssued s t n with
      | [] => t
      | e :: _ => if (wiSlot t n (e.coord t)).isSome then wiSet t n e else s

def execSchedulerPick (n : Pc) (s : State) : Out := whenDo (pcOnline s n) s (pick s n)

/-! ### Requests the stack serves itself (log entry 19) -/

/-- A write that finds the cap reached, or no line, is let go on by the write-back it waits for. Log entry 19. -/
def makeWay (s : State) (unit : Nat) : State :=
  let ls := s.lagoon.lines.filter fun l => decide (l.dirty ≠ 0) && !l.captured
  let set := ls.filter fun l => (setLines s unit).contains l
  match lru (if set.isEmpty then ls else set) with
  | some l => wbLine (flushLine s l) { l with dirty := 0, wb := 0, again := 0, urg := 0, due := false, raised := false }
  | none => s

/-- A merge that may not wait. Log entry 19. -/
def mergeNow (s : State) (n : Pc) (e : QEnt) : State :=
  let place := mergePlace s (e.blk / 4) e.urgent
  let s := if mergeCapped e place || decide (place = .wait) then makeWay s (e.blk / 4) else s
  if e.mask = 0 then mergeFails s n e stOk else mergeDo s n e

/-- The column commands of an entry, where it needs any that have not been issued: a row cycle of its own. Log entry 19. -/
def entryCycle (s : State) (n : Pc) (e : QEnt) : State :=
  if needsDram s e && !e.issued then rowCycle s n (e.coord s).bank (e.coord s).row e.blocks.length e.writes else s

/-- Serve one entry at once. Log entry 19. -/
def settleEntry (s : State) (n : Pc) (e : QEnt) : State :=
  let s := entryCycle s n e
  match e.kind with
  | .rd => if e.src == .scrub then scrubRead s n e else hostRead s n e
  | .wr => finishWrite (if writeCapped s e then makeWay s (e.blk / 4) else s) n e
  | .wrm =>
    let s := if e.merged then s else mergeNow s n e
    match entryOf s n e.id with
    | some f => if f.merged then freeEntry (commitEntry (if e.merged then s else entryCycle s n f) f) n f.id else s
    | none => s
  | _ => s

/-- What an entry waits for in DRAM is done. -/
def entryReady (s : State) (n : Pc) (e : QEnt) : Bool :=
  readReady s n e || (writeReady s n e && !writeHeldByWalk s e) || mergeReady s n e

/-- The scheduler can go no further: the entries before this one on its blocks are served out of turn, and its own row is opened.
Log entry 19. -/
def serveOut (s : State) (n : Pc) (e : QEnt) : State :=
  let s := (s.pcs[n].queue.filter fun f => decide (f.id < e.id) && f.blocks.any (e.covers ·)).foldl (fun s f => settleEntry s n f) s
  entryCycle s n e

/-- The scheduler picks, in the order of R143, until an entry has what it waits for in DRAM; entries before it on its blocks are
served as they come ready. Log entry 19. -/
def serveTo (fuel : Nat) (s : State) (n : Pc) (id : Nat) : State :=
  match entryOf s n id with
  | none => s
  | some e =>
    match fuel with
    | 0 => serveOut s n e
    | k + 1 =>
      if entryReady s n e then s
      else match s.pcs[n].queue.find? (fun f => decide (f.id < id) && f.blocks.any (e.covers ·) && entryReady s n f) with
        | some f => serveTo k (settleEntry s n f) n id
        | none => if pcOnline s n && (requests s n).any (pickable s n) then serveTo k (pick s n) n id else serveOut s n e

/-- A request of an internal requester waits for one of the 16 internal entries (R139, R157): the oldest is served.
Log entry 19. -/
def intWait (s : State) (n : Pc) : State :=
  if intRoom s.pcs[n] then s
  else match s.pcs[n].queue.find? (fun e => decide (e.pool = 2)) with
    | some e => settleEntry (serveTo 512 s n e.id) n e
    | none => s

/-- A request of the stack's own takes an internal entry and is served up to its DRAM access. Log entry 19. -/
def ownRequest (s : State) (e : QEnt) : QEnt × Pc × State :=
  let n := pcFin (coordOf s.dram.mapActive e.blk).pc
  let s := turn (intWait s n) n e.src
  let e := policyNow s { e with id := s.nextId, arrived := s.now }
  let s := enqueue s.tick n e
  let s := if e.kind == .wr then noteWrite s e.blk e.id else s
  (e, n, serveTo 512 s n e.id)

/-- A block is written by one of the stack's requesters. Log entry 19. -/
def writeNow (s : State) (blk : Nat) (b : Block) (c : DWord) : State :=
  let (e, n, s) := ownRequest s
    { id := 0, src := .wetex, kind := .wr, cls := 3, blk := blk, n := 1, data := [b], chk := [c], arrived := 0, pool := 2, drained := true }
  commitBlock (freeEntry (if writeCapped s e then makeWay s (blk / 4) else s) n e.id) e blk

/-- A block is read by one of the stack's requesters: what is found, and the request's id. Log entry 19. -/
def engineRead (s : State) (blk : Nat) : Found × Nat × State :=
  let (e, n, s) := ownRequest s
    { id := 0, src := .wetex, kind := .rd, cls := 3, blk := blk, n := 1, arrived := 0, pool := 2 }
  let (f, s) := readBlock s e blk
  (f, e.id, freeEntry s n e.id)

/-- A block is read by one of the stack's requesters: its status and data. `finder` as in R249. Log entries 19, 34. -/
def readNow (s : State) (blk finder : Nat) : Nat × Block × State :=
  if s.dram.freshActive && !pageWritten s blk then (stUnwritten, 0, s)
  else
    let (f, id, s) := engineRead s blk
    (f.dec.status, f.dec.data, afterRead s blk id finder f false)

end Sys2Proof.Machine
end

