-- ==== Sys2Proof/Machine/Epochs.lean ====
section
/-! DEFINITION. Epochs, Tidemark and triggers (R272 to R294): passing boundaries, opening and closing, trigger actions, exports and
clears, the settings. -/

namespace Sys2Proof.Machine

/-! ### Writes of the engines -/

/-- ENGINE's tag of a write (R273). -/
def engineTag (s : State) : Option Nat := if isMember s 16 then some s.epochs.cur[16] else none

/-- A write of one block by the engine (R273, R311, R388): `poisoned` where its source was; `tag`: none untagged, some t with
ENGINE's epoch t. The answer is that of `mirrorWrite`. Log entries 19, 40. -/
def engineWriteAs (s : State) (blk : Nat) (b : Block) (poisoned : Bool) (tag : Option (Option Nat)) (mirrored : Bool) :
    Option (Option Nat) × State :=
  let s := freshClaim s blk
  let s := writeNow s blk b (if poisoned then poisonCheck b else rsCheck b)
  let s := if poisoned then poisonList s blk 3 else poisonClear s blk
  let s := match tag with | some t => tagWrite s t blk | none => s
  if mirrored && !poisoned then mirrorWrite s blk [b] (tagOf s (tag.getD (engineTag s))) else (none, s)

/-- The same, its answer put aside. Log entry 40. -/
def engineWrite (s : State) (blk : Nat) (b : Block) (poisoned tagged mirrored : Bool) : State :=
  (engineWriteAs s blk b poisoned (if tagged then some (engineTag s) else none) mirrored).2

/-! ### Exports and clears (R285, R286) -/

/-- Bytes of a bitmap. Log entry 28. -/
def mapBytes : Nat := 196608

/-- All granules outside the Keeper region (R281, R284). -/
def allGranules : Nat := 2 ^ 1571840 - 1

/-- A bitmap is written to memory at a byte address; its writes are not tagged (R273). A block on a pseudo-channel that is
offline is not written. Log entry 28. -/
def exportBits (s : State) (bits dest : Nat) : State :=
  (List.range (mapBytes / 64)).foldl (fun s i =>
    let blk := dest / 64 + i
    if blkOnline s blk then engineWrite s blk (BitVec.ofNat 512 (bitsOf bits (512 * i) 512)) false false true else s) s

/-- A destination meets R285. Log entry 28. -/
def exportDest (a : Nat) : Bool := decide (a % 4096 = 0) && hostUsable a mapBytes

/-- Clear the cumulative map through epoch C over granules [g, g + n): it becomes the OR of the later epochs' maps (R286). -/
def clearThrough (s : State) (c g n : Nat) : State :=
  let keep := (s.epochs.maps.filter fun m => decide (c < m.epoch)).foldl (fun a m => a ||| m.bits) 0
  { s with epochs := { s.epochs with
      cum := putBits s.epochs.cum g n (bitsOf keep g n), cumForced := putBits s.epochs.cumForced g n 0 } }

/-! ### Triggers (R287 to R290) -/

def trigReg (i : Nat) (off : Nat) : Nat := 0x0A0900 + 0x20 * i + off
/-- A 64-bit pair of registers. -/
def csrPair (s : State) (a : Nat) : Nat := csrGet s a + csrGet s (a + 4) * 2 ^ 32
def csrSetPair (s : State) (a v : Nat) : State := csrSet (csrSet s a (v % 2 ^ 32)) (a + 4) (v / 2 ^ 32 % 2 ^ 32)

/-- An action of a trigger other than EVENT runs; TRIG_FIRED follows. Log entry 28. -/
def runAction (s : State) (d : Deferred) (late : Bool) : State :=
  let s := match d.action with
    | 1 => journal s 0x000A 1457 (bodyAt 24 d.trig + bodyAt 32 d.arg)
    | 2 => formBarriers s d.arg
    | 3 =>
      let bits := if d.src then s.epochs.cum else epochBits s d.epoch
      exportBits s bits d.arg
    | 4 => hwFld s 0x070004 11 1 1
    | 5 => hwFld s 0x070004 11 1 0
    | _ => s
  raiseX s 1457 0x0404 sevInfo (d.trig + d.action * 16) d.epoch false late false

/-- A trigger fires. -/
def fire (s : State) (i : Fin 16) (epoch : Nat) : State :=
  let ctl := csrGet s (trigReg i.val 0)
  let arg := csrPair s (trigReg i.val 0x0C)
  let action := bitsOf ctl 2 3
  let s := hwFld s (trigReg i.val 0) 0 1 0
  let s := { s with epochs := { s.epochs with fired := s.epochs.fired ||| (1#16 <<< i.val) } }
  if action = 0 then raise s 1457 0x0403 sevNotice arg (i.val + (epoch % 2 ^ 56) * 256)
  else
    let d : Deferred := { trig := i.val, epoch := epoch, action := action, src := ctl.testBit 5, arg := arg }
    if keeperUp s && s.epochs.deferred.isEmpty then runAction s d false
    else { s with epochs := { s.epochs with deferred := s.epochs.deferred ++ [d] } }

/-- A trigger whose epoch opens or closes in the CCLK in which it was armed is stale (R291). -/
def armedStale (s : State) (i : Fin 16) (epoch : Nat) : State :=
  let s := hwFld s (trigReg i.val 0) 0 1 0
  raise { s with epochs := { s.epochs with stale := s.epochs.stale ||| (1#16 <<< i.val) } } 1458 0x0405 sevWarn i.val epoch

/-- Armed triggers of a moment fire, in ascending index (R290). Log entry 30. -/
def fireAll (s : State) (atClose : Bool) (epoch : Nat) : State :=
  (List.finRange 16).foldl (fun s i =>
    let ctl := csrGet s (trigReg i.val 0)
    if ctl.testBit 0 && (ctl.testBit 1 == atClose) && decide (csrPair s (trigReg i.val 4) = epoch) then
      (if s.epochs.armedAt[i] = s.now + 1 then armedStale s i epoch else fire s i epoch)
    else s) s

/-- A deferred action runs when the Keeper is back, oldest first. -/
def execDeferredTriggerAction (s : State) : Out :=
  match s.epochs.deferred with
  | [] => .next s
  | d :: r => whenDo (keeperUp s) s (runAction { s with epochs := { s.epochs with deferred := r } } d true)

/-! ### Opening and closing (R275 to R277) -/

/-- A boundary V is held (R275): epoch V - 2 has not closed, or the bitmap of V - 4 is named by an export not yet run. -/
def boundaryHeld (s : State) (v : Nat) : Bool :=
  !(decide (v < 2) || decide (v - 2 < s.epochs.newest) && !epochOpen s (v - 2)) ||
  s.epochs.deferred.any (fun d => decide (d.action = 3) && !d.src && decide (d.epoch + 4 = v))

/-- Epoch V opens: the bitmap of V - 4 is recycled (R282), MARK V goes to the partner (R398). Log entry 30. -/
def openEpoch (s : State) (v : Nat) : State :=
  let maps := s.epochs.maps.filter (fun m => decide (v < m.epoch + 4)) ++ [{ epoch := v }]
  fwdMark { s with epochs := { s.epochs with newest := v, two := true, maps := maps } } v

/-- Every write tagged E of member m has entered the drain domain, and m has passed E + 1; E is the older open epoch. -/
def memberPast (s : State) (e : Nat) (m : Member) : Bool :=
  !isMember s m.val ||
  (decide (e < s.epochs.cur[m]) &&
   (if h : m.val < 16 then
      let q := s.ports[(⟨m.val, h⟩ : Port)]
      q.undrained.all fun o => decide (q.lastMark < o)
    else if m.val = 17 then
      !(s.mirror.apply[0] ++ s.mirror.apply[1]).any fun x =>
        (hType x.hdr == 1 || hType x.hdr == 2 || hType x.hdr == 10) && decide (hEpoch x.hdr ≤ e)
    else true))

/-- The older open epoch may close (R276). -/
def canClose (s : State) : Bool :=
  s.epochs.two && (List.finRange 18).all (memberPast s (s.epochs.newest - 1))

/-- An epoch closes: EPOCH_CLOSED, then its AT_CLOSE triggers. Log entry 30. -/
def closeEpoch (s : State) : State :=
  let e := s.epochs.newest - 1
  let s := { s with epochs := { s.epochs with two := false } }
  let s := raiseLim s (evKey 1456 0x0400) ms 1456 0x0400 sevInfo e (popc 21 (epochBits s e)) 2 false
  fireAll s true e

def execEpochClose (s : State) : Out := whenDo (canClose s) s (closeEpoch s)

/-- A member passes boundary V (R272, R276, R291): its entry, its current epoch; V opens where it is the first; an epoch that can
close at once closes before the AT_OPEN triggers act. Log entry 30. -/
def passBoundary (s : State) (m : Member) (v : Nat) : State :=
  let src := if m.val < 16 then 768 + 16 * m.val else 1456
  let s := journal s 0x0003 src (bodyAt 24 m.val + bodyAt 32 v)
  let opens := decide (s.epochs.newest < v)
  let s := if opens then openEpoch s v else s
  let s := { s with epochs := { s.epochs with cur := s.epochs.cur.set m v, started := true } }
  if opens then
    let s := if canClose s then closeEpoch s else s
    fireAll s false v
  else s

/-! ### EPOCH_STALL -/

/-- `EPOCH.STAT.BEHIND`: members at the newest open epoch - 1. -/
def behindBits (s : State) : Nat :=
  (List.finRange 18).foldl (fun b m =>
    if isMember s m.val && decide (s.epochs.cur[m] + 1 = s.epochs.newest) then b + 2 ^ m.val else b) 0

/-- A held boundary of a port: its value and since when. -/
def heldMark (q : PortSt) : Option (StReq × Nat) :=
  (q.staging.find? fun r => r.heldSince.isSome).map fun r => (r, r.heldSince.getD 0)

/-- EPOCH_STALL once for a boundary held 100 us (R275). -/
def stallEvent (s : State) (v since : Nat) : State :=
  let s := s.atLeast (since + 160000)
  raise s 1456 0x0401 sevWarn v (behindBits s)

def execEpochStall (m : Member) (s : State) : Out :=
  if h : m.val < 16 then
    let p : Port := ⟨m.val, h⟩
    match heldMark s.ports[p] with
    | some (r, since) =>
      if r.stalled then .next s
      else
        let mark (x : StReq) : StReq := if x.ord = r.ord then { x with stalled := true } else x
        .next (stallEvent (s.modPort p fun q => { q with staging := q.staging.map mark }) (slotEpoch r.slot) since)
    | none => .next s
  else if m.val = 16 then
    match s.epochs.engHeld with
    | some (v, since) =>
      whenDo (!s.epochs.engStalled) s (stallEvent { s with epochs := { s.epochs with engStalled := true } } v since)
    | none => .next s
  else
    match s.epochs.mirHeld with
    | some (v, since) =>
      whenDo (!s.epochs.mirStalled) s (stallEvent { s with epochs := { s.epochs with mirStalled := true } } v since)
    | none => .next s

/-! ### Settings (R277, R278, R289) -/

/-- A boundary is held anywhere. -/
def anyHeld (s : State) : Bool :=
  s.ports.toList.any (fun q => (heldMark q).isSome) || s.epochs.engHeld.isSome || s.epochs.mirHeld.isSome

/-- The pending set takes effect: members that join take the open epoch (R278). Log entry 29. -/
def applySet (s : State) (v : BitVec 18) : State :=
  let old := s.epochs.portset
  let cur := Vector.ofFn fun m : Fin 18 =>
    if v.getLsbD m.val && !old.getLsbD m.val then s.epochs.newest else s.epochs.cur[m]
  { s with epochs := { s.epochs with portset := v, pendingSet := none, cur := cur } }

/-- The set may change now. Log entry 29. -/
def setFree (s : State) : Bool := !s.epochs.two && !anyHeld s

def execPortsetApply (s : State) : Out :=
  match s.epochs.pendingSet with
  | none => .next s
  | some v => whenDo (setFree s) s (applySet s v)

/-- A write to `EPOCH.PORTSET`: at once where the set may change, else pending. Log entry 29. -/
def writePortset (s : State) (v : Nat) : State :=
  let b : BitVec 18 := BitVec.ofNat 18 (if chrosyOn s then v % 2 ^ 18 else v % 2 ^ 17)
  if setFree s then applySet s b else { s with epochs := { s.epochs with pendingSet := some b } }

/-- A write to `EPOCH.INIT` (R277). -/
def writeInit (s : State) (v : Nat) : State :=
  if s.epochs.started then s
  else
    let bits := epochBits s s.epochs.newest
    { s with epochs := { s.epochs with
        init := v, newest := v, two := false, cur := Vector.replicate 18 v, maps := [{ epoch := v, bits := bits }] } }

/-- TIDEMARK_CFG (R294). -/
def tidemarkCfg (s : State) (addr value : Nat) : State := raise s 1458 0x0406 sevWarn addr value

/-- The trigger's moment has passed (R289). -/
def momentPassed (s : State) (atClose : Bool) (e : Nat) : Bool :=
  if atClose then epochClosed s e else decide (e ≤ s.epochs.newest)

/-- A write to `TRIG[i].CTL` (R289). -/
def writeTrig (s : State) (i : Fin 16) (v : Nat) : State :=
  let a := trigReg i.val 0
  let armed := csrFld s a 0 1 == 1
  if armed then (if v.testBit 0 then s else csrSet s a (putBits (csrGet s a) 0 1 0))
  else
    let s := csrSet s a (bitsOf v 1 5 * 2)
    if !v.testBit 0 then s
    else
      let action := bitsOf v 2 3
      let atClose := v.testBit 1
      let arg := csrPair s (trigReg i.val 0x0C)
      let e := csrPair s (trigReg i.val 4)
      let bad := decide (6 ≤ action) || (action == 3 && ((!v.testBit 5 && !atClose) || !exportDest arg)) ||
        (action == 2 && !chrosyOn s)
      let bit : BitVec 16 := 1#16 <<< i.val
      if bad then tidemarkCfg s a v
      else if momentPassed s atClose e then
        raise { s with epochs := { s.epochs with stale := s.epochs.stale ||| bit } } 1458 0x0405 sevWarn i.val e
      else
        let s := { s with epochs := { s.epochs with stale := s.epochs.stale &&& ~~~bit, fired := s.epochs.fired &&& ~~~bit
                                                    armedAt := s.epochs.armedAt.set i (s.now + 1) } }
        csrSet s a (csrGet s a ||| 1)

end Sys2Proof.Machine
end

