-- ==== Sys2Proof/Machine/RefreshGuard.lean ====
section
/-! DEFINITION. Refresh and row guard commands (R189 to R211). -/

namespace Sys2Proof.Machine

/-! ### Refresh -/

/-- A 1 ms limited event of refresh and row guard (R211). -/
def rgEvent (s : State) (src code sev a0 a1 sup : Nat) (j : Bool) : State :=
  raiseLim s (evKey src code) ms src code sev a0 a1 sup j

/-- The order the eight registers hold (R208). -/
def orderRegs (s : State) : List Nat :=
  (List.range 32).map fun i => bitsOf (csrForce s (0x050010 + 4 * (i / 4))) (8 * (i % 4)) 5

/-- Position of the first bank number that repeats an earlier one. -/
def firstRepeat (seen : List Nat) (i : Nat) : List Nat → Option Nat
  | [] => none
  | b :: r => if seen.contains b then some i else firstRepeat (b :: seen) (i + 1) r

/-- The rotation passes position 0: the order is taken (R209). -/
def adoptOrder (s : State) (n : Pc) : State :=
  let l := orderRegs s
  match firstRepeat [] 0 l with
  | none => s.modPc n fun c => { c with order := l }
  | some i =>
    let s := s.modPc n fun c => { c with order := List.range 32 }
    if s.guard.orderRefused then s
    else
      let s := { s with guard := { s.guard with orderRefused := true } }
      rgEvent s (pcSrc 0 4) 0x0213 sevWarn 0x0010 i 2 false

/-- Length of the slot in progress (R189): 195 CCLK, or 97 and 98 in turn at the double rate. -/
def refSlotLen (c : PcSt) : Nat := if c.slot2x then 97 + c.refPos % 2 else 195

/-- The bank whose command the slot in progress gives. -/
def slotBank (c : PcSt) : Nat := c.order.getD c.refPos 0

/-- The slot in progress ends (R189 to R192): a command not given in it is a debt of its bank, which is forced at PPW; the next
slot has the rate selected by then. -/
def refreshSlot (s : State) (n : Pc) : State :=
  let c := s.pcs[n]
  let s := s.atLeast (c.slotAt + refSlotLen c)
  let b := slotBank c
  let old := c.banks[bankFin b].debt
  let s := s.modPc n fun c => { c with refPos := (c.refPos + 1) % 32, slotAt := c.slotAt + refSlotLen c, slot2x := c.rate2x, slotDone := false }
  let s := if s.pcs[n].refPos = 0 then adoptOrder s n else s
  if c.slotDone then s
  else
    let s := modBank n b (fun k => { k with debt := k.debt + 1 }) s
    if old + 1 = ppw s then rgEvent s (pcSrc n.val 1) 0x0210 sevInfo b 0 1 false else s

/-- A pseudo-channel leaves self-refresh: it accepts commands from `first` on, and takes its refresh order (R194, R209). -/
def wakePc (s : State) (n : Pc) (first : Nat) : State :=
  adoptOrder (s.modPc n fun c => { refreshRestart first c with mode := .online }) n

/-- The slots run while the pseudo-channel is out of self-refresh. -/
def refreshing (s : State) (n : Pc) : Bool := s.pcs[n].mode == .online || s.pcs[n].mode == .tsvSwitch

def execRefreshSlot (n : Pc) (s : State) : Out := whenDo (refreshing s n) s (refreshSlot s n)

/-- A row hit to the bank's open row waits (R191). -/
def hitWaits (s : State) (n : Pc) (bank : Nat) : Bool :=
  (requests s n).any fun e => decide ((e.coord s).bank = bank) && rowHit s n e && pickable s n e

/-- The slot in progress is the bank's own, and its command has not been given (R194). -/
def ownSlot (s : State) (n : Pc) (bank : Nat) : Bool :=
  let c := s.pcs[n]
  !c.slotDone && decide (slotBank c = bank) && decide (c.slotAt ≤ s.now)

/-- A refresh may start (R191, R192, R194): a debt or the bank's own slot, no notice pending unless the bank is forced while a limit
is broken, no copy under way, and no row hit the controller keeps the row open for. -/
def refreshReady (s : State) (n : Pc) (bank : Fin 32) : Bool :=
  let b := s.pcs[n].banks[bank]
  refreshing s n && (decide (0 < b.debt) || ownSlot s n bank.val) && b.capture.isNone &&
  (!noticed s n bank.val || (isForced s b && anyBreach s n s.now)) &&
  (b.row.isNone || isForced s b || !hitWaits s n bank.val)

/-- When it starts: after the row is closed and precharged, tRFCpb after the last refresh, with tRRD and tFAW. -/
def refreshTime (c : PcSt) (b : Bank) : Nat :=
  let b := if b.row.isSome then { b with preAt := preTime b } else b
  max (b.preAt + 23) (max (b.refAt + 288) (actGap c))

/-- A refresh starts: it pays a debt, or is the slot's own command. -/
def startRefresh (s : State) (n : Pc) (bank : Fin 32) : State :=
  let b := s.pcs[n].banks[bank]
  let s := s.atLeast (refreshTime s.pcs[n] b)
  let s := modBank n bank.val (fun b => { b with row := none, debt := b.debt - 1, refAt := s.now }) s
  let s := s.modPc n fun c => { pushAct s.now c with slotDone := c.slotDone || decide (b.debt = 0) }
  if isForced s b then bump (pcReg n.val 0x044) 1 s else s

def execRefreshStart (n : Pc) (bank : Fin 32) (s : State) : Out := whenDo (refreshReady s n bank) s (startRefresh s n bank)

/-! ### Targeted refresh (R198, R199) -/

/-- The repairs that name a spare row of a bank: soft repairs and fuse entries in force. -/
def spareRows (s : State) (pc bank : Nat) : List SoftRep :=
  ((s.dram.soft.toList.filterMap id) ++ s.dram.fuseRows).filter fun r => decide (r.pc = pc ∧ r.bank = bank)

/-- The die-level repairs of a bank (R198): row and spare row 0 to 31. -/
def dieRepairs (s : State) (pc bank : Nat) : List (Nat × Nat) :=
  (s.dram.dieRows.filter fun r => decide (r.1 = pc ∧ r.2.1 = bank)).map fun r => (r.2.2.1, r.2.2.2)

/-- Rows of a bank that lie elsewhere, with their positions: stack-level repairs on spares 32 to 63, die-level ones on 0 to 31. -/
def movedRows (s : State) (pc bank : Nat) : List (Nat × Nat) :=
  (spareRows s pc bank).map (fun r => (r.row, 49152 + 32 + r.spare)) ++ (dieRepairs s pc bank).map fun r => (r.1, 49152 + r.2)

/-- The physical position that holds a row's data (R198). -/
def rowPos (s : State) (pc bank row : Nat) : Nat :=
  match (movedRows s pc bank).find? (fun r => decide (r.1 = row)) with
  | some r => r.2
  | none => row

/-- The row whose data a position holds; an unused spare stands for itself. -/
def posRow (s : State) (pc bank pos : Nat) : Nat :=
  match (movedRows s pc bank).find? (fun r => decide (r.2 = pos)) with
  | some r => r.1
  | none => pos

/-- The neighbour positions: one and two away on each side, within 0 to 49,215. -/
def neighbours (pos : Nat) : List Nat :=
  ((if 2 ≤ pos then [pos - 2] else []) ++ (if 1 ≤ pos then [pos - 1] else []) ++ [pos + 1, pos + 2]).filter
    fun q => decide (q ≤ 49215)

/-- An URGENT request whose notice is pending addresses the row, from its queue or still from staging (R199). -/
def urgentOnRow (s : State) (n : Pc) (bank row : Nat) : Bool :=
  let here (blk : Nat) : Bool := let c := coordOf s.dram.mapActive blk; decide (c.pc = n.val ∧ c.bank = bank ∧ c.row = row)
  s.pcs[n].notices.any fun x => x.bank == bank &&
    (s.pcs[n].queue.any (fun e => decide (e.id = x.id) && here e.blk) ||
     s.ports.toList.any fun q => q.staging.any fun r => decide (r.ord = x.id) && here (slotBlk r.slot))

/-- A row has reached NT: its targeted refresh is triggered; a pending URGENT request to the row lapses (R198, R199). -/
def execNbrRefreshTrigger (n : Pc) (bank : Fin 32) (row : Nat) (s : State) : Out :=
  whenDo (pcOnline s n && decide ((guardParams s).2.1 ≤ estOf s n bank.val row) && !rowHeld s.pcs[n].banks[bank] row) s
    (let s := modBank n bank.val (fun b => { b with trig := setInsert b.trig row }) s
     if urgentOnRow s n bank.val row then lapse s n 5 bank.val 0 0 else s)

/-- The targeted refresh of a bank's lowest waiting row may run: after a due normal refresh and the banks before it, no capture
copy, and no notice unless the URGENT request waits on the row itself (R199, R207). -/
def targetedReady (s : State) (n : Pc) (bank : Fin 32) (row : Nat) : Bool :=
  let b := s.pcs[n].banks[bank]
  let may (k : Fin 32) (r : Nat) : Bool :=
    let b := s.pcs[n].banks[k]
    decide (b.debt = 0) && b.capture.isNone && (!noticed s n k.val || urgentOnRow s n k.val r)
  pcOnline s n && may bank row && decide (b.trig.head? = some row) &&
  (List.finRange 32).all fun k => decide (bank.val ≤ k.val) ||
    (match s.pcs[n].banks[k].trig with | r :: _ => !may k r | [] => true)

/-- One row cycle for each neighbour; the aggressor's estimate returns to 0 (R196, R198). -/
def targetedRefresh (s : State) (n : Pc) (bank : Fin 32) (row : Nat) : State :=
  let ps := neighbours (rowPos s n.val bank.val row)
  let start := max (actTime s.pcs[n] s.pcs[n].banks[bank])
    (if s.pcs[n].banks[bank].row.isSome then preTime s.pcs[n].banks[bank] + 23 else 0)
  let s := s.atLeast (start + 69 * ps.length)
  let s := ps.foldl (fun s q => countAct s n bank.val (posRow s n.val bank.val q) none false) s
  let s := bump (pcReg n.val 0x010) ps.length s
  let zero (e : TrkEnt) : TrkEnt := if e.bank = bank.val ∧ e.row = row then { e with est := 0 } else e
  let s := s.modPc n fun c => pushAct (s.now - 69) { c with tracker := c.tracker.map zero }
  let s := modBank n bank.val (fun b => { b with trig := b.trig.erase row, row := none, actAt := s.now - 69,
                                                 preAt := s.now - 23 }) s
  rgEvent (bump (pcReg n.val 0x048) 1 s) (pcSrc n.val 2) 0x0211 sevInfo (bank.val + row * 32) 0 1 false

def execTargetedRefreshDone (n : Pc) (bank : Fin 32) (s : State) : Out :=
  match s.pcs[n].banks[bank].trig with
  | [] => .next s
  | row :: _ => whenDo (targetedReady s n bank row) s (targetedRefresh s n bank row)

/-! ### Windows and throttles (R195, R202 to R205) -/

/-- RG_THROTTLE (R211). -/
def throttleEvent (s : State) (req : Nat) (t : Thr) (count : Nat) : State :=
  rgEvent s (pcSrc t.lastPc 3) 0x0212 sevNotice (req + t.step * 2 ^ 10 + b2n t.urg * 2 ^ 13) count 2 true

/-- The requester's URGENT requests address the pseudo-channel. -/
def reqUrgent (s : State) (n : Pc) (req : Nat) : Bool :=
  s.pcs[n].urgOut.any fun u => decide (64 * u.port + u.stream = req)

/-- A step caps the requester's URGENT requests: the guarantee lapses on every pseudo-channel they address (R205). -/
def throttleLapse (s : State) (req : Nat) : State :=
  (List.finRange 64).foldl (fun s (n : Pc) =>
    if reqUrgent s n req then
      let t := thrOf s req
      lapse (thrSet s req { t with pcs := setInsert t.pcs n.val }) n 5 0 (req / 64) (req % 64)
    else s) s

/-- The cap ends: its lapses last 1 us more (R205). -/
def throttleFrees (s : State) (t : Thr) : State :=
  t.pcs.foldl (fun s n => s.modPc (pcFin n) fun c => { c with breachAt := max c.breachAt s.now }) s

/-- A sub-window of window `w` had more spills than SL (R203, R204). -/
def dirtyWindow (sl w : Nat) (t : Thr) : Bool := t.spills.any fun x => decide (x.1 / 32 = w) && decide (sl < x.2.1)

/-- The end of window `w` for one requester (R204): a clean window returns its step to 0. -/
def windowThr (w : Nat) (s : State) (req : Nat) (t : Thr) : State :=
  let (_, _, sl, _) := guardParams s
  let kept := t.spills.filter fun x => decide (32 * (w + 1) ≤ x.1)
  if !dirtyWindow sl w t && decide (0 < t.step) then
    let s := throttleFrees s t
    let t' := { t with step := 0, urg := false, pcs := [], spills := kept, base := 0, bucket := 0, filledAt := 0 }
    throttleEvent (thrSet s req t') req t' 0
  else thrSet s req { t with spills := kept }

/-- RELEASE_ACC in force (R187). -/
def releaseAcc (s : State) : Nat := max 1 (csrForceFld s 0x060004 16 16)

/-- A tracker window ends: quiet captured rows are released, clean throttles return to 0; the estimates of the next window begin
at 0 (R173, R195, R204). -/
def windowEnd (s : State) : State :=
  let s := s.atLeast (s.guard.windowAt + 51200000)
  let w := s.guard.winNo
  let acc := s.lagoon.rowAcc
  let quiet (r : Nat × Nat × Nat) : Bool := decide (smGet 0 acc (rowKey w r.1 r.2.1 r.2.2) < releaseAcc s)
  let s := ((heldRows s).filter quiet).foldl (fun s r => releaseRow s r.1 r.2.1 r.2.2) s
  let s := s.guard.thr.foldl (fun s x => windowThr w s x.1 x.2) s
  { s with guard := { s.guard with windowAt := s.guard.windowAt + 51200000, winNo := w + 1 }
           lagoon := { s.lagoon with rowAcc := s.lagoon.rowAcc.filter fun x => decide ((w + 1) * 2 ^ 27 ≤ x.1) }
           pcs := s.pcs.map (trkFresh (w + 1)) }

def execTrackerWindowEnd (s : State) : Out := whenDo s.stack.ready s (windowEnd s)

/-- Bytes a requester released in the 10 us before now (R13, R203). -/
def releasedBytes (s : State) (t : Thr) : Nat :=
  ((t.rel.filter fun x => decide (s.now ≤ x.1 + us10) && decide (x.1 < s.now)).map (·.2)).sum

/-- Fill per CCLK of a throttled requester's bucket (R203): max(BASE / 2^k, 64 B/us), in bytes times 256,000. -/
def fillRate (t : Thr) : Nat := max (t.base * 16 / 2 ^ t.step) (640 * 16)

/-- The bucket now: filled up to 256 B. -/
def bucketNow (s : State) (t : Thr) : Nat := min (256 * 256000) (t.bucket + (s.now - t.filledAt) * fillRate t)

/-- The sub-window a step is due for: more spills than SL, and no step since (R203). -/
def stepDue (sl : Nat) (t : Thr) : Option (Nat × Nat × Bool) :=
  t.spills.find? fun x => decide (sl < x.2.1) && (match t.stepped with | some u => decide (u < x.1) | none => true)

/-- A throttle step rises by one (R203, R205): the first sets BASE and fills the bucket, later ones keep its contents. BASE is held
as bytes in 10 us; the bucket in bytes times 256,000. -/
def stepUp (s : State) (req : Nat) (t : Thr) (x : Nat × Nat × Bool) : State :=
  let first := decide (t.step = 0)
  let t' := { t with
    step := t.step + 1
    stepped := some x.1
    urg := t.urg || x.2.2
    base := if first then releasedBytes s t else t.base
    bucket := if first then 256 * 256000 else bucketNow s t
    filledAt := s.now }
  let s := thrSet s req t'
  let s := if x.2.2 then throttleLapse s req else s
  throttleEvent s req t' x.2.1

def execThrottleStepUp (req : Fin 1024) (s : State) : Out :=
  let t := thrOf s req.val
  let (_, _, sl, msx) := guardParams s
  match stepDue sl t with
  | none => .next s
  | some x => whenDo (decide (t.step < msx)) s (stepUp s req.val t x)

/-- A request of a class passes the throttle (R203, R205). Log entry 77. -/
def throttlePasses (s : State) (req cls bytes : Nat) : Bool :=
  let t := smGet {} s.guard.thr req
  decide (t.step = 0) || (decide (cls = 0) && !t.urg) || decide (bytes * 256000 ≤ bucketNow s t)

/-- A request has left staging: its bytes leave the bucket and count for BASE. -/
def throttleTake (s : State) (req cls bytes : Nat) : State :=
  let t := smGet {} s.guard.thr req
  let t := { t with rel := (s.now, bytes) :: t.rel.filter (fun x => decide (s.now ≤ x.1 + us10)) }
  thrSet s req (if decide (t.step = 0) || (decide (cls = 0) && !t.urg) then t
    else { t with bucket := bucketNow s t - bytes * 256000, filledAt := s.now })

end Sys2Proof.Machine
end

