-- ==== Sys2Proof/Machine/Integrity.lean ====
section
/-! DEFINITION. TideFill, claims, the Beachcomber scrubber (R229 to R243), soft repair and TSV lane sparing (R260 to R268). -/

namespace Sys2Proof.Machine


/-! ### TideFill and claims -/

/-- TideFill opens every row of every bank once and writes its 16 blocks (R443). -/
def tidefillActs (s : State) (n : Pc) : State :=
  let rows := 32 * 49152
  (bump (pcReg n.val 0x010) rows (bump (pcReg n.val 0x00C) (15 * rows) s)).modPc n fun c =>
    { c with beats := c.beats + 8 * 16 * rows }

/-- TideFill ends (R230): every block zero and valid, the Fresh Map all set, the poison list empty. -/
def tidefillDone (s : State) (micros : Nat) : State :=
  let s := (List.finRange 64).foldl tidefillActs s
  let s := { s with
    dram := { s.dram with mem := [], chk := [], written := [], all := true, marched := [], freshAll := true, fresh := [], claims := []
                          poison := Vector.replicate 512 none, listFull := false, tidefillRan := true }
    scrub := { s.scrub with tidefill := false, held := false } }
  journal s 0x000C 1512 (bodyAt 24 (micros % 2 ^ 32) + bodyAt 28 64)

def execTidefillDone (micros : Nat) (s : State) : Out := whenDo s.scrub.tidefill s (tidefillDone s micros)

/-- The claim's first unit that still has unfilled blocks: its index in the page, and the blocks to fill (R233). -/
def fillUnit (c : Claim) : Option (Nat × Nat) :=
  (((List.range 16).map fun u => (u, 15 ^^^ bitsOf c.done.toNat (4 * u) 4)).find? fun x => decide (x.2 ≠ 0))

/-- A fill write enters an internal entry, covering only the blocks still unwritten. -/
def claimFill (s : State) (page u mask : Nat) : State :=
  let blk := 64 * page + 4 * u
  let n := pcFin (coordOf s.dram.mapActive blk).pc
  let s := turn s n .corrwb
  let id := s.nextId
  let e : QEnt := policyNow s
    { id := id, src := .corrwb, kind := .wr, cls := 3, blk := blk, n := 4, data := List.replicate 4 0, cover := mask
      arrived := s.now, pool := 2, drained := true }
  e.blocks.foldl (fun s b => noteWrite s b id) (enqueue s.tick n e)

def execFreshClaimFill (page : Nat) (s : State) : Out :=
  match s.dram.claims.find? (fun c => decide (c.page = page)) with
  | none => .next s
  | some c =>
    match fillUnit c with
    | none => .next s
    | some (u, mask) =>
      let n := pcFin (coordOf s.dram.mapActive (64 * page + 4 * u)).pc
      whenDo (intRoom s.pcs[n] && pcOnline s n) s (claimFill s page u mask)

/-! ### The scrubber -/

/-- Units of a pseudo-channel in a lap (R240). -/
def unitsPerPc : Nat := 6291456

/-- The unit at a position of the walk (R237): row by row, bank by bank, four units of a row in column order. -/
def walkUnit (s : State) (n : Nat) (pos : Nat) : Nat :=
  blkOf s.dram.mapActive ⟨n, pos / 4 % 32, pos / 128, 4 * (pos % 4)⟩ / 4

/-- CCLK in a minute. -/
def minute : Nat := 96000000000

/-- LAP_MIN in force (R240, R248). -/
def lapMinutes (s : State) : Nat := max 10 (min 1440 (csrFld s 0x070004 0 11))

/-- Idle-only (R242). -/
def idleOnly (s : State) : Bool := s.scrub.verify || csrForceFld s 0x070004 12 1 == 1

/-- A range in force (R241): base and length in units, and its lap minutes. -/
def scrubRange (s : State) (i : Nat) : Option (Nat × Nat × Nat) :=
  let b := csrForce s (0x070100 + 8 * i)
  let l := csrForce s (0x070104 + 8 * i)
  let base := bitsOf b 0 21; let len := bitsOf l 0 21; let m := bitsOf l 21 11
  if bitsOf b 31 1 = 1 ∧ len ≠ 0 ∧ 10 ≤ m ∧ m ≤ 1440 ∧ base + len ≤ 1572864 then some (256 * base, 256 * len, m) else none

/-- The first unit of the pseudo-channel at or after an offset of a range; the next 2,048 units are looked at. -/
def rangeUnit (s : State) (n : Nat) (base len off : Nat) : Option Nat :=
  ((List.range 2048).map (off + ·)).find? fun o => decide (o < len) && decide (unitPc s (base + o) = n)

/-- Units of a pseudo-channel in a range, one in 64. -/
def rangeShare (len : Nat) : Nat := max 1 (len / 64)

/-- When the main pointer's next unit is due, and range i's. -/
def mainDue (s : State) (w : Walker) : Nat := s.scrub.lapStart + w.pos * (lapMinutes s * minute) / unitsPerPc
def rangeDue (s : State) (w : Walker) (i : Fin 8) : Option Nat :=
  (scrubRange s i.val).map fun (_, len, m) => s.scrub.lapStart + w.rIssued[i] * (m * minute) / rangeShare len

/-- The pointer furthest behind its schedule: none the main one. -/
def nextPointer (s : State) (w : Walker) : Option (Fin 8) :=
  if idleOnly s then none
  else
    (List.finRange 8).foldl (fun a i =>
      match rangeDue s w i with
      | none => a
      | some t =>
        let best := match a with
          | none => if w.pos < unitsPerPc then mainDue s w else t + 1
          | some j => (rangeDue s w j).getD 0
        if t < best then some i else a) none

/-- Units the walker is behind its schedule. -/
def unitsBehind (s : State) (w : Walker) : Nat :=
  (s.now - s.scrub.lapStart) * unitsPerPc / (lapMinutes s * minute) - w.pos

/-- The walker is behind by more than 1% of its units (R240). -/
def walkerBehind (s : State) (w : Walker) : Bool := decide (unitsPerPc < 100 * unitsBehind s w)

/-- It issues at up to four times its rate until it is on schedule (R240). -/
def catching (s : State) (w : Walker) : Bool := walkerBehind s w || (w.catchUp && decide (0 < unitsBehind s w))

/-- No host entry is occupied and no host request for the pseudo-channel waits in staging (R242). -/
def pcIdle (s : State) (n : Pc) : Bool :=
  !(s.pcs[n].queue.any fun e => decide (e.pool < 2)) &&
  s.ports.toList.all fun q => !(q.staging.any fun r =>
    (r.kind == .rd || r.kind == .wr || r.kind == .wrm) &&
    decide ((coordOf s.dram.mapActive (slotBlk r.slot)).pc = n.val))

/-- The walkers are paused (R243). -/
def scrubPaused (s : State) : Bool := csrFld s 0x070004 11 1 == 1

/-- The walker may issue (R157, R235, R237, R243). -/
def walkerReady (s : State) (n : Pc) : Bool :=
  let w := s.pcs[n].walker
  s.stack.ready && !s.scrub.held && !s.scrub.tidefill && !scrubPaused s && pcOnline s n && w.inLap && w.outstanding.isNone &&
  intRoom s.pcs[n] && (decide (w.pos < unitsPerPc) || (nextPointer s w).isSome) && (!idleOnly s || pcIdle s n)

/-- When the unit may be issued: at its interval, up to four times the rate where behind, up to BOOST + 1 times where idle; at
the idle-only rate while the stack is awake for a walker alone (R411). -/
def walkTime (s : State) (n : Pc) : Nat :=
  let w := s.pcs[n].walker
  if idleOnly s || (s.power.scrubWake && pcIdle s n) then s.now
  else
    let iv := lapMinutes s * minute / unitsPerPc
    match nextPointer s w with
    | some i => (rangeDue s w i).getD 0
    | none =>
      if catching s w then w.issuedAt + iv / 4
      else if pcIdle s n then min (mainDue s w) (w.issuedAt + iv / (csrForceFld s 0x070004 13 4 + 1))
      else mainDue s w

/-- SCRUB_BEHIND, once per lap for a walker. -/
def behindEvent (s : State) (n : Pc) : State :=
  let w := s.pcs[n].walker
  if walkerBehind s w && !w.behindRaised && !idleOnly s then
    let s := s.modPc n fun c => { c with walker := { c.walker with behindRaised := true } }
    raiseLim s (evKey (pcSrc n.val 8) 0x0225) ms (pcSrc n.val 8) 0x0225 sevNotice (unitsBehind s w) 0 1 false
  else s

/-- The unit's read enters an internal entry; a unit of an unwritten page is passed over (R232). -/
def issueUnit (s : State) (n : Pc) (unit : Nat) : State :=
  if s.dram.freshActive && !pageWritten s (4 * unit) then s
  else
    let s := turn s n .scrub
    let id := s.nextId
    let e : QEnt := { id := id, src := .scrub, kind := .rd, cls := 3, blk := 4 * unit, n := 4, arrived := s.now, pool := 2 }
    (enqueue s.tick n e).modPc n fun c => { c with walker := { c.walker with outstanding := some id } }

/-- What the chosen pointer issues: the patrol's next unit, or a rate range's (R239, R240). -/
def scrubIssueAt (s : State) (n : Pc) (w : Walker) : Option (Fin 8) → State
  | none =>
    let s := s.modPc n fun c => { c with walker := { c.walker with pos := w.pos + 1, issuedAt := s.now } }
    issueUnit s n (walkUnit s n.val w.pos)
  | some i =>
    match scrubRange s i.val with
    | none => s
    | some (base, len, _) =>
      match rangeUnit s n.val base len w.rpos[i] with
      | none => s.modPc n fun c => { c with walker := { w with rpos := w.rpos.set i 0, rIssued := w.rIssued.set i (w.rIssued[i] + 1) } }
      | some o =>
        let s := s.modPc n fun c => { c with walker := { w with rpos := w.rpos.set i (o + 1)
                                                                rIssued := w.rIssued.set i (w.rIssued[i] + 1) } }
        issueUnit s n (base + o)

/-- The next unit falls due: the patrol passes its time, and the walker's chosen pointer issues (R237 to R240). -/
def scrubIssue (s : State) (n : Pc) : State :=
  let s := behindEvent (s.atLeast (walkTime s n)) n
  let s := s.modPc n fun c => { c with walker := { c.walker with catchUp := catching s c.walker } }
  scrubIssueAt s n s.pcs[n].walker (nextPointer s s.pcs[n].walker)

def execScrubUnitIssue (n : Pc) (s : State) : Out := whenDo (walkerReady s n) s (scrubIssue s n)

/-- Every walker of the lap has finished its units (R237). -/
def lapDone (s : State) : Bool :=
  !s.scrub.held && s.stack.ready && s.pcs.toList.all fun c =>
    !c.walker.inLap || (decide (unitsPerPc ≤ c.walker.pos) && c.walker.outstanding.isNone)

/-- Ranges in force. -/
def rangesOn (s : State) : Bool := (List.range 8).any fun i => (scrubRange s i).isSome

/-- A lap ends (R237, R242, R246): repeat entries are freed, SCRUB_LAP raised, the next lap starts. -/
def lapEnd (s : State) : State :=
  let lap := s.scrub.lap
  let len := (s.now - s.scrub.lapStart) / ms
  let out := (s.pcs.toList.filter fun c => !c.walker.inLap).length
  let keep (e : RepEnt) : Bool := if e.writtenBack then decide (lap ≤ e.lap) else decide (e.lap ≠ lap)
  let v := s.scrub.verify
  let rg := rangesOn s && !idleOnly s
  let s := { s with dram := { s.dram with repeats := s.dram.repeats.filter keep } }
  let s := bump 0x070020 1 s
  let s := raiseLim s (evKey (pcSrc 0 8) 0x0224) ms (pcSrc 0 8) 0x0224 sevInfo len
    (b2n v + b2n rg * 2 + out * 256) 2 false
  let start (c : PcSt) : PcSt := { c with walker := { inLap := c.mode == .online, issuedAt := s.now } }
  { s with pcs := s.pcs.map start
           scrub := { s.scrub with lap := lap + 1, lapStart := s.now, verify := false, lapTime := len } }

def execScrubLapEnd (s : State) : Out := whenDo (lapDone s) s (lapEnd s)

/-- The scrubber is released (R235): a lap starts, idle-only where a verification lap has fallen due. -/
def scrubRelease (s : State) : State :=
  if s.scrub.held then
    let start (c : PcSt) : PcSt := { c with walker := { inLap := c.mode == .online, issuedAt := s.now } }
    { s with pcs := s.pcs.map start
             scrub := { s.scrub with held := false, verify := s.scrub.verifyDue, verifyDue := false, lapStart := s.now } }
  else s

/-- `SCRUB.INITDONE` has been written (R235): DONE = 1 releases the scrubber; 0 is ignored. Log entry 76. -/
def initDone (s : State) (v : Nat) : State :=
  if v % 2 = 1 then scrubRelease (csrSet s 0x070010 1) else s

/-! ### Spare TSV lanes (R267) -/

/-- Sextant's key of a TSV lane. -/
def tsvKey (n : Nat) (lane : Nat) : Nat := 256 * (16 + n) + lane

/-- A spare TSV lane is under Transit test (R126): key port number 16 + n. -/
def tsvSpareTested (s : State) (n : Nat) (i : Nat) : Bool := s.transit.spareTest.contains (16 + n, 0, i)

/-- A spare TSV lane is free and not marked failed (R121, R478). -/
def tsvSpareFree (s : State) (n : Pc) (i : Fin 2) : Bool :=
  s.pcs[n].spares[i].isNone && !(smGet {} s.train.lanes (tsvKey n.val (72 + i.val))).failed

/-- The spare a switch takes: one not under test first. -/
def tsvSpare (s : State) (n : Pc) : Option (Fin 2) :=
  match (List.finRange 2).find? (fun i => tsvSpareFree s n i && !tsvSpareTested s n.val i.val) with
  | some i => some i
  | none => (List.finRange 2).find? (tsvSpareFree s n)

/-- A switch to a spare is due. -/
def tsvSwitchDue (s : State) (n : Pc) : Bool := !(erasures s.pcs[n]).isEmpty && (tsvSpare s n).isSome

/-! ### Soft repair (R260, R261) -/

/-- Stack-level spare rows of a bank that no entry names. -/
def freeSpareRow (s : State) (pc bank : Nat) : Option Nat :=
  (List.range 32).find? fun k => !(spareRows s pc bank).any fun r => decide (r.spare = k)

/-- The first free entry of the soft-repair table. -/
def softFree (s : State) : Option (Fin 256) := (List.finRange 256).find? fun i => s.dram.soft[i].isNone

/-- Why a soft repair is refused (R260, R271): 1 repaired, 2 no spare, 3 table full, 4 offline or in Low Water entry; 0 none. -/
def softRefused (s : State) (n : Pc) (bank row : Nat) : Nat :=
  if (spareRows s n.val bank).any (fun r => decide (r.row = row)) then 1
  else if (freeSpareRow s n.val bank).isNone then 2
  else if (softFree s).isNone then 3
  else if s.pcs[n].mode == .offline || s.power.failing then 4
  else 0

/-- REPAIR_REFUSED (R271). -/
def repairRefused (s : State) (n : Pc) (bank row reason : Nat) : State :=
  raise s (pcSrc n.val 6) 0x0231 sevWarn (bank + row * 32) reason

/-- A soft repair starts its copy, or is refused. -/
def softStart (s : State) (n : Pc) (bank row : Nat) : State :=
  match softRefused s n bank row with
  | 0 => modBank n bank (fun b => { b with repair := some row }) s
  | r + 1 => repairRefused s n bank row (r + 1)

/-- A candidate goes before those of higher rows of its bank, and after a lane switch that is due (R269). -/
def softTurn (s : State) (n : Pc) (bank row : Nat) : Bool :=
  s.dram.candidates.contains (n.val, bank, row) && !(s.pcs[n].mode == .tsvSwitch) && !tsvSwitchDue s n &&
  !s.dram.candidates.any fun c => decide (c.1 = n.val) && decide (c.2.1 = bank) && decide (c.2.2 < row)

def execSoftRepairStart (n : Pc) (bank : Fin 32) (row : Nat) (s : State) : Out :=
  whenDo (keeperUp s && softTurn s n bank.val row && s.pcs[n].banks[bank].repair.isNone) s
    (softStart { s with dram := { s.dram with candidates := s.dram.candidates.erase (n.val, bank.val, row) } } n bank.val row)

/-- Copy one block of the row to the spare (R261): corrected, or poisoned where it was or cannot be corrected. -/
def repairBlock (s : State) (blk : Nat) : State :=
  if !blkWritten s blk then s
  else
    let n := pcFin (coordOf s.dram.mapActive blk).pc
    let (f, s) := dramRead s blk
    let d := f.dec
    if d.status = stCorr then dramWrite (afterRead s blk s.nextId 0 f true) blk d.data (rsCheck d.data)
    else if d.status = stUncorr then
      let s := bump 0x070028 1 (bump (pcReg n.val 0x064) 1 s)
      poisonSteps (dramWrite s blk f.raw (poisonCheck f.raw)) blk 0
    else dramWrite s blk f.raw (if d.status = stPoison then poisonCheck f.raw else rsCheck d.data)

/-- The copy ends: the row answers from the spare (R261, R271). -/
def softDone (s : State) (n : Pc) (bank : Fin 32) (row : Nat) : State :=
  let s := s.atLeast (offerTime s n bank + 200)
  let s := (List.range 16).foldl (fun s c => repairBlock s (blkOf s.dram.mapActive ⟨n.val, bank.val, row, c⟩)) s
  let s := countAct (countAct s n bank.val row none false) n bank.val row none false
  let s := bump (pcReg n.val 0x00C) 30 (bump (pcReg n.val 0x010) 2 s)
  let s := modBank n bank.val (fun b => { b with repair := none, row := none, actAt := s.now - 70, preAt := s.now - 23 }) s
  match softFree s, freeSpareRow s n.val bank.val with
  | some i, some k =>
    let s := { s with dram := { s.dram with soft := s.dram.soft.set i (some ⟨n.val, bank.val, row, k⟩) } }
    let s := endRepairs s (fun p b r => decide (p = n.val ∧ b = bank.val ∧ r = row)) 0 i.val 0
    raiseJ s (pcSrc n.val 6) 0x0230 sevNotice (bank.val + row * 32) (k + i.val * 32)
  | _, _ =>
    repairRefused (endRepairs s (fun p b r => decide (p = n.val ∧ b = bank.val ∧ r = row)) 0x15 0 2) n bank.val row 2

/-- The bank whose soft-repair copy is under way. -/
def repairBank (c : PcSt) : Option (Fin 32) := (List.finRange 32).find? fun b => c.banks[b].repair.isSome

def execSoftRepairDone (n : Pc) (s : State) : Out :=
  match repairBank s.pcs[n] with
  | none => .next s
  | some b =>
    match s.pcs[n].banks[b].repair with
    | none => .next s
    | some row => whenDo (pcOnline s n && mayOpen s n b.val false && !rowStopped s n b.val row && !outranksCopy s n s.now) s (softDone s n b row)

/-! ### TSV lanes (R215, R266 to R268) -/

/-- The lane position that carries a logical lane: a spare's, or its own. -/
def tsvPos (c : PcSt) (lane : Nat) : Nat :=
  match (List.finRange 2).find? fun i => decide (c.spares[i] = some lane) with
  | some i => 72 + i.val
  | none => lane

/-- 64 corrections at a lane within 100 us, or below the service floor (R121, R266). -/
def tsvDue (s : State) (n : Pc) (lane : Nat) : Bool :=
  decide (64 ≤ (s.pcs[n].laneCorr.filter fun e => decide (e.1 = lane) && decide (s.now < e.2 + 160000)).length) ||
  decide (3 ≤ (smGet {} s.train.lanes (tsvKey n.val (tsvPos s.pcs[n] lane))).low)

/-- A lane position is marked failed; one below the service floor raises EYE_MARGIN as failed. -/
def tsvMark (s : State) (n : Pc) (pos : Nat) : State :=
  let l := smGet {} s.train.lanes (tsvKey n.val pos)
  let s := if 3 ≤ l.low then raise s (pcSrc n.val 11) 0x0120 sevWarn (pos + 3 * 256) (l.eyeW + l.eyeH * 1024) else s
  { s with train := { s.train with lanes := smSet {} s.train.lanes (tsvKey n.val pos) { l with failed := true, low := 0 } } }

/-- A TSV lane, or the spare that carries it, is declared failed (R266, R268): its symbol is an erasure until a spare carries it. -/
def tsvFail (s : State) (n : Pc) (lane : Nat) : State :=
  let s := tsvMark s n (tsvPos s.pcs[n] lane)
  let s := s.modPc n fun c => { c with failedLanes := if c.failedLanes.contains lane then c.failedLanes else c.failedLanes ++ [lane]
                                       spares := c.spares.map fun x => if x = some lane then none else x
                                       laneCorr := c.laneCorr.filter fun e => decide (e.1 ≠ lane) }
  let un := (erasures s.pcs[n]).length
  if (List.finRange 2).any (tsvSpareFree s n) then s
  else
    let s := raiseJ s (pcSrc n.val 11) 0x0122 sevError lane un
    if 2 ≤ un then goOffline s n else s

/-- Lanes 0 to 71 fail into an erasure; an idle spare, 72 or 73, is taken out of use. -/
def execTsvLaneFailed (n : Pc) (lane : Nat) (s : State) : Out :=
  if lane < 72 then
    whenDo (!(erasures s.pcs[n]).contains lane && tsvDue s n lane && pcOnline s n) s (tsvFail s n lane)
  else
    whenDo (decide (lane < 74) && tsvSpareFree s n ⟨lane % 2, Nat.mod_lt _ (by decide)⟩ && tsvDue s n lane && pcOnline s n) s
      (tsvMark s n lane)

/-- The switch holds the pseudo-channel's requests (R267). -/
def tsvStart (s : State) (n : Pc) (lane : Nat) (i : Fin 2) : State :=
  let s := transitSpareTaken s (16 + n.val, 0, i.val)
  s.modPc n fun c => { c with mode := .tsvSwitch, switching := some (lane, i.val)
                              banks := c.banks.map fun b => { b with row := none, preAt := s.now } }

def execTsvSwitchStart (n : Pc) (s : State) : Out :=
  match (erasures s.pcs[n]).head?, tsvSpare s n with
  | some lane, some i => whenDo (keeperUp s && pcOnline s n) s (tsvStart s n lane i)
  | _, _ => .next s

/-- The symbol is on the spare (R267): service resumes; the entry is due for programming. -/
def tsvDone (s : State) (n : Pc) (lane : Nat) (i : Fin 2) : State :=
  let s := s.modPc n fun c => { c with mode := .online, switching := none, spares := c.spares.set i (some lane) }
  let s := { s with dram := { s.dram with tsvPending := s.dram.tsvPending ++ [(n.val, lane, i.val)] } }
  let s := recordDue s ⟨16 + n.val, by omega⟩ true
  raiseJ s (pcSrc n.val 11) 0x0121 sevNotice lane i.val

def execTsvSwitchDone (n : Pc) (s : State) : Out :=
  match s.pcs[n].mode, s.pcs[n].switching with
  | .tsvSwitch, some (lane, i) => .next (tsvDone s n lane ⟨i % 2, Nat.mod_lt _ (by decide)⟩)
  | _, _ => .next s

end Sys2Proof.Machine
end

