-- ==== Sys2Proof/Machine/WidePort.lean ====
section
/-! DEFINITION. Wide Port commands: the requests a port takes (R75 to R91) and the upstream slots it sends (R82 to R86). -/

namespace Sys2Proof.Machine

/-! ### Requests -/

/-- The format faults of R91 item 3. -/
def badFormat (k : ReqKind) (w : Slot) : Bool :=
  match k with
  | .rd | .wr =>
    decide (slotClass w = 3) || decide (slotLen w = 3) || decide (slotBlk w % lenBlocks (slotLen w) ≠ 0)
  | .wrm => decide (slotClass w = 3) || decide (slotLen w ≠ 0)
  | _ => false

/-- A write, for the orders of R93 and R95. -/
def isWrite (k : ReqKind) : Bool := k == .wr || k == .wrm
/-- A MARK or a FENCE. -/
def isBar (k : ReqKind) : Bool := k == .mark || k == .fence
/-- A memory request. -/
def isMem (k : ReqKind) : Bool := k == .rd || k == .wr || k == .wrm

/-- Blocks of a memory request (R75). -/
def reqBlocks (k : ReqKind) (w : Slot) : Nat := if k == .wrm then 1 else lenBlocks (slotLen w)

/-- The PROTO response of a dropped request: every block of a read has the status PROTO (R86, R91). -/
def protoResp (k : ReqKind) (w : Slot) (dup : Bool) : Resp :=
  let rd := k == .rd
  { kind := k, tag := slotTag w, status := stProto, dup := dup, len := if rd then slotLen w else 0
    bst := if rd then List.replicate (min 4 (lenBlocks (slotLen w))) stProto else []
    urgent := isMem k && decide (slotClass w = 0) }

/-- The class had a credit when the request arrived: the credit is spent. -/
def hadCredit (q : PortSt) (c : Nat) : Bool := if h : c < 3 then decide (0 < q.credits[c]) else false

def spendCredit (c : Nat) (q : PortSt) : PortSt :=
  if h : c < 3 then { q with credits := q.credits.set c (q.credits[c] - 1) } else q

/-- A dropped request: its credit, where its class had one, goes back; it completes with PROTO (R91). -/
def dropReq (s : State) (p : Port) (k : ReqKind) (w : Slot) (dup : Bool) : State :=
  let c := creditClass k w
  let s := s.modPort p fun q =>
    let q := if hadCredit q c then returnCredit c (spendCredit c q) else q
    if dup then q else { q with tags := q.tags ++ [slotTag w] }
  respond s p (protoResp k w dup)

/-- CCLK from the last UI of a header to the end of its decoding (R56, R152). -/
def ingress (s : State) : Nat := if csrFld s 0x000008 0 2 = 1 then 8 else 9

/-- The guarantee lapses with cause THROTTLE where the requester's URGENT requests are capped (R205). -/
def cappedArrives (s : State) (p : Port) (n : Pc) (bank req : Nat) : State :=
  let t := smGet {} s.guard.thr req
  if t.urg then lapse (thrSet s req { t with pcs := setInsert t.pcs n.val }) n 5 bank p.val (req % 64) else s

/-- An URGENT request has arrived: its bank notice (R152), the counts of R150, the lapses of R199 and R205. -/
def urgentArrives (s : State) (p : Port) (k : ReqKind) (w : Slot) (ord : Nat) : State :=
  let c := coordOf s.dram.mapActive (slotBlk w)
  let n := pcFin c.pc
  let s := s.modPc n fun q => { q with notices := q.notices ++ [{ id := ord, bank := c.bank, at_ := s.now + ingress s }] }
  let s := countUrgent s p n c.bank (64 * reqBlocks k w) ord (slotStream w) s.now
  let s := if rowStopped s n c.bank c.row then lapse s n 5 c.bank p.val (slotStream w) else s
  cappedArrives s p n c.bank (64 * p.val + slotStream w)

/-- Two requests cover a common block (R93). -/
def sameBlocks (k : ReqKind) (w : Slot) (k' : ReqKind) (w' : Slot) : Bool :=
  isMem k && isMem k' && decide (slotBlk w < slotBlk w' + reqBlocks k' w') && decide (slotBlk w' < slotBlk w + reqBlocks k w)

/-- The staged requests that hold back an URGENT request, newest first: directly, or through one of these (R93 rules 1, 5).
Log entry 77. -/
def blockers (k : ReqKind) (w : Slot) (staged : List StReq) : List StReq :=
  staged.foldr (fun x l =>
    if sameBlocks x.kind x.slot k w || l.any (fun y => sameBlocks x.kind x.slot y.kind y.slot) then l ++ [x] else l) []

/-- One of them is raised to URGENT priority and counts as URGENT from now (R93 rule 5, R150). Log entry 77. -/
def raiseReq (s : State) (p : Port) (x : StReq) : State :=
  if x.raised || decide (slotClass x.slot = 0) then s
  else
    let s := s.modPort p fun q =>
      { q with staging := q.staging.map fun y => if y.ord = x.ord then { y with raised := true } else y }
    let c := coordOf s.dram.mapActive (slotBlk x.slot)
    countUrgent s p (pcFin c.pc) c.bank (64 * reqBlocks x.kind x.slot) x.ord (slotStream x.slot) x.arrived

/-- A request takes a staging entry (R89). -/
def stageReq (s : State) (p : Port) (k : ReqKind) (w : Slot) (data : List Block) : State :=
  let ord := s.nextId
  let q := s.ports[p]
  let e : StReq := { kind := k, slot := w, data := data, ord := ord, bar := q.lastBar, arrived := s.now }
  let s := s.tick.modPort p fun q =>
    { spendCredit (creditClass k w) q with
        staging := q.staging ++ [e]
        tags := q.tags ++ [slotTag w]
        undrained := if isWrite k then q.undrained ++ [ord] else q.undrained
        unacked := if isWrite k then q.unacked ++ [ord] else q.unacked
        lastBar := if isBar k then ord else q.lastBar }
  if isMem k && decide (slotClass w = 0) && hostUsable (64 * slotBlk w) (64 * reqBlocks k w) then
    urgentArrives ((blockers k w q.staging).foldl (fun s x => raiseReq s p x) s) p k w ord
  else s

/-- A request arrives in an accepted flit (R91). -/
def arrive (s : State) (p : Port) (k : ReqKind) (w : Slot) (data : List Block) : State :=
  let q := s.ports[p]
  let c := creditClass k w
  if q.tags.contains (slotTag w) then
    protoEvent (dropReq s p k w true) p 0x0106 (slotTag w)
  else if decide (c < 3) && !hadCredit q c then
    protoEvent (dropReq s p k w false) p 0x0105 (slotTag w + c * 65536)
  else if badFormat k w then
    protoEvent (dropReq s p k w false) p 0x0107 (bitsOf w.toNat 0 64)
  else stageReq s p k w data

/-- The link carries flits: it is UP or under lane repair, and the host ports are released (R98, R99, R442). -/
def linkLive (s : State) (p : Port) : Bool := (s.ports[p].link == .up || s.ports[p].link == .remap) && s.stack.ready

/-- Slots of accepted flits act: no failed flit is awaited, and no REMAP_DONE (R57, R68). -/
def accepts (s : State) (p : Port) : Bool :=
  linkLive s p && decide (s.links[p].failCount = 0) && s.links[p].repair.isNone

def execRd (p : Port) (w : Slot) (s : State) : Out := whenDo (accepts s p) s (arrive s p .rd w [])
def execWr (p : Port) (w : Slot) (flits : List Block) (s : State) : Out := whenDo (accepts s p) s (arrive s p .wr w flits)
def execWrm (p : Port) (w : Slot) (flits : List Block) (s : State) : Out :=
  whenDo (accepts s p) s (arrive s p .wrm w flits)
def execCfgRd (p : Port) (w : Slot) (s : State) : Out := whenDo (accepts s p) s (arrive s p .cfgRd w [])
def execCfgWr (p : Port) (w : Slot) (s : State) : Out := whenDo (accepts s p) s (arrive s p .cfgWr w [])
def execMark (p : Port) (w : Slot) (s : State) : Out := whenDo (accepts s p) s (arrive s p .mark w [])
def execFence (p : Port) (w : Slot) (s : State) : Out := whenDo (accepts s p) s (arrive s p .fence w [])

/-- Flits up to and including sequence number `a` are acknowledged (R58); a number no held flit has frees nothing. -/
def ackFlits (l : List TxFlit) (a : Nat) : List TxFlit :=
  if l.any (fun f => decide (f.seq = a)) then (l.dropWhile fun f => decide (f.seq ≠ a)).drop 1 else l

/-- The link fields of a NOP slot: flits are acknowledged, a NAK asks for a resend, or means "continue" (R58, R60); an upstream
repair goes on (R67, R68). -/
def linkFields (w : Slot) (l : LinkSt) : LinkSt :=
  let r := ackFlits l.replay (slotAckSeq w)
  let holds (q : Nat) : Bool := r.any fun f => decide (f.seq = q)
  let from_ := (slotAckSeq w + 1) % 256
  if slotNak w then
    { l with replay := r, resendFrom := if holds from_ then some from_ else none, muted := false
             upHeld := if l.muted then r.getLast?.map (·.seq) else l.upHeld.filter holds }
  else { l with replay := r, resendFrom := l.resendFrom.filter holds, upHeld := l.upHeld.filter holds }

/-- The link fields and the SIG credits of a NOP slot (R58, R60, R82); the link fields of a shadowed slot have no effect. -/
def linkSlot (s : State) (p : Port) (w : Slot) (shadowed : Bool) : State :=
  let s := s.modPort p fun q => { q with sigCred := q.sigCred + slotSigCrd w }
  if slotAckValid w && !shadowed then s.modLink p (linkFields w) else s

/-- An opcode the table of R73 does not list is ignored; PROTO_FORMAT is raised. -/
def execUnlistedOpcode (p : Port) (w : Slot) (s : State) : Out :=
  whenDo (accepts s p && decide (7 < slotOpc w)) s (protoEvent s p 0x0107 (bitsOf w.toNat 0 64))

/-! ### Upstream -/

/-- A response slot (R85). -/
def respSlot (r : Resp) : Slot :=
  let opc := match r.kind with | .rd => 1 | .cfgRd | .cfgWr => 4 | _ => 2
  let base := opc + r.tag * 2 ^ 8 + r.status * 2 ^ 17 + b2n r.dup * 2 ^ 21
  BitVec.ofNat 128 (match r.kind with
    | .rd => base + r.len * 2 ^ 22 + (r.bst.zipIdx.map fun (b, i) => b * 2 ^ (24 + 4 * i)).sum
    | .cfgRd | .cfgWr => base + r.rdata.toNat * 2 ^ 64
    | _ => base)

/-- A CRD slot with the link fields and the credits due (R82, R89). -/
def crdSlot (s : State) (p : Port) : Slot :=
  let l := s.links[p]
  let q := s.ports[p]
  BitVec.ofNat 128 (((l.rxSeq + 255) % 256) * 2 ^ 8 + b2n (l.ackPending || l.nakPending) * 2 ^ 16
    + b2n l.nakPending * 2 ^ 17 + min 255 q.returns[0] * 2 ^ 32 + min 255 q.returns[1] * 2 ^ 40
    + min 255 q.returns[2] * 2 ^ 48)

/-- A header flit: a link slot, one more slot, idle link slots (R54, R59). Log entry 9. -/
def headerFlit (crd slot : Slot) : Block := BitVec.ofNat 512 (crd.toNat + slot.toNat * 2 ^ 128)

/-- Flits go onto the lanes: each with its scramblers (R50 to R53). -/
def sendOut (l : LinkSt) (map : Vector (Option Nat) 4) (fs : List TxFlit) : LinkSt :=
  fs.foldl (fun l f => { l with wire := l.wire ++ [wireOf l.scrUp map f.flit f.check], scrUp := l.scrUp.map scrFlit })
    { l with lastSent := fs, wire := [] }

/-- Sequence numbers and check words of new flits (R53). -/
def newFlits (seq : Nat) (fs : List Block) : List TxFlit :=
  fs.zipIdx.map fun (f, i) => { seq := (seq + i) % 256, flit := f, check := flitCheck ((seq + i) % 256) f }

/-- New flits leave: they take sequence numbers and wait in the replay buffer (R57); freed credits go back (R89). -/
def sendFlits (s : State) (p : Port) (fs : List Block) : State :=
  let give (q : PortSt) : PortSt :=
    { q with credits := Vector.ofFn fun i : Fin 3 => q.credits[i] + min 255 q.returns[i]
             returns := Vector.ofFn fun i : Fin 3 => q.returns[i] - min 255 q.returns[i] }
  let s := s.modPort p give
  let fs' := newFlits s.links[p].txSeq fs
  s.modLink p fun l =>
    { sendOut l s.ports[p].mapUp fs' with
      replay := l.replay ++ fs', txSeq := (l.txSeq + fs.length) % 256, ackPending := false, nakPending := false }

/-- Scrambled zero payload during an upstream repair: no flit of the series (R67). -/
def sendZero (s : State) (p : Port) : State := s.modLink p fun l => sendOut l s.ports[p].mapUp [{ seq := l.txSeq, flit := 0 }]

/-- Egress rank (R153): URGENT WRA, URGENT RDR, all others. -/
def egressRank (r : Resp) : Nat := if r.urgent then (if r.kind == .rd then 1 else 0) else 2

/-- A response may leave now (R95). Log entry 9. -/
def sendable (q : PortSt) (r : Resp) : Bool := !r.after || q.unacked.all (fun o => decide (r.ord ≤ o))

/-- The response to send: the lowest rank, then the oldest. Log entry 9. -/
def nextResp (q : PortSt) : Option Resp :=
  let c := q.egress.filter (sendable q)
  match c.find? (fun r => egressRank r == 0) with
  | some r => some r
  | none => match c.find? (fun r => egressRank r == 1) with
    | some r => some r
    | none => c.head?

/-- The longest URGENT latency of a pseudo-channel is kept (R161): read in [15:0], write in [31:16]. -/
def latencyMax (s : State) (pc lo v : Nat) : State :=
  let a := pcReg pc 0x008
  let v := min 0xFFFF v
  if csrFld s a lo 16 < v then hwFld s a lo 16 v else s

/-- What sending an URGENT response ends or starts (R150, R161). -/
def urgentSent (s : State) (r : Resp) : State :=
  let n := pcFin r.pc
  let rd := r.kind == .rd
  let s := latencyMax s n.val (if rd then 0 else 16) (s.now - r.arrived)
  s.modPc n fun c =>
    { c with urgOut := c.urgOut.map fun u =>
        if u.id = r.id then { u with til := some (if rd then s.now else s.now + 448) } else u }

/-- A response leaves: its tag is free, its write is acknowledged (R88, R95). Log entry 9. -/
def sendResp (s : State) (p : Port) (r : Resp) : State :=
  let crd := crdSlot s p
  let s := s.modPort p fun q =>
    { q with egress := q.egress.erase r
             tags := if r.dup then q.tags else q.tags.erase r.tag
             unacked := if isWrite r.kind then q.unacked.filter (fun o => decide (o ≠ r.ord)) else q.unacked }
  let s := sendFlits s p (headerFlit crd (respSlot r) :: r.data)
  if r.urgent && decide (r.status ≠ stProto) then urgentSent s r else s

/-- The replay buffer of 32 flits has room (R62). -/
def txRoom (s : State) (p : Port) (n : Nat) : Bool := decide (s.links[p].replay.length + n ≤ 32)

/-- New flits may be sent: no repair of the direction stops them and no resend comes first (R60, R67). -/
def sendsNew (s : State) (p : Port) : Bool := linkLive s p && !s.links[p].muted && s.links[p].resendFrom.isNone

/-- The next response leaves; with none to send, an idle header flit of four link slots (R54, R59). Log entry 9. -/
def execUpstreamResponseSend (p : Port) (s : State) : Out :=
  if linkLive s p && s.links[p].muted then .next (sendZero s p)
  else match nextResp s.ports[p] with
    | none => whenDo (sendsNew s p && txRoom s p 1) s (sendFlits s p [headerFlit (crdSlot s p) 0])
    | some r => whenDo (sendsNew s p && txRoom s p (1 + r.data.length)) s (sendResp s p r)

/-- A SIG slot (R83). -/
def sigSlot (e : EvRec) : Slot :=
  BitVec.ofNat 128 (8 + (e.sev % 256) * 2 ^ 8 + (e.src % 2048) * 2 ^ 16 + (e.code % 65536) * 2 ^ 32
    + (e.flags % 256) * 2 ^ 48 + (e.ssn % 2 ^ 64) * 2 ^ 64)

/-- The oldest waiting SIG is sent against a credit (R84, R346). Log entry 9. -/
def execSigSend (p : Port) (s : State) : Out :=
  match s.ports[p].sigWait with
  | [] => .next s
  | e :: rest =>
    whenDo (sendsNew s p && decide (0 < s.ports[p].sigCred) && txRoom s p 1 && !s.evt.stopped) s
      (sendFlits (s.modPort p fun q => { q with sigWait := rest, sigCred := q.sigCred - 1 }) p
        [headerFlit (crdSlot s p) (sigSlot e)])

end Sys2Proof.Machine
end

