-- ==== Sys2Proof/Machine/Drain.lean ====
section
/-! DEFINITION. Emptying the stack: staging answered, queues completed, the Lagoon flushed, claim fills written, self-refresh
(R185, R414, R416, R448, R465). -/

namespace Sys2Proof.Machine

/-! ### Staging -/

/-- A staged request leaves with a status and no effect; its credit goes back (R89). Log entry 82. -/
def answerStaged (s : State) (p : Port) (r : StReq) (status : Nat) : State :=
  let n := reqBlocks r.kind r.slot
  let s := s.modPort p fun q =>
    let q := returnCredit (creditClass r.kind r.slot) q
    { q with staging := q.staging.filter (fun x => decide (x.ord ≠ r.ord))
             undrained := q.undrained.filter (fun o => decide (o ≠ r.ord)) }
  let c := coordOf s.dram.mapActive (slotBlk r.slot)
  let s := s.modPc (pcFin c.pc) fun c => { c with notices := c.notices.filter (fun x => decide (x.id ≠ r.ord)) }
  respond s p
    { kind := r.kind, tag := slotTag r.slot, status := status, len := if r.kind == .rd then slotLen r.slot else 0
      bst := if r.kind == .rd then List.replicate n status else [], urgent := isMem r.kind && (decide (slotClass r.slot = 0) || r.raised)
      ord := r.ord, after := isBar r.kind, pc := c.pc, arrived := r.arrived, id := r.ord }

/-- Staged requests that meet a condition are answered, port by port in order of arrival. -/
def answerAll (s : State) (p : StReq → Bool) (status : StReq → Nat) : State :=
  (List.finRange 16).foldl (fun s i =>
    (s.ports[i].staging.filter p).foldl (fun s r => answerStaged s i r (status r)) s) s

/-- What staging completes with at power-fail detection (R414). Log entry 82. -/
def fenceStaging (s : State) : State :=
  answerAll s (fun r => isMem r.kind || isBar r.kind) (fun r => if r.kind == .rd then stOffline else stFenced)

/-! ### Queues and the Lagoon -/

/-- Every entry of a pseudo-channel's queue is served, oldest first. -/
def drainQueue (s : State) (n : Pc) : State :=
  s.pcs[n].queue.foldl (fun s e => match entryOf s n e.id with | some f => settleEntry s n f | none => s) s

/-- Every queued request completes. -/
def drainQueues (s : State) : State := (List.finRange 64).foldl drainQueue s

/-- Copies, targeted refreshes, derived writes and offers under way are abandoned (R185, R201, R247, R269). -/
def abandon (s : State) : State :=
  let s := endRepairs s (fun _ _ _ => true) 0x15 0 4
  let rows := (List.finRange 64).flatMap fun n => (List.finRange 32).filterMap fun b =>
    (s.pcs[n].banks[b].capture).map fun r => (n.val, b.val, r)
  let s := rows.foldl (fun s r => dropCopy s r.1 r.2.1 r.2.2) s
  let f (c : PcSt) : PcSt :=
    { c with derived := [], offers := []
             banks := c.banks.map fun b => { b with capture := none, trig := [], repair := none } }
  { s with pcs := s.pcs.map f }

/-- Every dirty line is written back (R177); a row under release, and a reserve line, is free. -/
def flushLagoon (s : State) : State :=
  let s := flushLines s fun _ => true
  { s with lagoon := { s.lagoon with lines := s.lagoon.lines.filter fun l => decide (l.way < 16) && !l.rel } }

/-- The fills of every claim are written: zero data in the blocks not written since. -/
def drainClaims (s : State) : State :=
  let s := s.dram.claims.foldl fillClaim s
  { s with dram := { s.dram with claims := [] } }

/-- All-bank refresh, 576 CCLK, and self-refresh of every pseudo-channel in service (R194). -/
def selfRefreshAll (s : State) : State :=
  let f (c : PcSt) : PcSt :=
    { c with mode := if c.mode == .offline then .offline else .selfRefresh
             banks := c.banks.map fun b => { b with row := none, debt := 0 }, switching := none, notices := [] }
  { s.atLeast (s.now + 576) with pcs := s.pcs.map f }

/-- The pseudo-channels not offline leave self-refresh and serve requests again (R194). -/
def wakeAll (s : State) (first : Nat) : State :=
  (List.finRange 64).foldl (fun s n => if s.pcs[n].mode == .selfRefresh then wakePc s n first else s) s

end Sys2Proof.Machine
end

