-- ==== Sys2Proof/Machine/Thermal.lean ====
section
/-! DEFINITION. The Watch and the thermal manager (R455 to R476, R544, R556, R557): readings, broken sensors, levels, throttle steps and
caps, shutdown and resume, the Lagoon's inferred temperature, the housekeeping round. -/

namespace Sys2Proof.Machine

/-! ### Readings -/

/-- A 12-bit two's complement value. -/
def signed12 (v : Nat) : Int := if v % 4096 < 2048 then (v % 4096 : Nat) else (v % 4096 : Nat) - (4096 : Int)

/-- The die of a temperature sensor: 0 to 15 DRAM, 16 Lagoon, 17 base. -/
def dieOf (c : Nat) : Fin 18 :=
  if h : c < 64 then ⟨c / 4, by omega⟩ else if c < 72 then ⟨16, by decide⟩ else ⟨17, by decide⟩

/-- The sensors of a die. -/
def dieChans (d : Nat) : List (Fin 128) := (List.finRange 128).filter fun c => decide (c.val < 96) && decide ((dieOf c.val).val = d)

/-- Threshold kind of a die: 0 DRAM, 1 Lagoon, 2 base. -/
def dieKind (d : Nat) : Nat := if d < 16 then 0 else d - 15

/-- The TRIM group takes its defaults: thresholds are used 5 °C lower (R500). Log entry 36. -/
def trimOff (s : State) : Int := let v := s.fuse.groups[5].validity; if v = 0 ∨ v = 3 then 20 else 0

/-- WARN (0), THROTTLE (1) and SHUTDOWN (2) in force, in quarter degrees; a new value acts from the next CCLK (R457, R458, R473).
Log entry 36. -/
def threshold (s : State) (d which : Nat) : Int := (4 * csrForceFld (before s) (0x080004 + 4 * dieKind d) (8 * which) 8 : Nat) - trimOff s

/-- The SHUTDOWN threshold of the TRIM fuses, which moves TEMP_CRIT_N (R468). Log entry 36. -/
def critThreshold (s : State) (d : Nat) : Int := (if d < 16 then 420 else 460) - trimOff s

/-- Hysteresis of a level, in quarter degrees. -/
def hyst (which : Nat) : Int := if which = 2 then 20 else 12

/-- What a channel's value counts as for its die: broken sensors read at THROTTLE + 1 °C (R469). -/
def chanTemp (s : State) (c : Fin 128) : Int :=
  if s.therm.chans[c].cause ≠ 0 then threshold s (dieOf c.val).val 1 + 4 else signed12 s.therm.chans[c].value

/-- The largest of some values. -/
def maxInt (l : List Int) : Option Int := l.foldl (fun a x => some (match a with | none => x | some y => max x y)) none

/-- A die's temperature (R456, R472); none before its first reading. Log entry 31. -/
def dieTemp (s : State) (d : Nat) : Option Int :=
  if d = 16 && s.therm.lgInfer then some (max (threshold s 16 1 + 4) (if s.therm.inferOk then s.therm.tInf else -2048))
  else maxInt (((dieChans d).filter fun c => s.therm.chans[c].seen).map (chanTemp s))

/-- Sort ascending. -/
def insertInt (x : Int) : List Int → List Int
  | [] => [x]
  | y :: l => if x ≤ y then x :: y :: l else y :: insertInt x l

def sortInt (l : List Int) : List Int := l.foldl (fun a x => insertInt x a) []

/-- The median of some values: the middle one, or the mean of the two middle ones. Log entry 31. -/
def median (l : List Int) : Option Int :=
  let r := sortInt l
  let n := r.length
  if n = 0 then none
  else if n % 2 = 1 then r[n / 2]? else some ((r.getD (n / 2 - 1) 0 + r.getD (n / 2) 0) / 2)

/-- The sensor is off the median of its die's other sensors by more than 15 °C. Log entry 31. -/
def offMedian (s : State) (c : Fin 128) (v : Int) : Bool :=
  let others := (dieChans (dieOf c.val).val).filter fun k =>
    decide (k ≠ c) && s.therm.chans[k].seen && decide (s.therm.chans[k].cause = 0)
  match median (others.map fun k => signed12 s.therm.chans[k].value) with
  | none => false
  | some m => decide (60 < (v - m).natAbs)

/-- A reading of a channel is stored, and the causes of R469 that it meets. Log entry 31. -/
def readChan (s : State) (c : Fin 128) (raw value : Nat) : Chan :=
  let k := s.therm.chans[c]
  let temp := decide (c.val < 96)
  let v := signed12 value
  let same := if k.seen && decide (k.raw = raw) then k.same + 1 else 1
  let off := if temp && offMedian s c v then k.off + 1 else 0
  let implausible := temp && (decide (v < -180) || decide (600 < v) ||
    (k.seen && decide (40 < (v - signed12 k.value).natAbs)))
  let cause :=
    if k.cause ≠ 0 ∨ (96 ≤ c.val ∧ c.val < 112) then k.cause
    else if 8 ≤ same then 1 else if implausible then 2 else if 3 ≤ off then 3 else 0
  { value := value % 65536, raw := raw, same := same, off := off, cause := cause, seen := true }

/-! ### Rail monitors (R551, R556, R557, R573) -/

/-- Tolerance of a rail monitor, in units of 0.25 mV: nominal in mV, ±5%. -/
def railNominal (c : Nat) : Nat :=
  match c with
  | 96 | 97 | 98 | 108 | 110 => 750
  | 99 | 100 => 500
  | 101 | 102 => 1050
  | 103 | 104 | 109 => 1800
  | 105 | 106 => 400
  | _ => 800

/-- The reading is out of its rail's tolerance: ±5%, VPP_FUSE ±3%. -/
def railOut (c value : Nat) : Option Bool :=
  let n := 4 * railNominal c
  let t := if c = 109 then 3 else 5
  if 100 * value < n * (100 - t) then some false else if n * (100 + t) < 100 * value then some true else none

/-- RAIL_OUT, at most once per second per channel. -/
def railEvent (s : State) (c value : Nat) (fuseRun : Bool) : State :=
  if c < 96 ∨ 110 < c ∨ (c = 109 ∧ !fuseRun) ∨ (c = 107 ∧ !chrosyOn s) then s
  else match railOut c value with
    | none => s
    | some above =>
      let sev := if (101 ≤ c ∧ c ≤ 104) ∨ c = 108 then sevError else sevWarn
      raiseLim s (evKey (1152 + c) 0x0B10) (1000 * ms) (1152 + c) 0x0B10 sev (value % 65536 + b2n above * 65536) 0 1 true

/-! ### Levels, steps and caps (R459 to R464) -/

/-- The source of a die's events. -/
def dieSrc (d : Nat) : Nat := if d < 16 then 1152 + 4 * d else if d = 16 then 1216 else 1224

/-- The level a die moves to (R459); SHUTDOWN is left only by a resume. -/
def newLevel (s : State) (d cur : Nat) (t : Int) : Nat :=
  let thr (k : Nat) := threshold s d k
  let up := if thr 2 ≤ t then 3 else if thr 1 ≤ t then 2 else if thr 0 ≤ t then 1 else 0
  if cur ≤ up then up
  else if cur = 3 then 3
  else if cur = 2 then (if thr 1 - hyst 1 ≤ t then 2 else if thr 0 - hyst 0 ≤ t then 1 else 0)
  else if thr 0 - hyst 0 ≤ t then 1 else 0

/-- BAND in force, in quarter degrees. -/
def band (s : State) : Int := (2 * max 1 (min 10 (csrForceFld (before s) 0x080010 0 4)) : Nat)

/-- The throttle step a die moves to (R461). -/
def newStep (s : State) (d cur : Nat) (t : Int) : Nat :=
  let at_ (k : Nat) : Int := threshold s d 1 + ((k : Nat) - 1 : Int) * band s
  let up := (List.range 5).foldl (fun m k => if 1 ≤ k ∧ at_ k ≤ t then k else m) 0
  let stay := (List.range 5).foldl (fun m k => if 1 ≤ k ∧ k ≤ cur ∧ at_ k - 12 ≤ t then k else m) 0
  max up stay

/-- The cap of a class by a die's step, in percent (R461). -/
def dieCap (d step cls : Nat) : Nat :=
  if d = 16 then
    (if cls = 2 then (if step = 3 then 50 else if step = 4 then 25 else 100)
     else if cls = 1 then (if step = 4 then 50 else 100) else 100)
  else if cls = 2 then (if step = 0 then 100 else if step = 1 then 50 else 25)
  else if cls = 1 then (if step = 3 then 50 else if step = 4 then 25 else 100) else 100

/-- The cap of a class on a pseudo-channel: the lowest applies (R462). -/
def capOf (s : State) (n cls : Nat) : Nat :=
  let d := s.therm.dies
  min (dieCap 0 (d.toList.getD (n / 4) {}).step cls) (min (dieCap 16 d[16].step cls) (dieCap 17 d[17].step cls))

/-- Bytes in the bucket of a pseudo-channel and class now (R463): 32 B per CCLK at 100%. -/
def thermBucket (s : State) (n cls : Nat) : Nat :=
  let (short, at_) := smGet (0, 0) s.therm.buckets (4 * n + cls)
  1024 - (short - (s.now - at_) * (32 * capOf s n cls / 100))

/-- A request of a class leaves staging under the thermal cap. Log entry 77. -/
def thermPasses (s : State) (n cls bytes : Nat) : Bool := decide (capOf s n cls = 100) || decide (bytes ≤ thermBucket s n cls)

/-- Its bytes are taken from the bucket. -/
def thermTake (s : State) (n cls bytes : Nat) : State :=
  if capOf s n cls = 100 then s
  else
    let short := 1024 - (thermBucket s n cls - bytes)
    { s with therm := { s.therm with buckets := smSet (0, 0) s.therm.buckets (4 * n + cls) (short, s.now) } }

/-- The caps change from those of `s` to those of `t`: contents are kept; a bucket whose cap is lifted is full again. -/
def settleBuckets (s t : State) : State :=
  let b := s.therm.buckets.filterMap fun (k, _) =>
    let n := k / 4
    let c := k % 4
    let short := 1024 - thermBucket s n c
    if capOf t n c = 100 ∨ short = 0 then none else some (k, (short, t.now))
  { t with therm := { t.therm with buckets := b } }

/-- A die takes a level and a step. -/
def setDie (s : State) (d : Fin 18) (f : DieSt → DieSt) : State :=
  { s with therm := { s.therm with dies := s.therm.dies.set d (f s.therm.dies[d]) } }

/-! ### Shutdown and resume (R465 to R470) -/

/-- Memory requests of staging complete with OFFLINE, queues and the Lagoon are emptied, the DRAM enters self-refresh.
Log entry 82. -/
def shutdown (s : State) : State :=
  let s := { s with therm := { s.therm with shut := true, shutAt := s.now, armed := false } }
  let s := bump 0x08002C 1 (transitAbort s 6)
  let s := answerAll s (fun r => isMem r.kind) (fun _ => stOffline)
  selfRefreshAll (flushLagoon (drainQueues (abandon s)))

/-- A die enters SHUTDOWN: TEMP_SHUTDOWN, and the stack shuts down where it is in service. -/
def dieShutdown (s : State) (d : Nat) (t : Int) (chan : Nat) : State :=
  let s := raiseJ s (dieSrc d) 0x0B02 sevError (t % 4096).toNat chan
  if s.stack.ready && !s.therm.shut && !s.power.failing then shutdown s else s

/-- The hottest die. -/
def hottest (s : State) : Nat :=
  ((List.range 18).foldl (fun (a : Nat × Int) d =>
    match dieTemp s d with | some t => if a.2 < t then (d, t) else a | none => a) (0, -4096)).1

/-- Every die is below its SHUTDOWN threshold less its hysteresis, by thresholds `thr`. -/
def allCool (s : State) (thr : Nat → Int) : Bool :=
  (List.range 18).all fun d =>
    !(s.therm.dies.toList.getD d {}).allBroken &&
    (match dieTemp s d with | some t => decide (t < thr d - hyst 2) | none => true)

/-- Service resumes (R466). -/
def resumeService (s : State) : State :=
  let time := (s.now - s.therm.shutAt) / ms
  let relax (s : State) (d : Fin 18) : State :=
    match dieTemp s d.val with
    | some t => setDie s d fun x => { x with level := newLevel s d.val (if x.level = 3 then 2 else x.level) t }
    | none => s
  let s := dwHardware { s with therm := { s.therm with shut := false, armed := false } } 0x080018
  let s := (List.finRange 18).foldl relax s
  raiseJ (wakeAll s s.now) 1224 0x0B03 sevNotice time (hottest s)

/-- TEMP_CRIT_N (R468). -/
def critical (s : State) : State :=
  let hot := (List.range 18).any fun d =>
    (s.therm.dies.toList.getD d {}).allBroken ||
    (match dieTemp s d with | some t => decide (critThreshold s d ≤ t) | none => false)
  let crit := if hot then true else if allCool s (critThreshold s) then false else s.therm.crit
  { s with therm := { s.therm with crit := crit } }

/-- Every sensor of a die is broken under R469. -/
def sensorsBroken (s : State) (d : Nat) : Bool :=
  (dieChans d).all fun c => decide (1 ≤ s.therm.chans[c].cause) && decide (s.therm.chans[c].cause ≤ 3)

/-- R470, and R472's last sentence for the Lagoon. -/
def checkAllBroken (s : State) (d : Fin 18) : State :=
  let lost := sensorsBroken s d.val || (decide (d.val = 16) && s.therm.lgInfer && !s.therm.inferOk)
  if lost && !s.therm.dies[d].allBroken then
    let s := setDie s d fun x => { x with allBroken := true, level := 3, step := 4 }
    let s := raiseJ s (dieSrc d.val) 0x0B07 sevFatal d.val 0
    dieShutdown s d.val ((dieTemp s d.val).getD 0) 0xFF
  else s

/-- A die's temperature is compared with its thresholds (R459 to R461, R465); in a start SHUTDOWN needs no ARM to be left (R467). -/
def compareDie (s0 : State) (d : Fin 18) (chan : Nat) : State :=
  match dieTemp s0 d.val with
  | none => s0
  | some t =>
    let old := s0.therm.dies[d]
    let cool := !s0.stack.ready && decide (t < threshold s0 d.val 2 - hyst 2)
    let level := if old.allBroken then 3 else newLevel s0 d.val (if old.level = 3 && cool then 2 else old.level) t
    let step := if old.allBroken then 4 else newStep s0 d.val old.step t
    let s := settleBuckets s0 (setDie s0 d fun x => { x with level := level, step := step })
    let s := if old.level = 0 ∧ 1 ≤ level then raise s (dieSrc d.val) 0x0B00 sevWarn (t % 4096).toNat chan else s
    let s := if old.step ≠ step then
        raiseLim s (evKey (dieSrc d.val) 0x0B01) ms (dieSrc d.val) 0x0B01 sevWarn (step + (t % 4096).toNat * 65536) 0 1 false
      else s
    if old.level < 3 ∧ level = 3 then dieShutdown s d.val t chan else s

/-- The refresh rate of a DRAM die's pseudo-channels (R190). -/
def refreshRate (s : State) (d : Nat) : State :=
  match dieTemp s d with
  | none => s
  | some t =>
    let force := csrForceFld s 0x050000 1 1 == 1
    let set (b : Bool) (s : State) : State :=
      (List.range 4).foldl (fun s i => s.modPc (pcFin (4 * d + i)) fun c => { c with rate2x := b }) s
    if force || decide (340 < t) then set true s else if t ≤ 328 then set false s else s

/-! ### The round (R132, R471, R472, R544) -/

/-- Mean of some values. -/
def meanInt (l : List Int) : Option Int := if l.isEmpty then none else some (l.sum / (l.length : Int))

/-- Values of channels that are not broken. -/
def goodVals (s : State) (lo n : Nat) : List Nat :=
  (((List.finRange 128).filter fun c => decide (lo ≤ c.val) && decide (c.val < lo + n) && s.therm.chans[c].seen &&
    decide (s.therm.chans[c].cause = 0))).map fun c => s.therm.chans[c].value

/-- T_INF in quarter degrees, truncated (R471). -/
def infer (s : State) : Option Int :=
  let coef := csrGet s 0x080024
  let k0 : Int := let k := bitsOf coef 24 8; if k < 128 then k else (k : Int) - 256
  let leak := goodVals s 116 4
  match meanInt ((goodVals s 88 8).map signed12), meanInt ((goodVals s 0 4).map signed12) with
  | some b, some d =>
    if leak.isEmpty then none
    else
      let l : Int := Config.leakTemp (leak.sum / leak.length)
      some ((bitsOf coef 0 8 * b + bitsOf coef 8 8 * d + bitsOf coef 16 8 * l) / 256 + k0)
  | _, _ => none

/-- The inference at the end of a round. -/
def inferRound (s : State) : State :=
  match infer s with
  | none => checkAllBroken { s with therm := { s.therm with inferOk := false } } 16
  | some t =>
    let s := { s with therm := { s.therm with inferOk := true, tInf := t } }
    let hot := maxInt ((goodVals s 64 8).map signed12)
    let miss := match hot with | some h => decide (32 < t - h) | none => false
    let m := if miss then min 3 (s.therm.mismatch + 1) else 0
    let s := { s with therm := { s.therm with mismatch := m } }
    let s := if m = 3 && !s.therm.lgInfer then
        let br (i : Nat) (c : Chan) : Chan :=
          if 64 ≤ i ∧ i < 72 ∧ c.cause = 0 then { c with cause := 4 } else c
        let s := { s with therm := { s.therm with lgInfer := true, chans := s.therm.chans.mapIdx br } }
        raiseJ s 1216 0x0B05 sevError (t % 4096).toNat ((hot.getD 0) % 4096).toNat
      else s
    if s.therm.lgInfer then compareDie s 16 71 else s

/-- What the detectors show of a crossing group's passing run now. -/
def xingSeen (s : State) (x : XingCheck) : State :=
  if x.group < 256 then
    let k := 256 * 80 + x.group
    { s with train := { s.train with lanes := smSet {} s.train.lanes k { smGet {} s.train.lanes k with runLo := x.lo, run := x.len } } }
  else s

/-- A group still passes with its delay moved 2 taps either way (R132). -/
def xingHolds (l : Lane) : Bool := decide (l.runLo + 2 ≤ l.delay) && decide (l.delay + 2 < l.runLo + l.run)

/-- The check of the crossing groups at a housekeeping round, in service: XING_MARGIN (R132). -/
def crossingCheck (s : State) (xing : List XingCheck) : State :=
  let s := xing.foldl xingSeen s
  (s.train.lanes.filter fun e => decide (e.1 / 256 = 80)).foldl (fun s e =>
    if s.stack.ready && !xingHolds e.2 then raise s 1087 0x0130 sevWarn (e.1 % 256) (8 * e.2.run) else s) s

/-- The lowest set bit of a number of `n` bits; 0 when none is. -/
def lowBit (n x : Nat) : Nat := ((List.range n).find? fun i => x.testBit i).getD 0

/-- The vote over triplicated fields (R544). Log entry 75. -/
def shadowVote (s : State) : State :=
  let one (s : State) (e : Nat × Option (Word × Word × Word)) : State :=
    match e.2 with
    | none => s
    | some (a, b, c) =>
      let lo := lowBit 32 ((a ^^^ b) ||| (a ^^^ c)).toNat
      let two := if a = b then some a else if a = c then some a else if b = c then some b else none
      let s := { s with regs := { s.regs with copies := smErase s.regs.copies e.1 } }
      if a = b ∧ b = c then csrSet s e.1 a.toNat
      else match two with
        | some v => raise (csrSet s e.1 v.toNat) 1474 0x0F01 sevNotice (e.1 + lo * 2 ^ 24) v.toNat
        | none => raiseJ s 1474 0x0F01 sevError (e.1 + lo * 2 ^ 24) (csrGet s e.1)
  s.regs.copies.foldl one s

/-- The end of a round: whether it left no die at SHUTDOWN (R467). -/
def roundEnd (s : State) (xing : List XingCheck) : State :=
  let s := inferRound s
  let cool := s.therm.dies.toList.all fun d => decide (d.level < 3)
  shadowVote (crossingCheck { s with therm := { s.therm with coolRound := cool } } xing)

/-! ### One reading -/

/-- Time at a throttle step, in ms (R474). Log entry 31. -/
def stepTime (s : State) (dt : Nat) : State :=
  if s.therm.dies.toList.any (fun d => decide (1 ≤ d.step)) then
    let acc := s.therm.stepAcc + dt
    let s := { s with therm := { s.therm with stepAcc := acc % ms } }
    if acc / ms = 0 then s else bump 0x080028 (acc / ms) s
  else s

/-- VDD_CORE as read on channel 96 lies within 3% of 0.75 V: 2,910 to 3,090 units of 0.25 mV (R483, R504). -/
def coreInLimits (s : State) : Bool := decide (2910 ≤ s.therm.chans[96].value) && decide (s.therm.chans[96].value ≤ 3090)

/-- A reading of channel c. Log entry 31. -/
def watchRead (s : State) (c : Fin 128) (raw value : Nat) (xing : List XingCheck) (fuseRun : Bool) : State :=
  let s := s.atLeast (match s.therm.lastAt with | some t => t + 25000 | none => 0)
  let s := stepTime s (s.now - s.therm.lastAt.getD s.now)
  let old := s.therm.chans[c].cause
  let k := readChan s c raw value
  let s := { s with therm := { s.therm with
      chans := s.therm.chans.set c k, lastAt := some s.now, next := (c.val + 1) % 128 } }
  let s := if old = 0 ∧ k.cause ≠ 0 then raiseJ s (1152 + c.val) 0x0B04 sevWarn k.cause raw else s
  let s := railEvent s c.val value fuseRun
  let s := if decide (c.val = 96) && !coreInLimits s then transitAbort s 1 else s
  let s := if c.val < 96 then
      let d := dieOf c.val
      let s := compareDie (checkAllBroken s d) d c.val
      if d.val < 16 then refreshRate s d.val else s
    else s
  let s := if c.val = 127 then roundEnd s xing else s
  let s := critical s
  if s.therm.shut && s.therm.armed && allCool s (fun d => threshold s d 2) && !s.power.failing then resumeService s else s

/-- The channel read next. -/
def nextChan (s : State) : Fin 128 := ⟨s.therm.next % 128, Nat.mod_lt _ (by decide)⟩

/-- The Watch runs in every working state and in a start (R456). -/
def watchRuns (s : State) : Bool :=
  match s.power.phase with
  | .off | .lowWater | .held _ => false
  | .starting | .service | .halted => true

end Sys2Proof.Machine
end

