-- ==== Sys2Proof/Machine/Almanac.lean ====
section
/-! DEFINITION. The journal in DRAM, its lookups, event rings, the FATAL acknowledgement, the management FIFO (R332, R333, R338,
R343 to R348). -/

namespace Sys2Proof.Machine

/-! ### The journal in DRAM (R332, R333) -/

/-- Entries the journal holds. -/
def jrnSlots : Nat := 65536

/-- The block of the slot of entry J. -/
def jrnBlk (j : Nat) : Nat := keeperBase / 64 + j % jrnSlots

/-- Entry J, while the tail holds it. -/
def tailEntry (s : State) (j : Nat) : Option JEntry := s.jrn.tail.find? fun e => decide (e.j = j)

/-- Write entries to their slots through the write-back path (R333); a slot on an offline pseudo-channel keeps its old copy. -/
def flushEntries (s : State) (js : List Nat) : State :=
  ownWrites s ((js.filterMap (tailEntry s)).filterMap fun e =>
    if blkOnline s (jrnBlk e.j) then some (jrnBlk e.j, entryBlock e) else none)

/-- The oldest unit not wholly written goes to DRAM. -/
def flushUnit (s : State) : State :=
  let u := s.jrn.flushed / 4 * 4
  let k := min (u + 4) s.jrn.count
  let s := flushEntries s ((List.range (k - u)).map (u + ·))
  { s with jrn := { s.jrn with flushed := k } }

/-- Every entry of the tail goes to DRAM (R333). Log entry 60. -/
def flushJournal (s : State) : State :=
  let u := s.jrn.flushed / 4 * 4
  let s := flushEntries s ((List.range (s.jrn.count - u)).map (u + ·))
  { s with jrn := { s.jrn with flushed := s.jrn.count } }

/-- The DRAM serves the journal: not in self-refresh (R427). Log entry 38. -/
def dramAwake (s : State) : Bool := s.stack.ready && !s.power.failing && decide (s.power.low < 2) && !s.therm.shut

/-- A unit is written when complete, or 100 us after its first entry. -/
def execJournalUnitFlush (s : State) : Out :=
  if s.jrn.count ≤ s.jrn.flushed then .next s
  else if !dramAwake s then .next s
  else if s.jrn.flushed / 4 * 4 + 4 ≤ s.jrn.count then .next (flushUnit s)
  else .next (flushUnit (s.atLeast (s.jrn.unitAt + 160000)))

/-! ### Lookups (R338) -/

/-- What reading a journal slot delivers: none where it cannot be read. Log entry 37. -/
def slotRead (s : State) (j : Nat) : Option Block :=
  match tailEntry s j with
  | some e => some (entryBlock e)
  | none =>
    let blk := jrnBlk j
    let n := pcFin (coordOf s.dram.mapActive blk).pc
    if !(s.pcs[n].mode == .offline) then
      let d := rsDecode (erasures s.pcs[n]) (memBlock s.dram.mem blk) (chkWord s.dram.chk blk)
      if d.status = stOk ∨ d.status = stCorr then some d.data else none
    else none

/-- J of the oldest entry held. -/
def oldestJ (s : State) : Nat := s.jrn.count - jrnSlots

/-- The SSN in a slot. -/
def blockSsn (b : Block) : Nat := bitsOf b.toNat 0 64

/-- The SSN of the entry J, where its slot can be read. -/
def ssnAt (s : State) (j : Nat) : Option Nat := (slotRead s j).map blockSsn

/-- J of the first slot whose entry can have an SSN at or above `x`: one past the last readable entry below `x`.
Log entry 37. -/
def seekJ (s : State) (x : Nat) : Nat :=
  (List.range (s.jrn.count - oldestJ s)).foldl (fun a i =>
    match ssnAt s (oldestJ s + i) with
    | some v => if v < x then oldestJ s + i + 1 else a
    | none => a) (oldestJ s)

/-- `ALMANAC.OLDEST`: the SSN of the first entry held that can be read. -/
def oldestSsn (s : State) : Nat :=
  ((List.range (s.jrn.count - oldestJ s)).findSome? fun i => ssnAt s (oldestJ s + i)).getD 0

/-- `ALMANAC.NEWEST`. -/
def newestSsn (s : State) : Nat := match s.jrn.tail with | e :: _ => e.ssn | [] => 0

/-- A lookup starts, or restarts with a new value. Log entry 37. -/
def startLookup (s : State) (ssn : Nat) (fromJ : Option Nat) : State :=
  { s with jrn := { s.jrn with busy := true, rsel := ssn, fromJ := fromJ, rdata := 0, found := false
                               gap := false, unreadable := false } }

/-- The lookup completes. Log entry 37. -/
def lookup (s : State) : State :=
  let j := match s.jrn.fromJ with
    | some k => max k (oldestJ s)
    | none => seekJ s s.jrn.rsel
  let gap := match s.jrn.fromJ with
    | some k => decide (k < oldestJ s)
    | none => decide (s.jrn.count ≠ 0) && decide (s.jrn.rsel < oldestSsn s)
  if j < s.jrn.count then
    let b := slotRead s j
    let rsel := match b with | some x => blockSsn x | none => s.jrn.rsel
    { s with jrn := { s.jrn with busy := false, found := true, gap := gap, unreadable := b.isNone, rdata := b.getD 0
                                 foundJ := j, rsel := rsel, fromJ := none } }
  else { s with jrn := { s.jrn with busy := false, found := false, gap := gap, unreadable := false, rdata := 0
                                    foundJ := j, fromJ := none } }

def execAlmanacLookupDone (s : State) : Out := whenDo s.jrn.busy s (lookup s)

/-- A read of `ALMANAC.RDATA[15]` starts the lookup of the next entry. Log entry 37. -/
def nextLookup (s : State) : State :=
  if s.jrn.found then startLookup s ((s.jrn.rsel + 1) % 2 ^ 64) (some (s.jrn.foundJ + 1)) else s

/-! ### Event rings (R343 to R345) -/

def evRingReg (k : Nat) (off : Nat) : Nat := 0x0A0100 + 0x20 * k + off

/-- Records a ring holds. -/
def evRingSize (s : State) (k : Fin 4) : Nat := 2 ^ csrFld s (evRingReg k.val 8) 0 5

/-- EVT_CFG (R354). -/
def evtCfg (s : State) (addr value : Nat) : State := raise s 1468 0x0601 sevWarn addr value

/-- The ring is in force: in BASIC, rings 1 to 3 are ignored (R342). Log entry 67. -/
def evRingServed (s : State) (k : Fin 4) : Bool := decide (k.val = 0) || expert s 0x0A0000

/-! ### The engine's bandwidth (R319) -/

/-- CCLK between engine requests of 64 B to one pseudo-channel: 32 B per CCLK times SHARE percent (R319), and times the BULK cap
of the thermal manager (R463). Log entry 96. -/
def sharePace (s : State) (n : Nat) : Nat :=
  let p := min (max 1 (csrFld s 0x090000 0 7)) (capOf s n 2)
  (199 + p) / p

/-- An engine request of one block leaves the engine when both limits of R319 allow it, five per CCLK stack-wide (512,000 B per
1 us), and is counted (R324). Log entry 96. -/
def wxRequest (s : State) (blk : Nat) : State :=
  let n := pcFin (coordOf s.dram.mapActive blk).pc
  let w := s.wetex
  let t := max (max s.now w.pcPace[n]) w.paceAt
  let (t, k) := if w.paceAt < t then (t, 1) else if w.paceNo < 5 then (t, w.paceNo + 1) else (t + 1, 1)
  let s := s.atLeast t
  { s with wetex := { s.wetex with bytes := (w.bytes + 64) % 2 ^ 64, paceAt := t, paceNo := k
                                   pcPace := w.pcPace.set n (t + sharePace s n.val) } }

/-! ### Writing event rings (R343 to R345) -/

/-- A stack write of one block: not tagged, not mirrored, no Fresh Map bit (R344). Log entries 19, 38. -/
def stackWrite (s : State) (blk : Nat) (b : Block) : State := poisonClear (writeNow s blk b (rsCheck b)) blk

/-- A half-block record as a number of 32 bytes. -/
def recWord (bytes : List Nat) : BitVec 256 := BitVec.ofNat 256 (ofBytes bytes)

/-- The block written for a record in slot `i` (R304): an even slot is followed by a filler of the other phase.
Log entry 19. -/
def halfBlock (i : Nat) (rec last filler : BitVec 256) : Block :=
  if i % 2 = 0 then BitVec.ofNat 512 (rec.toNat + filler.toNat * 2 ^ 256)
  else BitVec.ofNat 512 (last.toNat + rec.toNat * 2 ^ 256)

/-- The byte address of a ring's slot 0. -/
def evRingBase (s : State) (k : Fin 4) : Nat :=
  csrGet s (evRingReg k.val 0) + csrGet s (evRingReg k.val 4) * 2 ^ 32

/-- The block of ring k's slot i. -/
def evSlotBlk (s : State) (k : Fin 4) (i : Nat) : Nat := (evRingBase s k + 32 * i) / 64

/-- Write the oldest waiting record of ring k (R343, R345). Log entry 38. -/
def ringWrite (s : State) (k : Fin 4) (e : EvRec) (rest : List EvRec) : State :=
  let r := s.evt.rings[k]
  let n := evRingSize s k
  let i := r.tail % n
  let phase := decide (r.tail / n % 2 = 0)
  let e := if r.lostBefore then { e with flags := e.flags ||| 4 } else e
  let w := recWord (recBytes e phase)
  let filler : BitVec 256 := BitVec.ofNat 256 (b2n (!phase) * 2 ^ (8 * 13))
  let s := stackWrite (wxRequest s (evSlotBlk s k i)) (evSlotBlk s k i) (halfBlock i w r.last filler)
  let pin := decide (sevLimit s 0 ≤ e.sev)
  let r := { r with waiting := rest, tail := r.tail + 1, lostBefore := false, last := if i % 2 = 0 then w else r.last
                    pinIdx := if pin then some r.tail else r.pinIdx }
  { s with evt := { s.evt with rings := s.evt.rings.set k r } }

def execEventRecordWrite (k : Fin 4) (s : State) : Out :=
  let r := s.evt.rings[k]
  match r.waiting with
  | [] => .next s
  | e :: rest =>
    whenDo (r.active && evRingServed s k && !s.evt.stopped && flood s && decide (r.tail - r.head < evRingSize s k) &&
        blkOnline s (evSlotBlk s k (r.tail % evRingSize s k))) s (ringWrite s k e rest)

/-- The ring may be enabled (R343). -/
def evRingOk (s : State) (k : Fin 4) : Bool :=
  let b := evRingBase s k
  let l := csrFld s (evRingReg k.val 8) 0 5
  decide (b % 4096 = 0) && decide (7 ≤ l) && decide (l ≤ 16) && hostUsable b (32 * 2 ^ l)

/-- A write to `EVT.RING[k].CFG` (R343, R344): LOG2 only while DISABLED, then ENABLE. -/
def writeEvRingCfg (s : State) (k : Fin 4) (v : Nat) : State :=
  let a := evRingReg k.val 8
  let r := s.evt.rings[k]
  let old := csrGet s a
  let log2 := if r.active then bitsOf old 0 5 else bitsOf v 0 5
  let s := csrSet s a (log2 + bitsOf old 5 1 * 32 + bitsOf v 6 1 * 64)
  let set (s : State) (r : EvRing) : State := { s with evt := { s.evt with rings := s.evt.rings.set k r } }
  if v.testBit 5 then
    if r.active then s
    else if evRingOk s k then
      let s := csrSet s a (putBits (csrGet s a) 5 1 1)
      let s := csrSet s (evRingReg k.val 12) 0
      set s { r with active := true, tail := 0, head := 0, pinIdx := none, last := 0 }
    else evtCfg (csrSet s a (putBits (csrGet s a) 5 1 0)) a v
  else
    let s := csrSet s a (putBits (csrGet s a) 5 1 0)
    if r.active then
      let n := evRingSize s k
      set s { r with active := false, lastTail := r.tail % n, lastPhase := decide (r.tail / n % 2 = 0), pinIdx := none }
    else s

/-- A write to `EVT.RING[k].HEAD` (R343): frees consumed slots, or is refused. -/
def writeEvHead (s : State) (k : Fin 4) (v : Nat) : State :=
  let a := evRingReg k.val 12
  let r := s.evt.rings[k]
  let n := evRingSize s k
  let v16 := v % 65536
  let freed := (v16 + n - r.head % n) % n
  if v16 < n ∧ freed ≤ r.tail - r.head then
    let s := csrSet s a v16
    { s with evt := { s.evt with rings := s.evt.rings.set k { r with head := r.head + freed } } }
  else evtCfg s a v

/-! ### Acknowledgement and the management FIFO (R347, R348) -/

/-- `EVT.FATAL_ACK` takes a value. -/
def writeFatalAck (s : State) (v : Nat) : State := { s with evt := { s.evt with fatalAck := v % 2 ^ 64 } }

/-- A read of `EVT.MFIFO[7]` removes the head record. -/
def mfifoPop (s : State) : State :=
  let l := s.evt.mfifo.drop 1
  { s with evt := { s.evt with mfifo := l, mfifoOvf := s.evt.mfifoOvf && !l.isEmpty } }

/-- Word i of the management FIFO's head record. -/
def mfifoWord (s : State) (i : Nat) : Nat :=
  match s.evt.mfifo with
  | [] => 0
  | e :: _ => ofBytes (((recBytes e false).drop (4 * i)).take 4)

/-- EVENT_N asserted (R347). -/
def eventAsserted (s : State) : Bool :=
  fatalPend s || (List.finRange 4).any fun k =>
    let r := s.evt.rings[k]
    r.active && decide (csrFld s (evRingReg k.val 8) 6 1 = 1) &&
      (match r.pinIdx with | some i => decide (r.head ≤ i) | none => false)

/-- The management port's 7-bit address (R546). -/
def mgmtAddr (s : State) : Nat := 0x38 + s.start.strap

/-- The Alert Response is answered with the stack's address; ALERT_N is released (R348). -/
def execSmbusAlertResponse (s : State) : Out :=
  whenDo s.evt.alertN s
    { s with evt := { s.evt with alertN := false }
             regs := { s.regs with mgmtOut := [BitVec.ofNat 8 (2 * mgmtAddr s)] } }

end Sys2Proof.Machine
end

