-- ==== Sys2Proof/Machine/LinkCtl.lean ====
section
/-! DEFINITION. Link layer and port control: link checks and replay (R57 to R65), lane repair (R66 to R69), PCTL frames (R71,
R72, R108, R109), per-port reset (R98 to R100). -/

namespace Sys2Proof.Machine

/-- Logical lanes on which two copies of a flit and its check lanes differ (R52, R53, R64). Log entry 11. -/
def diffLanes (a b : Block) (ca cb : Word) : List Nat :=
  let d := (a ^^^ b).toNat
  let c := (ca ^^^ cb).toNat
  ((List.range 64).filter fun k => (List.range 8).any fun u => d.testBit (64 * u + k)) ++
  ((List.range 4).filter fun k => (List.range 8).any fun u => c.testBit (4 * u + k)).map (· + 64)

/-- The link check of R57: CRC-32C over the expected sequence number and the flit. -/
def flitPasses (seq : Nat) (f : Block) (check : Word) : Bool := decide (flitCheck seq f = check)

/-- A downstream repair of the port is not over: REMAP_DONE is awaited, or flits discarded meanwhile are (R68). -/
def dnBusy (l : LinkSt) : Bool := l.repair.isSome || decide (0 < l.heldBack)

/-- The repairs of a port are over: it is UP again (R68). -/
def settleLink (s : State) (p : Port) : State :=
  if s.ports[p].link == .remap && !dnBusy s.links[p] && !s.links[p].muted && s.links[p].upHeld.isNone then
    s.modPort p fun q => { q with link := .up }
  else s

/-- The downstream scramblers pass one flit (R50). -/
def passFlit (l : LinkSt) : LinkSt := { l with scrDn := l.scrDn.map scrFlit }

/-- A flit passes: it is accepted; where it is the first resent copy, errors are attributed (R57, R64). Log entry 11. -/
def flitAccept (s : State) (p : Port) (f : Block) (check : Word) : State :=
  s.modLink p fun l =>
    let new := match l.failedCopy with
      | some (g, c) => if l.failCount = 1 then (diffLanes f g check c).map (fun k => (k, s.now)) else []
      | none => []
    { passFlit l with rxSeq := (l.rxSeq + 1) % 256, failedCopy := none, failCount := 0, ackPending := true
                      heldBack := l.heldBack - 1
                      laneErrs := new ++ l.laneErrs.filter (fun e => decide (s.now < e.2 + 160000)) }

/-- A flit fails: it is discarded and asked for again (R57, R60, R63). -/
def flitReject (s : State) (p : Port) (f : Block) (check : Word) : State :=
  let s := s.modLink p fun l =>
    { passFlit l with failedCopy := some (l.failedCopy.getD (f, check)), failCount := l.failCount + 1, nakPending := true
                      errTimes := s.now :: l.errTimes.filter (fun t => decide (s.now < t + ms)) }
  bump (portReg p 0x010) 1 s

/-- A flit received while REMAP_DONE is awaited is discarded and resent later; zero payload is ignored (R67, R68). -/
def flitHeld (s : State) (p : Port) (f : Block) (check : Word) : State :=
  s.modLink p fun l => { passFlit l with heldBack := if f = 0 ∧ check = 0 then l.heldBack else l.heldBack + 1 }

/-- LINK_REPLAY, at most once per 1 ms, with the counts of the last 1 ms (R101). Log entry 13. -/
def linkReplay (s : State) (p : Port) : State :=
  let key := evKey (portSrc p 0) 0x0101
  match limitDue s key ms with
  | none => s
  | some _ =>
    let l := s.links[p]
    let resends := ((l.resendTimes.filter fun x => decide (s.now < x.1 + ms)).map (·.2)).sum
    let errs := (l.errTimes.filter fun t => decide (s.now < t + ms)).length
    raise (limitSet s key (s.now + 1, 0)) (portSrc p 0) 0x0101 sevInfo resends errs

/-- Where a resend begins: at the flit a NAK asked for, or, with 32 flits unacknowledged, at the oldest (R60, R62). -/
def resendPoint (l : LinkSt) : Option Nat :=
  match l.resendFrom with
  | some q => some q
  | none => if 32 ≤ l.replay.length then l.replay.head?.map (·.seq) else none

/-- Held flits from a sequence number on are sent again (R60, R101, R102). -/
def resend (s : State) (p : Port) (q : Nat) : State :=
  let fs := s.links[p].replay.dropWhile fun f => decide (f.seq ≠ q)
  let s := s.modLink p fun l =>
    { sendOut l s.ports[p].mapUp fs with
      resendFrom := none, resendTimes := (s.now, fs.length) :: l.resendTimes.filter (fun x => decide (s.now < x.1 + ms)) }
  linkReplay (bump (portReg p 0x014) fs.length s) p

/-- The stack resends (R60 to R62). -/
def execResendStart (p : Port) (s : State) : Out :=
  match resendPoint s.links[p] with
  | none => .next s
  | some q => whenDo (linkLive s p && !s.links[p].muted) s (resend s p q)

/-- Eight failed copies of one flit fail the link (R63). -/
def execReplayStorm (p : Port) (s : State) : Out :=
  whenDo (linkLive s p && decide (8 ≤ s.links[p].failCount)) s (failPort s p 1 true)

/-! ### Lane repair -/

/-- A REMAP argument (R72). -/
def remapArg (lane spare dir : Nat) : Nat := lane + spare * 128 + dir * 512

/-- A spare of the port's direction is under Transit test (R66, R126). -/
def spareTested (s : State) (p : Port) (dir i : Nat) : Bool := s.transit.spareTest.contains (p.val, dir, i)

/-- Declare a downstream lane failed: REMAP, or SPARES_EXHAUSTED (R65, R66, R69). -/
def declareLane (s : State) (p : Port) (lane : Nat) : State :=
  let s := s.modLink p fun l => { l with laneErrs := l.laneErrs.filter (fun e => decide (e.1 ≠ lane)) }
  if dnBusy s.links[p] then s.modLink p fun l => { l with repairQ := l.repairQ ++ [lane] }
  else
    let m := s.ports[p].mapDn
    let bad := dnSpareBad s p
    let pick := match freeSpare m (fun i => spareTested s p 0 i || bad i) with
      | some i => some i
      | none => freeSpare m bad
    match pick with
    | none => failPort s p 2 true
    | some i =>
      let arg := remapArg lane i.val 0
      let s := transitSpareTaken s (p.val, 0, i.val)
      let s := s.modPort p fun q => { q with link := .remap }
      let s := s.modLink p fun l => { l with repair := some arg }
      pctlSend s p 0x03 arg true

/-- The next repair that waited starts (R68). -/
def nextRepair (s : State) (p : Port) : State :=
  if dnBusy s.links[p] then s
  else match s.links[p].repairQ with
    | [] => s
    | lane :: rest => declareLane (s.modLink p fun l => { l with repairQ := rest }) p lane

/-- A step of a repair has been taken: the next one starts, or the port is released (R68). -/
def repairStep (s : State) (p : Port) : State := settleLink (nextRepair s p) p

def execNop (p : Port) (w : NopSlot) (s : State) : Out :=
  whenDo (accepts s p) s (repairStep (linkSlot s p w.slot w.shadowed) p)

def execFlitLinkCheck (p : Port) (f : Block) (check : Word) (s : State) : Out :=
  whenDo (linkLive s p) s
    (if s.links[p].repair.isSome || (decide (0 < s.links[p].heldBack) && decide (f = 0) && decide (check = 0)) then
       flitHeld s p f check
     else if flitPasses s.links[p].rxSeq f check then repairStep (flitAccept s p f check) p
     else flitReject s p f check)

/-- The key of a lane in Sextant's tables: regions 0 to 15 ports, 16 to 79 pseudo-channels, 80 the crossing groups. -/
def laneKey (region pos : Nat) : Nat := 256 * region + pos

/-- The position of a downstream logical lane: itself, or its latest spare. -/
def lanePos (m : Vector (Option Nat) 4) (lane : Nat) : Nat :=
  match (List.finRange 4).reverse.find? (fun i => decide (m[i] = some lane)) with
  | some i => 68 + i.val
  | none => lane

/-- A downstream lane has shown errors in 3 flits within 100 us, or stands below the service floor (R65, R121). -/
def laneDue (s : State) (p : Port) (lane : Nat) : Bool :=
  decide (3 ≤ (s.links[p].laneErrs.filter (fun e => decide (e.1 = lane) && decide (s.now < e.2 + 160000))).length) ||
  decide (3 ≤ (smGet {} s.train.lanes (laneKey p.val (lanePos s.ports[p].mapDn lane))).low)

/-- An enabled override entry that names a lane position raises OVERRIDE when the lane moves to a spare (R128, R131). -/
def ovrMoved (s : State) (key : Nat) : State :=
  if (smGet {} s.train.lanes key).overridden then
    let region := key / 256
    let sel := if region < 16 then region * 4 + key % 256 * 1024 else 1 + (region - 16) * 4 + key % 256 * 1024
    match (List.range 64).find? (fun i => decide (csrFld s (0x0F0200 + 8 * i) 0 18 = sel + 2 ^ 17)) with
    | some i => raise s (portSrc (if region < 16 then portFin region else 0) 14) 0x0116 sevNotice i 1
    | none => s
  else s

/-- A failed lane's record in Sextant: no override is in force on it any more (R121, R128). -/
def markLaneFailed (s : State) (key : Nat) : State :=
  let s := ovrMoved s key
  { s with train := { s.train with
      lanes := smSet {} s.train.lanes key
        { smGet {} s.train.lanes key with failed := true, low := 0, overridden := false, auto := none } } }

/-- A downstream lane is declared failed; an idle spare below the floor is marked failed (R65, R121). -/
def execDownstreamLaneFailed (p : Port) (lane : Nat) (s : State) : Out :=
  if lane < 68 then
    whenDo (linkLive s p && laneDue s p lane) s
      (declareLane (markLaneFailed s (laneKey p.val (lanePos s.ports[p].mapDn lane))) p lane)
  else
    whenDo (linkLive s p && decide (lane < 72) && (s.ports[p].mapDn.toList.getD (lane - 68) none).isNone &&
        decide (3 ≤ (smGet {} s.train.lanes (laneKey p.val lane)).low)) s
      (markLaneFailed s (laneKey p.val lane))

/-- An HCK fault fails the port as with no spare left (R69). -/
def execHckFault (p : Port) (s : State) : Out :=
  whenDo (!(s.ports[p].link == .failed && decide (s.ports[p].failReason = 2)) && !(s.ports[p].link == .down)) s
    (failPort s p 2 true)

/-- The stack moves an upstream lane onto the named spare, answers REMAP_DONE and sends zero payload until NAK (R67); with no spare
left the port fails (R69). A spare the lane leaves is a failed one. -/
def remapUp (s : State) (p : Port) (arg : Nat) : State :=
  let lane := bitsOf arg 0 7
  let i : Fin 4 := ⟨bitsOf arg 7 2 % 4, Nat.mod_lt _ (by decide)⟩
  if sparesLeft s.ports[p].mapUp (upSpareBad s p) = 0 then failPort s p 2 true
  else
    let s := transitSpareTaken s (p.val, 1, i.val)
    let left := (List.finRange 4).filter fun k => decide (s.ports[p].mapUp[k] = some lane)
    let s := s.modPort p fun q => { q with link := .remap, mapUp := remapLane q.mapUp lane i }
    let s := s.modLink p fun l =>
      { l with upBad := left.foldl (fun b k => setInsert b (68 + k.val)) (if left.isEmpty then setInsert l.upBad lane else l.upBad)
               muted := true, resendFrom := none, upHeld := l.replay.getLast?.map (·.seq) }
    let s := pctlSend s p 0x04 arg false
    let s := remapEvents s p arg 1 (sparesLeft s.ports[p].mapUp (upSpareBad s p))
    recordDue s ⟨p.val, by omega⟩ true

/-- A REMAP of an upstream lane: DIR 1, a logical lane, reserved bits zero. Log entry 86. -/
def remapValid (arg : Nat) : Bool :=
  decide (bitsOf arg 0 7 < 68) && decide (bitsOf arg 9 1 = 1) && decide (arg / 1024 = 0)

/-- A REMAP that is malformed, or names a spare in use, changes nothing (log entry 86). -/
def execRemap (p : Port) (arg : BitVec 16) (s : State) : Out :=
  let i : Fin 4 := ⟨bitsOf arg.toNat 7 2 % 4, Nat.mod_lt _ (by decide)⟩
  whenDo (linkLive s p && remapValid arg.toNat &&
      (decide (sparesLeft s.ports[p].mapUp (upSpareBad s p) = 0) || s.ports[p].mapUp[i].isNone)) s (remapUp s p arg.toNat)

/-- The stack takes the lane from the spare and sends NAK; the port stays held until the flits discarded meanwhile are accepted
(R67, R68). -/
def remapDown (s : State) (p : Port) (arg : Nat) : State :=
  let i : Fin 4 := ⟨bitsOf arg 7 2 % 4, Nat.mod_lt _ (by decide)⟩
  let s := s.modPort p fun q => { q with mapDn := remapLane q.mapDn (bitsOf arg 0 7) i }
  let s := s.modLink p fun l => { l with repair := none, pctl := none, nakPending := true }
  let s := remapEvents s p arg 0 (sparesLeft s.ports[p].mapDn (dnSpareBad s p))
  repairStep (recordDue s ⟨p.val, by omega⟩ true) p

def execRemapDone (p : Port) (arg : BitVec 16) (s : State) : Out :=
  whenDo (s.ports[p].link == .remap && decide (s.links[p].repair = some arg.toNat)) s (remapDown s p arg.toNat)

/-! ### PCTL -/

/-- A per-port reset starts (R98): staging is discarded and fast training of the port opens. -/
def startReset (s : State) (p : Port) : State :=
  let s := s.modPort p fun q => { q with discarded := 0, noResp := 0 }
  let s := discardPort s p
  let s := s.modPort p fun q => { q with link := .reset, resetting := true }
  let s := s.modLink p fun l =>
    { l with replay := [], rxSeq := 0, txSeq := 0, failedCopy := none, failCount := 0, nakPending := false
             ackPending := false, resendFrom := none, repair := none, repairQ := [], heldBack := 0, muted := false
             upHeld := none, trained := false, trnDone := none, trn := .started true }
  pctlSend s p 0x10 1 true

/-- PORT_RESET is obeyed on every port but one that is down or has failed for good (R98, R99). -/
def execPortReset (p : Port) (s : State) : Out :=
  let q := s.ports[p]
  whenDo (!(q.link == .down) && !(q.link == .failed && decide (q.failReason = 2))) s (startReset s p)

/-- The reset ends: the RESET entry, PORT_RESET, PORT_RESET_ACK (R98, R100, R336). -/
def endReset (s : State) (p : Port) : State :=
  let d := s.ports[p].discarded
  let n := s.ports[p].noResp
  let s := portUp s p
  let s := pctlSend s p 0x02 0 false
  let s := journal s 0x0006 (portSrc p 5) (bodyAt 24 6 + bodyAt 25 p.val + bodyAt 32 (s.seq.next - 1))
  raiseX s (portSrc p 5) 0x0108 sevNotice d n true false true

/-- The reset ends once fast training of the port has run; retraining waits for the Keeper (R26, R98). -/
def execPortResetDone (p : Port) (s : State) : Out :=
  whenDo (s.ports[p].resetting && s.ports[p].link == .reset && s.links[p].trained && keeperUp s) s (endReset s p)

/-- The host declares the link failed (R72); a frame with another reason changes nothing (log entry 86). -/
def execPortFail (p : Port) (arg : BitVec 16) (s : State) : Out :=
  let q := s.ports[p]
  whenDo (decide (1 ≤ arg.toNat) && decide (arg.toNat ≤ 3) && !(q.link == .down) && !(q.link == .failed)) s
    (failPort s p arg.toNat false)

/-- Commands of R72 and R108. -/
def pctlKnown (cmd : Nat) : Bool := (decide (1 ≤ cmd) && decide (cmd ≤ 5)) || (decide (0x10 ≤ cmd) && decide (cmd ≤ 0x17))

/-- The CRC-8 of a received frame (R71). Log entry 85. -/
def pctlCrc (cmd : Byte) (arg : BitVec 16) : Nat := frameCrc cmd.toNat arg.toNat

/-- A frame with a wrong CRC-8 is discarded and counted, one with an unknown command is ignored; PCTL_ERR (R71, R72, R101).
Log entry 12. -/
def execPctlFrameInvalid (p : Port) (cmd : Byte) (arg : BitVec 16) (crc : Byte) (s : State) : Out :=
  let bad := decide (pctlCrc cmd arg ≠ crc.toNat)
  let t := if bad then s.modLink p fun l => { l with pctlBad := l.pctlBad + 1 } else s
  whenDo (bad || !pctlKnown cmd.toNat) s
    (raise t (portSrc p 7) 0x010A sevInfo (cmd.toNat + arg.toNat * 256) (if bad then 0 else 1))

/-- Pattern of a training step (R108, R110). -/
def stepPattern (step : Nat) : Nat := if step = 1 then 2 else if step = 4 then 1 else 0

/-- TRN_PHASE of a step: DIR 0 downstream, 1 upstream (R108). -/
def phaseArg (step dir : Nat) : Nat := step + 8 * dir + stepPattern step * 16

/-- An upstream step opens: the stack's generators send its pattern (R107 to R109). -/
def openStep (s : State) (p : Port) (fast : Bool) (step : Nat) : State :=
  let s := s.modLink p fun l => { l with trn := .running fast step true s.now, gen := some (stepPattern step) }
  pctlSend s p 0x12 (phaseArg step 1) false

/-- The steps of full and fast training (R110, R115). -/
def trnSteps (fast : Bool) : List Nat := if fast then [1, 5] else [1, 2, 3, 4, 5]

/-- CCLK of a dwell: 65,536 UI of a Wide Port lane (R107), at 12.8 Gb/s or, on XTM-9616-C, at 10.0 Gb/s. -/
def dwellCclk (s : State) : Nat := if csrFld s 0x000008 0 2 = 1 then 8192 else 10486

/-- Dwells of a step (R110). -/
def stepDwells (step : Nat) : Nat :=
  if step = 1 then 8 else if step = 2 then 384 else if step = 3 then 64 else if step = 4 then 129 else 3

/-- A downstream step: TRN_PHASE with DIR 0, for step 4 after the eight PAT_WORDs, and its dwells (R108 to R110). -/
def downStep (p : Port) (s : State) (step : Nat) : State :=
  let s := if step = 4 then patWords.foldl (fun s w => pctlSend s p 0x13 w false) s else s
  let s := pctlSend s p 0x12 (phaseArg step 0) false
  s.atLeast (s.now + stepDwells step * dwellCclk s)

/-- The host is ready: the downstream steps run and the first upstream step opens (R109). -/
def trnReady (s : State) (p : Port) (fast : Bool) : State :=
  let s := s.modLink p fun l => { l with pctl := none, trnAt := s.now }
  openStep ((trnSteps fast).foldl (downStep p) s) p fast 1

def execTrnAck (p : Port) (_arg : BitVec 16) (s : State) : Out :=
  match s.links[p].trn with
  | .started fast => whenDo (keeperUp s) s (trnReady s p fast)
  | _ => .next s

/-- The step after an upstream step. -/
def nextStep (fast : Bool) (step : Nat) : Option Nat := (trnSteps fast).find? fun k => decide (step < k)

def execPhaseDone (p : Port) (arg : BitVec 16) (s : State) : Out :=
  match s.links[p].trn with
  | .running fast step true _ =>
    if arg.toNat % 8 = step then
      match nextStep fast step with
      | some k => .next (openStep s p fast k)
      | none => .next (s.modLink p fun l => { l with trn := .done fast, gen := none })
    else .next s
  | _ => .next s

/-- The stack abandons training of a port: TRN_FAIL goes out and the port fails with PCTL_LOST (R108, R109, R131).
Log entry 88. -/
def trnAbandon (s : State) (p : Port) (step : Nat) : State :=
  failPort (raise (pctlSend s p 0x17 step false) (portSrc p 9) 0x0111 sevError step 0) p 3 true

/-- No answer: repeat, and after 3 repeats fail the port (R71); no PHASE_DONE within 10 ms: training is abandoned (R109, log
entry 88). Log entry 88. -/
def execPctlAnswerTimeout (p : Port) (s : State) : Out :=
  match s.links[p].pctl with
  | some w =>
    let s := s.atLeast (w.sentAt + 3200)
    .next (if w.repeats < 3 then
        (pctlSend s p w.cmd w.arg false).modLink p fun l =>
          { l with pctl := some { w with sentAt := s.now, repeats := w.repeats + 1 } }
      else failPort s p 3 true)
  | none =>
    match s.links[p].trn with
    | .running _ step true at_ => .next (trnAbandon (s.atLeast (at_ + 10 * ms)) p step)
    | _ => .next s

/-- The host reports an upstream lane that failed (R108, R109). -/
def execLaneBad (p : Port) (arg : BitVec 16) (s : State) : Out :=
  match s.links[p].trn with
  | .running _ _ _ _ =>
    whenDo (decide (bitsOf arg.toNat 0 7 < 72)) s
      (s.modLink p fun l => { l with upBad := setInsert l.upBad (bitsOf arg.toNat 0 7) })
  | _ => .next s

/-- The host abandons training: the port fails with PCTL_LOST (R109, R131). -/
def execTrnFail (p : Port) (arg : BitVec 16) (s : State) : Out :=
  match s.links[p].trn with
  | .idle => .next s
  | _ => .next (failPort (raise s (portSrc p 9) 0x0111 sevError (arg.toNat % 8) 1) p 3 false)

end Sys2Proof.Machine
end

