-- ==== Sys2Proof/Machine/Training.lean ====
section
/-! DEFINITION. Sextant: full and fast training, background calibration, calibration records, overrides (R104 to R132). -/

namespace Sys2Proof.Machine

def laneGet (s : State) (k : Nat) : Lane := smGet {} s.train.lanes k
def laneSet (s : State) (k : Nat) (l : Lane) : State :=
  { s with train := { s.train with lanes := smSet {} s.train.lanes k l } }

/-- Region numbers: 0 to 15 ports, 16 to 79 pseudo-channels, 80 the crossing groups. -/
def regionNo : Region → Fin 81
  | .port p => ⟨p.val, by omega⟩
  | .pc n => ⟨16 + n.val, by omega⟩
  | .crossing => 80

/-- A lane's position in its region: a write direction TSV lane stands 74 above its read direction. -/
def sweepPos (w : LaneSweep) : Nat := w.lane + (if w.write then 74 else 0)

/-- A run of taps: first tap and length. -/
abbrev TapRun := Nat × Nat

/-- The longer of two runs, the first where they are equal. Log entry 84. -/
def longer (a b : TapRun) : TapRun := if a.2 < b.2 then b else a

/-- The widest run of taps without error among `n` taps from tap `i`: `c` taps before `i` passed, `best` is the widest run so
far; a tap not listed shows no error. -/
def widestFrom : List Nat → Nat → Nat → Nat → TapRun → TapRun
  | [], n, i, c, best => longer best (i - c, c + n)
  | _ :: _, 0, i, c, best => longer best (i - c, c)
  | e :: l, n + 1, i, c, best =>
    if e = 0 then widestFrom l n (i + 1) (c + 1) best else widestFrom l n (i + 1) 0 (longer best (i - c, c))

/-- The widest passing run of a sweep over `n` taps (R107, R110): a tap passes when its compare counter is zero.
Log entry 84. -/
def widest (errs : List Nat) (n : Nat) : TapRun := widestFrom errs n 0 0 (0, 0)

/-- The middle of a run. Log entry 84. -/
def runMiddle (r : TapRun) : Nat := r.1 + r.2 / 2

/-- A compare counter: 16 bits, saturating (R107). -/
def cmpCount (errors : Nat) : Nat := min 0xFFFF errors

/-- What steps 2 to 4 find on a lane (R110): step 3 applies where the lane has a threshold setting; step 4 sweeps 64 taps either
side of `d`. The flag tells that the lane passes (R111). -/
def centreLane (w : LaneSweep) (l : Lane) (d : Nat) (threshold : Bool) : Lane × Bool :=
  let t := widest w.threshErr 64
  let eye := widest (w.centreErr.drop (64 - d)) (min 129 (448 - d) - (64 - d))
  let delay := d - 64 + runMiddle eye
  let thresh := if threshold then runMiddle t else l.thresh
  ({ l with delay := delay, thresh := thresh, target := delay, threshTarget := thresh, run := eye.2, runLo := d - 64 + eye.1 },
   decide (32 ≤ eye.2) && (!threshold || decide (8 ≤ t.2)))

/-- A crossing group's sweep over taps 0 to 79 (R113); it passes with a run of 4 taps. -/
def tuneGroup (w : LaneSweep) (l : Lane) : Lane × Bool :=
  let r := widest w.delayErr 80
  ({ l with delay := runMiddle r, target := runMiddle r, run := r.2, runLo := r.1 }, decide (4 ≤ r.2))

/-- Full training of one lane: steps 2 to 5. Log entry 84. -/
def fullLane (region : Nat) (w : LaneSweep) (l : Lane) : Lane × Bool :=
  let (l', ok) := if region = 80 then tuneGroup w l
    else centreLane w l (runMiddle (widest w.delayErr 384)) (decide (region < 16) || !w.write)
  ({ l' with cmp := cmpCount (w.verifyErr.getD 2 0), failed := !ok, low := 0, measured := false, overridden := false, auto := none },
   ok)

/-- Step 5 passes at the `k`-th try. -/
def verified (w : LaneSweep) (k : Nat) : Bool := ((w.verifyErr.drop (3 * k)).take 3).all (· == 0)

/-- Fast training of one lane at its stored values (R115): step 5; where it fails, steps 3 and 4 about them and step 5 again.
Log entry 84. -/
def fastLaneOf (region : Nat) (w : LaneSweep) (l : Lane) : Lane × Bool :=
  let l := { l with cmp := cmpCount (w.verifyErr.getD 2 0), low := 0, measured := false }
  if verified w 0 then (l, !l.failed)
  else if region = 80 then tuneGroup w l
  else
    let (l', ok) := centreLane w l l.delay (decide (region < 16) || !w.write)
    let ok := ok && verified w 1
    ({ l' with cmp := cmpCount (w.verifyErr.getD 5 0), failed := !ok }, ok)

/-- Every lane of a region: 72 of a port, both directions of 74 of a pseudo-channel, 256 crossing groups (R104, R110).
Log entry 84. -/
def regionSweeps (region : Nat) (sweeps : List LaneSweep) : List LaneSweep :=
  let get (lane : Nat) (write : Bool) : LaneSweep :=
    (sweeps.find? fun w => decide (w.lane = lane) && (w.write == write)).getD { lane := lane, write := write }
  if region < 16 then (List.range 72).map (get · false)
  else if region < 80 then (List.range 74).map (get · false) ++ (List.range 74).map (get · true)
  else (List.range 256).map (get · false)

/-- Run a lane's training over a region: the state, and the sweeps of the lanes that failed. -/
def trainLanes (s : State) (region : Nat) (f : LaneSweep → Lane → Lane × Bool) (sweeps : List LaneSweep) :
    List LaneSweep × State :=
  (regionSweeps region sweeps).foldl (fun (x : List LaneSweep × State) w =>
    let k := laneKey region (sweepPos w)
    let r := f w (laneGet x.2 k)
    (if r.2 then x.1 else x.1 ++ [w], laneSet x.2 k r.1)) ([], s)

/-- A TSV lane that fails in its write direction is bad as a lane (R112). -/
def markWrites (region : Nat) (failed : List LaneSweep) (s : State) : State :=
  (failed.filter (·.write)).foldl (fun s w =>
    laneSet s (laneKey region w.lane) { laneGet s (laneKey region w.lane) with failed := true }) s

/-- Positions of the lanes that failed, in either direction, ascending. -/
def badPositions (failed : List LaneSweep) : List Nat := failed.foldl (fun l w => setInsert l w.lane) []

/-- Map bad logical lanes onto good spares in ascending order (R111): `first` is the position of S0. The second component tells
that every bad lane found a spare. -/
def mapBad (bad : List Nat) (first k : Nat) : List (Option Nat) × Bool :=
  let lanes := bad.filter fun p => decide (p < first)
  let spares := (List.range k).filter fun i => !bad.contains (first + i)
  ((List.range k).map fun i => ((spares.zip lanes).find? fun x => decide (x.1 = i)).map (·.2),
   decide (lanes.length ≤ spares.length))

def mapVec {k : Nat} (l : List (Option Nat)) : Vector (Option Nat) k := Vector.ofFn fun i : Fin k => (l.getD i.val none)

/-- The lane map after fast training (R111, R115): a lane whose spare has failed, and a lane newly bad, goes onto a free good
spare; the others keep their places. The second component tells that each found one. -/
def fixMap (m : List (Option Nat)) (bad : List Nat) (first k : Nat) : List (Option Nat) × Bool :=
  let at_ (i : Nat) : Option Nat := m.getD i none
  let keep (i : Nat) : Option Nat := if bad.contains (first + i) then none else at_ i
  let kept := (List.range k).filterMap keep
  let need := ((bad.filter fun b => decide (b < first)) ++ (List.range k).filterMap fun i =>
    if bad.contains (first + i) then at_ i else none).filter fun l => !kept.contains l
  let need := need.foldl setInsert []
  let free := (List.range k).filter fun i => (keep i).isNone && !bad.contains (first + i)
  ((List.range k).map fun i =>
    match (free.zip need).find? (fun x => decide (x.1 = i)) with
    | some x => some x.2
    | none => keep i, decide (need.length ≤ free.length))

/-- Bad positions of a direction, those whose lane a spare carries included. -/
def withMapped (m : List (Option Nat)) (bad : List Nat) : List Nat := (m.filterMap id).foldl setInsert bad

/-- SPARES_LOW where training has taken the last spare of a direction (R101). -/
def sparesLow (s : State) (p : Port) (dir : Nat) (before after : List (Option Nat)) (bad : List Nat) : State :=
  let free (m : List (Option Nat)) : Nat :=
    ((List.range 4).filter fun i => (m.getD i none).isNone && !bad.contains (68 + i)).length
  if after ≠ before ∧ free after = 0 then raise s (portSrc p 2) 0x0103 sevWarn dir 0 else s

/-- TRN_DONE of a port: lane maps, seeds, credits (R109, R111, R70). `dn` and `up` are the bad positions. -/
def portTrained (s : State) (p : Port) (fast : Bool) (dn up : List Nat) : State :=
  let md := s.ports[p].mapDn.toList
  let mu := s.ports[p].mapUp.toList
  let (md', okd) := if fast then fixMap md dn 68 4 else mapBad dn 68 4
  let (mu', oku) := if fast then fixMap mu up 68 4 else mapBad up 68 4
  let gd := 72 - (if fast then withMapped md' dn else dn).length
  let gu := 72 - (if fast then withMapped mu' up else up).length
  let s := s.modPort p fun q => { q with mapDn := mapVec md', mapUp := mapVec mu' }
  let s := if md' ≠ md ∨ mu' ≠ mu then recordDue s ⟨p.val, by omega⟩ true else s
  if !okd || !oku || decide (gd < 68) || decide (gu < 68) then failPort s p 2 true
  else
    let s := sparesLow (sparesLow s p 0 md md' dn) p 1 mu mu' up
    let arg := gd + gu * 128
    let s := if s.stack.ready then pctlSend s p 0x16 arg false else s.modLink p fun l => { l with trnDone := some arg }
    let s := raise s (portSrc p 8) 0x0110 sevNotice (b2n fast) arg
    if s.ports[p].resetting then s.modLink p fun l => { l with trn := .idle, trained := true } else portUp s p

/-- A pseudo-channel's TSV lanes are trained (R112, R115): bad lanes onto spares; with fewer than 72 good lanes it goes, or stays,
offline; a retraining notes its outcome (R117). -/
def pcTrained (s : State) (n : Pc) (fast : Bool) (bad : List Nat) : State :=
  let old := s.pcs[n].spares.toList
  let (m, ok) := if fast then fixMap old bad 72 2 else mapBad bad 72 2
  let lanes := (if fast then withMapped m bad else bad).filter fun b => decide (b < 72)
  let s := s.modPc n fun c =>
    { c with failedLanes := lanes, spares := mapVec m, laneCorr := [], trained := ok, retrained := some ok }
  let s := if m ≠ old then recordDue s ⟨16 + n.val, by omega⟩ true else s
  if ok || s.pcs[n].mode == .retrain then s else goOffline s n

/-- A crossing group that cannot be tuned (R113, R131): its way is disabled, or the stack never becomes READY. -/
def untunable (s : State) (g run : Nat) : State :=
  let s := { s with train := { s.train with untuned := s.train.untuned + 1 } }
  if g < 240 then
    let s := raise s 1087 0x0131 sevError g run
    if s.lagoon.failed.testBit (g / 15) then s
    else disableWay (raiseJ s (1024 + g / 15) 0x0301 sevError 3 0) (g / 15)
  else raise { s with train := { s.train with xingFatal := true } } 1087 0x0131 sevFatal g run

/-- The crossing groups have been tuned, or verified (R113, R115). -/
def crossingTrained (s : State) (failed : List LaneSweep) : State :=
  failed.foldl (fun s w => untunable s w.lane (laneGet s (laneKey 80 w.lane)).run)
    { s with train := { s.train with xingDone := true } }

/-- Contents of a region's record now: its lanes, those under an override with the values they had before it (R123, R128). -/
def regionLanes (s : State) (r : Fin 81) : SMap CalLane :=
  (s.train.lanes.filter fun x => decide (x.1 / 256 = r.val)).map fun x =>
    let v := x.2.auto.getD (x.2.delay, x.2.thresh)
    (x.1 % 256, { delay := v.1, thresh := v.2, eyeW := x.2.eyeW, eyeH := x.2.eyeH })

def regionMap (s : State) (r : Fin 81) : List (Option Nat) :=
  if h : r.val < 16 then
    (s.ports[(⟨r.val, h⟩ : Port)].mapDn.toList ++ s.ports[(⟨r.val, h⟩ : Port)].mapUp.toList)
  else if r.val < 80 then (s.pcs[pcFin (r.val - 16)].spares.toList) else []

/-- The copy a load uses (R124). -/
def useCopy (r : CalRec) : Option CalCopy :=
  if r.a.ok && r.b.ok then some (if r.a.gen < r.b.gen then r.b else r.a)
  else if r.a.ok then some r.a else if r.b.ok then some r.b else none

def setRec (s : State) (r : Fin 81) (f : CalRec → CalRec) : State :=
  { s with train := { s.train with recs := s.train.recs.set r (f s.train.recs[r]) } }

/-- A port trains once its handshake has run (R109). -/
def handshake (s : State) (r : Region) (fast : Bool) : Bool :=
  match r with
  | .port p => decide (s.links[p].trn = .done fast)
  | _ => true

/-- A region can be trained now, with the Keeper running (R26): a port in training or reset, a pseudo-channel in self-refresh or
retraining, the crossing groups before service. -/
def trainable (s : State) (r : Region) : Bool :=
  keeperUp s && (match r with
  | .port p => s.ports[p].link == .training || s.ports[p].resetting
  | .pc n => s.pcs[n].mode == .selfRefresh || s.pcs[n].mode == .retrain
  | .crossing => !s.stack.ready)

/-- The sweeps of a port's full training take 588 dwells from TRN_ACK on (R107, R110). -/
def trainTime (s : State) (r : Region) : State :=
  match r with
  | .port p => s.atLeast (s.links[p].trnAt + 588 * dwellCclk s)
  | _ => s

/-- Full training of a region (R110 to R113): every lane is swept. -/
def fullTrain (s : State) (r : Region) (sweeps : List LaneSweep) : State :=
  let k := regionNo r
  let (failed, s) := trainLanes (trainTime s r) k.val (fullLane k.val) sweeps
  let s := markWrites k.val failed s
  let s := if s.stack.ready then s else { s with train := { s.train with lastFull := true, activity := 1 } }
  let s := setRec s k fun c => { c with due := true, mapDue := true }
  match r with
  | .port p => portTrained s p false (badPositions failed) s.links[p].upBad
  | .pc n => pcTrained s n false (badPositions failed)
  | .crossing => crossingTrained s failed

/-- A region is due for full training (R110): at a start that wiped, or where both copies of its record are bad (R124). -/
def needsFull (s : State) (r : Region) : Bool :=
  (!s.stack.ready && s.start.wiped) || s.train.bad.contains (regionNo r).val

def execFullTraining (r : Region) (sweeps : List LaneSweep) (s : State) : Out :=
  whenDo (trainable s r && handshake s r false && (needsFull s r || (match r with | .port _ => true | _ => false))) s
    (fullTrain s r sweeps)

/-- CAL_RECORD_BAD (R124, R131). Log entry 81. -/
def recordBad (s : State) (r : Region) : State :=
  match r with
  | .port p => raise s (portSrc p 13) 0x0115 sevInfo 1 0
  | .pc n => raise s (pcSrc n.val 11) 0x0120 sevWarn (6 * 256) 0
  | .crossing => s

/-- The stored lane map is loaded, unless the map in force has changed since it was stored (R70, R115). -/
def restoreMap (s : State) (r : Region) (m : List (Option Nat)) : State :=
  if s.train.recs[regionNo r].mapDue then s
  else match r with
    | .port p => s.modPort p fun q => { q with mapDn := mapVec (m.take 4), mapUp := mapVec (m.drop 4) }
    | .pc n => s.modPc n fun c => { c with spares := mapVec m, failedLanes := (m.filterMap id).foldl setInsert c.failedLanes }
    | .crossing => s

/-- The stored values of a lane are loaded, unless an override has moved it (R115, R128). -/
def loadLane (k : Nat) (s : State) (x : Nat × CalLane) : State :=
  let key := laneKey k x.1
  if (laneGet s key).auto.isSome then s
  else laneSet s key { laneGet s key with delay := x.2.delay, thresh := x.2.thresh, target := x.2.delay
                                          threshTarget := x.2.thresh, measured := false }

/-- FAST_RETRAIN for each port lane that got steps 3 and 4 (R115, R131). -/
def fastEvents (s : State) (r : Region) (sweeps failed : List LaneSweep) : State :=
  match r with
  | .port p =>
    (sweeps.filter fun w => decide (w.lane < 72) && !verified w 0).foldl (fun s w =>
      raise s (portSrc p 12) 0x0114 sevNotice w.lane (b2n (failed.any fun f => decide (f.lane = w.lane)))) s
  | _ => s

/-- The record falls due when a value differs from the stored one by more than 4 taps (R125). -/
def checkDrift (s : State) (region lane : Nat) : State :=
  let k : Fin 81 := ⟨region % 81, Nat.mod_lt _ (by decide)⟩
  match useCopy s.train.recs[k] with
  | none => s
  | some c =>
    let x := smGet {} c.lanes lane
    let l := laneGet s (laneKey region lane)
    let v := l.auto.getD (l.delay, l.thresh)
    let far (a b : Nat) : Bool := decide (a + 4 < b) || decide (b + 4 < a)
    if far v.1 x.delay || far v.2 x.thresh then setRec s k fun r => { r with due := true } else s

/-- Both copies of a region's record are bad (R124): it gets full training; a port's handshake starts again. Log entry 81. -/
def needFull (s : State) (r : Region) : State :=
  let s := { s with train := { s.train with bad := setInsert s.train.bad (regionNo r).val } }
  recordBad (match r with
    | .port p => pctlSend (s.modLink p fun l => { l with trn := .started false }) p 0x10 0 true
    | _ => s) r

/-- Fast training of a region (R115): stored values and map are loaded, every lane is verified, and lanes that fail get steps 3
and 4. Log entry 81. -/
def fastTrain (s : State) (r : Region) (sweeps : List LaneSweep) : State :=
  let k := regionNo r
  match useCopy s.train.recs[k] with
  | none => needFull s r
  | some c =>
    let s := { s with train := { s.train with bad := s.train.bad.filter (fun x => decide (x ≠ k.val)) } }
    let s := restoreMap (c.lanes.foldl (loadLane k.val) s) r c.map
    let (failed, s) := trainLanes s k.val (fastLaneOf k.val) sweeps
    let s := markWrites k.val failed s
    let s := fastEvents s r sweeps failed
    let s := sweeps.foldl (fun s w => checkDrift s k.val (sweepPos w)) s
    let s := { s with train := { s.train with activity := if s.stack.ready then s.train.activity else 2 } }
    match r with
    | .port p => portTrained s p true (badPositions failed) s.links[p].upBad
    | .pc n => pcTrained s n true (badPositions failed)
    | .crossing => crossingTrained s failed

def execFastTraining (r : Region) (sweeps : List LaneSweep) (s : State) : Out :=
  whenDo (trainable s r && handshake s r true && (!needsFull s r || (match r with | .port _ => true | _ => false))) s
    (fastTrain s r sweeps)

/-! ### Loss of training (R117) -/

/-- Corrected symbols on 8 different TSV lanes within 10 us. -/
def lanesLost (s : State) (n : Pc) : Bool :=
  decide (8 ≤ (((s.pcs[n].laneCorr.filter fun e => decide (s.now < e.2 + us10)).map (·.1)).eraseDups).length)

/-- Requests are held, the banks go to self-refresh, retraining is due (R117). -/
def trainingLost (s : State) (n : Pc) : State :=
  let s := s.modPc n fun c =>
    { c with mode := .retrain, laneCorr := [], trained := false, retrained := none
             banks := c.banks.map fun b => { b with row := none, debt := 0 } }
  let s := { s with train := { s.train with activity := 3 } }
  raise s (pcSrc n.val 11) 0x0120 sevWarn (4 * 256) 0

def execPcTrainingLost (n : Pc) (lockLost : Bool) (s : State) : Out :=
  whenDo (pcOnline s n && (lockLost || lanesLost s n)) s (trainingLost s n)

/-- ACTIVITY returns to IN_SERVICE when no pseudo-channel retrains. -/
def activityAfter (s : State) : State :=
  if s.stack.ready && !(s.pcs.toList.any fun c => c.mode == .retrain) then
    { s with train := { s.train with activity := 0 } }
  else s

def retrainDone (s : State) (n : Pc) (ok : Bool) : State :=
  if ok then activityAfter ((wakePc s n (s.now + 592)).modPc n fun c => { c with retrained := none })
  else
    let s := raise s (pcSrc n.val 11) 0x0120 sevWarn (5 * 256) 0
    activityAfter (goOffline (s.modPc n fun c => { c with retrained := none }) n)

/-! ### Background calibration (R118 to R122) -/

/-- The region of a receiver, where the reference is valid (R129): Wide Port downstream or TSV. -/
def refRegion (l : LaneRef) : Option Nat :=
  if l.group = 0 ∧ l.index < 16 ∧ l.lane < 72 then some l.index
  else if l.group = 1 ∧ l.index < 64 ∧ l.lane < 74 then some (16 + l.index) else none

/-- Transit tests a lane position: an idle spare of a port's downstream direction, or of a pseudo-channel (R122, R126). -/
def laneTested (s : State) (region lane : Nat) : Bool :=
  if region < 16 then decide (68 ≤ lane) && s.transit.spareTest.contains (region, 0, lane - 68)
  else decide (72 ≤ lane) && s.transit.spareTest.contains (region, 0, lane - 72)

/-- Background calibration of the lane runs (R122). -/
def laneLive (s : State) (region lane : Nat) : Bool :=
  (if region < 16 then
    let q := s.ports[portFin region]
    q.link == .up || q.link == .remap
  else s.pcs[pcFin (region - 16)].mode == .online) && !laneTested s region lane

/-- Eye width in mUI from a run of phase offsets (R119), rounded to the nearest, a half upwards (log entry 84). -/
def eyeWidth (n : Nat) : Nat := (2000 * n + 128) / 256

/-- EYE_MARGIN, once per lane per second (R121, R131). Log entry 89. -/
def eyeMargin (s : State) (region lane w h : Nat) : State :=
  let src := if region < 16 then portSrc (portFin region) 10 else pcSrc (region - 16) 11
  let code := if region < 16 then 0x0112 else 0x0120
  let key := evKey src code + 2 ^ 32 * (lane + 1)
  raiseLim s key 1600000000 src code sevWarn (if region < 16 then lane else lane + 256) (w + h * 1024) 0 false

/-- The longest run of phase offsets without disagreement, the 128 offsets taken as a ring of one UI (R119). Log entry 84. -/
def phaseRun (m : CalMeas) : TapRun :=
  let l := m.phase.take 128 ++ List.replicate (128 - m.phase.length) 0
  let r := widest (l ++ l) 256
  (r.1 % 128, min 128 r.2)

/-- The middle of that run, as a distance from the main sampler. Log entry 84. -/
def phaseOffset (r : TapRun) : Int :=
  let m := (r.1 + r.2 / 2) % 128
  if m ≤ 64 then (m : Int) else (m : Int) - 128

/-- The threshold at which the ones density is 50% (R119): the highest tap with at least half the samples ones; -1 and 64 name a
threshold off either end. Log entry 84. -/
def onesTarget (m : CalMeas) : Int :=
  if m.samples < 2 * m.ones.getD 63 0 then 64
  else match (List.range 64).reverse.find? (fun t => decide (m.samples ≤ 2 * m.ones.getD t 0)) with
    | some t => t
    | none => -1

/-- Threshold taps without disagreement. -/
def heightTaps (m : CalMeas) : Nat := ((List.range 64).filter fun t => decide (m.thresh.getD t 0 = 0)).length

/-- The ones density of a dwell lies outside 49.5% to 50.5% (R120). -/
def onesOff (m : CalMeas) : Bool := decide (1000 * m.main < 495 * m.samples) || decide (505 * m.samples < 1000 * m.main)

/-- 192 dwells: of 10 us each, or, on a TSV lane, of 64,000 received beats (R118, R119). -/
def periodCclk : Nat := 192 * 16000
def periodBeats : Nat := 192 * 64000

/-- Where a lane stands on its period's scale. -/
def periodNow (s : State) (region : Nat) : Nat := if region < 16 then s.now else s.pcs[pcFin (region - 16)].beats

/-- The period of a lane has run its 192 dwells: on a TSV lane its beats have come. -/
def periodFull (s : State) (region lane : Nat) : Bool :=
  decide (region < 16) || decide ((laneGet s (laneKey region lane)).periodAt + periodBeats ≤ periodNow s region)

/-- A measurement period ends (R119, R121). Log entry 89. -/
def calPeriod (s : State) (region lane : Nat) (m : CalMeas) : State :=
  let k := laneKey region lane
  let s := if region < 16 then s.atLeast ((laneGet s k).periodAt + periodCclk) else s
  let l := laneGet s k
  let r := phaseRun m
  let w := eyeWidth r.2
  let h := 4 * heightTaps m
  let below := decide (w < 200) || decide (h < 24)
  let s := laneSet s k { l with target := l.delay + phaseOffset r, threshTarget := onesTarget m, onesOff := onesOff m
                                eyeW := w, eyeH := h, run := r.2, low := if below then min 3 (l.low + 1) else 0
                                measured := true, periodAt := periodNow s region }
  if !below && (decide (w < 250) || decide (h < 32)) then eyeMargin s region lane w h else s

def execCalPeriodEnd (l : LaneRef) (m : CalMeas) (s : State) : Out :=
  match refRegion l with
  | none => .next s
  | some r => whenDo (laneLive s r l.lane && periodFull s r l.lane) s (calPeriod s r l.lane m)

/-- One tap towards a target. -/
def towards (x t : Nat) : Nat := if x < t then x + 1 else if t < x then x - 1 else x

/-- CAL_RAIL (R120, R131). -/
def calRail (s : State) (region lane kind : Nat) : State :=
  if region < 16 then raise s (portSrc (portFin region) 11) 0x0113 sevWarn lane kind
  else raise s (pcSrc (region - 16) 11) 0x0120 sevWarn (lane + 2 * 256) ((laneGet s (laneKey region lane)).eyeW +
    (laneGet s (laneKey region lane)).eyeH * 1024)

/-- A target within a range of taps. -/
def tapWithin (top : Nat) (t : Int) : Nat := min top t.toNat

/-- A correction step (R120): delay and threshold alternate where both are due, the delay first (log entry 89); a target beyond
either end of its range holds the lane at that end. -/
def calStep (s : State) (region lane : Nat) : State :=
  let k := laneKey region lane
  let s := s.atLeast ((laneGet s k).stepAt + us10)
  let l := laneGet s k
  let d := tapWithin 383 l.target
  let t := tapWithin 63 l.threshTarget
  let beyond (top : Int) (x : Int) : Bool := decide (x < 0) || decide (top < x)
  let dDue := decide (l.delay ≠ d)
  let tDue := l.onesOff && decide (l.thresh ≠ t)
  if dDue && !(tDue && l.lastWasDelay) then
    let s := laneSet s k { l with delay := towards l.delay d, steps := satAdd 0xFFFFFFFF l.steps 1
                                  stepAt := s.now, lastWasDelay := true }
    -- the write direction of a TSV lane receives each delay step of its read direction
    let s := if 16 ≤ region then
        let kw := laneKey region (lane + 74)
        let w := laneGet s kw
        laneSet s kw { w with delay := if l.delay < d then min 383 (w.delay + 1) else w.delay - 1 }
      else s
    checkDrift s region lane
  else if tDue then
    checkDrift (laneSet s k { l with thresh := towards l.thresh t, stepAt := s.now
                                     steps := satAdd 0xFFFFFFFF l.steps 1, lastWasDelay := false }) region lane
  else if beyond 383 l.target then calRail (laneSet s k { l with stepAt := s.now }) region lane 0
  else if l.onesOff && beyond 63 l.threshTarget then calRail (laneSet s k { l with stepAt := s.now }) region lane 1
  else s

def execCalStep (l : LaneRef) (s : State) : Out :=
  match refRegion l with
  | none => .next s
  | some r =>
    whenDo (laneLive s r l.lane && (laneGet s (laneKey r l.lane)).measured && !(laneGet s (laneKey r l.lane)).overridden) s
      (calStep s r l.lane)

/-! ### Overrides (R127, R128) -/

/-- A lane selection: group, index, lane (R129). -/
def selOf (v : Nat) : LaneRef := ⟨bitsOf v 0 2, bitsOf v 2 8, bitsOf v 10 7⟩

/-- Override entry i names a lane now: enabled, in EXPERT, in range. -/
def ovrLane (s : State) (i : Nat) : Option (Nat × Nat) :=
  let v := csrGet s (0x0F0200 + 8 * i)
  if expert s 0x0F0000 && v.testBit 17 then (refRegion (selOf v)).map fun r => (r, (selOf v).lane) else none

/-- A lower entry names the same lane (R127). -/
def ovrShadowed (s : State) (i : Nat) : Bool := (List.range i).any fun j => decide (ovrLane s j = ovrLane s i) && (ovrLane s i).isSome

/-- OVERRIDE (R127, R131); of a TSV lane on port 0's source. Log entry 97. -/
def ovrEvent (s : State) (region i v : Nat) : State :=
  if region < 16 then raise s (portSrc (portFin region) 14) 0x0116 sevNotice i v else raise s (portSrc 0 14) 0x0116 sevNotice i v

/-- One tap towards the override values; when reached, the override is in force. -/
def ovrStep (s : State) (i region lane : Nat) : State :=
  let k := laneKey region lane
  let s := s.atLeast ((laneGet s k).stepAt + us10)
  let l := laneGet s k
  let v := csrGet s (0x0F0204 + 8 * i)
  let d := min 383 (bitsOf v 0 9)
  let t := bitsOf v 9 6
  let l := { l with auto := some (l.auto.getD (l.delay, l.thresh)) }
  let l' := if l.delay ≠ d then { l with delay := towards l.delay d, stepAt := s.now }
    else { l with thresh := towards l.thresh t, stepAt := s.now }
  let at_ := decide (l'.delay = d) && decide (l'.thresh = t)
  let s := laneSet s k { l' with overridden := at_ || l.overridden }
  if at_ && !l.overridden then ovrEvent s region i 0 else s

def execOverrideStep (entry : Fin 64) (s : State) : Out :=
  match ovrLane s entry.val with
  | none => .next s
  | some (r, lane) =>
    whenDo (!ovrShadowed s entry.val && !(laneGet s (laneKey r lane)).failed) s (ovrStep s entry.val r lane)

/-! ### Records (R123 to R125) -/

/-- Ten minutes. -/
def tenMinutes : Nat := 960000000000

/-- What a rewrite stores: generation + 1, in 32 bits. -/
def newCopy (s : State) (k : Fin 81) : CalCopy :=
  let r := s.train.recs[k]
  let c : CalCopy := { gen := (if r.a.gen < r.b.gen then r.b.gen else r.a.gen) + 1, lanes := regionLanes s k, map := regionMap s k }
  { c with crc := calCrc c }

/-- The copy written first: the one that fails its check, or the one with the lower generation (R125). -/
def firstIsB (r : CalRec) : Bool := r.a.ok && (!r.b.ok || decide (r.b.gen < r.a.gen))

/-- Both copies are written in turn; the first is read back before the other is written (R125). -/
def rewriteRecord (s : State) (k : Fin 81) : State :=
  let r := s.train.recs[k]
  let s := if r.mapDue ∨ r.rewrittenAt = 0 then s else s.atLeast (r.rewrittenAt + tenMinutes)
  let c := newCopy s k
  let one (r : CalRec) : CalRec := if firstIsB r then { r with b := c } else { r with a := c }
  let both (r : CalRec) : CalRec := { r with a := c, b := c, due := false, mapDue := false, rewrittenAt := s.now }
  let s := setRec s k one
  let s := if (if firstIsB r then s.train.recs[k].b else s.train.recs[k].a).ok then setRec s k both else s
  let s := { s with train := { s.train with rewrites := satAdd 0xFFFF s.train.rewrites 1 } }
  if k.val < 16 then raise s (portSrc (portFin k.val) 13) 0x0115 sevInfo 0 c.gen.toNat else s

def execCalRecordRewrite (rec : Fin 81) (s : State) : Out :=
  whenDo (s.train.recs[rec].due && keeperUp s && !s.power.failing) s (rewriteRecord s rec)

/-! ### The query registers (R130) -/

/-- QUAL, QPOS and QCORR of the selection; an eye height of 256 mV does not fit EYE_H and reads 0 there.
Log entries 73, 84. -/
def qualOf (s : State) : Nat × Nat × Nat :=
  let l := selOf (csrGet s 0x0F0010)
  if l.group = 2 ∧ l.index < 256 then
    let x := laneGet s (laneKey 80 l.index)
    (8 * x.run % 1024, x.delay, 0)
  else
    match refRegion l with
    | none => (0, 0, 0)
    | some r =>
      let x := laneGet s (laneKey r l.lane)
      let used :=
        if r < 16 then
          let m := s.ports[portFin r].mapDn
          if l.lane < 68 then !m.toList.contains (some l.lane) else ((m.toList).getD (l.lane - 68) none).isSome && !x.failed
        else
          let m := s.pcs[pcFin (r - 16)].spares
          if l.lane < 72 then !m.toList.contains (some l.lane) else ((m.toList).getD (l.lane - 72) none).isSome && !x.failed
      (x.eyeW % 1024 + x.eyeH % 256 * 1024 + x.thresh % 64 * 2 ^ 18,
       x.delay % 512 + b2n x.overridden * 512 + b2n x.failed * 1024 + b2n used * 2048, x.steps)

/-- Latch the three registers. Log entry 72. -/
def qualLatch (s : State) : State :=
  let (q, p, c) := qualOf s
  csrSet { s with train := { s.train with qual := BitVec.ofNat 32 q, qpos := BitVec.ofNat 32 p } } 0x0F001C c

end Sys2Proof.Machine
end

