-- ==== Sys2Proof/Machine/Wetex.lean ====
section
/-! DEFINITION. The Wetex engine (10): rings and doorbells, fetch, dispatch, completion records, the data opcodes, epoch advances,
Tidemark exports and clears, journal reads, pseudo-channel state changes. -/

namespace Sys2Proof.Machine

/-! ### Rings (R295 to R299) -/

def wxReg (r off : Nat) : Nat := 0x091000 + 0x40 * r + off
def wxSqBase (s : State) (r : Nat) : Nat := csrGet s (wxReg r 0) + csrGet s (wxReg r 4) * 2 ^ 32
def wxCqBase (s : State) (r : Nat) : Nat := csrGet s (wxReg r 8) + csrGet s (wxReg r 12) * 2 ^ 32
def wxSqSize (s : State) (r : Nat) : Nat := 2 ^ csrFld s (wxReg r 0x10) 0 4
def wxCqSize (s : State) (r : Nat) : Nat := 2 ^ csrFld s (wxReg r 0x10) 4 4
def wxOrdered (s : State) (r : Nat) : Bool := csrFld s (wxReg r 0x10) 8 1 == 1

/-- Events of a pair's error source. -/
def wxErr (s : State) (r : Nat) (code sev a0 a1 : Nat) : State := raise s (1281 + 2 * r) code sev a0 a1

/-- A value of `WETEX.RING[r].CFG` and the bases allow enabling (R296). -/
def wxCfgOk (s : State) (r : Nat) : Bool :=
  let l (lo : Nat) := csrFld s (wxReg r 0x10) lo 4
  decide (4 ≤ l 0) && decide (l 0 ≤ 12) && decide (4 ≤ l 4) && decide (l 4 ≤ 12) &&
  decide (wxSqBase s r % 4096 = 0) && decide (wxCqBase s r % 4096 = 0) &&
  hostUsable (wxSqBase s r) (64 * wxSqSize s r) && hostUsable (wxCqBase s r) (32 * wxCqSize s r)

/-- Leave DRAINING or STOPPED once no descriptor of the pair is active (R297). -/
def wxSettle (s : State) (r : Fin 64) : State :=
  let q := s.wetex.rings[r]
  let en := csrFld s (wxReg r.val 0x10) 10 1 = 1
  if q.act.isEmpty ∧ (q.st = .draining ∨ (q.st = .stopped ∧ ¬ en)) then
    wxModRing s r fun q => { q with st := .disabled, stop := 0 }
  else s

/-- A write to `WETEX.RING[r].CFG` (R296, R297). -/
def writeWxCfg (s : State) (r : Fin 64) (v : Nat) : State :=
  let a := wxReg r.val 0x10
  let q := s.wetex.rings[r]
  if q.st = .disabled then
    let s := csrSet s a (v % 2 ^ 10)
    if v.testBit 10 then
      if wxCfgOk s r.val then
        wxModRing (csrSet s a (v % 2 ^ 11)) r fun q =>
          { q with st := .active, sqHead := 0, sqTail := 0, cqHead := 0, cqTail := 0, phase := true, unfreed := 0, stop := 0
                   last := 0 }
      else wxErr s r.val 0x0504 sevWarn 0x10 v
    else s
  else if v.testBit 10 then s
  else
    let s := csrSet s a (putBits (csrGet s a) 10 1 0)
    let s := if q.st = .active then wxModRing s r fun q => { q with st := .draining } else s
    wxSettle s r

/-- DOORBELL_BAD (R298, R326). -/
def doorbellBad (s : State) (r : Nat) (which v : Nat) : State := wxErr s r 0x0503 sevWarn which v

/-- An SQ tail doorbell (R298, R299). -/
def sqDoorbell (s : State) (r : Fin 64) (v : Nat) : State :=
  let i := v % 4096
  if s.wetex.rings[r].st ≠ .active then s
  else if i < wxSqSize s r.val then wxModRing s r fun q => { q with sqTail := i }
  else doorbellBad s r.val 0 v

/-- A CQ head doorbell (R298). -/
def cqDoorbell (s : State) (r : Fin 64) (v : Nat) : State :=
  let i := v % 4096
  let n := wxCqSize s r.val
  let q := s.wetex.rings[r]
  if q.st ≠ .active then s
  else if i < n ∧ (i + n - q.cqHead) % n ≤ q.unfreed then
    wxModRing s r fun q => { q with cqHead := i, unfreed := q.unfreed - (i + n - q.cqHead) % n }
  else doorbellBad s r.val 1 v

/-- A write to `WETEX.CTL` (R324): SHARE is brought into 1 to 100. -/
def writeWxCtl (s : State) (v : Nat) : State :=
  let sh := v % 128
  let use := if sh = 0 then 1 else min 100 sh
  let s := csrSet s 0x090000 (use + bitsOf v 7 1 * 128)
  if use = sh then s else raise s 1281 0x0504 sevWarn 0 v

/-! ### Fetch (R305, R314, R318, R320, R322) -/

/-- Descriptors active stack-wide. -/
def wxActive (s : State) : Nat := (s.wetex.rings.toList.map fun q => q.act.length).sum

/-- The engine works: levels 3 to 5 are in service, no power failure is under way, no low state (R321, R407).
Log entry 48. -/
def engineRuns (s : State) : Bool :=
  s.stack.ready && s.power.phase == .service && !s.power.failing && flood s &&
  !s.pcs.toList.any fun c => c.mode == .retrain || c.mode == .tsvSwitch

/-- BODY of a DESC_FETCH entry, and of the first part of DESC_DONE (R336). -/
def descBody (r : Nat) (d : WxDesc) : Nat :=
  bodyAt 24 r + bodyAt 25 d.idx + bodyAt 27 d.opc + bodyAt 28 d.userTag
    + (if d.bad then 0 else bodyAt 32 d.adrA + bodyAt 40 d.len)

/-- A pair stops (R320). Log entry 38. -/
def wxStop (s : State) (r : Fin 64) (why : Nat) : State :=
  let q := s.wetex.rings[r]
  let s := wxModRing s r fun q => { q with st := .stopped, stop := why }
  raiseJ s (1281 + 2 * r.val) 0x0502 sevError why (q.sqHead + q.cqTail * 65536)

/-- The next descriptor of a pair is fetched. Log entry 39. -/
def wxFetch (s : State) (r : Fin 64) : State :=
  let q := s.wetex.rings[r]
  let blk := wxSqBase s r.val / 64 + q.sqHead
  if !blkOnline s blk then wxSettle (wxStop s r 1) r
  else
    let (st, b, s) := readNow (wxRequest s blk) blk 3
    let bad := decide (st = stPoison) || decide (st = stUncorr)
    let d : WxDesc := { idx := q.sqHead, desc := if bad then 0 else b, bad := bad,
                        fin := if bad then some (wxDescErr, 0, 0) else none }
    let s := wxModRing s r fun q => { q with sqHead := (q.sqHead + 1) % wxSqSize s r.val, act := q.act ++ [d] }
    journal s 0x0001 (1280 + 2 * r.val) (descBody r.val d)

def execDescFetch (r : Fin 64) (s : State) : Out :=
  let q := s.wetex.rings[r]
  whenDo (engineRuns s && !s.therm.shut && q.st == .active && decide (q.sqHead ≠ q.sqTail) && decide (wxActive s < 1024) &&
    decide (q.act.length + q.unfreed < wxCqSize s r.val)) s (wxFetch s r)

/-! ### Checks and dispatch (R302, R314 to R316) -/

/-- Opcodes that need the Keeper (R308). -/
def needsKeeper (opc : Nat) : Bool := [0x0B, 0x10, 0x11, 0x12, 0x13, 0x14, 0x15, 0x17].contains opc

/-- Opcodes the table of R308 lists. -/
def opcListed (opc : Nat) : Bool :=
  (decide (1 ≤ opc) && decide (opc ≤ 0x0D)) || (decide (0x10 ≤ opc) && decide (opc ≤ 0x18)) || decide (opc = 0x1F)

/-- Ranges of a descriptor: byte address and length in blocks. -/
def descRanges (d : WxDesc) : List (Nat × Nat) :=
  match d.opc with
  | 0x01 | 0x04 => [(d.adrA, d.len), (d.adrB, d.len)]
  | 0x02 | 0x03 | 0x05 | 0x06 | 0x07 | 0x0C | 0x0D => [(d.adrA, d.len)]
  | 0x09 => [(d.adrA, 3072)]
  | 0x10 => [(d.adrB, d.len)]
  | _ => []

/-- Two ranges of `n` blocks overlap. -/
def overlaps (a b n : Nat) : Bool := decide (a < b + 64 * n) && decide (b < a + 64 * n)

/-- The longest LEN of an opcode with a range. -/
def lenMax (opc : Nat) : Nat :=
  if opc = 0x0D then 65536 else if opc = 0x10 then 32768 else 67108864

/-- Check 2 of R302. -/
def paramBad (s : State) (d : WxDesc) : Bool :=
  (descRanges d).any (fun x => decide (x.1 % 64 ≠ 0)) ||
  (match d.opc with
   | 0x09 => !(decide (d.len = 0) || decide (d.len = 3072)) || decide (d.adrA % 4096 ≠ 0)
   | 0x0A =>
     let g := bitsOf (d.opd 1) 0 21
     let n := bitsOf (d.opd 2) 0 22
     decide (n = 0) || decide (1572864 < g + n)
   | 0x0C =>
     let w := d.opd 0 % 64
     decide (d.len = 0) || decide (lenMax 0x0C < d.len) ||
     !(decide (winBase s w * 65536 ≤ d.adrA) && decide (d.adrA + 64 * d.len ≤ (winBase s w + winLen s w) * 65536))
   | 0x11 => decide (d.opd 0 % 4 = 3)
   | 0x13 => decide (d.opd 0 % 4 = 3)
   | o => !(descRanges d).isEmpty && (decide (d.len = 0) || decide (lenMax o < d.len))) ||
  (match d.opc with
   | 0x01 | 0x04 => overlaps d.adrA d.adrB d.len
   | _ => false)

/-- Checks 1 to 3 of R302: 0 passed, else the status. Log entry 39. -/
def descCheck (s : State) (d : WxDesc) : Nat :=
  if !opcListed d.opc || ((d.opc == 0x0B || d.opc == 0x0C) && !chrosyOn s) then wxUnsup
  else if paramBad s d then wxParam
  else if (descRanges d).any (fun x => !hostUsable x.1 (64 * x.2)) then wxAddr
  else 0

/-- The pair's next descriptor to dispatch. -/
def nextDesc (q : WxRing) : Option WxDesc := q.act.find? fun d => d.disp.isNone && !d.bad

/-- A FENCE of the pair has been dispatched and has not completed (R315). -/
def fenceHolds (q : WxRing) : Bool := q.act.any fun d => decide (d.opc = 0x1F) && d.disp.isSome && d.fin.isNone

/-- An EPOCH_ADVANCE has been dispatched and has not executed (R316). -/
def epochWait (s : State) : Bool :=
  s.wetex.rings.toList.any fun q => q.act.any fun d => decide (d.opc = 8) && d.disp.isSome && d.fin.isNone

/-- Opcodes that write memory. -/
def writesMem (opc : Nat) : Bool := [0x01, 0x02, 0x05, 0x06, 0x07, 0x09, 0x0C, 0x0D].contains opc

/-- Every dispatched descriptor has its writes in the drain domain. -/
def wxQuiet (s : State) : Bool :=
  s.wetex.rings.toList.all fun q => q.act.all fun d => d.disp.isNone || d.fin.isSome || !writesMem d.opc

/-- The pair has a descriptor that may be dispatched. -/
def eligible (s : State) (r : Fin 64) : Bool :=
  match nextDesc s.wetex.rings[r] with
  | none => false
  | some d => !fenceHolds s.wetex.rings[r] && (decide (d.opc ≠ 8) || wxQuiet s)

/-- The pair served next: the first eligible one after the pointer. Log entry 49. -/
def nextPair (s : State) : Option (Fin 64) :=
  ((List.range 64).map fun i => (⟨(s.wetex.rr + 1 + i) % 64, Nat.mod_lt _ (by decide)⟩ : Fin 64)).find? (eligible s)

/-- A descriptor is checked and dispatched. Log entry 39. -/
def wxDispatch (s : State) (r : Fin 64) (d : WxDesc) : State :=
  let st := descCheck s d
  let ord := s.wetex.order
  let s := { s with wetex := { s.wetex with rr := r.val, order := ord + 1 } }
  wxMod s r d.idx fun d =>
    { d with disp := some ord, tag := engineTag s, fin := if st = 0 then none else some (st, 0, 0) }

def execDescDispatch (s : State) : Out :=
  match nextPair s with
  | none => .next s
  | some r =>
    match nextDesc s.wetex.rings[r] with
    | none => .next s
    | some d => whenDo (engineRuns s && csrFld s 0x090000 7 1 == 0 && !epochWait s) s (wxDispatch s r d)

/-! ### Completion records (R303 to R305, R307, R322) -/

/-- A descriptor's STATUS in its record (R307): MIRROR_FAIL where a SYNC write failed and no lower code outranks it. -/
def finStatus (d : WxDesc) (st : Nat) : Nat := if d.mfail && decide (st ≤ 4) then 5 else st

/-- The record (R303). -/
def complRecord (d : WxDesc) (ssn res st det sqHead : Nat) (phase : Bool) : BitVec 256 :=
  BitVec.ofNat 256 (ssn % 2 ^ 64 + (res % 2 ^ 64) * 2 ^ 64 + d.userTag * 2 ^ 128 + (d.idx + b2n phase * 2 ^ 15) * 2 ^ 160
    + sqHead * 2 ^ 176 + d.opc * 2 ^ 192 + st * 2 ^ 200 + (det % 2 ^ 48) * 2 ^ 208)

/-- The descriptor leaves the active list. -/
def wxDrop (s : State) (r : Fin 64) (idx : Nat) : State :=
  wxModRing s r fun q => { q with act := q.act.filter fun d => decide (d.idx ≠ idx) }

/-- The DESC_DONE entry. -/
def descDone (s : State) (r : Fin 64) (d : WxDesc) (st res det : Nat) : State :=
  journal s 0x0002 (1280 + 2 * r.val) (descBody r.val { d with desc := d.desc &&& BitVec.ofNat 512 (2 ^ 64 - 1) }
    + bodyAt 32 st + bodyAt 40 (res % 2 ^ 64) + bodyAt 48 (det % 2 ^ 48))

/-- Events of a completion (R326). -/
def complEvents (s : State) (r : Fin 64) (d : WxDesc) (st ssn : Nat) : State :=
  let s := if d.notify || csrFld s (wxReg r.val 0x10) 9 1 == 1 then
      raiseLim s (evKey (1280 + 2 * r.val) 0x0500) 1600 (1280 + 2 * r.val) 0x0500 sevInfo
        (s.wetex.rings[r].cqTail + (ssn % 2 ^ 48) * 65536) 0 1 false
    else s
  if 0x10 ≤ st then
    raiseLim s (evKey (1281 + 2 * r.val) 0x0501) 1600 (1281 + 2 * r.val) 0x0501 sevWarn (d.idx + d.opc * 65536 + st * 2 ^ 24) 0 1
      false
  else s

/-- A descriptor's completion record is journalled and written, or discarded on a stopped pair. Log entry 38. -/
def complete (s : State) (r : Fin 64) (d : WxDesc) (st res det : Nat) : State :=
  let q := s.wetex.rings[r]
  let blk := (wxCqBase s r.val + 32 * q.cqTail) / 64
  if q.st = .stopped then wxSettle (wxDrop s r d.idx) r
  else if !blkOnline s blk then wxSettle (wxDrop (wxStop s r 2) r d.idx) r
  else
    let ssn := s.seq.next
    let s := descDone s r d st res det
    let w := complRecord d ssn res st det q.sqHead q.phase
    let filler : BitVec 256 := BitVec.ofNat 256 (b2n (!q.phase) * 2 ^ 175)
    let s := (engineWriteAs (wxRequest s blk) blk (halfBlock q.cqTail w q.last filler) false (some d.tag) true).2
    let n := wxCqSize s r.val
    let s := wxModRing s r fun q =>
      { q with cqTail := (q.cqTail + 1) % n, phase := if q.cqTail + 1 = n then !q.phase else q.phase
               unfreed := q.unfreed + 1, last := if q.cqTail % 2 = 0 then w else q.last }
    let s := bump 0x090010 1 s
    let s := if 0x10 ≤ st then bump 0x090014 1 s else s
    wxSettle (complEvents (wxDrop s r d.idx) r d st ssn) r

/-- An active descriptor. -/
def wxGet (s : State) (r : Fin 64) (idx : Nat) : Option WxDesc := s.wetex.rings[r].act.find? fun d => decide (d.idx = idx)

/-- The record may be written now: the end is reached, SYNC writes are acknowledged, an ORDERED pair's turn has come.
Log entry 38. -/
def recordReady (s : State) (r : Fin 64) (d : WxDesc) : Bool :=
  d.fin.isSome && d.waits.isEmpty &&
  (!wxOrdered s r.val || (match s.wetex.rings[r].act with | e :: _ => decide (e.idx = d.idx) | [] => false))

def execCompletionRecord (r : Fin 64) (sqIdx : Nat) (s : State) : Out :=
  match wxGet s r sqIdx with
  | none => .next s
  | some d =>
    match d.fin with
    | none => .next s
    | some (st, res, det) => whenDo (engineRuns s && !s.therm.shut && recordReady s r d) s (complete s r d (finStatus d st) res det)

/-! ### Running a descriptor -/

/-- No Keeper-marked descriptor dispatched earlier waits to start (R317). Log entry 47. -/
def keeperTurn (s : State) (d : WxDesc) : Bool :=
  s.wetex.rings.toList.all fun q => q.act.all fun e =>
    !(needsKeeper e.opc && e.fin.isNone && !e.running) ||
    (match e.disp, d.disp with | some x, some y => decide (y ≤ x) | _, _ => true)

/-- The descriptor may start: dispatched, not ended, not started; a Keeper-marked one when the Keeper runs (R317).
Log entries 47, 48. -/
def wxReady (s : State) (d : WxDesc) (opc : Nat) : Bool :=
  engineRuns s && decide (d.opc = opc) && d.disp.isSome && d.fin.isNone && !d.running &&
  (!needsKeeper opc || (keeperUp s && keeperTurn s d))

/-- Run a descriptor. Log entries 18, 48. -/
def wxRun (opc : Nat) (r : Fin 64) (idx : Nat) (s : State) (f : WxDesc → State) : Out :=
  match wxGet s r idx with
  | none => .next s
  | some d => whenDo (wxReady s d opc) s (f d)

/-- A walk over a range: the state, blocks done, the highest status seen, two counts, a value under way, the end where the walk
has stopped, and what SYNC writes are awaited. -/
structure Scan where
  s : State
  n : Nat := 0
  st : Nat := 0
  c1 : Nat := 0
  c2 : Nat := 0
  out : Nat := 0
  halt : Option (Nat × Nat × Nat) := none
  waits : List (Nat × Nat) := []
  mfail : Bool := false

/-- Walk `n` blocks, until stopped. Log entry 18. -/
def scan (s : State) (init n : Nat) (f : Scan → Nat → Scan) : Scan :=
  (List.range n).foldl (fun a i => if a.halt.isSome then a else f a i) { s := s, out := init }

/-- A block on an offline pseudo-channel stops the walk (R307). -/
def scanOffline (a : Scan) (i res : Nat) : Scan := { a with halt := some (wxOffline, res, i) }

/-- Read a block: UNWRITTEN is zero data with OK (R309). -/
def scanRead (a : Scan) (blk : Nat) : Nat × Block × Scan :=
  let (st, b, s) := readNow (wxRequest a.s blk) blk 3
  let st := if st = stUnwritten then stOk else st
  (st, b, { a with s := s, st := max a.st (if st = stCorr then 1 else if st = stPoison then 2 else if st = stUncorr then 3 else 0) })

/-- Write a block as an engine write with the descriptor's tag. Log entries 18, 40. -/
def scanWrite (d : WxDesc) (a : Scan) (blk : Nat) (b : Block) (poisoned : Bool) : Scan :=
  let win := ((windowOf a.s blk).map (·.val)).getD 0
  let (m, s) := engineWriteAs (wxRequest a.s blk) blk b poisoned (some d.tag) true
  match m with
  | none => { a with s := s }
  | some none => { a with s := s, mfail := true }
  | some (some q) => { a with s := s, waits := a.waits ++ [(win, q)] }

/-- The descriptor ends as its walk did. SYNC writes whose window has diverged meanwhile have failed. Log entry 41. -/
def scanEnd (r : Fin 64) (d : WxDesc) (a : Scan) (res det : Nat) : State :=
  let (st, res, det) := a.halt.getD (a.st, res, det)
  let open_ := a.waits.filter fun x => a.s.mirror.outs.any fun o => decide (o.win = x.1 ∧ o.wseq = x.2)
  wxMod a.s r d.idx fun d =>
    { d with fin := some (st, res, det), waits := open_
             mfail := a.mfail || decide (open_.length ≠ a.waits.length) }

/-- Saturation of a 24-bit count. -/
def sat24 (n : Nat) : Nat := min 0xFFFFFF n

/-! ### Data opcodes (R308 to R311) -/

def copyStep (d : WxDesc) (a : Scan) (i : Nat) : Scan :=
  let src := d.adrB / 64 + i
  let dst := d.adrA / 64 + i
  if !blkOnline a.s src || !blkOnline a.s dst then scanOffline a i a.n
  else
    let (st, b, a) := scanRead a src
    let bad := decide (st = stPoison) || decide (st = stUncorr)
    let a := scanWrite d a dst b bad
    { a with n := a.n + 1, c1 := if st = stCorr then a.c1 + 1 else a.c1, c2 := if bad then a.c2 + 1 else a.c2 }

def execCopy (r : Fin 64) (idx : Nat) (s : State) : Out :=
  wxRun 0x01 r idx s fun d =>
    let a := scan s 0 d.len (copyStep d)
    scanEnd r d a a.n (sat24 a.c1 + sat24 a.c2 * 2 ^ 24)

/-- Write a fixed block over the range. -/
def fillStep (d : WxDesc) (b : Block) (a : Scan) (i : Nat) : Scan :=
  let blk := d.adrA / 64 + i
  if !blkOnline a.s blk then scanOffline a i a.n else
  let a := scanWrite d a blk b false
  { a with n := a.n + 1 }

/-- Byte i of the block is byte i mod 8 of the pattern. -/
def patternBlock (p : Nat) : Block := BitVec.ofNat 512 (((List.range 8).map fun k => p * 2 ^ (64 * k)).sum)

def execFill (r : Fin 64) (idx : Nat) (s : State) : Out :=
  wxRun 0x02 r idx s fun d =>
    let a := scan s 0 d.len (fillStep d (patternBlock (d.opd 0)))
    scanEnd r d a a.n 0

def execZero (r : Fin 64) (idx : Nat) (s : State) : Out :=
  wxRun 0x05 r idx s fun d =>
    let a := scan s 0 d.len (fillStep d 0)
    scanEnd r d a a.n 0

/-- DATA_STOP at a block that reads POISON or UNCORR. -/
def dataStop (a : Scan) (i : Nat) : Scan := { a with halt := some (6, a.out, i) }

/-- CRC-64/ECMA-182 over bytes (R310). -/
def crc64 (c : Nat) (bs : List Nat) : Nat := crcMsb 64 0x42F0E1EBA9EA3693 c bs

def crcStep (d : WxDesc) (a : Scan) (i : Nat) : Scan :=
  let blk := d.adrA / 64 + i
  if !blkOnline a.s blk then scanOffline a i a.out
  else
    let (st, b, a) := scanRead a blk
    if st = stPoison ∨ st = stUncorr then dataStop a i
    else { a with n := a.n + 1, out := crc64 a.out (blockBytes b) }

def execCrc64 (r : Fin 64) (idx : Nat) (s : State) : Out :=
  wxRun 0x03 r idx s fun d =>
    let a := scan s (d.opd 0) d.len (crcStep d)
    scanEnd r d a a.out 0

/-- The first byte at which two blocks differ. -/
def firstDiff (x y : Block) : Option Nat :=
  (List.range 64).find? fun i => decide (bitsOf x.toNat (8 * i) 8 ≠ bitsOf y.toNat (8 * i) 8)

def compareStep (d : WxDesc) (a : Scan) (i : Nat) : Scan :=
  let x := d.adrA / 64 + i
  let y := d.adrB / 64 + i
  if !blkOnline a.s x || !blkOnline a.s y then scanOffline a i 0
  else
    let (sx, bx, a) := scanRead a x
    let (sy, bz, a) := scanRead a y
    if sx = stPoison ∨ sx = stUncorr ∨ sy = stPoison ∨ sy = stUncorr then dataStop a i
    else match firstDiff bx bz with
      | some k => { a with halt := some (4, 64 * i + k, 0) }
      | none => { a with n := a.n + 1 }

def execCompare (r : Fin 64) (idx : Nat) (s : State) : Out :=
  wxRun 0x04 r idx s fun d => scanEnd r d (scan s 0 d.len (compareStep d)) 0 0

/-- Read a block of a range that is scrubbed: written back corrected, or poisoned (R309). -/
def scrubStep (d : WxDesc) (a : Scan) (i : Nat) : Scan :=
  let blk := d.adrA / 64 + i
  if !blkOnline a.s blk then scanOffline a i a.n
  else
    let s := wxRequest a.s blk
    if s.dram.freshActive && !pageWritten s blk then { a with s := s, n := a.n + 1 }
    else
      let (f, id, s) := engineRead s blk
      let s := afterRead s blk id 3 f true
      let st := f.dec.status
      let s := if st = stCorr then
          derive s { blk := blk, readId := id, data := f.dec.data, poison := false, finder := 3 } else s
      { a with s := s, n := a.n + 1
               st := max a.st (if st = stCorr then 1 else if st = stPoison then 2 else if st = stUncorr then 3 else 0)
               c1 := if st = stCorr then a.c1 + 1 else a.c1, c2 := if st = stUncorr then a.c2 + 1 else a.c2 }

def execScrubRange (r : Fin 64) (idx : Nat) (s : State) : Out :=
  wxRun 0x06 r idx s fun d =>
    let a := scan s 0 d.len (scrubStep d)
    scanEnd r d a a.n (sat24 a.c1 + sat24 a.c2 * 2 ^ 24)

/-- Rewrite a block that reads POISON or UNCORR as zero (R309). Log entry 41. -/
def clearStep (d : WxDesc) (a : Scan) (i : Nat) : Scan :=
  let blk := d.adrA / 64 + i
  if !blkOnline a.s blk then scanOffline a i a.n
  else
    let s := wxRequest a.s blk
    if s.dram.freshActive && !pageWritten s blk then { a with s := s }
    else
      let (f, id, s) := engineRead s blk
      let st := f.dec.status
      if st = stPoison then { scanWrite d { a with s := s } blk 0 false with n := a.n + 1, st := max a.st 2 }
      else if st = stUncorr then
        let s := bump (pcReg (coordOf s.dram.mapActive blk).pc 0x064) 1 s
        { scanWrite d { a with s := s } blk 0 false with n := a.n + 1 }
      else { a with s := afterRead s blk id 3 f false }

def execPoisonClear (r : Fin 64) (idx : Nat) (s : State) : Out :=
  wxRun 0x07 r idx s fun d =>
    let a := scan s 0 d.len (clearStep d)
    scanEnd r d a a.n 0

/-! ### Epochs and Tidemark (R285, R286, R316) -/

/-- EPOCH_ADVANCE: refused, held, or executed. -/
def advance (s : State) (r : Fin 64) (d : WxDesc) : State :=
  let v := d.opd 0
  if !isMember s 16 then wxEnd s r d.idx wxRefused 0 2
  else if v ≠ s.epochs.cur[16] + 1 then wxEnd s r d.idx wxRefused 0 1
  else if boundaryHeld s v then
    wxMod { s with epochs := { s.epochs with engHeld := some (v, s.now), engStalled := false } } r d.idx
      fun d => { d with running := true }
  else wxEnd (passBoundary s 16 v) r d.idx 0 v 0

def execEpochAdvance (r : Fin 64) (idx : Nat) (s : State) : Out := wxRun 0x08 r idx s fun d => advance s r d

/-- The EPOCH_ADVANCE that is held. -/
def heldAdvance (s : State) : Option (Fin 64 × WxDesc) :=
  (List.finRange 64).findSome? fun r =>
    (s.wetex.rings[r].act.find? fun d => decide (d.opc = 8) && d.running).map fun d => (r, d)

/-- ENGINE's held boundary is released (R275). -/
def releaseEngine (s : State) : State :=
  match s.epochs.engHeld, heldAdvance s with
  | some (v, _), some (r, d) =>
    wxEnd (passBoundary { s with epochs := { s.epochs with engHeld := none, engStalled := false } } 16 v) r d.idx 0 v 0
  | _, _ => s

/-- Why an epoch's export is refused: 3 open, 4 not retained; 0 not refused. -/
def exportRefused (s : State) (e : Nat) : Nat :=
  if epochOpen s e then 3 else if epochRetained s e then 0 else 4

def exportStep (d : WxDesc) (bits : Nat) (a : Scan) (i : Nat) : Scan :=
  let blk := d.adrA / 64 + i
  if !blkOnline a.s blk then scanOffline a i 0
  else
    let b : Block := BitVec.ofNat 512 (bitsOf bits (512 * i) 512)
    let win := ((windowOf a.s blk).map (·.val)).getD 0
    let (m, s) := engineWriteAs (wxRequest a.s blk) blk b false none true
    let a := { a with s := s, n := a.n + 1 }
    match m with
    | none => a
    | some none => { a with mfail := true }
    | some (some q) => { a with waits := a.waits ++ [(win, q)] }

def tidemarkExport (s : State) (r : Fin 64) (d : WxDesc) : State :=
  let cum := (d.opd 1).testBit 0
  let why := if cum then 0 else exportRefused s (d.opd 0)
  if why ≠ 0 then wxEnd s r d.idx wxRefused 0 why
  else
    let bits := if cum then s.epochs.cum else epochBits s (d.opd 0)
    scanEnd r d (scan s 0 3072 (exportStep d bits)) (popc 21 bits) 0

def execTidemarkExport (r : Fin 64) (idx : Nat) (s : State) : Out := wxRun 0x09 r idx s fun d => tidemarkExport s r d

def tidemarkClear (s : State) (r : Fin 64) (d : WxDesc) : State :=
  let c := d.opd 0
  let g := bitsOf (d.opd 1) 0 21
  let n := bitsOf (d.opd 2) 0 22
  if epochOpen s c then wxEnd s r d.idx wxRefused 0 3
  else if s.epochs.newest < c ∨ c + 4 < s.epochs.newest then wxEnd s r d.idx wxRefused 0 4
  else
    let s := clearThrough s c g n
    wxEnd s r d.idx 0 (popc 21 (bitsOf s.epochs.cum g n)) 0

def execTidemarkClear (r : Fin 64) (idx : Nat) (s : State) : Out := wxRun 0x0A r idx s fun d => tidemarkClear s r d

/-! ### Journal reads (R313) -/

def journalStep (d : WxDesc) (j0 : Nat) (a : Scan) (i : Nat) : Scan :=
  let blk := d.adrA / 64 + i
  if a.s.jrn.count ≤ j0 + i then { a with halt := some (a.st, a.out, a.n) }
  else if !blkOnline a.s blk then scanOffline a i a.out
  else
    let b := slotRead a.s (j0 + i)
    let a := scanWrite d a blk (b.getD 0) false
    { a with n := a.n + 1, out := match b with | some x => blockSsn x | none => a.out }

def journalRead (s : State) (r : Fin 64) (d : WxDesc) : State :=
  let gap := decide (s.jrn.count ≠ 0) && decide (d.opd 0 < oldestSsn s)
  let a := scan s 0 d.len (journalStep d (seekJ s (d.opd 0)))
  let a := { a with halt := a.halt.map fun x => if x.1 = wxOffline then x else (x.1, x.2.1, x.2.2 + b2n gap * 2 ^ 17) }
  scanEnd r d a a.out (a.n + b2n gap * 2 ^ 17)

def execJournalRead (r : Fin 64) (idx : Nat) (s : State) : Out := wxRun 0x0D r idx s fun d => journalRead s r d

/-! ### Repair and pseudo-channel state (R260, R312) -/

/-- REPAIR_SOFT: the copy starts at once; the repair's own command ends it. -/
def repairSoft (s : State) (r : Fin 64) (d : WxDesc) : State :=
  let n := pcFin (d.opd 0 % 64)
  let bank := bitsOf (d.opd 0) 6 5
  let row := bitsOf (d.opd 0) 11 16
  match softRefused s n bank row with
  | 0 => wxMod (modBank n bank (fun b => { b with repair := some row }) s) r d.idx fun d => { d with running := true }
  | k + 1 => wxEnd (repairRefused s n bank row (k + 1)) r d.idx wxRefused 0 (k + 1)

def execRepairSoft (r : Fin 64) (idx : Nat) (s : State) : Out :=
  wxRun 0x14 r idx s fun d =>
    let n := pcFin (d.opd 0 % 64)
    if (repairBank s.pcs[n]).isSome then s else repairSoft s r d

/-- PC_OFFLINE (R194, R312): queued requests complete, one all-bank refresh, then self-refresh. -/
def takeOffline (s : State) (n : Pc) : State :=
  let s := endRepairs (drainQueue s n) (fun p _ _ => decide (p = n.val)) wxRefused 0 4
  let s := (s.atLeast (s.now + 576)).modPc n fun c =>
    { c with mode := .offline, derived := [], offers := [], notices := [], switching := none
             walker := { c.walker with outstanding := none, inLap := false }
             banks := c.banks.map fun b =>
               { b with row := none, debt := 0, capture := none, trig := [], repair := none } }
  s

def execPcOffline (r : Fin 64) (idx : Nat) (s : State) : Out :=
  wxRun 0x16 r idx s fun d =>
    let n := pcFin (d.opd 0 % 64)
    if s.pcs[n].mode == .offline then wxEnd s r d.idx 0 0 0 else wxEnd (takeOffline s n) r d.idx 0 0 0

/-- A pseudo-channel's dirty lines are written back (R575). -/
def flushPc (s : State) (n : Pc) : State :=
  let mine (l : Line) : Bool := decide (unitPc s l.unit = n.val)
  let s := flushLines s mine
  { s with lagoon := { s.lagoon with lines := s.lagoon.lines.filter fun l => !(mine l && (decide (l.way = 16) || l.rel)) } }

/-- Full training, then service: the writes kept while it was offline, and its dirty lines, go to DRAM before any new request
(R117, R575). -/
def bringOnline (s : State) (n : Pc) (sweeps : List LaneSweep) : State :=
  let s := s.modPc n fun c => { c with mode := .selfRefresh }
  let s := fullTrain s (.pc n) sweeps
  if s.pcs[n].mode == .offline then s
  else
    flushPc (drainQueue (wakePc s n (s.now + 592)) n) n

def pcOnlineOp (s : State) (r : Fin 64) (d : WxDesc) (n : Pc) (sweeps : List LaneSweep) : State :=
  if s.pcs[n].mode == .online then wxEnd s r d.idx 0 0 0
  else if s.transit.pcs.contains n.val then wxEnd s r d.idx wxRefused 0 6
  else if s.fuse.lc = 5 then wxEnd s r d.idx wxRefused 0 5
  else
    let s := bringOnline s n sweeps
    if s.pcs[n].mode == .online then wxEnd s r d.idx 0 0 0 else wxEnd s r d.idx wxRefused 0 5

def execPcOnline (r : Fin 64) (idx : Nat) (sweeps : List LaneSweep) (s : State) : Out :=
  wxRun 0x17 r idx s fun d => pcOnlineOp s r d (pcFin (d.opd 0 % 64)) sweeps

/-- A FENCE completes when every earlier descriptor of its pair has its record in the drain domain (R315). -/
def execDescFence (r : Fin 64) (idx : Nat) (s : State) : Out :=
  wxRun 0x1F r idx s fun d =>
    match s.wetex.rings[r].act with
    | e :: _ => if e.idx = d.idx then wxEnd s r d.idx 0 0 0 else s
    | [] => s

/-! ### Power failure and resets (R321) -/

/-- Active descriptors without a record get a FENCED entry, in ascending pair and SQ_IDX order; a SEAL gets none. -/
def fenceEngine (s : State) : State :=
  let s := (List.finRange 64).foldl (fun s r =>
    let l := (s.wetex.rings[r].act.filter fun d => decide (d.opc ≠ 0x18))
    let l := (List.range 4096).filterMap fun i => l.find? fun d => decide (d.idx = i)
    l.foldl (fun s d => descDone s r d wxFenced 0 0) s) s
  let f (q : WxRing) : WxRing := { q with act := [] }
  { s with wetex := { s.wetex with rings := s.wetex.rings.map f }
           mirror := { s.mirror with pull := none, resync := none }, epochs := { s.epochs with engHeld := none } }

/-- Every pair starts DISABLED; heads and tails stay readable. -/
def wxDisable (s : State) : State :=
  let f (q : WxRing) : WxRing := { q with st := .disabled, act := [], stop := 0, unfreed := 0 }
  let s := { s with wetex := { s.wetex with rings := s.wetex.rings.map f, rr := 63 } }
  (List.range 64).foldl (fun s r => csrSet s (wxReg r 0x10) (putBits (csrGet s (wxReg r 0x10)) 10 1 0)) s

end Sys2Proof.Machine
end

