-- ==== Sys2Proof/Machine/MirrorRx.lean ====
section
/-! DEFINITION. Mirroring (13): window settings, messages received, apply, messages sent, resynchronisation and pull. -/

namespace Sys2Proof.Machine

/-! ### Resynchronisation (R400) -/

/-- The window's queue has room for a copy: its send queue alone is used. -/
def copyRoom (s : State) (w : Nat) : Bool :=
  if winMode s w = 2 then decide (s.mirror.q[0].length < 256)
  else decide (s.mirror.q[1].length < 256) && !s.mirror.backlog.any (·.ofWin w)

/-- Send one run of blocks of a unit as RESYNC_DATA. -/
def sendCopy (s : State) (w : Fin 64) (blk : Nat) (data : List Block) : State :=
  let (q, s) := takeSeq s w
  let h := mkHdr s 10 w.val (lenCode data.length) 0 q (partnerBlk s w.val blk) 0
  placeMsg s w { hdr := h, blocks := data } false true

/-- A block of the copy: none where it is not sent. -/
def copyBlock (s : State) (blk : Nat) : Option Block × State :=
  if !blkOnline s blk then (none, s)
  else
    let (st, b, s) := readNow (wxRequest s blk) blk 3
    (if st = stPoison ∨ st = stUncorr then none else some b, s)

/-- The four blocks of a 256-byte unit, read in turn: those that can be sent. -/
def copyReads (s : State) (unit : Nat) : List (Option Block) × State :=
  (List.range 4).foldl (fun (a : List (Option Block) × State) i =>
    let (b, s) := copyBlock a.2 (4 * unit + i)
    (a.1 ++ [b], s)) ([], s)

/-- What was read of a unit is sent: whole where every block can be sent, else block by block. -/
def copySends (s : State) (w : Fin 64) (unit : Nat) (bs : List (Option Block)) : Nat × State :=
  let good := bs.filterMap id
  if good.length = 4 then (0, sendCopy s w (4 * unit) good)
  else
    (4 - good.length, bs.zipIdx.foldl (fun s (b, i) =>
      match b with | some x => sendCopy s w (4 * unit + i) [x] | none => s) s)

/-- A 256-byte unit of a window is read and sent. Log entry 42. -/
def copyUnit (s : State) (w : Fin 64) (unit : Nat) : Nat × State :=
  copySends (copyReads s unit).2 w unit (copyReads s unit).1

/-- A granule is copied: marked in the cumulative map, or every one. -/
def copied (s : State) (j : ResyncJob) (g : Nat) : Bool := j.all || s.epochs.cum.testBit g

/-- Units per granule. -/
def granUnits : Nat := 256

def setJob (s : State) (j : Option ResyncJob) : State := { s with mirror := { s.mirror with resync := j } }

/-- Units of a window. -/
def winUnits (s : State) (w : Nat) : Nat × Nat := (winBase s w * granUnits, (winBase s w + winLen s w) * granUnits)

/-- Read and send units of the job's first window while its queue has room; a granule not to be copied is passed over.
Log entry 42. -/
def fillCopy (fuel : Nat) (s : State) : State :=
  match fuel with
  | 0 => s
  | fuel + 1 =>
    match s.mirror.resync with
    | none => s
    | some j =>
      match j.wins with
      | [] => s
      | w :: rest =>
        if s.mirror.wins[winFin w].st != .resync then
          fillCopy fuel (setJob s (some { j with wins := rest, unit := (winUnits s (rest.headD 0)).1,
                                                 stop := (winUnits s (rest.headD 0)).2 }))
        else if j.stop ≤ j.unit then
          fillCopy fuel (setJob s (some { j with wins := rest, copied := j.copied ++ [w],
                                                 unit := (winUnits s (rest.headD 0)).1, stop := (winUnits s (rest.headD 0)).2 }))
        else
          let g := j.unit / granUnits
          if !copied s j g then fillCopy fuel (setJob s (some { j with unit := (g + 1) * granUnits }))
          else if copyRoom s w then
            let first := decide (j.unit % granUnits = 0)
            let (miss, s) := copyUnit s (winFin w) j.unit
            match s.mirror.resync with
            | none => s
            | some k => fillCopy fuel (setJob s (some { k with
                unit := j.unit + 1, notSent := k.notSent + miss, granules := k.granules + b2n first }))
          else s

/-- Steps a fill can take: every unit of the stack, and the windows. -/
def fillFuel : Nat := 402653184 + 128

/-- A window's copy is complete and acknowledged: it is IN_SYNC. Log entry 42. -/
def copyAcked (s : State) (w : Nat) : State :=
  if s.mirror.wins[winFin w].st == .resync then
    raiseJ (modWin s w fun x => { x with st := .inSync }) 1120 0x0801 sevNotice w 1
  else s

/-- The job goes on: windows whose RESYNC_DATA are all acknowledged return to IN_SYNC; the descriptor ends with the last.
Log entry 42. -/
def resyncStep (s : State) : State :=
  let s := if s.therm.shut then s else fillCopy fillFuel s
  match s.mirror.resync with
  | none => s
  | some j =>
    let waits (w : Nat) : Bool := s.mirror.outs.any fun o => decide (o.win = w) && o.resync
    let done := j.copied.filter fun w => !waits w
    let s := setJob s (some { j with copied := j.copied.filter waits })
    let s := done.foldl copyAcked s
    if j.wins.isEmpty ∧ (j.copied.filter waits).isEmpty then
      wxEnd (setJob s none) ⟨j.ring % 64, Nat.mod_lt _ (by decide)⟩ j.idx (if j.failed then 5 else 0) j.granules (sat24 j.notSent)
    else s

/-- Why a MIRROR_RESYNC is refused: 1 link not UP, 2 a window OFF, 3 a window RESYNC or IN_SYNC; 0 not. -/
def resyncRefused (s : State) (mask : Nat) : Nat :=
  let named := (List.finRange 64).filter fun w => mask.testBit w.val
  if !linkUpNow s then 1
  else if named.any (fun w => s.mirror.wins[w].st == .off) then 2
  else if named.any (fun w => s.mirror.wins[w].st != .diverged) then 3
  else 0

/-- Every named window enters RESYNC and its copy begins. -/
def startResync (s : State) (r : Fin 64) (d : WxDesc) : State :=
  let mask := d.opd 0
  match resyncRefused s mask with
  | 0 =>
    let ws := (List.range 64).filter fun w => mask.testBit w
    let s := ws.foldl (fun s w => modWin s w fun x => { x with st := .resync }) s
    let u := winUnits s (ws.headD 0)
    let s := setJob s (some { ring := r.val, idx := d.idx, all := (d.opd 1).testBit 0, wins := ws, unit := u.1, stop := u.2 })
    resyncStep (wxMod s r d.idx fun d => { d with running := true })
  | k + 1 => wxEnd s r d.idx wxRefused 0 (k + 1)

/-- MIRROR_RESYNC starts; given again while its copy runs, the copy goes on. Log entry 42. -/
def execMirrorResync (r : Fin 64) (idx : Nat) (s : State) : Out :=
  match s.mirror.resync with
  | some j => whenDo (decide (j.ring = r.val ∧ j.idx = idx) && engineRuns s && keeperUp s) s (resyncStep s)
  | none => wxRun 0x0B r idx s fun d => startResync s r d

/-! ### Pull (R402) -/

def setPull (s : State) (j : Option PullJob) : State := { s with mirror := { s.mirror with pull := j } }

/-- The ring of a job. -/
def jobRing (r : Nat) : Fin 64 := ⟨r % 64, Nat.mod_lt _ (by decide)⟩

/-- Blocks of the next PULL_REQ: an aligned piece of 4, 2 or 1. -/
def pieceOf (blk stop : Nat) : Nat :=
  if blk % 4 = 0 ∧ blk + 4 ≤ stop then 4 else if blk % 2 = 0 ∧ blk + 2 ≤ stop then 2 else 1

/-- The pull ends. -/
def endPull (s : State) (j : PullJob) (st det : Nat) : State :=
  wxEnd (setPull s none) (jobRing j.ring) j.idx st j.restored det

/-- Form the next PULL_REQ, or end. -/
def pullNext (s : State) (j : PullJob) : State :=
  if j.stop ≤ j.next then endPull s j 0 (sat24 j.missing)
  else
    let n := pieceOf j.next j.stop
    if !blkOnline s j.next then endPull s j wxOffline (j.restored + j.missing)
    else
      let tag := s.mirror.pullTag
      let m : Msg := { hdr := mkHdr s 8 j.win (lenCode n) 0 tag (partnerBlk s j.win j.next) 0 }
      let req : PullReq := { tag := tag, blk := j.next, left := n, formed := s.nextId }
      let s := pushQ s.tick 0 m
      let s := { s with mirror := { s.mirror with pullTag := (tag + 1) % 2 ^ 32 } }
      setPull s (some { j with next := j.next + n, reqs := [req] })

def startPull (s : State) (r : Fin 64) (d : WxDesc) : State :=
  let w := d.opd 0 % 64
  if !linkUpNow s then wxEnd s r d.idx wxRefused 0 1
  else if s.mirror.wins[winFin w].st == .off then wxEnd s r d.idx wxRefused 0 2
  else
    let s := wxMod s r d.idx fun d => { d with running := true }
    pullNext s { ring := r.val, idx := d.idx, win := w, next := d.adrA / 64, stop := d.adrA / 64 + d.len }

def execMirrorPull (r : Fin 64) (idx : Nat) (s : State) : Out :=
  wxRun 0x0C r idx s fun d => if s.mirror.pull.isSome then s else startPull s r d

/-- The tag of the pull's descriptor. -/
def pullDescTag (s : State) (j : PullJob) : Option Nat :=
  match wxGet s (jobRing j.ring) j.idx with
  | some d => d.tag
  | none => engineTag s

/-- One supplied block is written, unless a newer write has entered the queue (R224). Log entry 26. -/
def pullWrite (s : State) (j : PullJob) (formed blk : Nat) (b : Block) : Bool × State :=
  if formed < smGet 0 s.dram.lastWrite blk ∨ blkOnline s blk = false then (false, s)
  else (true, (engineWriteAs (wxRequest s blk) blk b false (some (pullDescTag s j)) false).2)

/-- Blocks answered are counted; with the request answered whole, the next is formed. -/
def pullAnswered (s : State) (j : PullJob) (q : PullReq) (n restored missing : Nat) : State :=
  let j := { j with restored := j.restored + restored, missing := j.missing + missing }
  if q.left ≤ n then pullNext (setPull s (some { j with reqs := [] })) { j with reqs := [] }
  else setPull s (some { j with reqs := [{ q with left := q.left - n }] })

/-- A PULL_DATA of the pull under way. Log entry 26. -/
def pullData (s : State) (j : PullJob) (q : PullReq) (h : BitVec 256) (blocks : List Block) : State :=
  let n := lenBlocks (hLen h)
  let blk := q.blk + (hBlk h - partnerBlk s j.win q.blk)
  if hCode h = 0 then
    let (k, s) := blocks.zipIdx.foldl (fun (a : Nat × State) x =>
      let (w, s) := pullWrite a.2 j q.formed (blk + x.2) x.1
      (a.1 + b2n w, s)) (0, s)
    pullAnswered s j q n k 0
  else pullAnswered s j q n 0 n

/-! ### Messages received (R389 to R391) -/

/-- The two frames of a block. -/
def blockFrames (b : Block) : List (BitVec 256) := [BitVec.ofNat 256 b.toNat, BitVec.ofNat 256 (b.toNat / 2 ^ 256)]

/-- The frames of a message. -/
def msgFrames (h : BitVec 256) (bs : List Block) : List (BitVec 256) := h :: bs.flatMap blockFrames

/-- Frames of the message that stand at the head of a channel's receive buffer leave it; their number. Log entry 22. -/
def takeRx (s : State) (vc : Fin 2) (h : BitVec 256) (bs : List Block) : Nat × State :=
  let fs := msgFrames h bs
  let q := s.chrosy.rxq[vc]
  if q.take fs.length = fs then
    (fs.length, { s with chrosy := { s.chrosy with rxq := s.chrosy.rxq.set vc (q.drop fs.length) } })
  else (0, s)

/-- Receive-buffer frames are free again: their credits are due (R368). Log entry 22. -/
def freeRx (s : State) (vc : Fin 2) (k : Nat) : State :=
  { s with chrosy := { s.chrosy with freed := s.chrosy.freed.set vc (s.chrosy.freed[vc] + k) } }

/-- The message is taken at once: its frames are free. -/
def takeNow (s : State) (vc : Fin 2) (h : BitVec 256) (bs : List Block) : State :=
  let (k, s) := takeRx s vc h bs
  freeRx s vc k

/-- Messages are received: the link carries frames. -/
def rxLive (s : State) : Bool := chrosyOn s && linkUpNow s

/-- The message's data agree with its LEN. -/
def lenOk (h : BitVec 256) (bs : List Block) : Bool :=
  if hLen h = 3 then bs.isEmpty else decide (bs.length = lenBlocks (hLen h))

/-- Why a message is refused (R391): 0 none. Log entry 43. -/
def nackCode (s : State) (h : BitVec 256) : Nat :=
  let a := 64 * hBlk h
  let n := 64 * lenBlocks (if hLen h = 3 then 0 else hLen h)
  let lo := csrGet s 0x0B0130 * 65536
  let hi := lo + csrGet s 0x0B0134 * 65536
  if csrFld s 0x0B0108 0 1 = 0 then 1
  else if a < lo ∨ hi < a + n ∨ !hostUsable a n then 2
  else if s.pcs[pcFin (coordOf s.dram.mapActive (hBlk h)).pc].mode == .offline then 3
  else if s.power.failing then 4
  else if s.therm.shut then 5
  else 0

/-- APPLY_REFUSED (R406). Log entry 43. -/
def applyRefused (s : State) (h : BitVec 256) (code : Nat) : State :=
  raiseLim s (evKey 1121 0x0802) ms 1121 0x0802 sevWarn (64 * hBlk h % 2 ^ 37 + code * 2 ^ 40) 0 1 false

/-- A NACK names the message. -/
def sendNack (s : State) (h : BitVec 256) (code : Nat) : State :=
  applyRefused (pushQ s 0 { hdr := mkHdr s 6 (hWin h) 3 code (hSeq h) (hBlk h) (hEpoch h) }) h code

/-- A message waits for apply, in arrival order. -/
def pushApply (s : State) (vc : Fin 2) (h : BitVec 256) (bs : List Block) : State :=
  let (k, s) := takeRx s vc h bs
  { s with mirror := { s.mirror with
      apply := s.mirror.apply.set vc (s.mirror.apply[vc] ++ [{ hdr := h, blocks := bs, frames := k }]) } }

/-- A write message arrives: refused, or taken for apply. Log entries 22, 43. -/
def rxWrite (s : State) (vc : Fin 2) (h : BitVec 256) (bs : List Block) : State :=
  match nackCode s h with
  | 0 => pushApply s vc h bs
  | k + 1 => sendNack (takeNow s vc h bs) h (k + 1)

/-- A write message's form. -/
def writeForm (h : BitVec 256) (bs : List Block) (t : Nat) : Bool := decide (hType h = t) && decide (hLen h < 3) && lenOk h bs

def execSyncWrite (h : BitVec 256) (bs : List Block) (s : State) : Out :=
  whenDo (rxLive s && writeForm h bs 1) s (rxWrite s 0 h bs)

def execAsyncWrite (h : BitVec 256) (bs : List Block) (s : State) : Out :=
  whenDo (rxLive s && writeForm h bs 2) s (rxWrite s 1 h bs)

/-- RESYNC_DATA travels on the channel of its sender's window. -/
def resyncVc (s : State) (h : BitVec 256) (bs : List Block) : Fin 2 :=
  if s.chrosy.rxq[1].take (1 + 2 * bs.length) = msgFrames h bs then 1 else 0

def execResyncData (h : BitVec 256) (bs : List Block) (s : State) : Out :=
  whenDo (rxLive s && writeForm h bs 10) s (rxWrite s (resyncVc s h bs) h bs)

/-! ### Forwarded marks and barriers (R390, R399) -/

/-- FWD_MARK_REFUSED. -/
def fwdRefused (s : State) (v : Nat) : State :=
  raiseJ s 1121 0x0803 sevError v s.epochs.cur[17]

/-- A forwarded MARK at its turn: passed, held, or refused. The flag tells that it is done with. -/
def doMark (s : State) (v : Nat) : Bool × State :=
  if !isMember s 17 then (true, fwdRefused s v)
  else if v ≠ s.epochs.cur[17] + 1 then (true, dropMember (fwdRefused s v) 17)
  else if boundaryHeld s v then
    (false, { s with epochs := { s.epochs with mirHeld := some (v, s.now), mirStalled := false } })
  else (true, passBoundary s 17 v)

/-- Apply takes messages: the channel's earlier messages are done and no MARK is held. -/
def applyFree (s : State) : Bool := s.mirror.apply[0].isEmpty && s.epochs.mirHeld.isNone

def execMarkMessage (h : BitVec 256) (s : State) : Out :=
  whenDo (rxLive s && decide (hType h = 3)) s
    (if csrFld s 0x0B0108 0 1 = 0 then takeNow s 0 h []
     else if applyFree s then
       let (done, t) := doMark s (hEpoch h)
       if done then takeNow t 0 h [] else pushApply t 0 h []
     else pushApply s 0 h [])

/-- Every earlier apply write of the window is in its drain domain. -/
def barrierReady (s : State) (h : BitVec 256) : Bool :=
  !(s.mirror.apply[0] ++ s.mirror.apply[1]).any fun m =>
    decide (hWin m.hdr = hWin h) && (hType m.hdr == 1 || hType m.hdr == 2 || hType m.hdr == 10) && seqLe (hSeq m.hdr) (hSeq h)

/-- A barrier is answered. -/
def answerBarrier (s : State) (h : BitVec 256) : State :=
  { s with mirror := { s.mirror with backs := s.mirror.backs ++ [(hWin h, hSeq h)] } }

def execBarrier (h : BitVec 256) (s : State) : Out :=
  whenDo (rxLive s && decide (hType h = 4)) s
    (if barrierReady s h then answerBarrier (takeNow s 0 h []) h else pushApply s 0 h [])

/-! ### Acknowledgements -/

/-- One entry of an ACK (R392). -/
def ackEntry (s : State) (e : Nat × Nat) : State :=
  if s.mirror.wins[winFin e.1].st == .off || s.mirror.wins[winFin e.1].st == .diverged then s
  else
    let s := modWin s e.1 fun x => { x with acked := e.2 }
    let s := { s with mirror := { s.mirror with
      outs := s.mirror.outs.filter fun o => !(decide (o.win = e.1) && seqLe o.wseq e.2) } }
    let s := wxAcked s e.1 e.2
    releaseWaits s (fun x => decide (x.win = e.1) && seqLe x.wseq e.2) stOk

def execMirrorAck (h : BitVec 256) (s : State) : Out :=
  whenDo (rxLive s && decide (hType h = 5)) s (resyncStep ((hEntries h).foldl ackEntry (takeNow s 0 h [])))

/-- A NACK names a message of a window, or the PULL_REQ under way: a block not supplied. -/
def gotNack (s : State) (h : BitVec 256) : State :=
  if s.mirror.outs.any (fun o => decide (o.win = hWin h ∧ o.wseq = hSeq h)) then resyncStep (diverge s (winFin (hWin h)) 4)
  else
    match s.mirror.pull with
    | some j =>
      match j.reqs.find? fun q => decide (q.tag = hSeq h) with
      | some q => pullAnswered s j q q.left 0 q.left
      | none => s
    | none => s

def execNack (h : BitVec 256) (s : State) : Out :=
  whenDo (rxLive s && decide (hType h = 6)) s (gotNack (takeNow s 0 h []) h)

/-- BARRIER_DONE for one entry. -/
def barrierDone (s : State) (e : Nat × Nat) : State :=
  let s := { s with mirror := { s.mirror with outs := s.mirror.outs.filter fun o => !decide (o.win = e.1 ∧ o.wseq = e.2) } }
  raise s 1122 0x0804 sevInfo e.1 e.2

def execBarrierAck (h : BitVec 256) (s : State) : Out :=
  whenDo (rxLive s && decide (hType h = 7)) s ((hEntries h).foldl barrierDone (takeNow s 0 h []))

/-! ### Pull messages -/

/-- What the stack's copy of a block supplies: none where it reads POISON or UNCORR. Log entries 26, 34. -/
def supply (s : State) (blk : Nat) : Option Block × State :=
  let (st, b, s) := readNow s blk 4
  (if st = stPoison ∨ st = stUncorr then none else some b, s)

/-- A PULL_DATA message. -/
def pullMsg (s : State) (h : BitVec 256) (blk : Nat) (bs : List Block) (n code : Nat) : Msg :=
  { hdr := mkHdr s 9 (hWin h) (lenCode n) code (hSeq h) blk 0, blocks := bs }

/-- The answer: one message where every block is supplied, else one for each block. Log entry 26. -/
def answerPull (s : State) (h : BitVec 256) : State :=
  let n := lenBlocks (hLen h)
  let (bs, s) := (List.range n).foldl (fun (a : List (Option Block) × State) i =>
    let (b, s) := supply a.2 (hBlk h + i)
    (a.1 ++ [b], s)) ([], s)
  let good := bs.filterMap id
  if good.length = n then pushQ s 1 (pullMsg s h (hBlk h) good n 0)
  else bs.zipIdx.foldl (fun s x =>
    match x.1 with
    | some b => pushQ s 1 (pullMsg s h (hBlk h + x.2) [b] 1 0)
    | none => pushQ s 1 (pullMsg s h (hBlk h + x.2) [] 1 1)) s

def execPullReq (h : BitVec 256) (s : State) : Out :=
  whenDo (rxLive s && decide (hType h = 8) && decide (hLen h < 3)) s
    (let s := takeNow s 0 h []
     match nackCode s h with
     | 0 => answerPull s h
     | k + 1 => sendNack s h (k + 1))

def execPullData (h : BitVec 256) (bs : List Block) (s : State) : Out :=
  whenDo (rxLive s && decide (hType h = 9) && decide (hLen h < 3) && (lenOk h bs || (bs.isEmpty && decide (hCode h ≠ 0)))) s
    (let s := takeNow s 1 h bs
     match s.mirror.pull with
     | none => s
     | some j =>
       match j.reqs.find? fun q => decide (q.tag = hSeq h) with
       | some q => pullData s j q h bs
       | none => s)

/-- Reserved TYPEs (R386). -/
def reservedType (t : Nat) : Bool := decide (t = 0) || decide (0x0B ≤ t)

def execReservedMessage (h : BitVec 256) (s : State) : Out :=
  whenDo (rxLive s && reservedType (hType h)) s
    (let s := if s.chrosy.rxq[0].head? = some h then takeNow s 0 h [] else takeNow s 1 h []
     applyRefused s h 7)

/-! ### Apply (R389, R390) -/

/-- Apply writes outstanding. -/
def applyOut (s : State) : Nat := (s.pcs.toList.map fun c => (c.queue.filter fun e => e.src == .apply).length).sum

/-- The message's MARK is still to come: MIRROR is a member and stands below the message's epoch. -/
def awaitsMark (s : State) (h : BitVec 256) : Bool := isMember s 17 && decide (s.epochs.cur[17] < hEpoch h)

/-- The head of a channel leaves apply; its frames are free. -/
def popApply (s : State) (vc : Fin 2) : State :=
  match s.mirror.apply[vc] with
  | [] => s
  | m :: r => freeRx { s with mirror := { s.mirror with apply := s.mirror.apply.set vc r } } vc m.frames

/-- The window's ACK is due up to this message. -/
def ackDueFor (s : State) (h : BitVec 256) : State :=
  let old := s.mirror.acks.filter fun e => decide (e.1 ≠ hWin h)
  { s with mirror := { s.mirror with acks := old ++ [(hWin h, hSeq h)] } }

/-- A message's write enters its queue and the drain domain. Log entry 44. -/
def applyMsg (s : State) (h : BitVec 256) (bs : List Block) : State :=
  let blk := hBlk h
  let n := pcFin (coordOf s.dram.mapActive blk).pc
  let s := turn s n .apply
  let id := s.nextId
  let t := if isMember s 17 then some (hEpoch h) else none
  let e : QEnt := policyNow s
    { id := id, src := .apply, kind := .wr, cls := 3, blk := blk, n := bs.length, data := bs, chk := bs.map rsCheck
      arrived := s.now, pool := 2, drained := true }
  let s := (List.range bs.length).foldl (fun s i => freshClaim s (blk + i)) s
  let s := enqueue s.tick n e
  let s := (List.range bs.length).foldl (fun s i => noteWrite s (blk + i) id) s
  let s := tagWrite s t blk
  let s := if hType h = 10 then s else bump 0x0B0124 1 s
  ackDueFor s h

/-- The head of a channel is a write and may be issued. -/
def applyReady (s : State) (h : BitVec 256) : Bool :=
  decide (applyOut s < 128) && intRoom s.pcs[pcFin (coordOf s.dram.mapActive (hBlk h)).pc] && !awaitsMark s h

def execApplyWrite (vc : Fin 2) (s : State) : Out :=
  match s.mirror.apply[vc] with
  | [] => .next s
  | m :: _ =>
    let t := hType m.hdr
    if s.epochs.mirHeld.isSome || !flood s then .next s
    else if t = 3 then
      let (done, s) := doMark s (hEpoch m.hdr)
      .next (if done then popApply s vc else s)
    else if t = 4 then whenDo (barrierReady (popApply s vc) m.hdr) s (answerBarrier (popApply s vc) m.hdr)
    else
      match nackCode s m.hdr with
      | 0 => whenDo (applyReady s m.hdr) s (applyMsg (popApply s vc) m.hdr m.blocks)
      | k + 1 => .next (sendNack (popApply s vc) m.hdr (k + 1))

/-- MIRROR's held MARK is released (R275). -/
def releaseMirror (s : State) : State :=
  match s.epochs.mirHeld with
  | some (v, _) =>
    let s := passBoundary { s with epochs := { s.epochs with mirHeld := none, mirStalled := false } } 17 v
    match s.mirror.apply[0] with
    | m :: _ => if hType m.hdr = 3 then popApply s 0 else s
    | [] => s
  | none => s

/-! ### Messages sent (R387, R393, R397) -/

/-- Messages not yet sent. Log entry 25. -/
def unsent (s : State) : List Msg := s.mirror.q[0] ++ s.mirror.q[1] ++ s.mirror.backlog

/-- The message may be sent: its window's WSEQ order, and MARK V ahead of every message tagged V. Log entry 25. -/
def msgTurn (s : State) (vc : Fin 2) (m : Msg) : Bool :=
  (!m.numbered || !(unsent s).any fun x => x.ofWin (hWin m.hdr) && decide (hSeq x.hdr ≠ hSeq m.hdr) && seqLe (hSeq x.hdr) (hSeq m.hdr)) &&
  (decide (vc = 0) || hType m.hdr != 2 || !s.mirror.q[0].any fun x => hType x.hdr == 3 && decide (hEpoch x.hdr ≤ hEpoch m.hdr))

/-- Frames of a message for the link; its first names the message. -/
def txFrames (vc : Fin 2) (m : Msg) : List ChrFrame :=
  (msgFrames m.hdr m.blocks).zipIdx.map fun x =>
    { vc := vc.val, payload := x.1, head := if x.2 = 0 ∧ m.numbered then some (hWin m.hdr, hSeq m.hdr) else none }

def pushTx (s : State) (vc : Fin 2) (m : Msg) : State :=
  { s with chrosy := { s.chrosy with txq := s.chrosy.txq.set vc (s.chrosy.txq[vc] ++ txFrames vc m) } }

/-- The first message of a queue that may be sent goes to the link. Log entry 24. -/
def sendQueued (s : State) (vc : Fin 2) : State :=
  match s.mirror.q[vc].find? (msgTurn s vc) with
  | none => s
  | some m =>
    let t := hType m.hdr
    let s := { s with mirror := { s.mirror with q := s.mirror.q.set vc (s.mirror.q[vc].erase m) } }
    let s := if t = 1 ∨ t = 2 then bump 0x0B0120 1 s else s
    resyncStep (pushTx s vc m)

/-- The next message of a channel: on VC0 acknowledgements first. Log entry 24. -/
def sendMsg (s : State) (vc : Fin 2) : State :=
  if vc = 0 ∧ !s.mirror.acks.isEmpty then
    let es := s.mirror.acks.take 5
    pushTx { s with mirror := { s.mirror with acks := s.mirror.acks.drop 5 } } 0 { hdr := ackHdr 5 es }
  else if vc = 0 ∧ !s.mirror.backs.isEmpty then
    let es := s.mirror.backs.take 5
    pushTx { s with mirror := { s.mirror with backs := s.mirror.backs.drop 5 } } 0 { hdr := ackHdr 7 es }
  else sendQueued s vc

def execMirrorMessageSend (vc : Fin 2) (s : State) : Out :=
  whenDo (rxLive s && s.chrosy.txq[vc].isEmpty && decide (0 < s.chrosy.credits[vc])) s (sendMsg s vc)

def execBacklogRead (s : State) : Out :=
  match s.mirror.backlog with
  | [] => .next s
  | m :: r => whenDo (decide (s.mirror.q[1].length < 256) && decide (0 < s.chrosy.credits[1])) s
    (let s := ownReads s ((m.cellsAt.map backlogBlk).filter (blkOnline s))
     resyncStep (pushQ { s with mirror := { s.mirror with backlog := r } } 1 { m with cellsAt := [] }))

/-- The SYNC timeout in CCLK (R404). -/
def syncTmo (s : State) : Nat := csrFld s 0x0B0104 8 7 * 160000

/-- The oldest SYNC write of a window that has left and has no ACK. -/
def syncSent (s : State) (w : Nat) : Option Nat :=
  (s.mirror.outs.find? fun o => decide (o.win = w) && o.sync && o.sentAt.isSome).bind (·.sentAt)

def execSyncTimeout (w : Fin 64) (s : State) : Out :=
  match syncSent s w.val with
  | none => .next s
  | some t => .next (resyncStep (diverge (s.atLeast (t + syncTmo s)) w 3))

/-! ### Window settings (R383, R384) -/

/-- Windows w and v overlap. -/
def winOverlap (s : State) (w v : Nat) : Bool :=
  decide (winBase s w < winBase s v + winLen s v) && decide (winBase s v < winBase s w + winLen s w)

/-- The window may leave OFF. -/
def winOk (s : State) (w : Nat) : Bool :=
  decide (0 < winLen s w) && hostUsable (winBase s w * 65536) (winLen s w * 65536) &&
  (List.range 64).all fun v => decide (v = w) || decide (winMode s v = 0) || !winOverlap s w v

/-- The window leaves OFF. Log entry 45. -/
def winStart (s : State) (w : Nat) (assume : Bool) : State :=
  if assume then
    raiseJ (modWin s w fun x => { x with st := .inSync, reason := 0 }) 1120 0x0801 sevNotice w 0
  else
    raiseJ (modWin s w fun x => { x with st := .diverged, reason := 0 }) 1120 0x0800 sevError w s.mirror.wins[winFin w].acked

/-- The window stops sending; its waiting SYNC writes fail (R384, R392). -/
def winStop (s : State) (w : Nat) : State :=
  let keep (m : Msg) : Bool := !(m.ofWin w) || hType m.hdr == 4
  let m := s.mirror
  let job := m.resync.map fun j => if j.wins.contains w || j.copied.contains w then { j with failed := true } else j
  let s := { s with mirror := { m with
      q := m.q.map fun l => l.filter keep, backlog := m.backlog.filter keep
      outs := m.outs.filter fun o => decide (o.win ≠ w), resync := job } }
  let s := modWin s w fun x => { x with st := .off }
  resyncStep (releaseWaits (wxSyncLost s w) (fun x => decide (x.win = w)) stMirrorFail)

/-- A change of mode the window admits (R384). -/
def winChange (s : State) (w m : Nat) : Bool :=
  if winMode s w = 0 then (decide (m = 1) || decide (m = 2)) && winOk s w else decide (m = 0)

/-- A window's CTL takes effect: MODE is stored, and the window stops or leaves OFF. -/
def winAct (s : State) (w v : Nat) : State :=
  let m := v % 4
  if winChange s w m then
    let s := csrSet s (winReg w 12) m
    if m = 0 then winStop s w else winStart s w (v.testBit 2)
  else mirrorCfg s (winReg w 12) v

/-- A write to `MIRROR.WIN[w].CTL`: the second component tells that it was accepted. The change waits for the Keeper (R26). -/
def writeWinCtl (s : State) (w v : Nat) : State × Bool :=
  if !winChange s w (v % 4) then (mirrorCfg s (winReg w 12) v, false)
  else if keeperUp s && s.mirror.waitSet.isEmpty then (winAct s w v, true)
  else ({ s with mirror := { s.mirror with waitSet := s.mirror.waitSet ++ [(w, v)] } }, true)

/-- The settings that waited for the Keeper act, in order. -/
def winWaiting (s : State) : State :=
  let l := s.mirror.waitSet
  l.foldl (fun s x => winAct s x.1 x.2) { s with mirror := { s.mirror with waitSet := [] } }

/-! ### Loss of the link (R369, R377) -/

/-- What mirroring does at a loss: windows with anything outstanding diverge, a pull ends, unsent control messages go. -/
def mirrorLoss (s : State) (reason : Nat) : State :=
  let s := resyncStep (divergeLoss s reason)
  let s := match s.mirror.pull with | some j => endPull s j 5 (sat24 j.missing) | none => s
  let q := s.mirror.q.map fun l => l.filter (·.numbered)
  { s with mirror := { s.mirror with q := q, acks := [], backs := [] } }

end Sys2Proof.Machine
end

