-- ==== Sys2Proof/Machine/Chrosy.lean ====
section
/-! DEFINITION. The Chrosy link (12): line coding, blocks, acknowledgement and retry, link commands, bring-up, degradation, loss. -/

namespace Sys2Proof.Machine

def modChr (s : State) (f : ChrosySt → ChrosySt) : State := { s with chrosy := f s.chrosy }

/-- The width code of a number of lanes (R371). -/
def widthCode (w : Nat) : Nat := if w = 8 then 3 else if w = 6 then 2 else if w = 4 then 1 else 0
/-- The lanes of a width code. -/
def codeWidth (c : Nat) : Nat := if c = 0 then 0 else 2 + 2 * c

/-- Block time in CCLK, and slot width in UI, at a width (R360). -/
def blockTime (w : Nat) : Nat := if w = 6 then 60 else if w = 4 then 90 else 45
def slotWidth (w : Nat) : Nat := if w = 6 then 48 else if w = 4 then 72 else 36

/-! ### Line coding (R357, R358, R372) -/

/-- The scrambler and run stuffing of one bit. -/
def laneBit (l : ChrLaneTx) (b : Bool) : ChrLaneTx :=
  let t := (b ^^ l.scr.testBit 38) ^^ l.scr.testBit 57
  let run := if t = l.last ∧ 0 < l.run then l.run + 1 else 1
  let l := { l with scr := (2 * l.scr + b2n t) % 2 ^ 58, last := t, run := run }
  if run = 24 then { l with last := !t, run := 1, debt := l.debt + 1 } else l

/-- Send bits. -/
def laneBits (l : ChrLaneTx) (bs : List Bool) : ChrLaneTx := bs.foldl laneBit l

/-- An idle slot: scrambled zeros, shortened by the debt. -/
def laneIdle (s : Nat) (l : ChrLaneTx) : ChrLaneTx :=
  let k := min l.debt s
  laneBits { l with debt := l.debt - k } (List.replicate (s - k) false)

/-- The frame as sent: payload and CRC-32 over FSN, channel and payload (R362). -/
def frameBits (f : ChrFrame) : Nat :=
  f.payload.toNat + crc32c (f.fsn :: f.vc :: bytesOf 32 f.payload.toNat) * 2 ^ 256

/-- The bits of a frame on the j-th of `w` active lanes. -/
def frameLane (x w j : Nat) : List Bool := (List.range (slotWidth w)).map fun i => x.testBit (w * i + j)

/-- The marker on the j-th active lane. -/
def markerLane (w j : Nat) : List Bool := (List.range (slotWidth w)).map fun i => (0xC35A96F00 + j).testBit (i % 36)

/-- Active transmit lanes, ascending. -/
def txLanes (s : State) : List (Fin 8) := (List.finRange 8).filter fun l => !s.chrosy.txDropped.testBit (l.val / 2)

/-- One block on the data lanes: markers, frames, idle slots. -/
def sendLanes (s : State) (marker : Bool) (fs : List ChrFrame) : State :=
  let ls := txLanes s
  let w := ls.length
  let bits := fs.map frameBits
  let idle := 25 - fs.length - b2n marker
  modChr s fun c => { c with tx := (ls.zipIdx).foldl (fun (tx : Vector ChrLaneTx 8) x =>
    let l := tx[x.1]
    let l := if marker then laneBits l (markerLane w x.2) else l
    let l := bits.foldl (fun l b => laneBits l (frameLane b w x.2)) l
    tx.set x.1 (idle.repeat (laneIdle (slotWidth w)) l)) c.tx }

/-- A lane's debt is above zero. -/
def debtDue (s : State) : Bool := (txLanes s).any fun l => decide (0 < s.chrosy.tx[l].debt)

/-! ### Link slots (R365) -/

/-- The data character of a heartbeat. -/
def hbData (s : State) : Nat :=
  b2n s.stack.ready + 2 * b2n (keeperUp s) + 4 * b2n s.power.failing

/-- What the two slots may carry, the most pressing first: a slot's K symbol and data character. Log entry 46. -/
def slotChoices (s : State) : List (Nat × Nat) :=
  let c := s.chrosy
  (if 30 ≤ c.sinceHb then [(0x7C, hbData s)] else []) ++
  (if 14 ≤ c.sinceIdle then [(0xBC, 0xB5)] else []) ++
  (if c.nakDue then [(0xFD, (c.rxNext + 255) % 256)] else if c.ackDue then [(0xFB, (c.rxNext + 255) % 256)] else []) ++
  (match c.cmds with | x :: _ => [(0xFE, x.1 + 16 * x.2)] | [] => []) ++
  (if 0 < c.freed[0] then [(0x5C, min 255 c.freed[0])] else []) ++
  (if 0 < c.freed[1] then [(0xDC, min 255 c.freed[1])] else [])

/-- The slots sent: the first two choices, idle slots after them. Log entry 46. -/
def slotsOf (s : State) : List (Nat × Nat) := ((slotChoices s) ++ [(0xBC, 0xB5), (0xBC, 0xB5)]).take 2

/-- A slot has been sent. Log entry 46. -/
def slotSent (s : State) (x : Nat × Nat) : State :=
  modChr s fun c =>
    if x.1 = 0x7C then { c with sinceHb := 0 }
    else if x.1 = 0xBC then { c with sinceIdle := 0 }
    else if x.1 = 0xFD ∨ x.1 = 0xFB then { c with ackDue := false, nakDue := false }
    else if x.1 = 0xFE then { c with cmds := c.cmds.drop 1, txMarker := c.txMarker || decide (x.2 % 16 = 1) }
    else if x.1 = 0x5C then { c with freed := c.freed.set 0 (c.freed[0] - x.2) }
    else if x.1 = 0xDC then { c with freed := c.freed.set 1 (c.freed[1] - x.2) }
    else c

/-! ### Sending a block (R363, R366 to R368) -/

/-- LINK_RETRY with the counts of the last 1 ms (R382). -/
def linkRetry (s : State) : State :=
  let key := evKey 1098 0x0706
  if s.chrosy.resentMs = 0 ∧ s.chrosy.invalidMs = 0 then s else
  match limitDue s key ms with
  | none => s
  | some _ =>
    let a := s.chrosy.resentMs
    let b := s.chrosy.invalidMs
    let s := modChr (limitSet s key (s.now + 1, 0)) fun c => { c with resentMs := 0, invalidMs := 0 }
    raise s 1098 0x0706 sevInfo a b

/-- The longest front part of some frames in which VC0 frames precede VC1 frames. -/
def vcPrefix : List ChrFrame → List ChrFrame
  | [] => []
  | f :: r => if f.vc = 0 then f :: vcPrefix r else f :: r.takeWhile fun g => decide (g.vc = 1)

/-- The frames of a resend in this block. -/
def resendFrames (s : State) (f cap : Nat) : List ChrFrame :=
  (vcPrefix (s.chrosy.replay.dropWhile fun g => decide (g.fsn ≠ f))).take cap

/-- A resend goes on. -/
def sendResend (s : State) (f cap : Nat) : List ChrFrame × State :=
  let fs := resendFrames s f cap
  let rest := (s.chrosy.replay.dropWhile fun g => decide (g.fsn ≠ f)).drop fs.length
  let s := modChr s fun c => { c with resend := rest.head?.map (·.fsn), resentMs := c.resentMs + fs.length }
  (fs, bump 0x0B0018 fs.length s)

/-- The header frames that leave mark their messages as sent (R394). -/
def headsSent (s : State) (fs : List ChrFrame) : State :=
  let hs := fs.filterMap (·.head)
  let g (o : MirOut) : MirOut := if hs.contains (o.win, o.wseq) ∧ o.sentAt.isNone then { o with sentAt := some s.now } else o
  { s with mirror := { s.mirror with outs := s.mirror.outs.map g } }

/-- New frames: VC0 first, each against a credit, while the replay buffer holds fewer than 64. -/
def sendNew (s : State) (cap : Nat) : List ChrFrame × State :=
  let c := s.chrosy
  let room := min cap (64 - c.replay.length)
  let a := c.txq[0].take (min room c.credits[0])
  let b := c.txq[1].take (min (room - a.length) c.credits[1])
  let fs := (a ++ b).zipIdx.map fun x => { x.1 with fsn := (c.nextFsn + x.2) % 256 }
  let s := modChr s fun c =>
    { c with txq := #v[c.txq[0].drop a.length, c.txq[1].drop b.length]
             credits := #v[c.credits[0] - a.length, c.credits[1] - b.length]
             nextFsn := (c.nextFsn + fs.length) % 256
             progressAt := if c.replay.isEmpty then s.now else c.progressAt
             replay := c.replay ++ fs }
  (fs, headsSent s fs)

/-- The transmitter may send frames: UP, or degrading in the receive direction alone. -/
def txFrames? (s : State) : Bool := linkUpNow s && s.chrosy.txDegr.isNone

/-- Link commands a state sends every 4 blocks (R372, R373). -/
def stateCmd (s : State) : List (Nat × Nat) :=
  let c := s.chrosy
  match c.st with
  | .seek => [(1, widthCode (if c.txW = 0 then 8 else c.txW))]
  | .align => [(2, widthCode c.rxW)] ++ (if c.rcvOk then [(3, 0)] else [(1, widthCode (if c.txW = 0 then 8 else c.txW))])
  | .degrade => if c.txDegr.isSome then [(1, widthCode c.txW)] else []
  | _ => []

/-- The control block (R361). Log entry 46. -/
def ctlBlock (w fsn n0 n1 : Nat) (slots : List (Nat × Nat)) : List Nat :=
  [0xF7, fsn, n0, n1, crc8 [fsn, n0, n1]] ++ slots.flatMap (fun x => [x.1, x.2])
    ++ List.replicate ((if w = 6 then 12 else if w = 4 then 18 else 9) - 9) 0xBC

/-- A block starts. Log entry 46. -/
def blockStart (s : State) : State :=
  let w := (txLanes s).length
  let s := s.atLeast (if s.chrosy.blocks = 0 then 0 else s.chrosy.startAt + blockTime w)
  let s := modChr s fun c =>
    { c with cmds := if c.blocks % 4 = 0 then c.cmds ++ (stateCmd s).filter (fun x => !c.cmds.contains x) else c.cmds }
  let marker := s.chrosy.txMarker
  let s := modChr s fun c => { c with txMarker := false, sinceIdle := c.sinceIdle + 1, sinceHb := c.sinceHb + 1 }
  let cap := 25 - b2n marker - b2n (debtDue s)
  let fsn0 := s.chrosy.nextFsn
  let (fs, s) :=
    if !txFrames? s then ([], s)
    else match s.chrosy.resend with
      | some f => sendResend s f cap
      | none => sendNew s cap
  let slots := slotsOf s
  let s := slots.foldl slotSent s
  let s := sendLanes s marker fs
  let n0 := (fs.filter fun f => decide (f.vc = 0)).length
  let fsn := match fs with | f :: _ => f.fsn | [] => fsn0
  let s := modChr s fun c =>
    { c with blocks := c.blocks + 1, startAt := s.now, ctl := ctlBlock w fsn n0 (fs.length - n0) slots }
  linkRetry s

/-- The transmitters run: not DOWN. -/
def linkOn (s : State) : Bool := s.chrosy.st != .down

def execChrosyBlockStart (s : State) : Out := whenDo (linkOn s) s (blockStart s)

/-! ### States (R373, R374, R376, R377) -/

/-- The link enters SEEK. -/
def enterSeek (s : State) : State :=
  modChr s fun c =>
    { c with st := .seek, txW := 0, rxW := 0, rxDropped := 0, txDropped := 0, rcvOk := false, rcvUp := false, seekAt := s.now
             credits := #v[0, 0], replay := [], nextFsn := 0, resend := none, txq := #v[[], []], rxNext := 0
             discarding := false, ackDue := false, nakDue := false, rxq := #v[[], []], freed := #v[0, 0]
             degr := none, degrAnswered := false, degrAligned := false, degrQ := [], txDegr := none
             rxMarker := false, lanes := c.lanes.map fun l => { l with failed := false } }

/-- The link is lost (R377): LINK_DOWN to the partner, the event, the mirroring layer's part, SEEK. -/
def loseLink (s : State) (reason : Nat) : State :=
  if !linkUpNow s then enterSeek s
  else
    let n := s.chrosy.replay.length
    let s := modChr s fun c => { c with downReason := reason, cmds := [(5, reason)] }
    let s := raiseJ s 1097 0x0703 sevError reason n
    let s := dropMember (mirrorLoss s (if reason = 6 then 6 else 1)) 17
    let f (m : Msg) : Msg := { m with frames := 0 }
    let s := { s with mirror := { s.mirror with apply := s.mirror.apply.map fun (l : List Msg) => l.map f } }
    enterSeek { s with epochs := { s.epochs with mirHeld := none } }

/-- The last block before electrical idle carries LINK_DOWN (R378). -/
def sendDown (s : State) (reason : Nat) : State :=
  blockStart (modChr s fun c => { c with cmds := [(5, reason)], sinceHb := 0, sinceIdle := 0 })

/-- The link stops in electrical idle (R378, R379). -/
def stopLink (s : State) (reason : Nat) : State :=
  let s := if linkUpNow s then sendDown (loseLink s reason) reason else modChr s fun c => { c with downReason := reason }
  modChr (enterSeek s) fun c => { c with st := .down, cmds := [], hbAt := none }

/-- Chrosy microcode runs: the active slot of component 2 passed its check (R514). -/
def microcodeOk (s : State) : Bool := if s.fw.active[2] = 0 then s.fw.slots[2][0].ok else s.fw.slots[2][1].ok

/-- Bring-up starts where the link is enabled (R373). -/
def startLink (s : State) : State :=
  if chrosyOn s && csrFld s 0x0B0000 0 1 == 1 && s.chrosy.st == .down && microcodeOk s then
    modChr (enterSeek s) fun c => { c with attempts := 0, blocks := 0, cmds := [] }
  else s

/-- New microcode: a bring-up in progress restarts from SEEK; a link that was DOWN for want of microcode starts (R375, R514). -/
def restartBringUp (s : State) : State :=
  if s.chrosy.st == .seek || s.chrosy.st == .align then enterSeek s else startLink s

/-- The link comes UP (R373, R374 step 6). -/
def goUp (s : State) : State :=
  let s := modChr s fun c =>
    { c with st := .up, nextFsn := 0, rxNext := 0, credits := #v[256, 256], replay := [], resend := none, attempts := 0
             progressAt := s.now, lastBlock := s.now }
  raiseJ (bump 0x0B001C 1 s) 1097 0x0702 sevNotice (widthCode s.chrosy.rxW) (widthCode s.chrosy.txW)

/-- Lanes left when a mask of pairs is dropped. -/
def lanesLeft (m : Nat) : Nat := 8 - 2 * popc 2 m

/-- LINK_DEGRADED (R382). -/
def degradedEvent (s : State) (dir width pair : Nat) : State :=
  raiseJ s 1097 0x0704 sevWarn (dir + widthCode width * 4) pair

/-- Both directions are settled: UP again. -/
def backUp (s : State) : State :=
  if s.chrosy.st == .degrade && s.chrosy.degr.isNone && s.chrosy.txDegr.isNone && s.chrosy.resend.isNone then
    modChr s fun c => { c with st := .up }
  else s

/-- A receive pair is dropped: DEGRADE goes to the partner. -/
def degradeStart (s : State) (pair : Nat) : State :=
  if s.chrosy.rxW ≤ 4 then loseLink s 4
  else
    modChr s fun c =>
      { c with st := .degrade, rxDropped := c.rxDropped ||| 2 ^ pair, rxW := c.rxW - 2, degr := some (pair, s.now, 1)
               degrAnswered := false, degrAligned := false, cmds := c.cmds ++ [(4, pair)] }

/-- The receive direction's degradation ends when it is aligned and no frame is missing. -/
def degradeEnd (s : State) : State :=
  match s.chrosy.degr with
  | some (pair, _, _) =>
    if s.chrosy.degrAligned && !s.chrosy.discarding then
      let s := degradedEvent s 0 s.chrosy.rxW pair
      let q := s.chrosy.degrQ
      let s := modChr s fun c => { c with degr := none, degrAnswered := false, degrAligned := false, degrQ := q.drop 1 }
      match q with
      | p :: _ => degradeStart s p
      | [] => backUp s
    else s
  | none => s

/-! ### Receiving a block (R364, R367) -/

/-- The character is data and not in error. -/
def dataChar (c : Option ChrChar) : Option Nat :=
  match c with
  | some x => if x.err ∨ x.k then none else some x.byte.toNat
  | none => none

/-- FSN, N0, N1 of a valid control block. -/
def ctlHeader (s : State) (cs : List ChrChar) : Option (Nat × Nat × Nat) :=
  match cs.head?, dataChar (cs[1]?), dataChar (cs[2]?), dataChar (cs[3]?), dataChar (cs[4]?) with
  | some k, some f, some n0, some n1, some h =>
    if k.k ∧ k.err = false ∧ k.byte = 0xF7#8 ∧ h = crc8 [f, n0, n1] ∧ n0 + n1 + b2n s.chrosy.rxMarker ≤ 25 then
      some (f, n0, n1) else none
  | _, _, _, _, _ => none

/-- Link slots with an error character, or with a K symbol or command that means nothing: ignored, and counted (R364, R371). -/
def badSlots (cs : List ChrChar) : Nat :=
  let bad (i : Nat) : Bool :=
    match cs[i]?, cs[i + 1]? with
    | some k, some d =>
      k.err || d.err || !k.k || d.k || !([0xBC, 0xFB, 0xFD, 0x5C, 0xDC, 0x7C, 0xFE].contains k.byte.toNat) ||
      (k.byte == 0xFE#8 && !(decide (1 ≤ d.byte.toNat % 16) && decide (d.byte.toNat % 16 ≤ 5)))
    | _, _ => true
  b2n (bad 5) + b2n (bad 7)

/-- One data frame: accepted, failed, or discarded after a failed one. -/
def rxFrame (s : State) (fsn : Nat) (vc : Fin 2) (f : BitVec 288) : State :=
  if fsn ≠ s.chrosy.rxNext then s
  else
    let p := bitsOf f.toNat 0 256
    if crc32c (fsn :: vc.val :: bytesOf 32 p) = bitsOf f.toNat 256 32 then
      modChr s fun c =>
        { c with rxq := c.rxq.set vc (c.rxq[vc] ++ [BitVec.ofNat 256 p]), rxNext := (c.rxNext + 1) % 256, ackDue := true
                 discarding := false }
    else if s.chrosy.discarding then s
    else bump 0x0B0010 1 (modChr s fun c => { c with discarding := true, nakDue := true })

/-- The frames of a block, in slot order. A frame after the failed one has an FSN that is not awaited. -/
def rxFrames (s : State) (fsn n0 n1 : Nat) (fs : List (BitVec 288)) : State :=
  (List.range (n0 + n1)).foldl (fun s i => rxFrame s ((fsn + i) % 256) (if i < n0 then 0 else 1) (fs.getD i 0)) s

/-- A block that is not valid: its frames have failed. -/
def rxInvalid (s : State) (fs : List (BitVec 288)) : State :=
  let s := bump 0x0B0014 1 (modChr s fun c => { c with invalidMs := c.invalidMs + 1 })
  if linkUpNow s && !fs.isEmpty then
    if s.chrosy.discarding then s
    else bump 0x0B0010 1 (modChr s fun c => { c with discarding := true, nakDue := true })
  else s

def blockReceived (s : State) (cs : List ChrChar) (fs : List (BitVec 288)) : State :=
  let s := match ctlHeader s cs with
    | none => rxInvalid s fs
    | some (f, n0, n1) =>
      let s := modChr s fun c => { c with lastBlock := s.now }
      let s := bump 0x0B0014 (badSlots cs) s
      if linkUpNow s then degradeEnd (rxFrames s f n0 n1 fs) else s
  linkRetry (modChr s fun c => { c with rxMarker := false })

def execChrosyBlockReceived (chars : List ChrChar) (frames : List (BitVec 288)) (s : State) : Out :=
  whenDo (linkOn s) s (blockReceived s chars frames)

/-! ### Slots received (R365 to R371) -/

/-- Frames up to FSN `f` are acknowledged; a resend skips what is freed (R379). Log entry 20. -/
def freeFrames (s : State) (f : Nat) : State :=
  let r := (s.chrosy.replay.dropWhile fun g => decide (g.fsn ≠ f)).drop 1
  modChr s fun c =>
    { c with replay := r, progressAt := s.now
             resend := match c.resend with
               | some x => if r.any (fun g => decide (g.fsn = x)) then some x else r.head?.map (·.fsn)
               | none => none }

/-- FSN `f` names an unacknowledged frame. Log entry 20. -/
def fsnHeld (s : State) (f : Nat) : Bool := linkUpNow s && s.chrosy.replay.any fun g => decide (g.fsn = f)

def execChrosyAck (fsn : Byte) (s : State) : Out := whenDo (fsnHeld s fsn.toNat) s (backUp (freeFrames s fsn.toNat))

/-- NAK: frames up to f are accepted, and f + 1 on is sent again. Log entry 20. -/
def gotNak (s : State) (f : Nat) : State :=
  let s := freeFrames s f
  modChr s fun c => { c with resend := c.replay.head?.map (·.fsn) }

def execChrosyNak (fsn : Byte) (s : State) : Out := whenDo (fsnHeld s fsn.toNat) s (backUp (gotNak s fsn.toNat))

def execChrosyCredit (vc : Fin 2) (n : Byte) (s : State) : Out :=
  whenDo (linkUpNow s && decide (0 < n.toNat)) s
    (modChr s fun c => { c with credits := c.credits.set vc (min 256 (c.credits[vc] + n.toNat)) })

def execHeartbeat (data : Byte) (s : State) : Out :=
  whenDo (linkOn s) s
    (let old := s.chrosy.hb
     let s := modChr s fun c => { c with hb := data.toNat, hbAt := some s.now }
     if old = data.toNat then s else raise s 1099 0x0707 sevNotice data.toNat old)

/-- ALIGN_NEXT: the next block carries markers; it answers a DEGRADE where it names the new width. -/
def execAlignNext (width : BitVec 4) (s : State) : Out :=
  whenDo (linkOn s) s
    (modChr s fun c =>
      { c with rxMarker := true
               degrAnswered := c.degrAnswered || (c.degr.isSome && decide (width.toNat = widthCode c.rxW)) })

/-- ALIGN_OK and LINK_UP have been exchanged. -/
def tryUp (s : State) : State :=
  if s.chrosy.st == .align && s.chrosy.rcvOk && s.chrosy.rcvUp then
    goUp (modChr s fun c => { c with cmds := c.cmds.filter (fun x => decide (x.1 = 5)) ++ [(3, 0)] })
  else s

/-- The transmitter's degradation is answered: the resend starts, and new frames after it. -/
def txRealigned (s : State) : State :=
  match s.chrosy.txDegr with
  | some pair => backUp (modChr (degradedEvent s 1 s.chrosy.txW pair) fun c => { c with txDegr := none })
  | none => s

def execAlignOk (width : BitVec 4) (s : State) : Out :=
  let w := width.toNat
  if w = 0 ∨ 3 < w then .next s
  else match s.chrosy.st with
  | .seek | .align => .next (tryUp (modChr s fun c => { c with rcvOk := true, txW := codeWidth w }))
  | .degrade => whenDo (s.chrosy.txDegr.isSome && decide (w = widthCode s.chrosy.txW)) s (txRealigned s)
  | _ => .next s

def execLinkUp (s : State) : Out :=
  whenDo (s.chrosy.st == .align || s.chrosy.st == .seek) s (tryUp (modChr s fun c => { c with rcvUp := true }))

/-- DEGRADE: the transmitter drops the pair and aligns anew; new frames stop (R376). -/
def gotDegrade (s : State) (pair : Nat) : State :=
  if s.chrosy.txDropped.testBit pair then s
  else
    modChr s fun c =>
      { c with st := .degrade, txDropped := c.txDropped ||| 2 ^ pair, txW := c.txW - 2, txDegr := some pair
               cmds := c.cmds ++ [(1, widthCode (c.txW - 2))] }

def execDegrade (pair : BitVec 4) (s : State) : Out :=
  whenDo (linkUpNow s && decide (pair.toNat < 4) && decide (4 < s.chrosy.txW)) s (gotDegrade s pair.toNat)

def execLinkDown (_reason : BitVec 4) (s : State) : Out := whenDo (linkOn s) s (loseLink s 5)

/-! ### Bring-up and failures -/

/-- The receiver is aligned: at bring-up on its good pairs, in DEGRADE at the new width (R374, R376). -/
def execChrosyAligned (goodPairs : BitVec 4) (s : State) : Out :=
  let bad := 15 - goodPairs.toNat
  match s.chrosy.st with
  | .seek =>
    whenDo (decide (4 ≤ lanesLeft bad)) s
      (modChr s fun c => { c with st := .align, rxDropped := bad, rxW := lanesLeft bad
                                  cmds := c.cmds ++ [(2, widthCode (lanesLeft bad))] })
  | .degrade =>
    whenDo (s.chrosy.degr.isSome && s.chrosy.degrAnswered && !s.chrosy.degrAligned) s
      (degradeEnd (modChr s fun c => { c with degrAligned := true, nakDue := true, cmds := c.cmds ++ [(2, widthCode c.rxW)] }))
  | _ => .next s

/-- 20 ms from the entry to SEEK without UP (R373, R374). -/
def execSeekTimeout (goodPairs : Nat) (s : State) : Out :=
  whenDo (s.chrosy.st == .seek || s.chrosy.st == .align) s
    (let s := s.atLeast (s.chrosy.seekAt + 32000000)
     let n := s.chrosy.attempts + 1
     let s := modChr (enterSeek s) fun c => { c with attempts := n }
     raiseLim s (evKey 1097 0x0705) 1600000000 1097 0x0705 sevWarn goodPairs n 0 false)

/-- A receive lane in use. -/
def laneUsed (s : State) (l : Nat) : Bool := decide (l = 8) || !s.chrosy.rxDropped.testBit (l / 2)

/-- A lane is declared failed (R376, R382). -/
def chrLaneFailed (s : State) (l : Fin 9) (cause : Nat) : State :=
  let pair := if l.val = 8 then 15 else l.val / 2
  let s := modChr s fun c =>
    { c with lanes := c.lanes.set l { c.lanes[l] with failed := true, locked := c.lanes[l].locked && decide (cause ≠ 1) } }
  let s := if cause = 2 then bump 0x0B0020 16 s else s
  let s := raiseJ s (1088 + l.val) 0x0701 sevError cause pair
  if l.val = 8 then loseLink s 2
  else if s.chrosy.degr.isSome then
    modChr s fun c => { c with degrQ := setInsert c.degrQ pair }
  else degradeStart s pair

def execChrosyLaneFailed (lane : Fin 9) (cause : Fin 5) (s : State) : Out :=
  whenDo (linkUpNow s && decide (0 < cause.val) && laneUsed s lane.val && !s.chrosy.lanes[lane].failed) s
    (chrLaneFailed s lane cause.val)

/-- 1 us without ALIGN_NEXT: DEGRADE again, four times in all, then the loss. -/
def execDegradeRepeat (s : State) : Out :=
  match s.chrosy.degr with
  | none => .next s
  | some (pair, since, n) =>
    whenDo (!s.chrosy.degrAnswered) s
      (let s := s.atLeast (since + 1600)
       if n < 4 then modChr s fun c => { c with degr := some (pair, s.now, n + 1), cmds := c.cmds ++ [(4, pair)] }
       else loseLink s 2)

def execChrosyNoBlockTimeout (s : State) : Out :=
  whenDo (linkUpNow s) s (loseLink (s.atLeast (s.chrosy.lastBlock + 1600)) 2)

def execChrosyStallTimeout (s : State) : Out :=
  whenDo (linkUpNow s && !s.chrosy.replay.isEmpty) s (loseLink (s.atLeast (s.chrosy.progressAt + 160000)) 3)

/-! ### Adaptation (R375, R382) -/

/-- A tap within ±127 mV. -/
def clampTap (x : Int) : Int := max (-127) (min 127 x)

/-- One lane's readings: its eye and error rate, its taps, its CTLE by at most one step per 1 ms. -/
def adaptLane (s : State) (a : ChrAdapt) : State :=
  let l : Fin 9 := ⟨a.lane % 9, Nat.mod_lt _ (by decide)⟩
  let x := s.chrosy.lanes[l]
  let due := decide (x.ctleAt + ms ≤ s.now)
  let ctle := if due then (if 0 < a.ctleUp then min 31 (x.ctle + 1) else if a.ctleUp < 0 then x.ctle - 1 else x.ctle) else x.ctle
  let ctleAt := if ctle ≠ x.ctle then s.now else x.ctleAt
  let x := { x with eye := min 255 a.eye, ber := min 18 a.berExp, locked := true, ctle := ctle, ctleAt := ctleAt
                    taps := if l.val = 8 then x.taps else (List.range 12).map fun i => clampTap (a.taps.getD i (x.taps.getD i 0)) }
  let s := modChr s fun c => { c with lanes := c.lanes.set l x }
  if a.eye < 40 ∨ a.berExp < 12 then
    raiseLim s (evKey (1088 + l.val) 0x0700) 1600000000 (1088 + l.val) 0x0700 sevWarn a.eye a.berExp 0 false
  else s

def execChrosyAdaptTick (readings : List ChrAdapt) (s : State) : Out :=
  whenDo (linkOn s) s ((readings.filter fun a => decide (a.lane < 9)).foldl adaptLane s)

/-! ### Registers (R380, R381) -/

/-- `CHROSY.CTL.ENABLE` takes a value. -/
def writeChrosyCtl (s : State) (v : Nat) : State :=
  let s := csrSet s 0x0B0000 (v % 2)
  if v % 2 = 1 then (if s.stack.ready then startLink s else s)
  else if linkOn s then stopLink s 1 else s

/-- QUAL and QTAP of a receive lane. -/
def chrQual (s : State) (sel : Nat) : Vector Word 4 :=
  if sel < 9 then
    let l : Fin 9 := ⟨sel % 9, Nat.mod_lt _ (by decide)⟩
    let x := s.chrosy.lanes[l]
    let q := x.eye + x.ber * 2 ^ 8 + x.ctle * 2 ^ 13 + b2n x.locked * 2 ^ 18 + b2n x.failed * 2 ^ 19
      + b2n (linkOn s && laneUsed s sel) * 2 ^ 20
    let tap (i : Nat) : Nat := if sel = 8 then 0 else ((x.taps.getD i 0) % 256).toNat
    let w (i : Nat) : Word := BitVec.ofNat 32 (((List.range 4).map fun j => tap (4 * i + j) * 2 ^ (8 * j)).sum)
    #v[BitVec.ofNat 32 q, w 0, w 1, w 2]
  else Vector.replicate 4 0

/-- Latch them. Log entry 72. -/
def chrLatch (s : State) : State := modChr s fun c => { c with qual := chrQual s (csrFld s 0x0B0040 0 4) }

end Sys2Proof.Machine
end

