-- ==== Sys2Proof/Machine/Transit.lean ====
section
/-! DEFINITION. Transit (R477 to R493): runs, conditions, results; the IEEE 1149.1 port. -/

namespace Sys2Proof.Machine

/-! ### Selection and resources (R477, R481) -/

/-- Row range of `TRANSIT.ROWS` in force: first, last (R493). -/
def transitRows (s : State) : Nat × Nat :=
  let v := csrForce s 0x0E0038
  let a := bitsOf v 0 16
  let b := bitsOf v 16 16
  if b < a ∨ 49151 < b then (0, 49151) else (a, b)

/-- The march algorithm in force (R479). -/
def transitAlgo (s : State) : Nat := let a := csrForceFld s 0x0E0004 16 2; if a = 3 then 1 else a

/-- The registers select the run: OPD0 = 2 in EXPERT (R493). -/
def bySelection (s : State) (opd : Nat) : Bool := decide (opd = 2) && expert s 0x0E0000

/-- Tests asked for: 0 QUICK, 1 FULL, 2 the selection. -/
def testsAsked (s : State) (opd : Nat) : Nat :=
  if opd = 0 then 0x7F else if bySelection s opd then csrForceFld s 0x0E0004 0 16 &&& 0x37F else 0x37F

/-- Offline pseudo-channels a PC_MARCH covers (R481). -/
def marchPcs (s : State) (opd : Nat) : List Nat :=
  let mask := if bySelection s opd then csrForce s 0x0E0030 + 2 ^ 32 * csrForce s 0x0E0034 else 2 ^ 64 - 1
  ((List.finRange 64).filter fun n => s.pcs[n].mode == .offline && mask.testBit n.val).map (·.val)

/-- One idle spare lane per direction of a port and per pseudo-channel (R126, R477). -/
def idleSpares (s : State) : List (Nat × Nat × Nat) :=
  let pick (k d : Nat) (m : List (Option Nat)) : List (Nat × Nat × Nat) :=
    match (List.range m.length).find? fun i => (m.getD i none).isNone with
    | some i => [(k, d, i)]
    | none => []
  ((List.finRange 16).flatMap fun p => pick p.val 0 s.ports[p].mapDn.toList ++ pick p.val 1 s.ports[p].mapUp.toList) ++
  ((List.finRange 64).flatMap fun n => pick (16 + n.val) 0 s.pcs[n].spares.toList)

/-- A test has a resource in service (R477). -/
def testRuns (s : State) (opd bit : Nat) : Bool :=
  match bit with
  | 3 => (idleSpares s).any fun x => decide (x.1 < 16)
  | 4 => chrosyOn s && (s.chrosy.st == .down || decide (s.chrosy.rxDropped ≠ 0))
  | 5 => (idleSpares s).any (fun x => decide (16 ≤ x.1)) || (List.finRange 64).any fun n => s.pcs[n].mode == .offline
  | 8 => !(marchPcs s opd).isEmpty
  | 9 => (List.range 16).any (wayOpen s)
  | _ => true

/-- A bitmap over test numbers. -/
def testBits (p : Nat → Bool) : Nat := (List.range 10).foldl (fun a i => if p i then a + 2 ^ i else a) 0

/-! ### Starting a run (R482, R483, R485) -/

/-- A run begins: registers cleared, resources held. Cycles of analogue tests and of way marches, which the spec does not
count, are a free value (log entry 50). -/
def startRun (s : State) (tests skipped algo : Nat) (pcs : List Nat) (rows : Nat × Nat) (quick : Bool)
    (desc : Option (Nat × Nat)) : State :=
  let march := if tests.testBit 8 then pcs.length * (rows.2 + 1 - rows.1) * 512 * algoOps algo else 0
  let free := if tests &&& 0x27F = 0 then 0 else Config.freeNat s.free
  let s := if tests &&& 0x27F = 0 then s else s.useFree
  let spares := (idleSpares s).filter fun x => if x.1 < 16 then tests.testBit 3 else tests.testBit 5
  let s := { s with transit :=
    { spareTest := if quick then [] else spares, wayTest := none, running := true, quick := quick, desc := desc
      tests := tests, skipped := skipped, test := lowBit 10 tests, algo := algo, expect := (march + free) % 2 ^ 64
      sig := 2 ^ 64 - 1, sigexp := 2 ^ 64 - 1, pcs := if tests.testBit 8 then pcs else [], rowLo := rows.1, rowHi := rows.2
      window := s.transit.window } }
  bump 0x0E0048 1 (if tests.testBit 9 then testWay s 0 else s)

/-- CCLK within 0.5% of 1.6 GHz over a window (R483). -/
def cclkInLimits (count : Nat) : Bool := decide (16303 ≤ count) && decide (count ≤ 16465)

/-- BIST_RUN (R483, R485): refused with reason 2 during a run, 1 when a condition fails, 3 when no test is left. -/
def bistRun (s : State) (r : Fin 64) (d : WxDesc) (count : Nat) : State :=
  let opd := d.opd 0 % 4
  if s.transit.running then wxEnd s r d.idx wxRefused 0 2
  else
    let s := { s with transit := { s.transit with window := count } }
    if !coreInLimits s || !cclkInLimits count then
      let s := { s with transit := { s.transit with done := false, verdict := 4, abortCause := 0 } }
      wxEnd (raise s 1507 0x0C03 sevWarn (s.therm.chans[96].value / 4) count) r d.idx wxRefused 4 1
    else
      let asked := testsAsked s opd
      let tests := testBits fun i => asked.testBit i && testRuns s opd i
      if tests = 0 then wxEnd s r d.idx wxRefused 0 3
      else
        let sel := bySelection s opd
        let s := startRun s tests (asked - tests) (if sel then transitAlgo s else 1) (marchPcs s opd)
          (if sel then transitRows s else (0, 49151)) false (some (r.val, d.idx))
        wxMod s r d.idx fun d => { d with running := true }

def execBistRun (r : Fin 64) (idx : Nat) (cclkCount : Nat) (s : State) : Out :=
  wxRun 0x13 r idx s fun d => bistRun s r d cclkCount

/-- The QUICK run of a start (R441): every analogue test, on every resource. -/
def startQuick (s : State) : State :=
  let tests := testBits fun i => decide (i < 7) && (decide (i ≠ 4) || chrosyOn s)
  startRun s tests (0x7F - tests) 1 [] (0, 49151) true none

/-! ### During and after a run -/

/-- The way under test has been tested: it returns empty, and the next good one is taken (R182). Log entry 50. -/
def nextWayTest (s : State) : State :=
  match s.transit.wayTest with
  | some w => if outOfService s = 0 then s else testWay { s with transit := { s.transit with wayTest := none } } (w + 1)
  | none => s

/-- A window of 1,024 REFCLK cycles ends (R483). Log entry 50. -/
def cclkWindow (s : State) (count : Nat) : State :=
  let t := { s with transit := { s.transit with window := count } }
  if cclkInLimits count then nextWayTest t else transitAbort t 1

/-- A failure is logged (R488). -/
def logFail (s : State) (f : TransitFail) : State :=
  let lo := f.lo % 2 ^ 31 + 2 ^ 31
  let hi := f.hi % 2 ^ 14 + (f.kind % 4) * 2 ^ 14 + (f.hi / 2 ^ 16 % 2 ^ 16) * 2 ^ 16
  let t := s.transit
  let t := { t with fails := satAdd 511 t.fails 1 }
  let t := if t.log.length < 64 then { t with log := t.log ++ [(lo, hi)] } else { t with ovf := true }
  raiseLim { s with transit := t } (evKey 1505 0x0C01) ms 1505 0x0C01 sevWarn (lo + hi * 2 ^ 32) 0 1 false

/-- What a failure changes in service (R478): a spare is marked failed, a way is disabled. -/
def failEffect (s : State) (f : TransitFail) : State :=
  let test := bitsOf f.hi 10 4
  let k := bitsOf f.lo 0 6
  let pos := bitsOf f.hi 0 7
  let up := decide (bitsOf f.lo 6 5 = 1)
  if f.kind = 1 ∧ test = 3 ∧ 68 ≤ pos ∧ pos < 72 then
    if up then s.modLink (portFin k) fun l => { l with upBad := setInsert l.upBad pos }
    else markLaneFailed s (laneKey (k % 16) pos)
  else if f.kind = 1 ∧ test = 5 ∧ 72 ≤ pos ∧ pos < 74 then markLaneFailed s (tsvKey k pos)
  else if f.kind = 2 ∧ test = 9 ∧ k < 16 then
    if s.lagoon.failed.testBit k then s else disableWay (raiseJ s (1024 + k) 0x0301 sevError 4 0) k
  else s

/-- The highest test of a selection. -/
def lastTest (tests : Nat) : Nat := ((List.range 10).reverse.find? fun i => tests.testBit i).getD 0

/-- The last selected test ends (R480, R486, R487). `missing` is how far the completed cycles fall short of EXPECT.
Log entry 50. -/
def runDone (s : State) (missing sig sigexp : Nat) (fails : List TransitFail) : State :=
  let t := s.transit
  let s := fails.foldl logFail s
  let s := t.pcs.foldl (fun s n => marchLeaves s n t.rowLo t.rowHi t.algo false) s
  let s := match t.wayTest with
    | some w => ((List.range 16).filter fun v => decide (v = w) || decide (w < v) && wayOpen s v).foldl emptyWay s
    | none => s
  let s := transitRelease s
  let s := fails.foldl failEffect s
  let u := { s.transit with done := true, test := lastTest t.tests, sig := sig, sigexp := sigexp
                            cycles := (t.expect + 2 ^ 64 - missing) % 2 ^ 64 }
  let s := { s with transit := { u with verdict := transitVerdict u } }
  let s := raiseJ s 1504 0x0C00 sevNotice s.transit.verdict (transitDetail s.transit)
  transitComplete s t.desc

/-- `TRANSIT.CTL` has been written (R484, R491): ABORT ends the run, but for a start's QUICK run. -/
def writeTransitCtl (s : State) (v : Nat) : State :=
  if v.testBit 0 && s.transit.running && !s.transit.quick then transitAbort s 7 else s

/-! ### The IEEE 1149.1 port (R489, R490) -/

/-- The base die is powered. -/
def corePowered (s : State) : Bool :=
  match s.power.phase with
  | .off | .lowWater => false
  | _ => true

/-- BYPASS: the 1-bit register, which captures 0. Log entry 56. -/
def jtagBypass (s : State) : State := { s with jtag := { s.jtag with ir := 0xFF, dr := 0, driven := false } }

/-- Codes of the instructions other than BYPASS. -/
def jtagListed (c : Nat) : Bool := decide (c = 0x01) || decide (c = 0x02) || decide (c = 0x03) || decide (c = 0x10)

def execBypass (code : Byte) (s : State) : Out :=
  whenDo (corePowered s && !jtagListed code.toNat) s (jtagBypass s)

/-- The identification code: DIE_STEP, part 0x9616, manufacturer 0x54E, 1. Log entry 56. -/
def idcodeOf (s : State) : Nat := bitsOf (csrGet s 0x000000) 16 4 * 2 ^ 28 + 0x9616 * 2 ^ 12 + 0x54E * 2 + 1

def execIdcode (s : State) : Out :=
  whenDo (corePowered s) s { s with jtag := { s.jtag with ir := 0x01, dr := idcodeOf s, driven := false } }

def execSamplePreload (bumps : List Bool) (s : State) : Out :=
  whenDo (corePowered s) s { s with jtag := { s.jtag with ir := 0x02, boundary := bumps, driven := false } }

/-- The instruction acts as BYPASS; JTAG_REFUSED: 0 READY, 1 life cycle. -/
def jtagRefused (s : State) (code why : Nat) : State := raise (jtagBypass s) 1508 0x0C04 sevNotice code why

def execExtest (s : State) : Out :=
  whenDo (corePowered s) s
    (if s.stack.ready then jtagRefused s 0x03 0
     else { s with jtag := { s.jtag with ir := 0x03, driven := true } })

def execWrapSel (s : State) : Out :=
  whenDo (corePowered s) s
    (if s.stack.ready then jtagRefused s 0x10 0
     else if 1 < s.fuse.lc then jtagRefused s 0x10 1
     else { s with jtag := { s.jtag with ir := 0x10, dr := 0, driven := false } })

end Sys2Proof.Machine
end

