-- ==== Sys2Proof/Machine/Fuses.lean ====
section
/-! DEFINITION. The fuse array and the life cycle (R494 to R512), and fuse repair (R256 to R265). -/

namespace Sys2Proof.Machine

/-! ### Groups and words (R494 to R497) -/

/-- First word, last word, and whether the last word is a CRC word. -/
def groupWords (g : Nat) : Nat × Nat × Bool :=
  match g with
  | 0 => (0x0000, 0x003F, true)
  | 1 => (0x0040, 0x004F, true)
  | 2 => (0x0050, 0x00CF, true)
  | 3 => (0x00D0, 0x00E7, false)
  | 4 => (0x00E8, 0x00E8, false)
  | 5 => (0x0100, 0x01FF, true)
  | 6 => (0x0200, 0x1100, true)
  | _ => (0x1200, 0x1CFF, false)

/-- The group of a word; reserved words and GROUP_LOCK have none. -/
def groupOf (w : Nat) : Option (Fin 8) :=
  (List.finRange 8).find? fun g => decide ((groupWords g.val).1 ≤ w) && decide (w ≤ (groupWords g.val).2.1)

/-- A word's reading at a reference: 1 normal, 2 tight, 3 loose. -/
def fuseRead (a : SMap FuseWord) (w ref : Nat) : Nat :=
  let x := smGet {} a w
  (if ref = 1 then x.normal else if ref = 2 then x.tight else x.loose).toNat

/-- The three readings are not all equal (R498). -/
def fuseMarginal (x : FuseWord) : Bool := decide (x.normal ≠ x.tight) || decide (x.normal ≠ x.loose)

/-- Words of a group that read other than zero at some reference. -/
def groupEntries (a : SMap FuseWord) (g : Nat) : List (Nat × FuseWord) :=
  a.filter fun x => decide ((groupWords g).1 ≤ x.1) && decide (x.1 ≤ (groupWords g).2.1)

/-- The CRC of a group's words at a reference (R497). -/
def groupCrc (a : SMap FuseWord) (g ref : Nat) : Nat :=
  let (lo, hi, _) := groupWords g
  crc16 ((List.range (hi - lo)).flatMap fun i => bytesOf 4 (fuseRead a (lo + i) ref))

/-- The group CRC passes at a reference. -/
def groupPasses (a : SMap FuseWord) (g ref : Nat) : Bool :=
  decide (fuseRead a (groupWords g).2.1 ref = groupCrc a g ref)

/-- The lock fuse of a group (R496). -/
def groupLocked (a : SMap FuseWord) (g : Nat) : Bool :=
  let x := fuseRead a 0x1FFF 1
  decide (2 ≤ bitsOf x g 1 + bitsOf x (g + 8) 1 + bitsOf x (g + 16) 1)

/-- VALIDITY of R511 by the rules of R498. -/
def groupValidity (a : SMap FuseWord) (g : Nat) : Nat :=
  if !(groupWords g).2.2 then 1
  else if (groupEntries a g).isEmpty then 0
  else if groupPasses a g 1 then 1 else if groupPasses a g 3 then 2 else 3

/-- A group's status at power-up. -/
def senseGroup (a : SMap FuseWord) (g : Nat) : GroupSt :=
  let v := groupValidity a g
  let l := groupLocked a g
  { validity := v, locked := l, lockedInvalid := l && decide (v = 3)
    marginal := ((groupEntries a g).filter fun x => fuseMarginal x.2).length, drift := false }

/-- A check-worded entry's value in force (R258): entry word and check word at the normal, else the loose reference. -/
def fieldEntry (a : SMap FuseWord) (i : Nat) : Option Nat :=
  let at_ (ref : Nat) : Option Nat :=
    let w := fuseRead a (0x1200 + 2 * i) ref
    if fuseRead a (0x1201 + 2 * i) ref = crc16 (bytesOf 2 i ++ bytesOf 4 w) then some w else none
  match at_ 1 with
  | some w => some w
  | none => at_ 3

/-- The value of a word in force since power-up: REF 0 of `FUSE.RDSEL` (R498, R505, R506). -/
def fuseForce (s : State) (w : Nat) : Nat :=
  match groupOf w with
  | none => fuseRead s.fuse.latched w 1
  | some g =>
    if g = 3 ∨ g = 4 then fuseRead s.fuse.latched w 3
    else if g = 7 then
      let i := (w - 0x1200) / 2
      match fieldEntry s.fuse.latched i with
      | some e => if w % 2 = 0 then e else crc16 (bytesOf 2 i ++ bytesOf 4 e)
      | none => 0
    else
      let v := s.fuse.groups[g].validity
      if v = 1 then fuseRead s.fuse.latched w 1 else if v = 2 then fuseRead s.fuse.latched w 3 else 0

/-- The group's own values are in force, not its defaults. -/
def groupUsable (s : State) (g : Fin 8) : Bool := decide (s.fuse.groups[g].validity = 1) || decide (s.fuse.groups[g].validity = 2)

/-! ### Thermometers (R505, R506) -/

/-- A step of LIFECYCLE counts: two of its four bits read 1. -/
def lcStep (x k : Nat) : Bool := decide (2 ≤ popc 2 (bitsOf x (4 * (k - 1)) 4))

/-- The life-cycle state of a LIFECYCLE word. -/
def lcOfWord (x : Nat) : Nat := (([5, 4, 3, 2, 1] : List Nat).find? (lcStep x)).getD 0

/-- The life-cycle state an array holds. -/
def lcOf (a : SMap FuseWord) : Nat := lcOfWord (fuseRead a 0x00E8 3)

/-- A lower step does not count although a higher one does. -/
def lcGap (x : Nat) : Bool := (List.range 5).any fun k => decide (1 ≤ k) && decide (k < lcOfWord x) && !lcStep x k

/-- The index of a component's ROLLBACK thermometer: one above its highest bit at the loose reference. -/
def rollbackIdx (a : SMap FuseWord) (c : Nat) : Nat :=
  match (List.range 256).reverse.find? fun i => (fuseRead a (0x00D0 + 8 * c + i / 32) 3).testBit (i % 32) with
  | some i => i + 1
  | none => 0

/-! ### Sensing at power-up (R498 to R500) -/

/-- What the defaults or the fuses put into the registers of identity and features (R5, R7, R500, R533); a usable FEATURE group
with a reserved LANE_RATE reports 0. Log entries 2, 94. -/
def fuseRegs (s : State) : State :=
  let id := groupUsable s 0
  let ft := groupUsable s 1
  let w := fuseForce s 0x0040
  let feat := if ft then (if bitsOf w 0 2 = 1 then 1 else 0) + bitsOf w 2 2 * 4 else 8 + 16
  let order := if id then bitsOf (fuseForce s 4) 0 8 else 0
  let s := csrSet s 0x000008 (feat + order * 256)
  let s := csrSet s 0x000000 (putBits (csrGet s 0x000000) 20 8 (if id then bitsOf (fuseForce s 4) 12 8 else 0))
  let s := (List.range 4).foldl (fun s i => csrSet s (0x000050 + 4 * i) (if id then fuseForce s i else 0)) s
  -- the places of the coefficients in TRIM, and Pyevo's defaults, are not stated: a free value
  csrSet s.useFree 0x080024 (Config.freeNat s.free % 2 ^ 32)

/-- The events of one group at sensing (R498, R500, R512). -/
def groupEvents (s : State) (g : Fin 8) : State :=
  let st := s.fuse.groups[g]
  let a := s.fuse.latched
  let s := if st.validity = 3 then
      let first := ((groupEntries a g.val).find? fun x => fuseMarginal x.2).map (·.1)
      raiseJ s (1408 + g.val) 0x0D00 sevError (first.getD (groupWords g.val).2.1) (groupCrc a g.val 3)
    else s
  let s := if st.marginal = 0 then s else raise s (1408 + g.val) 0x0D01 sevNotice st.marginal st.validity
  if st.lockedInvalid then raiseJ s (1408 + g.val) 0x0D02 sevError g.val (fuseRead a (groupWords g.val).2.1 1) else s

/-- Words whose readings have changed. -/
def putReadings (a : SMap FuseWord) (l : List FuseReading) : SMap FuseWord :=
  (l.filter fun r => decide (r.word < 8192)).foldl (fun a r =>
    smSet {} a r.word { normal := r.normal, tight := r.tight, loose := r.loose }) a

/-- Every word sensed at three references, groups validated, shadows loaded. -/
def senseFuses (s : State) (drift : List FuseReading) : State :=
  let a := putReadings s.fuse.arr drift
  let x := fuseRead a 0x00E8 3
  let s := { s with fuse := { s.fuse with
      arr := a, latched := a, groups := Vector.ofFn fun g : Fin 8 => senseGroup a g.val
      lc := lcOfWord x, inconsistent := lcGap x, op := none, result := 0, pulses := 0, advanced := false, drifted := []
      rdata := 0, rdataAt := 0 } }
  let s := (List.finRange 8).foldl groupEvents (fuseRegs s)
  if lcGap x then raise s 1417 0x0D07 sevWarn x (lcOfWord x) else s

/-! ### The repair map (R256 to R259) -/

/-- A row entry of the map. -/
def rowEntry (w : Nat) : Option SoftRep :=
  let r := bitsOf w 0 16
  if r = 0 then none else some { pc := bitsOf w 21 6, bank := bitsOf w 16 5, row := r - 1, spare := bitsOf w 27 5 }

/-- The entry word of a row repair. -/
def rowWord (r : SoftRep) : Nat := r.row + 1 + r.bank * 2 ^ 16 + r.pc * 2 ^ 21 + r.spare * 2 ^ 27

/-- Row entries and column entries of the map in order of word offset, factory first: word offset in its group, the word. -/
def mapWords (s : State) : List (Nat × Nat) :=
  let fac := if groupUsable s 6 then
      ((groupEntries s.fuse.latched 6).filter fun x => decide (x.1 < 0x1100)).map fun x => (x.1 - 0x0200, fuseForce s x.1)
    else []
  let field := ((groupEntries s.fuse.latched 7).filter fun x => decide (x.1 % 2 = 0)).filterMap fun x =>
    let i := (x.1 - 0x1200) / 2
    (fieldEntry s.fuse.latched i).map fun w => (if i < 1024 then 3840 + i else if i < 1280 then 5000 + i else 8000 + i, w)
  fac ++ field

/-- FUSE_ENTRY_BAD (R271). -/
def entryBad (s : State) (n off w : Nat) : State := raiseJ s (pcSrc (n % 64) 6) 0x0233 sevWarn off w

/-- Load of the field entries whose check fails. -/
def badField (s : State) : State :=
  ((groupEntries s.fuse.latched 7).filter fun x => decide (x.1 % 2 = 0)).foldl (fun s x =>
    let i := (x.1 - 0x1200) / 2
    let w := fuseRead s.fuse.latched x.1 1
    let n := if i < 1024 then bitsOf w 21 6 else if i < 1280 then bitsOf w 9 6 else (i - 1280) / 2
    if (fieldEntry s.fuse.latched i).isNone then entryBad s n (x.1 - 0x1200) w else s) s

/-- One map word takes force, unless an earlier one names the same row or column (R259). Columns in force are those of
`DramSt.fuseCols`. -/
def loadEntry (s : State) (e : Nat × Nat) : State :=
  let (k, w) := e
  let row := decide (k < 3072) || (decide (3840 ≤ k) && decide (k < 4864))
  let off := if k < 3840 then k else if k < 4864 then 2 * (k - 3840) else if k < 8000 then 2 * (k - 5000) else 2 * (k - 8000)
  if row then
    match rowEntry w with
    | none => s
    | some r =>
      if s.dram.fuseRows.any (fun q => decide (q.pc = r.pc ∧ q.bank = r.bank ∧ q.row = r.row)) then entryBad s r.pc off w
      else { s with dram := { s.dram with fuseRows := s.dram.fuseRows ++ [r] } }
  else if k < 8000 then
    if bitsOf w 18 1 = 0 then s
    else if s.dram.fuseCols.any (fun q => decide (q % 2 ^ 15 = w % 2 ^ 15)) then entryBad s (bitsOf w 9 6) off w
    else { s with dram := { s.dram with fuseCols := s.dram.fuseCols ++ [w % 2 ^ 19] } }
  else
    let i := k - 8000 - 1280
    let lane := bitsOf w 0 7
    if bitsOf w 7 1 = 0 ∨ 72 ≤ lane then s
    else s.modPc (pcFin (i / 2)) fun c =>
      { c with failedLanes := if c.failedLanes.contains lane then c.failedLanes else c.failedLanes ++ [lane]
               spares := if i % 2 = 0 then c.spares.set 0 (some lane) else c.spares.set 1 (some lane) }

/-- The fuse map is loaded into the DRAM dies (R259), which report their own repairs (R198). -/
def loadRepairs (s : State) : State :=
  let die := (Config.dieRows s.free).filter fun r => decide (r.2.2.2 < 32)
  let s := s.useFree
  let s := { s with dram := { s.dram with fuseRows := [], fuseCols := [], dieRows := die } }
  badField ((mapWords s).foldl loadEntry s)

/-- Field slots used: row, column, TSV (R270, R509). -/
def fieldUsed (s : State) (lo hi : Nat) : Nat :=
  ((groupEntries s.fuse.arr 7).filter fun x =>
    decide (x.1 % 2 = 0) && decide (lo ≤ (x.1 - 0x1200) / 2) && decide ((x.1 - 0x1200) / 2 < hi)).length

/-- The first free field slot of a kind. -/
def fieldSlot (s : State) (lo hi : Nat) : Option Nat :=
  ((List.range (hi - lo)).map (lo + ·)).find? fun i => decide (smGet {} s.fuse.arr (0x1200 + 2 * i) = ({} : FuseWord))

/-! ### Programming (R501 to R507) -/

/-- A group may be programmed in a life-cycle state (R501). -/
def programmable (lc g : Nat) : Bool :=
  if lc ≤ 1 then true else if lc = 2 then decide (g ≤ 2) else if lc = 3 then decide (g = 3) || decide (g = 7) else false

/-- `FUSE.PSTAT.COND`: VPP_FUSE, VDD_CORE, base die temperature within the limits of R504. -/
def fuseCond (s : State) : Nat :=
  let v := s.therm.chans[109].value
  let t := match dieTemp s 17 with | some t => decide (-40 ≤ t) && decide (t ≤ 340) | none => false
  b2n (decide (6984 ≤ v) && decide (v ≤ 7416)) + 2 * b2n (coreInLimits s) + 4 * b2n t

/-- A group is locked and VALID since power-up. -/
def lockedValid (s : State) (g : Fin 8) : Bool := s.fuse.groups[g].locked && decide (s.fuse.groups[g].validity = 1)

/-- Why an operation is refused: a result of R511, 0 for none (R502, R503). -/
def fuseRefused (s : State) (o : FuseOp) : Nat :=
  let a := s.fuse.arr
  let lc := s.fuse.lc
  let g := o.group
  let noCrc := !(groupWords g).2.2
  if s.fuse.advanced ∧ o.op ≠ 4 then 1
  else match o.op with
    | 1 =>
      match groupOf o.word with
      | none => 7
      | some w =>
        if !programmable lc w.val then 1 else if groupLocked a w.val then 2
        else if (groupWords w.val).2.2 && decide (fuseRead a (groupWords w.val).2.1 1 ≠ 0) then 3 else 0
    | 2 =>
      if noCrc then 7 else if !programmable lc g then 1 else if groupLocked a g then 2
      else if fuseRead a (groupWords g).2.1 1 ≠ 0 then 3 else 0
    | 3 =>
      if noCrc then 7 else if !programmable lc g then 1 else if groupLocked a g then 2
      else if fuseRead a (groupWords g).2.1 2 ≠ 0 ∧ groupPasses a g 2 then 0 else 6
    | 4 =>
      let next := lcOf a + 1
      if 5 < next then 8
      else if 2 ≤ next ∧ next ≤ 3 ∧ !(lockedValid s 5 && lockedValid s 6) then 1
      else if next = 3 ∧ !(lockedValid s 0 && lockedValid s 1 && lockedValid s 2) then 1 else 0
    | 5 => if lc ≤ 1 then 0 else 7
    | 8 => 0
    | _ => 7

/-- Word and data an operation programs. -/
def fuseTarget (s : State) (o : FuseOp) : Nat × Nat :=
  match o.op with
  | 2 => ((groupWords o.group).2.1, groupCrc s.fuse.arr o.group 1)
  | 3 => (0x1FFF, 2 ^ o.group + 2 ^ (o.group + 8) + 2 ^ (o.group + 16))
  | 4 => (0x00E8, 0xF * 2 ^ (4 * lcOf s.fuse.arr))
  | _ => (o.word, o.data.toNat)

/-- FUSE_PROG (R512). -/
def fuseProg (s : State) (word op result pulses : Nat) : State :=
  raiseJ s 1416 0x0D04 sevNotice (word % 8192 + op * 8192) (result + (pulses % 2048) * 16)

def setFuseResult (s : State) (r : Nat) : State := { s with fuse := { s.fuse with result := r } }

/-- The request of a `FUSE.PCMD` dual write (R503, R510). -/
def fuseRequest (s : State) (v : Nat) : State :=
  let op := bitsOf v 0 3
  let o : FuseOp := { op := op, group := bitsOf v 3 3, word := csrFld s 0x010040 0 13, data := BitVec.ofNat 32 (csrGet s 0x010044) }
  if op = 0 then s
  else if s.fuse.op.isSome then fuseProg s (fuseTarget s o).1 op 9 0
  else if keeperUp s && decide (fuseRefused s o ≠ 0) then setFuseResult s (fuseRefused s o)
  else { s with fuse := { s.fuse with op := some o, result := 0, pulses := 0, advanced := s.fuse.advanced || (decide (op = 4) && keeperUp s) } }

/-- The Keeper's own request: the next pending TSV entry, where the life cycle permits it (R267). -/
def tsvRequest (s : State) : Option FuseOp :=
  match s.dram.tsvPending with
  | (n, lane, sp) :: _ =>
    if programmable s.fuse.lc 7 && !s.fuse.advanced then
      some { op := 8, group := 7, word := 0x1200 + 2 * (1280 + 2 * n + sp), data := BitVec.ofNat 32 (lane + 128) }
    else none
  | [] => none

/-- The conditions forbid the pulse (R504). Log entry 52. -/
def fuseNoPulse (s : State) (word : Nat) : State :=
  raise { s with fuse := { s.fuse with op := none, result := 4 } } 1416 0x0D05 sevWarn (fuseCond s) word

/-- An operation begins: refused, ended by the conditions, or pulsing. -/
def fuseStart (s : State) (o : FuseOp) : State :=
  if fuseRefused s o ≠ 0 then setFuseResult { s with fuse := { s.fuse with op := none } } (fuseRefused s o)
  else if fuseCond s ≠ 7 then fuseNoPulse s (fuseTarget s o).1
  else
    let (w, d) := fuseTarget s o
    { s with fuse := { s.fuse with op := some { o with word := w, data := BitVec.ofNat 32 d, started := true }
                                   advanced := s.fuse.advanced || decide (o.op = 4) } }

def execFuseOpStart (s : State) : Out :=
  match s.fuse.op with
  | some o => whenDo (keeperUp s && !o.started) s (fuseStart s o)
  | none =>
    match tsvRequest s with
    | some o => whenDo (keeperUp s && s.stack.ready) s (fuseStart s o)
    | none => .next s

/-- Program bits of a word: every reading gains them, but where `weak` gives the readings the pulses have reached.
Log entry 52. -/
def fusePulse (a : SMap FuseWord) (w d : Nat) (weak : List FuseReading) : SMap FuseWord :=
  let x := smGet {} a w
  let b := BitVec.ofNat 32 d
  match weak.find? (fun r => decide (r.word = w)) with
  | some r => smSet {} a w { normal := x.normal ||| r.normal, tight := x.tight ||| r.tight, loose := x.loose ||| r.loose }
  | none => smSet {} a w { normal := x.normal ||| b, tight := x.tight ||| b, loose := x.loose ||| b }

/-- The word equals its old value OR the data at every reference (R505). -/
def fuseVerified (old new : SMap FuseWord) (w d : Nat) : Bool :=
  let x := (smGet {} old w).normal ||| BitVec.ofNat 32 d
  let y := smGet {} new w
  decide (y.normal = x) && decide (y.tight = x) && decide (y.loose = x)

/-- The check word of a field entry (R258). -/
def checkWord (i w : Nat) : Nat := crc16 (bytesOf 2 i ++ bytesOf 4 w)

/-- An entry and its check word are programmed (R264): the array, and whether both verified. Log entry 53. -/
def fieldPulse (a : SMap FuseWord) (i w : Nat) (weak : List FuseReading) : SMap FuseWord × Bool :=
  let b := fusePulse a (0x1200 + 2 * i) w weak
  if fuseVerified a b (0x1200 + 2 * i) w then
    let c := fusePulse b (0x1201 + 2 * i) (checkWord i w) weak
    (c, fuseVerified b c (0x1201 + 2 * i) (checkWord i w))
  else (b, false)

/-- The FUSE_PROG records of an entry's two WRITE operations (R503, R505). Log entry 53. -/
def fieldProg (s : State) (old new : SMap FuseWord) (i w pulses : Nat) : State :=
  let res (k d : Nat) : Nat := if fuseVerified old new k d then 0 else 5
  let s := fuseProg s (0x1200 + 2 * i) 1 (res (0x1200 + 2 * i) w) pulses
  if res (0x1200 + 2 * i) w = 0 then fuseProg s (0x1201 + 2 * i) 1 (res (0x1201 + 2 * i) (checkWord i w)) pulses else s

/-- A TSV entry has been programmed (R264, R267). -/
def tsvProgrammed (s : State) (o : FuseOp) (weak : List FuseReading) (pulses : Nat) : State :=
  let i := (o.word - 0x1200) / 2
  let old := s.fuse.arr
  let (a, ok) := fieldPulse old i o.data.toNat weak
  let s := { s with fuse := { s.fuse with arr := a, op := none, result := if ok then 0 else 5, pulses := pulses }
                    dram := { s.dram with tsvPending := s.dram.tsvPending.drop 1 } }
  let s := fieldProg s old a i o.data.toNat pulses
  if ok then raiseJ s (pcSrc ((i - 1280) / 2) 6) 0x0232 sevNotice 2 (1 + i * 16) else s

/-- An operation ends with its verify result, or where the conditions fail with bits yet to be programmed (R504, R505, R510).
Log entry 52. -/
def fuseDone (s : State) (o : FuseOp) (weak : List FuseReading) (pulses : Nat) : State :=
  let d := o.data.toNat
  let a := fusePulse s.fuse.arr o.word d weak
  if fuseCond s ≠ 7 ∧ fuseVerified s.fuse.arr a o.word d = false then
    fuseNoPulse { s with fuse := { s.fuse with arr := a, pulses := pulses } } o.word
  else if o.op = 8 then tsvProgrammed s o weak pulses
  else
    let r := if fuseVerified s.fuse.arr a o.word d then 0 else 5
    let s := { s with fuse := { s.fuse with arr := a, op := none, result := r, pulses := pulses } }
    let s := fuseProg s o.word o.op r pulses
    if o.op = 4 ∧ r = 0 then raiseJ s 1417 0x0D06 sevNotice (lcOf a) s.fuse.lc else s

def execFuseOpDone (weak : List FuseReading) (pulses : Nat) (s : State) : Out :=
  match s.fuse.op with
  | some o => whenDo o.started s (fuseDone s o weak pulses)
  | none => .next s

/-- The word as far as programming got: each reading has gained some of the bits, a weaker reference no fewer.
Log entry 2. -/
def fusePart (s : State) (o : FuseOp) : SMap FuseWord :=
  let x := smGet {} s.fuse.arr o.word
  let m (i : Nat) : Word := o.data &&& BitVec.ofNat 32 (Config.freeNat (s.free + i))
  let t := m 0
  let n := t ||| m 1
  smSet {} s.fuse.arr o.word { normal := x.normal ||| n, tight := x.tight ||| t, loose := x.loose ||| n ||| m 2 }

/-- A reset or power-fail detection stops an operation: no entry, the word as far as programming got (R507). -/
def fuseStop (s : State) : State :=
  match s.fuse.op with
  | none => s
  | some o =>
    let a := if o.started then fusePart s o else s.fuse.arr
    { s.useFree.useFree.useFree with fuse := { s.fuse with op := none, arr := a } }

/-! ### Re-sensing (R508) -/

/-- A drifted word: its group's DRIFT, FUSE_DRIFT once per power-up. -/
def driftWord (s : State) (x : Nat × FuseWord) : State :=
  match groupOf x.1 with
  | none => s
  | some g =>
    let s := { s with fuse := { s.fuse with groups := s.fuse.groups.set g { s.fuse.groups[g] with drift := true } } }
    if s.fuse.drifted.contains x.1 then s
    else
      let s := { s with fuse := { s.fuse with drifted := s.fuse.drifted ++ [x.1] } }
      raise s (1408 + g.val) 0x0D03 sevWarn x.1 (x.2.normal.toNat + x.2.loose.toNat * 2 ^ 32)

/-- Every word is compared with what power-up latched. -/
def resense (s : State) (drift : List FuseReading) : State :=
  let s := { s with fuse := { s.fuse with arr := putReadings s.fuse.arr drift,
                                          resenseAt := s.now - (s.now - s.fuse.resenseAt) % tenMinutes } }
  let words := s.fuse.arr ++ (s.fuse.latched.filter fun x => decide (smGet {} s.fuse.arr x.1 = ({} : FuseWord))).map
    fun x => (x.1, ({} : FuseWord))
  (words.filter fun x =>
    let old := smGet {} s.fuse.latched x.1
    decide (x.2 ≠ old) || (fuseMarginal x.2 && !fuseMarginal old)).foldl driftWord s

def execFuseResense (drift : List FuseReading) (s : State) : Out :=
  whenDo (s.stack.ready && s.fuse.op.isNone && !s.power.failing) s (resense (s.atLeast (s.fuse.resenseAt + tenMinutes)) drift)

/-- `FUSE.RDSEL` has been written: the word is sensed and shown 1 us later (R511). Log entry 52. -/
def writeRdsel (s : State) (v : Nat) : State :=
  let w := bitsOf v 0 13
  let ref := bitsOf v 13 2
  let x := if ref = 0 then fuseForce s w else fuseRead s.fuse.arr w ref
  { s with fuse := { s.fuse with rdata := BitVec.ofNat 32 x, rdataAt := s.now + 1600 } }

/-! ### REPAIR_FUSE (R263 to R265) -/

/-- The spare columns of a bank group that entries in force use (R253, R256). -/
def spareCols (s : State) (n group : Nat) : List Nat :=
  (s.dram.fuseCols.filter fun w => decide (bitsOf w 9 6 = n) && decide (bitsOf w 4 5 % 4 = group)).map fun w => bitsOf w 15 3

/-- A refusal, with REPAIR_REFUSED. -/
def fuseRepairRefused (s : State) (r : Fin 64) (d : WxDesc) (n bank row why : Nat) : State :=
  wxEnd (repairRefused s (pcFin n) bank row why) r d.idx wxRefused 0 why

/-- The entry is programmed; what it names takes force. Log entry 53. -/
def fuseRepairProgram (s : State) (r : Fin 64) (d : WxDesc) (kind n slot w : Nat) (ok : Bool) (f : State → State) : State :=
  let weak : List FuseReading := if ok then [] else [⟨0x1201 + 2 * slot, 0, 0, 0⟩]
  let old := s.fuse.arr
  let (a, good) := fieldPulse old slot w weak
  let s := fieldProg { s with fuse := { s.fuse with arr := a } } old a slot w 0
  if good then
    let s := raiseJ (f s) (pcSrc n 6) 0x0232 sevNotice kind (1 + slot * 16)
    wxEnd s r d.idx 0 slot 0
  else wxEnd s r d.idx wxRefused slot 0

/-- A row target: a soft repair becomes a field entry with the same spare. Log entry 53. -/
def fuseRow (s : State) (r : Fin 64) (d : WxDesc) (idx : Fin 256) (ok : Bool) : State :=
  match s.dram.soft[idx] with
  | none => fuseRepairRefused s r d 0 0 0 5
  | some e =>
    match fieldSlot s 0 1024 with
    | none => fuseRepairRefused s r d e.pc e.bank e.row 6
    | some slot =>
      if fuseCond s ≠ 7 then fuseRepairRefused (fuseNoPulse s (0x1200 + 2 * slot)) r d e.pc e.bank e.row 5
      else
        fuseRepairProgram s r d 0 e.pc slot (rowWord e) ok fun s =>
          { s with dram := { s.dram with soft := s.dram.soft.set idx none, fuseRows := s.dram.fuseRows ++ [e] } }

/-- A column is copied into its spare (R265): one ACT, one read and one write in each of the bank's rows, 110 CCLK a row.
Log entry 50. -/
def columnCopy (s : State) (n : Pc) : State :=
  let s := bump (pcReg n.val 0x010) 49152 (bump (pcReg n.val 0x00C) 49152 s)
  (s.atLeast (s.now + 110 * 49152)).modPc n fun c => { c with beats := c.beats + 16 * 49152 }

/-- A column target, on an offline pseudo-channel. Log entry 53. -/
def fuseCol (s : State) (r : Fin 64) (d : WxDesc) (n bank col : Nat) (ok : Bool) : State :=
  if s.pcs[pcFin n].mode != .offline then fuseRepairRefused s r d n bank 0 4
  else if s.dram.fuseCols.any (fun w => decide (w % 2 ^ 15 = col + bank * 16 + n * 512)) then fuseRepairRefused s r d n bank 0 1
  else match (List.range 8).find? fun k => !(spareCols s n (bank % 4)).contains k with
    | none => fuseRepairRefused s r d n bank 0 2
    | some spare =>
      match fieldSlot s 1024 1280 with
      | none => fuseRepairRefused s r d n bank 0 6
      | some slot =>
        if fuseCond s ≠ 7 then fuseRepairRefused (fuseNoPulse s (0x1200 + 2 * slot)) r d n bank 0 5
        else
          let s := columnCopy s (pcFin n)
          let w := col + bank * 16 + n * 512 + spare * 2 ^ 15 + 2 ^ 18
          fuseRepairProgram s r d 1 n slot w ok fun s => { s with dram := { s.dram with fuseCols := s.dram.fuseCols ++ [w] } }

/-- REPAIR_FUSE: life cycle DEPLOYED and FUSEAUTH armed; FUSEAUTH is disarmed whatever the outcome. Log entry 53. -/
def repairFuse (s : State) (r : Fin 64) (d : WxDesc) (ok : Bool) : State :=
  let v := csrGet s 0x070210
  let s := dwHardware (csrSet s 0x070210 0) 0x070210
  let n := bitsOf v 10 6
  let bank := bitsOf v 16 5
  if bitsOf v 0 1 = 0 ∨ s.fuse.lc ≠ 3 ∨ s.fuse.advanced then fuseRepairRefused s r d n bank 0 5
  else if bitsOf v 1 1 = 0 then fuseRow s r d ⟨bitsOf v 2 8 % 256, Nat.mod_lt _ (by decide)⟩ ok
  else fuseCol s r d n bank (bitsOf v 21 4) ok

def execRepairFuse (r : Fin 64) (idx : Nat) (verified : Bool) (s : State) : Out :=
  wxRun 0x15 r idx s fun d => repairFuse s r d verified

end Sys2Proof.Machine
end

