-- ==== Sys2Proof/Machine/Firmware.lean ====
section
/-! DEFINITION. Firmware update, the lease, commit and rollback, settings records, the Keeper's restarts (R25 to R28, R513 to
R531). -/

namespace Sys2Proof.Machine

/-! ### Slots and images (R513, R515) -/

def compFin (c : Nat) : Fin 3 := ⟨c % 3, Nat.mod_lt _ (by decide)⟩

/-- A slot of a component: 0 A, 1 B. -/
def slotGet (s : State) (c i : Nat) : FwSlot := if i = 0 then s.fw.slots[compFin c][0] else s.fw.slots[compFin c][1]

def slotSet (s : State) (c i : Nat) (x : FwSlot) : State :=
  let v := s.fw.slots[compFin c]
  { s with fw := { s.fw with slots := s.fw.slots.set (compFin c) (if i = 0 then v.set 0 x else v.set 1 x) } }

def activeIdx (s : State) (c : Nat) : Nat := s.fw.active[compFin c]
def idleIdx (s : State) (c : Nat) : Nat := 1 - activeIdx s c

/-- The boot record is rewritten, its lower copy first: both take the next generation (R513). Log entry 95. -/
def bootWrite (s : State) : State := { s with fw := { s.fw with bootGens := s.fw.bootGens.map (· + 1) } }

/-- A settings record with new values: both copies take the next generation (R513). Log entry 95. -/
def rewriteRec (r : SetRec) (vals : SMap Word) : SetRec := { r with vals := vals, gens := r.gens.map (· + 1) }

def setActive (s : State) (c i : Nat) : State := { s with fw := { s.fw with active := s.fw.active.set (compFin c) i } }

/-- Version of the active image; an image the model holds no header of reads 0 (log entry 15). -/
def activeVersion (s : State) (c : Nat) : Nat := ((slotGet s c (activeIdx s c)).hdr.map (·.version)).getD 0

/-- Bytes of a component's slot. -/
def imgSlotSize (c : Nat) : Nat := if c = 0 then 0x200000 else if c = 1 then 0x40000 else 0x20000

/-- Bytes `lo` to `lo + n - 1` of a list, as a number. -/
def bytesAt (l : List Nat) (lo n : Nat) : Nat := ofBytes ((l.drop lo).take n)

/-- The header that 512 bytes spell. -/
def parseHeader (l : List Nat) : ImageHeader :=
  { magic := BitVec.ofNat 32 (bytesAt l 0 4), hwType := bytesAt l 4 2, component := bytesAt l 6 1, hdrFmt := bytesAt l 7 1
    version := bytesAt l 8 4, rangeLoMin := bytesAt l 12 4, rangeLoMax := bytesAt l 16 4, rangeHiMin := bytesAt l 20 4
    rangeHiMax := bytesAt l 24 4, unitBind := BitVec.ofNat 128 (bytesAt l 28 16), rollback := bytesAt l 44 2
    keySlot := bytesAt l 46 1, length := bytesAt l 48 4, setFmt := bytesAt l 52 1, setFmtMin := bytesAt l 53 1
    bodyHash := BitVec.ofNat 384 (bytesAt l 56 48), signature := BitVec.ofNat 768 (bytesAt l 104 96)
    pubkey := BitVec.ofNat 768 (bytesAt l 200 96), hdrCrc := BitVec.ofNat 32 (bytesAt l 508 4)
    raw := (l.take 508).map (BitVec.ofNat 8) }

def byteList (l : List Nat) : List Byte := l.map (BitVec.ofNat 8)

/-! ### Header checks (R516 to R521, R524) -/

/-- KEYS slot k: 384 bits, word 0 lowest. -/
def keyHash (s : State) (k : Nat) : BitVec 384 :=
  BitVec.ofNat 384 ((List.range 12).foldl (fun a i => a + fuseForce s (0x0050 + 12 * k + i) * 2 ^ (32 * i)) 0)

/-- The unit identity of IDENT words 0 to 3. -/
def unitId (s : State) : BitVec 128 :=
  BitVec.ofNat 128 ((List.range 4).foldl (fun a i => a + fuseForce s i * 2 ^ (32 * i)) 0)

/-- The rollback floor of a component (R524). -/
def rbFloor (s : State) (c : Nat) : Nat := max (rollbackIdx s.fuse.arr c) s.fw.floors[compFin c]

/-- The version range a header states for another component. Log entry 15. -/
def rangeFor (h : ImageHeader) (c d : Nat) : Nat × Nat :=
  let lower := if c = 0 then 1 else 0
  if d = lower then (h.rangeLoMin, h.rangeLoMax) else (h.rangeHiMin, h.rangeHiMax)

/-- Compatibility with the installed set (R521). -/
def compatible (s : State) (h : ImageHeader) (c : Nat) : Bool :=
  ((List.range 3).filter fun d => decide (d ≠ c)).all fun d =>
    match (slotGet s d (activeIdx s d)).hdr with
    | none => true
    | some k =>
      let (a, b) := rangeFor h c d
      let (x, y) := rangeFor k d c
      decide (a ≤ k.version) && decide (k.version ≤ b) && decide (x ≤ h.version) && decide (h.version ≤ y)

/-- Place in the order Sextant, Chrosy, Keeper (R520). -/
def orderOf (c : Nat) : Nat := if c = 0 then 2 else c - 1

/-- The order of R520 refuses the component. -/
def orderBad (s : State) (c : Nat) : Bool :=
  (List.range 3).any fun d =>
    (s.fw.activated.testBit d && decide (orderOf c ≤ orderOf d)) ||
    (decide (d ≠ c) && s.fw.staged.testBit d && !s.fw.activated.testBit d && decide ((slotGet s d (idleIdx s d)).st = 2))

/-- Steps 1 to 9 of a header check (R516): a code of R527. -/
def headerCode (s : State) (comp : Nat) (h : ImageHeader) : Nat :=
  let k := keyHash s h.keySlot
  if crc32c (h.raw.map BitVec.toNat) ≠ h.hdrCrc.toNat ∨ h.magic ≠ 0x58464950 ∨ h.hdrFmt ≠ 1 then 0x01
  else if h.hwType ≠ 0x9616 then 0x02
  else if 2 < h.component ∨ h.component ≠ comp then 0x03
  else if h.length = 0 ∨ imgSlotSize comp - 512 < h.length then 0x04
  else if !groupUsable s 2 ∨ 3 < h.keySlot ∨ k = 0 then 0x05
  else if Config.sha384 (byteList (bytesOf 96 h.pubkey.toNat)) ≠ k then 0x06
  else if !Config.ecdsaOk h.pubkey (Config.sha384 (h.raw.take 104)) h.signature then 0x07
  else if h.unitBind ≠ 0 ∧ (!groupUsable s 0 ∨ h.unitBind ≠ unitId s) then 0x08
  else if h.rollback < rbFloor s comp then 0x09
  else 0

/-- The result code of a header check (R516, R527). `src` 1 host, 2 management port. -/
def checkHeader (s : State) (src comp : Nat) (h : ImageHeader) : Nat :=
  if headerCode s comp h ≠ 0 then headerCode s comp h
  else if s.fw.holder ≠ 0 ∧ s.fw.holder ≠ src then 0x12
  else if orderBad s comp then 0x0B
  else if !compatible s h comp then 0x0A
  else 0

/-! ### Journal entries and events (R528, R531) -/

/-- An UPDATE entry: component, step, source, version, slot, outcome. -/
def updEntry (s : State) (c step src version slot outcome : Nat) : State :=
  journal s 0x0005 1448 (bodyAt 24 c + bodyAt 25 step + bodyAt 26 (src - 1) + bodyAt 28 (version % 2 ^ 32) + bodyAt 32 slot
    + bodyAt 33 outcome)

/-- An event whose UPDATE entry has just been formed. -/
def updEvent (s : State) (src code sev a0 a1 : Nat) : State := raiseX s src code sev a0 a1 true false true

/-- The lease ends (R518): its entry, and FW_LEASE where R531 gives its cause. -/
def endLease (s : State) (cause : Nat) : State :=
  let src := max 1 s.fw.holder
  let s := { s with fw := { s.fw with holder := 0, activated := 0, cleanBoots := 0, wdog := 0, staged := 0
                                      staging := Vector.replicate 2 none, hdrBuf := Vector.replicate 2 [] } }
  let s := updEntry (bootWrite s) 0 6 src 0 0 0
  if cause = 0 then s else updEvent s 1448 0x0E10 sevNotice 0 cause

/-- A header is taken or refused: its entry, the lease, the slot (R516, R518). Answers the result code. Log entry 54. -/
def takeHeader (s : State) (src comp : Nat) (h : ImageHeader) : Nat × State :=
  let code := checkHeader s src comp h
  let i := idleIdx s comp
  let s := updEntry s comp 1 src h.version i code
  if code ≠ 0 then
    let s := { s with fw := { s.fw with staging := s.fw.staging.set (if src = 1 then 0 else 1 : Fin 2) none } }
    match limitDue s (evKey 1449 0x0E11) ms with
    | none =>
      let (t, c) := smGet (0, 0) s.evt.limits (evKey 1449 0x0E11)
      (code, limitSet s (evKey 1449 0x0E11) (t, satAdd 0xFFFFFFFF c 1))
    | some c =>
      (code, updEvent (limitSet s (evKey 1449 0x0E11) (s.now + 1, 0)) 1449 0x0E11 sevWarn (code + src * 256) c)
  else
    let new := decide (s.fw.holder = 0)
    let s := { s with fw := { s.fw with holder := src, leaseAt := s.now
                                        staged := s.fw.staged &&& (7 ^^^ 2 ^ comp) } }
    let s := slotSet s comp i { hdr := some h, st := 1, got := 512, body := [], ok := false }
    (0, if new then updEvent (bootWrite s) 1448 0x0E10 sevNotice src 1 else s)

/-! ### Staging (R517) -/

def srcFin (src : Nat) : Fin 2 := if src = 1 then 0 else 1

/-- Bytes of the blocks of an image, rounded up. -/
def imageBytes (h : ImageHeader) : Nat := (512 + h.length + 63) / 64 * 64

/-- The image is whole: its hash decides (R517). -/
def stagedWhole (s : State) (src comp : Nat) : Nat × State :=
  let i := idleIdx s comp
  let x := slotGet s comp i
  match x.hdr with
  | none => (0x0E, s)
  | some h =>
    let body := (x.body.reverse.flatMap blockBytes).take h.length
    let clear (s : State) : State := { s with fw := { s.fw with staging := s.fw.staging.set (srcFin src) none } }
    if Config.sha384 (byteList body) = h.bodyHash then
      let s := slotSet (clear s) comp i { x with st := 2, ok := true }
      let s := { s with fw := { s.fw with staged := s.fw.staged ||| 2 ^ comp } }
      (0, updEvent (updEntry s comp 2 src h.version i 0) 1450 0x0E12 sevNotice comp h.version)
    else (0x0C, updEntry (slotSet (clear s) comp i {}) comp 2 src h.version i 0x0C)

/-- Body blocks go into the idle slot. -/
def stageBody (s : State) (src comp : Nat) (blocks : List Block) : Nat × State :=
  let i := idleIdx s comp
  let x := slotGet s comp i
  match x.hdr with
  | none => (0x0E, s)
  | some h =>
    let got := x.got + 64 * blocks.length
    if imageBytes h < got then (0x04, s)
    else
      let s := slotSet s comp i { x with got := got, body := blocks.reverse ++ x.body }
      let s := { s with fw := { s.fw with staging := s.fw.staging.set (srcFin src) (some (comp, got)), leaseAt := s.now } }
      if got = imageBytes h then stagedWhole s src comp else (0, s)

/-- A stage step from a source: component, byte offset, blocks. Answers the result code. Log entry 54. -/
def stageStep (s : State) (src comp off : Nat) (blocks : List Block) : Nat × State :=
  let f := srcFin src
  let exp := if off = 0 then some (comp, 0) else s.fw.staging[f]
  if exp ≠ some (comp, off) then (0x0E, s)
  else if 3 ≤ comp then (0x03, s)
  else
    let buf := (if off = 0 then [] else s.fw.hdrBuf[f]) ++ blocks
    if off < 512 then
      if src = 1 ∧ off = 0 ∧ blocks.length < 8 then (0x01, s)
      else if buf.length < 8 then
        (0, { s with fw := { s.fw with hdrBuf := s.fw.hdrBuf.set f buf
                                       staging := s.fw.staging.set f (some (comp, 64 * buf.length))
                                       leaseAt := if s.fw.holder = src then s.now else s.fw.leaseAt } })
      else
        let s := { s with fw := { s.fw with hdrBuf := s.fw.hdrBuf.set f [] } }
        let h := parseHeader ((buf.take 8).flatMap blockBytes)
        let (code, s) := takeHeader s src comp h
        if code ≠ 0 then (code, s) else stageBody s src comp (buf.drop 8)
    else stageBody s src comp blocks

/-- Bytes of the image accepted so far. -/
def accepted (s : State) (src comp : Nat) : Nat :=
  match s.fw.staging[srcFin src] with
  | some (c, n) => if c = comp then n else 0
  | none =>
    let x := slotGet s comp (idleIdx s comp)
    match x.hdr with
    | some h => if x.st = 2 then 512 + h.length else 0
    | none => 0

/-- FW_STAGE's image blocks are read like any engine data; an offline block stops the step. -/
def readStep (d : WxDesc) (a : Scan × List Block) (i : Nat) : Scan × List Block :=
  let blk := d.adrB / 64 + i
  if a.1.halt.isSome then a
  else if !blkOnline a.1.s blk then (scanOffline a.1 i 0, a.2)
  else
    let (_, b, x) := scanRead a.1 blk
    ({ x with n := x.n + 1 }, a.2 ++ [b])

def fwStage (s : State) (r : Fin 64) (d : WxDesc) : State :=
  let (a, blocks) := (List.range d.len).foldl (readStep d) ({ s := s }, [])
  match a.halt with
  | some (st, res, det) => wxEnd a.s r d.idx st res det
  | none =>
    let comp := d.opd 0 % 4
    let (code, s) := stageStep a.s 1 comp (bitsOf (d.opd 0) 32 32) blocks
    if code = 0 then wxEnd s r d.idx a.st (accepted s 1 comp) 0
    else if code = 0x12 then wxEnd s r d.idx wxBusy 0 0
    else wxEnd s r d.idx wxRefused 0 code

def execFwStage (r : Fin 64) (idx : Nat) (s : State) : Out := wxRun 0x10 r idx s fun d => fwStage s r d

/-! ### The Keeper's restarts (R25 to R28, R450, R531) -/

/-- A RESET entry of a start or restart: its kind, seal check and discards (R336). -/
def resetEntry (s : State) (kind check dropped : Nat) : State :=
  formEntry s 0x0006 1512 (bodyAt 24 kind + bodyAt 26 check + bodyAt 27 dropped + bodyAt 32 (s.seq.next - 1))

/-- The step of R441, or the term of R447, that the start has reached. Log entry 62. -/
def stepNo (s : State) : Nat :=
  let cold := decide (s.start.kind = 0) || decide (s.start.kind = 7)
  match s.start.step with
  | 0 => 1
  | 1 => 2
  | 2 => if cold then 3 else 1
  | 3 => if cold then 4 else 2
  | _ => if cold then 6 else 3

/-- The Keeper stops: levels 3 to 5 pause; FUSEAUTH is disarmed; a Transit run is aborted; before READY the start goes back to
its Keeper boot step (R450). -/
def keeperStop (s : State) (kind : Nat) : State :=
  let s := { s with stack := { s.stack with keeper := .restarting, restarts := satAdd 255 s.stack.restarts 1 }
                    fw := { s.fw with restart := some (kind, s.now) } }
  let s := dwHardware (csrSet s 0x070210 0) 0x070210
  let s := transitAbort s 2
  let s := if s.seq.decided then resetEntry s kind 0 0
    else { s with seq := pushHeld s.seq (.entry 0x0006 1512 (bodyAt 24 kind)) }
  if s.stack.ready then s
  else
    let step := stepNo s
    raise { s with start := { s.start with step := 2 }, stack := { s.stack with keeper := .off }
                   fw := { s.fw with restart := none } } 1517 0x0A04 sevWarn 3 step

/-- A component returns to its PREVIOUS slot. -/
def revert (s : State) (c : Nat) : State :=
  let bad := activeIdx s c
  let s := setActive s c (1 - bad)
  let old := slotGet s c (1 - bad)
  slotSet (slotSet (bootWrite s) c bad {}) c (1 - bad) { old with st := 0 }

/-- The settings area goes back to that of the previous Keeper; what was written since is lost (R526). -/
def revertArea (s : State) : State :=
  match s.fw.oldArea with
  | some a => { s with fw := { s.fw with area := a, oldArea := none, unsaved := [] } }
  | none => s

/-- The third watchdog expiry: every activated component falls back, Keeper, Chrosy, Sextant (R522). -/
def fallback (s : State) : State :=
  let done := s.fw.activated
  let src := max 1 s.fw.holder
  let s := ([0, 2, 1] : List Nat).foldl (fun s c =>
    if done.testBit c then
      let s := revert s c
      updEntry s c 5 src (activeVersion s c) (activeIdx s c) 0
    else s) (revertArea s)
  let s := updEvent s 1453 0x0E15 sevError 2 done
  endLease s 0

/-- The watchdog expires (R25). -/
def watchdog (s : State) : State :=
  let third := decide (s.fw.activated ≠ 0) && decide (2 ≤ s.fw.wdog)
  let s := if s.fw.activated = 0 then s else bootWrite { s with fw := { s.fw with wdog := satAdd 3 s.fw.wdog 1 } }
  let s := raiseJ s 1440 0x0E00 sevError (satAdd 255 s.stack.restarts 1) s.fw.wdog
  let s := if third then fallback s else s
  keeperStop s 3

def execKeeperWatchdogExpiry (s : State) : Out := whenDo (keeperUp s && !s.power.failing) s (watchdog s)

/-! ### Activation (R519 to R522) -/

/-- Why an activation is refused: a code of R527, 0 for none. -/
def activateRefused (s : State) (src c : Nat) : Nat :=
  if s.fw.holder = 0 then 0x10 else if s.fw.holder ≠ src then 0x12
  else if 3 ≤ c ∨ !s.fw.staged.testBit c ∨ (slotGet s c (idleIdx s c)).st ≠ 2 ∨ s.fw.activated.testBit c then 0x0D
  else match (slotGet s c (idleIdx s c)).hdr with
    | none => 0x0D
    | some h => if compatible s h c then 0 else 0x0A

/-- The boot record names the staged slot (R522). -/
def swapSlot (s : State) (c : Nat) : State :=
  let old := activeIdx s c
  let x := slotGet s c old
  let s := setActive (slotSet (bootWrite s) c old { x with st := 3 }) c (1 - old)
  { s with fw := { s.fw with activated := s.fw.activated ||| 2 ^ c, leaseAt := s.now
                             cleanBoots := if s.fw.activated = 0 then 0 else s.fw.cleanBoots
                             wdog := if s.fw.activated = 0 then 0 else s.fw.wdog } }

/-- The new image runs. -/
def activated (s : State) (src c : Nat) : State :=
  let v := activeVersion s c
  let s := updEvent (updEntry s c 3 src v (activeIdx s c) 0) 1451 0x0E13 sevNotice c v
  if c = 2 then restartBringUp s else s

/-- The self-check of the new image fails: back to PREVIOUS, the lease ends (R522). -/
def activationFails (s : State) (src c : Nat) : State :=
  let i := activeIdx s c
  let v := activeVersion s c
  let s := raiseJ s 1442 0x0E02 sevError c i
  let s := updEntry s c 3 src v i 0x0F
  let s := revert s c
  let s := updEvent (updEntry s c 5 src (activeVersion s c) (activeIdx s c) 0) 1453 0x0E15 sevError 1 (2 ^ c)
  endLease s 0

/-- An activation from a source. The Keeper's own completes with its restart. Answers the result code; none while it runs.
Log entry 54. -/
def activate (s : State) (src c : Nat) (desc : Option (Nat × Nat)) (selfCheck : Bool) : Option Nat × State :=
  let code := activateRefused s src c
  if code ≠ 0 then (some code, s)
  else
    let s := swapSlot s c
    if c = 0 then
      (none, keeperStop { s with fw := { s.fw with actPend := some (src, desc, false) } } 4)
    else if selfCheck then (some 0, activated s src c)
    else (some 0x0F, activationFails s src c)

/-- A host activation or commit completes. -/
def fwEnd (s : State) (r : Fin 64) (idx code res : Nat) : State :=
  if code = 0 then wxEnd s r idx 0 res 0 else if code = 0x12 then wxEnd s r idx wxBusy 0 0 else wxEnd s r idx wxRefused 0 code

/-- Sextant restarts only in service (R522). -/
def sextantBusy (s : State) (c : Nat) : Bool := decide (c = 1) && decide (s.train.activity ≠ 0)

def execFwActivate (r : Fin 64) (idx : Nat) (selfCheck : Bool) (s : State) : Out :=
  match wxGet s r idx with
  | none => .next s
  | some d =>
    let c := d.opd 0 % 4
    whenDo (wxReady s d 0x11 && !sextantBusy s c) s
      (match activate s 1 c (some (r.val, idx)) selfCheck with
       | (some code, t) => fwEnd t r idx code (activeVersion t c)
       | (none, t) => wxMod t r idx fun d => { d with running := true })

/-! ### Commit and rollback (R523, R524) -/

/-- The fuse may be advanced now. -/
def rbPossible (s : State) : Bool := programmable s.fuse.lc 3 && !s.fuse.advanced && s.fuse.op.isNone

/-- Advance a component's thermometer to its floor, word by word through WRITE (R505). Pulse counts are free. Log entry 2. -/
def rbAdvance (s : State) (c : Nat) (ok : Bool) : State :=
  let n := s.fw.floors[compFin c]
  if n ≤ rollbackIdx s.fuse.arr c then s
  else if fuseCond s ≠ 7 then fuseNoPulse s (0x00D0 + 8 * c)
  else
    (List.range 8).foldl (fun s i =>
      let w := 0x00D0 + 8 * c + i
      let want := bitsOf (2 ^ n - 1) (32 * i) 32
      let have_ := fuseRead s.fuse.arr w 1
      if want ||| have_ = have_ then s
      else
        let a := if ok then fusePulse s.fuse.arr w want [] else s.fuse.arr
        let r := if fuseVerified s.fuse.arr a w want then 0 else 5
        let p := Config.freeNat s.free % 2048
        let s := { s.useFree with fuse := { s.fuse with arr := a, result := r, pulses := p } }
        fuseProg s w 1 r p) s

/-- The fuses are tried; RB_PENDING tells whether one still falls short of its floor. -/
def rbTry (s : State) (ok : Bool) : State :=
  let s := if rbPossible s then (List.range 3).foldl (fun s c => rbAdvance s c ok) s else s
  let short := (List.range 3).any fun c => decide (rollbackIdx s.fuse.arr c < s.fw.floors[compFin c])
  { s with fw := { s.fw with rbPending := short, rbTriedAt := s.now } }

/-- A commit (R523). Whether a fuse pulsed here verifies is a free value. Log entry 2. -/
def commit (s : State) : State :=
  let done := s.fw.activated
  let src := max 1 s.fw.holder
  let first := ((List.range 3).find? done.testBit).getD 0
  let s := (List.range 3).foldl (fun s c =>
    if done.testBit c then
      let rb := ((slotGet s c (activeIdx s c)).hdr.map (·.rollback)).getD 0
      let s := slotSet s c (idleIdx s c) {}
      { s with fw := { s.fw with floors := s.fw.floors.set (compFin c) (max s.fw.floors[compFin c] rb) } }
    else s) s
  let s := rbTry s.useFree (decide (Config.freeNat s.free % 2 = 1))
  let s := match s.fw.oldArea with
    | some a => { s with fw := { s.fw with areas := s.fw.areas.set (⟨a % 2, Nat.mod_lt _ (by decide)⟩ : Fin 2) {}, oldArea := none } }
    | none => s
  let s := updEntry s first 4 src (activeVersion s first) (activeIdx s first) 0
  let s := updEvent s 1452 0x0E14 sevNotice done (b2n s.fw.rbPending)
  endLease s 0

/-- A commit request: result code and RESULT. -/
def commitReq (s : State) (src : Nat) : Nat × Nat × State :=
  if s.fw.holder = 0 then (0x10, 0, s) else if s.fw.holder ≠ src then (0x12, 0, s)
  else if s.fw.activated = 0 then (0x11, 0, s)
  else
    let t := commit s
    (0, s.fw.activated + 8 * b2n t.fw.rbPending, t)

def execFwCommit (r : Fin 64) (idx : Nat) (s : State) : Out :=
  wxRun 0x12 r idx s fun _ => let (code, res, t) := commitReq s 1; fwEnd t r idx code res

/-- CCLK in 10 s. -/
def tenSeconds : Nat := 16000000000

/-- A clean boot counts 10 s after the Keeper's start; the third commits (R523). -/
def cleanBoot (s : State) : State :=
  let n := satAdd 3 s.fw.cleanBoots 1
  let t := s.atLeast (s.fw.bootAt + tenSeconds)
  let u := { t with fw := { t.fw with bootCounted := true, cleanBoots := if s.fw.activated = 0 then s.fw.cleanBoots else n } }
  if s.fw.activated = 0 then u else if n = 3 then commit u else bootWrite u

def execCleanBoot (s : State) : Out := whenDo (keeperUp s && !s.fw.bootCounted) s (cleanBoot s)

def execLeaseTimeout (s : State) : Out :=
  whenDo (keeperUp s && decide (s.fw.holder ≠ 0) && decide (s.fw.activated = 0)) s
    (endLease (s.atLeast (s.fw.leaseAt + tenMinutes)) 3)

/-- The lease is released by its holder while nothing is activated (R518). -/
def releaseLease (s : State) (path : Path) : State :=
  let src := if path.val < 16 then 1 else if path.val = 16 then 2 else 0
  if s.fw.holder = src ∧ src ≠ 0 ∧ s.fw.activated = 0 then endLease s 2 else s

def execRollbackFuseRetry (ok : Bool) (s : State) : Out :=
  let t := if s.fw.rbTriedAt = 0 then s else s.atLeast (s.fw.rbTriedAt + tenMinutes)
  whenDo (keeperUp s && s.fw.rbPending) s (rbTry t ok)

/-! ### The management port's commands (R517, R527, R530) -/

/-- The chunk in `FWUP.MBUF`: its first blocks. -/
def mbuf (s : State) (n : Nat) : List Block :=
  (List.range n).map fun b => BitVec.ofNat 512 ((List.range 16).foldl (fun a i =>
    a + csrGet s (0x0D0100 + 4 * (16 * b + i)) * 2 ^ (32 * i)) 0)

def setMResult (s : State) (code : Nat) : State := { s with fw := { s.fw with mResult := code } }

/-- A command runs (R527): STAGE, ACTIVATE, COMMIT; 3 is refused with BAD_HEADER. Log entry 54. -/
def runMcmd (s : State) (v : Nat) (selfCheck : Bool) : State :=
  let op := bitsOf v 0 2
  let c := bitsOf v 2 2
  if op = 0 then
    let (code, s) := stageStep s 2 c (csrFld s 0x0D0084 0 21) (mbuf s (bitsOf v 4 2 + 1))
    setMResult { s with fw := { s.fw with mAccepted := accepted s 2 c } } code
  else if op = 1 then
    match activate s 2 c none selfCheck with
    | (some code, s) => setMResult s code
    | (none, s) => s
  else if op = 2 then let (code, _, s) := commitReq s 2; setMResult s code
  else setMResult s 0x01

/-- `FWUP.MSTAT.BUSY`. -/
def mBusy (s : State) : Bool :=
  s.fw.mPend.isSome || (match s.fw.actPend with | some (2, _, _) => true | _ => false)

/-- The waiting command runs once the Keeper, and for Sextant its service, allow it (R522, R526). -/
def runWaiting (s : State) : State :=
  match s.fw.mPend with
  | none => s
  | some (v, selfCheck) =>
    if !keeperUp s || (decide (bitsOf v 0 2 = 1) && sextantBusy s (bitsOf v 2 2)) then s
    else runMcmd { s with fw := { s.fw with mPend := none } } v selfCheck

/-- The retraining ends as the training of the pseudo-channel's lanes has ended; it waits for the Keeper (R26, R117). -/
def execPcRetrainDone (n : Pc) (ok : Bool) (s : State) : Out :=
  whenDo (s.pcs[n].mode == .retrain && decide (s.pcs[n].retrained = some ok) && keeperUp s) s (runWaiting (retrainDone s n ok))

/-- `FWUP.MCMD` has been written: refused with BUSY, held until the Keeper (or Sextant) can act, or run. -/
def writeMcmd (s : State) (v : Nat) (selfCheck : Bool) : State :=
  if mBusy s then setMResult s 0x12
  else if !keeperUp s || (decide (bitsOf v 0 2 = 1) && sextantBusy s (bitsOf v 2 2)) then
    { s with fw := { s.fw with mPend := some (v, selfCheck) } }
  else runMcmd s v selfCheck

/-! ### Settings (R525, R526) -/

def areaFin (a : Nat) : Fin 2 := ⟨a % 2, Nat.mod_lt _ (by decide)⟩

/-- The Keeper stores the settings written since. Stored words are held as differences from their "when none" values. -/
def storeSettings (s : State) : State :=
  let a := areaFin s.fw.area
  let r := s.fw.areas[a]
  let vals := s.fw.unsaved.foldl (fun m x =>
    smSet 0 m x (BitVec.ofNat 32 ((csrGet s x ^^^ regReset x) &&& (match regRow x with | some q => q.sb | none => 0)))) r.vals
  { s with fw := { s.fw with areas := s.fw.areas.set a (rewriteRec r vals), unsaved := [] } }

def execSettingsStore (s : State) : Out :=
  whenDo (keeperUp s && !s.fw.unsaved.isEmpty && !s.power.failing) s (storeSettings s)

/-- The first boot of a new Keeper image (R526). -/
def convertSettings (s : State) : State :=
  match (slotGet s 0 (activeIdx s 0)).hdr with
  | none => s
  | some h =>
    let old := s.fw.areas[areaFin s.fw.area]
    let keep := decide (h.setFmtMin ≤ old.fmt) && decide (old.fmt ≤ h.setFmt)
    let new := s.fw.areas[areaFin (1 - s.fw.area)]
    let rec_ : SetRec := { rewriteRec new (if keep then old.vals else []) with fmt := h.setFmt }
    let s := bootWrite s
    let s := { s with fw := { s.fw with areas := s.fw.areas.set (areaFin (1 - s.fw.area)) rec_, oldArea := some s.fw.area
                                        area := 1 - s.fw.area, defaulted := !keep } }
    let s := updEntry s 0 7 (max 1 s.fw.holder) h.version (activeIdx s 0) (if keep then 0 else 1)
    if keep then s else updEvent s 1454 0x0E16 sevWarn old.fmt h.setFmt

/-! ### Boot (R514) -/

/-- A slot passes the boot check: header steps 1 to 9 of R516, and the SHA-384 of the body (R514). A factory image, of which
the model holds no header, passes while no floor is set (log entry 15). -/
def bootOk (s : State) (c i : Nat) : Bool :=
  let x := slotGet s c i
  x.ok && (match x.hdr with
    | some h => decide (headerCode s c h = 0) &&
        decide (Config.sha384 (byteList ((x.body.reverse.flatMap blockBytes).take h.length)) = h.bodyHash)
    | none => decide (rbFloor s c = 0))

/-- A component's active slot is checked; the other takes its place where only that passes. Answers whether one runs. -/
def bootCheck (s : State) (c : Nat) : Bool × State :=
  let i := activeIdx s c
  if bootOk s c i then (true, s)
  else if bootOk s c (1 - i) then
    let s := setActive (bootWrite s) c (1 - i)
    let s := slotSet s c i { slotGet s c i with st := 0 }
    (true, updEvent (updEntry s c 5 1 (activeVersion s c) (activeIdx s c) 0) 1453 0x0E15 sevError 3 (2 ^ c))
  else (false, s)

/-- What a failed self-check of the Keeper itself leads to: the other slot, where it passes (R444, R514). -/
def keeperOther (s : State) : Bool × State :=
  let i := activeIdx s 0
  let s := raiseJ s 1442 0x0E02 sevError 0 i
  bootCheck (slotSet s 0 i { slotGet s 0 i with ok := false }) 0

/-- The Keeper runs again: KEEPER_RESTARTED, the activation that restarted it, what waited for it (R26, R28). -/
def keeperBack (s : State) (kind micros : Nat) : State :=
  let s := { s with stack := { s.stack with keeper := .running }
                    fw := { s.fw with restart := none, bootAt := s.now, bootCounted := false } }
  let s := raiseJ s 1441 0x0E01 sevNotice kind micros
  let s := match s.fw.actPend with
    | none => s
    | some (src, desc, failed) =>
      let s := { s with fw := { s.fw with actPend := none } }
      let s := if failed then s else convertSettings (activated s src 0)
      let code := if failed then 0x0F else 0
      match desc with
      | some (r, i) => fwEnd s ⟨r % 64, Nat.mod_lt _ (by decide)⟩ i code (activeVersion s 0)
      | none => setMResult s code
  runWaiting (winWaiting s)

/-- A Keeper-only restart ends (R28, R522). Log entry 54. -/
def restartDone (s : State) (kind : Nat) (selfCheck : Bool) (micros : Nat) : State :=
  match s.fw.actPend with
  | some (src, desc, false) =>
    if selfCheck then keeperBack s kind micros
    else activationFails { s with fw := { s.fw with actPend := some (src, desc, true) } } src 0
  | _ => if selfCheck then keeperBack s kind micros else (keeperOther s).2

def execKeeperRestartDone (selfCheck : Bool) (micros : Nat) (s : State) : Out :=
  match s.stack.keeper, s.fw.restart with
  | .restarting, some (kind, _) => .next (restartDone s kind selfCheck micros)
  | _, _ => .next s

/-- A Keeper-only reset is requested (R450). -/
def writeKeeperReset (s : State) (v : Nat) : State :=
  if v.testBit 0 && keeperUp s then keeperStop s 5 else s

end Sys2Proof.Machine
end

