-- ==== Sys2Proof/Machine/Power.lean ====
section
/-! DEFINITION. Power states, power-fail detection, the drain, the seal (R407 to R423), and the loss of supplies and clock
(R429, R553, R558). -/

namespace Sys2Proof.Machine

/-! ### Working power states (R407 to R411) -/

/-- The ring has a record it could write. -/
def ringDue (s : State) (k : Fin 4) : Bool :=
  let r := s.evt.rings[k]
  r.active && evRingServed s k && !r.waiting.isEmpty && decide (r.tail - r.head < evRingSize s k)

/-- The stack is idle (R408). Log entry 32. -/
def idle (s : State) : Bool :=
  s.ports.toList.all (fun q => q.staging.isEmpty) &&
  s.pcs.toList.all (fun c => c.queue.all (fun e => e.src == .scrub) && c.derived.isEmpty &&
    c.mode != .retrain && c.mode != .tsvSwitch && c.banks.toList.all (fun b => b.repair.isNone)) &&
  decide (wxActive s = 0) && (List.finRange 4).all (fun k => !ringDue s k) &&
  s.mirror.q[0].isEmpty && s.mirror.q[1].isEmpty && s.mirror.backlog.isEmpty &&
  s.mirror.apply[0].isEmpty && s.mirror.apply[1].isEmpty &&
  decide (s.train.activity = 0) && !s.transit.running && s.lagoon.recovering.isNone && !s.lagoon.flushing

/-- Exit latency of a state in CCLK and in ns (R407): 1 NEAP, 2 EBB, 3 SLACK. -/
def exitCclk (k : Nat) : Nat := if k = 1 then 48 else if k = 2 then 1440 else 22400
def exitNs (k : Nat) : Nat := if k = 1 then 30 else if k = 2 then 900 else 14000

/-- Hysteresis of a state in CCLK (R431, R432). -/
def hystCclk (s : State) (k : Nat) : Nat :=
  max 1 (csrForceFld s 0x0C000C (8 * (k - 1)) 8) * (if k = 1 then 16 else if k = 2 then 1600 else ms)

def wakeBudget (s : State) : Nat := csrFld s 0x0C0004 0 24

/-- Walkers bar EBB and SLACK (R411): one behind, or, after a wake for one, one not yet on schedule. -/
def walkersBar (s : State) : Bool :=
  !s.scrub.held && s.pcs.toList.any fun c =>
    c.walker.inLap && (walkerBehind s c.walker || (s.power.scrubWake && decide (0 < unitsBehind s c.walker)))

/-- The state is enabled and its exit latency within the budget (R409). -/
def stateAllowed (s : State) (k : Nat) : Bool :=
  csrForceFld s 0x0C0008 (k - 1) 1 == 1 && decide (exitNs k ≤ wakeBudget s) && (decide (k = 1) || !walkersBar s)

/-- States deeper than the one in force that may be entered. -/
def deeper (s : State) : List Nat := ([1, 2, 3] : List Nat).filter fun k => decide (s.power.low < k) && stateAllowed s k

/-- The stack is in service and may change its power state. -/
def powerFree (s : State) : Bool :=
  s.stack.ready && !s.power.failing && !s.therm.shut && !s.power.exiting && s.power.target.isNone

/-- The state just left or entered is charged with its time (R431). -/
def settleResidency (s : State) : State :=
  match s.power.low with
  | 0 => s
  | k + 1 =>
    let i : Fin 3 := ⟨k % 3, Nat.mod_lt _ (by decide)⟩
    let t := s.power.resid[i] + (s.now - s.power.lowAt)
    let s := { s with power := { s.power with resid := s.power.resid.set i (t % ms), lowAt := s.now } }
    if t / ms = 0 then s else bump (0x0C0020 + 4 * i.val) (t / ms) s

/-- Entry to the deepest state whose hysteresis has passed when the first of them does. Log entry 32. -/
def lowEntry (s : State) (l : List Nat) : State :=
  let t0 := if s.power.low = 0 then s.now else s.power.idleAt.getD s.now
  let hy := l.foldl (fun m k => min m (hystCclk s k)) (hystCclk s (l.headD 1))
  let k := (l.filter fun k => decide (hystCclk s k ≤ hy)).getLastD 1
  let s := s.atLeast (t0 + hy)
  let s := { s with power := { s.power with idleAt := some t0, scrubWake := false } }
  if k = 1 then { s with power := { s.power with low := 1, lowAt := s.now } }
  else { s with power := { s.power with target := some k } }

def execLowPowerEntry (s : State) : Out :=
  let l := deeper s
  whenDo (powerFree s && idle s && !l.isEmpty) s (lowEntry s l)

/-- Write-back, all-bank refresh and self-refresh are complete (R410). -/
def lowEntered (s : State) (k : Nat) : State :=
  let s := settleResidency (selfRefreshAll (flushLagoon s))
  { s with power := { s.power with low := k, target := none, lowAt := s.now } }

def execLowPowerEntryDone (s : State) : Out :=
  match s.power.target with
  | none => .next s
  | some k => whenDo (!s.power.exiting && !s.power.failing) s (lowEntered s k)

/-- A wake cause of R410 by its code of LAST_WAKE holds: for 3 a walker is behind, for 6 the budget excludes the state.
Log entry 32. -/
def wakeCause (s : State) (k cause : Nat) : Bool :=
  match cause with
  | 0 => false
  | 3 => decide (2 ≤ k) && s.pcs.toList.any fun c => c.walker.inLap && walkerBehind s c.walker
  | 6 => decide (wakeBudget s < exitNs k)
  | _ => true

/-- The state in force, or the one being entered. -/
def lowOrTarget (s : State) : Nat := s.power.target.getD s.power.low

def wake (s : State) (cause : Nat) : State :=
  { s with power := { s.power with
      exiting := true, target := none, lastWake := cause, wakeAt := s.now, wakeFrom := lowOrTarget s
      scrubWake := decide (cause = 3), idleAt := none } }

def execWake (cause : Fin 7) (s : State) : Out :=
  whenDo (decide (0 < lowOrTarget s) && !s.power.exiting && !s.power.failing && wakeCause s (lowOrTarget s) cause.val) s
    (wake s cause.val)

/-- The stack is in FLOOD: the refresh rotation restarts; after SLACK the tracker window goes on where it stopped (R201). -/
def wakeDone (s : State) : State :=
  let s := s.atLeast (s.power.wakeAt + exitCclk s.power.wakeFrom)
  let stopped := if s.power.low = 3 then s.now - s.power.lowAt else 0
  let s := settleResidency s
  let s := { s with power := { s.power with low := 0, exiting := false, wakeFrom := 0, lowAt := s.now }
                    guard := { s.guard with windowAt := s.guard.windowAt + stopped } }
  bump 0x0C002C 1 (wakeAll s s.now)

def execWakeDone (s : State) : Out := whenDo (s.power.exiting && !s.power.failing) s (wakeDone s)

/-! ### The drain (R414 to R418) -/

/-- Queue entries that hold writes not yet in DRAM or a Lagoon line. -/
def queuedWrites (s : State) : Nat :=
  (s.pcs.toList.map fun c => (c.queue.filter fun e => e.kind == .wr || e.kind == .wrm).length).sum

/-- Dirty lines and queued writes (R419). -/
def unflushedNow (s : State) : Nat := dirtyLines s + queuedWrites s

/-- MEMSTATE of the seal (R420). -/
def memState (s : State) : Nat :=
  s.dram.mapActive + 4 * b2n s.dram.freshActive + 8 * b2n s.dram.tidefillRan + 16 * csrFld s 0x070010 0 1

/-- The base die's memory path runs for the drain: a low state, a shutdown, a retraining or a lane switch is left (R417, R418). -/
def runMemory (s : State) : State :=
  let f (c : PcSt) : PcSt :=
    if c.mode == .retrain || c.mode == .tsvSwitch then { c with mode := .online, switching := none } else c
  let s := settleResidency s
  let s := if s.power.low = 0 then s else bump 0x0C002C 1 s
  let s := { s with pcs := s.pcs.map f, power := { s.power with low := 0, target := none, exiting := false } }
  wakeAll s s.now

/-- Step 1: the fence, the TORN seal, DRAIN_START (R416, R420). Log entry 16. -/
def drainStart (s : State) (cause : Nat) (quiesce : Bool) : State :=
  let s := runMemory (if quiesce then transitStop s else transitAbort s 5)
  let n := dirtyLines s
  let sl : Seal :=
    { state := 1, cause := cause, memState := memState s, nextSsn := s.seq.next, starts := s.seq.starts
      epochOpen := s.epochs.newest, dirty := n, stamp := s.seq.next }
  let s := { s with power := { s.power with failing := true, lwSeal := sl }
                    evt := { s.evt with stopped := true } }
  let s := journal s 0x0007 1520 (bodyAt 24 cause + bodyAt 28 n)
  fenceStaging (fenceEngine (fuseStop (abandon s)))

/-- Time to step 5 in ns: open, at most what R416 and R417 allow. Log entry 59. -/
def drainBound (s : State) : Nat := 35100 + (csrForceFld s 0x060004 0 8 * 1000 + 125) * 5 / 7

/-- The 256 bytes of a seal (R420). Log entry 93. -/
def sealBytes (q : Seal) : List Nat :=
  let b := bytesOf 4 0x4C575331 ++ [q.state % 256, q.cause % 256, q.rails % 256, q.memState % 256] ++ bytesOf 8 q.nextSsn ++
    bytesOf 4 q.starts ++ bytesOf 4 q.drainNs ++ bytesOf 8 q.epochOpen ++ bytesOf 4 q.dirty ++ bytesOf 8 q.stamp ++
    List.replicate 212 0
  b ++ bytesOf 4 (crc32c b)

/-- A write-intent entry as the ring stores it (R422). -/
def wiWord (i : Nat) (w : WiEnt) : Nat :=
  i / 4 + w.bank * 2 ^ 6 + w.row * 2 ^ 11 + (w.mask % 2 ^ 16) * 2 ^ 27 + 2 ^ 43

/-- The 2 KiB of the write-intent ring. Log entry 93. -/
def ringBytes (s : State) : List Nat :=
  (List.finRange 256).flatMap fun i => bytesOf 8 (match s.power.ring[i] with | some w => wiWord i.val w | none => 0)

/-- Bytes as numbered blocks from block `b` on. Log entry 93. -/
def blocksAt (b : Nat) (l : List Nat) : List (Nat × Block) :=
  (List.range (l.length / 64)).map fun i => (b + i, BitVec.ofNat 512 (ofBytes ((l.drop (64 * i)).take 64)))

/-- The seal copy and the write-intent copy go to the Keeper region's seal area, at the offsets they have in the Lantern (R38,
R419, R420). Log entry 93. -/
def copySeal (s : State) : State :=
  let at_ := (keeperBase + 2 ^ 22) / 64
  ownWrites s ((blocksAt at_ (sealBytes s.power.lwSeal) ++ blocksAt (at_ + 24) (ringBytes s)).filter fun x => blkOnline s x.1)

/-- Step 5: DRAIN_END and SEAL journalled, the journal written, the seal CLEAN and its copy written (R416, R420).
Log entries 2, 58, 59. -/
def drainEnd (s : State) : State :=
  let ns := Config.freeNat s.free % (drainBound s + 1)
  let wi := (s.power.ring.toList.filter (·.isSome)).length
  let s := journal s.useFree 0x0008 1520 (bodyAt 24 ns + bodyAt 28 wi)
  let nextSsn := s.seq.next + 1
  let s := flushJournal (journal s 0x0009 1521 (bodyAt 24 nextSsn))
  copySeal { s with power := { s.power with
      ring := Vector.replicate 256 none
      lwSeal := { s.power.lwSeal with state := 2, drainNs := ns, nextSsn := nextSsn } } }

/-- Step 7: LINK_DOWN with reason 6, every domain but VDD_D, VPP and VLAN gated, LWSTAT low. -/
def gate (s : State) : State := stopLink s 6

/-- One step of the drain after the first. Log entry 16. -/
def drainStep (s : State) (i : Nat) : State :=
  match i with
  | 2 => drainQueues s
  | 3 => flushLagoon s
  | 4 => flushJournal (drainClaims s)
  | 5 => drainEnd s
  | 6 => selfRefreshAll s
  | 7 => gate s
  | _ => s

/-- Steps `a` + 1 to `k`; the progress record follows (R419). Log entry 16. -/
def drainSteps (s : State) (a k : Nat) : State :=
  let s := ((List.range 8).filter fun i => decide (a < i) && decide (i ≤ k)).foldl drainStep s
  { s with power := { s.power with drained := max a k, progress := some (s.seq.next, unflushedNow s, max a k) } }

/-- Low Water, or the end of the supplies: nothing is served, the Keeper stops. -/
def enterLowWater (s : State) (lost : Bool) (lwstat : Nat) : State :=
  { s with stack := { s.stack with ready := false, keeper := .off }
           power := { s.power with phase := .lowWater, coreLost := lost, low := 0, target := none, exiting := false,
                                   lwstat := lwstat } }

/-- The drain from detection to the `k`-th step; below 7 its power is lost there. Before the first step the seal is not touched.
Log entry 16. -/
def drain (s : State) (cause k : Nat) : State :=
  match k with
  | 0 => enterLowWater { s with power := { s.power with drained := 0, failing := true } } true s.power.lwstat
  | k + 1 =>
    let s := drainSteps (drainStart s cause false) 1 (k + 1)
    if k = 6 then enterLowWater s false 1 else enterLowWater s true s.power.lwstat

/-- A start is not drained before READY: a wiping one keeps nothing (R423); a keeping one leaves the seal as it stands (R429). -/
def startFails (s : State) : State :=
  let s := { s with power := { s.power with failing := true } }
  if s.start.wiped then enterLowWater s true 2 else enterLowWater s true 1

/-- Power-fail detection wherever the stack stands (R412, R423, R429, R446, R448). Log entry 16. -/
def detect (s : State) (cause k : Nat) : State :=
  match s.power.phase with
  | .service => if s.power.armed then drain s cause k else s
  | .starting | .halted => if s.start.kind = 2 then (if s.power.armed then drain s cause k else s) else startFails s
  | .held 1 =>
    let d := s.power.drained
    let s := drainSteps s d k
    if max d k = 7 then enterLowWater s false 1 else enterLowWater s true s.power.lwstat
  | _ => s

def execPfailDetect (steps : Fin 8) (s : State) : Out := .next (detect s 0 steps.val)

def execDroopDetect (steps : Fin 8) (s : State) : Out :=
  whenDo (csrFld s 0x0C0100 0 1 == 1) s (detect s 1 steps.val)

/-- SEAL is a planned Low Water entry (R321, R412). -/
def execSeal (r : Fin 64) (idx : Nat) (s : State) : Out :=
  wxRun 0x18 r idx s fun _ => drain s 2 7

/-! ### The Lantern, the supplies, the clock (R421, R423, R429, R553, R558) -/

def execLanternRailFault (vddD vpp : Bool) (s : State) : Out :=
  let se := s.power.lwSeal
  let rails := se.rails ||| (b2n vddD + 2 * b2n vpp)
  whenDo (s.power.phase == .lowWater && s.power.lantern && (vddD || vpp) && (decide (se.state = 1) || decide (se.state = 2))) s
    { s with power := { s.power with lwSeal := { se with state := 3, rails := rails }, lwstat := 2 } }

/-- The service rails fall undetected: the Lantern keeps CKE where the DRAM is in self-refresh; the reset-exempt domain is lost. -/
def coreLoss (s : State) : State :=
  let s := { s with start := { s.start with hrstLost := 0 }, dram := { s.dram with claims := [] } }
  match s.power.phase with
  | .off => s
  | .lowWater => { s with power := { s.power with coreLost := true } }
  | .starting | .halted =>
    enterLowWater s true (if s.start.kind = 2 ∨ s.start.wiped then s.power.lwstat else 1)
  | .held 1 => enterLowWater s true (if 6 ≤ s.power.drained then 1 else s.power.lwstat)
  | .held _ | .service => enterLowWater s true s.power.lwstat

def execVddCoreLoss (s : State) : Out := .next (coreLoss s)

/-- VLAN leaves tolerance: seal, progress record, write-intent ring and epoch record are lost. Log entry 33. -/
def execVlanLoss (s : State) : Out :=
  .next { s with power := { s.power with lantern := false, lwSeal := {}, progress := none, ring := Vector.replicate 256 none } }

/-- REFCLK is missing (1), slow (2) or fast (3): the PLL holds over; REFCLK_LOST once per start. -/
def execRefclkLoss (code : Nat) (s : State) : Out :=
  whenDo (corePowered s && !s.start.refclkLost && decide (1 ≤ code) && decide (code ≤ 3)) s
    (raiseJ { s with start := { s.start with refclkLost := true } } 1263 0x0B11 sevFatal code 0)

end Sys2Proof.Machine
end

