-- ==== Sys2Proof/Machine/Start.lean ====
section
/-! DEFINITION. Starts, resets, wiping (R425 to R430, R435 to R452): what each start keeps, the series of SSNs, the sequence
from power good or logic reset to READY. -/

namespace Sys2Proof.Machine

/-! ### Settings (R433, R438, R525) -/

/-- The stored setting of a register: its value when no record lists one is its reset value. Log entry 63. -/
def settingOf (s : State) (a : Nat) : Nat := (smGet 0 s.fw.areas[areaFin s.fw.area].vals a).toNat ^^^ regReset a

/-- Settings applied: every stored field takes its value; a start that keeps DRAM contents keeps window settings as they were
(R396). Log entries 45, 63. -/
def applySettings (s : State) : State :=
  (s.fw.areas[areaFin s.fw.area].vals.filter fun e => s.start.wiped || decide (e.1 < 0x0B1000) || decide (0x0B1800 ≤ e.1)).foldl
    (fun s e =>
    let sb := match regRow e.1 with | some q => q.sb | none => 0
    csrSet s e.1 ((csrGet s e.1 &&& (0xFFFFFFFF ^^^ sb)) ||| (settingOf s e.1 &&& sb))) s

/-- One register of the record in use. Log entry 65. -/
def storeOne (s : State) (a v : Nat) : State :=
  let i := areaFin s.fw.area
  let r := s.fw.areas[i]
  { s with fw := { s.fw with areas := s.fw.areas.set i (rewriteRec r (smSet 0 r.vals a (BitVec.ofNat 32 (v ^^^ regReset a))))
                             unsaved := s.fw.unsaved.filter (fun x => decide (x ≠ a)) } }

/-! ### What each start keeps (R292, R351, R447, R451) -/

/-- Registers kept through every start that keeps DRAM contents and, but for a cold start, the fuse values and the counts since
the last cold start. -/
def keptCsr (keep cold : Bool) (a : Nat) : Bool :=
  (keep && ((decide (0x0A0000 ≤ a) && decide (a < 0x0A0A00) && decide (a ≠ 0x0A0018) && decide (a ≠ 0x0A001C)) ||
    decide (a = 0x070010) || (decide (0x0B1000 ≤ a) && decide (a < 0x0B1800)))) ||
  (!cold && (decide (a = 0x000000) || decide (a = 0x000008) || (decide (0x000050 ≤ a) && decide (a < 0x000060)) ||
    decide (a = 0x080024) || decide (a = 0x0E0048)))

/-- Registers return to their reset values; ring ENABLE bits are cleared. -/
def restartRegs (s : State) (keep cold : Bool) : State :=
  let s := { s with regs := { csr := s.regs.csr.filter fun e => keptCsr keep cold e.1 } }
  (List.range 4).foldl (fun s k => csrSet s (evRingReg k 8) (putBits (csrGet s (evRingReg k 8)) 5 1 0)) s

/-- A ring starts DISABLED; its last tail and phase stay (R349). -/
def restartRing (size : Nat) (r : EvRing) : EvRing :=
  { lastTail := if r.active then r.tail % size else r.lastTail
    lastPhase := if r.active then decide (r.tail / size % 2 = 0) else r.lastPhase }

def restartEvents (s : State) (keep : Bool) : State :=
  if keep then { s with evt := { rings := Vector.ofFn fun k => restartRing (evRingSize s k) s.evt.rings[k] } }
  else { s with evt := {} }

/-- The journal: the tail is reloaded from DRAM (R333); under HRST_N it stays in the Lagoon arrays (`lost` false).
Log entry 60. -/
def restartJournal (s : State) (keep lost : Bool) : State :=
  if !keep then { s with jrn := {} }
  else if lost then
    { s with jrn := { s.jrn with tail := s.jrn.tail.filter (fun e => decide (e.j < s.jrn.flushed)), count := s.jrn.flushed, busy := false } }
  else { s with jrn := { s.jrn with busy := false } }

/-- A port returns to its reset state; lane maps, and a failure that lasts to the next cold start, stay (R69, R451). -/
def restartPort (keep cold : Bool) (p : PortSt) : PortSt :=
  let fixed := !cold && p.link == .failed && decide (p.failReason = 2)
  { link := if fixed then .failed else .down, failReason := if fixed then 2 else 0
    mapDn := if keep then p.mapDn else Vector.replicate 4 none, mapUp := if keep then p.mapUp else Vector.replicate 4 none }

/-- A pseudo-channel: DRAM in self-refresh, its lane map kept. -/
def restartPc (keep : Bool) (c : PcSt) : PcSt :=
  if keep then { failedLanes := c.failedLanes, spares := c.spares } else {}

/-- Calibration records stay in MRAM; nothing is trained yet. -/
def restartRec (r : CalRec) : CalRec := { a := r.a, b := r.b, due := r.mapDue, mapDue := r.mapDue, rewrittenAt := r.rewrittenAt }

/-- Nothing is trained after a start. What Sextant counts since the last cold start, a lane's tap corrections and the rewrites
of records, goes on through every other start (R129, R130). -/
def restartTrain (t : TrainSt) (cold : Bool) : TrainSt :=
  let counted (e : Nat × Lane) : Option (Nat × Lane) := if e.2.steps = 0 then none else some (e.1, { steps := e.2.steps })
  { recs := t.recs.map restartRec
    lanes := if cold then [] else t.lanes.filterMap counted
    rewrites := if cold then 0 else t.rewrites }

/-- Firmware state in MRAM stays; an image being staged is lost (R529). -/
def restartFw (f : FwSt) : FwSt :=
  let slot (x : FwSlot) : FwSlot := if x.st = 1 then {} else x
  { f with slots := f.slots.map (fun (v : Vector FwSlot 2) => v.map slot), staging := Vector.replicate 2 none
           hdrBuf := Vector.replicate 2 [], unsaved := [], mResult := 0, mPend := none, actPend := none, mAccepted := 0
           bootCounted := false, restart := none, rbTriedAt := 0 }

/-- Windows and backlog stay; a link that was up is lost with them (R396): reason 6 where the drain named it, else 1.
Log entry 45. -/
def restartMirror (s : State) (keep : Bool) (reason : Nat) : State :=
  if !keep then { s with mirror := {} }
  else
    let s := if linkUpNow s then dropMember (mirrorLoss s reason) 17 else s
    { s with mirror := { wins := s.mirror.wins, backlog := s.mirror.backlog } }

/-- The scrubber: the held state and a lap that has fallen due stay; a verification lap falls due (R235, R242). -/
def restartScrub (s : State) : ScrubSt := { held := s.scrub.held, verifyDue := true }

/-- What a start that keeps DRAM contents leaves of the DRAM tables: the repeat table is emptied. -/
def restartDram (d : DramSt) (cold : Bool) : DramSt :=
  { d with repeats := [], candidates := [], lastWrite := [], claims := if cold then [] else d.claims }

/-- The Lagoon: a cold start finds it empty and its ways to be tested again; else its arrays stay (R181, R184). -/
def restartLagoon (l : LagoonSt) (cold : Bool) : LagoonSt :=
  if cold then {}
  else { lines := l.lines, failed := l.failed, degrade := l.degrade, recovering := l.recovering, nextWay := l.nextWay }

/-- The epoch state of a start that keeps DRAM contents: nothing is held in an engine any more (R277). -/
def restartEpochs (e : EpochSt) : EpochSt :=
  { e with engHeld := none, mirHeld := none, engStalled := false, mirStalled := false }

/-- Fuses: the array, the shadows and what was latched stay; an operation under way has stopped. -/
def restartFuse (f : FuseSt) : FuseSt := { f with op := none, result := 0, pulses := 0, rdata := 0, rdataAt := 0 }

/-- Everything a start resets. `cold`: VDD_CORE has been away. `lost`: the journal tail comes from DRAM. -/
def restartState (s : State) (keep cold lost : Bool) (reason : Nat) : State :=
  let s := { s with seq := { s.seq with decided := false, buf := [], dropped := 0 } }
  let s := restartMirror s keep reason
  let s := restartJournal (restartEvents s keep) keep lost
  let s := wxDisable (restartRegs s keep cold)
  { s with
    ports := s.ports.map (restartPort keep cold)
    links := Vector.replicate 16 {}
    train := restartTrain s.train cold
    pcs := s.pcs.map (restartPc keep)
    dram := restartDram s.dram cold
    scrub := restartScrub s
    guard := {}
    lagoon := restartLagoon s.lagoon cold
    epochs := restartEpochs s.epochs
    stack := { restarts := if cold then 0 else s.stack.restarts }
    transit := {}
    jtag := if cold then {} else s.jtag
    therm := {}
    chrosy := {}
    fuse := restartFuse s.fuse
    fw := restartFw s.fw
    wetex := { s.wetex with rr := 63, order := 0, bytes := if cold then 0 else s.wetex.bytes }
    seq := { s.seq with decided := false }
    start := { s.start with begunAt := s.now }
    power := { s.power with
      phase := .starting, failing := false, low := 0, target := none, exiting := false, lastWake := 0, idleAt := none
      lowAt := s.now, wakeFrom := 0, resid := Vector.replicate 3 0, scrubWake := false, lwstat := 0, unflushed := 0
      resumeMs := 0, wiFound := [] } }

/-! ### Wiping (R438 to R440) -/

/-- Tables, DRAM, Lagoon, epochs and the Lantern as after a wipe; settings that take effect at a wipe are taken.
Log entries 45, 63. -/
def wipe (s : State) : State :=
  let map := bitsOf (settingOf s 0x000020) 0 2
  let fresh := (settingOf s 0x070008).testBit 1
  let tide := (settingOf s 0x070008).testBit 0
  let win (w : Fin 64) : WinSt := if settingOf s (winReg w.val 12) % 4 = 0 then {} else { st := .diverged }
  { s with
    dram := { mapActive := map, freshActive := fresh, tsvPending := s.dram.tsvPending }
    scrub := { held := !fresh, tidefill := tide }
    lagoon := {}
    epochs := {}
    jrn := {}
    mirror := { wins := Vector.ofFn win }
    power := { s.power with ring := Vector.replicate 256 none, lwSeal := {}, progress := none }
    start := { s.start with wiped := true, keyGen := s.start.keyGen + 1, keyOk := true } }

/-- A stack whose Chrosy link is disabled has no window in any mode but OFF (R6). -/
def chrosyOff (s : State) : State := if chrosyOn s then s else { s with mirror := {} }

/-! ### The series value (R330, R331) -/

/-- The series value is decided: the RESET entry, then the held records in order. Log entry 57. -/
def decideSeries (s : State) (kind check : Nat) (again : Bool) : State :=
  let q := s.seq
  let s := { s with seq := { next := if again then 1 else q.next, starts := if again then 1 else q.starts + 1, decided := true }
                    start := { s.start with kind := kind } }
  q.buf.foldl issueHeld (resetEntry s kind check q.dropped)

/-! ### Power good (R425, R427, R438, R441) -/

/-- The seal check of R427. Log entries 33, 93. -/
def sealCheckOf (s : State) : Nat :=
  if !s.power.lantern then 0
  else match s.power.lwSeal.state with
    | 1 => 2
    | 2 => 1
    | 3 => 3
    | _ => 0

/-- The Low Water records are missing: the drain was cut before step 4 ended (R428). Log entry 33. -/
def recordsLost (s : State) : Bool := decide (sealCheckOf s = 2) && decide (s.power.drained < 4)

/-- The stored `WIPE_NEXT`. Log entry 65. -/
def wipeNext (s : State) : Bool := (settingOf s 0x000110).testBit 0

/-- What `LOWWATER` reports of the last drain (R433). -/
def reportSeal (s : State) (check : Nat) : State :=
  let l := s.power.lwSeal
  let un := match s.power.progress with | some (_, n, _) => if check = 2 then n else 0 | none => 0
  { s with power := { s.power with
      sealCheck := check, lastCause := if check = 0 then 3 else l.cause
      lastDrain := if check = 1 then l.drainNs else s.power.lastDrain, unflushed := un } }

/-- What a life-cycle change erases besides a wipe: every settings record and the Keeper's stored state. Log entry 55. -/
def lcErase (s : State) : State :=
  { s with fw := { s.fw with
      areas := Vector.replicate 2 {}, area := 0, oldArea := none, holder := 0, activated := 0, cleanBoots := 0, wdog := 0
      staged := 0, floors := Vector.replicate 3 0, rbPending := false } }

/-- A cold start begins: step 1 of R441. Log entry 57. -/
def coldStart (s : State) (strap : Nat) : State :=
  let check := sealCheckOf s
  let keyLost := !s.start.keyOk
  let wiping := decide (check = 0) || decide (check = 3) || wipeNext s || keyLost
  let rails := s.power.lwSeal.rails
  let gen := s.start.keyGen
  let kind := if s.start.lcSeen.isSome && decide (s.start.lcSeen ≠ some (lcOf s.fuse.arr)) then 7 else 0
  let s := reportSeal (restartState s (!wiping) true true 6) check
  let s := { s with
    start := { s.start with
      kind := 0, wiped := false, keyLost := keyLost, quickFail := false, startMs := 0, hrstLost := 0, step := 1
      strap := strap, refclkLost := false, holdTil := 0, armAt := none }
    power := { s.power with lantern := true, armed := true, coreLost := false } }
  let s := storeOne s 0x000110 0
  let s := if check = 3 then raiseJ s 1524 0x0903 sevError rails 0 else s
  let s := if keyLost then raiseJ s 1516 0x0A03 sevError gen 0 else s
  if wiping then decideSeries (wipe (if kind = 7 then lcErase s else s)) kind check true else s

/-- The stack may take power good. -/
def powerAway (s : State) : Bool := s.power.phase == .off || (s.power.phase == .lowWater && s.power.coreLost)

def execPowerGood (strap : BitVec 3) (s : State) : Out := whenDo (powerAway s) s (coldStart s strap.toNat)

/-- PFAIL_N has been high for 10,000 Lantern cycles, at least 9 ms: the stack resumes (R425). -/
def execPfailRecovered (s : State) : Out :=
  whenDo (s.power.phase == .lowWater && !s.power.coreLost && decide (s.power.drained = 7) && decide (s.power.lwSeal.cause ≠ 2)) s
    (let ns := s.power.lwSeal.drainNs
     raise (coldStart (s.atLeast (s.now + 9 * ms)) s.start.strap) 1525 0x0904 sevNotice ns 0)

/-! ### Fuse sensing (R435, R438, R440, R498) -/

/-- Fuses are sensed; a life-cycle change wipes; the series value is decided. Log entries 55, 57. -/
def fuseSensed (s : State) (drift : List FuseReading) : State :=
  let s := senseFuses s drift
  let change := s.start.lcSeen.isSome && decide (s.start.lcSeen ≠ some s.fuse.lc)
  let s := if change then lcErase s else s
  let s := if change && !s.start.wiped then wipe (restartRegs { s with evt := {} } false false) else s
  let s := { s with start := { s.start with step := 2, lcSeen := some s.fuse.lc, kind := if change then 7 else s.start.kind } }
  chrosyOff (if s.seq.decided then s else decideSeries s (if change then 7 else 0) s.power.sealCheck change)

def execFuseSenseDone (drift : List FuseReading) (s : State) : Out :=
  whenDo (s.power.phase == .starting && decide (s.start.step = 1)) s (fuseSensed s drift)

/-! ### Keeper boot and the QUICK test (R441, R444, R514) -/

/-- The start halts without READY; DRAM, seal and records stay. -/
def haltStart (s : State) (cause : Nat) : State :=
  raise { s with power := { s.power with phase := .halted } } 1514 0x0A01 sevFatal cause (stepNo s)

/-- Chrosy microcode is checked where the link is enabled; where neither slot passes, the link stays DOWN with reason 7. -/
def chrosyBoot (s : State) : State :=
  if !chrosyOn s then s
  else
    let (ok, t) := bootCheck s 2
    if ok then t
    else raiseJ { t with chrosy := { t.chrosy with downReason := 7 } } 1442 0x0E02 sevError 2 (activeIdx t 2)

/-- The Keeper runs: the first boot of a new image converts settings; a lease without an activation ends (R518, R526). -/
def keeperRuns (s : State) : State :=
  let s := { s with stack := { s.stack with keeper := .running }
                    fw := { s.fw with bootAt := s.now, bootCounted := false }, start := { s.start with step := 3 } }
  let s := if s.fw.activated.testBit 0 && s.fw.oldArea.isNone then convertSettings s else s
  let s := if s.fw.holder ≠ 0 ∧ s.fw.activated = 0 then endLease s 4 else s
  startQuick s

/-- The slots are checked, then the booted image checks itself; with `selfCheck` false the other slot is tried. -/
def keeperBoot (s : State) (selfCheck : Bool) : State :=
  let (k, s) := bootCheck s 0
  if !k then haltStart s 1
  else if !selfCheck then
    let (other, s) := keeperOther s
    if other then s else haltStart s 1
  else
    let (x, s) := bootCheck s 1
    if !x then haltStart s 5 else keeperRuns (chrosyBoot s)

def execKeeperBootDone (selfCheck : Bool) (s : State) : Out :=
  whenDo (s.power.phase == .starting && decide (s.start.step = 2)) s (keeperBoot s selfCheck)

/-- Training opens on every port that has not failed: fast where DRAM contents are kept, else full (R114, R116). -/
def openTraining (s : State) : State :=
  let fast := !s.start.wiped
  (List.finRange 16).foldl (fun s p =>
    if s.ports[p].link == .failed then s
    else
      let s := s.modPort p fun q => { q with link := .training }
      pctlSend (s.modLink p fun l => { l with trn := .started fast }) p 0x10 (b2n fast) true) s

/-- The QUICK run has ended: it halts the start, or training follows; other failures are reported only (R444). -/
def quickEnd (s : State) : State :=
  let failed (i : Nat) : Bool := s.transit.log.any fun e => decide (bitsOf e.2 10 4 = i)
  let s := { s with start := { s.start with quickFail := decide (s.transit.verdict = 2) } }
  if failed 0 then haltStart s 2
  else if failed 1 then haltStart s 3
  else openTraining (loadRepairs { s with start := { s.start with step := 4 }, train := { s.train with lastFull := s.start.wiped } })

/-- A run of the start that has just ended, or been cut short, is followed by training. -/
def afterRun (s t : State) : State :=
  if s.transit.running && s.transit.quick && !t.transit.running && t.power.phase == .starting then quickEnd t else t

def execTransitRunDone (missing signature expected : DWord) (fails : List TransitFail) (s : State) : Out :=
  whenDo s.transit.running s (afterRun s (runDone s missing.toNat signature.toNat expected.toNat fails))

def execTransitCclkWindow (count : Nat) (s : State) : Out := whenDo s.transit.running s (afterRun s (cclkWindow s count))

def execWatchReading (raw : Nat) (r : WatchValue) (s : State) : Out :=
  whenDo (watchRuns s) s (afterRun s (watchRead s (nextChan s) raw r.value r.xing (s.fuse.op.isSome)))

/-! ### Release (R426, R428, R441 to R445, R448) -/

/-- A block named by a write-intent entry is read and handled as a scrubber read; the flag tells that it was poisoned. -/
def checkBlock (s : State) (blk : Nat) : Bool × State :=
  let id := s.nextId
  let (f, s) := readWord s.tick blk
  let n := (coordOf s.dram.mapActive blk).pc
  if f.dec.status = stCorr then
    (false, dramWrite (afterRead (bump 0x070024 1 s) blk id 0 f true) blk f.dec.data (rsCheck f.dec.data))
  else if f.dec.status = stUncorr then
    (true, poisonSteps (dramWrite (bump (pcReg n 0x064) 1 (bump 0x070028 1 s)) blk f.raw (poisonCheck f.raw)) blk 0)
  else (false, s)

/-- One entry's blocks: the mask of those poisoned. -/
def checkEntry (s : State) (n : Nat) (w : WiEnt) : Nat × State :=
  ((List.range 16).filter w.mask.testBit).foldl (fun a c =>
    let (bad, s) := checkBlock a.2 (blkOf s.dram.mapActive ⟨n, w.bank, w.row, c⟩)
    (a.1 + b2n bad * 2 ^ c, s)) (0, s)

/-- The write-intent entry of a place is checked: TORN_BLOCK is raised once for it (R428). -/
def wiCheck (s : State) (i : Fin 256) : State :=
  match s.power.ring[i] with
  | none => s
  | some w =>
    let n := i.val / 4
    let s := rowCycle s (pcFin n) w.bank w.row (popc 4 w.mask) false
    let (bad, s) := checkEntry s n w
    let s := { s with power := { s.power with wiFound := s.power.wiFound ++ [(i.val, w, decide (bad ≠ 0))] } }
    raise s 1523 0x0902 sevWarn (n + w.bank * 2 ^ 6 + w.row * 2 ^ 11 + w.mask * 2 ^ 27) bad

/-- The row a write-intent entry names. -/
def wiRow (s : State) (i : Fin 256) : Option (Nat × Nat × Nat) := s.power.ring[i].map fun w => (i.val / 4, w.bank, w.row)

/-- Blocks that claim fills still cover. -/
def claimsLeft (s : State) : List Nat := s.dram.claims.flatMap (·.left)

/-- Everything due in one row, in its one row cycle (R443): its write-intent entry's check, and after HRST_N its dirty lines and
its claim fills (R448). -/
def restoreRow (s : State) (flush : Bool) (r : Nat × Nat × Nat) : State :=
  let s := ((List.finRange 256).filter fun i => decide (wiRow s i = some r)).foldl wiCheck s
  if flush then
    let s := ((s.lagoon.lines.filter fun l => (rowUnits s r.1 r.2.1 r.2.2).contains l.unit).foldl flushLine s)
    ownWrites s (((claimsLeft s).filter fun b => decide (rowAt s b = r)).map fun b => (b, 0))
  else s

/-- The rows the start opens between the self-refresh exit and READY, each once (R443). -/
def restoreRows (s : State) (flush : Bool) : List (Nat × Nat × Nat) :=
  ((List.finRange 256).filterMap (wiRow s) ++
    (if flush then rowsOf s (s.lagoon.lines.filter fun l => decide (l.dirty ≠ 0)) ++ (claimsLeft s).map (rowAt s) else [])).eraseDups

/-- The write-intent check, and after HRST_N the flush, row by row; the ring is clear and the rows are closed afterwards. -/
def restoreDram (s : State) (flush : Bool) : State :=
  let s := (restoreRows s flush).foldl (fun s r => restoreRow s flush r) s
  let shut (c : PcSt) : PcSt := { c with banks := c.banks.map fun b =>
    if b.row.isSome then { b with row := none, preAt := max s.now (preTime b) } else b }
  { s with pcs := s.pcs.map shut
           power := { s.power with ring := Vector.replicate 256 none }
           dram := { s.dram with claims := if flush then [] else s.dram.claims } }

/-- Records that a torn seal left missing are replaced (R284, R428). -/
def replaceRecords (s : State) : State :=
  let e := s.epochs
  let maps := ((List.range 4).filter fun i => decide (i ≤ e.newest)).reverse.map fun i =>
    ({ epoch := e.newest - i, bits := allGranules, forced := true } : EpMap)
  let s := { s with
    dram := { s.dram with freshAll := s.dram.freshAll || s.dram.freshActive
                          poison := Vector.replicate 512 none, listFull := true }
    epochs := { e with cum := allGranules, cumForced := allGranules, maps := maps, deferred := [] } }
  let s := (List.range 16).foldl (fun s i => csrSet s (trigReg i 0) (putBits (csrGet s (trigReg i 0)) 0 1 0)) s
  raiseJ s 1459 0x0407 sevError 31 0

/-- A way whose recovery a reset cut short counts as failed (R185). -/
def failCutWays (s : State) : State :=
  let l := s.lagoon
  let ws := l.recovering.toList ++ (l.nextWay.map (·.1)).toList
  ws.foldl disableWay { s with lagoon := { l with lines := [], recovering := none, nextWay := none } }

/-- Steps from the self-refresh exit to the restoration of records. -/
def restoreMemory (s : State) : State :=
  if s.start.wiped then s
  else
    let s := restoreDram s (decide (s.start.kind = 2))
    if s.start.kind = 0 && recordsLost s then replaceRecords s else s

/-- What a torn resume reports (R428 step 4): the SEAL entry and SEAL_TORN. Log entry 58. -/
def reportTorn (s : State) : State :=
  if s.start.wiped || decide (s.start.kind ≠ 0) || decide (s.power.sealCheck ≠ 2) then s
  else
    let s := journal s 0x0009 1521 (bodyAt 24 s.power.lwSeal.nextSsn + bodyAt 32 1)
    raiseJ s 1522 0x0901 sevError s.power.wiFound.length s.power.unflushed

/-- TRN_DONE goes out on a trained port (R442). -/
def releasePort (s : State) (p : Port) : State :=
  match s.links[p].trnDone with
  | some arg => pctlSend (s.modLink p fun l => { l with trnDone := none }) p 0x16 arg false
  | none => s

/-- READY and what follows in its CCLK: the seal EMPTY, service, the scrubber, the Chrosy link, the events (R29, R445). -/
def setReady (s : State) (msec : Nat) : State :=
  let msec := min 65535 msec
  let keptCold := decide (s.start.kind = 0) && !s.start.wiped
  let s := { s with
    stack := { s.stack with ready := true }
    train := { s.train with activity := 0 }
    power := { s.power with phase := .service, lwSeal := {}, progress := none, idleAt := none, lowAt := s.now
                            resumeMs := if keptCold then msec else 0 }
    start := { s.start with startMs := msec }
    guard := { s.guard with windowAt := s.now, winNo := s.guard.winNo + 1 }
    fuse := { s.fuse with resenseAt := s.now } }
  let s := if s.jtag.ir = 0x03 ∨ s.jtag.ir = 0x10 then jtagBypass s else s
  let s := if s.scrub.held then s else scrubRelease { s with scrub := { s.scrub with held := true } }
  let s := raise s 1513 0x0A00 sevNotice s.start.kind msec
  let s := if s.start.hrstLost = 0 then s else raiseJ s 1515 0x0A02 sevError s.start.hrstLost s.power.wiFound.length
  let s := if keptCold then raise s 1522 0x0900 sevNotice (s.power.sealCheck + 4 * s.power.lastCause) msec else s
  startLink s

/-- A stack at the RETIRED life-cycle state serves no memory (R501): its pseudo-channels stay offline. -/
def retired (s : State) : Bool := decide (s.fuse.lc = 5)

/-- The release step, after 32 ms of self-refresh (R201). Log entry 61. -/
def release (s : State) (msec : Nat) : State :=
  let s := s.atLeast (s.start.begunAt + 32 * ms)
  let s := reportTorn (failCutWays (restoreMemory s))
  let s := applySettings s
  let s := (List.finRange 16).foldl releasePort s
  let s := if retired s then { s with pcs := s.pcs.map fun c => { c with mode := .offline } } else wakeAll s s.now
  setReady s msec

/-- Every region has been trained: a port is trained or has failed, a pseudo-channel is trained or offline, the crossing groups
are tuned (R110, R112, R113, R441, R442). Log entry 61. -/
def allTrained (s : State) : Bool :=
  s.ports.toList.all (fun q => q.link == .up || q.link == .failed) &&
  s.pcs.toList.all (fun c => c.trained || c.mode == .offline) && s.train.xingDone

/-- Every earlier step has been taken, and a full round of the Watch has found no die at SHUTDOWN (R467).
Log entries 61, 62. -/
def mayRelease (s : State) : Bool :=
  s.power.phase == .starting && decide (s.start.step = 4) && !s.scrub.tidefill && keeperUp s && allTrained s &&
  s.therm.coolRound && s.therm.dies.toList.all fun d => decide (d.level < 3)

def execStartRelease (msec : Nat) (s : State) : Out :=
  whenDo (mayRelease s) s (if s.train.xingFatal then haltStart s 4 else release s msec)

/-! ### PRST_N and HRST_N (R437, R446 to R449, R452) -/

/-- A reset input during a start, or after a halt: the start goes back to its Keeper boot; registers return to their reset
values (R137, R447), and training begins anew. -/
def restartStart (s : State) (which : Nat) : State :=
  let step := stepNo s
  let s := restartRegs s true false
  let s := { s with ports := s.ports.map (restartPort true false), links := Vector.replicate 16 {}
                    train := restartTrain s.train false, pcs := s.pcs.map (restartPc true) }
  let s := { s with power := { s.power with phase := .starting }, stack := { s.stack with keeper := .off }
                    start := { s.start with step := max 1 (min 2 s.start.step) }, transit := {} }
  raise s 1517 0x0A04 sevWarn which step

/-- The warm reset's quiesce, to its `k`-th step (1 to 6), then logic reset. Log entry 16. -/
def warmReset (s : State) (k : Nat) : State :=
  let s := drainSteps (drainStart s 2 true) 1 k
  let s := if k = 6 then stopLink s 6 else s
  { s with stack := { s.stack with ready := false, keeper := .off }
           power := { s.power with phase := .held 1 }
           start := { s.start with holdTil := s.now + 1600 } }

def execPrstAssert (steps : Fin 8) (s : State) : Out :=
  match s.power.phase with
  | .service => .next (warmReset s (max 1 (min 6 steps.val)))
  | .starting | .halted => .next (restartStart s 1)
  | _ => .next s

/-- HRST_N: no further DRAM command, the writes in queue entries counted and lost, forced self-refresh (R448). -/
def hardReset (s : State) : State :=
  let lost := queuedWrites s
  let fell := s.now
  let s := (List.finRange 64).foldl wiClear (transitStop (fuseStop s))
  let f (c : PcSt) : PcSt := { c with queue := [], derived := [], offers := [] }
  let s := selfRefreshAll { s with pcs := s.pcs.map f }
  { s with stack := { s.stack with ready := false, keeper := .off }
           power := { s.power with phase := .held 2, armed := false, low := 0, target := none, exiting := false }
           start := { s.start with hrstLost := lost, holdTil := fell + 1760 } }

def execHrstAssert (s : State) : Out :=
  match s.power.phase with
  | .service | .held 1 => .next (hardReset s)
  | .starting | .halted => .next (restartStart s 2)
  | _ => .next s

/-- Logic reset is released: the stack restarts from its Keeper boot. Log entry 57. -/
def logicRelease (s : State) (kind : Nat) : State :=
  let s := s.atLeast s.start.holdTil
  let lost := s.start.hrstLost
  let s := restartState s true false (decide (kind = 1)) (if kind = 1 then 6 else 1)
  let s := if kind = 1 then reportSeal s 1 else { s with power := { s.power with sealCheck := 0 } }
  let s := { s with start := { s.start with
      wiped := false, keyLost := false, quickFail := false, startMs := 0, hrstLost := if kind = 2 then lost else 0, step := 2
      armAt := if kind = 2 then some (s.now + us10) else none } }
  decideSeries s kind (if kind = 1 then 1 else 0) false

/-- The quiesce runs to its end before logic reset is released (R446). Log entry 16. -/
def finishQuiesce (s : State) : State := if 6 ≤ s.power.drained then s else stopLink (drainSteps s s.power.drained 6) 6

def execLogicResetRelease (s : State) : Out :=
  match s.power.phase with
  | .held 1 => .next (logicRelease (finishQuiesce s) 1)
  | .held 2 => .next (logicRelease s 2)
  | _ => .next s

/-- Power-fail detection is armed 10 us after logic reset is released (R448). -/
def execPfailDetectArm (s : State) : Out :=
  match s.start.armAt with
  | some t =>
    whenDo (!s.power.armed && corePowered s && decide (s.start.kind = 2)) s
      (let s := s.atLeast t
       { s with power := { s.power with armed := true }, start := { s.start with armAt := none } })
  | none => .next s

end Sys2Proof.Machine
end

