-- ==== Sys2Proof/Machine/RegRead.lean ====
section
/-! DEFINITION. What every register reads as (R532, R536, R541): stored bits in force, and the RV fields computed from the state. -/

namespace Sys2Proof.Machine

/-- A field placed in a word. -/
def fld (lo w v : Nat) : Nat := v % 2 ^ w * 2 ^ lo

/-- A flag placed in a word. -/
def bitAt (lo : Nat) (b : Bool) : Nat := b2n b * 2 ^ lo

/-- A half of a 64-bit quantity: `hi` false the low word. -/
def half (hi : Bool) (v : Nat) : Nat := if hi then bitsOf v 32 32 else bitsOf v 0 32

/-! ### Global, fuses, ports, memory service -/

/-- `GLOBAL` and `RESET` (R29, R39, R136, R453, R548, R561). Log entry 76. -/
def readGlobal (s : State) (a : Nat) : Nat :=
  if a = 0x00000C then
    bitAt 0 s.stack.ready + bitAt 1 (keeperUp s) + bitAt 2 (s.stack.ready && !keeperUp s)
      + fld 8 7 (s.pcs.toList.filter fun c => c.mode == .offline).length + fld 16 8 s.stack.restarts
  else if a = 0x000020 then csrGet s a + fld 2 2 s.dram.mapActive
  else if a = 0x000048 then s.regs.wlost.toNat
  else if a = 0x000060 then fld 0 3 s.start.strap + bitAt 3 (!s.start.refclkLost) + bitAt 4 (!s.power.failing) + fld 5 2 3
  else if a = 0x000100 then
    fld 0 3 s.start.kind + bitAt 3 s.start.wiped + bitAt 4 s.start.keyLost + bitAt 5 s.start.quickFail + fld 16 16 s.start.startMs
  else if a = 0x000104 then fld 0 14 s.start.hrstLost
  else csrForce s a

/-- `FUSE` (R511). Log entry 52. -/
def readFuse (s : State) (a : Nat) : Nat :=
  if a = 0x010000 then fld 0 3 s.fuse.lc + bitAt 3 s.fuse.inconsistent + fld 4 3 (lcOf s.fuse.arr)
  else if 0x010010 ≤ a ∧ a < 0x010030 then
    let g := s.fuse.groups.toList.getD ((a - 0x010010) / 4) {}
    fld 0 2 g.validity + bitAt 2 g.locked + bitAt 3 g.lockedInvalid + fld 4 12 g.marginal + bitAt 16 g.drift
  else if a = 0x010050 then
    bitAt 0 s.fuse.op.isSome + fld 1 4 s.fuse.result + fld 5 11 s.fuse.pulses + fld 16 3 (fuseCond s)
  else if a = 0x01005C then (if s.fuse.rdataAt ≤ s.now then s.fuse.rdata.toNat else 0)
  else if a = 0x010060 then
    fld 0 9 (rollbackIdx s.fuse.arr 0) + fld 9 9 (rollbackIdx s.fuse.arr 1) + fld 18 9 (rollbackIdx s.fuse.arr 2)
  else csrForce s a

/-- `PORT[p].STAT.LINK` (R102). -/
def linkCode : Link → Nat
  | .down => 0
  | .training => 1
  | .up => 2
  | .remap => 3
  | .reset => 4
  | .failed => 5

/-- A lane map as its register shows it (R102). -/
def laneMap (m : Vector (Option Nat) 4) : Nat :=
  ((List.finRange 4).map fun i => match m[i] with | some l => fld (8 * i.val) 8 (l % 128 + 128) | none => 0).sum

/-- `PORT` and `QOS` (R102, R159, R160). -/
def readPort (s : State) (a : Nat) : Nat :=
  if a < 0x030000 then
    let q := s.ports[portFin ((a - 0x020000) / 0x1000)]
    let off := a % 0x1000
    if off = 0x000 then
      fld 0 3 (linkCode q.link) + fld 3 3 (sparesUsed q.mapDn) + fld 6 3 (sparesUsed q.mapUp) + fld 9 2 q.failReason
        + bitAt 11 q.sigLost
    else if off = 0x008 then laneMap q.mapDn
    else if off = 0x00C then laneMap q.mapUp
    else if off = 0x01C then fld 0 10 q.tags.length + fld 16 8 q.staging.length
    else csrForce s a
  else if a = 0x030010 ∨ a = 0x030014 then
    half (a == 0x030014) ((List.finRange 64).foldl (fun b n => if s.pcs[n].lapsed then b + 2 ^ n.val else b) 0)
  else csrForce s a

/-- `PC` (R161, R210, R251). -/
def readPc (s : State) (a : Nat) : Nat :=
  let n := pcFin ((a - 0x040000) / 0x400)
  let c := s.pcs[n]
  let off := a % 0x400
  if off = 0x000 then fld 0 8 (poolUsed c 0 + poolUsed c 1) + fld 8 5 (poolUsed c 2) + fld 13 4 (poolUsed c 0)
  else if off = 0x004 then bitAt 0 c.lapsed + fld 1 3 c.cause
  else if off = 0x040 then
    fld 0 4 (min 15 (c.banks.toList.foldl (fun m b => max m b.debt) 0)) + bitAt 4 c.slot2x + bitAt 5 (c.banks.toList.any (isForced s))
  else if off = 0x050 then
    (if c.tracker.length < 2048 then 0 else fld 0 16 (minEst (trkFresh (winNow s) c).tracker))
  else csrForce s a

/-! ### Refresh, row guard, Lagoon, Sextant -/

/-- `REFRESH` and `ROWGUARD` (R206 to R209): in BASIC the parameters of the preset read back. -/
def readGuard (s : State) (a : Nat) : Nat :=
  let basic := !expert s 0x050100
  let (ct, nt, sl, msx) := guardParams s
  if a = 0x050104 ∧ basic then fld 0 10 ct + fld 16 10 nt
  else if a = 0x050108 ∧ basic then fld 0 10 sl + fld 16 3 msx
  else if a = 0x050110 then fld 0 11 (s.guard.thr.filter fun e => decide (e.2.step ≠ 0)).length
  else if 0x050200 ≤ a ∧ a < 0x050400 then
    ((List.range 8).map fun j =>
      let t := thrOf s (8 * ((a - 0x050200) / 4) + j)
      fld (4 * j) 3 t.step + bitAt (4 * j + 3) t.urg).sum
  else csrForce s a

/-- `LAGOON` (R186, R187). -/
def readLagoon (s : State) (a : Nat) : Nat :=
  let l := s.lagoon
  if a = 0x060010 then
    fld 0 20 (dirtyLines s) + bitAt 20 l.flushing + bitAt 21 l.recovering.isSome + fld 22 2 l.degrade
      + fld 24 4 (l.recovering.getD 0) + bitAt 28 l.recovering.isSome
  else if a = 0x060014 then fld 0 16 l.failed + fld 16 16 (outOfService s)
  else if a = 0x060018 then fld 0 18 (capturedRows s).length
  else csrForce s a

/-- `SEXTANT` (R129, R130): in BASIC an override entry shows its lane's taps. -/
def readSextant (s : State) (a : Nat) : Nat :=
  let t := s.train
  if a = 0x0F0004 then fld 0 3 t.activity + bitAt 3 t.lastFull + fld 8 8 t.untuned
  else if a = 0x0F0008 then
    fld 0 8 t.bad.length + fld 8 8 (t.recs.toList.filter fun r => r.due || r.mapDue).length + fld 16 16 t.rewrites
  else if a = 0x0F0014 then t.qual.toNat
  else if a = 0x0F0018 then t.qpos.toNat
  else if 0x0F0200 ≤ a ∧ a < 0x0F0400 ∧ a % 8 = 4 ∧ expert s 0x0F0000 = false then
    let l := selOf (csrGet s (a - 4))
    match refRegion l with
    | some r => let x := laneGet s (laneKey r l.lane); fld 0 9 x.delay + fld 9 6 x.thresh
    | none => 0
  else csrForce s a

/-! ### Scrub, integrity, repair -/

/-- `SCRUB.STAT.STATE` (R249). -/
def scrubState (s : State) : Nat :=
  if s.scrub.tidefill then 4 else if s.scrub.held then 0 else if scrubPaused s then 3 else if idleOnly s then 2 else 1

/-- Main lap progress in percent of its units. -/
def scrubProgress (s : State) : Nat :=
  let l := s.pcs.toList.filter (·.walker.inLap)
  if l.isEmpty || s.scrub.held then 0 else (l.map fun c => c.walker.pos).sum * 100 / (l.length * unitsPerPc)

/-- `SCRUB`, `INTEG`, `POISON`, `FRESH`, `REPAIR` (R248 to R250, R270). -/
def readInteg (s : State) (a : Nat) : Nat :=
  if a = 0x070008 then csrForce s a % 4 + bitAt 2 s.dram.freshActive + bitAt 3 s.dram.tidefillRan
  else if a = 0x070018 then
    fld 0 3 (scrubState s) + fld 3 7 (scrubProgress s)
      + bitAt 10 (!s.scrub.held && s.pcs.toList.any fun c => c.walker.inLap && walkerBehind s c.walker) + bitAt 11 s.scrub.verify
  else if a = 0x07001C then fld 0 32 s.scrub.lapTime
  else if a = 0x070040 then
    fld 0 10 (s.dram.poison.toList.filter (·.isSome)).length + bitAt 10 s.dram.listFull
  else if a = 0x070048 ∨ a = 0x07004C then
    match s.dram.poison.toList.getD (csrFld s 0x070044 0 9) none with
    | some (blk, f) => if a = 0x070048 then fld 0 31 blk + fld 31 1 1 else fld 0 3 f
    | none => 0
  else if a = 0x070050 then fld 0 9 s.dram.claims.length + bitAt 9 (!claimRoom s)
  else if a = 0x070204 then
    fld 0 11 (fieldUsed s 0 1024) + fld 11 9 (fieldUsed s 1024 1280) + fld 20 8 (fieldUsed s 1280 1408)
  else if a = 0x070208 then
    let k := (s.dram.soft.toList.filter (·.isSome)).length
    fld 0 9 k + bitAt 9 (decide (k = 256))
  else if a = 0x07021C then
    match s.dram.soft.toList.getD (csrFld s 0x070218 0 8) none with
    | some r => rowWord r
    | none => 0
  else csrForce s a

/-! ### Thermal and power -/

/-- `THERMAL` (R474, R475). Log entry 51. -/
def readThermal (s : State) (a : Nat) : Nat :=
  let t := s.therm
  if a = 0x080014 then
    bitAt 0 t.shut + bitAt 1 t.armed + bitAt 2 t.crit + bitAt 3 t.lgInfer + fld 4 5 (hottest s)
  else if a = 0x080018 then b2n t.armed
  else if a = 0x080020 then (t.tInf % 4096).toNat + fld 12 2 t.mismatch + bitAt 14 t.inferOk
  else if 0x080040 ≤ a ∧ a < 0x080088 then
    let d := (a - 0x080040) / 4
    let x := t.dies.toList.getD d {}
    let temp := dieTemp s d
    let subst := (d == 16 && t.lgInfer) || (dieChans d).any fun c => decide (t.chans[c].cause ≠ 0) && decide (some (chanTemp s c) = temp)
    ((temp.getD 0) % 4096).toNat + fld 12 2 x.level + fld 14 3 x.step + bitAt 17 subst + bitAt 18 x.allBroken
  else if 0x080100 ≤ a ∧ a < 0x080300 then
    let c := t.chans.toList.getD ((a - 0x080100) / 4) {}
    fld 0 16 c.value + bitAt 16 (decide (c.cause ≠ 0)) + fld 17 3 c.cause
  else csrForce s a

/-- `POWER` and `LOWWATER` (R431 to R433). -/
def readPower (s : State) (a : Nat) : Nat :=
  let w := s.power
  if a = 0x0C0010 then fld 0 2 w.low + bitAt 2 w.exiting + fld 3 3 w.lastWake
  else if a = 0x0C0104 then
    fld 0 2 w.sealCheck + fld 2 2 w.lastCause + fld 4 9 w.wiFound.length + bitAt 13 w.failing
  else if a = 0x0C0108 then fld 0 32 w.lastDrain
  else if a = 0x0C010C then fld 0 20 w.unflushed
  else if a = 0x0C0110 then fld 0 16 w.resumeMs
  else if a = 0x0C0118 ∨ a = 0x0C011C then
    match w.wiFound.find? fun e => decide (e.1 = csrFld s 0x0C0114 0 8) with
    | some (i, e, p) =>
      if a = 0x0C0118 then fld 0 6 (i / 4) + fld 6 5 e.bank + fld 11 16 e.row else fld 0 16 e.mask + fld 16 1 1 + bitAt 17 p
    | none => 0
  else csrForce s a

/-! ### Wetex -/

/-- `WETEX.RING[r].STAT.STATE` (R297). -/
def wxCode : WxMode → Nat
  | .disabled => 0
  | .active => 1
  | .draining => 2
  | .stopped => 3

/-- `WETEX` (R324, R325). -/
def readWetex (s : State) (a : Nat) : Nat :=
  if a = 0x090004 then
    fld 0 11 (wxActive s) + bitAt 21 (decide (1024 ≤ wxActive s))
      + bitAt 22 (!keeperUp s && s.wetex.rings.toList.any fun q => q.act.any fun d =>
          needsKeeper d.opc && d.disp.isSome && d.fin.isNone && !d.running)
      + bitAt 23 (epochWait s)
  else if a = 0x090018 ∨ a = 0x09001C then half (a == 0x09001C) s.wetex.bytes
  else if 0x091000 ≤ a then
    let q := s.wetex.rings.toList.getD ((a - 0x091000) / 0x40) {}
    let off := a % 0x40
    if off = 0x14 then
      fld 0 2 (wxCode q.st) + fld 4 12 q.sqHead + fld 16 12 q.cqTail + fld 28 2 q.stop + bitAt 30 q.phase
    else if off = 0x18 then fld 0 12 q.sqTail + fld 16 12 q.cqHead
    else if off = 0x1C then fld 0 13 q.act.length
    else csrForce s a
  else csrForce s a

/-! ### Events, journal, epochs -/

/-- One of the event rings' registers (R352): rings 1 to 3 read zero in BASIC. -/
def readEvRing (s : State) (a : Nat) : Nat :=
  let k : Fin 4 := ⟨(a - 0x0A0100) / 0x20 % 4, Nat.mod_lt _ (by decide)⟩
  let r := s.evt.rings[k]
  let n := evRingSize s k
  if k ≠ 0 ∧ expert s 0x0A0000 = false then 0
  else if a % 0x20 = 0x0C then (if r.active then r.head % n else csrGet s a)
  else if a % 0x20 = 0x10 then
    (if r.active then fld 0 16 (r.tail % n) + bitAt 16 (decide (r.tail / n % 2 = 0)) else fld 0 16 r.lastTail + bitAt 16 r.lastPhase)
      + bitAt 17 r.active + fld 18 14 r.waiting.length
  else csrForce s a

/-- `EVT`, `SEQ`, `ALMANAC` (R348, R351 to R353). -/
def readEvents (s : State) (a : Nat) : Nat :=
  let hi := decide (a % 8 = 4)
  if a = 0x0A000C then
    bitAt 0 (fatalPend s) + bitAt 1 (eventAsserted s) + bitAt 2 s.evt.alertN + fld 4 7 s.evt.mfifo.length + bitAt 11 s.evt.mfifoOvf
  else if a = 0x0A0010 ∨ a = 0x0A0014 then half hi s.evt.fatalSsn
  else if a = 0x0A0018 ∨ a = 0x0A001C then half hi s.evt.fatalAck
  else if a = 0x0A0020 ∨ a = 0x0A0024 then half hi s.seq.next
  else if a = 0x0A0028 then fld 0 32 s.seq.starts
  else if a = 0x0A0030 ∨ a = 0x0A0034 then half hi (oldestSsn s)
  else if a = 0x0A0038 ∨ a = 0x0A003C then half hi (newestSsn s)
  else if a = 0x0A0040 ∨ a = 0x0A0044 then half hi s.jrn.count
  else if a = 0x0A0048 ∨ a = 0x0A004C then half hi s.jrn.rsel
  else if a = 0x0A0050 then
    bitAt 0 s.jrn.busy + bitAt 1 s.jrn.found + bitAt 2 s.jrn.gap + bitAt 3 s.jrn.unreadable
  else if 0x0A0080 ≤ a ∧ a < 0x0A00C0 then
    (if s.jrn.busy then 0 else bitsOf s.jrn.rdata.toNat (8 * (a - 0x0A0080)) 32)
  else if 0x0A0100 ≤ a ∧ a < 0x0A0180 then readEvRing s a
  else if 0x0A0500 ≤ a ∧ a < 0x0A0520 then mfifoWord s ((a - 0x0A0500) / 4)
  else csrForce s a

/-- `EPOCH`, `TIDEMARK`, `TRIG` (R292, R293). -/
def readEpochs (s : State) (a : Nat) : Nat :=
  let e := s.epochs
  let hi := decide (a % 8 = 4)
  if a = 0x0A0800 then (e.pendingSet.getD e.portset).toNat + bitAt 31 e.pendingSet.isSome
  else if a = 0x0A0804 then
    bitAt 0 e.started + bitAt 1 e.two + bitAt 2 (anyHeld s) + bitAt 3 (decide (e.cumForced ≠ 0) || e.maps.any (·.forced)) + fld 4 18 (behindBits s)
  else if a = 0x0A0808 ∨ a = 0x0A080C then half hi e.newest
  else if a = 0x0A0810 ∨ a = 0x0A0814 then half hi (newestClosed s)
  else if a = 0x0A0818 ∨ a = 0x0A081C then half hi e.init
  else if a = 0x0A0820 then fld 0 21 (popc 21 e.cum)
  else if a = 0x0A0824 then fld 0 21 (popc 21 (epochBits s e.newest))
  else if 0x0A0900 ≤ a ∧ a % 0x20 = 0 then
    let i := (a - 0x0A0900) / 0x20
    csrGet s a + bitAt 6 (e.fired.getLsbD i) + bitAt 7 (e.stale.getLsbD i)
  else csrForce s a

/-! ### Chrosy and mirroring -/

/-- `CHROSY.STAT.STATE` (R373). -/
def chrCode : ChrState → Nat
  | .down => 0
  | .seek => 1
  | .align => 2
  | .up => 3
  | .degrade => 4

/-- `MIRROR.WIN[w].STAT.STATE` (R385). -/
def winCode : WinMode → Nat
  | .off => 0
  | .inSync => 1
  | .diverged => 2
  | .resync => 3

/-- `CHROSY` (R380, R381). -/
def readChrosy (s : State) (a : Nat) : Nat :=
  let c := s.chrosy
  if a = 0x0B0004 then
    fld 0 3 (chrCode c.st) + (if c.st == .up then fld 3 2 (widthCode c.txW) + fld 5 2 (widthCode c.rxW) else 0)
      + fld 7 4 c.rxDropped + fld 11 4 c.txDropped + fld 15 8 c.hb
      + bitAt 23 (match c.hbAt with | some t => decide (s.now < t + 3200) | none => false) + fld 24 3 c.downReason
  else if a = 0x0B0008 then fld 0 9 c.credits[0] + fld 16 9 c.credits[1]
  else if a = 0x0B000C then fld 0 7 c.replay.length + fld 8 8 c.nextFsn
  else if a = 0x0B0044 then c.qual[0].toNat
  else if a = 0x0B0048 then c.qual[1].toNat
  else if a = 0x0B004C then c.qual[2].toNat
  else if a = 0x0B0050 then c.qual[3].toNat
  else csrForce s a

/-- `MIRROR` (R404, R405): windows 1 to 63 read zero in BASIC. -/
def readMirror (s : State) (a : Nat) : Nat :=
  let diverged := (List.finRange 64).foldl (fun b w => if s.mirror.wins[w].st == .diverged then b + 2 ^ w.val else b) 0
  if a = 0x0B010C then fld 0 15 (backlogKib s) + fld 16 8 (applyOut s)
  else if a = 0x0B0110 ∨ a = 0x0B0114 then half (a == 0x0B0114) diverged
  else if 0x0B1000 ≤ a then
    let w := (a - 0x0B1000) / 0x20
    let x := s.mirror.wins[winFin w]
    if winExists s w = false then 0
    else if a % 0x20 = 0x10 then fld 0 2 (winCode x.st) + fld 2 3 x.reason
    else if a % 0x20 = 0x14 then fld 0 32 x.next
    else if a % 0x20 = 0x18 then fld 0 32 x.acked
    else csrForce s a
  else csrForce s a

/-! ### Update and Transit -/

/-- `FWUP` (R530). -/
def readFw (s : State) (a : Nat) : Nat :=
  let f := s.fw
  if a < 0x0D000C then fld 0 32 (activeVersion s ((a - 0x0D0000) / 4))
  else if a = 0x0D0010 then
    ((List.range 3).map fun c => fld (4 * c) 1 (activeIdx s c) + fld (4 * c + 1) 2 (slotGet s c (idleIdx s c)).st).sum
  else if a = 0x0D0014 then
    fld 0 2 f.holder + fld 2 3 f.activated + fld 5 2 f.cleanBoots + fld 7 2 f.wdog + bitAt 9 f.rbPending
  else if a = 0x0D0020 then fld 0 8 f.areas[areaFin f.area].fmt + fld 8 1 f.area + bitAt 9 f.defaulted
  else if a = 0x0D0088 then bitAt 0 (mBusy s) + fld 1 8 f.mResult + fld 9 22 f.mAccepted
  else csrForce s a

/-- `TRANSIT` (R486, R488, R493). -/
def readTransit (s : State) (a : Nat) : Nat :=
  let t := s.transit
  let hi := decide (a % 8 = 4)
  if a = 0x0E000C then
    bitAt 0 t.running + bitAt 1 t.done + fld 2 3 t.verdict + fld 5 4 t.test + fld 9 3 t.abortCause + bitAt 12 t.ovf
      + fld 13 10 t.skipped + fld 23 9 (min 511 t.fails)
  else if a = 0x0E0010 ∨ a = 0x0E0014 then half hi t.cycles
  else if a = 0x0E0018 ∨ a = 0x0E001C then half hi t.expect
  else if a = 0x0E0020 ∨ a = 0x0E0024 then half hi t.sig
  else if a = 0x0E0028 ∨ a = 0x0E002C then half hi t.sigexp
  else if a = 0x0E0040 ∨ a = 0x0E0044 then
    let e := t.log.getD (csrFld s 0x0E003C 0 6) (0, 0)
    if hi then fld 0 32 e.2 else fld 0 32 e.1
  else csrForce s a

/-! ### One word -/

/-- The value a 32-bit register reads as, without any side effect; locations no chapter defines read zero (R16), and so does the
Chrosy and mirroring block of a stack whose link is disabled (R6). Log entry 7. -/
def liveWord (s : State) (a : Nat) : Nat :=
  match regRow a with
  | none => 0
  | some _ =>
    match a / 65536 with
    | 0x00 => readGlobal s a
    | 0x01 => readFuse s a
    | 0x02 | 0x03 => readPort s a
    | 0x04 => readPc s a
    | 0x05 => readGuard s a
    | 0x06 => readLagoon s a
    | 0x07 => readInteg s a
    | 0x08 => readThermal s a
    | 0x09 => readWetex s a
    | 0x0A => if a < 0x0A0800 then readEvents s a else readEpochs s a
    | 0x0B => if chrosyOn s then (if a < 0x0B0100 then readChrosy s a else readMirror s a) else 0
    | 0x0C => readPower s a
    | 0x0D => readFw s a
    | 0x0E => readTransit s a
    | 0x0F => readSextant s a
    | _ => 0

end Sys2Proof.Machine
end

