-- ==== Sys2Proof/Machine/RegWrite.lean ====
section
/-! DEFINITION. What a write of a 32-bit register does (R541, R544, R545, R547, R548), register by register: clamped fields,
refused values, settings, BASIC and EXPERT control. -/

namespace Sys2Proof.Machine

/-! ### Stored bits and same-cycle conflicts (R547) -/

/-- The bits of a word outside a mask. -/
def without (v m : Nat) : Nat := v &&& (0xFFFFFFFF ^^^ m)

/-- Bits of a register that hardware has changed in this CCLK. Log entry 66. -/
def hwMask (s : State) (a : Nat) : Nat :=
  (s.regs.hwField.filter fun e => decide (e.1 = a)).foldl (fun m e => m ||| e.2) 0

/-- REG_WLOST and WLOST of the block (R547, R548). -/
def writeLost (s : State) (path : Path) (a : Nat) : State :=
  let bit : BitVec 16 := 1#16 <<< (a / 65536)
  let s := { s with regs := { s.regs with wlost := s.regs.wlost ||| bit, hwField := (0x000048, bit.toNat) :: s.regs.hwField } }
  raiseLim s (evKey 1475 0x0F02) ms 1475 0x0F02 sevInfo (a + path.val * 2 ^ 24) 0 1 false

/-- `PC[n].URGLATMAX`, the maximum fields. -/
def isMaxReg (a : Nat) : Bool := decide (0x040000 ≤ a) && decide (a < 0x050000) && decide (a % 0x400 = 8)

/-- Bits a write stores: in BASIC, expert bits are left out (R545). -/
def wMask (s : State) (r : RegRow) : Nat := if r.mode = 0 ∨ expert s r.mode = true then r.w else without r.w r.x

/-- A write of the stored bits: counters keep the increment of this CCLK, a maximum field the larger value, and a field that
hardware has just changed keeps the hardware's value (R547). A TV field's copies are written with it (R544).
Log entries 66, 75. -/
def storeWord (s : State) (path : Path) (r : RegRow) (a v : Nat) : State :=
  let s := keepCsr s
  let old := csrGet s a
  if r.cnt then
    csrSet s a (satAdd 0xFFFFFFFF v ((s.regs.hwCount.filter fun e => decide (e.1 = a)).map (·.2)).sum)
  else if isMaxReg a then
    let part (lo : Nat) : Nat :=
      if bitsOf (hwMask s a) lo 16 = 0 then bitsOf v lo 16 else max (bitsOf v lo 16) (bitsOf old lo 16)
    csrSet s a (part 0 + part 16 * 65536)
  else
    let m := wMask s r
    let lost := m &&& hwMask s a
    let s := csrSet s a (without old (without m lost) ||| (v &&& without m lost))
    let s := { s with regs := { s.regs with copies := smErase s.regs.copies a } }
    if lost = 0 then s else writeLost s path a

/-- An accepted write to a settings-backed register: stored, journalled, and due for the settings record (R334, R525). -/
def storeSetting (s : State) (path : Path) (r : RegRow) (a v : Nat) : State :=
  let s := storeWord s path r a v
  journalReg { s with fw := { s.fw with unsaved := setInsert s.fw.unsaved a } } path.val a v 2

/-! ### BASIC and EXPERT (R545) -/

/-- Registers with expert bits of a MODE register: address and those bits. -/
def expertRegs (m : Nat) : List (Nat × Nat) :=
  ((regsOfBlock (m / 65536)).filter fun r => decide (r.mode = m)).flatMap fun r =>
    (List.range r.n).map fun i => (r.base + r.stride * i, r.x)

/-- Event rings 1 to 3 read zero in BASIC and start EXPERT from there. Log entry 67. -/
def clearRings (s : State) : State :=
  ([1, 2, 3] : List Nat).foldl (fun s k =>
    [0x00, 0x04, 0x08, 0x0C].foldl (fun s o => csrSet s (evRingReg k o) 0) s) s

/-- The change to BASIC is refused: a mirror window, an event ring or a Transit run stands in the way. -/
def modeRefused (s : State) (m : Nat) : Bool :=
  if m = 0x0B0100 then (List.range 64).any fun w => decide (w ≠ 0) && (decide (winMode s w ≠ 0) || s.mirror.wins[winFin w].st != .off)
  else if m = 0x0A0000 then s.evt.rings[1].active || s.evt.rings[2].active || s.evt.rings[3].active
  else m == 0x0E0000 && s.transit.running

/-- EXPERT starts each expert field at the value it reads in BASIC; BASIC discards the expert values. Log entry 67. -/
def setMode (s : State) (m : Nat) (on : Bool) : State :=
  let l := (expertRegs m).map fun e => (e.1, e.2, if on then liveWord s e.1 else regReset e.1)
  let s := csrSet s m (putBits (csrGet s m) 0 1 (b2n on))
  let s := l.foldl (fun s e => csrSet s e.1 (without (csrGet s e.1) e.2.1 ||| (e.2.2 &&& e.2.1))) s
  if m = 0x0A0000 then clearRings s else s

/-- A write to a MODE register: MODE first, then the other fields. -/
def writeMode (s : State) (path : Path) (r : RegRow) (a v : Nat) : State :=
  let on := v.testBit 0
  let s := keepCsr s
  let s := if on = expert s a then s
    else if !on && modeRefused s a then regAccess s a path.val 6
    else setMode s a on
  storeWord s path r a (v - v % 2 + b2n (expert s a))

/-! ### Quality of service, refresh, row guard -/

/-- QOS_CFG (R162). Log entry 74. -/
def qosCfg (s : State) (p : Port) (a0 : Nat) : State :=
  raiseLim s (evKey (portSrc p 15) 0x0140) us10 (portSrc p 15) 0x0140 sevWarn a0 0 1 false

/-- A target field that is taken at a limit (R146). -/
def targetBad (t : Nat) : Bool := (decide (0 < t) && decide (t < 5)) || decide (10000 < t)

def writePort (s : State) (path : Path) (r : RegRow) (a v : Nat) : State :=
  if a = 0x030000 then writeMode s path r a v
  else
    let t := storeWord s path r a v
    if expert s 0x030000 = false then t
    else if a = 0x030004 then
      let u := bitsOf v 0 8; let w := bitsOf v 8 8; let x := bitsOf v 16 8
      if 1 ≤ u ∧ u < w ∧ w < x ∧ x ≤ 200 then t else qosCfg t 0 0xFFFF
    else if a < 0x030000 ∧ a % 0x1000 = 0x020 ∧ (targetBad (bitsOf v 0 14) || targetBad (bitsOf v 16 14)) then
      qosCfg t (portFin ((a - 0x020000) / 0x1000)) v
    else t

/-- RG_CFG (R211). -/
def rgCfg (s : State) (off v : Nat) : State := rgEvent s (pcSrc 0 4) 0x0213 sevWarn off v 2 false

/-- The EXPERT parameter set of row guard is valid (R206). -/
def guardValid (s : State) : Bool :=
  let t := csrGet s 0x050104
  let u := csrGet s 0x050108
  guardOk (bitsOf t 0 10) (bitsOf t 16 10) (bitsOf u 0 10) (bitsOf u 16 3)

def writeGuard (s : State) (path : Path) (r : RegRow) (a v : Nat) : State :=
  if a = 0x050000 then (List.range 16).foldl refreshRate (let t := writeMode s path r a v
    if csrForceFld t 0x050000 1 1 = 1 then { t with pcs := t.pcs.map fun (c : PcSt) => { c with rate2x := true } } else t)
  else if a = 0x050100 then writeMode s path r a v
  else
    let t := storeWord s path r a v
    if a = 0x050004 ∧ expert s 0x050000 = true then
      (if bitsOf v 0 4 = 0 ∨ 8 < bitsOf v 0 4 then rgCfg t 0x0004 v else t)
    else if 0x050010 ≤ a ∧ a < 0x050030 ∧ expert s 0x050000 = true then
      { t with guard := { t.guard with orderRefused := false } }
    else if (a = 0x050104 ∨ a = 0x050108) ∧ expert s 0x050100 = true ∧ guardValid t = false then rgCfg t (a % 0x10000) v
    else t

/-! ### Lagoon, Sextant -/

/-- The captured row with fewest accesses in the current window, of those whose release has not begun. -/
def coldestRow (s : State) : Option (Nat × Nat × Nat) :=
  let acc (r : Nat × Nat × Nat) : Nat := smGet 0 s.lagoon.rowAcc (rowKey (winNow s) r.1 r.2.1 r.2.2)
  (heldRows s).foldl (fun a r => match a with
    | none => some r
    | some q => if acc r < acc q then some r else some q) none

/-- Rows are released until the limit holds (R178). -/
def releaseExcess (fuel limit : Nat) (s : State) : State :=
  match fuel with
  | 0 => s
  | fuel + 1 =>
    if (s.lagoon.lines.filter fun l => l.captured && !l.rel).length ≤ limit then s
    else match coldestRow s with
      | some (n, b, row) => releaseExcess fuel limit (releaseRow s n b row)
      | none => s

/-- A change of `LAGOON.MODE` or `LAGOON.LIMITS` applies (R178). Log entry 74. -/
def lagoonChanged (s : State) : State :=
  let s := balanceWb { s with lagoon := { s.lagoon with flushing := decide (dirtyExcess s ≠ 0) } }
  releaseExcess s.lagoon.lines.length (if csrFld s 0x060000 1 1 = 0 then 0 else captLimit s) s

def writeLagoon (s : State) (path : Path) (r : RegRow) (a v : Nat) : State :=
  if a = 0x060000 then lagoonChanged (writeMode s path r a v)
  else if a = 0x060004 then
    if expert s 0x060000 = false then storeWord s path r a v
    else
      let use := max 8 (min 176 (bitsOf v 0 8)) + min 176 (bitsOf v 8 8) * 256 + max 1 (bitsOf v 16 16) * 65536
      let t := lagoonChanged (storeWord s path r a use)
      if use = v then t else raise t 1042 0x0306 sevWarn v use
  else storeWord s path r a v

/-- Lanes that no override entry names any more go on from their current values (R128). -/
def overridesChanged (s : State) : State :=
  let named := (List.range 64).filterMap fun i => (ovrLane s i).map fun e => laneKey e.1 e.2
  let keep (e : Nat × Lane) : Nat × Lane := if named.contains e.1 then e else (e.1, { e.2 with overridden := false, auto := none })
  { s with train := { s.train with lanes := s.train.lanes.map keep } }

def writeSextant (s : State) (path : Path) (r : RegRow) (a v : Nat) : State :=
  if a = 0x0F0000 then overridesChanged (writeMode s path r a v)
  else if a = 0x0F0010 then qualLatch (storeWord s path r a v)
  else if a = 0x0F001C then
    match refRegion (selOf (csrGet s 0x0F0010)) with
    | some g =>
      let t := storeWord s path r a v
      let k := laneKey g (selOf (csrGet s 0x0F0010)).lane
      laneSet t k { laneGet t k with steps := v }
    | none => s
  else
    let t := storeWord s path r a v
    if 0x0F0200 ≤ a ∧ a < 0x0F0400 ∧ expert s 0x0F0000 = true then
      let t := overridesChanged t
      if a % 8 = 0 ∧ v.testBit 17 = true ∧ (selOf v).group < 2 ∧ refRegion (selOf v) = none then
        ovrEvent t 16 ((a - 0x0F0200) / 8) 2
      else t
    else t

/-! ### Scrub, thermal, power -/

/-- SCRUB_CFG (R252). -/
def scrubCfg (s : State) (a v : Nat) : State := raise s (pcSrc 0 10) 0x0229 sevWarn a v

/-- An enabled range that is ignored (R241). -/
def rangeBad (s : State) (i : Nat) : Bool :=
  bitsOf (csrGet s (0x070100 + 8 * i)) 31 1 == 1 && decide (bitsOf (csrGet s (0x070104 + 8 * i)) 0 21 ≠ 0) && (scrubRange s i).isNone

def writeInteg (s : State) (path : Path) (r : RegRow) (a v : Nat) : State :=
  if a = 0x070000 then writeMode s path r a v
  else if a = 0x070004 then
    let m := max 10 (min 1440 (bitsOf v 0 11))
    let t := storeWord s path r a (putBits v 0 11 m)
    if m = bitsOf v 0 11 then t else scrubCfg t a v
  else if a = 0x070008 then storeSetting s path r a v
  else
    let t := storeWord s path r a v
    if 0x070100 ≤ a ∧ a < 0x070140 ∧ expert s 0x070000 = true ∧ rangeBad t ((a - 0x070100) / 8) = true then scrubCfg t a v
    else t

/-- THERMAL_CFG (R476). Log entry 74. -/
def thermCfg (s : State) (a v : Nat) : State := raiseLim s (evKey 1224 0x0B06) ms 1224 0x0B06 sevWarn a v 2 false

/-- Thresholds used (R458): no field above its default, nor above the next higher threshold in force. -/
def threshUsed (a v : Nat) : Nat :=
  let d := regReset a
  let sd := min (bitsOf v 16 8) (bitsOf d 16 8)
  let th := min (min (bitsOf v 8 8) (bitsOf d 8 8)) sd
  let wn := min (min (bitsOf v 0 8) (bitsOf d 0 8)) th
  wn + th * 256 + sd * 65536

def writeThermal (s : State) (path : Path) (r : RegRow) (a v : Nat) : State :=
  if a = 0x080000 then writeMode s path r a v
  else if 0x080004 ≤ a ∧ a ≤ 0x080010 ∧ expert s 0x080000 = true then
    let use := if a = 0x080010 then max 1 (min 10 (bitsOf v 0 4)) else threshUsed a v
    let t := storeWord s path r a use
    if use = (if a = 0x080010 then bitsOf v 0 4 else bitsOf v 0 24) then t else thermCfg t a v
  else storeWord s path r a v

def writePower (s : State) (path : Path) (r : RegRow) (a v : Nat) : State :=
  if a = 0x0C0000 then writeMode s path r a v
  else if a = 0x0C000C ∧ expert s 0x0C0000 = true then
    let use := max 1 (bitsOf v 0 8) + max 1 (bitsOf v 8 8) * 256 + max 1 (bitsOf v 16 8) * 65536
    let t := storeWord s path r a use
    if use = bitsOf v 0 24 then t else raiseLim t (evKey 1526 0x0905) ms 1526 0x0905 sevWarn a v 2 false
  else if a = 0x0C0100 then storeSetting s path r a v
  else storeWord s path r a v

/-! ### Wetex, events, epochs -/

/-- A write with the fields that hardware changed in this CCLK left as they stand (R547): the value to act on.
Log entry 66. -/
def afterHw (s : State) (r : RegRow) (a v : Nat) : Nat :=
  let lost := r.w &&& hwMask s a
  without v lost ||| (liveWord s a &&& lost)

/-- A write whose field hardware changed in this CCLK is reported. Log entry 66. -/
def reportHw (s : State) (path : Path) (r : RegRow) (a : Nat) (t : State) : State :=
  if r.w &&& hwMask s a = 0 then t else writeLost t path a

def writeWetex (s : State) (path : Path) (r : RegRow) (a v : Nat) : State :=
  if a = 0x090000 then writeWxCtl s v
  else if 0x091000 ≤ a ∧ a % 0x40 = 0x10 then
    writeWxCfg s ⟨(a - 0x091000) / 0x40 % 64, Nat.mod_lt _ (by decide)⟩ v
  else storeWord s path r a v

def writeEvents (s : State) (path : Path) (r : RegRow) (a v : Nat) : State :=
  if a = 0x0A0000 then writeMode s path r a v
  else if 0x0A0100 ≤ a ∧ a < 0x0A0180 then
    let k : Fin 4 := ⟨(a - 0x0A0100) / 0x20 % 4, Nat.mod_lt _ (by decide)⟩
    if evRingServed s k = false then s
    else if a % 0x20 = 0x08 then writeEvRingCfg s k v
    else if a % 0x20 = 0x0C then writeEvHead s k v
    else storeWord s path r a v
  else if a = 0x0A0800 then reportHw s path r a (writePortset s (afterHw s r a v))
  else if 0x0A0900 ≤ a ∧ a < 0x0A0B00 ∧ a % 0x20 = 0 then
    reportHw s path r a (writeTrig s ⟨(a - 0x0A0900) / 0x20 % 16, Nat.mod_lt _ (by decide)⟩ (afterHw s r a v))
  else storeWord s path r a v

/-! ### Chrosy and mirroring, update, Transit -/

def writeChrosy (s : State) (path : Path) (r : RegRow) (a v : Nat) : State :=
  if a = 0x0B0000 then writeChrosyCtl s v
  else if a = 0x0B0040 then chrLatch (storeWord s path r a v)
  else if a = 0x0B0100 then writeMode s path r a v
  else if a = 0x0B0104 then
    let x := expert s 0x0B0100
    let tmo := max 1 (min 100 (bitsOf v 8 7))
    let log_ := bitsOf v 16 5
    let use := if log_ = 0 ∨ 16 < log_ then 16 else log_
    let t := storeWord s path r a (putBits (putBits v 8 7 tmo) 16 5 use)
    if tmo = bitsOf v 8 7 ∧ (x = false ∨ use = log_) then t else mirrorCfg t a v
  else if 0x0B1000 ≤ a then
    let w := (a - 0x0B1000) / 0x20
    if winExists s w = false then s
    else if a % 0x20 = 0x0C then
      let (t, ok) := writeWinCtl s w v
      if ok then journalReg { t with fw := { t.fw with unsaved := setInsert t.fw.unsaved a } } path.val a v 2 else t
    else if a % 0x20 ≤ 0x08 then (if winMode s w = 0 then storeSetting s path r a v else s)
    else s
  else storeWord s path r a v

/-- The update registers take writes of the management port only (R530). -/
def writeFw (s : State) (path : Path) (r : RegRow) (a v : Nat) (selfCheck : Bool) : State :=
  if a < 0x0D0080 ∨ a = 0x0D0088 then s
  else if path.val ≠ 16 then raiseLim s (evKey 1455 0x0E17) ms 1455 0x0E17 sevWarn a v 2 false
  else if a = 0x0D0080 then writeMcmd s v selfCheck
  else storeWord s path r a v

def writeTransit (s : State) (path : Path) (r : RegRow) (a v : Nat) : State :=
  if a = 0x0E0000 then writeMode s path r a v
  else if a = 0x0E0008 then writeTransitCtl s v
  else
    let t := storeWord s path r a v
    if a = 0x0E0038 ∧ expert s 0x0E0000 = true ∧ (bitsOf v 16 16 < bitsOf v 0 16 ∨ 49151 < bitsOf v 16 16) then
      raise t 1509 0x0C05 sevWarn a v
    else t

/-! ### One word -/

def writeGlobal (s : State) (path : Path) (r : RegRow) (a v : Nat) : State :=
  if a = 0x000020 then
    if csrFld s a 4 1 = 1 then regAccess s a path.val 4
    else
      let t := storeWord s path r a v
      journalReg { t with fw := { t.fw with unsaved := setInsert t.fw.unsaved a } } path.val a v 0
  else if a = 0x000048 then
    { s with regs := { s.regs with wlost := s.regs.wlost &&& (BitVec.ofNat 16 v ||| BitVec.ofNat 16 (hwMask s a)) } }
  else storeWord s path r a v

def writeFuse (s : State) (path : Path) (r : RegRow) (a v : Nat) : State :=
  let t := storeWord s path r a v
  if a = 0x010058 then writeRdsel t v else t

/-- A 32-bit write takes effect in a register that is neither a DW register nor part of a pair. -/
def applyWord (s : State) (path : Path) (a v : Nat) (selfCheck : Bool) : State :=
  match regRow a with
  | none => s
  | some r =>
    match a / 65536 with
    | 0x00 => writeGlobal s path r a v
    | 0x01 => writeFuse s path r a v
    | 0x02 | 0x03 => writePort s path r a v
    | 0x05 => writeGuard s path r a v
    | 0x06 => writeLagoon s path r a v
    | 0x07 => writeInteg s path r a v
    | 0x08 => writeThermal s path r a v
    | 0x09 => writeWetex s path r a v
    | 0x0A => writeEvents s path r a v
    | 0x0B => writeChrosy s path r a v
    | 0x0C => writePower s path r a v
    | 0x0D => writeFw s path r a v selfCheck
    | 0x0E => writeTransit s path r a v
    | 0x0F => writeSextant s path r a v
    | _ => storeWord s path r a v

/-- A pair is open to writes: a trigger's while it is not armed, a ring's base while the ring is DISABLED (R289, R297, R343). -/
def pairOpen (s : State) (a : Nat) : Bool :=
  if 0x0A0900 ≤ a ∧ a < 0x0A0B00 then csrFld s (a - (a - 0x0A0900) % 0x20) 0 1 == 0
  else if 0x0A0100 ≤ a ∧ a < 0x0A0180 then
    let k : Fin 4 := ⟨(a - 0x0A0100) / 0x20 % 4, Nat.mod_lt _ (by decide)⟩
    evRingServed s k && !s.evt.rings[k].active
  else if 0x091000 ≤ a ∧ a < 0x092000 then
    (s.wetex.rings.toList.getD ((a - 0x091000) / 0x40) {}).st == .disabled
  else true

/-- A 64-bit value takes effect in a designated pair, low word at `a` (R540). -/
def applyPair (s : State) (path : Path) (a v : Nat) : State :=
  if a = 0x0A0018 then writeFatalAck s v
  else if a = 0x0A0048 then startLookup s v none
  else if a = 0x0A0818 then writeInit s v
  else if pairOpen s a then
    match regRow a, regRow (a + 4) with
    | some r, some q => storeWord (storeWord s path r a (v % 2 ^ 32)) path q (a + 4) (v / 2 ^ 32)
    | _, _ => s
  else s

end Sys2Proof.Machine
end

