-- ==== Sys2Proof/Machine/Access.lean ====
section
/-! DEFINITION. The access paths to the register file (R534 to R543, R546, R549): widths and alignment, designated pairs, dual
writes, doorbell pages, the management port. -/

namespace Sys2Proof.Machine

/-- A doorbell page (R298). -/
def isDoorbell (a : Nat) : Bool := decide (0x100000 ≤ a) && decide (a < 0x140000)

/-- The management port serves accesses from the end of start step 1 on, in every working state and in a halted start (R442,
R444); the Keeper's path while the Keeper runs; a port's path in service (R534). -/
def pathUp (s : State) (path : Path) : Bool :=
  !s.power.failing &&
  (if path.val < 16 then s.stack.ready
   else if path.val = 16 then
     (match s.power.phase with
      | .starting | .service | .halted => true
      | _ => false)
   else keeperUp s)

/-- A port may access the CSR space (R534). -/
def isOwner (s : State) (path : Path) : Bool := decide (16 ≤ path.val) || (csrGet s 0x000040).testBit path.val

/-! ### Dual writes (R542, R543) -/

/-- A sequence whose 64 CCLK have passed is discarded with reason 1. Log entry 68. -/
def expireDual (s : State) : State :=
  let s := match s.regs.dual with
    | some d => if d.at_ + 64 < s.now then regDw { s with regs := { s.regs with dual := none } } d.addr d.path 1 else s
    | none => s
  match s.regs.dualK with
  | some d => if d.at_ + 64 < s.now then regDw { s with regs := { s.regs with dualK := none } } d.addr d.path 1 else s
  | none => s

/-- A write to `a` of a port or the management port interrupts every pending sequence but its own at the complement; a write of
the Keeper interrupts none. Log entry 68. -/
def interruptDual (s : State) (path : Path) (a : Nat) : State :=
  if path.val = 17 then s
  else
    let s := match s.regs.dual with
      | some d => if d.path = path.val ∧ a = d.addr + 4 then s
        else regDw { s with regs := { s.regs with dual := none } } d.addr d.path 3
      | none => s
    match s.regs.dualK with
    | some d => regDw { s with regs := { s.regs with dualK := none } } d.addr d.path 3
    | none => s

/-- The pending sequence of a path. Log entry 68. -/
def dualOf (s : State) (path : Path) : Option Dual := if path.val = 17 then s.regs.dualK else s.regs.dual

def setDual (s : State) (path : Path) (d : Option Dual) : State :=
  if path.val = 17 then { s with regs := { s.regs with dualK := d } } else { s with regs := { s.regs with dual := d } }

/-- The first write of a dual write: the value waits. -/
def dualValue (s : State) (path : Path) (a v : Nat) : State :=
  let s := match dualOf s path with
    | some d => regDw (setDual s path none) d.addr d.path 3
    | none => s
  setDual s path (some { path := path.val, addr := a, value := BitVec.ofNat 32 v, at_ := s.now })

/-- An accepted dual write takes effect and is journalled (R334, R541). -/
def acceptDual (s : State) (path : Path) (r : RegRow) (a v : Nat) : State :=
  let t := journalReg s path.val a v 1
  if a = 0x000108 then writeKeeperReset t v
  else if a = 0x000110 then storeOne (csrSet t a (v % 2)) a (v % 2)
  else if a = 0x010048 then fuseRequest t v
  else if a = 0x070010 then (if v.testBit 0 then initDone t v else s)
  else if a = 0x080018 then
    (if s.therm.shut then { t with therm := { t.therm with armed := v.testBit 0 } } else s)
  else if a = 0x0D0018 then (if v.testBit 0 then releaseLease t path else t)
  else csrSet t a (v &&& r.dw)

/-- The second write of a dual write. Log entry 68. -/
def complement (s : State) (path : Path) (a v : Nat) : State :=
  match dualOf s path with
  | some d =>
    if d.path = path.val ∧ d.addr + 4 = a then
      let s := setDual s path none
      if v = 0xFFFFFFFF ^^^ d.value.toNat then
        match regRow d.addr with
        | some r => acceptDual s path r d.addr d.value.toNat
        | none => s
      else regDw s d.addr d.path 2
    else regDw s a path.val 5
  | none => regDw s a path.val 5

/-- A _C address: the word after a DW register. -/
def isComplement (a : Nat) : Bool :=
  (regRow a).isNone && decide (4 ≤ a) && (match regRow (a - 4) with | some r => decide (r.dw ≠ 0) | none => false)

/-! ### Words (R540) -/

/-- The path's last access was no read of a low word. -/
def clearLatch (s : State) (path : Path) : State := { s with regs := { s.regs with latch := s.regs.latch.set path none } }

def setHeld (s : State) (path : Path) (h : Option (Nat × Word)) : State :=
  { s with regs := { s.regs with held := s.regs.held.set path h } }

/-- A doorbell write (R298). -/
def ringDoorbell (s : State) (a v : Nat) : State :=
  let r : Fin 64 := ⟨(a - 0x100000) / 0x1000 % 64, Nat.mod_lt _ (by decide)⟩
  if a % 0x1000 = 0 then sqDoorbell s r v else if a % 0x1000 = 4 then cqDoorbell s r v else s

/-- A 32-bit write to an aligned address is performed. -/
def performWord (s : State) (path : Path) (a v : Nat) (selfCheck : Bool) : State :=
  let s := clearLatch (expireDual s) path
  if isDoorbell a then (if path.val = 16 then s else ringDoorbell s a v)
  else
    let s := interruptDual s path a
    if isComplement a then complement s path a v
    else match regRow a with
      | none => s
      | some r =>
        if a / 65536 = 0x0B ∧ chrosyOn s = false then s
        else if r.dw ≠ 0 then dualValue s path a v
        else if r.pair = 1 then setHeld s path (some (a, BitVec.ofNat 32 v))
        else if r.pair = 2 then
          match s.regs.held[path] with
          | some (b, w) =>
            if b + 4 = a then applyPair (setHeld s path none) path b (w.toNat + v * 2 ^ 32)
            else applyPair s path (a - 4) (liveWord s (a - 4) + v * 2 ^ 32)
          | none => applyPair s path (a - 4) (liveWord s (a - 4) + v * 2 ^ 32)
        else applyWord s path a v selfCheck

/-- The low word of a designated pair. -/
def pairLow (a : Nat) : Bool := match regRow a with | some r => r.pair == 1 | none => false

/-- An aligned 64-bit write: one CCLK for a pair, else two 32-bit writes (R538, R540). -/
def performDouble (s : State) (path : Path) (a v : Nat) (selfCheck : Bool) : State :=
  if pairLow a && !(decide (a / 65536 = 0x0B) && !chrosyOn s) then
    applyPair (setHeld (interruptDual (clearLatch (expireDual s) path) path a) path none) path a v
  else performWord (performWord s path a (v % 2 ^ 32) selfCheck) path (a + 4) (v / 2 ^ 32) selfCheck

/-- A read side effect of R539, latching of pairs apart. Log entry 72. -/
def readEffect (s : State) (a : Nat) : State :=
  if a = 0x0F0014 then qualLatch s
  else if a = 0x0B0044 then (if chrosyOn s then chrLatch s else s)
  else if a = 0x0A00BC then nextLookup s
  else if a = 0x0A051C then mfifoPop s
  else s

/-- A 32-bit read of an aligned address: the value before any side effect (R536), the latched high word of a pair where the
path's previous access read its low word (R540). -/
def readWord32 (s : State) (path : Path) (a : Nat) : Nat × State :=
  if isDoorbell a then (0, clearLatch s path)
  else
    let latched := match s.regs.latch[path] with
      | some (b, w) => if b = a then some w.toNat else none
      | none => none
    let v := latched.getD (liveWord s a)
    let s := if pairLow a then
        { s with regs := { s.regs with latch := s.regs.latch.set path (some (a + 4, BitVec.ofNat 32 (liveWord s (a + 4)))) } }
      else clearLatch s path
    (v, readEffect s a)

/-! ### Requests (R534, R537, R538) -/

/-- A read of 2^size bytes: status and RDATA. -/
def cfgRead (s : State) (path : Path) (a size : Nat) : Nat × Nat × State :=
  if isOwner s path = false then (stProto, 0, regAccess s a path.val 3)
  else if a % 2 ^ size ≠ 0 then (stProto, 0, regAccess (clearLatch s path) a path.val 2)
  else if size < 2 then
    let w := if isDoorbell a then 0 else liveWord s (a - a % 4)
    (stOk, bitsOf w (8 * (a % 4)) (8 * 2 ^ size) * 2 ^ (8 * (a % 8)), clearLatch s path)
  else if size = 2 then
    let (v, s) := readWord32 s path a
    (stOk, v * 2 ^ (8 * (a % 8)), s)
  else
    let (v, s) := readWord32 s path a
    let (w, s) := readWord32 s path (a + 4)
    (stOk, v + w * 2 ^ 32, s)

/-- A write of 2^size bytes from the byte lanes of WDATA: the status. -/
def cfgWrite (s : State) (path : Path) (a size wdata : Nat) (selfCheck : Bool) : Nat × State :=
  if isOwner s path = false then (stProto, regAccess s a path.val 3)
  else if a % 2 ^ size ≠ 0 ∨ size < 2 then
    let s := clearLatch (expireDual s) path
    let s := if isDoorbell a then s else interruptDual s path (a - a % 4)
    (stProto, regAccess s a path.val (if a % 2 ^ size ≠ 0 then 2 else 1))
  else if size = 2 then (stOk, performWord s path a (bitsOf wdata (8 * (a % 8)) 32) selfCheck)
  else (stOk, performDouble s path a (wdata % 2 ^ 64) selfCheck)

/-- A 32-bit write as its own command: the value stands on the lanes of its address. -/
def writeReg (s : State) (path : Path) (a : Nat) (v : Nat) (selfCheck : Bool) : State :=
  (cfgWrite s path a 2 (v * 2 ^ (8 * (a % 8))) selfCheck).2

/-- A dual write as one command: value, then complement, from one path. -/
def writeDual (s : State) (path : Path) (a v c : Nat) : State := writeReg (writeReg s path a v true) path (a + 4) c true

/-- A 64-bit write as one command. -/
def writePair (s : State) (path : Path) (a v : Nat) : State := (cfgWrite s path a 3 v true).2

/-- A 32-bit read as its own command: the value it returns stands in `lastRead`. Log entry 76. -/
def readReg (s : State) (path : Path) (a : Nat) : State :=
  let (_, v, t) := cfgRead s path a 2
  { t with regs := { t.regs with lastRead := BitVec.ofNat 64 (v / 2 ^ (8 * (a % 8))) } }

/-! ### Commands that are one register access -/

def execRegWrite (path : Path) (addr : BitVec 24) (value : Word) (s : State) : Out :=
  whenDo (pathUp s path) s (writeReg s path addr.toNat value.toNat true)

/-- Each sequence whose complement has not come within 64 CCLK is discarded (R543). Log entry 68. -/
def execDwWindowExpiry (s : State) : Out :=
  match s.regs.dual, s.regs.dualK with
  | some d, some e => .next (expireDual (s.atLeast (min d.at_ e.at_ + 65)))
  | some d, none => .next (expireDual (s.atLeast (d.at_ + 65)))
  | none, some e => .next (expireDual (s.atLeast (e.at_ + 65)))
  | none, none => .next s

def execCfgownerWrite (path : Path) (value complement : Word) (s : State) : Out :=
  whenDo (pathUp s path) s (writeDual s path 0x000040 value.toNat complement.toNat)
def execKeeperResetRequest (path : Path) (value complement : Word) (s : State) : Out :=
  whenDo (pathUp s path) s (writeDual s path 0x000108 value.toNat complement.toNat)
def execWipeNextWrite (path : Path) (value complement : Word) (s : State) : Out :=
  whenDo (pathUp s path) s (writeDual s path 0x000110 value.toNat complement.toNat)
def execScrubInitdone (path : Path) (value complement : Word) (s : State) : Out :=
  whenDo (pathUp s path) s (writeDual s path 0x070010 value.toNat complement.toNat)
def execRepairFuseauth (path : Path) (value complement : Word) (s : State) : Out :=
  whenDo (pathUp s path) s (writeDual s path 0x070210 value.toNat complement.toNat)
def execThermalResumeArm (path : Path) (value complement : Word) (s : State) : Out :=
  whenDo (pathUp s path) s (writeDual s path 0x080018 value.toNat complement.toNat)
def execFwupRelease (path : Path) (value complement : Word) (s : State) : Out :=
  whenDo (pathUp s path) s (writeDual s path 0x0D0018 value.toNat complement.toNat)

/-- A request of the fuse controller (R503): the value carries the operation of the command. -/
def fuseCommand (s : State) (path : Path) (op : Nat) (value complement : Word) : Out :=
  whenDo (pathUp s path && decide (bitsOf value.toNat 0 3 = op)) s (writeDual s path 0x010048 value.toNat complement.toNat)

def execFuseWrite (path : Path) (value complement : Word) (s : State) : Out := fuseCommand s path 1 value complement
def execFuseWriteCrc (path : Path) (value complement : Word) (s : State) : Out := fuseCommand s path 2 value complement
def execFuseLock (path : Path) (value complement : Word) (s : State) : Out := fuseCommand s path 3 value complement
def execLcAdvance (path : Path) (value complement : Word) (s : State) : Out := fuseCommand s path 4 value complement
def execFuseDirect (path : Path) (value complement : Word) (s : State) : Out := fuseCommand s path 5 value complement
def execFuseRdselWrite (path : Path) (value : Word) (s : State) : Out :=
  whenDo (pathUp s path) s (writeReg s path 0x010058 value.toNat true)

def execSextantQselWrite (path : Path) (value : Word) (s : State) : Out :=
  whenDo (pathUp s path) s (writeReg s path 0x0F0010 value.toNat true)
def execSextantQualRead (path : Path) (s : State) : Out := whenDo (pathUp s path) s (readReg s path 0x0F0014)

def execEpochPortsetWrite (path : Path) (value : Word) (s : State) : Out :=
  whenDo (pathUp s path) s (writeReg s path 0x0A0800 value.toNat true)
def execEpochInitWrite (path : Path) (value : DWord) (s : State) : Out :=
  whenDo (pathUp s path) s (writePair s path 0x0A0818 value.toNat)
def execTrigArm (path : Path) (i : Fin 16) (value : Word) (s : State) : Out :=
  whenDo (pathUp s path && value.getLsbD 0) s (writeReg s path (trigReg i.val 0) value.toNat true)

def execSqTailDoorbell (path : Path) (r : Fin 64) (value : Word) (s : State) : Out :=
  whenDo (pathUp s path) s (writeReg s path (0x100000 + 0x1000 * r.val) value.toNat true)
def execCqHeadDoorbell (path : Path) (r : Fin 64) (value : Word) (s : State) : Out :=
  whenDo (pathUp s path) s (writeReg s path (0x100004 + 0x1000 * r.val) value.toNat true)
def execRingEnable (path : Path) (r : Fin 64) (value : Word) (s : State) : Out :=
  whenDo (pathUp s path && value.getLsbD 10) s (writeReg s path (wxReg r.val 0x10) value.toNat true)
def execRingDisable (path : Path) (r : Fin 64) (value : Word) (s : State) : Out :=
  whenDo (pathUp s path && !value.getLsbD 10) s (writeReg s path (wxReg r.val 0x10) value.toNat true)

def execAlmanacRselWrite (path : Path) (value : DWord) (s : State) : Out :=
  whenDo (pathUp s path) s (writePair s path 0x0A0048 value.toNat)
def execAlmanacRdataRead (path : Path) (s : State) : Out := whenDo (pathUp s path) s (readReg s path 0x0A00BC)
def execEvtRingEnable (path : Path) (k : Fin 4) (value : Word) (s : State) : Out :=
  whenDo (pathUp s path && value.getLsbD 5) s (writeReg s path (evRingReg k.val 8) value.toNat true)
def execEvtRingDisable (path : Path) (k : Fin 4) (value : Word) (s : State) : Out :=
  whenDo (pathUp s path && !value.getLsbD 5) s (writeReg s path (evRingReg k.val 8) value.toNat true)
def execEvtRingHeadWrite (path : Path) (k : Fin 4) (value : Word) (s : State) : Out :=
  whenDo (pathUp s path) s (writeReg s path (evRingReg k.val 12) value.toNat true)
def execEvtFatalAckWrite (path : Path) (value : DWord) (s : State) : Out :=
  whenDo (pathUp s path) s (writePair s path 0x0A0018 value.toNat)
def execEvtMfifoRead (path : Path) (s : State) : Out := whenDo (pathUp s path) s (readReg s path 0x0A051C)

def execChrosyEnable (path : Path) (value : Word) (s : State) : Out :=
  whenDo (pathUp s path && value.getLsbD 0) s (writeReg s path 0x0B0000 value.toNat true)
def execChrosyDisable (path : Path) (value : Word) (s : State) : Out :=
  whenDo (pathUp s path && !value.getLsbD 0) s (writeReg s path 0x0B0000 value.toNat true)
def execChrosyQselWrite (path : Path) (value : Word) (s : State) : Out :=
  whenDo (pathUp s path) s (writeReg s path 0x0B0040 value.toNat true)
def execChrosyQualRead (path : Path) (s : State) : Out := whenDo (pathUp s path) s (readReg s path 0x0B0044)
def execWindowSetAsync (path : Path) (w : Fin 64) (value : Word) (s : State) : Out :=
  whenDo (pathUp s path && decide (bitsOf value.toNat 0 2 = 1)) s (writeReg s path (winReg w.val 12) value.toNat true)
def execWindowSetSync (path : Path) (w : Fin 64) (value : Word) (s : State) : Out :=
  whenDo (pathUp s path && decide (bitsOf value.toNat 0 2 = 2)) s (writeReg s path (winReg w.val 12) value.toNat true)
def execWindowSetOff (path : Path) (w : Fin 64) (value : Word) (s : State) : Out :=
  whenDo (pathUp s path && decide (bitsOf value.toNat 0 2 = 0)) s (writeReg s path (winReg w.val 12) value.toNat true)

def execTransitAbort (path : Path) (value : Word) (s : State) : Out :=
  whenDo (pathUp s path && value.getLsbD 0) s (writeReg s path 0x0E0008 value.toNat true)

/-- The management port's path. -/
def mgmtPath : Path := 16

def execMgmtStage (value : Word) (s : State) : Out :=
  whenDo (pathUp s mgmtPath && decide (bitsOf value.toNat 0 2 = 0)) s (writeReg s mgmtPath 0x0D0080 value.toNat true)
def execMgmtActivate (value : Word) (selfCheck : Bool) (s : State) : Out :=
  whenDo (pathUp s mgmtPath && decide (bitsOf value.toNat 0 2 = 1)) s (writeReg s mgmtPath 0x0D0080 value.toNat selfCheck)
def execMgmtCommit (value : Word) (s : State) : Out :=
  whenDo (pathUp s mgmtPath && decide (bitsOf value.toNat 0 2 = 2)) s (writeReg s mgmtPath 0x0D0080 value.toNat true)

/-! ### Management transactions (R546, R562) -/

/-- The bytes after the address byte, as numbers. -/
def byteNats (l : List Byte) : List Nat := l.map (·.toNat)

/-- The address byte of a write (`rd` 0) or a read (1). -/
def mgmtAdr (s : State) (rd : Nat) : Nat := 2 * mgmtAddr s + rd

/-- The transaction fails: NACK on the PEC byte, REG_ACCESS with reason 5. Log entry 71. -/
def mgmtFails (s : State) (a : Nat) : State :=
  let s := { s with regs := { s.regs with lastNak := true, mgmtOut := [] } }
  regAccess s a 16 5

/-- The words of a previous write are still being performed: NACK on the address byte. Log entry 69. -/
def mgmtBusy (s : State) : Bool := decide (s.now < s.regs.mgmtBusy)

def mgmtNack (s : State) : State := { s with regs := { s.regs with lastNak := true, mgmtOut := [] } }

/-- Page and offset of a transaction are taken. Log entry 71. -/
def mgmtPoint (s : State) (page off : Nat) : State :=
  { s with regs := { s.regs with page := page, off := off, lastNak := false, mgmtOut := [] } }

/-- The page and offset a transaction opens with, and its CSR address. -/
def mgmtPage (l : List Nat) : Nat := l.getD 0 0 + 256 * l.getD 1 0
def mgmtCsr (l : List Nat) : Nat := 256 * mgmtPage l + l.getD 2 0

/-- The PEC, the last byte, is the CRC-8 of the address byte and every byte before it. Log entry 70. -/
def pecOk (s : State) (l : List Nat) : Bool := decide (l.getLastD 256 = crc8 (mgmtAdr s 0 :: l.dropLast))

def setPointer (s : State) (l : List Nat) : State :=
  if l.length = 4 ∧ pecOk s l = true ∧ l.getD 2 0 % 4 = 0 then mgmtPoint s (mgmtPage l) (l.getD 2 0)
  else mgmtFails s (mgmtCsr l)

def execMgmtSetPointer (bytes : List Byte) (s : State) : Out :=
  whenDo (pathUp s mgmtPath) s (if mgmtBusy s then mgmtNack s else setPointer s (byteNats bytes))

/-- Words of a transaction are performed at ascending addresses. -/
def mgmtWords (s : State) (a : Nat) (data : List Nat) (n : Nat) : State :=
  (List.range n).foldl (fun s i => performWord s mgmtPath (a + 4 * i) (ofBytes ((data.drop (4 * i)).take 4)) true) s

def mgmtWriteTx (s : State) (l : List Nat) : State :=
  let off := l.getD 2 0
  let data := (l.drop 3).dropLast
  let n := data.length
  if 4 ≤ l.length ∧ pecOk s l = true ∧ off % 4 = 0 ∧ n % 4 = 0 ∧ 4 ≤ n ∧ n ≤ 256 ∧ off + n ≤ 256 then
    let t := mgmtPoint s (mgmtPage l) off
    mgmtWords { t with regs := { t.regs with mgmtBusy := s.now + n / 4 } } (mgmtCsr l) data (n / 4)
  else mgmtFails s (mgmtCsr l)

def execMgmtWrite (bytes : List Byte) (s : State) : Out :=
  whenDo (pathUp s mgmtPath) s (if mgmtBusy s then mgmtNack s else mgmtWriteTx s (byteNats bytes))

/-- Words read one after the other. -/
def mgmtTake (s : State) (a n : Nat) : List Nat × State :=
  (List.range n).foldl (fun (x : List Nat × State) i =>
    let (v, t) := readWord32 x.2 mgmtPath (a + 4 * i)
    (x.1 ++ bytesOf 4 v, t)) ([], s)

def mgmtReadTx (s : State) (l : List Nat) : State :=
  let off := l.getD 2 0
  let m := l.getD 3 0
  if l.length = 5 ∧ pecOk s l = true ∧ off % 4 = 0 ∧ m % 4 = 0 ∧ 4 ≤ m ∧ m ≤ 252 ∧ off + m ≤ 256 then
    let (data, t) := mgmtTake (mgmtPoint s (mgmtPage l) off) (mgmtCsr l) (m / 4)
    let pec := crc8 (mgmtAdr s 0 :: l ++ mgmtAdr s 1 :: data)
    { t with regs := { t.regs with mgmtOut := (data ++ [pec]).map (BitVec.ofNat 8) } }
  else mgmtFails s (mgmtCsr l)

def execMgmtRead (bytes : List Byte) (s : State) : Out :=
  whenDo (pathUp s mgmtPath) s (if mgmtBusy s then mgmtNack s else mgmtReadTx s (byteNats bytes))

/-- SCL held low for 30 ms: the target is reset and the transaction discarded (R562). Log entry 71. -/
def execSmbusTimeout (s : State) : Out :=
  whenDo (pathUp s mgmtPath) s { s with regs := { s.regs with page := 0, off := 0, mgmtOut := [], lastNak := false } }

end Sys2Proof.Machine
end

