-- ==== Sys2Proof/Machine/Staging.lean ====
section
/-! DEFINITION. Port staging: the order of release (R93 to R96), the ways a staged request leaves, held boundaries (R274, R275). -/

namespace Sys2Proof.Machine

/-! ### Which request may leave -/

/-- URGENT, by class or raised. -/
def StReq.urgent (r : StReq) : Bool := isMem r.kind && (decide (slotClass r.slot = 0) || r.raised)

/-- Bytes of a memory request. -/
def StReq.bytes (r : StReq) : Nat := 64 * reqBlocks r.kind r.slot

/-- The pseudo-channel of a memory request. -/
def StReq.pc (r : StReq) (s : State) : Pc := pcFin (coordOf s.dram.mapActive (slotBlk r.slot)).pc

/-- The order of R93 rules 1 and 2, R95 and R96 holds the request back; the MARKs of a port take their turns in the order of
arrival (log entry 77). -/
def ordHeld (q : PortSt) (r : StReq) : Bool :=
  q.staging.any (fun x => decide (x.ord < r.ord) &&
    (sameBlocks x.kind x.slot r.kind r.slot || (isBar x.kind && isWrite r.kind) || (x.kind == .mark && r.kind == .mark))) ||
  (isWrite r.kind && q.undrained.any fun o => decide (o < r.bar)) || r.heldSince.isSome

/-- The status a memory request completes with at once, where it does (R37, R151, R414, R465, R575). Log entry 82. -/
def atOnce (s : State) (r : StReq) : Option Nat :=
  if s.power.failing then some (if r.kind == .rd then stOffline else stFenced)
  else if !hostUsable (64 * slotBlk r.slot) r.bytes then some stAddr
  else if s.therm.shut || s.pcs[r.pc s].mode == .offline then some stOffline
  else none

/-- The request changes memory: any write but a WRM with an empty mask (R78). Log entry 79. -/
def StReq.changes (r : StReq) : Bool := r.kind == .wr || (r.kind == .wrm && decide (slotMask r.slot ≠ 0))

/-- A first write that finds the claim table full (R234). Log entry 79. -/
def claimHeld (s : State) (r : StReq) : Bool :=
  r.changes && s.dram.freshActive && !pageWritten s (slotBlk r.slot) && !claimRoom s

/-- The token buckets let the request leave (R203, R463). -/
def rateHeld (s : State) (p : Port) (r : StReq) : Bool :=
  let cls := slotClass r.slot
  !throttlePasses s (64 * p.val + slotStream r.slot) (if r.urgent then 0 else cls) r.bytes ||
    (!r.urgent && !thermPasses s (r.pc s).val cls r.bytes)

/-- The request has somewhere to go now (R140, R234, R393). -/
def canLeave (s : State) (p : Port) (r : StReq) : Bool :=
  if isMem r.kind then
    (atOnce s r).isSome ||
      (!claimHeld s r && !rateHeld s p r && !(r.changes && syncFull s (slotBlk r.slot)) &&
        (hostPool s.pcs[r.pc s] r.urgent).isSome)
  else true

/-- Rank in staging (R93 rule 4, R145). Log entry 77. -/
def stageRank (s : State) (p : Port) (r : StReq) : Nat :=
  if r.urgent then 4 else levelOf s p (creditClass r.kind r.slot) (s.now - r.arrived)

/-- The request to release. Log entry 77. -/
def nextStaged (s : State) (p : Port) : Option StReq :=
  let q := s.ports[p]
  maxBy (stageRank s p) (q.staging.filter fun r => !ordHeld q r && canLeave s p r)

/-! ### Leaving -/

/-- The entry and its credit are free. -/
def unstage (s : State) (p : Port) (r : StReq) : State :=
  s.modPort p fun q =>
    { returnCredit (creditClass r.kind r.slot) q with staging := q.staging.filter fun x => decide (x.ord ≠ r.ord) }

/-- The queue entry of a request. A WRM with every mask bit set is a full write (R78). Log entry 35. -/
def entryOfReq (s : State) (p : Port) (r : StReq) (pool : Nat) : QEnt :=
  let full := r.kind == .wrm && decide (slotMask r.slot = BitVec.allOnes 64)
  policyNow s
  { id := s.nextId, src := .host p, kind := if full then .wr else r.kind, cls := slotClass r.slot, raised := r.raised
    stream := slotStream r.slot, tag := slotTag r.slot, blk := slotBlk r.slot, n := reqBlocks r.kind r.slot, data := r.data
    chk := r.data.map rsCheck, mask := slotMask r.slot, arrived := r.arrived, pool := pool, ord := r.ord }

/-- A block a WRM claims reads as zero until the WRM is merged (R233). Log entry 79. -/
def claimBase (s : State) (blk : Nat) : State := if claimZero s blk then dramWrite s blk 0 (rsCheck 0) else s

/-- A full write of the entry goes to a captured row: it enters the drain domain in its line (R41). Log entry 78. -/
def toCaptured (s : State) (n : Pc) (e : QEnt) : Bool :=
  rowCaptured s n.val (e.coord s).bank (e.coord s).row && !rowReleasing s n (e.coord s).bank (e.coord s).row

/-- A memory request enters its pseudo-channel queue (R89, R139, R152, R232). Log entry 78. -/
def enterQueue (s : State) (p : Port) (r : StReq) (pool : Nat) : State :=
  let n := r.pc s
  let s := turn s n (.host p)
  let e := entryOfReq s p r pool
  let req := 64 * p.val + e.stream
  let s := throttleTake (unstage s.tick p r) req (if r.urgent then 0 else e.cls) r.bytes
  let s := if r.urgent then s else thermTake s n.val e.cls r.bytes
  let s := s.modPc n fun c => { c with notices := c.notices.map fun x => if x.id = r.ord then { x with id := e.id } else x }
  if e.kind == .rd then enqueue s n e
  else if !r.changes then enqueue s n e
  else
    let s := freshClaim s e.blk
    let s := if e.kind == .wrm then claimBase s e.blk else s
    let s := (List.range e.n).foldl (fun s i => noteWrite s (e.blk + i) e.id) s
    if e.kind == .wrm || toCaptured s n e then enqueue s n e
    else drainHost (enqueue s n { e with drained := true }) e e.data

/-- A CFG request's register access is performed (R80, R534 to R538). -/
def doCfg (s : State) (p : Port) (r : StReq) : State :=
  let path : Path := ⟨p.val, by omega⟩
  let a := slotCsr r.slot
  let s := unstage s p r
  if r.kind == .cfgRd then
    let (st, v, s) := cfgRead s path a (slotSize r.slot)
    respond s p { kind := .cfgRd, tag := slotTag r.slot, status := st, rdata := BitVec.ofNat 64 v, ord := r.ord }
  else
    let (st, s) := cfgWrite s path a (slotSize r.slot) (slotWdata r.slot) true
    respond s p { kind := .cfgWr, tag := slotTag r.slot, status := st, ord := r.ord }

/-- Why a MARK is refused (R274, R294): 1 wrong value, 2 not a member, 3 exhausted; 0 accepted. -/
def markRefused (s : State) (p : Port) (v : Nat) : Nat :=
  let cur := s.epochs.cur[p.val]
  if !isMember s p.val then 2 else if cur = 2 ^ 64 - 1 then 3 else if v ≠ cur + 1 then 1 else 0

/-- An accepted MARK is recorded: the port passes its boundary (R89, R96, R272). -/
def recordMark (s : State) (p : Port) (r : StReq) : State :=
  let s := answerStaged s p r stOk
  let s := s.modPort p fun q => { q with lastMark := r.ord }
  passBoundary s ⟨p.val, by omega⟩ (slotEpoch r.slot)

/-- A MARK's turn (R274, R275). -/
def doMarkReq (s : State) (p : Port) (r : StReq) : State :=
  let v := slotEpoch r.slot
  let why := markRefused s p v
  if why ≠ 0 then protoEvent (answerStaged s p r stProto) p 0x0150 (why + v % 2 ^ 56 * 256)
  else if boundaryHeld s v then
    s.modPort p fun q =>
      { q with staging := q.staging.map fun x => if x.ord = r.ord then { x with heldSince := some s.now } else x }
  else recordMark s p r

/-- A chosen request leaves staging. Log entry 82. -/
def leave (s : State) (p : Port) (r : StReq) : State :=
  match r.kind with
  | .rd | .wr | .wrm =>
    match atOnce s r with
    | some st => answerStaged s p r st
    | none =>
      match hostPool s.pcs[r.pc s] r.urgent with
      | some pool => enterQueue s p r pool
      | none => s
  | .cfgRd | .cfgWr => doCfg s p r
  | .mark => if s.power.failing then answerStaged s p r stFenced else doMarkReq s p r
  | .fence => answerStaged s p r (if s.power.failing then stFenced else stOk)

/-- FRESH_CLAIM_FULL, once for each write that starts to wait (R234, R252). Log entry 79. -/
def reportClaims (s : State) (p : Port) : State :=
  let q := s.ports[p]
  let l := q.staging.filter fun r =>
    isMem r.kind && !ordHeld q r && (atOnce s r).isNone && claimHeld s r && !r.claimWait
  l.foldl (fun s r =>
    let src := pcSrc (r.pc s).val 9
    let s := s.modPort p fun q =>
      { q with staging := q.staging.map fun x => if x.ord = r.ord then { x with claimWait := true } else x }
    raiseLim s (evKey src 0x0227) ms src 0x0227 sevNotice (pageOf (slotBlk r.slot)) 0 1 false) s

/-- One release: one request leaves per CCLK (R93). -/
def releaseStaged (s : State) (p : Port) : State :=
  let s := reportClaims (s.atLeast s.ports[p].leaveAt) p
  match nextStaged s p with
  | some r => leave (s.modPort p fun q => { q with leaveAt := s.now + 1 }) p r
  | none => s

/-- Staging releases requests while the stack serves them, and answers them while it shuts down or is shut down. While the link
has failed or is reset none leaves (log entry 92). -/
def releases (s : State) (p : Port) : Bool := linkLive s p && (flood s || s.power.failing || s.therm.shut)

def execStagingRelease (p : Port) (s : State) : Out := whenDo (releases s p) s (releaseStaged s p)

/-! ### Held boundaries (R275) -/

/-- A held boundary of a value may go. -/
def boundaryFree (s : State) (v : Nat) : Bool := s.stack.ready && !s.power.failing && !boundaryHeld s v

def execBoundaryRelease (m : Member) (s : State) : Out :=
  if h : m.val < 16 then
    match heldMark s.ports[(⟨m.val, h⟩ : Port)] with
    | some (r, _) => whenDo (boundaryFree s (slotEpoch r.slot)) s (recordMark s ⟨m.val, h⟩ r)
    | none => .next s
  else if m.val = 16 then
    match s.epochs.engHeld with
    | some (v, _) => whenDo (boundaryFree s v) s (releaseEngine s)
    | none => .next s
  else
    match s.epochs.mirHeld with
    | some (v, _) => whenDo (boundaryFree s v) s (releaseMirror s)
    | none => .next s

end Sys2Proof.Machine
end

