-- ==== Sys2Proof/Machine/Dispatch.lean ====
section
/-! DEFINITION. What each command does: one arm per row of the table. -/

namespace Sys2Proof.Machine

def exec (i : Instr) (s : State) : Host.Outcome State Fault Refusal :=
  match i with
  | .rd p slot => Sys2Proof.Machine.execRd p slot s
  | .wr p slot flits => Sys2Proof.Machine.execWr p slot flits s
  | .wrm p slot flits => Sys2Proof.Machine.execWrm p slot flits s
  | .cfgRd p slot => Sys2Proof.Machine.execCfgRd p slot s
  | .cfgWr p slot => Sys2Proof.Machine.execCfgWr p slot s
  | .mark p slot => Sys2Proof.Machine.execMark p slot s
  | .fence p slot => Sys2Proof.Machine.execFence p slot s
  | .nop p slot => Sys2Proof.Machine.execNop p slot s
  | .unlistedOpcode p slot => Sys2Proof.Machine.execUnlistedOpcode p slot s
  | .flitLinkCheck p flit check => Sys2Proof.Machine.execFlitLinkCheck p flit check s
  | .resendStart p => Sys2Proof.Machine.execResendStart p s
  | .replayStorm p => Sys2Proof.Machine.execReplayStorm p s
  | .downstreamLaneFailed p lane => Sys2Proof.Machine.execDownstreamLaneFailed p lane s
  | .hckFault p => Sys2Proof.Machine.execHckFault p s
  | .remap p arg => Sys2Proof.Machine.execRemap p arg s
  | .remapDone p arg => Sys2Proof.Machine.execRemapDone p arg s
  | .portReset p => Sys2Proof.Machine.execPortReset p s
  | .portResetDone p => Sys2Proof.Machine.execPortResetDone p s
  | .portFail p arg => Sys2Proof.Machine.execPortFail p arg s
  | .pctlFrameInvalid p cmd arg crc => Sys2Proof.Machine.execPctlFrameInvalid p cmd arg crc s
  | .pctlAnswerTimeout p => Sys2Proof.Machine.execPctlAnswerTimeout p s
  | .trnAck p arg => Sys2Proof.Machine.execTrnAck p arg s
  | .phaseDone p arg => Sys2Proof.Machine.execPhaseDone p arg s
  | .laneBad p arg => Sys2Proof.Machine.execLaneBad p arg s
  | .trnFail p arg => Sys2Proof.Machine.execTrnFail p arg s
  | .stagingRelease p => Sys2Proof.Machine.execStagingRelease p s
  | .boundaryRelease m => Sys2Proof.Machine.execBoundaryRelease m s
  | .epochClose => Sys2Proof.Machine.execEpochClose s
  | .epochStall m => Sys2Proof.Machine.execEpochStall m s
  | .upstreamResponseSend p => Sys2Proof.Machine.execUpstreamResponseSend p s
  | .sigSend p => Sys2Proof.Machine.execSigSend p s
  | .fullTraining r sweeps => Sys2Proof.Machine.execFullTraining r sweeps s
  | .fastTraining r sweeps => Sys2Proof.Machine.execFastTraining r sweeps s
  | .pcTrainingLost n lockLost => Sys2Proof.Machine.execPcTrainingLost n lockLost s
  | .pcRetrainDone n ok => Sys2Proof.Machine.execPcRetrainDone n ok s
  | .calPeriodEnd l m => Sys2Proof.Machine.execCalPeriodEnd l m s
  | .calStep l => Sys2Proof.Machine.execCalStep l s
  | .overrideStep entry => Sys2Proof.Machine.execOverrideStep entry s
  | .calRecordRewrite rec => Sys2Proof.Machine.execCalRecordRewrite rec s
  | .sextantQselWrite path value => Sys2Proof.Machine.execSextantQselWrite path value s
  | .sextantQualRead path => Sys2Proof.Machine.execSextantQualRead path s
  | .schedulerPick n => Sys2Proof.Machine.execSchedulerPick n s
  | .readDataDecoded n id upsets => Sys2Proof.Machine.execReadDataDecoded n id upsets s
  | .dramWriteDone n id => Sys2Proof.Machine.execDramWriteDone n id s
  | .derivedWriteEnqueue n => Sys2Proof.Machine.execDerivedWriteEnqueue n s
  | .urgentLapseEnd n => Sys2Proof.Machine.execUrgentLapseEnd n s
  | .wrmMerge n id => Sys2Proof.Machine.execWrmMerge n id s
  | .captureOffer n bank row => Sys2Proof.Machine.execCaptureOffer n bank row s
  | .captureCopyDone n bank row => Sys2Proof.Machine.execCaptureCopyDone n bank row s
  | .lineWritebackTimeout n line => Sys2Proof.Machine.execLineWritebackTimeout n line s
  | .lineWritebackDone n line => Sys2Proof.Machine.execLineWritebackDone n line s
  | .wayFailureDetected way cause tagLost lostBlocks => Sys2Proof.Machine.execWayFailureDetected way cause tagLost lostBlocks s
  | .wayRecoveryDone way lostBlocks => Sys2Proof.Machine.execWayRecoveryDone way lostBlocks s
  | .refreshSlot n => Sys2Proof.Machine.execRefreshSlot n s
  | .refreshStart n bank => Sys2Proof.Machine.execRefreshStart n bank s
  | .nbrRefreshTrigger n bank row => Sys2Proof.Machine.execNbrRefreshTrigger n bank row s
  | .targetedRefreshDone n bank => Sys2Proof.Machine.execTargetedRefreshDone n bank s
  | .trackerWindowEnd => Sys2Proof.Machine.execTrackerWindowEnd s
  | .throttleStepUp req => Sys2Proof.Machine.execThrottleStepUp req s
  | .tidefillDone micros => Sys2Proof.Machine.execTidefillDone micros s
  | .freshClaimFill page => Sys2Proof.Machine.execFreshClaimFill page s
  | .scrubInitdone path value complement => Sys2Proof.Machine.execScrubInitdone path value complement s
  | .scrubUnitIssue n => Sys2Proof.Machine.execScrubUnitIssue n s
  | .scrubLapEnd => Sys2Proof.Machine.execScrubLapEnd s
  | .softRepairStart n bank row => Sys2Proof.Machine.execSoftRepairStart n bank row s
  | .softRepairDone n => Sys2Proof.Machine.execSoftRepairDone n s
  | .tsvLaneFailed n lane => Sys2Proof.Machine.execTsvLaneFailed n lane s
  | .tsvSwitchStart n => Sys2Proof.Machine.execTsvSwitchStart n s
  | .tsvSwitchDone n => Sys2Proof.Machine.execTsvSwitchDone n s
  | .repairFuseauth path value complement => Sys2Proof.Machine.execRepairFuseauth path value complement s
  | .epochPortsetWrite path value => Sys2Proof.Machine.execEpochPortsetWrite path value s
  | .portsetApply => Sys2Proof.Machine.execPortsetApply s
  | .epochInitWrite path value => Sys2Proof.Machine.execEpochInitWrite path value s
  | .trigArm path k value => Sys2Proof.Machine.execTrigArm path k value s
  | .deferredTriggerAction => Sys2Proof.Machine.execDeferredTriggerAction s
  | .sqTailDoorbell path r value => Sys2Proof.Machine.execSqTailDoorbell path r value s
  | .cqHeadDoorbell path r value => Sys2Proof.Machine.execCqHeadDoorbell path r value s
  | .ringEnable path r value => Sys2Proof.Machine.execRingEnable path r value s
  | .ringDisable path r value => Sys2Proof.Machine.execRingDisable path r value s
  | .descFetch r => Sys2Proof.Machine.execDescFetch r s
  | .descDispatch => Sys2Proof.Machine.execDescDispatch s
  | .completionRecord r sqIdx => Sys2Proof.Machine.execCompletionRecord r sqIdx s
  | .copy r sqIdx => Sys2Proof.Machine.execCopy r sqIdx s
  | .fill r sqIdx => Sys2Proof.Machine.execFill r sqIdx s
  | .crc64 r sqIdx => Sys2Proof.Machine.execCrc64 r sqIdx s
  | .compare r sqIdx => Sys2Proof.Machine.execCompare r sqIdx s
  | .zero r sqIdx => Sys2Proof.Machine.execZero r sqIdx s
  | .scrubRange r sqIdx => Sys2Proof.Machine.execScrubRange r sqIdx s
  | .poisonClear r sqIdx => Sys2Proof.Machine.execPoisonClear r sqIdx s
  | .epochAdvance r sqIdx => Sys2Proof.Machine.execEpochAdvance r sqIdx s
  | .tidemarkExport r sqIdx => Sys2Proof.Machine.execTidemarkExport r sqIdx s
  | .tidemarkClear r sqIdx => Sys2Proof.Machine.execTidemarkClear r sqIdx s
  | .mirrorResync r sqIdx => Sys2Proof.Machine.execMirrorResync r sqIdx s
  | .mirrorPull r sqIdx => Sys2Proof.Machine.execMirrorPull r sqIdx s
  | .journalRead r sqIdx => Sys2Proof.Machine.execJournalRead r sqIdx s
  | .fwStage r sqIdx => Sys2Proof.Machine.execFwStage r sqIdx s
  | .fwActivate r sqIdx selfCheck => Sys2Proof.Machine.execFwActivate r sqIdx selfCheck s
  | .fwCommit r sqIdx => Sys2Proof.Machine.execFwCommit r sqIdx s
  | .bistRun r sqIdx cclkCount => Sys2Proof.Machine.execBistRun r sqIdx cclkCount s
  | .repairSoft r sqIdx => Sys2Proof.Machine.execRepairSoft r sqIdx s
  | .repairFuse r sqIdx verified => Sys2Proof.Machine.execRepairFuse r sqIdx verified s
  | .pcOffline r sqIdx => Sys2Proof.Machine.execPcOffline r sqIdx s
  | .pcOnline r sqIdx sweeps => Sys2Proof.Machine.execPcOnline r sqIdx sweeps s
  | .seal r sqIdx => Sys2Proof.Machine.execSeal r sqIdx s
  | .descFence r sqIdx => Sys2Proof.Machine.execDescFence r sqIdx s
  | .journalUnitFlush => Sys2Proof.Machine.execJournalUnitFlush s
  | .almanacRselWrite path value => Sys2Proof.Machine.execAlmanacRselWrite path value s
  | .almanacLookupDone => Sys2Proof.Machine.execAlmanacLookupDone s
  | .almanacRdataRead path => Sys2Proof.Machine.execAlmanacRdataRead path s
  | .eventRecordWrite k => Sys2Proof.Machine.execEventRecordWrite k s
  | .evtRingEnable path k value => Sys2Proof.Machine.execEvtRingEnable path k value s
  | .evtRingDisable path k value => Sys2Proof.Machine.execEvtRingDisable path k value s
  | .evtRingHeadWrite path k value => Sys2Proof.Machine.execEvtRingHeadWrite path k value s
  | .evtFatalAckWrite path value => Sys2Proof.Machine.execEvtFatalAckWrite path value s
  | .evtMfifoRead path => Sys2Proof.Machine.execEvtMfifoRead path s
  | .smbusAlertResponse => Sys2Proof.Machine.execSmbusAlertResponse s
  | .chrosyBlockStart => Sys2Proof.Machine.execChrosyBlockStart s
  | .chrosyBlockReceived chars frames => Sys2Proof.Machine.execChrosyBlockReceived chars frames s
  | .chrosyAck fsn => Sys2Proof.Machine.execChrosyAck fsn s
  | .chrosyNak fsn => Sys2Proof.Machine.execChrosyNak fsn s
  | .chrosyCredit vc n => Sys2Proof.Machine.execChrosyCredit vc n s
  | .heartbeat data => Sys2Proof.Machine.execHeartbeat data s
  | .alignNext width => Sys2Proof.Machine.execAlignNext width s
  | .alignOk width => Sys2Proof.Machine.execAlignOk width s
  | .linkUp => Sys2Proof.Machine.execLinkUp s
  | .degrade pair => Sys2Proof.Machine.execDegrade pair s
  | .linkDown reason => Sys2Proof.Machine.execLinkDown reason s
  | .chrosyAligned goodPairs => Sys2Proof.Machine.execChrosyAligned goodPairs s
  | .seekTimeout goodPairs => Sys2Proof.Machine.execSeekTimeout goodPairs s
  | .chrosyLaneFailed lane cause => Sys2Proof.Machine.execChrosyLaneFailed lane cause s
  | .degradeRepeat => Sys2Proof.Machine.execDegradeRepeat s
  | .chrosyNoBlockTimeout => Sys2Proof.Machine.execChrosyNoBlockTimeout s
  | .chrosyStallTimeout => Sys2Proof.Machine.execChrosyStallTimeout s
  | .chrosyAdaptTick readings => Sys2Proof.Machine.execChrosyAdaptTick readings s
  | .chrosyEnable path value => Sys2Proof.Machine.execChrosyEnable path value s
  | .chrosyDisable path value => Sys2Proof.Machine.execChrosyDisable path value s
  | .chrosyQselWrite path value => Sys2Proof.Machine.execChrosyQselWrite path value s
  | .chrosyQualRead path => Sys2Proof.Machine.execChrosyQualRead path s
  | .syncWrite hdr blocks => Sys2Proof.Machine.execSyncWrite hdr blocks s
  | .asyncWrite hdr blocks => Sys2Proof.Machine.execAsyncWrite hdr blocks s
  | .markMessage hdr => Sys2Proof.Machine.execMarkMessage hdr s
  | .barrier hdr => Sys2Proof.Machine.execBarrier hdr s
  | .mirrorAck hdr => Sys2Proof.Machine.execMirrorAck hdr s
  | .nack hdr => Sys2Proof.Machine.execNack hdr s
  | .barrierAck hdr => Sys2Proof.Machine.execBarrierAck hdr s
  | .pullReq hdr => Sys2Proof.Machine.execPullReq hdr s
  | .pullData hdr blocks => Sys2Proof.Machine.execPullData hdr blocks s
  | .resyncData hdr blocks => Sys2Proof.Machine.execResyncData hdr blocks s
  | .reservedMessage hdr => Sys2Proof.Machine.execReservedMessage hdr s
  | .applyWrite vc => Sys2Proof.Machine.execApplyWrite vc s
  | .mirrorMessageSend vc => Sys2Proof.Machine.execMirrorMessageSend vc s
  | .backlogRead => Sys2Proof.Machine.execBacklogRead s
  | .syncTimeout w => Sys2Proof.Machine.execSyncTimeout w s
  | .windowSetAsync path w value => Sys2Proof.Machine.execWindowSetAsync path w value s
  | .windowSetSync path w value => Sys2Proof.Machine.execWindowSetSync path w value s
  | .windowSetOff path w value => Sys2Proof.Machine.execWindowSetOff path w value s
  | .lowPowerEntry => Sys2Proof.Machine.execLowPowerEntry s
  | .lowPowerEntryDone => Sys2Proof.Machine.execLowPowerEntryDone s
  | .wake cause => Sys2Proof.Machine.execWake cause s
  | .wakeDone => Sys2Proof.Machine.execWakeDone s
  | .pfailDetect steps => Sys2Proof.Machine.execPfailDetect steps s
  | .droopDetect steps => Sys2Proof.Machine.execDroopDetect steps s
  | .lanternRailFault vddD vpp => Sys2Proof.Machine.execLanternRailFault vddD vpp s
  | .pfailRecovered => Sys2Proof.Machine.execPfailRecovered s
  | .powerGood strap => Sys2Proof.Machine.execPowerGood strap s
  | .fuseSenseDone drift => Sys2Proof.Machine.execFuseSenseDone drift s
  | .keeperBootDone selfCheck => Sys2Proof.Machine.execKeeperBootDone selfCheck s
  | .startRelease ms => Sys2Proof.Machine.execStartRelease ms s
  | .prstAssert steps => Sys2Proof.Machine.execPrstAssert steps s
  | .hrstAssert => Sys2Proof.Machine.execHrstAssert s
  | .logicResetRelease => Sys2Proof.Machine.execLogicResetRelease s
  | .pfailDetectArm => Sys2Proof.Machine.execPfailDetectArm s
  | .keeperResetRequest path value complement => Sys2Proof.Machine.execKeeperResetRequest path value complement s
  | .wipeNextWrite path value complement => Sys2Proof.Machine.execWipeNextWrite path value complement s
  | .keeperWatchdogExpiry => Sys2Proof.Machine.execKeeperWatchdogExpiry s
  | .keeperRestartDone selfCheck micros => Sys2Proof.Machine.execKeeperRestartDone selfCheck micros s
  | .watchReading raw value => Sys2Proof.Machine.execWatchReading raw value s
  | .thermalResumeArm path value complement => Sys2Proof.Machine.execThermalResumeArm path value complement s
  | .transitCclkWindow count => Sys2Proof.Machine.execTransitCclkWindow count s
  | .transitRunDone missing signature expected fails => Sys2Proof.Machine.execTransitRunDone missing signature expected fails s
  | .transitAbort path value => Sys2Proof.Machine.execTransitAbort path value s
  | .bypass code => Sys2Proof.Machine.execBypass code s
  | .idcode => Sys2Proof.Machine.execIdcode s
  | .samplePreload bumps => Sys2Proof.Machine.execSamplePreload bumps s
  | .extest => Sys2Proof.Machine.execExtest s
  | .wrapSel => Sys2Proof.Machine.execWrapSel s
  | .fuseWrite path value complement => Sys2Proof.Machine.execFuseWrite path value complement s
  | .fuseWriteCrc path value complement => Sys2Proof.Machine.execFuseWriteCrc path value complement s
  | .fuseLock path value complement => Sys2Proof.Machine.execFuseLock path value complement s
  | .lcAdvance path value complement => Sys2Proof.Machine.execLcAdvance path value complement s
  | .fuseDirect path value complement => Sys2Proof.Machine.execFuseDirect path value complement s
  | .fuseOpStart => Sys2Proof.Machine.execFuseOpStart s
  | .fuseOpDone weak pulses => Sys2Proof.Machine.execFuseOpDone weak pulses s
  | .fuseResense drift => Sys2Proof.Machine.execFuseResense drift s
  | .fuseRdselWrite path value => Sys2Proof.Machine.execFuseRdselWrite path value s
  | .mgmtStage value => Sys2Proof.Machine.execMgmtStage value s
  | .mgmtActivate value selfCheck => Sys2Proof.Machine.execMgmtActivate value selfCheck s
  | .mgmtCommit value => Sys2Proof.Machine.execMgmtCommit value s
  | .fwupRelease path value complement => Sys2Proof.Machine.execFwupRelease path value complement s
  | .leaseTimeout => Sys2Proof.Machine.execLeaseTimeout s
  | .cleanBoot => Sys2Proof.Machine.execCleanBoot s
  | .settingsStore => Sys2Proof.Machine.execSettingsStore s
  | .rollbackFuseRetry ok => Sys2Proof.Machine.execRollbackFuseRetry ok s
  | .regWrite path addr value => Sys2Proof.Machine.execRegWrite path addr value s
  | .dwWindowExpiry => Sys2Proof.Machine.execDwWindowExpiry s
  | .cfgownerWrite path value complement => Sys2Proof.Machine.execCfgownerWrite path value complement s
  | .mgmtSetPointer bytes => Sys2Proof.Machine.execMgmtSetPointer bytes s
  | .mgmtWrite bytes => Sys2Proof.Machine.execMgmtWrite bytes s
  | .mgmtRead bytes => Sys2Proof.Machine.execMgmtRead bytes s
  | .smbusTimeout => Sys2Proof.Machine.execSmbusTimeout s
  | .refclkLoss code => Sys2Proof.Machine.execRefclkLoss code s
  | .vddCoreLoss => Sys2Proof.Machine.execVddCoreLoss s
  | .vlanLoss => Sys2Proof.Machine.execVlanLoss s

end Sys2Proof.Machine
end

