-- ==== Sys2Proof/Machine/Step.lean ====
section
/-! DEFINITION. The step: the command at the front of the queue, or one CCLK of idling. -/

namespace Sys2Proof.Machine

/-- One CCLK passes; register fields that hardware changed in the CCLK before no longer meet a write (log entries 1, 66). -/
def idleTick (s : State) : State := s.atLeast (s.now + 1)

/-- Take the command at the front; on an empty queue idle. Log entry 1. -/
def step (s : State) : Host.Outcome State Fault Refusal :=
  match s.pending with
  | [] => .next (idleTick s)
  | c :: rest => exec c { s with pending := rest }

/-- The command a word spells, put at the front of the queue; the table gives its rows no bits, so none is. Log entry 15. -/
def State.withFetchWord (s : State) (nbits w : Nat) : State :=
  match decodeTableWord nbits w with
  | some c => { s with pending := c :: s.pending }
  | none => s

end Sys2Proof.Machine
end

