-- ==== Sys2Proof/Safety.lean ====
section
/-! DEFINITION. What statements are made in: running the front command, the byte of memory an address reads as, the canonical
form of memory, a command that answers a next state. -/

namespace Sys2Proof.Machine

/-- A step that took a state to a next state. -/
def stepsTo (s t : State) : Prop := step s = .next t

/-- A command that took a state to a next state. -/
def runsTo (c : Instr) (s t : State) : Prop := exec c s = .next t

/-- Memory and its check bytes stand in their canonical form. -/
def memWf (s : State) : Bool := smWf (0 : Byte) s.dram.mem && smWf (0 : Byte) s.dram.chk

/-- A command answers a next state, and that state is as told. -/
def Answers (c : Instr) (s : State) (P : State → Prop) : Prop := ∃ t, exec c s = .next t ∧ P t

end Sys2Proof.Machine
end

