-- ==== Sys2Proof/Certificates/Slice0/Obligations.lean ====
section
/-! DEFINITION. The statements for the provers. -/

open Sys2Proof
open Sys2Proof.Machine

/-! ### The step, the queue, the clock, memory -/

/-- The step of a state whose queue begins with a command is exec of that command on the state with the queue's rest. -/
def Obligations.StepRunsTheFrontCommand : Prop :=
  ∀ (c : Instr) (rest : List Instr) (s : State), step { s with pending := c :: rest } = exec c { s with pending := rest }

/-- After reset memory and its check symbols stand in their canonical form and no command waits (the form is the model's own,
log entries 8 and 10). -/
def Obligations.ResetMemoryIsCanonical : Prop :=
  memWf State.reset = true ∧ State.reset.pending = []

/-- From every state whose memory and check symbols stand in their canonical form (addresses strictly rising, no entry equal
to what an unlisted address reads as), a step that answers a next state, whatever its command, leaves them in that form (the
form is the model's own, log entries 8 and 10). -/
def Obligations.StepKeepsMemoryCanonical : Prop :=
  ∀ s t : State, memWf s = true → step s = .next t → memWf t = true

/-- Every step that answers a next state takes exactly the front command off the queue; the clock, the request numbers and the
free values' index never fall back. On an empty queue a step is one CCLK that keeps the stored registers, DRAM, the ports, the
series of SSNs, the journal and the power state (the model's choice, log entry 1). -/
def Obligations.StepTakesOneCommandAndTimeRuns : Prop :=
  (∀ s t : State, step s = .next t →
    t.pending = s.pending.tail ∧ s.now ≤ t.now ∧ s.nextId ≤ t.nextId ∧ s.free ≤ t.free) ∧
  (∀ s : State, s.pending = [] →
    ∃ t, step s = .next t ∧ t.now = s.now + 1 ∧ t.regs.csr = s.regs.csr ∧ t.pending = [] ∧ t.dram = s.dram ∧
      t.ports = s.ports ∧ t.seq = s.seq ∧ t.jrn = s.jrn ∧ t.power = s.power)

/-- No command of the table ends a run: each answers a next state in every state (that a command whose condition does not hold
changes nothing and answers is the model's choice, log entries 3 and 5). -/
def Obligations.EveryCommandAnswers : Prop :=
  ∀ (c : Instr) (s : State), ∃ t, exec c s = .next t

/-! ### Wide Port: requests and slots -/

/-- The command by which port `p` takes a request of kind `k`. -/
def portRequest (k : ReqKind) (p : Port) (w : Slot) (flits : List Block) : Instr :=
  match k with
  | .rd => .rd p w
  | .wr => .wr p w flits
  | .wrm => .wrm p w flits
  | .cfgRd => .cfgRd p w
  | .cfgWr => .cfgWr p w
  | .mark => .mark p w
  | .fence => .fence p w

/-- RD, WR, WRM, CFG_RD, CFG_WR, MARK and FENCE, at a port that is UP while READY is set. With a free tag, a credit of its
class and a right format the request is the newest staging entry, holds its tag, takes one credit of its class and no other,
and puts nothing at the egress. With its tag in use, no credit of its class or a wrong format it takes no staging entry and a
response with PROTO joins the egress. (R75, R89, R91.) -/
def Obligations.RequestsAreTakenOrRefused : Prop :=
  (∀ (k : ReqKind) (p : Port) (w : Slot) (fl : List Block) (s : State),
    accepts s p = true → s.ports[p].tags.contains (slotTag w) = false → badFormat k w = false →
    (∀ c : Fin 3, creditClass k w = c.val → 0 < s.ports[p].credits[c]) → creditClass k w < 3 →
    Answers (portRequest k p w fl) s fun t =>
      t.ports[p].staging.map (·.slot) = s.ports[p].staging.map (·.slot) ++ [w] ∧
      t.ports[p].tags = s.ports[p].tags ++ [slotTag w] ∧
      t.ports[p].egress = s.ports[p].egress ∧
      (∀ c : Fin 3, t.ports[p].credits[c] = if creditClass k w = c.val then s.ports[p].credits[c] - 1 else s.ports[p].credits[c])) ∧
  (∀ (k : ReqKind) (p : Port) (w : Slot) (fl : List Block) (s : State),
    accepts s p = true →
    (s.ports[p].tags.contains (slotTag w) = true ∨ badFormat k w = true ∨
      ∃ c : Fin 3, creditClass k w = c.val ∧ s.ports[p].credits[c] = 0) →
    Answers (portRequest k p w fl) s fun t =>
      t.ports[p].staging = s.ports[p].staging ∧
      t.ports[p].egress = s.ports[p].egress ++ [protoResp k w (s.ports[p].tags.contains (slotTag w))] ∧
      (protoResp k w (s.ports[p].tags.contains (slotTag w))).status = stProto)

/-- R77: at a port that is UP while READY is set, an RD or WR of 128 bytes at an odd block, or of 256 bytes at a block that is
no multiple of four, is answered with PROTO under its tag. The blocks of an aligned request of any length lie in one 256-byte
unit and in one pseudo-channel in every address map order. -/
def Obligations.MisalignedRequestCompletesWithProto : Prop :=
  (∀ (p : Port) (w : Slot) (fl : List Block) (k : ReqKind) (s : State), k = .rd ∨ k = .wr → accepts s p = true →
    (slotLen w = 1 ∧ slotBlk w % 2 ≠ 0 ∨ slotLen w = 2 ∧ slotBlk w % 4 ≠ 0) →
    Answers (portRequest k p w fl) s fun t =>
      ∃ r, t.ports[p].egress = s.ports[p].egress ++ [r] ∧ r.tag = slotTag w ∧ r.status = stProto) ∧
  (∀ (map blk i len : Nat), len < 3 → blk % lenBlocks len = 0 → i < lenBlocks len →
    (blk + i) / 4 = blk / 4 ∧ (coordOf map (blk + i)).pc = (coordOf map blk).pc)

/-! ### Wide Port: links, repair, PCTL -/

/-- At a port that is UP while READY is set: NOP adds its SIG credits and keeps staging, and with ACK_VALID frees the replay
buffer up to ACK_SEQ, unless a higher slot of its header flit does so. A slot with an unlisted opcode changes no staging
entry, tag, link or pseudo-channel, and where its event is not rate-limited and the series is decided an SSN is issued.
UPSTREAM_RESPONSE_SEND sends the next response with its data, frees its tag unless it answers a repeated tag, and takes it
from the egress; with none it sends a header flit of CRD slots that returns the freed credits and carries the ACK due.
SIG_SEND sends the oldest waiting SIG against one SIG credit. FLIT_LINK_CHECK accepts a flit that passes and advances the
expected number, and asks again for one that fails. RESEND_START resends from the flit asked for, and the whole buffer where
it is full and nothing is asked for, and keeps it. (R57, R60, R73, R82, R84, R88.) -/
def Obligations.LinkSlotsChecksAndResends : Prop :=
  (∀ (p : Port) (w : Slot) (shadowed : Bool) (s : State), accepts s p = true → s.links[p].repairQ = [] →
    Answers (.nop p ⟨w, shadowed⟩) s fun t =>
      t.ports[p].sigCred = s.ports[p].sigCred + slotSigCrd w ∧ t.ports[p].staging = s.ports[p].staging ∧
      t.links[p].replay =
        if slotAckValid w && !shadowed then ackFlits s.links[p].replay (slotAckSeq w) else s.links[p].replay) ∧
  (∀ (p : Port) (w : Slot) (s : State), accepts s p = true → 7 < slotOpc w →
    Answers (.unlistedOpcode p w) s fun t =>
      t.ports[p].staging = s.ports[p].staging ∧ t.ports[p].tags = s.ports[p].tags ∧ t.links = s.links ∧ t.pcs = s.pcs ∧
      (s.seq.decided = true → (limitDue s (evKey (portSrc p 4) 0x0107) us10).isSome = true → s.seq.next < t.seq.next)) ∧
  (∀ (p : Port) (r : Resp) (s : State), sendsNew s p = true → nextResp s.ports[p] = some r →
    txRoom s p (1 + r.data.length) = true →
    Answers (.upstreamResponseSend p) s fun t =>
      t.ports[p].egress = s.ports[p].egress.erase r ∧
      t.ports[p].tags = (if r.dup then s.ports[p].tags else s.ports[p].tags.erase r.tag) ∧
      t.links[p].lastSent.map (·.flit) = headerFlit (crdSlot s p) (respSlot r) :: r.data ∧
      t.links[p].replay = s.links[p].replay ++ t.links[p].lastSent) ∧
  (∀ (p : Port) (s : State), sendsNew s p = true → nextResp s.ports[p] = none → txRoom s p 1 = true →
    Answers (.upstreamResponseSend p) s fun t =>
      t.links[p].lastSent.map (·.flit) = [headerFlit (crdSlot s p) 0] ∧ t.links[p].ackPending = false ∧
      ∀ c : Fin 3, t.ports[p].credits[c] = s.ports[p].credits[c] + min 255 s.ports[p].returns[c]) ∧
  (∀ (p : Port) (e : EvRec) (rest : List EvRec) (s : State), sendsNew s p = true → s.ports[p].sigWait = e :: rest →
    0 < s.ports[p].sigCred → txRoom s p 1 = true → s.evt.stopped = false →
    Answers (.sigSend p) s fun t =>
      t.ports[p].sigWait = rest ∧ t.ports[p].sigCred = s.ports[p].sigCred - 1 ∧
      t.links[p].lastSent.map (·.flit) = [headerFlit (crdSlot s p) (sigSlot e)]) ∧
  (∀ (p : Port) (f : Block) (c : Word) (s : State), linkLive s p = true → s.links[p].repair = none → s.links[p].heldBack = 0 →
    s.links[p].repairQ = [] →
    Answers (.flitLinkCheck p f c) s fun t =>
      if flitPasses s.links[p].rxSeq f c then
        t.links[p].rxSeq = (s.links[p].rxSeq + 1) % 256 ∧ t.links[p].ackPending = true ∧ t.links[p].failCount = 0
      else
        t.links[p].rxSeq = s.links[p].rxSeq ∧ t.links[p].nakPending = true ∧
        t.links[p].failCount = s.links[p].failCount + 1) ∧
  (∀ (p : Port) (q : Nat) (s : State), linkLive s p = true → s.links[p].muted = false → s.links[p].resendFrom = some q →
    Answers (.resendStart p) s fun t =>
      t.links[p].resendFrom = none ∧ t.links[p].replay = s.links[p].replay ∧
      t.links[p].lastSent = s.links[p].replay.dropWhile fun f => decide (f.seq ≠ q)) ∧
  (∀ (p : Port) (s : State), linkLive s p = true → s.links[p].muted = false → s.links[p].resendFrom = none →
    32 ≤ s.links[p].replay.length →
    Answers (.resendStart p) s fun t => t.links[p].replay = s.links[p].replay ∧ t.links[p].lastSent = s.links[p].replay)

/-- REPLAY_STORM after eight failed copies fails the port with reason 1 and reports it. HCK_FAULT fails it with reason 2, and
staging is empty. PORT_FAIL of the host with a listed reason fails it with that reason. TRN_FAIL in training fails it with
reason 3 and ends the training. PCTL_ANSWER_TIMEOUT, 2 us after the frame, sends the frame again, and after the third repeat
fails the port with reason 3. (R63, R69, R71, R72, R109.) -/
def Obligations.PortFailures : Prop :=
  (∀ (p : Port) (s : State), linkLive s p = true → 8 ≤ s.links[p].failCount →
    Answers (.replayStorm p) s fun t =>
      t.ports[p].link = .failed ∧ t.ports[p].failReason = 1 ∧ t.links[p].pctlUp = some (0x05, 1)) ∧
  (∀ (p : Port) (s : State), s.ports[p].link ≠ .down → ¬ (s.ports[p].link = .failed ∧ s.ports[p].failReason = 2) →
    Answers (.hckFault p) s fun t =>
      t.ports[p].link = .failed ∧ t.ports[p].failReason = 2 ∧ t.ports[p].staging = [] ∧ t.links[p].pctlUp = some (0x05, 2)) ∧
  (∀ (p : Port) (arg : BitVec 16) (s : State), 1 ≤ arg.toNat → arg.toNat ≤ 3 → s.ports[p].link ≠ .down →
    s.ports[p].link ≠ .failed →
    Answers (.portFail p arg) s fun t => t.ports[p].link = .failed ∧ t.ports[p].failReason = arg.toNat) ∧
  (∀ (p : Port) (arg : BitVec 16) (s : State), s.links[p].trn ≠ .idle →
    Answers (.trnFail p arg) s fun t =>
      t.ports[p].link = .failed ∧ t.ports[p].failReason = 3 ∧ t.links[p].trn = .idle) ∧
  (∀ (p : Port) (w : PctlWait) (s : State), s.links[p].pctl = some w →
    Answers (.pctlAnswerTimeout p) s fun t => w.sentAt + 3200 ≤ t.now ∧
      if w.repeats < 3 then
        t.links[p].pctl = some { w with sentAt := t.now, repeats := w.repeats + 1 } ∧ t.links[p].pctlUp = some (w.cmd, w.arg)
      else t.ports[p].link = .failed ∧ t.ports[p].failReason = 3)

/-- DOWNSTREAM_LANE_FAILED with every spare free puts the link in REMAP and names the lowest spare in a REMAP frame. REMAP of
the host maps the named lane onto the named free spare, stops new flits and is answered. REMAP_DONE for the repair under way
maps the lane, ends the repair and asks for the resend; the link is UP once nothing discarded is to come again and no upstream
repair holds it. PORT_RESET at a port that is not DOWN, nor failed with SPARES_EXHAUSTED, puts it in RESET, discards staging,
tags and waiting SIGs, empties the replay buffer, keeps the downstream map and sends its frame. At a port failed with
SPARES_EXHAUSTED PORT_RESET changes nothing. PORT_RESET_DONE after the fast training brings the port UP with both sequence
numbers zero and, where CRDINIT is valid, its credits loaded from CRDINIT. (R65 to R69, R98 to R100.) -/
def Obligations.LaneRepairAndPortResets : Prop :=
  (∀ (p : Port) (lane : Nat) (s : State), linkLive s p = true → lane < 68 → laneDue s p lane = true →
    dnBusy s.links[p] = false → s.ports[p].mapDn = Vector.replicate 4 none → s.transit.spareTest = [] →
    (∀ i : Fin 4, dnSpareBad s p i.val = false) →
    Answers (.downstreamLaneFailed p lane) s fun t =>
      t.ports[p].link = .remap ∧ t.links[p].repair = some (remapArg lane 0 0) ∧
      t.links[p].pctlUp = some (0x03, remapArg lane 0 0)) ∧
  (∀ (p : Port) (arg : BitVec 16) (i : Fin 4) (s : State), linkLive s p = true → remapValid arg.toNat = true →
    i.val = bitsOf arg.toNat 7 2 → sparesLeft s.ports[p].mapUp (upSpareBad s p) ≠ 0 → s.ports[p].mapUp[i] = none →
    Answers (.remap p arg) s fun t =>
      t.ports[p].mapUp = remapLane s.ports[p].mapUp (bitsOf arg.toNat 0 7) i ∧ t.ports[p].link = .remap ∧
      t.links[p].muted = true ∧ t.links[p].pctlUp = some (0x04, arg.toNat)) ∧
  (∀ (p : Port) (arg : BitVec 16) (i : Fin 4) (s : State), s.ports[p].link = .remap → s.links[p].repair = some arg.toNat →
    i.val = bitsOf arg.toNat 7 2 → s.links[p].repairQ = [] →
    Answers (.remapDone p arg) s fun t =>
      t.ports[p].mapDn = remapLane s.ports[p].mapDn (bitsOf arg.toNat 0 7) i ∧
      t.links[p].repair = none ∧ t.links[p].nakPending = true ∧
      (t.ports[p].link = .up ↔ s.links[p].heldBack = 0 ∧ s.links[p].muted = false ∧ s.links[p].upHeld = none)) ∧
  (∀ (p : Port) (s : State), s.ports[p].link ≠ .down → ¬ (s.ports[p].link = .failed ∧ s.ports[p].failReason = 2) →
    Answers (.portReset p) s fun t =>
      t.ports[p].link = .reset ∧ t.ports[p].resetting = true ∧ t.ports[p].staging = [] ∧ t.ports[p].tags = [] ∧
      t.ports[p].sigWait = [] ∧ t.ports[p].mapDn = s.ports[p].mapDn ∧ t.links[p].replay = [] ∧
      t.links[p].pctlUp = some (0x10, 1)) ∧
  (∀ (p : Port) (s : State), s.ports[p].link = .failed → s.ports[p].failReason = 2 → exec (.portReset p) s = .next s) ∧
  (∀ (p : Port) (s : State), s.ports[p].resetting = true → s.ports[p].link = .reset → s.links[p].trained = true →
    keeperUp s = true →
    Answers (.portResetDone p) s fun t =>
      t.ports[p].link = .up ∧ t.ports[p].resetting = false ∧ t.links[p].rxSeq = 0 ∧ t.links[p].txSeq = 0 ∧
      t.links[p].pctlUp = some (0x02, 0) ∧
      (crdValid (csrGet s (portReg p 4)) = true →
        t.ports[p].credits = #v[bitsOf (csrGet s (portReg p 4)) 0 8, bitsOf (csrGet s (portReg p 4)) 8 8,
          bitsOf (csrGet s (portReg p 4)) 16 8]))

/-- PCTL_FRAME_INVALID, a frame with a wrong CRC (then counted) or an unknown command, keeps the port's state and its training
and issues an SSN where the series is decided. TRN_ACK after TRN_START runs the downstream steps, each for its dwells, and
then opens the first upstream step with its frame. PHASE_DONE of the step under way begins the next step, or ends the
handshake after the last. LANE_BAD in a training records the upstream lane position (the order of the CRC-8's bits is the
model's choice, log entry 85). (R71, R108 to R110, R115.) -/
def Obligations.PctlTrainingFrames : Prop :=
  (∀ (p : Port) (cmd : Byte) (arg : BitVec 16) (crc : Byte) (s : State),
    pctlCrc cmd arg ≠ crc.toNat ∨ pctlKnown cmd.toNat = false →
    Answers (.pctlFrameInvalid p cmd arg crc) s fun t =>
      t.links[p].pctlBad = s.links[p].pctlBad + b2n (decide (pctlCrc cmd arg ≠ crc.toNat)) ∧
      t.ports[p].link = s.ports[p].link ∧ t.links[p].trn = s.links[p].trn ∧
      (s.seq.decided = true → s.seq.next < t.seq.next)) ∧
  (∀ (p : Port) (arg : BitVec 16) (fast : Bool) (s : State), s.links[p].trn = .started fast → keeperUp s = true →
    Answers (.trnAck p arg) s fun t =>
      t.links[p].trn = .running fast 1 true t.now ∧ t.links[p].pctlUp = some (0x12, phaseArg 1 1) ∧
      t.links[p].pctl = none ∧ t.now = s.now + (if fast then 11 else 588) * dwellCclk s) ∧
  (∀ (p : Port) (arg : BitVec 16) (fast : Bool) (step at_ : Nat) (s : State),
    s.links[p].trn = .running fast step true at_ → arg.toNat % 8 = step →
    Answers (.phaseDone p arg) s fun t =>
      t.links[p].trn = match nextStep fast step with
        | some k => .running fast k true s.now
        | none => .done fast) ∧
  (∀ (p : Port) (arg : BitVec 16) (fast dir : Bool) (step at_ : Nat) (s : State),
    s.links[p].trn = .running fast step dir at_ → bitsOf arg.toNat 0 7 < 72 →
    Answers (.laneBad p arg) s fun t => t.links[p].upBad = setInsert s.links[p].upBad (bitsOf arg.toNat 0 7))

/-! ### Staging and epochs -/

/-- The state in which a release of port `p` is decided: its time has come, and a lapse of the port's claim is reported. -/
abbrev atRelease (s : State) (p : Port) : State := reportClaims (s.atLeast s.ports[p].leaveAt) p

/-- STAGING_RELEASE with a chosen request. A read of a pseudo-channel in service with a free entry leaves staging and is an
entry of that pseudo-channel's queue with its block, length, port and tag. A FENCE with no power failure leaves staging and an
OK response with its tag waits at the egress. A MARK of an epoch already open that is not refused and not held leaves staging,
its port's current epoch becomes its value, and no epoch opens. (R89, R93, R96, R272.) -/
def Obligations.StagingReleases : Prop :=
  (∀ (p : Port) (r : StReq) (s : State), releases s p = true →
    nextStaged (atRelease s p) p = some r → r.kind = .rd → atOnce (atRelease s p) r = none →
    (hostPool (atRelease s p).pcs[r.pc (atRelease s p)] r.urgent).isSome = true →
    Answers (.stagingRelease p) s fun t =>
      (∀ x ∈ t.ports[p].staging, x.ord ≠ r.ord) ∧
      ∃ e ∈ t.pcs[r.pc (atRelease s p)].queue, e.kind = .rd ∧ e.blk = slotBlk r.slot ∧ e.n = reqBlocks r.kind r.slot ∧
        e.src = .host p ∧ e.tag = slotTag r.slot) ∧
  (∀ (p : Port) (r : StReq) (s : State), releases s p = true →
    nextStaged (atRelease s p) p = some r → r.kind = .fence → s.power.failing = false →
    Answers (.stagingRelease p) s fun t =>
      (∀ x ∈ t.ports[p].staging, x.ord ≠ r.ord) ∧
      ∃ a ∈ t.ports[p].egress, a.kind = .fence ∧ a.tag = slotTag r.slot ∧ a.status = stOk) ∧
  (∀ (p : Port) (r : StReq) (s : State), releases s p = true →
    nextStaged (atRelease s p) p = some r → r.kind = .mark → s.power.failing = false → markRefused s p (slotEpoch r.slot) = 0 →
    boundaryHeld s (slotEpoch r.slot) = false → slotEpoch r.slot ≤ s.epochs.newest →
    Answers (.stagingRelease p) s fun t =>
      (∀ x ∈ t.ports[p].staging, x.ord ≠ r.ord) ∧ t.epochs.cur[p.val] = slotEpoch r.slot ∧
      t.epochs.newest = s.epochs.newest)

/-- BOUNDARY_RELEASE of a port's held MARK whose turn has come and whose epoch is open: the port's epoch becomes its value and
the MARK leaves staging. EPOCH_STALL of a boundary held and not yet reported, no earlier than 100 us after the holding began,
marks it reported and, for a port, issues an SSN where the series is decided. EPOCH_CLOSE with every member past and no
trigger armed changes only that one epoch is open. PORTSET_APPLY with the set free applies the pending set; members that join
take the newest epoch, the others keep theirs. DEFERRED_TRIGGER_ACTION with the Keeper up takes the oldest deferred action,
and SCRUB_PAUSE and SCRUB_RESUME set and clear SCRUB.CTL.PAUSE. (R275, R276, R278, R287 to R289.) -/
def Obligations.BoundariesAndEpochCloses : Prop :=
  (∀ (p : Port) (m : Member) (r : StReq) (since : Nat) (s : State), m.val = p.val → heldMark s.ports[p] = some (r, since) →
    boundaryFree s (slotEpoch r.slot) = true → slotEpoch r.slot ≤ s.epochs.newest →
    Answers (.boundaryRelease m) s fun t =>
      t.epochs.cur[m] = slotEpoch r.slot ∧ ∀ x ∈ t.ports[p].staging, x.ord ≠ r.ord) ∧
  (∀ (p : Port) (m : Member) (r : StReq) (since : Nat) (s : State), m.val = p.val → heldMark s.ports[p] = some (r, since) →
    r.stalled = false →
    Answers (.epochStall m) s fun t =>
      since + 160000 ≤ t.now ∧ (∀ x ∈ t.ports[p].staging, x.ord = r.ord → x.stalled = true) ∧
      (s.seq.decided = true → s.seq.next < t.seq.next)) ∧
  (∀ (v since : Nat) (s : State), s.epochs.engHeld = some (v, since) → s.epochs.engStalled = false →
    Answers (.epochStall 16) s fun t => since + 160000 ≤ t.now ∧ t.epochs.engStalled = true) ∧
  (∀ s : State, canClose s = true → (∀ i : Fin 16, csrFld s (trigReg i.val 0) 0 1 = 0) →
    Answers .epochClose s fun t => t.epochs = { s.epochs with two := false }) ∧
  (∀ (v : BitVec 18) (s : State), s.epochs.pendingSet = some v → setFree s = true →
    Answers .portsetApply s fun t =>
      t.epochs.portset = v ∧ t.epochs.pendingSet = none ∧ t.epochs.newest = s.epochs.newest ∧
      ∀ m : Member, t.epochs.cur[m] =
        if v.getLsbD m.val = true ∧ s.epochs.portset.getLsbD m.val = false then s.epochs.newest else s.epochs.cur[m]) ∧
  (∀ (d : Deferred) (rest : List Deferred) (s : State), s.epochs.deferred = d :: rest → keeperUp s = true →
    d.action = 1 ∨ d.action = 4 ∨ d.action = 5 →
    Answers .deferredTriggerAction s fun t =>
      t.epochs = { s.epochs with deferred := rest } ∧
      (d.action = 4 → csrFld t 0x070004 11 1 = 1) ∧ (d.action = 5 → csrFld t 0x070004 11 1 = 0))

/-! ### Training and calibration -/

/-- Of two copies that pass, the one of the higher generation is used, copy A where they are equal; where one passes, that
one; FAST_TRAINING of a pseudo-channel loads the delay and threshold of the copy used. With both copies of a port or a
pseudo-channel bad, FAST_TRAINING leaves the lanes, begins a full training of a port, and issues an SSN where the series is
decided. (R124.) -/
def Obligations.CalibrationCopyChosenOnLoading : Prop :=
  (∀ r : CalRec, r.a.ok = true → r.b.ok = true → r.a.gen < r.b.gen → useCopy r = some r.b) ∧
  (∀ r : CalRec, r.a.ok = true → r.b.ok = true → r.b.gen < r.a.gen → useCopy r = some r.a) ∧
  (∀ r : CalRec, r.a.ok = true → r.b.ok = true → r.a.gen = r.b.gen → useCopy r = some r.a) ∧
  (∀ r : CalRec, r.a.ok = true → r.b.ok = false → useCopy r = some r.a) ∧
  (∀ r : CalRec, r.a.ok = false → r.b.ok = true → useCopy r = some r.b) ∧
  (∀ (n : Pc) (c : CalCopy) (k : Nat) (x : CalLane) (s : State), trainable s (.pc n) = true → needsFull s (.pc n) = false →
    useCopy s.train.recs[regionNo (.pc n)] = some c → c.lanes = [(k, x)] → k < 148 →
    (laneGet s (laneKey (regionNo (.pc n)).val k)).auto = none →
    Answers (.fastTraining (.pc n) []) s fun t =>
      (laneGet t (laneKey (regionNo (.pc n)).val k)).delay = x.delay ∧
      (laneGet t (laneKey (regionNo (.pc n)).val k)).thresh = x.thresh) ∧
  (∀ (r : Region) (sw : List LaneSweep) (s : State), trainable s r = true → handshake s r true = true → r ≠ .crossing →
    (∀ n : Pc, r = .pc n → needsFull s r = false) →
    s.train.recs[regionNo r].a.ok = false → s.train.recs[regionNo r].b.ok = false →
    Answers (.fastTraining r sw) s fun t =>
      t.train.lanes = s.train.lanes ∧ (∀ p, r = .port p → t.links[p].trn = .started false) ∧
      (s.seq.decided = true → s.seq.next < t.seq.next))

/-- FULL_TRAINING of a port or pseudo-channel with the sweep of one lane: the lane becomes what the sweep's error counts give
(its passing run, the middle of it, a failure; log entry 84); the region's record is due. PC_TRAINING_LOST puts a
pseudo-channel in retraining with its queue kept. PC_RETRAIN_DONE, after the training that passed or failed, returns it to
service with its queue, or takes it offline. CAL_RECORD_REWRITE with the Keeper up writes both copies alike, valid, with a
generation one above both, and the record is due no more. (R110, R117, R125.) -/
def Obligations.TrainingAndRetraining : Prop :=
  (∀ (r : Region) (w : LaneSweep) (s : State), trainable s r = true → handshake s r false = true →
    (∃ p : Port, r = .port p ∧ w.lane < 72 ∧ w.write = false) ∨ (∃ n : Pc, r = .pc n ∧ needsFull s r = true ∧ w.lane < 74) →
    Answers (.fullTraining r [w]) s fun t =>
      t.train.recs[regionNo r].due = true ∧ (s.stack.ready = false → t.train.lastFull = true) ∧
      laneGet t (laneKey (regionNo r).val (sweepPos w)) =
        (fullLane (regionNo r).val w (laneGet s (laneKey (regionNo r).val (sweepPos w)))).1) ∧
  (∀ (n : Pc) (lock : Bool) (s : State), pcOnline s n = true → lock = true ∨ lanesLost s n = true →
    Answers (.pcTrainingLost n lock) s fun t =>
      t.pcs[n].mode = .retrain ∧ t.pcs[n].queue = s.pcs[n].queue ∧ t.train.activity = 3) ∧
  (∀ (n : Pc) (s : State), s.pcs[n].mode = .retrain → s.pcs[n].retrained = some true → keeperUp s = true → s.fw.mPend = none →
    Answers (.pcRetrainDone n true) s fun t => t.pcs[n].mode = .online ∧ t.pcs[n].queue = s.pcs[n].queue) ∧
  (∀ (n : Pc) (s : State), s.pcs[n].mode = .retrain → s.pcs[n].retrained = some false → keeperUp s = true →
    s.fw.mPend = none →
    Answers (.pcRetrainDone n false) s fun t => t.pcs[n].mode = .offline) ∧
  (∀ (k : Fin 81) (s : State), s.train.recs[k].due = true → keeperUp s = true → s.power.failing = false →
    Answers (.calRecordRewrite k) s fun t =>
      t.train.recs[k].due = false ∧ t.train.recs[k].a = t.train.recs[k].b ∧
      t.train.recs[k].a.gen =
        (if s.train.recs[k].a.gen < s.train.recs[k].b.gen then s.train.recs[k].b.gen else s.train.recs[k].a.gen) + 1 ∧
      t.train.recs[k].a.ok = true)

/-- CAL_PERIOD_END of a live lane forms its target and eye figures from the counts and keeps its delay. CAL_STEP of a measured
lane moves its delay one tap towards the target within the range, 10 us or more after its last step. OVERRIDE_STEP moves the
lane of an override entry one tap towards the entry's value, 10 us or more after its last step (which of two equal runs, their
middle and the rounding are the model's choice, log entry 84). (R119, R120, R127.) -/
def Obligations.CalibrationMovesOneTap : Prop :=
  (∀ (l : LaneRef) (m : CalMeas) (g : Nat) (s : State), refRegion l = some g → laneLive s g l.lane = true →
    periodFull s g l.lane = true →
    Answers (.calPeriodEnd l m) s fun t =>
      (laneGet t (laneKey g l.lane)).target = (laneGet s (laneKey g l.lane)).delay + phaseOffset (phaseRun m) ∧
      (laneGet t (laneKey g l.lane)).eyeW = eyeWidth (phaseRun m).2 ∧
      (laneGet t (laneKey g l.lane)).eyeH = 4 * heightTaps m ∧ (laneGet t (laneKey g l.lane)).measured = true ∧
      (laneGet t (laneKey g l.lane)).delay = (laneGet s (laneKey g l.lane)).delay) ∧
  (∀ (l : LaneRef) (g : Nat) (s : State), refRegion l = some g → laneLive s g l.lane = true →
    (laneGet s (laneKey g l.lane)).measured = true → (laneGet s (laneKey g l.lane)).overridden = false →
    (laneGet s (laneKey g l.lane)).onesOff = false →
    (laneGet s (laneKey g l.lane)).delay ≠ tapWithin 383 (laneGet s (laneKey g l.lane)).target →
    Answers (.calStep l) s fun t =>
      (laneGet t (laneKey g l.lane)).delay =
        towards (laneGet s (laneKey g l.lane)).delay (tapWithin 383 (laneGet s (laneKey g l.lane)).target) ∧
      (laneGet s (laneKey g l.lane)).stepAt + us10 ≤ t.now) ∧
  (∀ (i : Fin 64) (g lane : Nat) (s : State), ovrLane s i.val = some (g, lane) → ovrShadowed s i.val = false →
    (laneGet s (laneKey g lane)).failed = false →
    (laneGet s (laneKey g lane)).delay ≠ min 383 (bitsOf (csrGet s (0x0F0204 + 8 * i.val)) 0 9) →
    Answers (.overrideStep i) s fun t =>
      (laneGet t (laneKey g lane)).delay =
        towards (laneGet s (laneKey g lane)).delay (min 383 (bitsOf (csrGet s (0x0F0204 + 8 * i.val)) 0 9)) ∧
      (laneGet s (laneKey g lane)).stepAt + us10 ≤ t.now)

/-! ### Pseudo-channels: scheduling -/

/-- SCHEDULER_PICK of a pseudo-channel in service with one pickable read and no line to write back, no earlier than the bank's
timing allows: with the bank closed the read's row is opened and the entry kept; with the read's row open the read is issued;
with another row open the bank is precharged and the queue kept. (R139 to R144, R148.) -/
def Obligations.SchedulerPicksARead : Prop :=
  ∀ (n : Pc) (e : QEnt) (s : State), pcOnline s n = true → requests s n = [e] → e.kind = .rd → e.isLine = false →
    pickable (wiClear s n) n e = true →
    Answers (.schedulerPick n) s fun t =>
      legalAt s n e ≤ t.now ∧
      ((bankOf s n e).row = none →
        (bankOf t n e).row = some (e.coord s).row ∧ ∃ f ∈ t.pcs[n].queue, f.id = e.id ∧ f.acted = true) ∧
      ((bankOf s n e).row = some (e.coord s).row → ∃ f ∈ t.pcs[n].queue, f.id = e.id ∧ f.issued = true) ∧
      ((bankOf s n e).row ≠ none → (bankOf s n e).row ≠ some (e.coord s).row →
        (bankOf t n e).row = none ∧ t.pcs[n].queue = s.pcs[n].queue)

/-- READ_DATA_DECODED of a ready read frees its entry, and a host read that is not to be discarded is answered under its tag.
DRAM_WRITE_DONE of a ready write frees its entry; where it writes one block that meets no Lagoon line, that block of memory
holds its data and no other block changes. WRM_MERGE with a zero mask changes nothing in DRAM and frees the entry; with a
claimed block and a line, the Lagoon not POOL_ONLY or the request URGENT, it frees the entry. DERIVED_WRITE_ENQUEUE with no
newer write puts the derived block into the queue as a write. URGENT_LAPSE_END, with no breach since, ends a lapse 1 us after
its last breach. (R86, R142, R151, R156, R217, R224.) -/
def Obligations.QueuedRequestsComplete : Prop :=
  (∀ (n : Pc) (id : Nat) (up : List Upset) (e : QEnt) (s : State), entryOf s n id = some e → readReady s n e = true →
    lagAllows s (readWays s e) = true →
    Answers (.readDataDecoded n id up) s fun t =>
      (∀ x ∈ t.pcs[n].queue, x.id ≠ id) ∧
      ∀ p : Port, e.src = .host p → e.noResp = false → ∃ r ∈ t.ports[p].egress, r.kind = .rd ∧ r.tag = e.tag) ∧
  (∀ (n : Pc) (id : Nat) (e : QEnt) (s : State), entryOf s n id = some e → writeReady s n e = true →
    writeHeldByWalk s e = false → writeCapped s e = false →
    Answers (.dramWriteDone n id) s fun t => ∀ x ∈ t.pcs[n].queue, x.id ≠ id) ∧
  (∀ (n : Pc) (id : Nat) (e : QEnt) (d : Block) (s : State), entryOf s n id = some e → writeReady s n e = true → e.kind = .wr →
    e.blocks = [e.blk] → e.data = [d] → validLine s e.blk = none →
    Answers (.dramWriteDone n id) s fun t =>
      memBlock t.dram.mem e.blk = d ∧ ∀ b : Nat, b ≠ e.blk → memBlock t.dram.mem b = memBlock s.dram.mem b) ∧
  (∀ (n : Pc) (id : Nat) (e : QEnt) (s : State), entryOf s n id = some e → mergeReady s n e = true →
    lagAllows s (if e.urgent then [] else waysOf s [e.blk / 4]) = true → e.mask = 0 →
    Answers (.wrmMerge n id) s fun t => t.dram = s.dram ∧ ∀ x ∈ t.pcs[n].queue, x.id ≠ id) ∧
  (∀ (n : Pc) (id : Nat) (e : QEnt) (l : Line) (s : State), entryOf s n id = some e → mergeReady s n e = true →
    lagAllows s (if e.urgent then [] else waysOf s [e.blk / 4]) = true → e.mask ≠ 0 →
    lineOf s (e.blk / 4) = some l → underWalk s l = false → (s.lagoon.degrade ≠ 2 ∨ e.urgent = true) →
    capWaits s (e.blk / 4) e.cap e.urgent = false → claimZero s e.blk = true →
    Answers (.wrmMerge n id) s fun t => ∀ x ∈ t.pcs[n].queue, x.id ≠ id) ∧
  (∀ (n : Pc) (d : Derived) (rest : List Derived) (s : State), s.pcs[n].derived = d :: rest → intRoom s.pcs[n] = true →
    smGet 0 s.dram.lastWrite d.blk ≤ d.readId → validLine s d.blk = none →
    Answers (.derivedWriteEnqueue n) s fun t =>
      t.pcs[n].derived = rest ∧
      ∃ e ∈ t.pcs[n].queue, e.kind = .wr ∧ e.src = .corrwb ∧ e.blk = d.blk ∧ e.n = 1 ∧ e.data = [d.data]) ∧
  (∀ (n : Pc) (s : State), s.pcs[n].lapsed = true → (∀ u : Nat, anyBreach s n u = false) → urgThrottled s n = false →
    Answers (.urgentLapseEnd n) s fun t => t.pcs[n].lapsed = false ∧ s.pcs[n].breachAt + 1600 ≤ t.now)

/-! ### Lagoon -/

/-- CAPTURE_OFFER not refused starts the copy of the row, leaves the bank closed for others and is counted. CAPTURE_COPY_DONE
ends the copy 128 CCLK or more after the activation, closes the bank and keeps DRAM. LINE_WRITEBACK_TIMEOUT, 100 us after the
last write, makes the line due or draws it, and keeps its data. LINE_WRITEBACK_DONE of an issued write-back stores each drawn
block in memory, changes no block of another unit, and is counted. WAY_FAILURE_DETECTED of a way in service begins its
recovery with its cause. WAY_RECOVERY_DONE leaves the way failed. (R171, R172, R175, R176, R179, R180.) -/
def Obligations.LagoonRowsLinesAndWays : Prop :=
  (∀ (n : Pc) (b : Fin 32) (row : Nat) (o : Offer) (s : State),
    s.pcs[n].offers.find? (fun o => o.bank == b.val && o.row == row) = some o → offerReady s n b row = true →
    outranksCopy (s.atLeast (offerTime s n b)) n o.at_ = false → offerRefused s n.val b.val row = 0 →
    Answers (.captureOffer n b row) s fun t =>
      t.pcs[n].banks[b].capture = some row ∧ t.pcs[n].banks[b].row = none ∧
      csrGet t (pcReg n.val 0x010) = satAdd 0xFFFFFFFF (csrGet s (pcReg n.val 0x010)) 1) ∧
  (∀ (n : Pc) (b : Fin 32) (row : Nat) (s : State), s.pcs[n].banks[b].capture = some row →
    lagAllows s (waysOf s (rowUnits s n.val b.val row)) = true →
    Answers (.captureCopyDone n b row) s fun t =>
      t.pcs[n].banks[b].capture = none ∧ s.pcs[n].banks[b].actAt + 128 ≤ t.now ∧ t.dram = s.dram) ∧
  (∀ (n : Pc) (u : Nat) (l : Line) (s : State), lineOf s u = some l → unitPc s u = n.val → l.dirty ≠ 0 → l.captured = false →
    l.wb = 0 →
    Answers (.lineWritebackTimeout n u) s fun t =>
      l.wroteAt + 160000 ≤ t.now ∧
      ∃ k, lineOf t u = some k ∧ (k.due = true ∨ k.wb ≠ 0) ∧ k.data = l.data ∧ k.dirty = l.dirty) ∧
  (∀ (n : Pc) (u : Nat) (l : Line) (s : State), lineOf s u = some l → unitPc s u = n.val → l.wb ≠ 0 → l.issued = true →
    pcOnline s n = true →
    Answers (.lineWritebackDone n u) s fun t =>
      (∀ i : Fin 4, l.wb.testBit i.val = true → memBlock t.dram.mem (4 * u + i.val) = l.data[i]) ∧
      (∀ b : Nat, b / 4 ≠ u → memBlock t.dram.mem b = memBlock s.dram.mem b) ∧
      csrGet t 0x06002C = satAdd 0xFFFFFFFF (csrGet s 0x06002C) 1) ∧
  (∀ (w : Fin 16) (cause : Fin 5) (tag : Option (Pc × Nat)) (lost : List Nat) (s : State), wayMayFail s w.val = true →
    1 ≤ cause.val → s.lagoon.recovering = none →
    Answers (.wayFailureDetected w cause tag lost) s fun t =>
      t.lagoon.recovering = some w.val ∧ t.lagoon.cause = cause.val) ∧
  (∀ (w : Fin 16) (lost : List Nat) (s : State), s.lagoon.recovering = some w.val →
    Answers (.wayRecoveryDone w lost) s fun t => t.lagoon.failed.testBit w.val = true ∧ s.lagoon.degrade ≤ t.lagoon.degrade)

/-! ### Refresh and row guard -/

/-- REFRESH_SLOT comes a slot length after the slot before and adds one to the debt of that slot's bank, unless its refresh
was given within the slot. REFRESH_START pays one back and closes the bank. NBR_REFRESH_TRIGGER of a row at or above the
neighbour threshold adds it to the bank's waiting rows. TARGETED_REFRESH_DONE takes the oldest of them and closes the bank.
TRACKER_WINDOW_END, 32 ms after the last, zeroes every estimate of the old window. THROTTLE_STEP_UP of a requester above its
spill limit in a sub-window raises its step by one, for that sub-window (each boundary as a command is the model's choice, log
entry 1). (R189 to R192, R195 to R205.) -/
def Obligations.RefreshAndRowGuard : Prop :=
  (∀ (n : Pc) (s : State), refreshing s n = true →
    Answers (.refreshSlot n) s fun t =>
      t.pcs[n].refPos = (s.pcs[n].refPos + 1) % 32 ∧ t.pcs[n].slotAt = s.pcs[n].slotAt + refSlotLen s.pcs[n] ∧
      t.pcs[n].slotAt ≤ t.now ∧
      t.pcs[n].banks[bankFin (slotBank s.pcs[n])].debt =
        s.pcs[n].banks[bankFin (slotBank s.pcs[n])].debt + b2n (!s.pcs[n].slotDone)) ∧
  (∀ (n : Pc) (b : Fin 32) (s : State), refreshReady s n b = true →
    Answers (.refreshStart n b) s fun t =>
      t.pcs[n].banks[b].debt = s.pcs[n].banks[b].debt - 1 ∧ t.pcs[n].banks[b].row = none ∧
      t.pcs[n].banks[b].refAt = t.now ∧ (s.pcs[n].banks[b].debt = 0 → t.pcs[n].slotDone = true)) ∧
  (∀ (n : Pc) (b : Fin 32) (row : Nat) (s : State), pcOnline s n = true →
    (guardParams s).2.1 ≤ estOf s n b.val row → rowHeld s.pcs[n].banks[b] row = false →
    Answers (.nbrRefreshTrigger n b row) s fun t => t.pcs[n].banks[b].trig = setInsert s.pcs[n].banks[b].trig row) ∧
  (∀ (n : Pc) (b : Fin 32) (row : Nat) (rest : List Nat) (s : State), s.pcs[n].banks[b].trig = row :: rest →
    targetedReady s n b row = true →
    Answers (.targetedRefreshDone n b) s fun t =>
      t.pcs[n].banks[b].trig = rest ∧ t.pcs[n].banks[b].row = none ∧
      ∀ e ∈ t.pcs[n].tracker, e.bank = b.val → e.row = row → e.est = 0) ∧
  (∀ s : State, s.stack.ready = true →
    Answers .trackerWindowEnd s fun t =>
      s.guard.windowAt + 51200000 ≤ t.now ∧ t.guard.windowAt = s.guard.windowAt + 51200000 ∧
      ∀ n : Pc, s.pcs[n].trkWin ≤ s.guard.winNo → ∀ e ∈ t.pcs[n].tracker, e.est = 0) ∧
  (∀ (q : Fin 1024) (x : Nat × Nat × Bool) (s : State), stepDue (guardParams s).2.2.1 (thrOf s q.val) = some x →
    (thrOf s q.val).step < (guardParams s).2.2.2 →
    Answers (.throttleStepUp q) s fun t =>
      (thrOf t q.val).step = (thrOf s q.val).step + 1 ∧ (thrOf t q.val).stepped = some x.1)

/-! ### Data integrity -/

/-- TIDEFILL_DONE leaves memory all zero with every page fresh and no poison, and frees the scrubber. FRESH_CLAIM_FILL puts a
write of zeros over the next unwritten unit of a claimed page into its pseudo-channel's queue. SCRUB_UNIT_ISSUE with no range
due advances the walker by one unit, no earlier than its time. SCRUB_LAP_END counts the lap, starts the next and returns every
walker to the beginning; the walkers of the pseudo-channels in service are in the new lap. (R230, R233, R237 to R240.) -/
def Obligations.FillAndScrub : Prop :=
  (∀ (us : Nat) (s : State), s.scrub.tidefill = true →
    Answers (.tidefillDone us) s fun t =>
      t.dram.mem = [] ∧ t.dram.chk = [] ∧ t.dram.freshAll = true ∧ t.dram.poison = Vector.replicate 512 none ∧
      t.scrub.tidefill = false ∧ t.scrub.held = false) ∧
  (∀ (page u mask : Nat) (c : Claim) (s : State), s.dram.claims.find? (fun c => decide (c.page = page)) = some c →
    fillUnit c = some (u, mask) → intRoom s.pcs[pcFin (coordOf s.dram.mapActive (64 * page + 4 * u)).pc] = true →
    pcOnline s (pcFin (coordOf s.dram.mapActive (64 * page + 4 * u)).pc) = true →
    Answers (.freshClaimFill page) s fun t =>
      ∃ e ∈ t.pcs[pcFin (coordOf s.dram.mapActive (64 * page + 4 * u)).pc].queue,
        e.id = s.nextId ∧ e.kind = .wr ∧ e.blk = 64 * page + 4 * u ∧ e.cover = mask ∧ e.data = List.replicate 4 0) ∧
  (∀ (n : Pc) (s : State), walkerReady s n = true → idleOnly s = true ∨ rangesOn s = false →
    Answers (.scrubUnitIssue n) s fun t =>
      t.pcs[n].walker.pos = s.pcs[n].walker.pos + 1 ∧ walkTime s n ≤ t.now) ∧
  (∀ s : State, lapDone s = true →
    Answers .scrubLapEnd s fun t =>
      t.scrub.lap = s.scrub.lap + 1 ∧ t.scrub.lapStart = s.now ∧ t.scrub.verify = false ∧
      csrGet t 0x070020 = satAdd 0xFFFFFFFF (csrGet s 0x070020) 1 ∧
      ∀ n : Pc, t.pcs[n].walker.pos = 0 ∧ (t.pcs[n].walker.inLap = true ↔ s.pcs[n].mode = .online))

/-- SOFT_REPAIR_START of a candidate row that is not refused, in its turn, starts its copy. SOFT_REPAIR_DONE of a row that may
be opened frees the bank and closes it. TSV_LANE_FAILED records a failed lane, and with a spare free keeps the pseudo-channel
in service. TSV_SWITCH_START with a free spare holds the pseudo-channel for the switch with its queue kept. TSV_SWITCH_DONE
puts the lane on the spare, returns the pseudo-channel to service, and the repair waits to be fused. (R259 to R261, R266,
R267.) -/
def Obligations.RowAndLaneRepair : Prop :=
  (∀ (n : Pc) (b : Fin 32) (row : Nat) (s : State), keeperUp s = true → softTurn s n b.val row = true →
    s.pcs[n].banks[b].repair = none →
    softRefused { s with dram := { s.dram with candidates := s.dram.candidates.erase (n.val, b.val, row) } } n b.val row = 0 →
    Answers (.softRepairStart n b row) s fun t =>
      t.pcs[n].banks[b].repair = some row ∧ t.dram.candidates = s.dram.candidates.erase (n.val, b.val, row)) ∧
  (∀ (n : Pc) (b : Fin 32) (row : Nat) (s : State), repairBank s.pcs[n] = some b → s.pcs[n].banks[b].repair = some row →
    pcOnline s n = true → mayOpen s n b.val false = true → rowStopped s n b.val row = false → outranksCopy s n s.now = false →
    Answers (.softRepairDone n) s fun t => t.pcs[n].banks[b].repair = none ∧ t.pcs[n].banks[b].row = none) ∧
  (∀ (n : Pc) (lane : Nat) (s : State), lane < 72 → (erasures s.pcs[n]).contains lane = false → tsvDue s n lane = true →
    pcOnline s n = true →
    Answers (.tsvLaneFailed n lane) s fun t =>
      t.pcs[n].failedLanes.contains lane = true ∧
      (smGet {} t.train.lanes (tsvKey n.val (tsvPos s.pcs[n] lane))).failed = true ∧
      (tsvSpareFree s n 0 = true ∨ tsvSpareFree s n 1 = true → t.pcs[n].mode = .online)) ∧
  (∀ (n : Pc) (lane : Nat) (i : Fin 2) (s : State), (erasures s.pcs[n]).head? = some lane → tsvSpare s n = some i →
    keeperUp s = true → pcOnline s n = true →
    Answers (.tsvSwitchStart n) s fun t =>
      t.pcs[n].mode = .tsvSwitch ∧ t.pcs[n].switching = some (lane, i.val) ∧ t.pcs[n].queue = s.pcs[n].queue) ∧
  (∀ (n : Pc) (lane : Nat) (i : Fin 2) (s : State), s.pcs[n].mode = .tsvSwitch → s.pcs[n].switching = some (lane, i.val) →
    Answers (.tsvSwitchDone n) s fun t =>
      t.pcs[n].mode = .online ∧ t.pcs[n].switching = none ∧ t.pcs[n].spares = s.pcs[n].spares.set i (some lane) ∧
      t.dram.tsvPending = s.dram.tsvPending ++ [(n.val, lane, i.val)])

/-! ### Journal and events -/

/-- JOURNAL_UNIT_FLUSH moves the flushed count to the end of its unit, or to the count after 100 us. ALMANAC_LOOKUP_DONE ends
a lookup; it has found an entry exactly where one lies at or after the place sought. EVENT_RECORD_WRITE takes the ring's next
slot for the oldest waiting record, and a record at or above the pin severity is the ring's pin index. SMBUS_ALERT_RESPONSE
withdraws the alert and answers the stack's address. (R335, R338, R343, R345, R348.) -/
def Obligations.JournalEventsAndAlert : Prop :=
  (∀ s : State, s.jrn.flushed < s.jrn.count → dramAwake s = true →
    Answers .journalUnitFlush s fun t =>
      t.jrn.flushed = min (s.jrn.flushed / 4 * 4 + 4) s.jrn.count ∧
      (s.jrn.count < s.jrn.flushed / 4 * 4 + 4 → s.jrn.unitAt + 160000 ≤ t.now)) ∧
  (∀ s : State, s.jrn.busy = true →
    Answers .almanacLookupDone s fun t =>
      t.jrn.busy = false ∧ t.jrn.fromJ = none ∧
      (t.jrn.found = true ↔
        (match s.jrn.fromJ with | some k => max k (oldestJ s) | none => seekJ s s.jrn.rsel) < s.jrn.count)) ∧
  (∀ (k : Fin 4) (e : EvRec) (rest : List EvRec) (s : State), s.evt.rings[k].waiting = e :: rest →
    s.evt.rings[k].active = true → evRingServed s k = true → s.evt.stopped = false → flood s = true →
    s.evt.rings[k].tail - s.evt.rings[k].head < evRingSize s k →
    blkOnline s (evSlotBlk s k (s.evt.rings[k].tail % evRingSize s k)) = true →
    Answers (.eventRecordWrite k) s fun t =>
      t.evt.rings[k].waiting = rest ∧ t.evt.rings[k].tail = s.evt.rings[k].tail + 1 ∧
      t.evt.rings[k].lostBefore = false ∧
      (sevLimit t 0 ≤ e.sev → t.evt.rings[k].pinIdx = some s.evt.rings[k].tail)) ∧
  (∀ s : State, s.evt.alertN = true →
    Answers .smbusAlertResponse s fun t =>
      t.evt.alertN = false ∧ t.evt.mfifo = s.evt.mfifo ∧ t.regs.mgmtOut = [BitVec.ofNat 8 (2 * mgmtAddr s)])

/-! ### Registers -/

/-- A path that may access registers while no dual write is pending and hardware has changed no field in this CCLK. -/
abbrev quietPath (s : State) (path : Path) : Prop :=
  pathUp s path = true ∧ isOwner s path = true ∧ s.regs.dual = none ∧ s.regs.dualK = none ∧ s.regs.hwField = [] ∧
  s.regs.hwCount = []

/-- R30: in every state bit 2 (SVC_PAUSED) of the word read at GLOBAL.STACKSTAT is 1 exactly while bit 1 (KEEPER_UP) is 0 and
bit 0 (READY) is 1. -/
def Obligations.ServicePausedExactly : Prop :=
  ∀ s : State, (liveWord s 0x00000C).testBit 2 = true ↔
    ((liveWord s 0x00000C).testBit 1 = false ∧ (liveWord s 0x00000C).testBit 0 = true)

/-- R103: a write to PORT[p].CRDINIT by a path that owns the registers stores it, changes no other register and no port.
PORT_RESET_DONE, FULL_TRAINING and FAST_TRAINING of the port that pass, with a valid CRDINIT, load its credits from it. -/
def Obligations.CreditSettingsLoadAtTraining : Prop :=
  (∀ (path : Path) (p : Port) (v : Word) (s : State), quietPath s path →
    Answers (.regWrite path (BitVec.ofNat 24 (portReg p 4)) v) s fun t =>
      csrGet t (portReg p 4) = v.toNat % 2 ^ 24 ∧ (∀ a : Nat, a ≠ portReg p 4 → csrGet t a = csrGet s a) ∧ t.ports = s.ports) ∧
  (∀ (p : Port) (s : State), s.ports[p].resetting = true → s.ports[p].link = .reset → s.links[p].trained = true →
    keeperUp s = true → crdValid (csrGet s (portReg p 4)) = true →
    Answers (.portResetDone p) s fun t =>
      t.ports[p].credits = #v[bitsOf (csrGet s (portReg p 4)) 0 8, bitsOf (csrGet s (portReg p 4)) 8 8,
        bitsOf (csrGet s (portReg p 4)) 16 8]) ∧
  (∀ (p : Port) (s : State), s.ports[p].link = .training → s.ports[p].resetting = false → s.links[p].trn = .done false →
    keeperUp s = true → s.links[p].upBad = [] → crdValid (csrGet s (portReg p 4)) = true →
    Answers (.fullTraining (.port p) []) s fun t =>
      t.ports[p].link = .up ∧
      t.ports[p].credits = #v[bitsOf (csrGet s (portReg p 4)) 0 8, bitsOf (csrGet s (portReg p 4)) 8 8,
        bitsOf (csrGet s (portReg p 4)) 16 8]) ∧
  (∀ (p : Port) (c : CalCopy) (s : State), s.ports[p].link = .training → s.ports[p].resetting = false → s.links[p].trn = .done true →
    keeperUp s = true → (∀ k : Nat, k < 72 → (laneGet s (laneKey p.val k)).failed = false) → s.links[p].upBad = [] →
    useCopy s.train.recs[regionNo (.port p)] = some c → crdValid (csrGet s (portReg p 4)) = true →
    Answers (.fastTraining (.port p) []) s fun t =>
      t.ports[p].link = .up ∧
      t.ports[p].credits = #v[bitsOf (csrGet s (portReg p 4)) 0 8, bitsOf (csrGet s (portReg p 4)) 8 8,
        bitsOf (csrGet s (portReg p 4)) 16 8])

/-- R137: while GLOBAL.MEMCFG.ARCH_LOCK is set a write changes nothing of MEMCFG; while it is clear MAP_NEXT and the lock are
stored; neither moves the map in force. POWER_GOOD, PFAIL_RECOVERED and the release of PRST_N and HRST_N clear the lock.
KEEPER_WATCHDOG_EXPIRY, KEEPER_RESTART_DONE, PORT_RESET and PORT_RESET_DONE leave it, in every state. -/
def Obligations.MapLockHoldsMapNext : Prop :=
  (∀ (path : Path) (v : Word) (s : State), quietPath s path → csrFld s 0x000020 4 1 = 1 →
    Answers (.regWrite path 0x000020 v) s fun t =>
      csrGet t 0x000020 = csrGet s 0x000020 ∧ t.dram.mapActive = s.dram.mapActive) ∧
  (∀ (path : Path) (v : Word) (s : State), quietPath s path → csrFld s 0x000020 4 1 = 0 →
    Answers (.regWrite path 0x000020 v) s fun t =>
      csrFld t 0x000020 0 2 = bitsOf v.toNat 0 2 ∧ csrFld t 0x000020 4 1 = bitsOf v.toNat 4 1 ∧
      t.dram.mapActive = s.dram.mapActive) ∧
  (∀ (strap : BitVec 3) (s : State), powerAway s = true → Answers (.powerGood strap) s fun t => csrFld t 0x000020 4 1 = 0) ∧
  (∀ s : State, s.power.phase = .lowWater → s.power.coreLost = false → s.power.drained = 7 → s.power.lwSeal.cause ≠ 2 →
    Answers .pfailRecovered s fun t => csrFld t 0x000020 4 1 = 0) ∧
  (∀ s : State, s.power.phase = .held 1 →
    Answers .logicResetRelease s fun t => csrFld t 0x000020 4 1 = 0) ∧
  (∀ s : State, s.power.phase = .held 2 → Answers .logicResetRelease s fun t => csrFld t 0x000020 4 1 = 0) ∧
  (∀ s : State, Answers .keeperWatchdogExpiry s fun t => csrFld t 0x000020 4 1 = csrFld s 0x000020 4 1) ∧
  (∀ (ok : Bool) (micros : Nat) (s : State),
    Answers (.keeperRestartDone ok micros) s fun t => csrFld t 0x000020 4 1 = csrFld s 0x000020 4 1) ∧
  (∀ (p : Port) (s : State), Answers (.portReset p) s fun t => csrFld t 0x000020 4 1 = csrFld s 0x000020 4 1) ∧
  (∀ (p : Port) (s : State), Answers (.portResetDone p) s fun t => csrFld t 0x000020 4 1 = csrFld s 0x000020 4 1)

/-- CFGOWNER_WRITE, WIPE_NEXT_WRITE, REPAIR_FUSEAUTH and THERMAL_RESUME_ARM store their value exactly where the second word is
the complement of the first. With it KEEPER_RESET_REQUEST restarts the Keeper, counts the restart, keeps READY and disarms
REPAIR.FUSEAUTH; SCRUB_INITDONE frees the held scrubber; FWUP_RELEASE ends the host's lease with nothing activated.
DW_WINDOW_EXPIRY discards a sequence without its complement, 65 CCLK or more after its first word, and every register but the
event rings' lost counts keeps its value. (R542, R543.) -/
def Obligations.DualWrites : Prop :=
  (∀ (path : Path) (v c : Word) (s : State), quietPath s path →
    Answers (.cfgownerWrite path v c) s fun t =>
      csrGet t 0x000040 = if c = ~~~v then v.toNat % 2 ^ 16 else csrGet s 0x000040) ∧
  (∀ (path : Path) (v c : Word) (s : State), quietPath s path →
    Answers (.wipeNextWrite path v c) s fun t =>
      csrGet t 0x000110 = if c = ~~~v then v.toNat % 2 else csrGet s 0x000110) ∧
  (∀ (path : Path) (v c : Word) (s : State), quietPath s path →
    Answers (.repairFuseauth path v c) s fun t =>
      csrGet t 0x070210 = if c = ~~~v then v.toNat % 2 ^ 25 else csrGet s 0x070210) ∧
  (∀ (path : Path) (v c : Word) (s : State), quietPath s path → keeperUp s = true → s.stack.ready = true → v.getLsbD 0 = true →
    c = ~~~v → s.transit.running = false → path.val ≠ 17 →
    Answers (.keeperResetRequest path v c) s fun t =>
      t.stack.keeper = .restarting ∧ t.stack.restarts = satAdd 255 s.stack.restarts 1 ∧ t.stack.ready = true ∧
      csrGet t 0x070210 = 0) ∧
  (∀ (path : Path) (v c : Word) (s : State), quietPath s path → v.getLsbD 0 = true → c = ~~~v → s.scrub.held = true →
    Answers (.scrubInitdone path v c) s fun t => t.scrub.held = false ∧ t.scrub.verifyDue = false) ∧
  (∀ (path : Path) (v c : Word) (s : State), quietPath s path → s.therm.shut = true →
    Answers (.thermalResumeArm path v c) s fun t =>
      t.therm.armed = if c = ~~~v then v.getLsbD 0 else s.therm.armed) ∧
  (∀ (path : Path) (v c : Word) (s : State), quietPath s path → path.val < 16 → v.getLsbD 0 = true → c = ~~~v →
    s.fw.holder = 1 → s.fw.activated = 0 →
    Answers (.fwupRelease path v c) s fun t => t.fw.holder = 0 ∧ t.fw.staged = 0) ∧
  (∀ (d : Dual) (s : State), s.regs.dual = some d → s.regs.dualK = none →
    Answers .dwWindowExpiry s fun t =>
      t.regs.dual = none ∧ d.at_ + 65 ≤ t.now ∧ ∀ a, (¬ ∃ k : Fin 4, a = 0x0A0114 + 0x20 * k.val) → csrGet t a = csrGet s a)

/-- REG_WRITE of a port that GLOBAL.CFGOWNER does not name changes no register but the event rings' lost counts, and neither
DRAM, pseudo-channels, epochs, the engine, fuses, firmware nor a pending dual write. (R534.) -/
def Obligations.UnownedPathChangesNothing : Prop :=
  ∀ (path : Path) (a : BitVec 24) (v : Word) (s : State), pathUp s path = true → isOwner s path = false →
    Answers (.regWrite path a v) s fun t =>
      (∀ b, (¬ ∃ k : Fin 4, b = 0x0A0114 + 0x20 * k.val) → csrGet t b = csrGet s b) ∧ t.dram = s.dram ∧ t.pcs = s.pcs ∧
      t.epochs = s.epochs ∧ t.wetex = s.wetex ∧ t.fuse = s.fuse ∧ t.fw = s.fw ∧ t.regs.dual = s.regs.dual

/-- EVT_RING_ENABLE of a served ring that is disabled, with a right configuration, starts it at tail and head zero.
EVT_RING_DISABLE stops a served ring and clears ENABLE. EVT_RING_HEAD_WRITE moves the head forward to the index written where
that passes no unwritten record. EVT_FATAL_ACK_WRITE stores the acknowledged SSN and keeps the last fatal one. (R343 to R347.)
-/
def Obligations.EventRingRegisters : Prop :=
  (∀ (path : Path) (k : Fin 4) (v : Word) (s : State), quietPath s path → v.getLsbD 5 = true → evRingServed s k = true →
    s.evt.rings[k].active = false →
    evRingOk (csrSet s (evRingReg k.val 8) (bitsOf v.toNat 0 5 + bitsOf (csrGet s (evRingReg k.val 8)) 5 1 * 32
      + bitsOf v.toNat 6 1 * 64)) k = true →
    Answers (.evtRingEnable path k v) s fun t =>
      t.evt.rings[k].active = true ∧ t.evt.rings[k].tail = 0 ∧ t.evt.rings[k].head = 0 ∧
      csrFld t (evRingReg k.val 8) 5 1 = 1) ∧
  (∀ (path : Path) (k : Fin 4) (v : Word) (s : State), quietPath s path → v.getLsbD 5 = false → evRingServed s k = true →
    Answers (.evtRingDisable path k v) s fun t =>
      t.evt.rings[k].active = false ∧ csrFld t (evRingReg k.val 8) 5 1 = 0) ∧
  (∀ (path : Path) (k : Fin 4) (v : Word) (s : State), quietPath s path → evRingServed s k = true →
    v.toNat % 65536 < evRingSize s k →
    (v.toNat % 65536 + evRingSize s k - s.evt.rings[k].head % evRingSize s k) % evRingSize s k ≤
      s.evt.rings[k].tail - s.evt.rings[k].head →
    Answers (.evtRingHeadWrite path k v) s fun t =>
      t.evt.rings[k].head = s.evt.rings[k].head +
        (v.toNat % 65536 + evRingSize s k - s.evt.rings[k].head % evRingSize s k) % evRingSize s k) ∧
  (∀ (path : Path) (v : DWord) (s : State), quietPath s path →
    Answers (.evtFatalAckWrite path v) s fun t => t.evt.fatalAck = v.toNat ∧ t.evt.fatalSsn = s.evt.fatalSsn)

/-- EVT_MFIFO_READ, ALMANAC_RDATA_READ, SEXTANT_QUAL_READ and CHROSY_QUAL_READ answer the word the register read before, and
then take the oldest FIFO record, start the lookup of the next entry, and latch the selected lane's figures. (R536, R539.) -/
def Obligations.ReadsAnswerTheOldValue : Prop :=
  (∀ (path : Path) (s : State), quietPath s path → s.regs.latch[path] = none →
    Answers (.evtMfifoRead path) s fun t =>
      t.regs.lastRead = BitVec.ofNat 64 (liveWord s 0x0A051C) ∧ t.evt.mfifo = s.evt.mfifo.drop 1) ∧
  (∀ (path : Path) (s : State), quietPath s path → s.regs.latch[path] = none → s.jrn.found = true →
    Answers (.almanacRdataRead path) s fun t =>
      t.regs.lastRead = BitVec.ofNat 64 (liveWord s 0x0A00BC) ∧ t.jrn.busy = true ∧ t.jrn.fromJ = some (s.jrn.foundJ + 1)) ∧
  (∀ (path : Path) (s : State), quietPath s path → s.regs.latch[path] = none →
    Answers (.sextantQualRead path) s fun t =>
      t.regs.lastRead = BitVec.ofNat 64 (liveWord s 0x0F0014) ∧ t.train.qual = BitVec.ofNat 32 (qualOf s).1) ∧
  (∀ (path : Path) (s : State), quietPath s path → s.regs.latch[path] = none → chrosyOn s = true →
    Answers (.chrosyQualRead path) s fun t =>
      t.regs.lastRead = BitVec.ofNat 64 (liveWord s 0x0B0044) ∧ t.chrosy.qual = chrQual s (csrFld s 0x0B0040 0 4))

/-- SEXTANT_QSEL_WRITE stores the selection, keeps the lanes and latches the selected figures. CHROSY_QSEL_WRITE stores its
selection. ALMANAC_RSEL_WRITE starts the lookup of the SSN written. FUSE_RDSEL_WRITE shows the selected word 1 us later and
keeps the array. EPOCH_PORTSET_WRITE applies the set where it is free and else leaves it pending. EPOCH_INIT_WRITE sets the
first epoch of every member before epochs have started and else changes no epoch. TRIG_ARM of a trigger whose moment is ahead
sets EN and clears FIRED. (R129, R277, R278, R289, R338, R379, R512.) -/
def Obligations.SelectionAndEpochRegisters : Prop :=
  (∀ (path : Path) (v : Word) (s : State), quietPath s path →
    Answers (.sextantQselWrite path v) s fun t =>
      csrGet t 0x0F0010 = v.toNat % 2 ^ 17 ∧ t.train.lanes = s.train.lanes ∧ t.train.qual = BitVec.ofNat 32 (qualOf t).1) ∧
  (∀ (path : Path) (v : Word) (s : State), quietPath s path → chrosyOn s = true →
    Answers (.chrosyQselWrite path v) s fun t =>
      csrFld t 0x0B0040 0 4 = bitsOf v.toNat 0 4 ∧ t.chrosy.credits = s.chrosy.credits) ∧
  (∀ (path : Path) (v : DWord) (s : State), quietPath s path →
    Answers (.almanacRselWrite path v) s fun t =>
      t.jrn.busy = true ∧ t.jrn.rsel = v.toNat ∧ t.jrn.fromJ = none ∧ t.jrn.found = false) ∧
  (∀ (path : Path) (v : Word) (s : State), quietPath s path →
    Answers (.fuseRdselWrite path v) s fun t =>
      t.fuse.rdataAt = s.now + 1600 ∧ t.fuse.arr = s.fuse.arr ∧
      (bitsOf v.toNat 13 2 ≠ 0 → t.fuse.rdata = BitVec.ofNat 32 (fuseRead s.fuse.arr (bitsOf v.toNat 0 13) (bitsOf v.toNat 13 2)))) ∧
  (∀ (path : Path) (v : Word) (s : State), quietPath s path → setFree s = true → chrosyOn s = false →
    Answers (.epochPortsetWrite path v) s fun t =>
      t.epochs.portset = BitVec.ofNat 18 (v.toNat % 2 ^ 17) ∧ t.epochs.pendingSet = none) ∧
  (∀ (path : Path) (v : Word) (s : State), quietPath s path → setFree s = false → chrosyOn s = false →
    Answers (.epochPortsetWrite path v) s fun t =>
      t.epochs.portset = s.epochs.portset ∧ t.epochs.pendingSet = some (BitVec.ofNat 18 (v.toNat % 2 ^ 17))) ∧
  (∀ (path : Path) (v : DWord) (s : State), quietPath s path →
    Answers (.epochInitWrite path v) s fun t =>
      if s.epochs.started then t.epochs = s.epochs else t.epochs.newest = v.toNat ∧ t.epochs.two = false ∧
        t.epochs.cur = Vector.replicate 18 v.toNat) ∧
  (∀ (path : Path) (i : Fin 16) (v : Word) (s : State), quietPath s path → v.getLsbD 0 = true →
    csrFld s (trigReg i.val 0) 0 1 = 0 → bitsOf v.toNat 2 3 = 0 →
    momentPassed s (v.getLsbD 1) (csrPair s (trigReg i.val 4)) = false →
    Answers (.trigArm path i v) s fun t => csrFld t (trigReg i.val 0) 0 1 = 1 ∧ t.epochs.fired.getLsbD i.val = false)

/-- MGMT_SET_POINTER with a right PEC and an aligned offset sets page and offset. MGMT_WRITE of one word to PORT[p].CRDINIT
stores it, keeps the ports, and keeps the target busy one CCLK (log entry 69). MGMT_READ of one word below 0x10_0000 answers
the register's four bytes and a PEC byte. A transaction opened while the target is busy is refused with NACK and stores
nothing. SMBUS_TIMEOUT clears page, offset and output and keeps the registers. (R546, R562.) -/
def Obligations.ManagementTransactions : Prop :=
  (∀ (bytes : List Byte) (s : State), pathUp s mgmtPath = true → mgmtBusy s = false → bytes.length = 4 →
    pecOk s (byteNats bytes) = true → (byteNats bytes).getD 2 0 % 4 = 0 →
    Answers (.mgmtSetPointer bytes) s fun t =>
      t.regs.page = (byteNats bytes).getD 0 0 + 256 * (byteNats bytes).getD 1 0 ∧ t.regs.off = (byteNats bytes).getD 2 0 ∧
      t.regs.lastNak = false ∧ t.regs.csr = s.regs.csr) ∧
  (∀ (p : Port) (bytes : List Byte) (s : State), quietPath s mgmtPath → mgmtBusy s = false → bytes.length = 8 →
    pecOk s (byteNats bytes) = true → mgmtCsr (byteNats bytes) = portReg p 4 →
    Answers (.mgmtWrite bytes) s fun t =>
      csrGet t (portReg p 4) = ofBytes (((byteNats bytes).drop 3).take 4) % 2 ^ 24 ∧ t.regs.lastNak = false ∧
      t.regs.mgmtBusy = s.now + 1 ∧ t.ports = s.ports) ∧
  (∀ (bytes : List Byte) (s : State), quietPath s mgmtPath → mgmtBusy s = false → bytes.length = 5 →
    pecOk s (byteNats bytes) = true → (byteNats bytes).getD 2 0 % 4 = 0 → (byteNats bytes).getD 3 0 = 4 →
    mgmtCsr (byteNats bytes) < 0x100000 → s.regs.latch[mgmtPath] = none →
    Answers (.mgmtRead bytes) s fun t =>
      t.regs.lastNak = false ∧ t.regs.mgmtOut.length = 5 ∧
      t.regs.mgmtOut.take 4 = (bytesOf 4 (liveWord s (mgmtCsr (byteNats bytes)))).map (BitVec.ofNat 8)) ∧
  (∀ (bytes : List Byte) (s : State), pathUp s mgmtPath = true → mgmtBusy s = true →
    (Answers (.mgmtWrite bytes) s fun t => t.regs.lastNak = true ∧ t.regs.csr = s.regs.csr) ∧
    (Answers (.mgmtRead bytes) s fun t => t.regs.lastNak = true ∧ t.regs.csr = s.regs.csr)) ∧
  (∀ s : State, pathUp s mgmtPath = true →
    Answers .smbusTimeout s fun t =>
      t.regs.page = 0 ∧ t.regs.off = 0 ∧ t.regs.mgmtOut = [] ∧ t.regs.csr = s.regs.csr)

/-! ### Wetex -/

/-- Descriptor `idx` of pair `r` has ended as told. -/
def endedAs (t : State) (r : Fin 64) (idx : Nat) (P : Nat → Nat → Nat → Prop) : Prop :=
  ∃ d st res det, wxGet t r idx = some d ∧ d.fin = some (st, res, det) ∧ P st res det

/-- A descriptor of `opc` may start now. -/
abbrev mayStart (s : State) (opc : Nat) (r : Fin 64) (idx : Nat) (d : WxDesc) : Prop :=
  wxGet s r idx = some d ∧ wxReady s d opc = true

/-- SQ_TAIL_DOORBELL takes bits [11:0] as the tail of an active ring where they lie within the ring, and else keeps the tail.
CQ_HEAD_DOORBELL frees the records up to the index written, and where it would pass the records written keeps the engine and
issues an SSN. RING_ENABLE of a disabled ring starts it at zero with PHASE 1 where its configuration is right, and else leaves
it disabled. RING_DISABLE disables an active ring with nothing active and drains another. (R296 to R298.) -/
def Obligations.DoorbellsAndRings : Prop :=
  (∀ (path : Path) (r : Fin 64) (v : Word) (s : State), quietPath s path → path.val ≠ 16 →
    Answers (.sqTailDoorbell path r v) s fun t =>
      t.wetex.rings[r].sqTail =
        if s.wetex.rings[r].st = .active ∧ v.toNat % 4096 < wxSqSize s r.val then v.toNat % 4096
        else s.wetex.rings[r].sqTail) ∧
  (∀ (path : Path) (r : Fin 64) (v : Word) (s : State), quietPath s path → path.val ≠ 16 → s.wetex.rings[r].st = .active →
    v.toNat % 4096 < wxCqSize s r.val →
    Answers (.cqHeadDoorbell path r v) s fun t =>
      if (v.toNat % 4096 + wxCqSize s r.val - s.wetex.rings[r].cqHead) % wxCqSize s r.val ≤ s.wetex.rings[r].unfreed then
        t.wetex.rings[r].cqHead = v.toNat % 4096 ∧
        t.wetex.rings[r].unfreed = s.wetex.rings[r].unfreed -
          (v.toNat % 4096 + wxCqSize s r.val - s.wetex.rings[r].cqHead) % wxCqSize s r.val
      else t.wetex = s.wetex ∧ (s.seq.decided = true → s.seq.next < t.seq.next)) ∧
  (∀ (path : Path) (r : Fin 64) (v : Word) (s : State), quietPath s path → v.getLsbD 10 = true →
    s.wetex.rings[r].st = .disabled →
    Answers (.ringEnable path r v) s fun t =>
      if wxCfgOk (csrSet s (wxReg r.val 0x10) (v.toNat % 2 ^ 10)) r.val then
        t.wetex.rings[r].st = .active ∧ t.wetex.rings[r].sqHead = 0 ∧ t.wetex.rings[r].sqTail = 0 ∧
        t.wetex.rings[r].cqHead = 0 ∧ t.wetex.rings[r].cqTail = 0 ∧ t.wetex.rings[r].phase = true ∧
        csrFld t (wxReg r.val 0x10) 10 1 = 1
      else t.wetex = s.wetex ∧ csrFld t (wxReg r.val 0x10) 10 1 = 0) ∧
  (∀ (path : Path) (r : Fin 64) (v : Word) (s : State), quietPath s path → v.getLsbD 10 = false →
    s.wetex.rings[r].st = .active →
    Answers (.ringDisable path r v) s fun t =>
      t.wetex.rings[r].st = (if s.wetex.rings[r].act = [] then .disabled else .draining) ∧
      csrFld t (wxReg r.val 0x10) 10 1 = 0)

/-- DESC_FETCH fetches nothing where active descriptors and unfreed records fill the completion queue; else the descriptor at
SQ_HEAD becomes active and waits for dispatch, ended at once only where its block could not be read; where the ring's block is
offline and others are active the ring stops. DESC_DISPATCH gives the next descriptor its place in the order and ends it with
the status of the first check that fails. COMPLETION_RECORD of an ended descriptor makes it active no longer. (R302 to R305,
R314, R320.) -/
def Obligations.DescriptorsFetchedDispatchedCompleted : Prop :=
  (∀ (r : Fin 64) (s : State),
    wxCqSize s r.val ≤ s.wetex.rings[r].act.length + s.wetex.rings[r].unfreed → exec (.descFetch r) s = .next s) ∧
  (∀ (r : Fin 64) (s : State), engineRuns s = true → s.therm.shut = false → s.wetex.rings[r].st = .active →
    s.wetex.rings[r].sqHead ≠ s.wetex.rings[r].sqTail → wxActive s < 1024 →
    s.wetex.rings[r].act.length + s.wetex.rings[r].unfreed < wxCqSize s r.val →
    blkOnline s (wxSqBase s r.val / 64 + s.wetex.rings[r].sqHead) = true →
    Answers (.descFetch r) s fun t =>
      ∃ d ∈ t.wetex.rings[r].act, d.idx = s.wetex.rings[r].sqHead ∧ d.disp = none ∧ d.running = false ∧
        (d.bad = true ↔ d.fin = some (wxDescErr, 0, 0))) ∧
  (∀ (r : Fin 64) (s : State), engineRuns s = true → s.therm.shut = false → s.wetex.rings[r].st = .active →
    s.wetex.rings[r].sqHead ≠ s.wetex.rings[r].sqTail → wxActive s < 1024 →
    s.wetex.rings[r].act.length + s.wetex.rings[r].unfreed < wxCqSize s r.val →
    blkOnline s (wxSqBase s r.val / 64 + s.wetex.rings[r].sqHead) = false → s.wetex.rings[r].act ≠ [] →
    Answers (.descFetch r) s fun t => t.wetex.rings[r].st = .stopped ∧ t.wetex.rings[r].stop = 1) ∧
  (∀ (r : Fin 64) (d : WxDesc) (s : State), nextPair s = some r → nextDesc s.wetex.rings[r] = some d → engineRuns s = true →
    csrFld s 0x090000 7 1 = 0 → epochWait s = false →
    Answers .descDispatch s fun t =>
      t.wetex.rr = r.val ∧
      ∃ e ∈ t.wetex.rings[r].act, e.idx = d.idx ∧ e.desc = d.desc ∧ e.disp = some s.wetex.order ∧
        e.fin = if descCheck s d = 0 then none else some (descCheck s d, 0, 0)) ∧
  (∀ (r : Fin 64) (idx : Nat) (d : WxDesc) (s : State), wxGet s r idx = some d → d.fin.isSome = true → engineRuns s = true →
    s.therm.shut = false → recordReady s r d = true →
    Answers (.completionRecord r idx) s fun t => ∀ e ∈ t.wetex.rings[r].act, e.idx ≠ idx)

/-- COPY ends with a status of 3 or less and RESULT the number of blocks; FILL and ZERO with OK and RESULT the number of
blocks; or each ends with OFFLINE and RESULT and DETAIL the number of blocks before the first it could not do. FILL whose
first block is offline changes neither DRAM nor a pseudo-channel. A pattern block repeats its 64 bits eight times. (R307 to
R309.) -/
def Obligations.WritingOpcodes : Prop :=
  (∀ (r : Fin 64) (idx : Nat) (d : WxDesc) (s : State), mayStart s 0x01 r idx d →
    Answers (.copy r idx) s fun t =>
      endedAs t r idx fun st res det =>
        (st ≤ 3 ∧ res = d.len) ∨ (st = wxOffline ∧ res = det ∧ det < d.len)) ∧
  (∀ (r : Fin 64) (idx : Nat) (d : WxDesc) (s : State), mayStart s 0x02 r idx d →
    Answers (.fill r idx) s fun t =>
      endedAs t r idx fun st res det =>
        (st = 0 ∧ res = d.len ∧ det = 0) ∨ (st = wxOffline ∧ res = det ∧ det < d.len)) ∧
  (∀ (r : Fin 64) (idx : Nat) (d : WxDesc) (s : State), mayStart s 0x05 r idx d →
    Answers (.zero r idx) s fun t =>
      endedAs t r idx fun st res det =>
        (st = 0 ∧ res = d.len ∧ det = 0) ∨ (st = wxOffline ∧ res = det ∧ det < d.len)) ∧
  (∀ (r : Fin 64) (idx : Nat) (d : WxDesc) (s : State), mayStart s 0x02 r idx d → 0 < d.len →
    blkOnline s (d.adrA / 64) = false →
    Answers (.fill r idx) s fun t =>
      t.dram = s.dram ∧ t.pcs = s.pcs ∧ endedAs t r idx fun st res det => st = wxOffline ∧ res = 0 ∧ det = 0) ∧
  (∀ (p i : Nat), p < 2 ^ 64 → i < 8 → bitsOf (patternBlock p).toNat (64 * i) 64 = p)

/-- CRC64, COMPARE, SCRUB_RANGE and POISON_CLEAR end after their range, at a difference (COMPARE, RESULT its byte offset), at
an unreadable block (CRC64, COMPARE, status 6) or at an offline block with DETAIL a count below the length; each with one of
the statuses named and RESULT within its bounds. The CRC-64 of the nine ASCII bytes 123456789 is 0x6C40DF5F0B497347. (R307,
R309, R310.) -/
def Obligations.ReadingOpcodes : Prop :=
  (∀ (r : Fin 64) (idx : Nat) (d : WxDesc) (s : State), mayStart s 0x03 r idx d →
    Answers (.crc64 r idx) s fun t =>
      endedAs t r idx fun st _ det =>
        (st ≤ 1 ∧ det = 0) ∨ ((st = 6 ∨ st = wxOffline) ∧ det < d.len)) ∧
  (∀ (r : Fin 64) (idx : Nat) (d : WxDesc) (s : State), mayStart s 0x04 r idx d →
    Answers (.compare r idx) s fun t =>
      endedAs t r idx fun st res det =>
        (st ≤ 1 ∧ res = 0 ∧ det = 0) ∨ (st = 4 ∧ res < 64 * d.len ∧ det = 0) ∨
        ((st = 6 ∨ st = wxOffline) ∧ res = 0 ∧ det < d.len)) ∧
  (∀ (r : Fin 64) (idx : Nat) (d : WxDesc) (s : State), mayStart s 0x06 r idx d →
    Answers (.scrubRange r idx) s fun t =>
      endedAs t r idx fun st res det =>
        (st ≤ 3 ∧ res = d.len) ∨ (st = wxOffline ∧ res = det ∧ det < d.len)) ∧
  (∀ (r : Fin 64) (idx : Nat) (d : WxDesc) (s : State), mayStart s 0x07 r idx d →
    Answers (.poisonClear r idx) s fun t =>
      endedAs t r idx fun st res det =>
        ((st = 0 ∨ st = 2) ∧ res ≤ d.len ∧ det = 0) ∨ (st = wxOffline ∧ res ≤ det ∧ det < d.len)) ∧
  crc64 0 [0x31, 0x32, 0x33, 0x34, 0x35, 0x36, 0x37, 0x38, 0x39] = 0x6C40DF5F0B497347

/-- EPOCH_ADVANCE is refused with 2 where ENGINE is no member and with 1 where its value is not the next; a value that must
wait is held and the descriptor runs on; else ENGINE passes the boundary and the descriptor ends with the value.
TIDEMARK_EXPORT is refused for an epoch open or no longer retained, else ends with the number of dirty granules or at an
offline block. TIDEMARK_CLEAR is refused for an open epoch (3) or one not retained (4); else, within its range of granules,
the cumulative map keeps exactly those of retained later epochs, and outside it all. JOURNAL_READ ends with the entries that
fitted or at an offline block. (R275, R285, R286, R313, R316.) -/
def Obligations.EpochAndJournalOpcodes : Prop :=
  (∀ (r : Fin 64) (idx : Nat) (d : WxDesc) (s : State), mayStart s 0x08 r idx d → isMember s 16 = false →
    Answers (.epochAdvance r idx) s fun t =>
      t.epochs = s.epochs ∧ endedAs t r idx fun st res det => st = wxRefused ∧ res = 0 ∧ det = 2) ∧
  (∀ (r : Fin 64) (idx : Nat) (d : WxDesc) (s : State), mayStart s 0x08 r idx d → isMember s 16 = true →
    d.opd 0 ≠ s.epochs.cur[16] + 1 →
    Answers (.epochAdvance r idx) s fun t =>
      t.epochs = s.epochs ∧ endedAs t r idx fun st res det => st = wxRefused ∧ res = 0 ∧ det = 1) ∧
  (∀ (r : Fin 64) (idx : Nat) (d : WxDesc) (s : State), mayStart s 0x08 r idx d → isMember s 16 = true →
    d.opd 0 = s.epochs.cur[16] + 1 → boundaryHeld s (d.opd 0) = true →
    Answers (.epochAdvance r idx) s fun t =>
      t.epochs.engHeld = some (d.opd 0, s.now) ∧ t.epochs.cur = s.epochs.cur ∧
      ∃ e, wxGet t r idx = some e ∧ e.running = true) ∧
  (∀ (r : Fin 64) (idx : Nat) (d : WxDesc) (s : State), mayStart s 0x08 r idx d → isMember s 16 = true →
    d.opd 0 = s.epochs.cur[16] + 1 → boundaryHeld s (d.opd 0) = false → d.opd 0 ≤ s.epochs.newest →
    Answers (.epochAdvance r idx) s fun t =>
      t.epochs.cur[16] = d.opd 0 ∧ t.epochs.newest = s.epochs.newest ∧
      endedAs t r idx fun st res det => st = 0 ∧ res = d.opd 0 ∧ det = 0) ∧
  (∀ (r : Fin 64) (idx : Nat) (d : WxDesc) (s : State), mayStart s 0x09 r idx d →
    Answers (.tidemarkExport r idx) s fun t =>
      endedAs t r idx fun st res det =>
        if (d.opd 1).testBit 0 = false ∧ exportRefused s (d.opd 0) ≠ 0 then
          st = wxRefused ∧ res = 0 ∧ det = exportRefused s (d.opd 0)
        else
          (st = 0 ∧ det = 0 ∧
            res = popc 21 (if (d.opd 1).testBit 0 then s.epochs.cum else epochBits s (d.opd 0))) ∨
          (st = wxOffline ∧ res = 0 ∧ det < 3072)) ∧
  (∀ (r : Fin 64) (idx : Nat) (d : WxDesc) (s : State), mayStart s 0x0A r idx d →
    epochOpen s (d.opd 0) = true ∨ s.epochs.newest < d.opd 0 ∨ d.opd 0 + 4 < s.epochs.newest →
    Answers (.tidemarkClear r idx) s fun t =>
      t.epochs = s.epochs ∧ endedAs t r idx fun st res det =>
        st = wxRefused ∧ res = 0 ∧ det = if epochOpen s (d.opd 0) then 3 else 4) ∧
  (∀ (r : Fin 64) (idx : Nat) (d : WxDesc) (s : State), mayStart s 0x0A r idx d → epochOpen s (d.opd 0) = false →
    d.opd 0 ≤ s.epochs.newest → s.epochs.newest ≤ d.opd 0 + 4 →
    Answers (.tidemarkClear r idx) s fun t =>
      (∀ g : Nat, t.epochs.cum.testBit g =
        if bitsOf (d.opd 1) 0 21 ≤ g ∧ g < bitsOf (d.opd 1) 0 21 + bitsOf (d.opd 2) 0 22 then
          s.epochs.maps.any fun m => decide (d.opd 0 < m.epoch) && m.bits.testBit g
        else s.epochs.cum.testBit g) ∧
      t.epochs.maps = s.epochs.maps ∧ endedAs t r idx fun st _ det => st = 0 ∧ det = 0) ∧
  (∀ (r : Fin 64) (idx : Nat) (d : WxDesc) (s : State), mayStart s 0x0D r idx d →
    Answers (.journalRead r idx) s fun t =>
      endedAs t r idx fun st _ det =>
        (st = 0 ∧ det % 2 ^ 17 ≤ d.len) ∨ (st = wxOffline ∧ det < d.len))

/-- REPAIR_SOFT starts the copy of its row and runs on, or is refused with the reason. PC_OFFLINE takes the pseudo-channel
offline with every bank closed, changes nothing where it is, and ends OK. PC_ONLINE of one in service ends OK and changes no
pseudo-channel; of another it ends OK where that is in service afterwards and else is refused with 5. DESC_FENCE ends OK when
its descriptor is the oldest of its pair and else waits. (R260, R312, R315.) -/
def Obligations.RepairAndChannelOpcodes : Prop :=
  (∀ (r : Fin 64) (idx : Nat) (d : WxDesc) (s : State), mayStart s 0x14 r idx d →
    repairBank s.pcs[pcFin (d.opd 0 % 64)] = none →
    Answers (.repairSoft r idx) s fun t =>
      if softRefused s (pcFin (d.opd 0 % 64)) (bitsOf (d.opd 0) 6 5) (bitsOf (d.opd 0) 11 16) = 0 then
        t.pcs[pcFin (d.opd 0 % 64)].banks[bankFin (bitsOf (d.opd 0) 6 5)].repair = some (bitsOf (d.opd 0) 11 16) ∧
        ∃ e, wxGet t r idx = some e ∧ e.running = true
      else
        t.pcs = s.pcs ∧ endedAs t r idx fun st res det =>
          st = wxRefused ∧ res = 0 ∧
          det = softRefused s (pcFin (d.opd 0 % 64)) (bitsOf (d.opd 0) 6 5) (bitsOf (d.opd 0) 11 16)) ∧
  (∀ (r : Fin 64) (idx : Nat) (d : WxDesc) (s : State), mayStart s 0x16 r idx d →
    Answers (.pcOffline r idx) s fun t =>
      (s.pcs[pcFin (d.opd 0 % 64)].mode ≠ .offline →
        t.pcs[pcFin (d.opd 0 % 64)].mode = .offline ∧ ∀ b : Fin 32, t.pcs[pcFin (d.opd 0 % 64)].banks[b].row = none) ∧
      (s.pcs[pcFin (d.opd 0 % 64)].mode = .offline → t.pcs = s.pcs) ∧
      endedAs t r idx fun st res det => st = 0 ∧ res = 0 ∧ det = 0) ∧
  (∀ (r : Fin 64) (idx : Nat) (sw : List LaneSweep) (d : WxDesc) (s : State), mayStart s 0x17 r idx d →
    s.pcs[pcFin (d.opd 0 % 64)].mode = .online →
    Answers (.pcOnline r idx sw) s fun t =>
      t.pcs = s.pcs ∧ endedAs t r idx fun st res det => st = 0 ∧ res = 0 ∧ det = 0) ∧
  (∀ (r : Fin 64) (idx : Nat) (sw : List LaneSweep) (d : WxDesc) (s : State), mayStart s 0x17 r idx d →
    s.pcs[pcFin (d.opd 0 % 64)].mode ≠ .online → s.transit.pcs.contains (d.opd 0 % 64) = false → s.fuse.lc ≠ 5 →
    Answers (.pcOnline r idx sw) s fun t =>
      endedAs t r idx fun st res det =>
        res = 0 ∧ if t.pcs[pcFin (d.opd 0 % 64)].mode = .online then st = 0 ∧ det = 0 else st = wxRefused ∧ det = 5) ∧
  (∀ (r : Fin 64) (idx : Nat) (d e : WxDesc) (rest : List WxDesc) (s : State), mayStart s 0x1F r idx d →
    s.wetex.rings[r].act = e :: rest →
    Answers (.descFence r idx) s fun t =>
      t.pcs = s.pcs ∧ t.dram = s.dram ∧
      if e.idx = idx then endedAs t r idx (fun st res det => st = 0 ∧ res = 0 ∧ det = 0) else t = s)

/-! ### Mirroring -/

/-- SYNC_WRITE, ASYNC_WRITE and RESYNC_DATA of a right form: a message that is not refused waits for apply in its channel and
no answer is queued; one that is refused is answered by one NACK with its window, WSEQ and code; DRAM keeps its contents.
(R389, R391.) -/
def Obligations.WriteMessages : Prop :=
  (∀ (vc : Fin 2) (c : Instr) (h : BitVec 256) (bs : List Block) (s : State), rxLive s = true →
    (c = .syncWrite h bs ∧ writeForm h bs 1 = true ∧ vc = 0 ∨ c = .asyncWrite h bs ∧ writeForm h bs 2 = true ∧ vc = 1 ∨
      c = .resyncData h bs ∧ writeForm h bs 10 = true ∧ vc = resyncVc s h bs) →
    Answers c s fun t =>
      if nackCode s h = 0 then
        t.mirror.apply[vc].map (fun m => (m.hdr, m.blocks)) = s.mirror.apply[vc].map (fun m => (m.hdr, m.blocks)) ++ [(h, bs)] ∧
        t.mirror.q = s.mirror.q ∧ t.dram = s.dram
      else
        t.mirror.apply = s.mirror.apply ∧ t.dram = s.dram ∧
        ∃ m, t.mirror.q[0] = s.mirror.q[0] ++ [m] ∧ hType m.hdr = 6 ∧ hWin m.hdr = hWin h ∧ hSeq m.hdr = hSeq h ∧
          hCode m.hdr = nackCode s h)

/-- MARK_MESSAGE changes nothing while receiving is off. With receiving on, apply idle and MIRROR a member, a MARK of the next
epoch that is open and not held makes it MIRROR's epoch; with apply busy the MARK waits behind. BARRIER is answered at once
where no earlier write of its window waits, and else waits. A message of a reserved type changes neither mirroring, DRAM,
epochs nor a pseudo-channel. (R386, R390, R399.) -/
def Obligations.MarksBarriersAndReservedTypes : Prop :=
  (∀ (h : BitVec 256) (s : State), rxLive s = true → hType h = 3 → csrFld s 0x0B0108 0 1 = 0 →
    Answers (.markMessage h) s fun t => t.epochs = s.epochs ∧ t.mirror = s.mirror) ∧
  (∀ (h : BitVec 256) (s : State), rxLive s = true → hType h = 3 → csrFld s 0x0B0108 0 1 = 1 → applyFree s = true →
    isMember s 17 = true → hEpoch h = s.epochs.cur[17] + 1 → boundaryHeld s (hEpoch h) = false →
    hEpoch h ≤ s.epochs.newest →
    Answers (.markMessage h) s fun t => t.epochs.cur[17] = hEpoch h ∧ t.mirror.apply = s.mirror.apply) ∧
  (∀ (h : BitVec 256) (s : State), rxLive s = true → hType h = 3 → csrFld s 0x0B0108 0 1 = 1 → applyFree s = false →
    Answers (.markMessage h) s fun t =>
      t.epochs = s.epochs ∧ t.mirror.apply[0].map (·.hdr) = s.mirror.apply[0].map (·.hdr) ++ [h]) ∧
  (∀ (h : BitVec 256) (s : State), rxLive s = true → hType h = 4 →
    Answers (.barrier h) s fun t =>
      if barrierReady s h then t.mirror.backs = s.mirror.backs ++ [(hWin h, hSeq h)] ∧ t.mirror.apply = s.mirror.apply
      else t.mirror.backs = s.mirror.backs ∧ t.mirror.apply[0].map (·.hdr) = s.mirror.apply[0].map (·.hdr) ++ [h]) ∧
  (∀ (h : BitVec 256) (s : State), rxLive s = true → reservedType (hType h) = true →
    Answers (.reservedMessage h) s fun t => t.mirror = s.mirror ∧ t.dram = s.dram ∧ t.epochs = s.epochs ∧ t.pcs = s.pcs)

/-- MIRROR_ACK of one entry moves the window's acknowledged number, and the writes up to it are outstanding and waited for no
more; for a window OFF or DIVERGED nothing changes. NACK of an outstanding message of a window IN_SYNC makes it DIVERGED with
reason 4 and nothing of it outstanding. BARRIER_ACK ends the barriers named and keeps the windows. SYNC_TIMEOUT, no earlier
than SYNC_TMO after the header left, makes the window DIVERGED with reason 3. (R391, R392, R394, R395, R399.) -/
def Obligations.AcknowledgementsAndDivergence : Prop :=
  (∀ (h : BitVec 256) (e : Nat × Nat) (s : State), rxLive s = true → hType h = 5 → hEntries h = [e] →
    s.mirror.resync = none →
    Answers (.mirrorAck h) s fun t =>
      if s.mirror.wins[winFin e.1].st = .inSync ∨ s.mirror.wins[winFin e.1].st = .resync then
        t.mirror.wins[winFin e.1].acked = e.2 ∧
        t.mirror.outs = s.mirror.outs.filter (fun o => !(decide (o.win = e.1) && seqLe o.wseq e.2)) ∧
        t.mirror.waits = s.mirror.waits.filter fun x => !(decide (x.win = e.1) && seqLe x.wseq e.2)
      else t.mirror = s.mirror) ∧
  (∀ (h : BitVec 256) (s : State), rxLive s = true → hType h = 6 → s.mirror.resync = none →
    s.mirror.outs.any (fun o => decide (o.win = hWin h ∧ o.wseq = hSeq h)) = true →
    s.mirror.wins[winFin (hWin h)].st = .inSync →
    Answers (.nack h) s fun t =>
      t.mirror.wins[winFin (hWin h)].st = .diverged ∧ t.mirror.wins[winFin (hWin h)].reason = 4 ∧
      ∀ o ∈ t.mirror.outs, o.win ≠ hWin h) ∧
  (∀ (h : BitVec 256) (s : State), rxLive s = true → hType h = 7 →
    Answers (.barrierAck h) s fun t =>
      t.mirror.outs = s.mirror.outs.filter (fun o => !(hEntries h).contains (o.win, o.wseq)) ∧
      t.mirror.wins = s.mirror.wins) ∧
  (∀ (w : Fin 64) (at_ : Nat) (s : State), syncSent s w.val = some at_ → s.mirror.resync = none →
    s.mirror.wins[w].st = .inSync →
    Answers (.syncTimeout w) s fun t =>
      at_ + syncTmo s ≤ t.now ∧ t.mirror.wins[w].st = .diverged ∧ t.mirror.wins[w].reason = 3)

/-- PULL_REQ is answered by PULL_DATA with its number and window, or by a NACK with its code. PULL_DATA without data counts
its blocks missing and changes no DRAM, and the last one ends the pull. MIRROR_PULL is refused with 1 while the link is down
and with 2 for a window OFF; else its first PULL_REQ is queued with the next tag. MIRROR_RESYNC is refused with its reason; a
window with no dirty granule in its range and nothing outstanding is IN_SYNC at once. (R391, R400 to R402.) -/
def Obligations.PullAndResync : Prop :=
  (∀ (h : BitVec 256) (s : State), rxLive s = true → hType h = 8 → hLen h < 3 →
    Answers (.pullReq h) s fun t =>
      if nackCode s h = 0 then ∃ m ∈ t.mirror.q[1], hType m.hdr = 9 ∧ hSeq m.hdr = hSeq h ∧ hWin m.hdr = hWin h
      else ∃ m ∈ t.mirror.q[0], hType m.hdr = 6 ∧ hSeq m.hdr = hSeq h ∧ hCode m.hdr = nackCode s h) ∧
  (∀ (h : BitVec 256) (j : PullJob) (q : PullReq) (s : State), rxLive s = true → hType h = 9 → hLen h < 3 → hCode h ≠ 0 →
    s.mirror.pull = some j → j.reqs = [q] → q.tag = hSeq h →
    Answers (.pullData h []) s fun t =>
      t.dram = s.dram ∧
      (lenBlocks (hLen h) < q.left → t.mirror.pull = some { j with
        missing := j.missing + lenBlocks (hLen h), reqs := [{ q with left := q.left - lenBlocks (hLen h) }] }) ∧
      (q.left ≤ lenBlocks (hLen h) → j.stop ≤ j.next → t.mirror.pull = none)) ∧
  (∀ (r : Fin 64) (idx : Nat) (d : WxDesc) (s : State), mayStart s 0x0C r idx d → s.mirror.pull = none →
    linkUpNow s = false ∨ s.mirror.wins[winFin (d.opd 0 % 64)].st = .off →
    Answers (.mirrorPull r idx) s fun t =>
      t.mirror = s.mirror ∧
      endedAs t r idx fun st res det => st = wxRefused ∧ res = 0 ∧ det = if linkUpNow s then 2 else 1) ∧
  (∀ (r : Fin 64) (idx : Nat) (d : WxDesc) (s : State), mayStart s 0x0C r idx d → s.mirror.pull = none → linkUpNow s = true →
    s.mirror.wins[winFin (d.opd 0 % 64)].st ≠ .off → 0 < d.len → blkOnline s (d.adrA / 64) = true →
    Answers (.mirrorPull r idx) s fun t =>
      (∃ m, t.mirror.q[0] = s.mirror.q[0] ++ [m] ∧ hType m.hdr = 8 ∧ hSeq m.hdr = s.mirror.pullTag % 2 ^ 32) ∧
      ∃ j q, t.mirror.pull = some j ∧ j.reqs = [q] ∧ j.idx = idx ∧ q.blk = d.adrA / 64 ∧ q.tag = s.mirror.pullTag ∧
        j.next = d.adrA / 64 + q.left ∧ q.left ≤ d.len ∧ q.blk % q.left = 0) ∧
  (∀ (r : Fin 64) (idx : Nat) (d : WxDesc) (s : State), mayStart s 0x0B r idx d → s.mirror.resync = none →
    resyncRefused s (d.opd 0) ≠ 0 →
    Answers (.mirrorResync r idx) s fun t =>
      t.mirror = s.mirror ∧
      endedAs t r idx fun st res det => st = wxRefused ∧ res = 0 ∧ det = resyncRefused s (d.opd 0)) ∧
  (∀ (r : Fin 64) (idx : Nat) (w : Fin 64) (d : WxDesc) (s : State), mayStart s 0x0B r idx d → s.mirror.resync = none →
    d.opd 0 = 2 ^ w.val → (d.opd 1).testBit 0 = false → resyncRefused s (d.opd 0) = 0 → s.mirror.outs = [] →
    (∀ g : Nat, winBase s w.val ≤ g → g < winBase s w.val + winLen s w.val → s.epochs.cum.testBit g = false) →
    winLen s w.val < 2 ^ 21 → s.therm.shut = false →
    Answers (.mirrorResync r idx) s fun t =>
      t.mirror.wins[w].st = .inSync ∧ t.mirror.resync = none ∧
      endedAs t r idx fun st res det => st = 0 ∧ res = 0 ∧ det = 0)

/-- APPLY_WRITE of a ready message puts its write into its pseudo-channel's queue and acknowledges it; one that is refused by
now is answered by a NACK and changes no DRAM. MIRROR_MESSAGE_SEND on VC0 sends up to five acknowledgements; on VC1 it sends
the message whose turn it is, whole. BACKLOG_READ moves the oldest backlog message to VC1's queue. WINDOW_SET_ASYNC and
WINDOW_SET_SYNC of a window OFF with a right range make it DIVERGED, or IN_SYNC where ASSUME_SYNC is written. WINDOW_SET_OFF
makes it OFF with nothing outstanding or waited for. (R383, R384, R389, R390, R393, R397.) -/
def Obligations.ApplySendAndWindows : Prop :=
  (∀ (vc : Fin 2) (m : Msg) (rest : List Msg) (s : State), s.mirror.apply[vc] = m :: rest → s.epochs.mirHeld = none →
    flood s = true → hType m.hdr ≠ 3 → hType m.hdr ≠ 4 → nackCode s m.hdr = 0 → applyReady s m.hdr = true →
    Answers (.applyWrite vc) s fun t =>
      t.mirror.apply[vc] = rest ∧ (hWin m.hdr, hSeq m.hdr) ∈ t.mirror.acks ∧
      ∃ e ∈ t.pcs[pcFin (coordOf s.dram.mapActive (hBlk m.hdr)).pc].queue,
        e.id = s.nextId ∧ e.src = .apply ∧ e.kind = .wr ∧ e.blk = hBlk m.hdr ∧ e.data = m.blocks) ∧
  (∀ (vc : Fin 2) (m : Msg) (rest : List Msg) (s : State), s.mirror.apply[vc] = m :: rest → s.epochs.mirHeld = none →
    flood s = true → hType m.hdr ≠ 3 → hType m.hdr ≠ 4 → nackCode s m.hdr ≠ 0 →
    Answers (.applyWrite vc) s fun t =>
      t.mirror.apply[vc] = rest ∧ t.dram = s.dram ∧
      ∃ k, t.mirror.q[0] = s.mirror.q[0] ++ [k] ∧ hType k.hdr = 6 ∧ hSeq k.hdr = hSeq m.hdr ∧ hCode k.hdr = nackCode s m.hdr) ∧
  (∀ s : State, rxLive s = true → s.chrosy.txq[(0 : Fin 2)] = [] → 0 < s.chrosy.credits[(0 : Fin 2)] → s.mirror.acks ≠ [] →
    Answers (.mirrorMessageSend 0) s fun t =>
      t.mirror.acks = s.mirror.acks.drop 5 ∧ t.mirror.q = s.mirror.q ∧
      t.chrosy.txq[(0 : Fin 2)].map (·.payload) = [ackHdr 5 (s.mirror.acks.take 5)]) ∧
  (∀ (m : Msg) (s : State), rxLive s = true → s.chrosy.txq[(1 : Fin 2)] = [] → 0 < s.chrosy.credits[(1 : Fin 2)] →
    s.mirror.q[1] = [m] → msgTurn s 1 m = true → s.mirror.resync = none →
    Answers (.mirrorMessageSend 1) s fun t =>
      t.mirror.q[1] = [] ∧ t.mirror.outs = s.mirror.outs ∧
      t.chrosy.txq[(1 : Fin 2)].map (·.payload) = msgFrames m.hdr m.blocks) ∧
  (∀ (m : Msg) (rest : List Msg) (s : State), s.mirror.backlog = m :: rest → s.mirror.q[1].length < 256 →
    0 < s.chrosy.credits[(1 : Fin 2)] → s.mirror.resync = none →
    Answers .backlogRead s fun t => t.mirror.backlog = rest ∧ t.mirror.q[1] = s.mirror.q[1] ++ [{ m with cellsAt := [] }] ∧
      t.mirror.q[0] = s.mirror.q[0]) ∧
  (∀ (path : Path) (w : Fin 64) (v : Word) (c : Instr) (s : State), quietPath s path → chrosyOn s = true →
    winExists s w.val = true → keeperUp s = true → s.mirror.waitSet = [] → winMode s w.val = 0 → winOk s w.val = true →
    (c = .windowSetAsync path w v ∧ bitsOf v.toNat 0 2 = 1 ∨ c = .windowSetSync path w v ∧ bitsOf v.toNat 0 2 = 2) →
    Answers c s fun t =>
      winMode t w.val = bitsOf v.toNat 0 2 ∧ t.mirror.wins[w].st = (if v.getLsbD 2 then .inSync else .diverged) ∧
      t.mirror.wins[w].reason = 0 ∧ t.mirror.q = s.mirror.q) ∧
  (∀ (path : Path) (w : Fin 64) (v : Word) (s : State), quietPath s path → chrosyOn s = true →
    winExists s w.val = true → keeperUp s = true → s.mirror.waitSet = [] → winMode s w.val ≠ 0 → bitsOf v.toNat 0 2 = 0 →
    s.mirror.resync = none →
    Answers (.windowSetOff path w v) s fun t =>
      winMode t w.val = 0 ∧ t.mirror.wins[w].st = .off ∧ (∀ o ∈ t.mirror.outs, o.win ≠ w.val) ∧
      ∀ x ∈ t.mirror.waits, x.win ≠ w.val)

/-! ### Chrosy -/

/-- CHROSY_BLOCK_START begins one block no earlier than the block before it has ended; without frames to send queues and
replay buffer stay, and new frames leave each queue in order against one credit each. CHROSY_BLOCK_RECEIVED with an unreadable
control header is counted and changes no receive state. A block with one frame of the expected number: a frame whose check
passes is received in its channel and owed an acknowledgement; one whose check fails is discarded, and asked for once. (R360
to R364, R367.) -/
def Obligations.ChrosyBlocks : Prop :=
  (∀ s : State, linkOn s = true →
    Answers .chrosyBlockStart s fun t =>
      t.chrosy.blocks = s.chrosy.blocks + 1 ∧ t.chrosy.startAt = t.now ∧
      (s.chrosy.blocks ≠ 0 → s.chrosy.startAt + blockTime (txLanes s).length ≤ t.now) ∧
      (txFrames? s = false → t.chrosy.txq = s.chrosy.txq ∧ t.chrosy.replay = s.chrosy.replay) ∧
      (txFrames? s = true → s.chrosy.resend = none → ∀ vc : Fin 2, ∃ k, k ≤ s.chrosy.credits[vc] ∧
        t.chrosy.txq[vc] = s.chrosy.txq[vc].drop k ∧ t.chrosy.credits[vc] = s.chrosy.credits[vc] - k)) ∧
  (∀ (cs : List ChrChar) (fs : List (BitVec 288)) (s : State), linkOn s = true → ctlHeader s cs = none →
    Answers (.chrosyBlockReceived cs fs) s fun t =>
      csrGet t 0x0B0014 = satAdd 0xFFFFFFFF (csrGet s 0x0B0014) 1 ∧ t.chrosy.rxNext = s.chrosy.rxNext ∧
      t.chrosy.rxq = s.chrosy.rxq ∧ t.chrosy.lastBlock = s.chrosy.lastBlock) ∧
  (∀ (cs : List ChrChar) (f : BitVec 288) (vc : Fin 2) (s : State), linkUpNow s = true →
    ctlHeader s cs = some (s.chrosy.rxNext, 1 - vc.val, vc.val) → s.chrosy.degr = none →
    Answers (.chrosyBlockReceived cs [f]) s fun t =>
      t.chrosy.lastBlock = s.now ∧
      if crc32c (s.chrosy.rxNext :: vc.val :: bytesOf 32 (bitsOf f.toNat 0 256)) = bitsOf f.toNat 256 32 then
        t.chrosy.rxNext = (s.chrosy.rxNext + 1) % 256 ∧ t.chrosy.ackDue = true ∧ t.chrosy.discarding = false ∧
        t.chrosy.rxq[vc] = s.chrosy.rxq[vc] ++ [BitVec.ofNat 256 (bitsOf f.toNat 0 256)]
      else
        t.chrosy.rxNext = s.chrosy.rxNext ∧ t.chrosy.rxq = s.chrosy.rxq ∧ t.chrosy.discarding = true ∧
        (s.chrosy.discarding = false → t.chrosy.nakDue = true))

/-- DEGRADE of a pair drops it from the transmit width and keeps the replay buffer. LINK_DOWN of the partner brings the link
to SEEK with reason 5, an empty replay buffer and no credit. CHROSY_ALIGNED with four lanes or more enters ALIGN at that
width. SEEK_TIMEOUT counts an attempt, 20 ms after the last. CHROSY_LANE_FAILED drops the lane's pair from the receive width,
or loses the link on the forwarded clock or below four lanes. DEGRADE_REPEAT repeats up to four times each 1 us and then loses
the link. CHROSY_NO_BLOCK_TIMEOUT and CHROSY_STALL_TIMEOUT lose the link 1 us after the last block and 100 us after the last
progress. (R373, R374, R376, R377.) -/
def Obligations.ChrosyDegradationAndLoss : Prop :=
  (∀ (pair : BitVec 4) (s : State), linkUpNow s = true → pair.toNat < 4 → 4 < s.chrosy.txW →
    s.chrosy.txDropped.testBit pair.toNat = false →
    Answers (.degrade pair) s fun t =>
      t.chrosy.st = .degrade ∧ t.chrosy.txW = s.chrosy.txW - 2 ∧ t.chrosy.txDropped.testBit pair.toNat = true ∧
      t.chrosy.txDegr = some pair.toNat ∧ t.chrosy.replay = s.chrosy.replay) ∧
  (∀ (reason : BitVec 4) (s : State), linkUpNow s = true →
    Answers (.linkDown reason) s fun t =>
      t.chrosy.st = .seek ∧ t.chrosy.downReason = 5 ∧ t.chrosy.replay = [] ∧ t.chrosy.credits = #v[0, 0]) ∧
  (∀ (good : BitVec 4) (s : State), s.chrosy.st = .seek → 4 ≤ lanesLeft (15 - good.toNat) →
    Answers (.chrosyAligned good) s fun t =>
      t.chrosy.st = .align ∧ t.chrosy.rxW = lanesLeft (15 - good.toNat) ∧ t.chrosy.rxDropped = 15 - good.toNat) ∧
  (∀ (good : Nat) (s : State), s.chrosy.st = .seek ∨ s.chrosy.st = .align →
    Answers (.seekTimeout good) s fun t =>
      t.chrosy.st = .seek ∧ t.chrosy.attempts = s.chrosy.attempts + 1 ∧ s.chrosy.seekAt + 32000000 ≤ t.now) ∧
  (∀ (lane : Fin 9) (cause : Fin 5) (s : State), linkUpNow s = true → 0 < cause.val → laneUsed s lane.val = true →
    s.chrosy.lanes[lane].failed = false → s.chrosy.degr = none →
    Answers (.chrosyLaneFailed lane cause) s fun t =>
      if lane.val = 8 ∨ s.chrosy.rxW ≤ 4 then
        t.chrosy.st = .seek ∧ t.chrosy.downReason = if lane.val = 8 then 2 else 4
      else
        t.chrosy.st = .degrade ∧ t.chrosy.rxW = s.chrosy.rxW - 2 ∧ t.chrosy.rxDropped.testBit (lane.val / 2) = true ∧
        t.chrosy.lanes[lane].failed = true) ∧
  (∀ (pair since n : Nat) (s : State), s.chrosy.degr = some (pair, since, n) → s.chrosy.degrAnswered = false →
    linkUpNow s = true →
    Answers .degradeRepeat s fun t =>
      since + 1600 ≤ t.now ∧
      if n < 4 then t.chrosy.degr = some (pair, t.now, n + 1) ∧ t.chrosy.st = s.chrosy.st
      else t.chrosy.st = .seek ∧ t.chrosy.downReason = 2) ∧
  (∀ s : State, linkUpNow s = true →
    Answers .chrosyNoBlockTimeout s fun t =>
      t.chrosy.st = .seek ∧ t.chrosy.downReason = 2 ∧ s.chrosy.lastBlock + 1600 ≤ t.now) ∧
  (∀ s : State, linkUpNow s = true → s.chrosy.replay ≠ [] →
    Answers .chrosyStallTimeout s fun t =>
      t.chrosy.st = .seek ∧ t.chrosy.downReason = 3 ∧ s.chrosy.progressAt + 160000 ≤ t.now)

/-- CHROSY_ACK frees the replay buffer through the frame named; CHROSY_NAK also resends from the next. CHROSY_CREDIT adds
credits, at most 256. HEARTBEAT keeps the partner's state and time, and a change issues an SSN where the series is decided.
ALIGN_NEXT awaits markers. ALIGN_OK and LINK_UP during bring-up record the partner's progress, and the link is UP when both
have come; LINK_UP in ALIGN starts numbering at zero with 256 credits each. CHROSY_ADAPT_TICK of one lane keeps its figures,
moves its CTLE by one step at most and touches no other lane. CHROSY_ENABLE from DOWN enters SEEK; CHROSY_DISABLE brings the
link DOWN with reason 1. (R365 to R375, R378 to R380.) -/
def Obligations.ChrosySlotsAndControl : Prop :=
  (∀ (f : Byte) (s : State), fsnHeld s f.toNat = true →
    Answers (.chrosyAck f) s fun t =>
      t.chrosy.replay = (s.chrosy.replay.dropWhile fun g => decide (g.fsn ≠ f.toNat)).drop 1 ∧ t.chrosy.progressAt = s.now) ∧
  (∀ (f : Byte) (s : State), fsnHeld s f.toNat = true →
    Answers (.chrosyNak f) s fun t =>
      t.chrosy.replay = (s.chrosy.replay.dropWhile fun g => decide (g.fsn ≠ f.toNat)).drop 1 ∧
      t.chrosy.resend = ((s.chrosy.replay.dropWhile fun g => decide (g.fsn ≠ f.toNat)).drop 1).head?.map (·.fsn)) ∧
  (∀ (vc : Fin 2) (n : Byte) (s : State), linkUpNow s = true → 0 < n.toNat →
    Answers (.chrosyCredit vc n) s fun t =>
      t.chrosy.credits = s.chrosy.credits.set vc (min 256 (s.chrosy.credits[vc] + n.toNat)) ∧ t.chrosy.txq = s.chrosy.txq) ∧
  (∀ (x : Byte) (s : State), linkOn s = true →
    Answers (.heartbeat x) s fun t =>
      t.chrosy.hb = x.toNat ∧ t.chrosy.hbAt = some s.now ∧ t.chrosy.st = s.chrosy.st ∧
      (s.chrosy.hb ≠ x.toNat → s.seq.decided = true → s.seq.next < t.seq.next)) ∧
  (∀ (w : BitVec 4) (s : State), linkOn s = true →
    Answers (.alignNext w) s fun t => t.chrosy.rxMarker = true ∧ t.chrosy.st = s.chrosy.st) ∧
  (∀ (w : BitVec 4) (s : State), 1 ≤ w.toNat → w.toNat ≤ 3 → s.chrosy.st = .seek ∨ s.chrosy.st = .align →
    Answers (.alignOk w) s fun t =>
      t.chrosy.rcvOk = true ∧ t.chrosy.txW = codeWidth w.toNat ∧
      t.chrosy.st = if s.chrosy.st = .align ∧ s.chrosy.rcvUp = true then .up else s.chrosy.st) ∧
  (∀ s : State, s.chrosy.st = .seek ∨ s.chrosy.st = .align →
    Answers .linkUp s fun t =>
      if s.chrosy.st = .align ∧ s.chrosy.rcvOk = true then
        t.chrosy.st = .up ∧ t.chrosy.credits = #v[256, 256] ∧ t.chrosy.nextFsn = 0 ∧ t.chrosy.rxNext = 0 ∧
        t.chrosy.replay = [] ∧ csrGet t 0x0B001C = satAdd 0xFFFFFFFF (csrGet s 0x0B001C) 1
      else t.chrosy.rcvUp = true ∧ t.chrosy.st = s.chrosy.st) ∧
  (∀ (a : ChrAdapt) (l : Fin 9) (s : State), linkOn s = true → a.lane = l.val →
    Answers (.chrosyAdaptTick [a]) s fun t =>
      t.chrosy.lanes[l].eye = min 255 a.eye ∧ t.chrosy.lanes[l].ber = min 18 a.berExp ∧ t.chrosy.lanes[l].locked = true ∧
      t.chrosy.lanes[l].ctle ≤ s.chrosy.lanes[l].ctle + 1 ∧ s.chrosy.lanes[l].ctle ≤ t.chrosy.lanes[l].ctle + 1 ∧
      ∀ k : Fin 9, k ≠ l → t.chrosy.lanes[k] = s.chrosy.lanes[k]) ∧
  (∀ (path : Path) (v : Word) (s : State), quietPath s path → chrosyOn s = true → v.getLsbD 0 = true → s.chrosy.st = .down →
    microcodeOk s = true → s.stack.ready = true →
    Answers (.chrosyEnable path v) s fun t =>
      t.chrosy.st = .seek ∧ t.chrosy.attempts = 0 ∧ csrGet t 0x0B0000 = 1) ∧
  (∀ (path : Path) (v : Word) (s : State), quietPath s path → chrosyOn s = true → v.getLsbD 0 = false → linkUpNow s = true →
    Answers (.chrosyDisable path v) s fun t =>
      t.chrosy.st = .down ∧ t.chrosy.downReason = 1 ∧ csrGet t 0x0B0000 = 0)

/-- PFAIL_DETECT, DROOP_DETECT with the droop detector on, and SEAL bring the stack to Low Water with the Keeper off and READY
clear. A drain that completed no step leaves seal and DRAM; one cut before step 5 leaves the seal TORN with its cause; from
step 5 on it is CLEAN; a whole one keeps its supplies and shows RETAIN. SEAL drains whole with cause SEAL. How far a drain
gets is an operand of the command (the model's choice, log entry 16). (R412, R416, R419 to R421.) -/
def Obligations.DrainAndSeal : Prop :=
  (∀ (k : Fin 8) (cause : Nat) (c : Instr) (s : State), s.power.phase = .service → s.power.armed = true →
    (c = .pfailDetect k ∧ cause = 0 ∨ c = .droopDetect k ∧ cause = 1 ∧ csrFld s 0x0C0100 0 1 = 1) →
    Answers c s fun t =>
      t.power.phase = .lowWater ∧ t.stack.ready = false ∧ t.stack.keeper = .off ∧ t.power.drained = k.val ∧
      (k.val = 0 → t.power.lwSeal = s.power.lwSeal ∧ t.dram = s.dram) ∧
      (1 ≤ k.val → t.power.lwSeal.state = (if k.val < 5 then 1 else 2) ∧ t.power.lwSeal.cause = cause) ∧
      t.power.coreLost = decide (k.val < 7) ∧ (k.val = 7 → t.power.lwstat = 1)) ∧
  (∀ (r : Fin 64) (idx : Nat) (d : WxDesc) (s : State), mayStart s 0x18 r idx d →
    Answers (.seal r idx) s fun t =>
      t.power.phase = .lowWater ∧ t.stack.ready = false ∧ t.power.drained = 7 ∧ t.power.lwSeal.state = 2 ∧
      t.power.lwSeal.cause = 2 ∧ t.power.coreLost = false)

/-! ### Power -/

/-- LOW_POWER_ENTRY of an idle stack enters NEAP after its hysteresis, or begins the deeper state allowed.
LOW_POWER_ENTRY_DONE enters it with every pseudo-channel offline or in self-refresh. WAKE of a cause that applies begins the
exit and is kept; WAKE_DONE ends it no earlier than the exit latency, counts it, and no pseudo-channel is in self-refresh.
LANTERN_RAIL_FAULT in Low Water makes a TORN or CLEAN seal INVALID with the rails named. VDD_CORE_LOSS in service stops the
stack, keeps seal and DRAM. VLAN_LOSS loses the seal, the progress record and the write-intent ring. REFCLK_LOSS is declared
once and issues an SSN where the series is decided. PFAIL_DETECT_ARM arms detection at its time. (R407 to R411, R421, R429,
R448, R553, R558.) -/
def Obligations.PowerStatesAndSupplies : Prop :=
  (∀ s : State, powerFree s = true → idle s = true → deeper s = [1] → s.power.low = 0 →
    Answers .lowPowerEntry s fun t =>
      t.power.low = 1 ∧ t.power.target = none ∧ s.now + hystCclk s 1 ≤ t.now ∧ t.pcs = s.pcs) ∧
  (∀ (k : Nat) (s : State), powerFree s = true → idle s = true → deeper s = [k] → k ≠ 1 → s.power.low = 0 →
    Answers .lowPowerEntry s fun t => t.power.target = some k ∧ t.power.low = 0 ∧ s.now + hystCclk s k ≤ t.now) ∧
  (∀ (k : Nat) (s : State), s.power.target = some k → s.power.exiting = false → s.power.failing = false →
    Answers .lowPowerEntryDone s fun t =>
      t.power.low = k ∧ t.power.target = none ∧ t.power.lowAt = t.now ∧
      ∀ n : Pc, t.pcs[n].mode = .offline ∨ t.pcs[n].mode = .selfRefresh) ∧
  (∀ (cause : Fin 7) (s : State), 0 < lowOrTarget s → s.power.exiting = false → s.power.failing = false →
    wakeCause s (lowOrTarget s) cause.val = true →
    Answers (.wake cause) s fun t =>
      t.power.exiting = true ∧ t.power.target = none ∧ t.power.lastWake = cause.val ∧ t.power.low = s.power.low ∧
      t.power.wakeFrom = lowOrTarget s) ∧
  (∀ s : State, s.power.exiting = true → s.power.failing = false →
    Answers .wakeDone s fun t =>
      t.power.low = 0 ∧ t.power.exiting = false ∧ s.power.wakeAt + exitCclk s.power.wakeFrom ≤ t.now ∧
      csrGet t 0x0C002C = satAdd 0xFFFFFFFF (csrGet s 0x0C002C) 1 ∧ ∀ n : Pc, t.pcs[n].mode ≠ .selfRefresh) ∧
  (∀ (d p : Bool) (s : State), s.power.phase = .lowWater → s.power.lantern = true → d = true ∨ p = true →
    s.power.lwSeal.state = 1 ∨ s.power.lwSeal.state = 2 →
    Answers (.lanternRailFault d p) s fun t =>
      t.power.lwSeal = { s.power.lwSeal with state := 3, rails := s.power.lwSeal.rails ||| (b2n d + 2 * b2n p) } ∧
      t.power.lwstat = 2 ∧ t.dram = s.dram) ∧
  (∀ s : State, s.power.phase = .service →
    Answers .vddCoreLoss s fun t =>
      t.power.phase = .lowWater ∧ t.power.coreLost = true ∧ t.stack.ready = false ∧ t.stack.keeper = .off ∧
      t.power.lwSeal = s.power.lwSeal ∧ t.dram.mem = s.dram.mem) ∧
  (∀ s : State,
    Answers .vlanLoss s fun t =>
      t.power.lantern = false ∧ t.power.lwSeal = {} ∧ t.power.progress = none ∧ t.power.ring = Vector.replicate 256 none ∧
      t.dram = s.dram) ∧
  (∀ (code : Nat) (s : State), corePowered s = true → s.start.refclkLost = false → 1 ≤ code → code ≤ 3 →
    Answers (.refclkLoss code) s fun t =>
      t.start.refclkLost = true ∧ t.power = s.power ∧ t.dram = s.dram ∧ (s.seq.decided = true → s.seq.next < t.seq.next)) ∧
  (∀ (at_ : Nat) (s : State), s.start.armAt = some at_ → s.power.armed = false → corePowered s = true → s.start.kind = 2 →
    Answers .pfailDetectArm s fun t => t.power.armed = true ∧ t.start.armAt = none ∧ at_ ≤ t.now)

/-! ### Starts and resets -/

/-- POWER_GOOD begins a start at step 1 with the strap sampled, the seal checked, no staging and no tag; with the seal EMPTY
or INVALID, a wipe asked for or the wipe key lost memory is wiped and the seal cleared, and else both are kept.
PFAIL_RECOVERED after a whole drain begins a start 9 ms later. FUSE_SENSE_DONE latches the life cycle, decides the series and
enters step 2. KEEPER_BOOT_DONE with both images bootable and Chrosy off starts the Keeper and the QUICK run; with no bootable
Keeper image the start halts and memory and seal are kept. START_RELEASE sets READY with the seal EMPTY; with a fatal crossing
group the start halts (log entries 57 and 61). (R425 to R428, R438, R441 to R445.) -/
def Obligations.StartSequence : Prop :=
  (∀ (strap : BitVec 3) (s : State), powerAway s = true →
    Answers (.powerGood strap) s fun t =>
      t.power.phase = .starting ∧ t.start.step = 1 ∧ t.start.strap = strap.toNat ∧ t.stack.ready = false ∧
      t.power.sealCheck = sealCheckOf s ∧ (∀ p : Port, t.ports[p].tags = [] ∧ t.ports[p].staging = []) ∧
      if sealCheckOf s = 0 ∨ sealCheckOf s = 3 ∨ wipeNext s = true ∨ s.start.keyOk = false then
        t.start.wiped = true ∧ t.dram.mem = [] ∧ t.epochs = {} ∧ t.power.lwSeal = {}
      else
        t.start.wiped = false ∧ t.dram.mem = s.dram.mem ∧ t.power.lwSeal = s.power.lwSeal) ∧
  (∀ s : State, s.power.phase = .lowWater → s.power.coreLost = false → s.power.drained = 7 → s.power.lwSeal.cause ≠ 2 →
    Answers .pfailRecovered s fun t =>
      t.power.phase = .starting ∧ t.start.step = 1 ∧ t.start.strap = s.start.strap ∧ s.now + 14400000 ≤ t.now) ∧
  (∀ (drift : List FuseReading) (s : State), s.power.phase = .starting → s.start.step = 1 →
    Answers (.fuseSenseDone drift) s fun t =>
      t.start.step = 2 ∧ t.fuse.lc = lcOf t.fuse.arr ∧ t.fuse.arr = putReadings s.fuse.arr drift ∧ t.seq.decided = true ∧
      t.start.lcSeen = some t.fuse.lc) ∧
  (∀ s : State, s.power.phase = .starting → s.start.step = 2 → bootOk s 0 (activeIdx s 0) = true →
    bootOk s 1 (activeIdx s 1) = true → chrosyOn s = false →
    Answers (.keeperBootDone true) s fun t =>
      t.stack.keeper = .running ∧ t.start.step = 3 ∧ t.transit.running = true ∧ t.transit.quick = true) ∧
  (∀ (ok : Bool) (s : State), s.power.phase = .starting → s.start.step = 2 → bootOk s 0 (activeIdx s 0) = false →
    bootOk s 0 (1 - activeIdx s 0) = false →
    Answers (.keeperBootDone ok) s fun t => t.power.phase = .halted ∧ t.dram = s.dram ∧ t.power.lwSeal = s.power.lwSeal) ∧
  (∀ (msec : Nat) (s : State), mayRelease s = true → s.train.xingFatal = false →
    Answers (.startRelease msec) s fun t =>
      t.stack.ready = true ∧ t.power.phase = .service ∧ t.power.lwSeal = {} ∧ t.power.progress = none ∧
      t.start.startMs = min 65535 msec) ∧
  (∀ (msec : Nat) (s : State), mayRelease s = true → s.train.xingFatal = true →
    Answers (.startRelease msec) s fun t =>
      t.power.phase = .halted ∧ t.stack.ready = s.stack.ready ∧ t.power.lwSeal = s.power.lwSeal ∧ t.dram = s.dram)

/-- R445: whatever command sets READY, in the state it leaves the seal is EMPTY. VDD_CORE_LOSS in service with the seal EMPTY,
a loss of power not detected, leaves it EMPTY. POWER_GOOD after it, with the seal EMPTY, wipes DRAM. -/
def Obligations.SealIsEmptyFromReadyOn : Prop :=
  (∀ (c : Instr) (s t : State), s.stack.ready = false → exec c s = .next t → t.stack.ready = true → t.power.lwSeal.state = 0) ∧
  (∀ s : State, s.power.phase = .service → s.power.lwSeal.state = 0 →
    Answers .vddCoreLoss s fun t => t.power.lwSeal.state = 0 ∧ t.power.phase = .lowWater ∧ t.power.coreLost = true) ∧
  (∀ (strap : BitVec 3) (s : State), s.power.phase = .lowWater → s.power.coreLost = true → s.power.lwSeal.state = 0 →
    Answers (.powerGood strap) s fun t => t.start.wiped = true ∧ t.dram.mem = [] ∧ t.dram.written = [])

/-- PRST_ASSERT in service quiesces and holds the stack, the seal TORN before step 5 and CLEAN from it on. HRST_ASSERT holds
it without a quiesce, counts the queued writes as lost and disarms power-fail detection. LOGIC_RESET_RELEASE, no earlier than
the hold allows, begins a start of its kind at step 2 with memory kept; after HRST_N detection is armed 10 us later.
KEEPER_WATCHDOG_EXPIRY restarts the Keeper, keeps READY, counts the restart and stops Transit. KEEPER_RESTART_DONE brings the
Keeper back. How far a quiesce gets is an operand (the model's choice, log entry 16). (R25 to R28, R437, R446 to R448, R452.)
-/
def Obligations.ResetsAndRestarts : Prop :=
  (∀ (k : Fin 8) (s : State), s.power.phase = .service →
    Answers (.prstAssert k) s fun t =>
      t.power.phase = .held 1 ∧ t.stack.ready = false ∧ t.stack.keeper = .off ∧ t.power.drained = max 1 (min 6 k.val) ∧
      t.power.lwSeal.state = (if k.val < 5 then 1 else 2) ∧ t.start.holdTil = t.now + 1600) ∧
  (∀ s : State, s.power.phase = .service →
    Answers .hrstAssert s fun t =>
      t.power.phase = .held 2 ∧ t.stack.ready = false ∧ t.stack.keeper = .off ∧ t.power.armed = false ∧
      t.start.hrstLost = queuedWrites s ∧ t.start.holdTil = s.now + 1760 ∧ ∀ n : Pc, t.pcs[n].queue = []) ∧
  (∀ s : State, s.power.phase = .held 1 → 6 ≤ s.power.drained →
    Answers .logicResetRelease s fun t =>
      t.power.phase = .starting ∧ t.start.step = 2 ∧ t.start.kind = 1 ∧ t.start.hrstLost = 0 ∧ s.start.holdTil ≤ t.now ∧
      t.dram.mem = s.dram.mem ∧ t.seq.decided = true) ∧
  (∀ s : State, s.power.phase = .held 2 →
    Answers .logicResetRelease s fun t =>
      t.power.phase = .starting ∧ t.start.step = 2 ∧ t.start.kind = 2 ∧ t.start.hrstLost = s.start.hrstLost ∧
      s.start.holdTil ≤ t.now ∧ t.start.armAt = some (t.now + us10) ∧ t.dram.mem = s.dram.mem) ∧
  (∀ s : State, keeperUp s = true → s.power.failing = false → s.stack.ready = true → s.fw.activated = 0 →
    Answers .keeperWatchdogExpiry s fun t =>
      t.stack.keeper = .restarting ∧ t.stack.ready = true ∧ t.stack.restarts = satAdd 255 s.stack.restarts 1 ∧
      t.transit.running = false ∧ csrGet t 0x070210 = 0 ∧ t.fw.restart = some (3, s.now)) ∧
  (∀ (micros : Nat) (x : Nat × Nat) (s : State), s.stack.keeper = .restarting → s.fw.restart = some x → s.fw.actPend = none →
    s.fw.mPend = none → s.mirror.waitSet = [] →
    Answers (.keeperRestartDone true micros) s fun t =>
      t.stack.keeper = .running ∧ t.fw.restart = none ∧ t.fw.bootAt = s.now ∧ t.stack.ready = s.stack.ready)

/-- WATCH_READING gives its value to the round's next channel, moves to the channel after it, and comes 25,000 CCLK or more
after the reading before. (R455, R456, R469.) -/
def Obligations.WatchTakesTheNextChannel : Prop :=
  ∀ (raw value : Nat) (xing : List XingCheck) (s : State), watchRuns s = true →
    Answers (.watchReading raw ⟨value, xing⟩) s fun t =>
      t.therm.chans[nextChan s].value = value % 65536 ∧ t.therm.chans[nextChan s].seen = true ∧
      t.therm.next = ((nextChan s).val + 1) % 128 ∧ (∀ last, s.therm.lastAt = some last → last + 25000 ≤ t.now)

/-! ### Transit and the test access port -/

/-- TRANSIT_RUN_DONE with no missing cycle and no failure logged ends PASS where the signatures agree and FAIL where they
differ; with cycles missing, INVALID. TRANSIT_CCLK_WINDOW out of limits aborts the run with cause 1; within them, with no way
under test, it is only kept. TRANSIT_ABORT aborts with cause 7. BIST_RUN is refused with 2 while a run is under way and with 1
out of limits; else the run of the selected tests starts. (R483 to R487.) -/
def Obligations.TransitRuns : Prop :=
  (∀ (sig sigexp : DWord) (s : State), s.transit.running = true → s.transit.quick = false → s.transit.log = [] →
    s.transit.ovf = false → s.transit.expect < 2 ^ 64 →
    Answers (.transitRunDone 0 sig sigexp []) s fun t =>
      t.transit.running = false ∧ t.transit.done = true ∧ t.transit.cycles = s.transit.expect ∧
      t.transit.verdict = (if sig = sigexp then 1 else 2)) ∧
  (∀ (missing sig sigexp : DWord) (s : State), s.transit.running = true → s.transit.quick = false →
    s.transit.expect < 2 ^ 64 → missing ≠ 0 →
    Answers (.transitRunDone missing sig sigexp []) s fun t => t.transit.running = false ∧ t.transit.verdict = 3) ∧
  (∀ (count : Nat) (s : State), s.transit.running = true → s.transit.quick = false → s.transit.wayTest = none →
    Answers (.transitCclkWindow count) s fun t =>
      if cclkInLimits count then t.transit = { s.transit with window := count } ∧ t.lagoon = s.lagoon
      else t.transit.running = false ∧ t.transit.done = false ∧ t.transit.verdict = 3 ∧ t.transit.abortCause = 1) ∧
  (∀ (path : Path) (v : Word) (s : State), quietPath s path → v.getLsbD 0 = true → s.transit.running = true →
    s.transit.quick = false →
    Answers (.transitAbort path v) s fun t =>
      t.transit.running = false ∧ t.transit.done = false ∧ t.transit.verdict = 3 ∧ t.transit.abortCause = 7) ∧
  (∀ (r : Fin 64) (idx count : Nat) (d : WxDesc) (s : State), mayStart s 0x13 r idx d → s.transit.running = true →
    Answers (.bistRun r idx count) s fun t =>
      t.transit = s.transit ∧ endedAs t r idx fun st res det => st = wxRefused ∧ res = 0 ∧ det = 2) ∧
  (∀ (r : Fin 64) (idx count : Nat) (d : WxDesc) (s : State), mayStart s 0x13 r idx d → s.transit.running = false →
    coreInLimits s = false ∨ cclkInLimits count = false →
    Answers (.bistRun r idx count) s fun t =>
      t.transit.verdict = 4 ∧ t.transit.running = false ∧ endedAs t r idx fun st res det => st = wxRefused ∧ res = 4 ∧ det = 1) ∧
  (∀ (r : Fin 64) (idx count : Nat) (d : WxDesc) (s : State), mayStart s 0x13 r idx d → s.transit.running = false →
    coreInLimits s = true → cclkInLimits count = true →
    (testBits fun i => (testsAsked s (d.opd 0 % 4)).testBit i && testRuns s (d.opd 0 % 4) i) ≠ 0 →
    Answers (.bistRun r idx count) s fun t =>
      t.transit.running = true ∧ t.transit.quick = false ∧ t.transit.desc = some (r.val, idx) ∧ t.transit.window = count ∧
      t.transit.tests = testBits fun i => (testsAsked s (d.opd 0 % 4)).testBit i && testRuns s (d.opd 0 % 4) i)

/-- A code that is not listed selects BYPASS and changes nothing else. IDCODE captures the identification word with the die
step in its top bits. SAMPLE_PRELOAD captures the bumps. While READY is set EXTEST and WRAP_SEL act as BYPASS and keep DRAM;
while it is clear EXTEST drives the bumps, and WRAP_SEL is selected only up to life-cycle state 1. (R489, R490.) -/
def Obligations.TestAccessPort : Prop :=
  (∀ (code : Byte) (s : State), corePowered s = true → jtagListed code.toNat = false →
    Answers (.bypass code) s fun t => t = { s with jtag := { s.jtag with ir := 0xFF, dr := 0, driven := false } }) ∧
  (∀ s : State, corePowered s = true →
    Answers .idcode s fun t =>
      t.jtag.ir = 1 ∧ t.jtag.dr % 2 ^ 28 = 0x9616 * 2 ^ 12 + 0x54E * 2 + 1 ∧
      t.jtag.dr / 2 ^ 28 = bitsOf (csrGet s 0x000000) 16 4 ∧ t.regs = s.regs) ∧
  (∀ (bumps : List Bool) (s : State), corePowered s = true →
    Answers (.samplePreload bumps) s fun t => t.jtag.ir = 2 ∧ t.jtag.boundary = bumps ∧ t.jtag.driven = false ∧ t.ports = s.ports) ∧
  (∀ s : State, corePowered s = true → s.stack.ready = true →
    (Answers .extest s fun t => t.jtag = { s.jtag with ir := 0xFF, dr := 0, driven := false } ∧ t.dram = s.dram) ∧
    (Answers .wrapSel s fun t => t.jtag = { s.jtag with ir := 0xFF, dr := 0, driven := false } ∧ t.dram = s.dram)) ∧
  (∀ s : State, corePowered s = true → s.stack.ready = false →
    (Answers .extest s fun t => t.jtag = { s.jtag with ir := 3, driven := true } ∧ t.seq = s.seq) ∧
    (Answers .wrapSel s fun t => t.jtag.ir = if s.fuse.lc ≤ 1 then 0x10 else 0xFF))

/-! ### Fuses -/

/-- The command by which operation `k` is requested. -/
def fuseRequestCmd (k : Nat) (path : Path) (v c : Word) : Instr :=
  match k with
  | 1 => .fuseWrite path v c
  | 2 => .fuseWriteCrc path v c
  | 3 => .fuseLock path v c
  | 4 => .lcAdvance path v c
  | _ => .fuseDirect path v c

/-- The operation that a value written to `FUSE.PCMD` requests. -/
def fuseRequested (s : State) (v : Word) : FuseOp :=
  { op := bitsOf v.toNat 0 3, group := bitsOf v.toNat 3 3, word := csrFld s 0x010040 0 13
    data := BitVec.ofNat 32 (csrGet s 0x010044) }

/-- FUSE_WRITE, FUSE_WRITE_CRC, FUSE_LOCK, LC_ADVANCE and FUSE_DIRECT, with their complement and the Keeper up, are accepted
or refused with their result and program nothing yet. FUSE_OP_START refuses by now, fails on a condition out of range, or
fixes the word and data. FUSE_OP_DONE sets exactly the data bits of that word at every reference, no other word, and its
result is 0 exactly where the word verifies. FUSE_RESENSE, ten minutes after the last, takes the drifted readings and keeps
what was latched. (R502 to R508.) -/
def Obligations.FuseOperations : Prop :=
  (∀ (k : Nat) (path : Path) (v c : Word) (s : State), quietPath s path → 1 ≤ k → k ≤ 5 → bitsOf v.toNat 0 3 = k →
    keeperUp s = true → s.fuse.op = none →
    Answers (fuseRequestCmd k path v c) s fun t =>
      t.fuse.arr = s.fuse.arr ∧
      if c = ~~~v then
        if fuseRefused s (fuseRequested s v) = 0 then t.fuse.op = some (fuseRequested s v)
        else t.fuse.op = none ∧ t.fuse.result = fuseRefused s (fuseRequested s v)
      else t.fuse = s.fuse) ∧
  (∀ (o : FuseOp) (s : State), s.fuse.op = some o → o.started = false → keeperUp s = true →
    Answers .fuseOpStart s fun t =>
      t.fuse.arr = s.fuse.arr ∧
      if fuseRefused s o ≠ 0 then t.fuse.op = none ∧ t.fuse.result = fuseRefused s o
      else if fuseCond s ≠ 7 then t.fuse.op = none ∧ t.fuse.result = 4
      else t.fuse.op = some { o with
        word := (fuseTarget s o).1, data := BitVec.ofNat 32 (fuseTarget s o).2, started := true }) ∧
  (∀ (o : FuseOp) (pulses : Nat) (s : State), s.fuse.op = some o → o.started = true → o.op ≠ 8 →
    Answers (.fuseOpDone [] pulses) s fun t =>
      t.fuse.op = none ∧ t.fuse.pulses = pulses ∧
      (∀ ref : Nat, fuseRead t.fuse.arr o.word ref = fuseRead s.fuse.arr o.word ref ||| o.data.toNat) ∧
      (∀ w ref : Nat, w ≠ o.word → fuseRead t.fuse.arr w ref = fuseRead s.fuse.arr w ref) ∧
      (t.fuse.result = 0 ↔ fuseVerified s.fuse.arr t.fuse.arr o.word o.data.toNat = true)) ∧
  (∀ (drift : List FuseReading) (s : State), s.stack.ready = true → s.fuse.op = none → s.power.failing = false →
    Answers (.fuseResense drift) s fun t =>
      s.fuse.resenseAt + tenMinutes ≤ t.now ∧
      t.fuse.resenseAt = t.now - (t.now - s.fuse.resenseAt) % tenMinutes ∧ t.fuse.arr = putReadings s.fuse.arr drift ∧
      t.fuse.latched = s.fuse.latched ∧ t.fuse.lc = s.fuse.lc)

/-- REPAIR_FUSE disarms REPAIR.FUSEAUTH in each case stated. Not armed, out of life-cycle state 3, or after an advance it is
refused with 5 and programs nothing. Armed for a soft repair, with supplies in range and pulses that verify, it programs the
first free slot, frees the soft entry and the row is a fuse entry in force. (R263 to R265.) -/
def Obligations.SoftRepairBecomesFuseEntry : Prop :=
  (∀ (r : Fin 64) (idx : Nat) (ok : Bool) (d : WxDesc) (s : State), mayStart s 0x15 r idx d →
    csrFld s 0x070210 0 1 = 0 ∨ s.fuse.lc ≠ 3 ∨ s.fuse.advanced = true →
    Answers (.repairFuse r idx ok) s fun t =>
      csrGet t 0x070210 = 0 ∧ t.fuse.arr = s.fuse.arr ∧ t.dram = s.dram ∧
      endedAs t r idx fun st res det => st = wxRefused ∧ res = 0 ∧ det = 5) ∧
  (∀ (r : Fin 64) (idx : Nat) (i : Fin 256) (e : SoftRep) (slot : Nat) (d : WxDesc) (s : State), mayStart s 0x15 r idx d →
    csrFld s 0x070210 0 1 = 1 → s.fuse.lc = 3 → s.fuse.advanced = false → csrFld s 0x070210 1 1 = 0 →
    csrFld s 0x070210 2 8 = i.val → s.dram.soft[i] = some e → fuseCond s = 7 → fieldSlot s 0 1024 = some slot →
    (fieldPulse s.fuse.arr slot (rowWord e) []).2 = true →
    Answers (.repairFuse r idx true) s fun t =>
      csrGet t 0x070210 = 0 ∧ t.fuse.arr = (fieldPulse s.fuse.arr slot (rowWord e) []).1 ∧ t.dram.soft[i] = none ∧
      t.dram.fuseRows = s.dram.fuseRows ++ [e] ∧ endedAs t r idx fun st res det => st = 0 ∧ res = slot ∧ det = 0)

/-! ### Firmware -/

/-- FW_STAGE at another offset than the image has reached is refused with 0x0E and changes no firmware state; in the body of
an image it takes its blocks and reports the bytes taken, or ends OFFLINE with nothing taken. MGMT_STAGE does the same from
the buffer. FW_ACTIVATE that is refused changes no firmware state and ends with its reason, BUSY where the other source holds
the lease; accepted, the idle slot becomes the active one, and the Keeper restarts where it is the Keeper's. MGMT_ACTIVATE
likewise answers its result, and a failed self-check ends the lease. (R517 to R522, R527.) -/
def Obligations.FirmwareStagingAndActivation : Prop :=
  (∀ (r : Fin 64) (idx : Nat) (d : WxDesc) (s : State), mayStart s 0x10 r idx d → bitsOf (d.opd 0) 32 32 ≠ 0 →
    s.fw.staging[(0 : Fin 2)] ≠ some (d.opd 0 % 4, bitsOf (d.opd 0) 32 32) →
    Answers (.fwStage r idx) s fun t =>
      t.fw = s.fw ∧ endedAs t r idx fun st res det => res = 0 ∧ (st = wxRefused ∧ det = 0x0E ∨ st = wxOffline ∧ det < d.len)) ∧
  (∀ (r : Fin 64) (idx : Nat) (h : ImageHeader) (d : WxDesc) (s : State), mayStart s 0x10 r idx d →
    512 ≤ bitsOf (d.opd 0) 32 32 → d.opd 0 % 4 < 3 →
    s.fw.staging[(0 : Fin 2)] = some (d.opd 0 % 4, bitsOf (d.opd 0) 32 32) →
    (slotGet s (d.opd 0 % 4) (idleIdx s (d.opd 0 % 4))).hdr = some h →
    (slotGet s (d.opd 0 % 4) (idleIdx s (d.opd 0 % 4))).got + 64 * d.len < imageBytes h →
    Answers (.fwStage r idx) s fun t =>
      endedAs t r idx fun st res det =>
        (st ≤ 3 ∧ res = (slotGet s (d.opd 0 % 4) (idleIdx s (d.opd 0 % 4))).got + 64 * d.len ∧ det = 0 ∧
          t.fw.staging[(0 : Fin 2)] = some (d.opd 0 % 4, res)) ∨
        (st = wxOffline ∧ res = 0 ∧ det < d.len ∧ t.fw = s.fw)) ∧
  (∀ (v : Word) (h : ImageHeader) (s : State), quietPath s mgmtPath → keeperUp s = true → mBusy s = false →
    bitsOf v.toNat 0 2 = 0 → bitsOf v.toNat 2 2 < 3 → 512 ≤ csrFld s 0x0D0084 0 21 →
    s.fw.staging[(1 : Fin 2)] = some (bitsOf v.toNat 2 2, csrFld s 0x0D0084 0 21) →
    (slotGet s (bitsOf v.toNat 2 2) (idleIdx s (bitsOf v.toNat 2 2))).hdr = some h →
    (slotGet s (bitsOf v.toNat 2 2) (idleIdx s (bitsOf v.toNat 2 2))).got + 64 * (bitsOf v.toNat 4 2 + 1) < imageBytes h →
    Answers (.mgmtStage v) s fun t =>
      t.fw.mResult = 0 ∧ t.fw.active = s.fw.active ∧
      t.fw.mAccepted = (slotGet s (bitsOf v.toNat 2 2) (idleIdx s (bitsOf v.toNat 2 2))).got + 64 * (bitsOf v.toNat 4 2 + 1)) ∧
  (∀ (r : Fin 64) (idx : Nat) (ok : Bool) (d : WxDesc) (s : State), mayStart s 0x11 r idx d →
    sextantBusy s (d.opd 0 % 4) = false → activateRefused s 1 (d.opd 0 % 4) ≠ 0 →
    Answers (.fwActivate r idx ok) s fun t =>
      t.fw = s.fw ∧ endedAs t r idx fun st res det =>
        res = 0 ∧ if activateRefused s 1 (d.opd 0 % 4) = 0x12 then st = wxBusy ∧ det = 0
          else st = wxRefused ∧ det = activateRefused s 1 (d.opd 0 % 4)) ∧
  (∀ (r : Fin 64) (idx : Nat) (d : WxDesc) (s : State), mayStart s 0x11 r idx d →
    sextantBusy s (d.opd 0 % 4) = false → activateRefused s 1 (d.opd 0 % 4) = 0 → s.fw.active[compFin (d.opd 0 % 4)] ≤ 1 →
    Answers (.fwActivate r idx true) s fun t =>
      activeIdx t (d.opd 0 % 4) = idleIdx s (d.opd 0 % 4) ∧ t.fw.activated.testBit (d.opd 0 % 4) = true ∧
      if d.opd 0 % 4 = 0 then t.stack.keeper = .restarting
      else endedAs t r idx fun st res det => st = 0 ∧ res = activeVersion t (d.opd 0 % 4) ∧ det = 0) ∧
  (∀ (v : Word) (ok : Bool) (s : State), quietPath s mgmtPath → keeperUp s = true → mBusy s = false →
    bitsOf v.toNat 0 2 = 1 → sextantBusy s (bitsOf v.toNat 2 2) = false →
    Answers (.mgmtActivate v ok) s fun t =>
      if activateRefused s 2 (bitsOf v.toNat 2 2) ≠ 0 then
        t.fw = { s.fw with mResult := activateRefused s 2 (bitsOf v.toNat 2 2) }
      else
        (bitsOf v.toNat 2 2 ≠ 0 → ok = true → t.fw.mResult = 0 ∧ activeIdx t (bitsOf v.toNat 2 2) = idleIdx s (bitsOf v.toNat 2 2)) ∧
        (bitsOf v.toNat 2 2 ≠ 0 → ok = false → t.fw.mResult = 0x0F ∧ t.fw.holder = 0))

/-- FW_COMMIT and MGMT_COMMIT of the holder with something activated end the lease and keep the activated images; else they
are refused and change no more. LEASE_TIMEOUT, ten minutes after the last action, ends a lease with nothing activated.
CLEAN_BOOT, ten seconds after the Keeper's start, is counted once, and the third ends the lease. SETTINGS_STORE stores the
backed bits of a written register. ROLLBACK_FUSE_RETRY, ten minutes apart, stays pending exactly while a floor is above its
fuses, and programs nothing where it may not. (R518, R523 to R525, R527.) -/
def Obligations.FirmwareCommitAndSettings : Prop :=
  (∀ (r : Fin 64) (idx : Nat) (d : WxDesc) (s : State), mayStart s 0x12 r idx d →
    Answers (.fwCommit r idx) s fun t =>
      if s.fw.holder = 1 ∧ s.fw.activated ≠ 0 then
        t.fw.holder = 0 ∧ t.fw.activated = 0 ∧ t.fw.active = s.fw.active ∧
        endedAs t r idx fun st res det => st = 0 ∧ res = s.fw.activated + 8 * b2n t.fw.rbPending ∧ det = 0
      else
        t.fw = s.fw ∧ endedAs t r idx fun st res _ => res = 0 ∧ (st = wxRefused ∨ st = wxBusy)) ∧
  (∀ (v : Word) (s : State), quietPath s mgmtPath → keeperUp s = true → mBusy s = false → bitsOf v.toNat 0 2 = 2 →
    Answers (.mgmtCommit v) s fun t =>
      if s.fw.holder = 2 ∧ s.fw.activated ≠ 0 then t.fw.mResult = 0 ∧ t.fw.holder = 0 ∧ t.fw.activated = 0
      else t.fw = { s.fw with mResult := if s.fw.holder = 0 then 0x10 else if s.fw.holder ≠ 2 then 0x12 else 0x11 }) ∧
  (∀ s : State, keeperUp s = true → s.fw.holder ≠ 0 → s.fw.activated = 0 →
    Answers .leaseTimeout s fun t =>
      t.fw.holder = 0 ∧ t.fw.staged = 0 ∧ s.fw.leaseAt + tenMinutes ≤ t.now ∧ t.fw.active = s.fw.active) ∧
  (∀ s : State, keeperUp s = true → s.fw.bootCounted = false →
    Answers .cleanBoot s fun t =>
      s.fw.bootAt + tenSeconds ≤ t.now ∧ t.fw.bootCounted = true ∧
      (s.fw.activated = 0 → t.fw.cleanBoots = s.fw.cleanBoots) ∧
      (s.fw.activated ≠ 0 → s.fw.cleanBoots < 2 →
        t.fw.cleanBoots = s.fw.cleanBoots + 1 ∧ t.fw.activated = s.fw.activated) ∧
      (s.fw.activated ≠ 0 → s.fw.cleanBoots = 2 → t.fw.activated = 0 ∧ t.fw.holder = 0)) ∧
  (∀ (a : Nat) (row : RegRow) (s : State), keeperUp s = true → s.fw.unsaved = [a] → s.power.failing = false →
    regRow a = some row →
    Answers .settingsStore s fun t =>
      t.fw.unsaved = [] ∧ settingOf t a = (((csrGet s a ^^^ regReset a) &&& row.sb) % 2 ^ 32) ^^^ regReset a) ∧
  (∀ (ok : Bool) (s : State), keeperUp s = true → s.fw.rbPending = true →
    Answers (.rollbackFuseRetry ok) s fun t =>
      (s.fw.rbTriedAt ≠ 0 → s.fw.rbTriedAt + tenMinutes ≤ t.now) ∧ t.fw.rbTriedAt = t.now ∧
      (t.fw.rbPending = true ↔ ∃ c : Fin 3, rollbackIdx t.fuse.arr c.val < s.fw.floors[c]) ∧
      (rbPossible s = false → t.fuse.arr = s.fuse.arr))

/-! ### Frames: which commands a unit's state is safe from -/

/-- Commands that may write any register: accesses by address, writes of named registers, a staged CFG request released. -/
def isAccess : Instr → Bool
  | .stagingRelease _ | .sextantQselWrite _ _ | .scrubInitdone _ _ _ | .repairFuseauth _ _ _ | .epochPortsetWrite _ _
  | .epochInitWrite _ _ | .trigArm _ _ _ | .sqTailDoorbell _ _ _ | .cqHeadDoorbell _ _ _ | .ringEnable _ _ _
  | .ringDisable _ _ _ | .almanacRselWrite _ _ | .evtRingEnable _ _ _ | .evtRingDisable _ _ _ | .evtRingHeadWrite _ _ _
  | .evtFatalAckWrite _ _ | .chrosyEnable _ _ | .chrosyDisable _ _ | .chrosyQselWrite _ _ | .windowSetAsync _ _ _
  | .windowSetSync _ _ _ | .windowSetOff _ _ _ | .keeperResetRequest _ _ _ | .wipeNextWrite _ _ _ | .thermalResumeArm _ _ _
  | .transitAbort _ _ | .fuseWrite _ _ _ | .fuseWriteCrc _ _ _ | .fuseLock _ _ _ | .lcAdvance _ _ _ | .fuseDirect _ _ _
  | .fuseRdselWrite _ _ | .mgmtStage _ | .mgmtActivate _ _ | .mgmtCommit _ | .fwupRelease _ _ _ | .regWrite _ _ _
  | .cfgownerWrite _ _ _ | .mgmtWrite _ => true
  | _ => false

/-- Commands that may change the links of the Wide Ports. -/
def movesLinks : Instr → Bool
  | .nop _ _ | .flitLinkCheck _ _ _ | .resendStart _ | .replayStorm _ | .downstreamLaneFailed _ _ | .hckFault _ | .remap _ _
  | .remapDone _ _ | .portReset _ | .portResetDone _ | .portFail _ _ | .pctlAnswerTimeout _ | .trnAck _ _ | .phaseDone _ _
  | .laneBad _ _ | .trnFail _ _ | .upstreamResponseSend _ | .sigSend _ | .fullTraining _ _ | .fastTraining _ _
  | .pcOnline _ _ _ | .pfailRecovered | .powerGood _ | .startRelease _ | .logicResetRelease | .watchReading _ _
  | .transitCclkWindow _ | .transitRunDone _ _ _ _ => true
  | _ => false

/-- Commands that may change the test access port. -/
def movesJtag : Instr → Bool
  | .pfailRecovered | .powerGood _ | .startRelease _ | .logicResetRelease | .bypass _ | .idcode | .samplePreload _ | .extest
  | .wrapSel => true
  | _ => false

/-- Commands that may change the power state, the seal and the Lantern. -/
def movesPower : Instr → Bool
  | .schedulerPick _ | .seal _ _ | .lowPowerEntry | .lowPowerEntryDone | .wake _ | .wakeDone | .pfailDetect _
  | .droopDetect _ | .lanternRailFault _ _ | .pfailRecovered | .powerGood _ | .fuseSenseDone _ | .keeperBootDone _
  | .startRelease _ | .prstAssert _ | .hrstAssert | .logicResetRelease | .pfailDetectArm | .watchReading _ _
  | .transitCclkWindow _ | .transitRunDone _ _ _ _ | .vddCoreLoss | .vlanLoss => true
  | _ => false

/-- Commands, accesses apart, that may change the scrub lap. -/
def movesScrub : Instr → Bool
  | .tidefillDone _ | .scrubLapEnd | .pfailRecovered | .powerGood _ | .fuseSenseDone _ | .startRelease _ | .logicResetRelease => true
  | _ => false

/-- Commands, accesses apart, that may change the tracker window and the throttle. -/
def movesGuard : Instr → Bool
  | .schedulerPick _ | .captureOffer _ _ _ | .refreshSlot _ | .trackerWindowEnd | .throttleStepUp _ | .wakeDone
  | .pfailRecovered | .powerGood _ | .startRelease _ | .logicResetRelease => true
  | _ => false

/-- Commands, accesses apart, that may change the start and Keeper state of the stack. -/
def movesStack : Instr → Bool
  | .fwActivate _ _ _ | .seal _ _ | .pfailDetect _ | .droopDetect _ | .pfailRecovered | .powerGood _ | .keeperBootDone _
  | .startRelease _ | .prstAssert _ | .hrstAssert | .logicResetRelease | .keeperWatchdogExpiry | .keeperRestartDone _ _
  | .vddCoreLoss => true
  | _ => false

/-- Commands, accesses apart, that may change a Transit run. -/
def movesTransit : Instr → Bool
  | .downstreamLaneFailed _ _ | .remapDone _ _ | .wayFailureDetected _ _ _ _ | .tsvSwitchStart _ | .fwActivate _ _ _
  | .bistRun _ _ _ | .seal _ _ | .pfailDetect _ | .droopDetect _ | .pfailRecovered | .powerGood _ | .keeperBootDone _
  | .prstAssert _ | .hrstAssert | .logicResetRelease | .keeperWatchdogExpiry | .keeperRestartDone _ _ | .watchReading _ _
  | .transitCclkWindow _ | .transitRunDone _ _ _ _ => true
  | _ => false

/-- Commands, accesses apart, that may change the start sequence. -/
def movesStart : Instr → Bool
  | .fwActivate _ _ _ | .pfailRecovered | .powerGood _ | .fuseSenseDone _ | .keeperBootDone _ | .startRelease _
  | .prstAssert _ | .hrstAssert | .logicResetRelease | .pfailDetectArm | .keeperWatchdogExpiry | .keeperRestartDone _ _
  | .watchReading _ _ | .transitCclkWindow _ | .transitRunDone _ _ _ _ | .refclkLoss _ | .vddCoreLoss => true
  | _ => false

/-- Commands, accesses apart, that may change readings, levels and thermal buckets. -/
def movesTherm : Instr → Bool
  | .readDataDecoded _ _ _ | .wrmMerge _ _ | .captureCopyDone _ _ _ | .pfailRecovered | .powerGood _ | .logicResetRelease
  | .watchReading _ _ => true
  | _ => false

/-- Commands, accesses apart, that may change the fuse array. -/
def movesFuse : Instr → Bool
  | .fwCommit _ _ | .repairFuse _ _ _ | .seal _ _ | .pfailDetect _ | .droopDetect _ | .pfailRecovered | .powerGood _
  | .fuseSenseDone _ | .startRelease _ | .prstAssert _ | .hrstAssert | .logicResetRelease | .keeperRestartDone _ _
  | .fuseOpStart | .fuseOpDone _ _ | .fuseResense _ | .cleanBoot | .rollbackFuseRetry _ => true
  | _ => false

/-- Commands, accesses apart, that may change firmware slots, the lease and the settings records. -/
def movesFw : Instr → Bool
  | .fwStage _ _ | .fwActivate _ _ _ | .fwCommit _ _ | .pfailRecovered | .powerGood _ | .fuseSenseDone _ | .keeperBootDone _
  | .logicResetRelease | .keeperWatchdogExpiry | .keeperRestartDone _ _ | .leaseTimeout | .cleanBoot | .settingsStore
  | .rollbackFuseRetry _ => true
  | _ => false

/-- Commands, accesses apart, that may change lanes and calibration records. -/
def movesTrain : Instr → Bool
  | .downstreamLaneFailed _ _ | .remap _ _ | .remapDone _ _ | .fullTraining _ _ | .fastTraining _ _ | .pcTrainingLost _ _
  | .pcRetrainDone _ _ | .calPeriodEnd _ _ | .calStep _ | .overrideStep _ | .calRecordRewrite _ | .sextantQualRead _
  | .tsvLaneFailed _ _ | .tsvSwitchDone _ | .pcOnline _ _ _ | .almanacRdataRead _ | .evtMfifoRead _ | .chrosyQualRead _
  | .pfailRecovered | .powerGood _ | .startRelease _ | .logicResetRelease | .watchReading _ _ | .transitCclkWindow _
  | .transitRunDone _ _ _ _ | .mgmtRead _ => true
  | _ => false

/-- Each command not named for a unit leaves that unit's state exactly as it was: the port links, the test access port, power
and seal; and, accesses to registers apart, scrub, row guard, the stack's start and Keeper state, Transit, the start sequence,
thermal state, fuses, firmware, and training. -/
def Obligations.OtherCommandsLeaveAUnitAlone : Prop :=
  (∀ (c : Instr) (s t : State), movesLinks c = false → exec c s = .next t → t.links = s.links) ∧
  (∀ (c : Instr) (s t : State), movesJtag c = false → exec c s = .next t → t.jtag = s.jtag) ∧
  (∀ (c : Instr) (s t : State), movesPower c = false → exec c s = .next t → t.power = s.power) ∧
  (∀ (c : Instr) (s t : State), isAccess c = false → movesScrub c = false → exec c s = .next t → t.scrub = s.scrub) ∧
  (∀ (c : Instr) (s t : State), isAccess c = false → movesGuard c = false → exec c s = .next t → t.guard = s.guard) ∧
  (∀ (c : Instr) (s t : State), isAccess c = false → movesStack c = false → exec c s = .next t → t.stack = s.stack) ∧
  (∀ (c : Instr) (s t : State), isAccess c = false → movesTransit c = false → exec c s = .next t → t.transit = s.transit) ∧
  (∀ (c : Instr) (s t : State), isAccess c = false → movesStart c = false → exec c s = .next t → t.start = s.start) ∧
  (∀ (c : Instr) (s t : State), isAccess c = false → movesTherm c = false → exec c s = .next t → t.therm = s.therm) ∧
  (∀ (c : Instr) (s t : State), isAccess c = false → movesFuse c = false → exec c s = .next t → t.fuse = s.fuse) ∧
  (∀ (c : Instr) (s t : State), isAccess c = false → movesFw c = false → exec c s = .next t → t.fw = s.fw) ∧
  (∀ (c : Instr) (s t : State), isAccess c = false → movesTrain c = false → exec c s = .next t → t.train = s.train)

/-- Commands that change nothing in DRAM: data, check symbols, poison, Fresh Map, repairs. -/
def keepsMemory : Instr → Bool
  | .rd _ _ | .wr _ _ _ | .wrm _ _ _ | .cfgRd _ _ | .cfgWr _ _ | .mark _ _ | .fence _ _ | .nop _ _ | .unlistedOpcode _ _
  | .flitLinkCheck _ _ _ | .resendStart _ | .replayStorm _ | .hckFault _ | .remap _ _ | .portReset _ | .portResetDone _
  | .portFail _ _ | .pctlFrameInvalid _ _ _ _ | .pctlAnswerTimeout _ | .trnAck _ _ | .phaseDone _ _ | .laneBad _ _
  | .trnFail _ _ | .epochStall _ | .upstreamResponseSend _ | .sigSend _ | .pcTrainingLost _ _ | .pcRetrainDone _ _
  | .calPeriodEnd _ _ | .calStep _ | .overrideStep _ | .calRecordRewrite _ | .sextantQualRead _ | .schedulerPick _
  | .urgentLapseEnd _ | .captureOffer _ _ _ | .captureCopyDone _ _ _ | .lineWritebackTimeout _ _ | .refreshSlot _
  | .refreshStart _ _ | .nbrRefreshTrigger _ _ _ | .targetedRefreshDone _ _ | .throttleStepUp _ | .scrubUnitIssue _
  | .tsvLaneFailed _ _ | .portsetApply | .descDispatch | .tidemarkClear _ _ | .mirrorPull _ _ | .fwCommit _ _
  | .repairSoft _ _ | .descFence _ _ | .almanacLookupDone | .almanacRdataRead _ | .evtMfifoRead _ | .smbusAlertResponse
  | .chrosyBlockStart | .chrosyAck _ | .chrosyNak _ | .chrosyCredit _ _ | .heartbeat _ | .alignNext _ | .alignOk _ | .linkUp
  | .degrade _ | .seekTimeout _ | .chrosyAdaptTick _ | .chrosyQualRead _ | .syncWrite _ _ | .asyncWrite _ _ | .barrier _
  | .barrierAck _ | .resyncData _ _ | .reservedMessage _ | .lowPowerEntry | .wake _ | .wakeDone | .lanternRailFault _ _
  | .pfailDetectArm | .bypass _ | .idcode | .samplePreload _ | .extest | .wrapSel | .fuseOpStart | .fuseResense _
  | .leaseTimeout | .cleanBoot | .settingsStore | .rollbackFuseRetry _ | .dwWindowExpiry | .mgmtSetPointer _ | .mgmtRead _
  | .smbusTimeout | .refclkLoss _ | .vlanLoss => true
  | _ => false

/-- Commands that change no pseudo-channel and no Lagoon line. -/
def keepsChannels : Instr → Bool
  | .nop _ _ | .unlistedOpcode _ _ | .flitLinkCheck _ _ _ | .resendStart _ | .portResetDone _ | .pctlFrameInvalid _ _ _ _
  | .trnAck _ _ | .phaseDone _ _ | .laneBad _ _ | .epochStall _ | .sigSend _ | .calPeriodEnd _ _ | .calStep _
  | .overrideStep _ | .calRecordRewrite _ | .sextantQualRead _ | .tidefillDone _ | .portsetApply | .descDispatch
  | .tidemarkClear _ _ | .mirrorPull _ _ | .fwCommit _ _ | .repairFuse _ _ _ | .descFence _ _ | .journalUnitFlush
  | .almanacLookupDone | .almanacRdataRead _ | .evtMfifoRead _ | .smbusAlertResponse | .chrosyBlockStart | .chrosyAck _
  | .chrosyNak _ | .chrosyCredit _ _ | .heartbeat _ | .alignNext _ | .alignOk _ | .linkUp | .degrade _ | .seekTimeout _
  | .chrosyAdaptTick _ | .chrosyQualRead _ | .syncWrite _ _ | .asyncWrite _ _ | .barrier _ | .barrierAck _ | .resyncData _ _
  | .reservedMessage _ | .lowPowerEntry | .wake _ | .lanternRailFault _ _ | .pfailDetectArm | .bypass _ | .idcode
  | .samplePreload _ | .extest | .wrapSel | .fuseOpStart | .fuseOpDone _ _ | .fuseResense _ | .leaseTimeout | .cleanBoot
  | .settingsStore | .rollbackFuseRetry _ | .dwWindowExpiry | .mgmtSetPointer _ | .mgmtRead _ | .smbusTimeout | .refclkLoss _
  | .vddCoreLoss | .vlanLoss => true
  | _ => false

/-- Commands that change no epoch, membership, dirty map or trigger. -/
def keepsEpochs : Instr → Bool
  | .rd _ _ | .wr _ _ _ | .wrm _ _ _ | .cfgRd _ _ | .cfgWr _ _ | .mark _ _ | .fence _ _ | .nop _ _ | .unlistedOpcode _ _
  | .flitLinkCheck _ _ _ | .resendStart _ | .portReset _ | .portResetDone _ | .pctlFrameInvalid _ _ _ _ | .trnAck _ _
  | .phaseDone _ _ | .laneBad _ _ | .upstreamResponseSend _ | .sigSend _ | .pcTrainingLost _ _ | .pcRetrainDone _ _
  | .calPeriodEnd _ _ | .calStep _ | .overrideStep _ | .calRecordRewrite _ | .sextantQualRead _ | .schedulerPick _
  | .readDataDecoded _ _ _ | .urgentLapseEnd _ | .captureOffer _ _ _ | .captureCopyDone _ _ _ | .lineWritebackTimeout _ _
  | .lineWritebackDone _ _ | .refreshSlot _ | .refreshStart _ _ | .nbrRefreshTrigger _ _ _ | .targetedRefreshDone _ _
  | .trackerWindowEnd | .throttleStepUp _ | .tidefillDone _ | .freshClaimFill _ | .scrubUnitIssue _ | .scrubLapEnd
  | .softRepairStart _ _ _ | .tsvLaneFailed _ _ | .tsvSwitchDone _ | .descDispatch | .mirrorPull _ _ | .fwCommit _ _
  | .bistRun _ _ _ | .repairSoft _ _ | .repairFuse _ _ _ | .descFence _ _ | .journalUnitFlush | .almanacLookupDone
  | .almanacRdataRead _ | .evtMfifoRead _ | .smbusAlertResponse | .chrosyBlockStart | .chrosyAck _ | .chrosyNak _
  | .chrosyCredit _ _ | .heartbeat _ | .alignNext _ | .alignOk _ | .linkUp | .degrade _ | .seekTimeout _ | .chrosyAdaptTick _
  | .chrosyQualRead _ | .syncWrite _ _ | .asyncWrite _ _ | .barrier _ | .barrierAck _ | .resyncData _ _ | .reservedMessage _
  | .lowPowerEntry | .lowPowerEntryDone | .wake _ | .wakeDone | .lanternRailFault _ _ | .keeperBootDone _ | .pfailDetectArm
  | .bypass _ | .idcode | .samplePreload _ | .extest | .wrapSel | .fuseOpStart | .fuseOpDone _ _ | .fuseResense _
  | .leaseTimeout | .cleanBoot | .settingsStore | .rollbackFuseRetry _ | .dwWindowExpiry | .mgmtSetPointer _ | .mgmtRead _
  | .smbusTimeout | .refclkLoss _ | .vddCoreLoss | .vlanLoss => true
  | _ => false

/-- Commands that change neither mirroring nor the Chrosy link. -/
def keepsMirror : Instr → Bool
  | .rd _ _ | .wr _ _ _ | .wrm _ _ _ | .cfgRd _ _ | .cfgWr _ _ | .mark _ _ | .fence _ _ | .nop _ _ | .unlistedOpcode _ _
  | .flitLinkCheck _ _ _ | .resendStart _ | .portResetDone _ | .pctlFrameInvalid _ _ _ _ | .trnAck _ _ | .phaseDone _ _
  | .laneBad _ _ | .epochStall _ | .upstreamResponseSend _ | .sigSend _ | .pcTrainingLost _ _ | .pcRetrainDone _ _
  | .calPeriodEnd _ _ | .calStep _ | .overrideStep _ | .calRecordRewrite _ | .schedulerPick _ | .readDataDecoded _ _ _
  | .derivedWriteEnqueue _ | .urgentLapseEnd _ | .captureOffer _ _ _ | .captureCopyDone _ _ _ | .lineWritebackTimeout _ _
  | .lineWritebackDone _ _ | .wayFailureDetected _ _ _ _ | .wayRecoveryDone _ _ | .refreshSlot _ | .refreshStart _ _
  | .nbrRefreshTrigger _ _ _ | .targetedRefreshDone _ _ | .trackerWindowEnd | .throttleStepUp _ | .tidefillDone _
  | .freshClaimFill _ | .scrubUnitIssue _ | .scrubLapEnd | .softRepairStart _ _ _ | .softRepairDone _ | .tsvLaneFailed _ _
  | .tsvSwitchStart _ | .tsvSwitchDone _ | .portsetApply | .descDispatch | .tidemarkClear _ _ | .fwCommit _ _
  | .bistRun _ _ _ | .repairSoft _ _ | .repairFuse _ _ _ | .descFence _ _ | .journalUnitFlush | .almanacLookupDone
  | .smbusAlertResponse | .lowPowerEntry | .lowPowerEntryDone | .wake _ | .wakeDone | .lanternRailFault _ _ | .hrstAssert
  | .pfailDetectArm | .keeperWatchdogExpiry | .transitCclkWindow _ | .transitRunDone _ _ _ _ | .bypass _ | .idcode
  | .samplePreload _ | .extest | .wrapSel | .fuseOpStart | .fuseOpDone _ _ | .fuseResense _ | .leaseTimeout | .cleanBoot
  | .settingsStore | .rollbackFuseRetry _ | .dwWindowExpiry | .mgmtSetPointer _ | .smbusTimeout | .refclkLoss _
  | .vddCoreLoss | .vlanLoss => true
  | _ => false

/-- Commands that change no ring and no descriptor. -/
def keepsEngine : Instr → Bool
  | .rd _ _ | .wr _ _ _ | .wrm _ _ _ | .cfgRd _ _ | .cfgWr _ _ | .mark _ _ | .fence _ _ | .nop _ _ | .unlistedOpcode _ _
  | .flitLinkCheck _ _ _ | .resendStart _ | .replayStorm _ | .hckFault _ | .remap _ _ | .portReset _ | .portResetDone _
  | .portFail _ _ | .pctlFrameInvalid _ _ _ _ | .pctlAnswerTimeout _ | .trnAck _ _ | .phaseDone _ _ | .laneBad _ _
  | .trnFail _ _ | .epochStall _ | .upstreamResponseSend _ | .sigSend _ | .fullTraining _ _ | .fastTraining _ _
  | .pcTrainingLost _ _ | .calPeriodEnd _ _ | .calStep _ | .overrideStep _ | .calRecordRewrite _ | .sextantQualRead _
  | .schedulerPick _ | .readDataDecoded _ _ _ | .derivedWriteEnqueue _ | .urgentLapseEnd _ | .captureOffer _ _ _
  | .captureCopyDone _ _ _ | .lineWritebackTimeout _ _ | .lineWritebackDone _ _ | .wayRecoveryDone _ _ | .refreshSlot _
  | .refreshStart _ _ | .nbrRefreshTrigger _ _ _ | .targetedRefreshDone _ _ | .trackerWindowEnd | .throttleStepUp _
  | .tidefillDone _ | .freshClaimFill _ | .scrubUnitIssue _ | .scrubLapEnd | .softRepairStart _ _ _ | .tsvSwitchDone _
  | .portsetApply | .journalUnitFlush | .almanacLookupDone | .almanacRdataRead _ | .evtMfifoRead _ | .smbusAlertResponse
  | .chrosyBlockStart | .chrosyAck _ | .chrosyNak _ | .chrosyCredit _ _ | .heartbeat _ | .alignNext _ | .alignOk _ | .linkUp
  | .degrade _ | .seekTimeout _ | .chrosyAdaptTick _ | .chrosyQualRead _ | .syncWrite _ _ | .asyncWrite _ _ | .barrier _
  | .barrierAck _ | .resyncData _ _ | .reservedMessage _ | .lowPowerEntry | .lowPowerEntryDone | .wake _ | .wakeDone
  | .lanternRailFault _ _ | .fuseSenseDone _ | .keeperBootDone _ | .startRelease _ | .hrstAssert | .pfailDetectArm
  | .bypass _ | .idcode | .samplePreload _ | .extest | .wrapSel | .fuseOpStart | .fuseOpDone _ _ | .fuseResense _
  | .leaseTimeout | .cleanBoot | .settingsStore | .rollbackFuseRetry _ | .dwWindowExpiry | .mgmtSetPointer _ | .mgmtRead _
  | .smbusTimeout | .refclkLoss _ | .vddCoreLoss | .vlanLoss => true
  | _ => false

/-- Commands that change no port: staging, tags, credits, responses, signals. -/
def keepsPorts : Instr → Bool
  | .flitLinkCheck _ _ _ | .trnAck _ _ | .phaseDone _ _ | .laneBad _ _ | .schedulerPick _ | .urgentLapseEnd _
  | .captureCopyDone _ _ _ | .lineWritebackTimeout _ _ | .lineWritebackDone _ _ | .refreshStart _ _ | .tidefillDone _
  | .freshClaimFill _ | .portsetApply | .descDispatch | .tidemarkClear _ _ | .mirrorPull _ _ | .descFence _ _
  | .journalUnitFlush | .almanacLookupDone | .smbusAlertResponse | .chrosyAck _ | .chrosyNak _ | .chrosyCredit _ _
  | .alignNext _ | .degrade _ | .barrier _ | .lowPowerEntry | .lowPowerEntryDone | .wake _ | .wakeDone
  | .lanternRailFault _ _ | .pfailDetectArm | .bypass _ | .idcode | .samplePreload _ | .settingsStore | .smbusTimeout
  | .vddCoreLoss | .vlanLoss => true
  | _ => false

/-- Commands that form no journal entry and no event. -/
def keepsRecords : Instr → Bool
  | .nop _ _ | .flitLinkCheck _ _ _ | .portReset _ | .trnAck _ _ | .phaseDone _ _ | .laneBad _ _ | .upstreamResponseSend _
  | .sigSend _ | .schedulerPick _ | .urgentLapseEnd _ | .captureCopyDone _ _ _ | .lineWritebackTimeout _ _
  | .lineWritebackDone _ _ | .refreshStart _ _ | .freshClaimFill _ | .portsetApply | .descDispatch | .tidemarkClear _ _
  | .mirrorPull _ _ | .descFence _ _ | .smbusAlertResponse | .chrosyAck _ | .chrosyNak _ | .chrosyCredit _ _ | .alignNext _
  | .degrade _ | .barrier _ | .lowPowerEntry | .lowPowerEntryDone | .wake _ | .wakeDone | .lanternRailFault _ _
  | .pfailDetectArm | .bypass _ | .idcode | .samplePreload _ | .settingsStore | .smbusTimeout | .vddCoreLoss | .vlanLoss => true
  | _ => false

/-- Commands that change no register. -/
def keepsRegisters : Instr → Bool
  | .nop _ _ | .portReset _ | .trnAck _ _ | .phaseDone _ _ | .laneBad _ _ | .sigSend _ | .tidefillDone _ | .freshClaimFill _
  | .portsetApply | .descDispatch | .tidemarkClear _ _ | .mirrorPull _ _ | .descFence _ _ | .almanacLookupDone | .chrosyAck _
  | .chrosyNak _ | .chrosyCredit _ _ | .alignNext _ | .degrade _ | .barrier _ | .wake _ | .lanternRailFault _ _ | .bypass _
  | .idcode | .samplePreload _ | .settingsStore | .vddCoreLoss | .vlanLoss => true
  | _ => false

/-- The commands named for each keep it exactly as it was: DRAM with its tables; the pseudo-channels and Lagoon lines; the
epochs and Tidemark; mirroring and the Chrosy link; the descriptor engine; the Wide Ports; the journal and the series of SSNs;
the register file. -/
def Obligations.CommandsThatKeepMemoryAndRecords : Prop :=
  (∀ (c : Instr) (s t : State), keepsMemory c = true → exec c s = .next t → t.dram = s.dram) ∧
  (∀ (c : Instr) (s t : State), keepsChannels c = true → exec c s = .next t → t.pcs = s.pcs ∧ t.lagoon = s.lagoon) ∧
  (∀ (c : Instr) (s t : State), keepsEpochs c = true → exec c s = .next t → t.epochs = s.epochs) ∧
  (∀ (c : Instr) (s t : State), keepsMirror c = true → exec c s = .next t → t.mirror = s.mirror ∧ t.chrosy = s.chrosy) ∧
  (∀ (c : Instr) (s t : State), keepsEngine c = true → exec c s = .next t → t.wetex = s.wetex) ∧
  (∀ (c : Instr) (s t : State), keepsPorts c = true → exec c s = .next t → t.ports = s.ports) ∧
  (∀ (c : Instr) (s t : State), keepsRecords c = true → exec c s = .next t → t.seq = s.seq ∧ t.jrn = s.jrn) ∧
  (∀ (c : Instr) (s t : State), keepsRegisters c = true → exec c s = .next t → t.regs = s.regs)
end

