-- ==== Sys2Proof/Laws/SMap.lean ====
section
/-! SUPPORT. Sparse tables and memory: every write keeps the canonical form; a write is read back and leaves every other key alone. -/

namespace Sys2Proof.Machine

variable {α : Type} [DecidableEq α]

theorem smWfFrom_mono {d : α} {lo lo' : Nat} {m : SMap α} (h : smWfFrom d lo m = true) (hl : lo' ≤ lo) :
    smWfFrom d lo' m = true := by
  cases m with
  | nil => rfl
  | cons e r =>
    simp only [smWfFrom, Bool.and_eq_true, decide_eq_true_eq] at h ⊢
    exact ⟨⟨Nat.le_trans hl h.1.1, h.1.2⟩, h.2⟩

theorem smInsert_wf {d : α} {lo k : Nat} {v : α} {m : SMap α} (h : smWfFrom d lo m = true) (hk : lo ≤ k) (hv : v ≠ d) :
    smWfFrom d lo (smInsert m k v) = true := by
  induction m generalizing lo with
  | nil => simp [smInsert, smWfFrom, hk, hv]
  | cons e r ih =>
    obtain ⟨j, w⟩ := e
    simp only [smWfFrom, Bool.and_eq_true, decide_eq_true_eq] at h
    simp only [smInsert]
    split
    · next hlt =>
      simp only [smWfFrom, Bool.and_eq_true, decide_eq_true_eq]
      exact ⟨⟨hk, hv⟩, ⟨hlt, h.1.2⟩, h.2⟩
    · next hlt =>
      split
      · next he =>
        subst he
        simp only [smWfFrom, Bool.and_eq_true, decide_eq_true_eq]
        exact ⟨⟨hk, hv⟩, h.2⟩
      · next he =>
        simp only [smWfFrom, Bool.and_eq_true, decide_eq_true_eq]
        exact ⟨h.1, ih h.2 (by omega)⟩

theorem smErase_wf {d : α} {lo k : Nat} {m : SMap α} (h : smWfFrom d lo m = true) : smWfFrom d lo (smErase m k) = true := by
  induction m generalizing lo with
  | nil => rfl
  | cons e r ih =>
    obtain ⟨j, w⟩ := e
    simp only [smWfFrom, Bool.and_eq_true, decide_eq_true_eq] at h
    simp only [smErase]
    split
    · exact smWfFrom_mono (ih h.2) (by omega)
    · simp only [smWfFrom, Bool.and_eq_true, decide_eq_true_eq]
      exact ⟨h.1, ih h.2⟩

/-- A write keeps the canonical form. -/
theorem smSet_wf {d v : α} {m : SMap α} {k : Nat} (h : smWf d m = true) : smWf d (smSet d m k v) = true := by
  unfold smSet
  split
  · exact smErase_wf h
  · next hv => exact smInsert_wf h (Nat.zero_le _) hv

/-- Leaving entries out keeps the canonical form. -/
theorem smFilter_wf {d : α} {m : SMap α} (p : Nat × α → Bool) (h : smWf d m = true) : smWf d (m.filter p) = true := by
  unfold smWf at *
  generalize 0 = lo at h ⊢
  induction m generalizing lo with
  | nil => rfl
  | cons e r ih =>
    simp only [smWfFrom, Bool.and_eq_true, decide_eq_true_eq] at h
    rw [List.filter_cons]
    split
    · simp only [smWfFrom, Bool.and_eq_true, decide_eq_true_eq]
      exact ⟨h.1, ih _ h.2⟩
    · exact smWfFrom_mono (ih _ h.2) (by omega)

/-- A write is read back. -/
@[simp] theorem smGet_smSet_same {d v : α} {m : SMap α} {k : Nat} : smGet d (smSet d m k v) k = v := by
  unfold smSet
  split
  · next hv =>
    subst hv
    induction m with
    | nil => rfl
    | cons e r ih =>
      obtain ⟨j, w⟩ := e
      simp only [smErase]
      split
      · exact ih
      · next he => simp only [smGet, if_neg he]; exact ih
  · induction m with
    | nil => simp [smInsert, smGet]
    | cons e r ih =>
      obtain ⟨j, w⟩ := e
      simp only [smInsert]
      split
      · simp [smGet]
      · split
        · simp [smGet]
        · next hlt he => simp only [smGet, if_neg he]; exact ih

/-- A write leaves every other key alone. -/
theorem smGet_smSet_other {d v : α} {m : SMap α} {k i : Nat} (hi : i ≠ k) :
    smGet d (smSet d m k v) i = smGet d m i := by
  unfold smSet
  split
  · induction m with
    | nil => rfl
    | cons e r ih =>
      obtain ⟨j, w⟩ := e
      simp only [smErase]
      split
      · next he => subst he; rw [ih]; simp only [smGet, if_neg (Ne.symm hi)]
      · simp only [smGet]; rw [ih]
  · induction m with
    | nil => simp only [smInsert, smGet, if_neg (Ne.symm hi)]
    | cons e r ih =>
      obtain ⟨j, w⟩ := e
      simp only [smInsert]
      split
      · simp only [smGet, if_neg (Ne.symm hi)]
      · split
        · next he => subst he; simp only [smGet, if_neg (Ne.symm hi)]
        · simp only [smGet]; rw [ih]

/-- Writing bytes keeps the canonical form. -/
theorem memPut_wf (bs : List Nat) (m : List Host.Cell) (a : Nat) (h : smWf (0 : Byte) m = true) :
    smWf (0 : Byte) (memPut m a bs) = true := by
  induction bs generalizing m a with
  | nil => exact h
  | cons b r ih => exact ih _ _ (smSet_wf h)

/-- Bytes outside the run written read as before. -/
theorem memByte_memPut_other (bs : List Nat) (m : List Host.Cell) (a i : Nat)
    (hi : i < a ∨ a + bs.length ≤ i) : memByte (memPut m a bs) i = memByte m i := by
  induction bs generalizing m a with
  | nil => rfl
  | cons b r ih =>
    simp only [List.length_cons] at hi
    unfold memPut
    rw [ih _ _ (by omega)]
    exact smGet_smSet_other (by omega)

/-- Bytes of the run written read back. -/
theorem memByte_memPut_same (bs : List Nat) (m : List Host.Cell) (a j : Nat)
    (hj : j < bs.length) : memByte (memPut m a bs) (a + j) = BitVec.ofNat 8 (bs.getD j 0) := by
  induction bs generalizing m a j with
  | nil => simp at hj
  | cons b r ih =>
    unfold memPut
    cases j with
    | zero =>
      rw [memByte_memPut_other r _ _ _ (by omega)]
      simp [memByte]
    | succ j =>
      have := ih (smSet 0 m a (BitVec.ofNat 8 b)) (a + 1) j (by simpa using hj)
      rw [show a + (j + 1) = a + 1 + j by omega, this]
      simp

end Sys2Proof.Machine
end

