-- ==== Sys2Proof/Laws/Frame.lean ====
section
/-! SUPPORT. What a run of operations may change: the clock and the model's counters only rise, the queue of commands is left
alone, memory keeps its canonical form, and only the parts of the state that a mask names may differ. One lemma per operation
(Laws/Frames*.lean) states it; this file holds the relation and the lemmas that build it. -/

namespace Sys2Proof.Machine

/-- The SQ slots of each pair's active descriptors. -/
def actIdx (x : WetexSt) : Vector (List Nat) 64 := x.rings.map fun q => q.act.map (·.idx)

/-- From `s` to `t` only the parts of the mask `m` may have changed. The bits follow the order of State's fields; bit 28 stands for
the active descriptors' SQ slots. -/
structure Moves (m : Nat) (s t : State) : Prop where
  now : s.now ≤ t.now
  free : s.free ≤ t.free
  nextId : s.nextId ≤ t.nextId
  pending : t.pending = s.pending
  memory : memWf s = true → memWf t = true
  regs : m.testBit 4 = true ∨ t.regs = s.regs
  seq : m.testBit 5 = true ∨ t.seq = s.seq
  jrn : m.testBit 6 = true ∨ t.jrn = s.jrn
  evt : m.testBit 7 = true ∨ t.evt = s.evt
  ports : m.testBit 8 = true ∨ t.ports = s.ports
  links : m.testBit 9 = true ∨ t.links = s.links
  train : m.testBit 10 = true ∨ t.train = s.train
  pcs : m.testBit 11 = true ∨ t.pcs = s.pcs
  dram : m.testBit 12 = true ∨ t.dram = s.dram
  scrub : m.testBit 13 = true ∨ t.scrub = s.scrub
  guard : m.testBit 14 = true ∨ t.guard = s.guard
  lagoon : m.testBit 15 = true ∨ t.lagoon = s.lagoon
  epochs : m.testBit 16 = true ∨ t.epochs = s.epochs
  stack : m.testBit 17 = true ∨ t.stack = s.stack
  transit : m.testBit 18 = true ∨ t.transit = s.transit
  jtag : m.testBit 19 = true ∨ t.jtag = s.jtag
  power : m.testBit 20 = true ∨ t.power = s.power
  start : m.testBit 21 = true ∨ t.start = s.start
  therm : m.testBit 22 = true ∨ t.therm = s.therm
  chrosy : m.testBit 23 = true ∨ t.chrosy = s.chrosy
  mirror : m.testBit 24 = true ∨ t.mirror = s.mirror
  fuse : m.testBit 25 = true ∨ t.fuse = s.fuse
  fw : m.testBit 26 = true ∨ t.fw = s.fw
  wetex : m.testBit 27 = true ∨ t.wetex = s.wetex
  acts : m.testBit 28 = true ∨ actIdx t.wetex = actIdx s.wetex

theorem Moves.refl (m : Nat) (s : State) : Moves m s s :=
  ⟨Nat.le_refl _, Nat.le_refl _, Nat.le_refl _, rfl, id, .inr rfl, .inr rfl, .inr rfl, .inr rfl, .inr rfl, .inr rfl, .inr rfl, .inr rfl, .inr rfl, .inr rfl, .inr rfl, .inr rfl, .inr rfl, .inr rfl, .inr rfl, .inr rfl, .inr rfl, .inr rfl, .inr rfl, .inr rfl, .inr rfl, .inr rfl, .inr rfl, .inr rfl, .inr rfl⟩

/-- A next state of `Out` moves as told; a stop says nothing. -/
def MovesO (m : Nat) (s : State) : Out → Prop
  | .next t => Moves m s t
  | _ => True

theorem MovesO.next {m : Nat} {s t : State} (h : Moves m s t) : MovesO m s (.next t) := h

theorem MovesO.whenDo {m : Nat} {s0 s t : State} {c : Bool} (h : Moves m s0 s) (k : Moves m s0 t) :
    MovesO m s0 (whenDo c s t) := by
  cases c
  · exact h
  · exact k

theorem Moves.of_eq {m : Nat} {s0 s t : State} (h : Moves m s0 s) (e : t = s) : Moves m s0 t := e ▸ h

theorem Moves.ite {m : Nat} {s0 a b : State} {c : Prop} [Decidable c] (h : Moves m s0 a) (k : Moves m s0 b) :
    Moves m s0 (if c then a else b) := by
  split
  · exact h
  · exact k

theorem MovesO.ite {m : Nat} {s0 : State} {a b : Out} {c : Prop} [Decidable c] (h : MovesO m s0 a) (k : MovesO m s0 b) :
    MovesO m s0 (if c then a else b) := by
  split
  · exact h
  · exact k

/-- A fold whose every step moves as told moves as told. -/
theorem Moves.foldl {m : Nat} {s0 s : State} {α : Type} (l : List α) (f : State → α → State)
    (h : Moves m s0 s) (k : ∀ a x, Moves m s0 a → Moves m s0 (f a x)) : Moves m s0 (l.foldl f s) := by
  induction l generalizing s with
  | nil => exact h
  | cons x l ih => exact ih (k s x h)

/-- The same for a fold that carries the state beside something else. -/
theorem Moves.foldl_snd {m : Nat} {s0 : State} {α β : Type} (l : List α) (f : β × State → α → β × State) (p : β × State)
    (h : Moves m s0 p.2) (k : ∀ a x, Moves m s0 a.2 → Moves m s0 (f a x).2) : Moves m s0 (l.foldl f p).2 := by
  induction l generalizing p with
  | nil => exact h
  | cons x l ih => exact ih (f p x) (k p x h)

/-- A record update moves as told where each part it changes is named by the mask. -/
theorem Moves.mk' {m : Nat} {s0 s : State} (h : Moves m s0 s)
    {regs' : RegSt} (h4 : m.testBit 4 = true ∨ regs' = s.regs)
    {seq' : SeqSt} (h5 : m.testBit 5 = true ∨ seq' = s.seq)
    {jrn' : JrnSt} (h6 : m.testBit 6 = true ∨ jrn' = s.jrn)
    {evt' : EvtSt} (h7 : m.testBit 7 = true ∨ evt' = s.evt)
    {ports' : Vector PortSt 16} (h8 : m.testBit 8 = true ∨ ports' = s.ports)
    {links' : Vector LinkSt 16} (h9 : m.testBit 9 = true ∨ links' = s.links)
    {train' : TrainSt} (h10 : m.testBit 10 = true ∨ train' = s.train)
    {pcs' : Vector PcSt 64} (h11 : m.testBit 11 = true ∨ pcs' = s.pcs)
    {dram' : DramSt} (h12 : m.testBit 12 = true ∨ dram' = s.dram) (hm : dram'.mem = s.dram.mem) (hc : dram'.chk = s.dram.chk)
    {scrub' : ScrubSt} (h13 : m.testBit 13 = true ∨ scrub' = s.scrub)
    {guard' : GuardSt} (h14 : m.testBit 14 = true ∨ guard' = s.guard)
    {lagoon' : LagoonSt} (h15 : m.testBit 15 = true ∨ lagoon' = s.lagoon)
    {epochs' : EpochSt} (h16 : m.testBit 16 = true ∨ epochs' = s.epochs)
    {stack' : StackSt} (h17 : m.testBit 17 = true ∨ stack' = s.stack)
    {transit' : TransitSt} (h18 : m.testBit 18 = true ∨ transit' = s.transit)
    {jtag' : JtagSt} (h19 : m.testBit 19 = true ∨ jtag' = s.jtag)
    {power' : PowerSt} (h20 : m.testBit 20 = true ∨ power' = s.power)
    {start' : StartSt} (h21 : m.testBit 21 = true ∨ start' = s.start)
    {therm' : ThermSt} (h22 : m.testBit 22 = true ∨ therm' = s.therm)
    {chrosy' : ChrosySt} (h23 : m.testBit 23 = true ∨ chrosy' = s.chrosy)
    {mirror' : MirrorSt} (h24 : m.testBit 24 = true ∨ mirror' = s.mirror)
    {fuse' : FuseSt} (h25 : m.testBit 25 = true ∨ fuse' = s.fuse)
    {fw' : FwSt} (h26 : m.testBit 26 = true ∨ fw' = s.fw)
    {wetex' : WetexSt} (h27 : m.testBit 27 = true ∨ wetex' = s.wetex)
    (ha : m.testBit 28 = true ∨ actIdx wetex' = actIdx s.wetex) :
    Moves m s0 { s with regs := regs', seq := seq', jrn := jrn', evt := evt', ports := ports', links := links', train := train', pcs := pcs', dram := dram', scrub := scrub', guard := guard', lagoon := lagoon', epochs := epochs', stack := stack', transit := transit', jtag := jtag', power := power', start := start', therm := therm', chrosy := chrosy', mirror := mirror', fuse := fuse', fw := fw', wetex := wetex' } := by
  obtain ⟨a1, a2, a3, a4, a5, b4, b5, b6, b7, b8, b9, b10, b11, b12, b13, b14, b15, b16, b17, b18, b19, b20, b21, b22, b23, b24, b25, b26, b27, b28⟩ := h
  refine ⟨a1, a2, a3, a4, ?_, ?_, ?_, ?_, ?_, ?_, ?_, ?_, ?_, ?_, ?_, ?_, ?_, ?_, ?_, ?_, ?_, ?_, ?_, ?_, ?_, ?_, ?_, ?_, ?_, ?_⟩
  · intro w
    have := a5 w
    unfold memWf at this ⊢
    rw [hm, hc]
    exact this
  · rcases h4 with h | h
    · exact .inl h
    · rcases b4 with b | b
      · exact .inl b
      · exact .inr (h.trans b)
  · rcases h5 with h | h
    · exact .inl h
    · rcases b5 with b | b
      · exact .inl b
      · exact .inr (h.trans b)
  · rcases h6 with h | h
    · exact .inl h
    · rcases b6 with b | b
      · exact .inl b
      · exact .inr (h.trans b)
  · rcases h7 with h | h
    · exact .inl h
    · rcases b7 with b | b
      · exact .inl b
      · exact .inr (h.trans b)
  · rcases h8 with h | h
    · exact .inl h
    · rcases b8 with b | b
      · exact .inl b
      · exact .inr (h.trans b)
  · rcases h9 with h | h
    · exact .inl h
    · rcases b9 with b | b
      · exact .inl b
      · exact .inr (h.trans b)
  · rcases h10 with h | h
    · exact .inl h
    · rcases b10 with b | b
      · exact .inl b
      · exact .inr (h.trans b)
  · rcases h11 with h | h
    · exact .inl h
    · rcases b11 with b | b
      · exact .inl b
      · exact .inr (h.trans b)
  · rcases h12 with h | h
    · exact .inl h
    · rcases b12 with b | b
      · exact .inl b
      · exact .inr (h.trans b)
  · rcases h13 with h | h
    · exact .inl h
    · rcases b13 with b | b
      · exact .inl b
      · exact .inr (h.trans b)
  · rcases h14 with h | h
    · exact .inl h
    · rcases b14 with b | b
      · exact .inl b
      · exact .inr (h.trans b)
  · rcases h15 with h | h
    · exact .inl h
    · rcases b15 with b | b
      · exact .inl b
      · exact .inr (h.trans b)
  · rcases h16 with h | h
    · exact .inl h
    · rcases b16 with b | b
      · exact .inl b
      · exact .inr (h.trans b)
  · rcases h17 with h | h
    · exact .inl h
    · rcases b17 with b | b
      · exact .inl b
      · exact .inr (h.trans b)
  · rcases h18 with h | h
    · exact .inl h
    · rcases b18 with b | b
      · exact .inl b
      · exact .inr (h.trans b)
  · rcases h19 with h | h
    · exact .inl h
    · rcases b19 with b | b
      · exact .inl b
      · exact .inr (h.trans b)
  · rcases h20 with h | h
    · exact .inl h
    · rcases b20 with b | b
      · exact .inl b
      · exact .inr (h.trans b)
  · rcases h21 with h | h
    · exact .inl h
    · rcases b21 with b | b
      · exact .inl b
      · exact .inr (h.trans b)
  · rcases h22 with h | h
    · exact .inl h
    · rcases b22 with b | b
      · exact .inl b
      · exact .inr (h.trans b)
  · rcases h23 with h | h
    · exact .inl h
    · rcases b23 with b | b
      · exact .inl b
      · exact .inr (h.trans b)
  · rcases h24 with h | h
    · exact .inl h
    · rcases b24 with b | b
      · exact .inl b
      · exact .inr (h.trans b)
  · rcases h25 with h | h
    · exact .inl h
    · rcases b25 with b | b
      · exact .inl b
      · exact .inr (h.trans b)
  · rcases h26 with h | h
    · exact .inl h
    · rcases b26 with b | b
      · exact .inl b
      · exact .inr (h.trans b)
  · rcases h27 with h | h
    · exact .inl h
    · rcases b27 with b | b
      · exact .inl b
      · exact .inr (h.trans b)
  · rcases ha with h | h
    · exact .inl h
    · rcases b28 with b | b
      · exact .inl b
      · exact .inr (h.trans b)

theorem State.atLeast_mv (s : State) (t : Nat) : Moves 16 s (s.atLeast t) := by
  unfold State.atLeast
  split
  · exact Moves.refl _ _
  · rename_i hlt
    exact ⟨Nat.le_of_lt (Nat.lt_of_not_le hlt), Nat.le_refl _, Nat.le_refl _, rfl, id, .inl rfl, .inr rfl, .inr rfl, .inr rfl, .inr rfl, .inr rfl, .inr rfl, .inr rfl, .inr rfl, .inr rfl, .inr rfl, .inr rfl, .inr rfl, .inr rfl, .inr rfl, .inr rfl, .inr rfl, .inr rfl, .inr rfl, .inr rfl, .inr rfl, .inr rfl, .inr rfl, .inr rfl, .inr rfl⟩

theorem State.tick_mv (s : State) : Moves 0 s s.tick :=
  ⟨Nat.le_refl _, Nat.le_refl _, Nat.le_succ _, rfl, id, .inr rfl, .inr rfl, .inr rfl, .inr rfl, .inr rfl, .inr rfl, .inr rfl, .inr rfl, .inr rfl, .inr rfl, .inr rfl, .inr rfl, .inr rfl, .inr rfl, .inr rfl, .inr rfl, .inr rfl, .inr rfl, .inr rfl, .inr rfl, .inr rfl, .inr rfl, .inr rfl, .inr rfl, .inr rfl⟩

theorem State.useFree_mv (s : State) : Moves 0 s s.useFree :=
  ⟨Nat.le_refl _, Nat.le_succ _, Nat.le_refl _, rfl, id, .inr rfl, .inr rfl, .inr rfl, .inr rfl, .inr rfl, .inr rfl, .inr rfl, .inr rfl, .inr rfl, .inr rfl, .inr rfl, .inr rfl, .inr rfl, .inr rfl, .inr rfl, .inr rfl, .inr rfl, .inr rfl, .inr rfl, .inr rfl, .inr rfl, .inr rfl, .inr rfl, .inr rfl, .inr rfl⟩

/-- New memory contents in canonical form, where the old ones were. -/
theorem State.dram_mv (s : State) (d : DramSt) (hm : smWf (0 : Byte) s.dram.mem = true → smWf (0 : Byte) d.mem = true)
    (hc : smWf (0 : Byte) s.dram.chk = true → smWf (0 : Byte) d.chk = true) : Moves 4096 s { s with dram := d } := by
  refine ⟨Nat.le_refl _, Nat.le_refl _, Nat.le_refl _, rfl, ?_, .inr rfl, .inr rfl, .inr rfl, .inr rfl, .inr rfl, .inr rfl, .inr rfl, .inr rfl, .inl rfl, .inr rfl, .inr rfl, .inr rfl, .inr rfl, .inr rfl, .inr rfl, .inr rfl, .inr rfl, .inr rfl, .inr rfl, .inr rfl, .inr rfl, .inr rfl, .inr rfl, .inr rfl, .inr rfl⟩
  intro w
  simp only [memWf, Bool.and_eq_true] at w ⊢
  exact ⟨hm w.1, hc w.2⟩

/-- Two moves in a row; the second's mask lies within the first's. -/
theorem Moves.step {m k : Nat} {s0 s t : State} (h : Moves m s0 s) (g : Moves k s t) (hk : k &&& m = k) : Moves m s0 t := by
  have bit (i : Nat) (hi : k.testBit i = true) : m.testBit i = true := by
    rw [← hk, Nat.testBit_and] at hi
    revert hi
    cases m.testBit i <;> simp
  obtain ⟨a1, a2, a3, a4, a5, b4, b5, b6, b7, b8, b9, b10, b11, b12, b13, b14, b15, b16, b17, b18, b19, b20, b21, b22, b23, b24, b25, b26, b27, b28⟩ := h
  obtain ⟨c1, c2, c3, c4, c5, d4, d5, d6, d7, d8, d9, d10, d11, d12, d13, d14, d15, d16, d17, d18, d19, d20, d21, d22, d23, d24, d25, d26, d27, d28⟩ := g
  refine ⟨Nat.le_trans a1 c1, Nat.le_trans a2 c2, Nat.le_trans a3 c3, c4.trans a4, fun w => c5 (a5 w), ?_, ?_, ?_, ?_, ?_, ?_, ?_, ?_, ?_, ?_, ?_, ?_, ?_, ?_, ?_, ?_, ?_, ?_, ?_, ?_, ?_, ?_, ?_, ?_, ?_⟩
  · exact d4.elim (fun h => .inl (bit _ h)) (fun h => b4.imp id h.trans)
  · exact d5.elim (fun h => .inl (bit _ h)) (fun h => b5.imp id h.trans)
  · exact d6.elim (fun h => .inl (bit _ h)) (fun h => b6.imp id h.trans)
  · exact d7.elim (fun h => .inl (bit _ h)) (fun h => b7.imp id h.trans)
  · exact d8.elim (fun h => .inl (bit _ h)) (fun h => b8.imp id h.trans)
  · exact d9.elim (fun h => .inl (bit _ h)) (fun h => b9.imp id h.trans)
  · exact d10.elim (fun h => .inl (bit _ h)) (fun h => b10.imp id h.trans)
  · exact d11.elim (fun h => .inl (bit _ h)) (fun h => b11.imp id h.trans)
  · exact d12.elim (fun h => .inl (bit _ h)) (fun h => b12.imp id h.trans)
  · exact d13.elim (fun h => .inl (bit _ h)) (fun h => b13.imp id h.trans)
  · exact d14.elim (fun h => .inl (bit _ h)) (fun h => b14.imp id h.trans)
  · exact d15.elim (fun h => .inl (bit _ h)) (fun h => b15.imp id h.trans)
  · exact d16.elim (fun h => .inl (bit _ h)) (fun h => b16.imp id h.trans)
  · exact d17.elim (fun h => .inl (bit _ h)) (fun h => b17.imp id h.trans)
  · exact d18.elim (fun h => .inl (bit _ h)) (fun h => b18.imp id h.trans)
  · exact d19.elim (fun h => .inl (bit _ h)) (fun h => b19.imp id h.trans)
  · exact d20.elim (fun h => .inl (bit _ h)) (fun h => b20.imp id h.trans)
  · exact d21.elim (fun h => .inl (bit _ h)) (fun h => b21.imp id h.trans)
  · exact d22.elim (fun h => .inl (bit _ h)) (fun h => b22.imp id h.trans)
  · exact d23.elim (fun h => .inl (bit _ h)) (fun h => b23.imp id h.trans)
  · exact d24.elim (fun h => .inl (bit _ h)) (fun h => b24.imp id h.trans)
  · exact d25.elim (fun h => .inl (bit _ h)) (fun h => b25.imp id h.trans)
  · exact d26.elim (fun h => .inl (bit _ h)) (fun h => b26.imp id h.trans)
  · exact d27.elim (fun h => .inl (bit _ h)) (fun h => b27.imp id h.trans)
  · exact d28.elim (fun h => .inl (bit _ h)) (fun h => b28.imp id h.trans)

/-- A pair's descriptors are changed one by one. -/
theorem actIdx_set (x : WetexSt) (r : Fin 64) (q : WxRing) (h : q.act.map (·.idx) = x.rings[r].act.map (·.idx)) :
    actIdx { x with rings := x.rings.set r q } = actIdx x := by
  apply Vector.ext
  intro i hi
  simp only [actIdx, Vector.getElem_map, Vector.getElem_set]
  split
  · next e => subst e; exact h
  · rfl

/-- Every pair's descriptors are changed one by one. -/
theorem actIdx_map (x : WetexSt) (g : WxRing → WxRing) (h : ∀ q, (g q).act.map (·.idx) = q.act.map (·.idx)) :
    actIdx { x with rings := x.rings.map g } = actIdx x := by
  apply Vector.ext
  intro i hi
  simp only [actIdx, Vector.getElem_map]
  exact h _

theorem MovesO.of_moves {m k : Nat} {s0 s : State} {o : Out} (h : Moves m s0 s) (g : MovesO k s o) (hk : k &&& m = k) :
    MovesO m s0 o := by
  cases o with
  | next t => exact h.step g hk
  | fault _ => trivial
  | refused _ => trivial

theorem Moves.getD {m : Nat} {s0 t : State} {o : Option State} (h : Moves m s0 t) (k : ∀ x, o = some x → Moves m s0 x) :
    Moves m s0 (o.getD t) := by
  cases o with
  | none => exact h
  | some x => exact k x rfl

theorem Moves.cut {P Q : Prop} (h : P) (k : P → Q) : Q := k h

theorem Moves.ite1 {α : Type} {m : Nat} {s : State} {c : Prop} [Decidable c] {a b : State × α} (h : Moves m s a.1)
    (k : Moves m s b.1) : Moves m s (if c then a else b).1 := by
  split
  · exact h
  · exact k

theorem Moves.ite2 {α : Type} {m : Nat} {s : State} {c : Prop} [Decidable c] {a b : α × State} (h : Moves m s a.2)
    (k : Moves m s b.2) : Moves m s (if c then a else b).2 := by
  split
  · exact h
  · exact k

theorem Moves.ite3 {α β : Type} {m : Nat} {s : State} {c : Prop} [Decidable c] {a b : α × β × State} (h : Moves m s a.2.2)
    (k : Moves m s b.2.2) : Moves m s (if c then a else b).2.2 := by
  split
  · exact h
  · exact k

theorem Moves.snd {α : Type} {m : Nat} {s b : State} {a : α} {p : α × State} (e : p = (a, b)) (h : Moves m s p.2) :
    Moves m s b := by
  subst e
  exact h

theorem Moves.fst {α : Type} {m : Nat} {s b : State} {a : α} {p : State × α} (e : p = (b, a)) (h : Moves m s p.1) :
    Moves m s b := by
  subst e
  exact h

theorem Moves.thd {α β : Type} {m : Nat} {s b : State} {a : α} {c : β} {p : α × β × State} (e : p = (a, c, b))
    (h : Moves m s p.2.2) : Moves m s b := by
  subst e
  exact h

end Sys2Proof.Machine
end

