-- ==== Sys2Proof/Laws/FrameOps.lean ====
section
/-! SUPPORT. What each operation of Machine/Ops.lean may change, one lemma an operation (`<name>_mv`): the components its
mask names, and nothing else of the state. -/

namespace Sys2Proof.Machine

theorem State.modPort_mv (x0 : State) (x1 : Port) (x2 : PortSt → PortSt) : Moves 256 x0 (State.modPort x0 x1 x2) := by
  unfold State.modPort
  with_reducible exact Moves.mk' (m := 256) (Moves.refl _ _) (.inr rfl) (.inr rfl) (.inr rfl) (.inr rfl) (.inl rfl) (.inr rfl) (.inr rfl) (.inr rfl) (.inr rfl) rfl rfl (.inr rfl) (.inr rfl) (.inr rfl) (.inr rfl) (.inr rfl) (.inr rfl) (.inr rfl) (.inr rfl) (.inr rfl) (.inr rfl) (.inr rfl) (.inr rfl) (.inr rfl) (.inr rfl) (.inr rfl) (.inr rfl)

theorem State.modLink_mv (x0 : State) (x1 : Port) (x2 : LinkSt → LinkSt) : Moves 512 x0 (State.modLink x0 x1 x2) := by
  unfold State.modLink
  with_reducible exact Moves.mk' (m := 512) (Moves.refl _ _) (.inr rfl) (.inr rfl) (.inr rfl) (.inr rfl) (.inr rfl) (.inl rfl) (.inr rfl) (.inr rfl) (.inr rfl) rfl rfl (.inr rfl) (.inr rfl) (.inr rfl) (.inr rfl) (.inr rfl) (.inr rfl) (.inr rfl) (.inr rfl) (.inr rfl) (.inr rfl) (.inr rfl) (.inr rfl) (.inr rfl) (.inr rfl) (.inr rfl) (.inr rfl)

theorem State.modPc_mv (x0 : State) (x1 : Pc) (x2 : PcSt → PcSt) : Moves 2048 x0 (State.modPc x0 x1 x2) := by
  unfold State.modPc
  with_reducible exact Moves.mk' (m := 2048) (Moves.refl _ _) (.inr rfl) (.inr rfl) (.inr rfl) (.inr rfl) (.inr rfl) (.inr rfl) (.inr rfl) (.inl rfl) (.inr rfl) rfl rfl (.inr rfl) (.inr rfl) (.inr rfl) (.inr rfl) (.inr rfl) (.inr rfl) (.inr rfl) (.inr rfl) (.inr rfl) (.inr rfl) (.inr rfl) (.inr rfl) (.inr rfl) (.inr rfl) (.inr rfl) (.inr rfl)

theorem csrSet_mv (x0 : State) (x1 : Nat) (x2 : Nat) : Moves 16 x0 (csrSet x0 x1 x2) := by
  unfold csrSet
  with_reducible exact Moves.mk' (m := 16) (Moves.refl _ _) (.inl rfl) (.inr rfl) (.inr rfl) (.inr rfl) (.inr rfl) (.inr rfl) (.inr rfl) (.inr rfl) (.inr rfl) rfl rfl (.inr rfl) (.inr rfl) (.inr rfl) (.inr rfl) (.inr rfl) (.inr rfl) (.inr rfl) (.inr rfl) (.inr rfl) (.inr rfl) (.inr rfl) (.inr rfl) (.inr rfl) (.inr rfl) (.inr rfl) (.inr rfl)

theorem hwFld_mv (x0 : State) (x1 : Nat) (x2 : Nat) (x3 : Nat) (x4 : Nat) : Moves 16 x0 (hwFld x0 x1 x2 x3 x4) := by
  unfold hwFld
  lift_lets
  (intro s1; refine Moves.cut (P := Moves 16 x0 s1) ?_ ?_; rotate_left; intro h1; clear_value s1)
  (intro c2; clear_value c2)
  with_reducible exact Moves.mk' (m := 16) (by assumption) (.inl rfl) (.inr rfl) (.inr rfl) (.inr rfl) (.inr rfl) (.inr rfl) (.inr rfl) (.inr rfl) (.inr rfl) rfl rfl (.inr rfl) (.inr rfl) (.inr rfl) (.inr rfl) (.inr rfl) (.inr rfl) (.inr rfl) (.inr rfl) (.inr rfl) (.inr rfl) (.inr rfl) (.inr rfl) (.inr rfl) (.inr rfl) (.inr rfl) (.inr rfl)
  subst s1
  with_reducible refine Moves.step ?_ (csrSet_mv _ _ _) rfl
  with_reducible exact Moves.refl _ _

theorem bump_mv (x0 : Nat) (x1 : Nat) (x2 : State) : Moves 16 x2 (bump x0 x1 x2) := by
  unfold bump
  lift_lets
  (intro s1; refine Moves.cut (P := Moves 16 x2 s1) ?_ ?_; rotate_left; intro h1; clear_value s1)
  (intro c2; clear_value c2)
  with_reducible exact Moves.mk' (m := 16) (by assumption) (.inl rfl) (.inr rfl) (.inr rfl) (.inr rfl) (.inr rfl) (.inr rfl) (.inr rfl) (.inr rfl) (.inr rfl) rfl rfl (.inr rfl) (.inr rfl) (.inr rfl) (.inr rfl) (.inr rfl) (.inr rfl) (.inr rfl) (.inr rfl) (.inr rfl) (.inr rfl) (.inr rfl) (.inr rfl) (.inr rfl) (.inr rfl) (.inr rfl) (.inr rfl)
  subst s1
  with_reducible refine Moves.step ?_ (csrSet_mv _ _ _) rfl
  with_reducible exact Moves.refl _ _

theorem before_mv (x0 : State) : Moves 16 x0 (before x0) := by
  unfold before
  split
  with_reducible exact Moves.mk' (m := 16) (Moves.refl _ _) (.inl rfl) (.inr rfl) (.inr rfl) (.inr rfl) (.inr rfl) (.inr rfl) (.inr rfl) (.inr rfl) (.inr rfl) rfl rfl (.inr rfl) (.inr rfl) (.inr rfl) (.inr rfl) (.inr rfl) (.inr rfl) (.inr rfl) (.inr rfl) (.inr rfl) (.inr rfl) (.inr rfl) (.inr rfl) (.inr rfl) (.inr rfl) (.inr rfl) (.inr rfl)
  with_reducible exact Moves.refl _ _

theorem keepCsr_mv (x0 : State) : Moves 16 x0 (keepCsr x0) := by
  unfold keepCsr
  with_reducible exact Moves.mk' (m := 16) (Moves.refl _ _) (.inl rfl) (.inr rfl) (.inr rfl) (.inr rfl) (.inr rfl) (.inr rfl) (.inr rfl) (.inr rfl) (.inr rfl) rfl rfl (.inr rfl) (.inr rfl) (.inr rfl) (.inr rfl) (.inr rfl) (.inr rfl) (.inr rfl) (.inr rfl) (.inr rfl) (.inr rfl) (.inr rfl) (.inr rfl) (.inr rfl) (.inr rfl) (.inr rfl) (.inr rfl)

theorem formEntry_mv (x0 : State) (x1 : Nat) (x2 : Nat) (x3 : Nat) : Moves 96 x0 (formEntry x0 x1 x2 x3) := by
  unfold formEntry
  lift_lets
  (intro c1; clear_value c1)
  (intro c2; clear_value c2)
  (intro c3; clear_value c3)
  with_reducible exact Moves.mk' (m := 96) (Moves.refl _ _) (.inr rfl) (.inl rfl) (.inl rfl) (.inr rfl) (.inr rfl) (.inr rfl) (.inr rfl) (.inr rfl) (.inr rfl) rfl rfl (.inr rfl) (.inr rfl) (.inr rfl) (.inr rfl) (.inr rfl) (.inr rfl) (.inr rfl) (.inr rfl) (.inr rfl) (.inr rfl) (.inr rfl) (.inr rfl) (.inr rfl) (.inr rfl) (.inr rfl) (.inr rfl)

theorem deliverFatal_mv (x0 : State) (x1 : EvRec) : Moves 128 x0 (deliverFatal x0 x1) := by
  unfold deliverFatal
  with_reducible refine Moves.ite ?_ ?_
  with_reducible exact Moves.mk' (m := 128) (Moves.refl _ _) (.inr rfl) (.inr rfl) (.inr rfl) (.inl rfl) (.inr rfl) (.inr rfl) (.inr rfl) (.inr rfl) (.inr rfl) rfl rfl (.inr rfl) (.inr rfl) (.inr rfl) (.inr rfl) (.inr rfl) (.inr rfl) (.inr rfl) (.inr rfl) (.inr rfl) (.inr rfl) (.inr rfl) (.inr rfl) (.inr rfl) (.inr rfl) (.inr rfl) (.inr rfl)
  with_reducible exact Moves.refl _ _

theorem deliverRing_mv (x0 : State) (x1 : Fin 4) (x2 : EvRec) : Moves 144 x0 (deliverRing x0 x1 x2).1 := by
  unfold deliverRing
  lift_lets
  (intro c1; clear_value c1)
  (intro c2; clear_value c2)
  (intro s3; refine Moves.cut (P := Moves 144 x0 s3) ?_ ?_; rotate_left; intro h3; clear_value s3)
  dsimp -zeta only
  with_reducible refine Moves.ite ?_ ?_
  with_reducible refine Moves.step ?_ (bump_mv _ _ _) rfl
  assumption
  assumption
  subst s3
  with_reducible exact Moves.mk' (m := 144) (Moves.refl _ _) (.inl rfl) (.inr rfl) (.inr rfl) (.inl rfl) (.inr rfl) (.inr rfl) (.inr rfl) (.inr rfl) (.inr rfl) rfl rfl (.inr rfl) (.inr rfl) (.inr rfl) (.inr rfl) (.inr rfl) (.inr rfl) (.inr rfl) (.inr rfl) (.inr rfl) (.inr rfl) (.inr rfl) (.inr rfl) (.inr rfl) (.inr rfl) (.inr rfl) (.inr rfl)

theorem deliverSigs_mv (x0 : State) (x1 : EvRec) : Moves 272 x0 (deliverSigs x0 x1) := by
  unfold deliverSigs
  with_reducible refine Moves.ite ?_ ?_
  lift_lets
  (intro c2; clear_value c2)
  with_reducible exact Moves.mk' (m := 272) (Moves.refl _ _) (.inl rfl) (.inr rfl) (.inr rfl) (.inr rfl) (.inl rfl) (.inr rfl) (.inr rfl) (.inr rfl) (.inr rfl) rfl rfl (.inr rfl) (.inr rfl) (.inr rfl) (.inr rfl) (.inr rfl) (.inr rfl) (.inr rfl) (.inr rfl) (.inr rfl) (.inr rfl) (.inr rfl) (.inr rfl) (.inr rfl) (.inr rfl) (.inr rfl) (.inr rfl)
  with_reducible exact Moves.refl _ _

theorem deliverMgmt_mv (x0 : State) (x1 : EvRec) : Moves 144 x0 (deliverMgmt x0 x1) := by
  unfold deliverMgmt
  with_reducible refine Moves.ite ?_ ?_
  with_reducible exact Moves.mk' (m := 144) (Moves.refl _ _) (.inl rfl) (.inr rfl) (.inr rfl) (.inl rfl) (.inr rfl) (.inr rfl) (.inr rfl) (.inr rfl) (.inr rfl) rfl rfl (.inr rfl) (.inr rfl) (.inr rfl) (.inr rfl) (.inr rfl) (.inr rfl) (.inr rfl) (.inr rfl) (.inr rfl) (.inr rfl) (.inr rfl) (.inr rfl) (.inr rfl) (.inr rfl) (.inr rfl) (.inr rfl)
  with_reducible exact Moves.refl _ _

theorem deliver_mv (x0 : State) (x1 : EvRec) : Moves 400 x0 (deliver x0 x1).1 := by
  have h : Moves 400 x0 (deliverFatal x0 x1) := (Moves.refl _ _).step (deliverFatal_mv _ _) rfl
  unfold deliver
  dsimp only
  split
  · exact h
  · exact ((h.step (deliverRing_mv _ _ _) rfl).step (deliverSigs_mv _ _) rfl).step (deliverMgmt_mv _ _) rfl

theorem issueEvent_mv (x0 : State) (x1 : Nat) (x2 : Nat) (x3 : Nat) (x4 : Nat) (x5 : Nat) (x6 : Bool) (x7 : Bool) (x8 : Bool) : Moves 496 x0 (issueEvent x0 x1 x2 x3 x4 x5 x6 x7 x8).1 := by
  unfold issueEvent
  lift_lets
  (intro c1; clear_value c1)
  (intro s2; refine Moves.cut (P := Moves 496 x0 s2) ?_ ?_; rotate_left; intro h2; clear_value s2)
  (intro c3; clear_value c3)
  (intro c4; clear_value c4)
  with_reducible refine Moves.step ?_ (deliver_mv _ _) rfl
  with_reducible exact Moves.mk' (m := 496) (by assumption) (.inl rfl) (.inl rfl) (.inl rfl) (.inl rfl) (.inl rfl) (.inr rfl) (.inr rfl) (.inr rfl) (.inr rfl) rfl rfl (.inr rfl) (.inr rfl) (.inr rfl) (.inr rfl) (.inr rfl) (.inr rfl) (.inr rfl) (.inr rfl) (.inr rfl) (.inr rfl) (.inr rfl) (.inr rfl) (.inr rfl) (.inr rfl) (.inr rfl) (.inr rfl)
  subst s2
  with_reducible refine Moves.ite ?_ ?_
  with_reducible refine Moves.step ?_ (formEntry_mv _ _ _ _) rfl
  with_reducible exact Moves.refl _ _
  with_reducible exact Moves.refl _ _

theorem journal_mv (x0 : State) (x1 : Nat) (x2 : Nat) (x3 : Nat) : Moves 96 x0 (journal x0 x1 x2 x3) := by
  unfold journal
  with_reducible refine Moves.ite ?_ ?_
  with_reducible refine Moves.step ?_ (formEntry_mv _ _ _ _) rfl
  with_reducible exact Moves.refl _ _
  with_reducible exact Moves.mk' (m := 96) (Moves.refl _ _) (.inr rfl) (.inl rfl) (.inl rfl) (.inr rfl) (.inr rfl) (.inr rfl) (.inr rfl) (.inr rfl) (.inr rfl) rfl rfl (.inr rfl) (.inr rfl) (.inr rfl) (.inr rfl) (.inr rfl) (.inr rfl) (.inr rfl) (.inr rfl) (.inr rfl) (.inr rfl) (.inr rfl) (.inr rfl) (.inr rfl) (.inr rfl) (.inr rfl) (.inr rfl)

theorem limitSet_mv (x0 : State) (x1 : Nat) (x2 : Nat × Nat) : Moves 128 x0 (limitSet x0 x1 x2) := by
  unfold limitSet
  with_reducible exact Moves.mk' (m := 128) (Moves.refl _ _) (.inr rfl) (.inr rfl) (.inr rfl) (.inl rfl) (.inr rfl) (.inr rfl) (.inr rfl) (.inr rfl) (.inr rfl) rfl rfl (.inr rfl) (.inr rfl) (.inr rfl) (.inr rfl) (.inr rfl) (.inr rfl) (.inr rfl) (.inr rfl) (.inr rfl) (.inr rfl) (.inr rfl) (.inr rfl) (.inr rfl) (.inr rfl) (.inr rfl) (.inr rfl)

theorem raiseLost_mv (x0 : State) (x1 : Fin 4) : Moves 496 x0 (raiseLost x0 x1) := by
  unfold raiseLost
  lift_lets
  (intro c1; clear_value c1)
  (intro c2; clear_value c2)
  (intro s3; refine Moves.cut (P := Moves 496 x0 s3) ?_ ?_; rotate_left; intro h3; clear_value s3)
  (intro c4; clear_value c4)
  (intro c5; clear_value c5)
  (intro s6; refine Moves.cut (P := Moves 496 x0 s6) ?_ ?_; rotate_left; intro h6; clear_value s6)
  split
  with_reducible exact Moves.refl _ _
  with_reducible refine Moves.step ?_ (issueEvent_mv _ _ _ _ _ _ _ _ _) rfl
  assumption
  subst s3
  with_reducible refine Moves.step ?_ (limitSet_mv _ _ _) rfl
  with_reducible exact Moves.refl _ _
  subst s6
  with_reducible exact Moves.mk' (m := 496) (by assumption) (.inl rfl) (.inl rfl) (.inl rfl) (.inl rfl) (.inl rfl) (.inr rfl) (.inr rfl) (.inr rfl) (.inr rfl) rfl rfl (.inr rfl) (.inr rfl) (.inr rfl) (.inr rfl) (.inr rfl) (.inr rfl) (.inr rfl) (.inr rfl) (.inr rfl) (.inr rfl) (.inr rfl) (.inr rfl) (.inr rfl) (.inr rfl) (.inr rfl) (.inr rfl)

theorem raiseX_mv (x0 : State) (x1 : Nat) (x2 : Nat) (x3 : Nat) (x4 : Nat) (x5 : Nat) (x6 : Bool) (x7 : Bool) (x8 : Bool) : Moves 496 x0 (raiseX x0 x1 x2 x3 x4 x5 x6 x7 x8) := by
  unfold raiseX
  with_reducible refine Moves.ite ?_ ?_
  split
  split
  with_reducible refine Moves.step ?_ (raiseLost_mv _ _) rfl
  with_reducible refine Moves.step ?_ (Moves.fst (by assumption) (issueEvent_mv _ _ _ _ _ _ _ _ _)) rfl
  with_reducible exact Moves.refl _ _
  with_reducible refine Moves.step ?_ (Moves.fst (by assumption) (issueEvent_mv _ _ _ _ _ _ _ _ _)) rfl
  with_reducible exact Moves.refl _ _
  with_reducible exact Moves.mk' (m := 496) (Moves.refl _ _) (.inl rfl) (.inl rfl) (.inl rfl) (.inl rfl) (.inl rfl) (.inr rfl) (.inr rfl) (.inr rfl) (.inr rfl) rfl rfl (.inr rfl) (.inr rfl) (.inr rfl) (.inr rfl) (.inr rfl) (.inr rfl) (.inr rfl) (.inr rfl) (.inr rfl) (.inr rfl) (.inr rfl) (.inr rfl) (.inr rfl) (.inr rfl) (.inr rfl) (.inr rfl)

theorem raise_mv (x0 : State) (x1 : Nat) (x2 : Nat) (x3 : Nat) (x4 : Nat) (x5 : Nat) : Moves 496 x0 (raise x0 x1 x2 x3 x4 x5) := by
  unfold raise
  with_reducible refine Moves.step ?_ (raiseX_mv _ _ _ _ _ _ _ _ _) rfl
  with_reducible exact Moves.refl _ _

theorem raiseJ_mv (x0 : State) (x1 : Nat) (x2 : Nat) (x3 : Nat) (x4 : Nat) (x5 : Nat) : Moves 496 x0 (raiseJ x0 x1 x2 x3 x4 x5) := by
  unfold raiseJ
  with_reducible refine Moves.step ?_ (raiseX_mv _ _ _ _ _ _ _ _ _) rfl
  with_reducible exact Moves.refl _ _

theorem raiseLim_mv (x0 : State) (x1 : Nat) (x2 : Nat) (x3 : Nat) (x4 : Nat) (x5 : Nat) (x6 : Nat) (x7 : Nat) (x8 : Nat) (x9 : Bool) : Moves 496 x0 (raiseLim x0 x1 x2 x3 x4 x5 x6 x7 x8 x9) := by
  unfold raiseLim
  split
  split
  with_reducible refine Moves.step ?_ (limitSet_mv _ _ _) rfl
  with_reducible exact Moves.refl _ _
  lift_lets
  (intro s5; refine Moves.cut (P := Moves 496 x0 s5) ?_ ?_; rotate_left; intro h5; clear_value s5)
  with_reducible refine Moves.step ?_ (raiseX_mv _ _ _ _ _ _ _ _ _) rfl
  assumption
  subst s5
  with_reducible refine Moves.step ?_ (limitSet_mv _ _ _) rfl
  with_reducible exact Moves.refl _ _

theorem journalReg_mv (x0 : State) (x1 : Nat) (x2 : Nat) (x3 : Nat) (x4 : Nat) : Moves 96 x0 (journalReg x0 x1 x2 x3 x4) := by
  unfold journalReg
  with_reducible refine Moves.step ?_ (journal_mv _ _ _ _) rfl
  with_reducible exact Moves.refl _ _

theorem regAccess_mv (x0 : State) (x1 : Nat) (x2 : Nat) (x3 : Nat) : Moves 496 x0 (regAccess x0 x1 x2 x3) := by
  unfold regAccess
  with_reducible refine Moves.step ?_ (raiseLim_mv _ _ _ _ _ _ _ _ _ _) rfl
  with_reducible exact Moves.refl _ _

theorem regDw_mv (x0 : State) (x1 : Nat) (x2 : Nat) (x3 : Nat) : Moves 496 x0 (regDw x0 x1 x2 x3) := by
  unfold regDw
  with_reducible refine Moves.step ?_ (raiseLim_mv _ _ _ _ _ _ _ _ _ _) rfl
  with_reducible exact Moves.refl _ _

theorem dwHardware_mv (x0 : State) (x1 : Nat) : Moves 496 x0 (dwHardware x0 x1) := by
  unfold dwHardware
  lift_lets
  (intro c1; clear_value c1)
  (intro s2; refine Moves.cut (P := Moves 496 x0 s2) ?_ ?_; rotate_left; intro h2; clear_value s2)
  (intro c3; clear_value c3)
  split
  with_reducible refine Moves.ite ?_ ?_
  with_reducible refine Moves.step ?_ (regDw_mv _ _ _ _) rfl
  with_reducible exact Moves.mk' (m := 496) (by assumption) (.inl rfl) (.inl rfl) (.inl rfl) (.inl rfl) (.inl rfl) (.inr rfl) (.inr rfl) (.inr rfl) (.inr rfl) rfl rfl (.inr rfl) (.inr rfl) (.inr rfl) (.inr rfl) (.inr rfl) (.inr rfl) (.inr rfl) (.inr rfl) (.inr rfl) (.inr rfl) (.inr rfl) (.inr rfl) (.inr rfl) (.inr rfl) (.inr rfl) (.inr rfl)
  assumption
  assumption
  subst s2
  split
  with_reducible refine Moves.ite ?_ ?_
  with_reducible refine Moves.step ?_ (regDw_mv _ _ _ _) rfl
  with_reducible exact Moves.mk' (m := 496) (Moves.refl _ _) (.inl rfl) (.inl rfl) (.inl rfl) (.inl rfl) (.inl rfl) (.inr rfl) (.inr rfl) (.inr rfl) (.inr rfl) rfl rfl (.inr rfl) (.inr rfl) (.inr rfl) (.inr rfl) (.inr rfl) (.inr rfl) (.inr rfl) (.inr rfl) (.inr rfl) (.inr rfl) (.inr rfl) (.inr rfl) (.inr rfl) (.inr rfl) (.inr rfl) (.inr rfl)
  with_reducible exact Moves.refl _ _
  with_reducible exact Moves.refl _ _

theorem issueHeld_mv (x0 : State) (x1 : Held) : Moves 496 x0 (issueHeld x0 x1) := by
  unfold issueHeld
  split
  with_reducible refine Moves.step ?_ (formEntry_mv _ _ _ _) rfl
  with_reducible exact Moves.refl _ _
  with_reducible refine Moves.step ?_ (issueEvent_mv _ _ _ _ _ _ _ _ _) rfl
  with_reducible exact Moves.refl _ _

theorem respond_mv (x0 : State) (x1 : Port) (x2 : Resp) : Moves 272 x0 (respond x0 x1 x2) := by
  unfold respond
  lift_lets
  (intro s1; refine Moves.cut (P := Moves 272 x0 s1) ?_ ?_; rotate_left; intro h1; clear_value s1)
  with_reducible refine Moves.ite ?_ ?_
  with_reducible refine Moves.step ?_ (bump_mv _ _ _) rfl
  assumption
  assumption
  subst s1
  with_reducible refine Moves.step ?_ (State.modPort_mv _ _ _) rfl
  with_reducible exact Moves.refl _ _

theorem pctlSend_mv (x0 : State) (x1 : Port) (x2 : Nat) (x3 : Nat) (x4 : Bool) : Moves 512 x0 (pctlSend x0 x1 x2 x3 x4) := by
  unfold pctlSend
  with_reducible refine Moves.step ?_ (State.modLink_mv _ _ _) rfl
  with_reducible exact Moves.refl _ _

theorem protoEvent_mv (x0 : State) (x1 : Port) (x2 : Nat) (x3 : Nat) : Moves 496 x0 (protoEvent x0 x1 x2 x3) := by
  unfold protoEvent
  with_reducible refine Moves.step ?_ (raiseLim_mv _ _ _ _ _ _ _ _ _ _) rfl
  with_reducible exact Moves.refl _ _

end Sys2Proof.Machine
end

