-- ==== Sys2Proof/Laws/State.lean ====
section
/-! SUPPORT. One lemma a component an update: what an update leaves as it was, and what it writes. -/

namespace Sys2Proof.Machine

@[simp] theorem State.modPort_now (s : State) (p : Port) (f : PortSt → PortSt) : (s.modPort p f).now = s.now := rfl
@[simp] theorem State.modPort_free (s : State) (p : Port) (f : PortSt → PortSt) : (s.modPort p f).free = s.free := rfl
@[simp] theorem State.modPort_nextId (s : State) (p : Port) (f : PortSt → PortSt) : (s.modPort p f).nextId = s.nextId := rfl
@[simp] theorem State.modPort_pending (s : State) (p : Port) (f : PortSt → PortSt) : (s.modPort p f).pending = s.pending := rfl
@[simp] theorem State.modPort_regs (s : State) (p : Port) (f : PortSt → PortSt) : (s.modPort p f).regs = s.regs := rfl
@[simp] theorem State.modPort_seq (s : State) (p : Port) (f : PortSt → PortSt) : (s.modPort p f).seq = s.seq := rfl
@[simp] theorem State.modPort_jrn (s : State) (p : Port) (f : PortSt → PortSt) : (s.modPort p f).jrn = s.jrn := rfl
@[simp] theorem State.modPort_evt (s : State) (p : Port) (f : PortSt → PortSt) : (s.modPort p f).evt = s.evt := rfl
@[simp] theorem State.modPort_links (s : State) (p : Port) (f : PortSt → PortSt) : (s.modPort p f).links = s.links := rfl
@[simp] theorem State.modPort_train (s : State) (p : Port) (f : PortSt → PortSt) : (s.modPort p f).train = s.train := rfl
@[simp] theorem State.modPort_pcs (s : State) (p : Port) (f : PortSt → PortSt) : (s.modPort p f).pcs = s.pcs := rfl
@[simp] theorem State.modPort_dram (s : State) (p : Port) (f : PortSt → PortSt) : (s.modPort p f).dram = s.dram := rfl
@[simp] theorem State.modPort_scrub (s : State) (p : Port) (f : PortSt → PortSt) : (s.modPort p f).scrub = s.scrub := rfl
@[simp] theorem State.modPort_guard (s : State) (p : Port) (f : PortSt → PortSt) : (s.modPort p f).guard = s.guard := rfl
@[simp] theorem State.modPort_lagoon (s : State) (p : Port) (f : PortSt → PortSt) : (s.modPort p f).lagoon = s.lagoon := rfl
@[simp] theorem State.modPort_epochs (s : State) (p : Port) (f : PortSt → PortSt) : (s.modPort p f).epochs = s.epochs := rfl
@[simp] theorem State.modPort_stack (s : State) (p : Port) (f : PortSt → PortSt) : (s.modPort p f).stack = s.stack := rfl
@[simp] theorem State.modPort_transit (s : State) (p : Port) (f : PortSt → PortSt) : (s.modPort p f).transit = s.transit := rfl
@[simp] theorem State.modPort_jtag (s : State) (p : Port) (f : PortSt → PortSt) : (s.modPort p f).jtag = s.jtag := rfl
@[simp] theorem State.modPort_power (s : State) (p : Port) (f : PortSt → PortSt) : (s.modPort p f).power = s.power := rfl
@[simp] theorem State.modPort_start (s : State) (p : Port) (f : PortSt → PortSt) : (s.modPort p f).start = s.start := rfl
@[simp] theorem State.modPort_therm (s : State) (p : Port) (f : PortSt → PortSt) : (s.modPort p f).therm = s.therm := rfl
@[simp] theorem State.modPort_chrosy (s : State) (p : Port) (f : PortSt → PortSt) : (s.modPort p f).chrosy = s.chrosy := rfl
@[simp] theorem State.modPort_mirror (s : State) (p : Port) (f : PortSt → PortSt) : (s.modPort p f).mirror = s.mirror := rfl
@[simp] theorem State.modPort_fuse (s : State) (p : Port) (f : PortSt → PortSt) : (s.modPort p f).fuse = s.fuse := rfl
@[simp] theorem State.modPort_fw (s : State) (p : Port) (f : PortSt → PortSt) : (s.modPort p f).fw = s.fw := rfl
@[simp] theorem State.modPort_wetex (s : State) (p : Port) (f : PortSt → PortSt) : (s.modPort p f).wetex = s.wetex := rfl

@[simp] theorem State.modLink_now (s : State) (p : Port) (f : LinkSt → LinkSt) : (s.modLink p f).now = s.now := rfl
@[simp] theorem State.modLink_free (s : State) (p : Port) (f : LinkSt → LinkSt) : (s.modLink p f).free = s.free := rfl
@[simp] theorem State.modLink_nextId (s : State) (p : Port) (f : LinkSt → LinkSt) : (s.modLink p f).nextId = s.nextId := rfl
@[simp] theorem State.modLink_pending (s : State) (p : Port) (f : LinkSt → LinkSt) : (s.modLink p f).pending = s.pending := rfl
@[simp] theorem State.modLink_regs (s : State) (p : Port) (f : LinkSt → LinkSt) : (s.modLink p f).regs = s.regs := rfl
@[simp] theorem State.modLink_seq (s : State) (p : Port) (f : LinkSt → LinkSt) : (s.modLink p f).seq = s.seq := rfl
@[simp] theorem State.modLink_jrn (s : State) (p : Port) (f : LinkSt → LinkSt) : (s.modLink p f).jrn = s.jrn := rfl
@[simp] theorem State.modLink_evt (s : State) (p : Port) (f : LinkSt → LinkSt) : (s.modLink p f).evt = s.evt := rfl
@[simp] theorem State.modLink_ports (s : State) (p : Port) (f : LinkSt → LinkSt) : (s.modLink p f).ports = s.ports := rfl
@[simp] theorem State.modLink_train (s : State) (p : Port) (f : LinkSt → LinkSt) : (s.modLink p f).train = s.train := rfl
@[simp] theorem State.modLink_pcs (s : State) (p : Port) (f : LinkSt → LinkSt) : (s.modLink p f).pcs = s.pcs := rfl
@[simp] theorem State.modLink_dram (s : State) (p : Port) (f : LinkSt → LinkSt) : (s.modLink p f).dram = s.dram := rfl
@[simp] theorem State.modLink_scrub (s : State) (p : Port) (f : LinkSt → LinkSt) : (s.modLink p f).scrub = s.scrub := rfl
@[simp] theorem State.modLink_guard (s : State) (p : Port) (f : LinkSt → LinkSt) : (s.modLink p f).guard = s.guard := rfl
@[simp] theorem State.modLink_lagoon (s : State) (p : Port) (f : LinkSt → LinkSt) : (s.modLink p f).lagoon = s.lagoon := rfl
@[simp] theorem State.modLink_epochs (s : State) (p : Port) (f : LinkSt → LinkSt) : (s.modLink p f).epochs = s.epochs := rfl
@[simp] theorem State.modLink_stack (s : State) (p : Port) (f : LinkSt → LinkSt) : (s.modLink p f).stack = s.stack := rfl
@[simp] theorem State.modLink_transit (s : State) (p : Port) (f : LinkSt → LinkSt) : (s.modLink p f).transit = s.transit := rfl
@[simp] theorem State.modLink_jtag (s : State) (p : Port) (f : LinkSt → LinkSt) : (s.modLink p f).jtag = s.jtag := rfl
@[simp] theorem State.modLink_power (s : State) (p : Port) (f : LinkSt → LinkSt) : (s.modLink p f).power = s.power := rfl
@[simp] theorem State.modLink_start (s : State) (p : Port) (f : LinkSt → LinkSt) : (s.modLink p f).start = s.start := rfl
@[simp] theorem State.modLink_therm (s : State) (p : Port) (f : LinkSt → LinkSt) : (s.modLink p f).therm = s.therm := rfl
@[simp] theorem State.modLink_chrosy (s : State) (p : Port) (f : LinkSt → LinkSt) : (s.modLink p f).chrosy = s.chrosy := rfl
@[simp] theorem State.modLink_mirror (s : State) (p : Port) (f : LinkSt → LinkSt) : (s.modLink p f).mirror = s.mirror := rfl
@[simp] theorem State.modLink_fuse (s : State) (p : Port) (f : LinkSt → LinkSt) : (s.modLink p f).fuse = s.fuse := rfl
@[simp] theorem State.modLink_fw (s : State) (p : Port) (f : LinkSt → LinkSt) : (s.modLink p f).fw = s.fw := rfl
@[simp] theorem State.modLink_wetex (s : State) (p : Port) (f : LinkSt → LinkSt) : (s.modLink p f).wetex = s.wetex := rfl

@[simp] theorem State.modPc_now (s : State) (n : Pc) (f : PcSt → PcSt) : (s.modPc n f).now = s.now := rfl
@[simp] theorem State.modPc_free (s : State) (n : Pc) (f : PcSt → PcSt) : (s.modPc n f).free = s.free := rfl
@[simp] theorem State.modPc_nextId (s : State) (n : Pc) (f : PcSt → PcSt) : (s.modPc n f).nextId = s.nextId := rfl
@[simp] theorem State.modPc_pending (s : State) (n : Pc) (f : PcSt → PcSt) : (s.modPc n f).pending = s.pending := rfl
@[simp] theorem State.modPc_regs (s : State) (n : Pc) (f : PcSt → PcSt) : (s.modPc n f).regs = s.regs := rfl
@[simp] theorem State.modPc_seq (s : State) (n : Pc) (f : PcSt → PcSt) : (s.modPc n f).seq = s.seq := rfl
@[simp] theorem State.modPc_jrn (s : State) (n : Pc) (f : PcSt → PcSt) : (s.modPc n f).jrn = s.jrn := rfl
@[simp] theorem State.modPc_evt (s : State) (n : Pc) (f : PcSt → PcSt) : (s.modPc n f).evt = s.evt := rfl
@[simp] theorem State.modPc_ports (s : State) (n : Pc) (f : PcSt → PcSt) : (s.modPc n f).ports = s.ports := rfl
@[simp] theorem State.modPc_links (s : State) (n : Pc) (f : PcSt → PcSt) : (s.modPc n f).links = s.links := rfl
@[simp] theorem State.modPc_train (s : State) (n : Pc) (f : PcSt → PcSt) : (s.modPc n f).train = s.train := rfl
@[simp] theorem State.modPc_dram (s : State) (n : Pc) (f : PcSt → PcSt) : (s.modPc n f).dram = s.dram := rfl
@[simp] theorem State.modPc_scrub (s : State) (n : Pc) (f : PcSt → PcSt) : (s.modPc n f).scrub = s.scrub := rfl
@[simp] theorem State.modPc_guard (s : State) (n : Pc) (f : PcSt → PcSt) : (s.modPc n f).guard = s.guard := rfl
@[simp] theorem State.modPc_lagoon (s : State) (n : Pc) (f : PcSt → PcSt) : (s.modPc n f).lagoon = s.lagoon := rfl
@[simp] theorem State.modPc_epochs (s : State) (n : Pc) (f : PcSt → PcSt) : (s.modPc n f).epochs = s.epochs := rfl
@[simp] theorem State.modPc_stack (s : State) (n : Pc) (f : PcSt → PcSt) : (s.modPc n f).stack = s.stack := rfl
@[simp] theorem State.modPc_transit (s : State) (n : Pc) (f : PcSt → PcSt) : (s.modPc n f).transit = s.transit := rfl
@[simp] theorem State.modPc_jtag (s : State) (n : Pc) (f : PcSt → PcSt) : (s.modPc n f).jtag = s.jtag := rfl
@[simp] theorem State.modPc_power (s : State) (n : Pc) (f : PcSt → PcSt) : (s.modPc n f).power = s.power := rfl
@[simp] theorem State.modPc_start (s : State) (n : Pc) (f : PcSt → PcSt) : (s.modPc n f).start = s.start := rfl
@[simp] theorem State.modPc_therm (s : State) (n : Pc) (f : PcSt → PcSt) : (s.modPc n f).therm = s.therm := rfl
@[simp] theorem State.modPc_chrosy (s : State) (n : Pc) (f : PcSt → PcSt) : (s.modPc n f).chrosy = s.chrosy := rfl
@[simp] theorem State.modPc_mirror (s : State) (n : Pc) (f : PcSt → PcSt) : (s.modPc n f).mirror = s.mirror := rfl
@[simp] theorem State.modPc_fuse (s : State) (n : Pc) (f : PcSt → PcSt) : (s.modPc n f).fuse = s.fuse := rfl
@[simp] theorem State.modPc_fw (s : State) (n : Pc) (f : PcSt → PcSt) : (s.modPc n f).fw = s.fw := rfl
@[simp] theorem State.modPc_wetex (s : State) (n : Pc) (f : PcSt → PcSt) : (s.modPc n f).wetex = s.wetex := rfl

@[simp] theorem State.tick_now (s : State) : (s.tick).now = s.now := rfl
@[simp] theorem State.tick_free (s : State) : (s.tick).free = s.free := rfl
@[simp] theorem State.tick_pending (s : State) : (s.tick).pending = s.pending := rfl
@[simp] theorem State.tick_regs (s : State) : (s.tick).regs = s.regs := rfl
@[simp] theorem State.tick_seq (s : State) : (s.tick).seq = s.seq := rfl
@[simp] theorem State.tick_jrn (s : State) : (s.tick).jrn = s.jrn := rfl
@[simp] theorem State.tick_evt (s : State) : (s.tick).evt = s.evt := rfl
@[simp] theorem State.tick_ports (s : State) : (s.tick).ports = s.ports := rfl
@[simp] theorem State.tick_links (s : State) : (s.tick).links = s.links := rfl
@[simp] theorem State.tick_train (s : State) : (s.tick).train = s.train := rfl
@[simp] theorem State.tick_pcs (s : State) : (s.tick).pcs = s.pcs := rfl
@[simp] theorem State.tick_dram (s : State) : (s.tick).dram = s.dram := rfl
@[simp] theorem State.tick_scrub (s : State) : (s.tick).scrub = s.scrub := rfl
@[simp] theorem State.tick_guard (s : State) : (s.tick).guard = s.guard := rfl
@[simp] theorem State.tick_lagoon (s : State) : (s.tick).lagoon = s.lagoon := rfl
@[simp] theorem State.tick_epochs (s : State) : (s.tick).epochs = s.epochs := rfl
@[simp] theorem State.tick_stack (s : State) : (s.tick).stack = s.stack := rfl
@[simp] theorem State.tick_transit (s : State) : (s.tick).transit = s.transit := rfl
@[simp] theorem State.tick_jtag (s : State) : (s.tick).jtag = s.jtag := rfl
@[simp] theorem State.tick_power (s : State) : (s.tick).power = s.power := rfl
@[simp] theorem State.tick_start (s : State) : (s.tick).start = s.start := rfl
@[simp] theorem State.tick_therm (s : State) : (s.tick).therm = s.therm := rfl
@[simp] theorem State.tick_chrosy (s : State) : (s.tick).chrosy = s.chrosy := rfl
@[simp] theorem State.tick_mirror (s : State) : (s.tick).mirror = s.mirror := rfl
@[simp] theorem State.tick_fuse (s : State) : (s.tick).fuse = s.fuse := rfl
@[simp] theorem State.tick_fw (s : State) : (s.tick).fw = s.fw := rfl
@[simp] theorem State.tick_wetex (s : State) : (s.tick).wetex = s.wetex := rfl

@[simp] theorem State.useFree_now (s : State) : (s.useFree).now = s.now := rfl
@[simp] theorem State.useFree_nextId (s : State) : (s.useFree).nextId = s.nextId := rfl
@[simp] theorem State.useFree_pending (s : State) : (s.useFree).pending = s.pending := rfl
@[simp] theorem State.useFree_regs (s : State) : (s.useFree).regs = s.regs := rfl
@[simp] theorem State.useFree_seq (s : State) : (s.useFree).seq = s.seq := rfl
@[simp] theorem State.useFree_jrn (s : State) : (s.useFree).jrn = s.jrn := rfl
@[simp] theorem State.useFree_evt (s : State) : (s.useFree).evt = s.evt := rfl
@[simp] theorem State.useFree_ports (s : State) : (s.useFree).ports = s.ports := rfl
@[simp] theorem State.useFree_links (s : State) : (s.useFree).links = s.links := rfl
@[simp] theorem State.useFree_train (s : State) : (s.useFree).train = s.train := rfl
@[simp] theorem State.useFree_pcs (s : State) : (s.useFree).pcs = s.pcs := rfl
@[simp] theorem State.useFree_dram (s : State) : (s.useFree).dram = s.dram := rfl
@[simp] theorem State.useFree_scrub (s : State) : (s.useFree).scrub = s.scrub := rfl
@[simp] theorem State.useFree_guard (s : State) : (s.useFree).guard = s.guard := rfl
@[simp] theorem State.useFree_lagoon (s : State) : (s.useFree).lagoon = s.lagoon := rfl
@[simp] theorem State.useFree_epochs (s : State) : (s.useFree).epochs = s.epochs := rfl
@[simp] theorem State.useFree_stack (s : State) : (s.useFree).stack = s.stack := rfl
@[simp] theorem State.useFree_transit (s : State) : (s.useFree).transit = s.transit := rfl
@[simp] theorem State.useFree_jtag (s : State) : (s.useFree).jtag = s.jtag := rfl
@[simp] theorem State.useFree_power (s : State) : (s.useFree).power = s.power := rfl
@[simp] theorem State.useFree_start (s : State) : (s.useFree).start = s.start := rfl
@[simp] theorem State.useFree_therm (s : State) : (s.useFree).therm = s.therm := rfl
@[simp] theorem State.useFree_chrosy (s : State) : (s.useFree).chrosy = s.chrosy := rfl
@[simp] theorem State.useFree_mirror (s : State) : (s.useFree).mirror = s.mirror := rfl
@[simp] theorem State.useFree_fuse (s : State) : (s.useFree).fuse = s.fuse := rfl
@[simp] theorem State.useFree_fw (s : State) : (s.useFree).fw = s.fw := rfl
@[simp] theorem State.useFree_wetex (s : State) : (s.useFree).wetex = s.wetex := rfl

@[simp] theorem csrSet_now (s : State) (a v : Nat) : (csrSet s a v).now = s.now := rfl
@[simp] theorem csrSet_free (s : State) (a v : Nat) : (csrSet s a v).free = s.free := rfl
@[simp] theorem csrSet_nextId (s : State) (a v : Nat) : (csrSet s a v).nextId = s.nextId := rfl
@[simp] theorem csrSet_pending (s : State) (a v : Nat) : (csrSet s a v).pending = s.pending := rfl
@[simp] theorem csrSet_seq (s : State) (a v : Nat) : (csrSet s a v).seq = s.seq := rfl
@[simp] theorem csrSet_jrn (s : State) (a v : Nat) : (csrSet s a v).jrn = s.jrn := rfl
@[simp] theorem csrSet_evt (s : State) (a v : Nat) : (csrSet s a v).evt = s.evt := rfl
@[simp] theorem csrSet_ports (s : State) (a v : Nat) : (csrSet s a v).ports = s.ports := rfl
@[simp] theorem csrSet_links (s : State) (a v : Nat) : (csrSet s a v).links = s.links := rfl
@[simp] theorem csrSet_train (s : State) (a v : Nat) : (csrSet s a v).train = s.train := rfl
@[simp] theorem csrSet_pcs (s : State) (a v : Nat) : (csrSet s a v).pcs = s.pcs := rfl
@[simp] theorem csrSet_dram (s : State) (a v : Nat) : (csrSet s a v).dram = s.dram := rfl
@[simp] theorem csrSet_scrub (s : State) (a v : Nat) : (csrSet s a v).scrub = s.scrub := rfl
@[simp] theorem csrSet_guard (s : State) (a v : Nat) : (csrSet s a v).guard = s.guard := rfl
@[simp] theorem csrSet_lagoon (s : State) (a v : Nat) : (csrSet s a v).lagoon = s.lagoon := rfl
@[simp] theorem csrSet_epochs (s : State) (a v : Nat) : (csrSet s a v).epochs = s.epochs := rfl
@[simp] theorem csrSet_stack (s : State) (a v : Nat) : (csrSet s a v).stack = s.stack := rfl
@[simp] theorem csrSet_transit (s : State) (a v : Nat) : (csrSet s a v).transit = s.transit := rfl
@[simp] theorem csrSet_jtag (s : State) (a v : Nat) : (csrSet s a v).jtag = s.jtag := rfl
@[simp] theorem csrSet_power (s : State) (a v : Nat) : (csrSet s a v).power = s.power := rfl
@[simp] theorem csrSet_start (s : State) (a v : Nat) : (csrSet s a v).start = s.start := rfl
@[simp] theorem csrSet_therm (s : State) (a v : Nat) : (csrSet s a v).therm = s.therm := rfl
@[simp] theorem csrSet_chrosy (s : State) (a v : Nat) : (csrSet s a v).chrosy = s.chrosy := rfl
@[simp] theorem csrSet_mirror (s : State) (a v : Nat) : (csrSet s a v).mirror = s.mirror := rfl
@[simp] theorem csrSet_fuse (s : State) (a v : Nat) : (csrSet s a v).fuse = s.fuse := rfl
@[simp] theorem csrSet_fw (s : State) (a v : Nat) : (csrSet s a v).fw = s.fw := rfl
@[simp] theorem csrSet_wetex (s : State) (a v : Nat) : (csrSet s a v).wetex = s.wetex := rfl

@[simp] theorem hwFld_now (s : State) (a lo w v : Nat) : (hwFld s a lo w v).now = s.now := rfl
@[simp] theorem hwFld_free (s : State) (a lo w v : Nat) : (hwFld s a lo w v).free = s.free := rfl
@[simp] theorem hwFld_nextId (s : State) (a lo w v : Nat) : (hwFld s a lo w v).nextId = s.nextId := rfl
@[simp] theorem hwFld_pending (s : State) (a lo w v : Nat) : (hwFld s a lo w v).pending = s.pending := rfl
@[simp] theorem hwFld_seq (s : State) (a lo w v : Nat) : (hwFld s a lo w v).seq = s.seq := rfl
@[simp] theorem hwFld_jrn (s : State) (a lo w v : Nat) : (hwFld s a lo w v).jrn = s.jrn := rfl
@[simp] theorem hwFld_evt (s : State) (a lo w v : Nat) : (hwFld s a lo w v).evt = s.evt := rfl
@[simp] theorem hwFld_ports (s : State) (a lo w v : Nat) : (hwFld s a lo w v).ports = s.ports := rfl
@[simp] theorem hwFld_links (s : State) (a lo w v : Nat) : (hwFld s a lo w v).links = s.links := rfl
@[simp] theorem hwFld_train (s : State) (a lo w v : Nat) : (hwFld s a lo w v).train = s.train := rfl
@[simp] theorem hwFld_pcs (s : State) (a lo w v : Nat) : (hwFld s a lo w v).pcs = s.pcs := rfl
@[simp] theorem hwFld_dram (s : State) (a lo w v : Nat) : (hwFld s a lo w v).dram = s.dram := rfl
@[simp] theorem hwFld_scrub (s : State) (a lo w v : Nat) : (hwFld s a lo w v).scrub = s.scrub := rfl
@[simp] theorem hwFld_guard (s : State) (a lo w v : Nat) : (hwFld s a lo w v).guard = s.guard := rfl
@[simp] theorem hwFld_lagoon (s : State) (a lo w v : Nat) : (hwFld s a lo w v).lagoon = s.lagoon := rfl
@[simp] theorem hwFld_epochs (s : State) (a lo w v : Nat) : (hwFld s a lo w v).epochs = s.epochs := rfl
@[simp] theorem hwFld_stack (s : State) (a lo w v : Nat) : (hwFld s a lo w v).stack = s.stack := rfl
@[simp] theorem hwFld_transit (s : State) (a lo w v : Nat) : (hwFld s a lo w v).transit = s.transit := rfl
@[simp] theorem hwFld_jtag (s : State) (a lo w v : Nat) : (hwFld s a lo w v).jtag = s.jtag := rfl
@[simp] theorem hwFld_power (s : State) (a lo w v : Nat) : (hwFld s a lo w v).power = s.power := rfl
@[simp] theorem hwFld_start (s : State) (a lo w v : Nat) : (hwFld s a lo w v).start = s.start := rfl
@[simp] theorem hwFld_therm (s : State) (a lo w v : Nat) : (hwFld s a lo w v).therm = s.therm := rfl
@[simp] theorem hwFld_chrosy (s : State) (a lo w v : Nat) : (hwFld s a lo w v).chrosy = s.chrosy := rfl
@[simp] theorem hwFld_mirror (s : State) (a lo w v : Nat) : (hwFld s a lo w v).mirror = s.mirror := rfl
@[simp] theorem hwFld_fuse (s : State) (a lo w v : Nat) : (hwFld s a lo w v).fuse = s.fuse := rfl
@[simp] theorem hwFld_fw (s : State) (a lo w v : Nat) : (hwFld s a lo w v).fw = s.fw := rfl
@[simp] theorem hwFld_wetex (s : State) (a lo w v : Nat) : (hwFld s a lo w v).wetex = s.wetex := rfl

@[simp] theorem bump_now (s : State) (a k : Nat) : (bump a k s).now = s.now := rfl
@[simp] theorem bump_free (s : State) (a k : Nat) : (bump a k s).free = s.free := rfl
@[simp] theorem bump_nextId (s : State) (a k : Nat) : (bump a k s).nextId = s.nextId := rfl
@[simp] theorem bump_pending (s : State) (a k : Nat) : (bump a k s).pending = s.pending := rfl
@[simp] theorem bump_seq (s : State) (a k : Nat) : (bump a k s).seq = s.seq := rfl
@[simp] theorem bump_jrn (s : State) (a k : Nat) : (bump a k s).jrn = s.jrn := rfl
@[simp] theorem bump_evt (s : State) (a k : Nat) : (bump a k s).evt = s.evt := rfl
@[simp] theorem bump_ports (s : State) (a k : Nat) : (bump a k s).ports = s.ports := rfl
@[simp] theorem bump_links (s : State) (a k : Nat) : (bump a k s).links = s.links := rfl
@[simp] theorem bump_train (s : State) (a k : Nat) : (bump a k s).train = s.train := rfl
@[simp] theorem bump_pcs (s : State) (a k : Nat) : (bump a k s).pcs = s.pcs := rfl
@[simp] theorem bump_dram (s : State) (a k : Nat) : (bump a k s).dram = s.dram := rfl
@[simp] theorem bump_scrub (s : State) (a k : Nat) : (bump a k s).scrub = s.scrub := rfl
@[simp] theorem bump_guard (s : State) (a k : Nat) : (bump a k s).guard = s.guard := rfl
@[simp] theorem bump_lagoon (s : State) (a k : Nat) : (bump a k s).lagoon = s.lagoon := rfl
@[simp] theorem bump_epochs (s : State) (a k : Nat) : (bump a k s).epochs = s.epochs := rfl
@[simp] theorem bump_stack (s : State) (a k : Nat) : (bump a k s).stack = s.stack := rfl
@[simp] theorem bump_transit (s : State) (a k : Nat) : (bump a k s).transit = s.transit := rfl
@[simp] theorem bump_jtag (s : State) (a k : Nat) : (bump a k s).jtag = s.jtag := rfl
@[simp] theorem bump_power (s : State) (a k : Nat) : (bump a k s).power = s.power := rfl
@[simp] theorem bump_start (s : State) (a k : Nat) : (bump a k s).start = s.start := rfl
@[simp] theorem bump_therm (s : State) (a k : Nat) : (bump a k s).therm = s.therm := rfl
@[simp] theorem bump_chrosy (s : State) (a k : Nat) : (bump a k s).chrosy = s.chrosy := rfl
@[simp] theorem bump_mirror (s : State) (a k : Nat) : (bump a k s).mirror = s.mirror := rfl
@[simp] theorem bump_fuse (s : State) (a k : Nat) : (bump a k s).fuse = s.fuse := rfl
@[simp] theorem bump_fw (s : State) (a k : Nat) : (bump a k s).fw = s.fw := rfl
@[simp] theorem bump_wetex (s : State) (a k : Nat) : (bump a k s).wetex = s.wetex := rfl

@[simp] theorem limitSet_now (s : State) (k : Nat) (v : Nat × Nat) : (limitSet s k v).now = s.now := rfl
@[simp] theorem limitSet_free (s : State) (k : Nat) (v : Nat × Nat) : (limitSet s k v).free = s.free := rfl
@[simp] theorem limitSet_nextId (s : State) (k : Nat) (v : Nat × Nat) : (limitSet s k v).nextId = s.nextId := rfl
@[simp] theorem limitSet_pending (s : State) (k : Nat) (v : Nat × Nat) : (limitSet s k v).pending = s.pending := rfl
@[simp] theorem limitSet_regs (s : State) (k : Nat) (v : Nat × Nat) : (limitSet s k v).regs = s.regs := rfl
@[simp] theorem limitSet_seq (s : State) (k : Nat) (v : Nat × Nat) : (limitSet s k v).seq = s.seq := rfl
@[simp] theorem limitSet_jrn (s : State) (k : Nat) (v : Nat × Nat) : (limitSet s k v).jrn = s.jrn := rfl
@[simp] theorem limitSet_ports (s : State) (k : Nat) (v : Nat × Nat) : (limitSet s k v).ports = s.ports := rfl
@[simp] theorem limitSet_links (s : State) (k : Nat) (v : Nat × Nat) : (limitSet s k v).links = s.links := rfl
@[simp] theorem limitSet_train (s : State) (k : Nat) (v : Nat × Nat) : (limitSet s k v).train = s.train := rfl
@[simp] theorem limitSet_pcs (s : State) (k : Nat) (v : Nat × Nat) : (limitSet s k v).pcs = s.pcs := rfl
@[simp] theorem limitSet_dram (s : State) (k : Nat) (v : Nat × Nat) : (limitSet s k v).dram = s.dram := rfl
@[simp] theorem limitSet_scrub (s : State) (k : Nat) (v : Nat × Nat) : (limitSet s k v).scrub = s.scrub := rfl
@[simp] theorem limitSet_guard (s : State) (k : Nat) (v : Nat × Nat) : (limitSet s k v).guard = s.guard := rfl
@[simp] theorem limitSet_lagoon (s : State) (k : Nat) (v : Nat × Nat) : (limitSet s k v).lagoon = s.lagoon := rfl
@[simp] theorem limitSet_epochs (s : State) (k : Nat) (v : Nat × Nat) : (limitSet s k v).epochs = s.epochs := rfl
@[simp] theorem limitSet_stack (s : State) (k : Nat) (v : Nat × Nat) : (limitSet s k v).stack = s.stack := rfl
@[simp] theorem limitSet_transit (s : State) (k : Nat) (v : Nat × Nat) : (limitSet s k v).transit = s.transit := rfl
@[simp] theorem limitSet_jtag (s : State) (k : Nat) (v : Nat × Nat) : (limitSet s k v).jtag = s.jtag := rfl
@[simp] theorem limitSet_power (s : State) (k : Nat) (v : Nat × Nat) : (limitSet s k v).power = s.power := rfl
@[simp] theorem limitSet_start (s : State) (k : Nat) (v : Nat × Nat) : (limitSet s k v).start = s.start := rfl
@[simp] theorem limitSet_therm (s : State) (k : Nat) (v : Nat × Nat) : (limitSet s k v).therm = s.therm := rfl
@[simp] theorem limitSet_chrosy (s : State) (k : Nat) (v : Nat × Nat) : (limitSet s k v).chrosy = s.chrosy := rfl
@[simp] theorem limitSet_mirror (s : State) (k : Nat) (v : Nat × Nat) : (limitSet s k v).mirror = s.mirror := rfl
@[simp] theorem limitSet_fuse (s : State) (k : Nat) (v : Nat × Nat) : (limitSet s k v).fuse = s.fuse := rfl
@[simp] theorem limitSet_fw (s : State) (k : Nat) (v : Nat × Nat) : (limitSet s k v).fw = s.fw := rfl
@[simp] theorem limitSet_wetex (s : State) (k : Nat) (v : Nat × Nat) : (limitSet s k v).wetex = s.wetex := rfl

@[simp] theorem formEntry_now (s : State) (k src b : Nat) : (formEntry s k src b).now = s.now := rfl
@[simp] theorem formEntry_free (s : State) (k src b : Nat) : (formEntry s k src b).free = s.free := rfl
@[simp] theorem formEntry_nextId (s : State) (k src b : Nat) : (formEntry s k src b).nextId = s.nextId := rfl
@[simp] theorem formEntry_pending (s : State) (k src b : Nat) : (formEntry s k src b).pending = s.pending := rfl
@[simp] theorem formEntry_regs (s : State) (k src b : Nat) : (formEntry s k src b).regs = s.regs := rfl
@[simp] theorem formEntry_evt (s : State) (k src b : Nat) : (formEntry s k src b).evt = s.evt := rfl
@[simp] theorem formEntry_ports (s : State) (k src b : Nat) : (formEntry s k src b).ports = s.ports := rfl
@[simp] theorem formEntry_links (s : State) (k src b : Nat) : (formEntry s k src b).links = s.links := rfl
@[simp] theorem formEntry_train (s : State) (k src b : Nat) : (formEntry s k src b).train = s.train := rfl
@[simp] theorem formEntry_pcs (s : State) (k src b : Nat) : (formEntry s k src b).pcs = s.pcs := rfl
@[simp] theorem formEntry_dram (s : State) (k src b : Nat) : (formEntry s k src b).dram = s.dram := rfl
@[simp] theorem formEntry_scrub (s : State) (k src b : Nat) : (formEntry s k src b).scrub = s.scrub := rfl
@[simp] theorem formEntry_guard (s : State) (k src b : Nat) : (formEntry s k src b).guard = s.guard := rfl
@[simp] theorem formEntry_lagoon (s : State) (k src b : Nat) : (formEntry s k src b).lagoon = s.lagoon := rfl
@[simp] theorem formEntry_epochs (s : State) (k src b : Nat) : (formEntry s k src b).epochs = s.epochs := rfl
@[simp] theorem formEntry_stack (s : State) (k src b : Nat) : (formEntry s k src b).stack = s.stack := rfl
@[simp] theorem formEntry_transit (s : State) (k src b : Nat) : (formEntry s k src b).transit = s.transit := rfl
@[simp] theorem formEntry_jtag (s : State) (k src b : Nat) : (formEntry s k src b).jtag = s.jtag := rfl
@[simp] theorem formEntry_power (s : State) (k src b : Nat) : (formEntry s k src b).power = s.power := rfl
@[simp] theorem formEntry_start (s : State) (k src b : Nat) : (formEntry s k src b).start = s.start := rfl
@[simp] theorem formEntry_therm (s : State) (k src b : Nat) : (formEntry s k src b).therm = s.therm := rfl
@[simp] theorem formEntry_chrosy (s : State) (k src b : Nat) : (formEntry s k src b).chrosy = s.chrosy := rfl
@[simp] theorem formEntry_mirror (s : State) (k src b : Nat) : (formEntry s k src b).mirror = s.mirror := rfl
@[simp] theorem formEntry_fuse (s : State) (k src b : Nat) : (formEntry s k src b).fuse = s.fuse := rfl
@[simp] theorem formEntry_fw (s : State) (k src b : Nat) : (formEntry s k src b).fw = s.fw := rfl
@[simp] theorem formEntry_wetex (s : State) (k src b : Nat) : (formEntry s k src b).wetex = s.wetex := rfl

@[simp] theorem pctlSend_now (s : State) (p : Port) (c a : Nat) (w : Bool) : (pctlSend s p c a w).now = s.now := rfl
@[simp] theorem pctlSend_free (s : State) (p : Port) (c a : Nat) (w : Bool) : (pctlSend s p c a w).free = s.free := rfl
@[simp] theorem pctlSend_nextId (s : State) (p : Port) (c a : Nat) (w : Bool) : (pctlSend s p c a w).nextId = s.nextId := rfl
@[simp] theorem pctlSend_pending (s : State) (p : Port) (c a : Nat) (w : Bool) : (pctlSend s p c a w).pending = s.pending := rfl
@[simp] theorem pctlSend_regs (s : State) (p : Port) (c a : Nat) (w : Bool) : (pctlSend s p c a w).regs = s.regs := rfl
@[simp] theorem pctlSend_seq (s : State) (p : Port) (c a : Nat) (w : Bool) : (pctlSend s p c a w).seq = s.seq := rfl
@[simp] theorem pctlSend_jrn (s : State) (p : Port) (c a : Nat) (w : Bool) : (pctlSend s p c a w).jrn = s.jrn := rfl
@[simp] theorem pctlSend_evt (s : State) (p : Port) (c a : Nat) (w : Bool) : (pctlSend s p c a w).evt = s.evt := rfl
@[simp] theorem pctlSend_ports (s : State) (p : Port) (c a : Nat) (w : Bool) : (pctlSend s p c a w).ports = s.ports := rfl
@[simp] theorem pctlSend_train (s : State) (p : Port) (c a : Nat) (w : Bool) : (pctlSend s p c a w).train = s.train := rfl
@[simp] theorem pctlSend_pcs (s : State) (p : Port) (c a : Nat) (w : Bool) : (pctlSend s p c a w).pcs = s.pcs := rfl
@[simp] theorem pctlSend_dram (s : State) (p : Port) (c a : Nat) (w : Bool) : (pctlSend s p c a w).dram = s.dram := rfl
@[simp] theorem pctlSend_scrub (s : State) (p : Port) (c a : Nat) (w : Bool) : (pctlSend s p c a w).scrub = s.scrub := rfl
@[simp] theorem pctlSend_guard (s : State) (p : Port) (c a : Nat) (w : Bool) : (pctlSend s p c a w).guard = s.guard := rfl
@[simp] theorem pctlSend_lagoon (s : State) (p : Port) (c a : Nat) (w : Bool) : (pctlSend s p c a w).lagoon = s.lagoon := rfl
@[simp] theorem pctlSend_epochs (s : State) (p : Port) (c a : Nat) (w : Bool) : (pctlSend s p c a w).epochs = s.epochs := rfl
@[simp] theorem pctlSend_stack (s : State) (p : Port) (c a : Nat) (w : Bool) : (pctlSend s p c a w).stack = s.stack := rfl
@[simp] theorem pctlSend_transit (s : State) (p : Port) (c a : Nat) (w : Bool) : (pctlSend s p c a w).transit = s.transit := rfl
@[simp] theorem pctlSend_jtag (s : State) (p : Port) (c a : Nat) (w : Bool) : (pctlSend s p c a w).jtag = s.jtag := rfl
@[simp] theorem pctlSend_power (s : State) (p : Port) (c a : Nat) (w : Bool) : (pctlSend s p c a w).power = s.power := rfl
@[simp] theorem pctlSend_start (s : State) (p : Port) (c a : Nat) (w : Bool) : (pctlSend s p c a w).start = s.start := rfl
@[simp] theorem pctlSend_therm (s : State) (p : Port) (c a : Nat) (w : Bool) : (pctlSend s p c a w).therm = s.therm := rfl
@[simp] theorem pctlSend_chrosy (s : State) (p : Port) (c a : Nat) (w : Bool) : (pctlSend s p c a w).chrosy = s.chrosy := rfl
@[simp] theorem pctlSend_mirror (s : State) (p : Port) (c a : Nat) (w : Bool) : (pctlSend s p c a w).mirror = s.mirror := rfl
@[simp] theorem pctlSend_fuse (s : State) (p : Port) (c a : Nat) (w : Bool) : (pctlSend s p c a w).fuse = s.fuse := rfl
@[simp] theorem pctlSend_fw (s : State) (p : Port) (c a : Nat) (w : Bool) : (pctlSend s p c a w).fw = s.fw := rfl
@[simp] theorem pctlSend_wetex (s : State) (p : Port) (c a : Nat) (w : Bool) : (pctlSend s p c a w).wetex = s.wetex := rfl

@[simp] theorem State.tick_nextId (s : State) : s.tick.nextId = s.nextId + 1 := rfl
@[simp] theorem State.useFree_free (s : State) : s.useFree.free = s.free + 1 := rfl

/-! ### One port, one link, one pseudo-channel -/

@[simp] theorem State.modPort_same (s : State) (p : Port) (f : PortSt → PortSt) : (s.modPort p f).ports[p] = f s.ports[p] := by
  simp [State.modPort]
theorem State.modPort_other (s : State) {p q : Port} (f : PortSt → PortSt) (h : p ≠ q) :
    (s.modPort p f).ports[q] = s.ports[q] := by
  simp only [State.modPort]
  exact Vector.getElem_set_ne _ _ (fun e => h (Fin.ext e))
@[simp] theorem State.modLink_same (s : State) (p : Port) (f : LinkSt → LinkSt) : (s.modLink p f).links[p] = f s.links[p] := by
  simp [State.modLink]
theorem State.modLink_other (s : State) {p q : Port} (f : LinkSt → LinkSt) (h : p ≠ q) :
    (s.modLink p f).links[q] = s.links[q] := by
  simp only [State.modLink]
  exact Vector.getElem_set_ne _ _ (fun e => h (Fin.ext e))
@[simp] theorem State.modPc_same (s : State) (n : Pc) (f : PcSt → PcSt) : (s.modPc n f).pcs[n] = f s.pcs[n] := by
  simp [State.modPc]
theorem State.modPc_other (s : State) {n k : Pc} (f : PcSt → PcSt) (h : n ≠ k) : (s.modPc n f).pcs[k] = s.pcs[k] := by
  simp only [State.modPc]
  exact Vector.getElem_set_ne _ _ (fun e => h (Fin.ext e))

/-! ### Stored words -/

/-- A stored word is read back. -/
@[simp] theorem csrGet_csrSet_same (s : State) (a v : Nat) (hr : regReset a < 2 ^ 32) : csrGet (csrSet s a v) a = v % 2 ^ 32 := by
  simp only [csrGet, csrSet, smGet_smSet_same, BitVec.toNat_ofNat]
  apply Nat.eq_of_testBit_eq
  intro i
  simp only [Nat.testBit_xor, Nat.testBit_mod_two_pow]
  by_cases h : i < 32
  · simp [h]
  · have : (regReset a).testBit i = false :=
      Nat.testBit_lt_two_pow (Nat.lt_of_lt_of_le hr (Nat.pow_le_pow_right (by decide) (by omega)))
    simp [h, this]

/-- Every other stored word is left alone. -/
theorem csrGet_csrSet_other (s : State) {a b : Nat} (v : Nat) (h : b ≠ a) : csrGet (csrSet s a v) b = csrGet s b := by
  simp only [csrGet, csrSet, smGet_smSet_other h]

/-! ### The clock -/

theorem State.atLeast_eq (s : State) (t : Nat) (h : t ≤ s.now) : s.atLeast t = s := by simp [State.atLeast, h]
theorem State.atLeast_now (s : State) (t : Nat) : (s.atLeast t).now = max s.now t := by
  unfold State.atLeast
  split
  · omega
  · show t = max s.now t
    omega
@[simp] theorem State.atLeast_free (s : State) (t : Nat) : (s.atLeast t).free = s.free := by unfold State.atLeast; split <;> rfl
@[simp] theorem State.atLeast_nextId (s : State) (t : Nat) : (s.atLeast t).nextId = s.nextId := by unfold State.atLeast; split <;> rfl
@[simp] theorem State.atLeast_pending (s : State) (t : Nat) : (s.atLeast t).pending = s.pending := by unfold State.atLeast; split <;> rfl
@[simp] theorem State.atLeast_seq (s : State) (t : Nat) : (s.atLeast t).seq = s.seq := by unfold State.atLeast; split <;> rfl
@[simp] theorem State.atLeast_jrn (s : State) (t : Nat) : (s.atLeast t).jrn = s.jrn := by unfold State.atLeast; split <;> rfl
@[simp] theorem State.atLeast_evt (s : State) (t : Nat) : (s.atLeast t).evt = s.evt := by unfold State.atLeast; split <;> rfl
@[simp] theorem State.atLeast_ports (s : State) (t : Nat) : (s.atLeast t).ports = s.ports := by unfold State.atLeast; split <;> rfl
@[simp] theorem State.atLeast_links (s : State) (t : Nat) : (s.atLeast t).links = s.links := by unfold State.atLeast; split <;> rfl
@[simp] theorem State.atLeast_train (s : State) (t : Nat) : (s.atLeast t).train = s.train := by unfold State.atLeast; split <;> rfl
@[simp] theorem State.atLeast_pcs (s : State) (t : Nat) : (s.atLeast t).pcs = s.pcs := by unfold State.atLeast; split <;> rfl
@[simp] theorem State.atLeast_dram (s : State) (t : Nat) : (s.atLeast t).dram = s.dram := by unfold State.atLeast; split <;> rfl
@[simp] theorem State.atLeast_scrub (s : State) (t : Nat) : (s.atLeast t).scrub = s.scrub := by unfold State.atLeast; split <;> rfl
@[simp] theorem State.atLeast_guard (s : State) (t : Nat) : (s.atLeast t).guard = s.guard := by unfold State.atLeast; split <;> rfl
@[simp] theorem State.atLeast_lagoon (s : State) (t : Nat) : (s.atLeast t).lagoon = s.lagoon := by unfold State.atLeast; split <;> rfl
@[simp] theorem State.atLeast_epochs (s : State) (t : Nat) : (s.atLeast t).epochs = s.epochs := by unfold State.atLeast; split <;> rfl
@[simp] theorem State.atLeast_stack (s : State) (t : Nat) : (s.atLeast t).stack = s.stack := by unfold State.atLeast; split <;> rfl
@[simp] theorem State.atLeast_transit (s : State) (t : Nat) : (s.atLeast t).transit = s.transit := by unfold State.atLeast; split <;> rfl
@[simp] theorem State.atLeast_jtag (s : State) (t : Nat) : (s.atLeast t).jtag = s.jtag := by unfold State.atLeast; split <;> rfl
@[simp] theorem State.atLeast_power (s : State) (t : Nat) : (s.atLeast t).power = s.power := by unfold State.atLeast; split <;> rfl
@[simp] theorem State.atLeast_start (s : State) (t : Nat) : (s.atLeast t).start = s.start := by unfold State.atLeast; split <;> rfl
@[simp] theorem State.atLeast_therm (s : State) (t : Nat) : (s.atLeast t).therm = s.therm := by unfold State.atLeast; split <;> rfl
@[simp] theorem State.atLeast_chrosy (s : State) (t : Nat) : (s.atLeast t).chrosy = s.chrosy := by unfold State.atLeast; split <;> rfl
@[simp] theorem State.atLeast_mirror (s : State) (t : Nat) : (s.atLeast t).mirror = s.mirror := by unfold State.atLeast; split <;> rfl
@[simp] theorem State.atLeast_fuse (s : State) (t : Nat) : (s.atLeast t).fuse = s.fuse := by unfold State.atLeast; split <;> rfl
@[simp] theorem State.atLeast_fw (s : State) (t : Nat) : (s.atLeast t).fw = s.fw := by unfold State.atLeast; split <;> rfl
@[simp] theorem State.atLeast_wetex (s : State) (t : Nat) : (s.atLeast t).wetex = s.wetex := by unfold State.atLeast; split <;> rfl

end Sys2Proof.Machine
end

