-- ==== Sys2Proof/Laws/Events.lean ====
section
/-! SUPPORT. Raising an event and writing a journal entry: everything they can change. `EvKeeps s t`: `t` is `s` after records and
entries: sequence numbers rise, waiting SIGs of ports and the rings' loss counters may change, all else that is stored stays. -/

namespace Sys2Proof.Machine

/-- The loss counters of the event rings (R354). -/
def lossCounter (a : Nat) : Prop := ∃ k : Fin 4, a = 0x0A0114 + 0x20 * k.val

theorem csrGet_of_regs {s t : State} {a : Nat} (h : t.regs = s.regs) : csrGet t a = csrGet s a := by
  unfold csrGet
  rw [h]

structure EvKeeps (s t : State) : Prop where
  next : s.seq.next ≤ t.seq.next
  decided : t.seq.decided = s.seq.decided
  ports : ∀ p : Port, { t.ports[p] with sigWait := s.ports[p].sigWait, sigLost := s.ports[p].sigLost } = s.ports[p]
  csr : ∀ a, ¬ lossCounter a → csrGet t a = csrGet s a
  fatalAck : t.evt.fatalAck = s.evt.fatalAck
  now : t.now = s.now
  free : t.free = s.free
  nextId : t.nextId = s.nextId
  pending : t.pending = s.pending
  links : t.links = s.links
  train : t.train = s.train
  pcs : t.pcs = s.pcs
  dram : t.dram = s.dram
  scrub : t.scrub = s.scrub
  guard : t.guard = s.guard
  lagoon : t.lagoon = s.lagoon
  epochs : t.epochs = s.epochs
  stack : t.stack = s.stack
  transit : t.transit = s.transit
  jtag : t.jtag = s.jtag
  power : t.power = s.power
  start : t.start = s.start
  therm : t.therm = s.therm
  chrosy : t.chrosy = s.chrosy
  mirror : t.mirror = s.mirror
  fuse : t.fuse = s.fuse
  fw : t.fw = s.fw
  wetex : t.wetex = s.wetex

theorem EvKeeps.refl (s : State) : EvKeeps s s :=
  ⟨Nat.le_refl _, rfl, fun _ => rfl, fun _ _ => csrGet_of_regs rfl, rfl, rfl, rfl, rfl, rfl, rfl, rfl, rfl, rfl, rfl, rfl, rfl, rfl, rfl, rfl, rfl, rfl, rfl, rfl, rfl, rfl, rfl, rfl, rfl⟩

theorem EvKeeps.trans {s t u : State} (h : EvKeeps s t) (k : EvKeeps t u) : EvKeeps s u where
  next := Nat.le_trans h.next k.next
  decided := k.decided.trans h.decided
  ports p := by
    have a := h.ports p
    have b := k.ports p
    rw [← b] at a
    exact a
  csr a ha := (k.csr a ha).trans (h.csr a ha)
  fatalAck := k.fatalAck.trans h.fatalAck
  now := k.now.trans h.now
  free := k.free.trans h.free
  nextId := k.nextId.trans h.nextId
  pending := k.pending.trans h.pending
  links := k.links.trans h.links
  train := k.train.trans h.train
  pcs := k.pcs.trans h.pcs
  dram := k.dram.trans h.dram
  scrub := k.scrub.trans h.scrub
  guard := k.guard.trans h.guard
  lagoon := k.lagoon.trans h.lagoon
  epochs := k.epochs.trans h.epochs
  stack := k.stack.trans h.stack
  transit := k.transit.trans h.transit
  jtag := k.jtag.trans h.jtag
  power := k.power.trans h.power
  start := k.start.trans h.start
  therm := k.therm.trans h.therm
  chrosy := k.chrosy.trans h.chrosy
  mirror := k.mirror.trans h.mirror
  fuse := k.fuse.trans h.fuse
  fw := k.fw.trans h.fw
  wetex := k.wetex.trans h.wetex

theorem formEntry_ev (s : State) (k src b : Nat) : EvKeeps s (formEntry s k src b) :=
  ⟨Nat.le_succ _, rfl, fun _ => rfl, fun _ _ => csrGet_of_regs rfl, rfl, rfl, rfl, rfl, rfl, rfl, rfl, rfl, rfl, rfl, rfl, rfl, rfl, rfl, rfl, rfl, rfl, rfl, rfl, rfl, rfl, rfl, rfl, rfl⟩

theorem bump_lost_ev (s : State) (k : Fin 4) (v : Nat) : EvKeeps s (bump (0x0A0114 + 0x20 * k.val) v s) :=
  ⟨Nat.le_refl _, rfl, fun _ => rfl, fun _ ha => csrGet_csrSet_other s _ (fun e => ha ⟨k, e⟩), rfl, rfl, rfl, rfl, rfl, rfl, rfl, rfl, rfl, rfl, rfl, rfl, rfl, rfl, rfl, rfl, rfl, rfl, rfl, rfl, rfl, rfl, rfl, rfl⟩

/-- Only the event unit other than its acknowledgement, or a port's SIGs, change. -/
theorem evt_ev (s : State) (e : EvtSt) (h : e.fatalAck = s.evt.fatalAck) : EvKeeps s { s with evt := e } :=
  ⟨Nat.le_refl _, rfl, fun _ => rfl, fun _ _ => csrGet_of_regs rfl, h, rfl, rfl, rfl, rfl, rfl, rfl, rfl, rfl, rfl, rfl, rfl, rfl, rfl, rfl, rfl, rfl, rfl, rfl, rfl, rfl, rfl, rfl, rfl⟩

theorem sigs_ev (s : State) (e : EvRec) (ps : Nat) :
    EvKeeps s { s with ports := Vector.ofFn fun i : Fin 16 => if ps.testBit i.val then sigPush e s.ports[i] else s.ports[i] } := by
  refine ⟨Nat.le_refl _, rfl, fun p => ?_, fun _ _ => csrGet_of_regs rfl, rfl, rfl, rfl, rfl, rfl, rfl, rfl, rfl, rfl, rfl, rfl, rfl, rfl, rfl, rfl, rfl, rfl, rfl, rfl, rfl, rfl, rfl, rfl, rfl⟩
  simp only [Fin.getElem_fin, Vector.getElem_ofFn]
  split
  · unfold sigPush
    split <;> rfl
  · rfl

theorem seq_ev (s : State) (q : SeqSt) (h : s.seq.next ≤ q.next) (d : q.decided = s.seq.decided) : EvKeeps s { s with seq := q } :=
  ⟨h, d, fun _ => rfl, fun _ _ => csrGet_of_regs rfl, rfl, rfl, rfl, rfl, rfl, rfl, rfl, rfl, rfl, rfl, rfl, rfl, rfl, rfl, rfl, rfl, rfl, rfl, rfl, rfl, rfl, rfl, rfl, rfl⟩

theorem EvKeeps.ite {s t u : State} {c : Prop} [Decidable c] (h : EvKeeps s t) (k : EvKeeps s u) :
    EvKeeps s (if c then t else u) := by
  split
  · exact h
  · exact k

theorem mfifoPush_ack (e : EvRec) (v : EvtSt) : (mfifoPush e v).fatalAck = v.fatalAck := by
  unfold mfifoPush
  split <;> rfl

theorem deliverFatal_ev (s : State) (e : EvRec) : EvKeeps s (deliverFatal s e) := by
  unfold deliverFatal
  exact EvKeeps.ite (evt_ev s _ rfl) (EvKeeps.refl s)

theorem deliverRing_ev (s : State) (k : Fin 4) (e : EvRec) : EvKeeps s (deliverRing s k e).1 := by
  unfold deliverRing
  dsimp only
  refine EvKeeps.ite ?_ (evt_ev s _ rfl)
  refine EvKeeps.trans ?_ (bump_lost_ev _ k 1)
  exact evt_ev s _ rfl

theorem deliverSigs_ev (s : State) (e : EvRec) : EvKeeps s (deliverSigs s e) := by
  unfold deliverSigs
  exact EvKeeps.ite (sigs_ev s e _) (EvKeeps.refl s)

theorem deliverMgmt_ev (s : State) (e : EvRec) : EvKeeps s (deliverMgmt s e) := by
  unfold deliverMgmt
  exact EvKeeps.ite (evt_ev s _ (mfifoPush_ack _ _)) (EvKeeps.refl s)

theorem deliver_ev (s : State) (e : EvRec) : EvKeeps s (deliver s e).1 := by
  have f := deliverFatal_ev s e
  unfold deliver
  dsimp only
  split
  · exact f
  · exact ((f.trans (deliverRing_ev _ _ _)).trans (deliverSigs_ev _ _)).trans (deliverMgmt_ev _ _)

theorem issueEvent_ev (s : State) (src code sev a0 a1 : Nat) (j d v : Bool) :
    EvKeeps s (issueEvent s src code sev a0 a1 j d v).1 := by
  unfold issueEvent
  lift_lets
  intro f s1 e
  have h1 : EvKeeps s s1 := EvKeeps.ite (formEntry_ev s _ _ _) (EvKeeps.refl s)
  clear_value s1
  clear_value e
  refine EvKeeps.trans ?_ (deliver_ev _ _)
  refine h1.trans ?_
  exact seq_ev s1 _ (Nat.le_succ _) rfl

theorem limitSet_ev (s : State) (k : Nat) (v : Nat × Nat) : EvKeeps s (limitSet s k v) := evt_ev s _ rfl

theorem raiseLost_ev (s : State) (k : Fin 4) : EvKeeps s (raiseLost s k) := by
  unfold raiseLost
  lift_lets
  intro key
  clear_value key
  split
  · exact EvKeeps.refl s
  · dsimp only
    refine EvKeeps.trans ?_ (issueEvent_ev _ _ _ _ _ _ _ _ _)
    refine EvKeeps.trans (limitSet_ev s key (s.now + 1, 0)) ?_
    exact evt_ev _ _ rfl

theorem pushHeld_next (q : SeqSt) (h : Held) : (pushHeld q h).next = q.next ∧ (pushHeld q h).decided = q.decided := by
  unfold pushHeld
  dsimp only
  split
  · exact ⟨rfl, rfl⟩
  · split
    · exact ⟨rfl, rfl⟩
    · split
      · exact ⟨rfl, rfl⟩
      · split
        · exact ⟨rfl, rfl⟩
        · exact ⟨rfl, rfl⟩

theorem raiseX_ev (s : State) (src code sev a0 a1 : Nat) (j d v : Bool) : EvKeeps s (raiseX s src code sev a0 a1 j d v) := by
  unfold raiseX
  split
  · have h := issueEvent_ev s src code sev a0 a1 j d v
    generalize issueEvent s src code sev a0 a1 j d v = r at h ⊢
    obtain ⟨t, l⟩ := r
    cases l with
    | none => exact h
    | some k => exact h.trans (raiseLost_ev t k)
  · exact seq_ev s _ (Nat.le_of_eq (pushHeld_next _ _).1.symm) (pushHeld_next _ _).2

theorem raise_ev (s : State) (src code sev a0 a1 : Nat) : EvKeeps s (raise s src code sev a0 a1) := raiseX_ev _ _ _ _ _ _ _ _ _
theorem raiseJ_ev (s : State) (src code sev a0 a1 : Nat) : EvKeeps s (raiseJ s src code sev a0 a1) := raiseX_ev _ _ _ _ _ _ _ _ _

theorem raiseLim_ev (s : State) (key per src code sev a0 a1 sup : Nat) (j : Bool) :
    EvKeeps s (raiseLim s key per src code sev a0 a1 sup j) := by
  unfold raiseLim
  split
  · exact limitSet_ev s _ _
  · exact (limitSet_ev s _ _).trans (raiseX_ev _ _ _ _ _ _ _ _ _)

theorem journal_ev (s : State) (k src b : Nat) : EvKeeps s (journal s k src b) := by
  unfold journal
  split
  · exact formEntry_ev s _ _ _
  · exact seq_ev s _ (Nat.le_of_eq (pushHeld_next _ _).1.symm) (pushHeld_next _ _).2

/-- A raised event takes a sequence number once the series is decided (R328). -/
theorem raiseX_next (s : State) (src code sev a0 a1 : Nat) (j d v : Bool) (h : s.seq.decided = true) :
    s.seq.next < (raiseX s src code sev a0 a1 j d v).seq.next := by
  have key : s.seq.next < (issueEvent s src code sev a0 a1 j d v).1.seq.next := by
    unfold issueEvent
    lift_lets
    intro f s1 e
    have h1 : EvKeeps s s1 := EvKeeps.ite (formEntry_ev s _ _ _) (EvKeeps.refl s)
    clear_value s1
    clear_value e
    have := (deliver_ev { s1 with seq := { s1.seq with next := s1.seq.next + 1 } } e).next
    exact Nat.lt_of_lt_of_le (Nat.lt_succ_of_le h1.next) this
  unfold raiseX
  rw [if_pos h]
  generalize issueEvent s src code sev a0 a1 j d v = r at key ⊢
  obtain ⟨t, l⟩ := r
  cases l with
  | none => exact key
  | some k => exact Nat.lt_of_lt_of_le key (raiseLost_ev t k).next

/-! ### What every one of them leaves -/

variable {s t : State}

theorem EvKeeps.port_link (h : EvKeeps s t) (p : Port) : t.ports[p].link = s.ports[p].link := by
  have e := congrArg PortSt.link (h.ports p)
  exact e
theorem EvKeeps.port_failReason (h : EvKeeps s t) (p : Port) : t.ports[p].failReason = s.ports[p].failReason := by
  have e := congrArg PortSt.failReason (h.ports p)
  exact e
theorem EvKeeps.port_mapDn (h : EvKeeps s t) (p : Port) : t.ports[p].mapDn = s.ports[p].mapDn := by
  have e := congrArg PortSt.mapDn (h.ports p)
  exact e
theorem EvKeeps.port_mapUp (h : EvKeeps s t) (p : Port) : t.ports[p].mapUp = s.ports[p].mapUp := by
  have e := congrArg PortSt.mapUp (h.ports p)
  exact e
theorem EvKeeps.port_credits (h : EvKeeps s t) (p : Port) : t.ports[p].credits = s.ports[p].credits := by
  have e := congrArg PortSt.credits (h.ports p)
  exact e
theorem EvKeeps.port_returns (h : EvKeeps s t) (p : Port) : t.ports[p].returns = s.ports[p].returns := by
  have e := congrArg PortSt.returns (h.ports p)
  exact e
theorem EvKeeps.port_staging (h : EvKeeps s t) (p : Port) : t.ports[p].staging = s.ports[p].staging := by
  have e := congrArg PortSt.staging (h.ports p)
  exact e
theorem EvKeeps.port_tags (h : EvKeeps s t) (p : Port) : t.ports[p].tags = s.ports[p].tags := by
  have e := congrArg PortSt.tags (h.ports p)
  exact e
theorem EvKeeps.port_egress (h : EvKeeps s t) (p : Port) : t.ports[p].egress = s.ports[p].egress := by
  have e := congrArg PortSt.egress (h.ports p)
  exact e
theorem EvKeeps.port_sigCred (h : EvKeeps s t) (p : Port) : t.ports[p].sigCred = s.ports[p].sigCred := by
  have e := congrArg PortSt.sigCred (h.ports p)
  exact e
theorem EvKeeps.port_undrained (h : EvKeeps s t) (p : Port) : t.ports[p].undrained = s.ports[p].undrained := by
  have e := congrArg PortSt.undrained (h.ports p)
  exact e
theorem EvKeeps.port_unacked (h : EvKeeps s t) (p : Port) : t.ports[p].unacked = s.ports[p].unacked := by
  have e := congrArg PortSt.unacked (h.ports p)
  exact e
theorem EvKeeps.port_lastBar (h : EvKeeps s t) (p : Port) : t.ports[p].lastBar = s.ports[p].lastBar := by
  have e := congrArg PortSt.lastBar (h.ports p)
  exact e
theorem EvKeeps.port_lastMark (h : EvKeeps s t) (p : Port) : t.ports[p].lastMark = s.ports[p].lastMark := by
  have e := congrArg PortSt.lastMark (h.ports p)
  exact e
theorem EvKeeps.port_discarded (h : EvKeeps s t) (p : Port) : t.ports[p].discarded = s.ports[p].discarded := by
  have e := congrArg PortSt.discarded (h.ports p)
  exact e
theorem EvKeeps.port_noResp (h : EvKeeps s t) (p : Port) : t.ports[p].noResp = s.ports[p].noResp := by
  have e := congrArg PortSt.noResp (h.ports p)
  exact e
theorem EvKeeps.port_resetting (h : EvKeeps s t) (p : Port) : t.ports[p].resetting = s.ports[p].resetting := by
  have e := congrArg PortSt.resetting (h.ports p)
  exact e

@[simp] theorem raiseX_now (s : State) (src code sev a0 a1 : Nat) (j d v : Bool) : (raiseX s src code sev a0 a1 j d v).now = s.now := (raiseX_ev s src code sev a0 a1 j d v).now
@[simp] theorem raiseX_free (s : State) (src code sev a0 a1 : Nat) (j d v : Bool) : (raiseX s src code sev a0 a1 j d v).free = s.free := (raiseX_ev s src code sev a0 a1 j d v).free
@[simp] theorem raiseX_nextId (s : State) (src code sev a0 a1 : Nat) (j d v : Bool) : (raiseX s src code sev a0 a1 j d v).nextId = s.nextId := (raiseX_ev s src code sev a0 a1 j d v).nextId
@[simp] theorem raiseX_pending (s : State) (src code sev a0 a1 : Nat) (j d v : Bool) : (raiseX s src code sev a0 a1 j d v).pending = s.pending := (raiseX_ev s src code sev a0 a1 j d v).pending
@[simp] theorem raiseX_links (s : State) (src code sev a0 a1 : Nat) (j d v : Bool) : (raiseX s src code sev a0 a1 j d v).links = s.links := (raiseX_ev s src code sev a0 a1 j d v).links
@[simp] theorem raiseX_train (s : State) (src code sev a0 a1 : Nat) (j d v : Bool) : (raiseX s src code sev a0 a1 j d v).train = s.train := (raiseX_ev s src code sev a0 a1 j d v).train
@[simp] theorem raiseX_pcs (s : State) (src code sev a0 a1 : Nat) (j d v : Bool) : (raiseX s src code sev a0 a1 j d v).pcs = s.pcs := (raiseX_ev s src code sev a0 a1 j d v).pcs
@[simp] theorem raiseX_dram (s : State) (src code sev a0 a1 : Nat) (j d v : Bool) : (raiseX s src code sev a0 a1 j d v).dram = s.dram := (raiseX_ev s src code sev a0 a1 j d v).dram
@[simp] theorem raiseX_scrub (s : State) (src code sev a0 a1 : Nat) (j d v : Bool) : (raiseX s src code sev a0 a1 j d v).scrub = s.scrub := (raiseX_ev s src code sev a0 a1 j d v).scrub
@[simp] theorem raiseX_guard (s : State) (src code sev a0 a1 : Nat) (j d v : Bool) : (raiseX s src code sev a0 a1 j d v).guard = s.guard := (raiseX_ev s src code sev a0 a1 j d v).guard
@[simp] theorem raiseX_lagoon (s : State) (src code sev a0 a1 : Nat) (j d v : Bool) : (raiseX s src code sev a0 a1 j d v).lagoon = s.lagoon := (raiseX_ev s src code sev a0 a1 j d v).lagoon
@[simp] theorem raiseX_epochs (s : State) (src code sev a0 a1 : Nat) (j d v : Bool) : (raiseX s src code sev a0 a1 j d v).epochs = s.epochs := (raiseX_ev s src code sev a0 a1 j d v).epochs
@[simp] theorem raiseX_stack (s : State) (src code sev a0 a1 : Nat) (j d v : Bool) : (raiseX s src code sev a0 a1 j d v).stack = s.stack := (raiseX_ev s src code sev a0 a1 j d v).stack
@[simp] theorem raiseX_transit (s : State) (src code sev a0 a1 : Nat) (j d v : Bool) : (raiseX s src code sev a0 a1 j d v).transit = s.transit := (raiseX_ev s src code sev a0 a1 j d v).transit
@[simp] theorem raiseX_jtag (s : State) (src code sev a0 a1 : Nat) (j d v : Bool) : (raiseX s src code sev a0 a1 j d v).jtag = s.jtag := (raiseX_ev s src code sev a0 a1 j d v).jtag
@[simp] theorem raiseX_power (s : State) (src code sev a0 a1 : Nat) (j d v : Bool) : (raiseX s src code sev a0 a1 j d v).power = s.power := (raiseX_ev s src code sev a0 a1 j d v).power
@[simp] theorem raiseX_start (s : State) (src code sev a0 a1 : Nat) (j d v : Bool) : (raiseX s src code sev a0 a1 j d v).start = s.start := (raiseX_ev s src code sev a0 a1 j d v).start
@[simp] theorem raiseX_therm (s : State) (src code sev a0 a1 : Nat) (j d v : Bool) : (raiseX s src code sev a0 a1 j d v).therm = s.therm := (raiseX_ev s src code sev a0 a1 j d v).therm
@[simp] theorem raiseX_chrosy (s : State) (src code sev a0 a1 : Nat) (j d v : Bool) : (raiseX s src code sev a0 a1 j d v).chrosy = s.chrosy := (raiseX_ev s src code sev a0 a1 j d v).chrosy
@[simp] theorem raiseX_mirror (s : State) (src code sev a0 a1 : Nat) (j d v : Bool) : (raiseX s src code sev a0 a1 j d v).mirror = s.mirror := (raiseX_ev s src code sev a0 a1 j d v).mirror
@[simp] theorem raiseX_fuse (s : State) (src code sev a0 a1 : Nat) (j d v : Bool) : (raiseX s src code sev a0 a1 j d v).fuse = s.fuse := (raiseX_ev s src code sev a0 a1 j d v).fuse
@[simp] theorem raiseX_fw (s : State) (src code sev a0 a1 : Nat) (j d v : Bool) : (raiseX s src code sev a0 a1 j d v).fw = s.fw := (raiseX_ev s src code sev a0 a1 j d v).fw
@[simp] theorem raiseX_wetex (s : State) (src code sev a0 a1 : Nat) (j d v : Bool) : (raiseX s src code sev a0 a1 j d v).wetex = s.wetex := (raiseX_ev s src code sev a0 a1 j d v).wetex
@[simp] theorem raiseX_decided (s : State) (src code sev a0 a1 : Nat) (j d v : Bool) : (raiseX s src code sev a0 a1 j d v).seq.decided = s.seq.decided := (raiseX_ev s src code sev a0 a1 j d v).decided
@[simp] theorem raiseX_port_link (s : State) (src code sev a0 a1 : Nat) (j d v : Bool) (p : Port) : (raiseX s src code sev a0 a1 j d v).ports[p].link = s.ports[p].link :=
  (raiseX_ev s src code sev a0 a1 j d v).port_link p
@[simp] theorem raiseX_port_failReason (s : State) (src code sev a0 a1 : Nat) (j d v : Bool) (p : Port) : (raiseX s src code sev a0 a1 j d v).ports[p].failReason = s.ports[p].failReason :=
  (raiseX_ev s src code sev a0 a1 j d v).port_failReason p
@[simp] theorem raiseX_port_mapDn (s : State) (src code sev a0 a1 : Nat) (j d v : Bool) (p : Port) : (raiseX s src code sev a0 a1 j d v).ports[p].mapDn = s.ports[p].mapDn :=
  (raiseX_ev s src code sev a0 a1 j d v).port_mapDn p
@[simp] theorem raiseX_port_mapUp (s : State) (src code sev a0 a1 : Nat) (j d v : Bool) (p : Port) : (raiseX s src code sev a0 a1 j d v).ports[p].mapUp = s.ports[p].mapUp :=
  (raiseX_ev s src code sev a0 a1 j d v).port_mapUp p
@[simp] theorem raiseX_port_credits (s : State) (src code sev a0 a1 : Nat) (j d v : Bool) (p : Port) : (raiseX s src code sev a0 a1 j d v).ports[p].credits = s.ports[p].credits :=
  (raiseX_ev s src code sev a0 a1 j d v).port_credits p
@[simp] theorem raiseX_port_returns (s : State) (src code sev a0 a1 : Nat) (j d v : Bool) (p : Port) : (raiseX s src code sev a0 a1 j d v).ports[p].returns = s.ports[p].returns :=
  (raiseX_ev s src code sev a0 a1 j d v).port_returns p
@[simp] theorem raiseX_port_staging (s : State) (src code sev a0 a1 : Nat) (j d v : Bool) (p : Port) : (raiseX s src code sev a0 a1 j d v).ports[p].staging = s.ports[p].staging :=
  (raiseX_ev s src code sev a0 a1 j d v).port_staging p
@[simp] theorem raiseX_port_tags (s : State) (src code sev a0 a1 : Nat) (j d v : Bool) (p : Port) : (raiseX s src code sev a0 a1 j d v).ports[p].tags = s.ports[p].tags :=
  (raiseX_ev s src code sev a0 a1 j d v).port_tags p
@[simp] theorem raiseX_port_egress (s : State) (src code sev a0 a1 : Nat) (j d v : Bool) (p : Port) : (raiseX s src code sev a0 a1 j d v).ports[p].egress = s.ports[p].egress :=
  (raiseX_ev s src code sev a0 a1 j d v).port_egress p
@[simp] theorem raiseX_port_sigCred (s : State) (src code sev a0 a1 : Nat) (j d v : Bool) (p : Port) : (raiseX s src code sev a0 a1 j d v).ports[p].sigCred = s.ports[p].sigCred :=
  (raiseX_ev s src code sev a0 a1 j d v).port_sigCred p
@[simp] theorem raiseX_port_undrained (s : State) (src code sev a0 a1 : Nat) (j d v : Bool) (p : Port) : (raiseX s src code sev a0 a1 j d v).ports[p].undrained = s.ports[p].undrained :=
  (raiseX_ev s src code sev a0 a1 j d v).port_undrained p
@[simp] theorem raiseX_port_unacked (s : State) (src code sev a0 a1 : Nat) (j d v : Bool) (p : Port) : (raiseX s src code sev a0 a1 j d v).ports[p].unacked = s.ports[p].unacked :=
  (raiseX_ev s src code sev a0 a1 j d v).port_unacked p
@[simp] theorem raiseX_port_lastBar (s : State) (src code sev a0 a1 : Nat) (j d v : Bool) (p : Port) : (raiseX s src code sev a0 a1 j d v).ports[p].lastBar = s.ports[p].lastBar :=
  (raiseX_ev s src code sev a0 a1 j d v).port_lastBar p
@[simp] theorem raiseX_port_lastMark (s : State) (src code sev a0 a1 : Nat) (j d v : Bool) (p : Port) : (raiseX s src code sev a0 a1 j d v).ports[p].lastMark = s.ports[p].lastMark :=
  (raiseX_ev s src code sev a0 a1 j d v).port_lastMark p
@[simp] theorem raiseX_port_discarded (s : State) (src code sev a0 a1 : Nat) (j d v : Bool) (p : Port) : (raiseX s src code sev a0 a1 j d v).ports[p].discarded = s.ports[p].discarded :=
  (raiseX_ev s src code sev a0 a1 j d v).port_discarded p
@[simp] theorem raiseX_port_noResp (s : State) (src code sev a0 a1 : Nat) (j d v : Bool) (p : Port) : (raiseX s src code sev a0 a1 j d v).ports[p].noResp = s.ports[p].noResp :=
  (raiseX_ev s src code sev a0 a1 j d v).port_noResp p
@[simp] theorem raiseX_port_resetting (s : State) (src code sev a0 a1 : Nat) (j d v : Bool) (p : Port) : (raiseX s src code sev a0 a1 j d v).ports[p].resetting = s.ports[p].resetting :=
  (raiseX_ev s src code sev a0 a1 j d v).port_resetting p

@[simp] theorem raise_now (s : State) (src code sev a0 a1 : Nat) : (raise s src code sev a0 a1).now = s.now := (raise_ev s src code sev a0 a1).now
@[simp] theorem raise_free (s : State) (src code sev a0 a1 : Nat) : (raise s src code sev a0 a1).free = s.free := (raise_ev s src code sev a0 a1).free
@[simp] theorem raise_nextId (s : State) (src code sev a0 a1 : Nat) : (raise s src code sev a0 a1).nextId = s.nextId := (raise_ev s src code sev a0 a1).nextId
@[simp] theorem raise_pending (s : State) (src code sev a0 a1 : Nat) : (raise s src code sev a0 a1).pending = s.pending := (raise_ev s src code sev a0 a1).pending
@[simp] theorem raise_links (s : State) (src code sev a0 a1 : Nat) : (raise s src code sev a0 a1).links = s.links := (raise_ev s src code sev a0 a1).links
@[simp] theorem raise_train (s : State) (src code sev a0 a1 : Nat) : (raise s src code sev a0 a1).train = s.train := (raise_ev s src code sev a0 a1).train
@[simp] theorem raise_pcs (s : State) (src code sev a0 a1 : Nat) : (raise s src code sev a0 a1).pcs = s.pcs := (raise_ev s src code sev a0 a1).pcs
@[simp] theorem raise_dram (s : State) (src code sev a0 a1 : Nat) : (raise s src code sev a0 a1).dram = s.dram := (raise_ev s src code sev a0 a1).dram
@[simp] theorem raise_scrub (s : State) (src code sev a0 a1 : Nat) : (raise s src code sev a0 a1).scrub = s.scrub := (raise_ev s src code sev a0 a1).scrub
@[simp] theorem raise_guard (s : State) (src code sev a0 a1 : Nat) : (raise s src code sev a0 a1).guard = s.guard := (raise_ev s src code sev a0 a1).guard
@[simp] theorem raise_lagoon (s : State) (src code sev a0 a1 : Nat) : (raise s src code sev a0 a1).lagoon = s.lagoon := (raise_ev s src code sev a0 a1).lagoon
@[simp] theorem raise_epochs (s : State) (src code sev a0 a1 : Nat) : (raise s src code sev a0 a1).epochs = s.epochs := (raise_ev s src code sev a0 a1).epochs
@[simp] theorem raise_stack (s : State) (src code sev a0 a1 : Nat) : (raise s src code sev a0 a1).stack = s.stack := (raise_ev s src code sev a0 a1).stack
@[simp] theorem raise_transit (s : State) (src code sev a0 a1 : Nat) : (raise s src code sev a0 a1).transit = s.transit := (raise_ev s src code sev a0 a1).transit
@[simp] theorem raise_jtag (s : State) (src code sev a0 a1 : Nat) : (raise s src code sev a0 a1).jtag = s.jtag := (raise_ev s src code sev a0 a1).jtag
@[simp] theorem raise_power (s : State) (src code sev a0 a1 : Nat) : (raise s src code sev a0 a1).power = s.power := (raise_ev s src code sev a0 a1).power
@[simp] theorem raise_start (s : State) (src code sev a0 a1 : Nat) : (raise s src code sev a0 a1).start = s.start := (raise_ev s src code sev a0 a1).start
@[simp] theorem raise_therm (s : State) (src code sev a0 a1 : Nat) : (raise s src code sev a0 a1).therm = s.therm := (raise_ev s src code sev a0 a1).therm
@[simp] theorem raise_chrosy (s : State) (src code sev a0 a1 : Nat) : (raise s src code sev a0 a1).chrosy = s.chrosy := (raise_ev s src code sev a0 a1).chrosy
@[simp] theorem raise_mirror (s : State) (src code sev a0 a1 : Nat) : (raise s src code sev a0 a1).mirror = s.mirror := (raise_ev s src code sev a0 a1).mirror
@[simp] theorem raise_fuse (s : State) (src code sev a0 a1 : Nat) : (raise s src code sev a0 a1).fuse = s.fuse := (raise_ev s src code sev a0 a1).fuse
@[simp] theorem raise_fw (s : State) (src code sev a0 a1 : Nat) : (raise s src code sev a0 a1).fw = s.fw := (raise_ev s src code sev a0 a1).fw
@[simp] theorem raise_wetex (s : State) (src code sev a0 a1 : Nat) : (raise s src code sev a0 a1).wetex = s.wetex := (raise_ev s src code sev a0 a1).wetex
@[simp] theorem raise_decided (s : State) (src code sev a0 a1 : Nat) : (raise s src code sev a0 a1).seq.decided = s.seq.decided := (raise_ev s src code sev a0 a1).decided
@[simp] theorem raise_port_link (s : State) (src code sev a0 a1 : Nat) (p : Port) : (raise s src code sev a0 a1).ports[p].link = s.ports[p].link :=
  (raise_ev s src code sev a0 a1).port_link p
@[simp] theorem raise_port_failReason (s : State) (src code sev a0 a1 : Nat) (p : Port) : (raise s src code sev a0 a1).ports[p].failReason = s.ports[p].failReason :=
  (raise_ev s src code sev a0 a1).port_failReason p
@[simp] theorem raise_port_mapDn (s : State) (src code sev a0 a1 : Nat) (p : Port) : (raise s src code sev a0 a1).ports[p].mapDn = s.ports[p].mapDn :=
  (raise_ev s src code sev a0 a1).port_mapDn p
@[simp] theorem raise_port_mapUp (s : State) (src code sev a0 a1 : Nat) (p : Port) : (raise s src code sev a0 a1).ports[p].mapUp = s.ports[p].mapUp :=
  (raise_ev s src code sev a0 a1).port_mapUp p
@[simp] theorem raise_port_credits (s : State) (src code sev a0 a1 : Nat) (p : Port) : (raise s src code sev a0 a1).ports[p].credits = s.ports[p].credits :=
  (raise_ev s src code sev a0 a1).port_credits p
@[simp] theorem raise_port_returns (s : State) (src code sev a0 a1 : Nat) (p : Port) : (raise s src code sev a0 a1).ports[p].returns = s.ports[p].returns :=
  (raise_ev s src code sev a0 a1).port_returns p
@[simp] theorem raise_port_staging (s : State) (src code sev a0 a1 : Nat) (p : Port) : (raise s src code sev a0 a1).ports[p].staging = s.ports[p].staging :=
  (raise_ev s src code sev a0 a1).port_staging p
@[simp] theorem raise_port_tags (s : State) (src code sev a0 a1 : Nat) (p : Port) : (raise s src code sev a0 a1).ports[p].tags = s.ports[p].tags :=
  (raise_ev s src code sev a0 a1).port_tags p
@[simp] theorem raise_port_egress (s : State) (src code sev a0 a1 : Nat) (p : Port) : (raise s src code sev a0 a1).ports[p].egress = s.ports[p].egress :=
  (raise_ev s src code sev a0 a1).port_egress p
@[simp] theorem raise_port_sigCred (s : State) (src code sev a0 a1 : Nat) (p : Port) : (raise s src code sev a0 a1).ports[p].sigCred = s.ports[p].sigCred :=
  (raise_ev s src code sev a0 a1).port_sigCred p
@[simp] theorem raise_port_undrained (s : State) (src code sev a0 a1 : Nat) (p : Port) : (raise s src code sev a0 a1).ports[p].undrained = s.ports[p].undrained :=
  (raise_ev s src code sev a0 a1).port_undrained p
@[simp] theorem raise_port_unacked (s : State) (src code sev a0 a1 : Nat) (p : Port) : (raise s src code sev a0 a1).ports[p].unacked = s.ports[p].unacked :=
  (raise_ev s src code sev a0 a1).port_unacked p
@[simp] theorem raise_port_lastBar (s : State) (src code sev a0 a1 : Nat) (p : Port) : (raise s src code sev a0 a1).ports[p].lastBar = s.ports[p].lastBar :=
  (raise_ev s src code sev a0 a1).port_lastBar p
@[simp] theorem raise_port_lastMark (s : State) (src code sev a0 a1 : Nat) (p : Port) : (raise s src code sev a0 a1).ports[p].lastMark = s.ports[p].lastMark :=
  (raise_ev s src code sev a0 a1).port_lastMark p
@[simp] theorem raise_port_discarded (s : State) (src code sev a0 a1 : Nat) (p : Port) : (raise s src code sev a0 a1).ports[p].discarded = s.ports[p].discarded :=
  (raise_ev s src code sev a0 a1).port_discarded p
@[simp] theorem raise_port_noResp (s : State) (src code sev a0 a1 : Nat) (p : Port) : (raise s src code sev a0 a1).ports[p].noResp = s.ports[p].noResp :=
  (raise_ev s src code sev a0 a1).port_noResp p
@[simp] theorem raise_port_resetting (s : State) (src code sev a0 a1 : Nat) (p : Port) : (raise s src code sev a0 a1).ports[p].resetting = s.ports[p].resetting :=
  (raise_ev s src code sev a0 a1).port_resetting p

@[simp] theorem raiseJ_now (s : State) (src code sev a0 a1 : Nat) : (raiseJ s src code sev a0 a1).now = s.now := (raiseJ_ev s src code sev a0 a1).now
@[simp] theorem raiseJ_free (s : State) (src code sev a0 a1 : Nat) : (raiseJ s src code sev a0 a1).free = s.free := (raiseJ_ev s src code sev a0 a1).free
@[simp] theorem raiseJ_nextId (s : State) (src code sev a0 a1 : Nat) : (raiseJ s src code sev a0 a1).nextId = s.nextId := (raiseJ_ev s src code sev a0 a1).nextId
@[simp] theorem raiseJ_pending (s : State) (src code sev a0 a1 : Nat) : (raiseJ s src code sev a0 a1).pending = s.pending := (raiseJ_ev s src code sev a0 a1).pending
@[simp] theorem raiseJ_links (s : State) (src code sev a0 a1 : Nat) : (raiseJ s src code sev a0 a1).links = s.links := (raiseJ_ev s src code sev a0 a1).links
@[simp] theorem raiseJ_train (s : State) (src code sev a0 a1 : Nat) : (raiseJ s src code sev a0 a1).train = s.train := (raiseJ_ev s src code sev a0 a1).train
@[simp] theorem raiseJ_pcs (s : State) (src code sev a0 a1 : Nat) : (raiseJ s src code sev a0 a1).pcs = s.pcs := (raiseJ_ev s src code sev a0 a1).pcs
@[simp] theorem raiseJ_dram (s : State) (src code sev a0 a1 : Nat) : (raiseJ s src code sev a0 a1).dram = s.dram := (raiseJ_ev s src code sev a0 a1).dram
@[simp] theorem raiseJ_scrub (s : State) (src code sev a0 a1 : Nat) : (raiseJ s src code sev a0 a1).scrub = s.scrub := (raiseJ_ev s src code sev a0 a1).scrub
@[simp] theorem raiseJ_guard (s : State) (src code sev a0 a1 : Nat) : (raiseJ s src code sev a0 a1).guard = s.guard := (raiseJ_ev s src code sev a0 a1).guard
@[simp] theorem raiseJ_lagoon (s : State) (src code sev a0 a1 : Nat) : (raiseJ s src code sev a0 a1).lagoon = s.lagoon := (raiseJ_ev s src code sev a0 a1).lagoon
@[simp] theorem raiseJ_epochs (s : State) (src code sev a0 a1 : Nat) : (raiseJ s src code sev a0 a1).epochs = s.epochs := (raiseJ_ev s src code sev a0 a1).epochs
@[simp] theorem raiseJ_stack (s : State) (src code sev a0 a1 : Nat) : (raiseJ s src code sev a0 a1).stack = s.stack := (raiseJ_ev s src code sev a0 a1).stack
@[simp] theorem raiseJ_transit (s : State) (src code sev a0 a1 : Nat) : (raiseJ s src code sev a0 a1).transit = s.transit := (raiseJ_ev s src code sev a0 a1).transit
@[simp] theorem raiseJ_jtag (s : State) (src code sev a0 a1 : Nat) : (raiseJ s src code sev a0 a1).jtag = s.jtag := (raiseJ_ev s src code sev a0 a1).jtag
@[simp] theorem raiseJ_power (s : State) (src code sev a0 a1 : Nat) : (raiseJ s src code sev a0 a1).power = s.power := (raiseJ_ev s src code sev a0 a1).power
@[simp] theorem raiseJ_start (s : State) (src code sev a0 a1 : Nat) : (raiseJ s src code sev a0 a1).start = s.start := (raiseJ_ev s src code sev a0 a1).start
@[simp] theorem raiseJ_therm (s : State) (src code sev a0 a1 : Nat) : (raiseJ s src code sev a0 a1).therm = s.therm := (raiseJ_ev s src code sev a0 a1).therm
@[simp] theorem raiseJ_chrosy (s : State) (src code sev a0 a1 : Nat) : (raiseJ s src code sev a0 a1).chrosy = s.chrosy := (raiseJ_ev s src code sev a0 a1).chrosy
@[simp] theorem raiseJ_mirror (s : State) (src code sev a0 a1 : Nat) : (raiseJ s src code sev a0 a1).mirror = s.mirror := (raiseJ_ev s src code sev a0 a1).mirror
@[simp] theorem raiseJ_fuse (s : State) (src code sev a0 a1 : Nat) : (raiseJ s src code sev a0 a1).fuse = s.fuse := (raiseJ_ev s src code sev a0 a1).fuse
@[simp] theorem raiseJ_fw (s : State) (src code sev a0 a1 : Nat) : (raiseJ s src code sev a0 a1).fw = s.fw := (raiseJ_ev s src code sev a0 a1).fw
@[simp] theorem raiseJ_wetex (s : State) (src code sev a0 a1 : Nat) : (raiseJ s src code sev a0 a1).wetex = s.wetex := (raiseJ_ev s src code sev a0 a1).wetex
@[simp] theorem raiseJ_decided (s : State) (src code sev a0 a1 : Nat) : (raiseJ s src code sev a0 a1).seq.decided = s.seq.decided := (raiseJ_ev s src code sev a0 a1).decided
@[simp] theorem raiseJ_port_link (s : State) (src code sev a0 a1 : Nat) (p : Port) : (raiseJ s src code sev a0 a1).ports[p].link = s.ports[p].link :=
  (raiseJ_ev s src code sev a0 a1).port_link p
@[simp] theorem raiseJ_port_failReason (s : State) (src code sev a0 a1 : Nat) (p : Port) : (raiseJ s src code sev a0 a1).ports[p].failReason = s.ports[p].failReason :=
  (raiseJ_ev s src code sev a0 a1).port_failReason p
@[simp] theorem raiseJ_port_mapDn (s : State) (src code sev a0 a1 : Nat) (p : Port) : (raiseJ s src code sev a0 a1).ports[p].mapDn = s.ports[p].mapDn :=
  (raiseJ_ev s src code sev a0 a1).port_mapDn p
@[simp] theorem raiseJ_port_mapUp (s : State) (src code sev a0 a1 : Nat) (p : Port) : (raiseJ s src code sev a0 a1).ports[p].mapUp = s.ports[p].mapUp :=
  (raiseJ_ev s src code sev a0 a1).port_mapUp p
@[simp] theorem raiseJ_port_credits (s : State) (src code sev a0 a1 : Nat) (p : Port) : (raiseJ s src code sev a0 a1).ports[p].credits = s.ports[p].credits :=
  (raiseJ_ev s src code sev a0 a1).port_credits p
@[simp] theorem raiseJ_port_returns (s : State) (src code sev a0 a1 : Nat) (p : Port) : (raiseJ s src code sev a0 a1).ports[p].returns = s.ports[p].returns :=
  (raiseJ_ev s src code sev a0 a1).port_returns p
@[simp] theorem raiseJ_port_staging (s : State) (src code sev a0 a1 : Nat) (p : Port) : (raiseJ s src code sev a0 a1).ports[p].staging = s.ports[p].staging :=
  (raiseJ_ev s src code sev a0 a1).port_staging p
@[simp] theorem raiseJ_port_tags (s : State) (src code sev a0 a1 : Nat) (p : Port) : (raiseJ s src code sev a0 a1).ports[p].tags = s.ports[p].tags :=
  (raiseJ_ev s src code sev a0 a1).port_tags p
@[simp] theorem raiseJ_port_egress (s : State) (src code sev a0 a1 : Nat) (p : Port) : (raiseJ s src code sev a0 a1).ports[p].egress = s.ports[p].egress :=
  (raiseJ_ev s src code sev a0 a1).port_egress p
@[simp] theorem raiseJ_port_sigCred (s : State) (src code sev a0 a1 : Nat) (p : Port) : (raiseJ s src code sev a0 a1).ports[p].sigCred = s.ports[p].sigCred :=
  (raiseJ_ev s src code sev a0 a1).port_sigCred p
@[simp] theorem raiseJ_port_undrained (s : State) (src code sev a0 a1 : Nat) (p : Port) : (raiseJ s src code sev a0 a1).ports[p].undrained = s.ports[p].undrained :=
  (raiseJ_ev s src code sev a0 a1).port_undrained p
@[simp] theorem raiseJ_port_unacked (s : State) (src code sev a0 a1 : Nat) (p : Port) : (raiseJ s src code sev a0 a1).ports[p].unacked = s.ports[p].unacked :=
  (raiseJ_ev s src code sev a0 a1).port_unacked p
@[simp] theorem raiseJ_port_lastBar (s : State) (src code sev a0 a1 : Nat) (p : Port) : (raiseJ s src code sev a0 a1).ports[p].lastBar = s.ports[p].lastBar :=
  (raiseJ_ev s src code sev a0 a1).port_lastBar p
@[simp] theorem raiseJ_port_lastMark (s : State) (src code sev a0 a1 : Nat) (p : Port) : (raiseJ s src code sev a0 a1).ports[p].lastMark = s.ports[p].lastMark :=
  (raiseJ_ev s src code sev a0 a1).port_lastMark p
@[simp] theorem raiseJ_port_discarded (s : State) (src code sev a0 a1 : Nat) (p : Port) : (raiseJ s src code sev a0 a1).ports[p].discarded = s.ports[p].discarded :=
  (raiseJ_ev s src code sev a0 a1).port_discarded p
@[simp] theorem raiseJ_port_noResp (s : State) (src code sev a0 a1 : Nat) (p : Port) : (raiseJ s src code sev a0 a1).ports[p].noResp = s.ports[p].noResp :=
  (raiseJ_ev s src code sev a0 a1).port_noResp p
@[simp] theorem raiseJ_port_resetting (s : State) (src code sev a0 a1 : Nat) (p : Port) : (raiseJ s src code sev a0 a1).ports[p].resetting = s.ports[p].resetting :=
  (raiseJ_ev s src code sev a0 a1).port_resetting p

@[simp] theorem raiseLim_now (s : State) (key per src code sev a0 a1 sup : Nat) (j : Bool) : (raiseLim s key per src code sev a0 a1 sup j).now = s.now := (raiseLim_ev s key per src code sev a0 a1 sup j).now
@[simp] theorem raiseLim_free (s : State) (key per src code sev a0 a1 sup : Nat) (j : Bool) : (raiseLim s key per src code sev a0 a1 sup j).free = s.free := (raiseLim_ev s key per src code sev a0 a1 sup j).free
@[simp] theorem raiseLim_nextId (s : State) (key per src code sev a0 a1 sup : Nat) (j : Bool) : (raiseLim s key per src code sev a0 a1 sup j).nextId = s.nextId := (raiseLim_ev s key per src code sev a0 a1 sup j).nextId
@[simp] theorem raiseLim_pending (s : State) (key per src code sev a0 a1 sup : Nat) (j : Bool) : (raiseLim s key per src code sev a0 a1 sup j).pending = s.pending := (raiseLim_ev s key per src code sev a0 a1 sup j).pending
@[simp] theorem raiseLim_links (s : State) (key per src code sev a0 a1 sup : Nat) (j : Bool) : (raiseLim s key per src code sev a0 a1 sup j).links = s.links := (raiseLim_ev s key per src code sev a0 a1 sup j).links
@[simp] theorem raiseLim_train (s : State) (key per src code sev a0 a1 sup : Nat) (j : Bool) : (raiseLim s key per src code sev a0 a1 sup j).train = s.train := (raiseLim_ev s key per src code sev a0 a1 sup j).train
@[simp] theorem raiseLim_pcs (s : State) (key per src code sev a0 a1 sup : Nat) (j : Bool) : (raiseLim s key per src code sev a0 a1 sup j).pcs = s.pcs := (raiseLim_ev s key per src code sev a0 a1 sup j).pcs
@[simp] theorem raiseLim_dram (s : State) (key per src code sev a0 a1 sup : Nat) (j : Bool) : (raiseLim s key per src code sev a0 a1 sup j).dram = s.dram := (raiseLim_ev s key per src code sev a0 a1 sup j).dram
@[simp] theorem raiseLim_scrub (s : State) (key per src code sev a0 a1 sup : Nat) (j : Bool) : (raiseLim s key per src code sev a0 a1 sup j).scrub = s.scrub := (raiseLim_ev s key per src code sev a0 a1 sup j).scrub
@[simp] theorem raiseLim_guard (s : State) (key per src code sev a0 a1 sup : Nat) (j : Bool) : (raiseLim s key per src code sev a0 a1 sup j).guard = s.guard := (raiseLim_ev s key per src code sev a0 a1 sup j).guard
@[simp] theorem raiseLim_lagoon (s : State) (key per src code sev a0 a1 sup : Nat) (j : Bool) : (raiseLim s key per src code sev a0 a1 sup j).lagoon = s.lagoon := (raiseLim_ev s key per src code sev a0 a1 sup j).lagoon
@[simp] theorem raiseLim_epochs (s : State) (key per src code sev a0 a1 sup : Nat) (j : Bool) : (raiseLim s key per src code sev a0 a1 sup j).epochs = s.epochs := (raiseLim_ev s key per src code sev a0 a1 sup j).epochs
@[simp] theorem raiseLim_stack (s : State) (key per src code sev a0 a1 sup : Nat) (j : Bool) : (raiseLim s key per src code sev a0 a1 sup j).stack = s.stack := (raiseLim_ev s key per src code sev a0 a1 sup j).stack
@[simp] theorem raiseLim_transit (s : State) (key per src code sev a0 a1 sup : Nat) (j : Bool) : (raiseLim s key per src code sev a0 a1 sup j).transit = s.transit := (raiseLim_ev s key per src code sev a0 a1 sup j).transit
@[simp] theorem raiseLim_jtag (s : State) (key per src code sev a0 a1 sup : Nat) (j : Bool) : (raiseLim s key per src code sev a0 a1 sup j).jtag = s.jtag := (raiseLim_ev s key per src code sev a0 a1 sup j).jtag
@[simp] theorem raiseLim_power (s : State) (key per src code sev a0 a1 sup : Nat) (j : Bool) : (raiseLim s key per src code sev a0 a1 sup j).power = s.power := (raiseLim_ev s key per src code sev a0 a1 sup j).power
@[simp] theorem raiseLim_start (s : State) (key per src code sev a0 a1 sup : Nat) (j : Bool) : (raiseLim s key per src code sev a0 a1 sup j).start = s.start := (raiseLim_ev s key per src code sev a0 a1 sup j).start
@[simp] theorem raiseLim_therm (s : State) (key per src code sev a0 a1 sup : Nat) (j : Bool) : (raiseLim s key per src code sev a0 a1 sup j).therm = s.therm := (raiseLim_ev s key per src code sev a0 a1 sup j).therm
@[simp] theorem raiseLim_chrosy (s : State) (key per src code sev a0 a1 sup : Nat) (j : Bool) : (raiseLim s key per src code sev a0 a1 sup j).chrosy = s.chrosy := (raiseLim_ev s key per src code sev a0 a1 sup j).chrosy
@[simp] theorem raiseLim_mirror (s : State) (key per src code sev a0 a1 sup : Nat) (j : Bool) : (raiseLim s key per src code sev a0 a1 sup j).mirror = s.mirror := (raiseLim_ev s key per src code sev a0 a1 sup j).mirror
@[simp] theorem raiseLim_fuse (s : State) (key per src code sev a0 a1 sup : Nat) (j : Bool) : (raiseLim s key per src code sev a0 a1 sup j).fuse = s.fuse := (raiseLim_ev s key per src code sev a0 a1 sup j).fuse
@[simp] theorem raiseLim_fw (s : State) (key per src code sev a0 a1 sup : Nat) (j : Bool) : (raiseLim s key per src code sev a0 a1 sup j).fw = s.fw := (raiseLim_ev s key per src code sev a0 a1 sup j).fw
@[simp] theorem raiseLim_wetex (s : State) (key per src code sev a0 a1 sup : Nat) (j : Bool) : (raiseLim s key per src code sev a0 a1 sup j).wetex = s.wetex := (raiseLim_ev s key per src code sev a0 a1 sup j).wetex
@[simp] theorem raiseLim_decided (s : State) (key per src code sev a0 a1 sup : Nat) (j : Bool) : (raiseLim s key per src code sev a0 a1 sup j).seq.decided = s.seq.decided := (raiseLim_ev s key per src code sev a0 a1 sup j).decided
@[simp] theorem raiseLim_port_link (s : State) (key per src code sev a0 a1 sup : Nat) (j : Bool) (p : Port) : (raiseLim s key per src code sev a0 a1 sup j).ports[p].link = s.ports[p].link :=
  (raiseLim_ev s key per src code sev a0 a1 sup j).port_link p
@[simp] theorem raiseLim_port_failReason (s : State) (key per src code sev a0 a1 sup : Nat) (j : Bool) (p : Port) : (raiseLim s key per src code sev a0 a1 sup j).ports[p].failReason = s.ports[p].failReason :=
  (raiseLim_ev s key per src code sev a0 a1 sup j).port_failReason p
@[simp] theorem raiseLim_port_mapDn (s : State) (key per src code sev a0 a1 sup : Nat) (j : Bool) (p : Port) : (raiseLim s key per src code sev a0 a1 sup j).ports[p].mapDn = s.ports[p].mapDn :=
  (raiseLim_ev s key per src code sev a0 a1 sup j).port_mapDn p
@[simp] theorem raiseLim_port_mapUp (s : State) (key per src code sev a0 a1 sup : Nat) (j : Bool) (p : Port) : (raiseLim s key per src code sev a0 a1 sup j).ports[p].mapUp = s.ports[p].mapUp :=
  (raiseLim_ev s key per src code sev a0 a1 sup j).port_mapUp p
@[simp] theorem raiseLim_port_credits (s : State) (key per src code sev a0 a1 sup : Nat) (j : Bool) (p : Port) : (raiseLim s key per src code sev a0 a1 sup j).ports[p].credits = s.ports[p].credits :=
  (raiseLim_ev s key per src code sev a0 a1 sup j).port_credits p
@[simp] theorem raiseLim_port_returns (s : State) (key per src code sev a0 a1 sup : Nat) (j : Bool) (p : Port) : (raiseLim s key per src code sev a0 a1 sup j).ports[p].returns = s.ports[p].returns :=
  (raiseLim_ev s key per src code sev a0 a1 sup j).port_returns p
@[simp] theorem raiseLim_port_staging (s : State) (key per src code sev a0 a1 sup : Nat) (j : Bool) (p : Port) : (raiseLim s key per src code sev a0 a1 sup j).ports[p].staging = s.ports[p].staging :=
  (raiseLim_ev s key per src code sev a0 a1 sup j).port_staging p
@[simp] theorem raiseLim_port_tags (s : State) (key per src code sev a0 a1 sup : Nat) (j : Bool) (p : Port) : (raiseLim s key per src code sev a0 a1 sup j).ports[p].tags = s.ports[p].tags :=
  (raiseLim_ev s key per src code sev a0 a1 sup j).port_tags p
@[simp] theorem raiseLim_port_egress (s : State) (key per src code sev a0 a1 sup : Nat) (j : Bool) (p : Port) : (raiseLim s key per src code sev a0 a1 sup j).ports[p].egress = s.ports[p].egress :=
  (raiseLim_ev s key per src code sev a0 a1 sup j).port_egress p
@[simp] theorem raiseLim_port_sigCred (s : State) (key per src code sev a0 a1 sup : Nat) (j : Bool) (p : Port) : (raiseLim s key per src code sev a0 a1 sup j).ports[p].sigCred = s.ports[p].sigCred :=
  (raiseLim_ev s key per src code sev a0 a1 sup j).port_sigCred p
@[simp] theorem raiseLim_port_undrained (s : State) (key per src code sev a0 a1 sup : Nat) (j : Bool) (p : Port) : (raiseLim s key per src code sev a0 a1 sup j).ports[p].undrained = s.ports[p].undrained :=
  (raiseLim_ev s key per src code sev a0 a1 sup j).port_undrained p
@[simp] theorem raiseLim_port_unacked (s : State) (key per src code sev a0 a1 sup : Nat) (j : Bool) (p : Port) : (raiseLim s key per src code sev a0 a1 sup j).ports[p].unacked = s.ports[p].unacked :=
  (raiseLim_ev s key per src code sev a0 a1 sup j).port_unacked p
@[simp] theorem raiseLim_port_lastBar (s : State) (key per src code sev a0 a1 sup : Nat) (j : Bool) (p : Port) : (raiseLim s key per src code sev a0 a1 sup j).ports[p].lastBar = s.ports[p].lastBar :=
  (raiseLim_ev s key per src code sev a0 a1 sup j).port_lastBar p
@[simp] theorem raiseLim_port_lastMark (s : State) (key per src code sev a0 a1 sup : Nat) (j : Bool) (p : Port) : (raiseLim s key per src code sev a0 a1 sup j).ports[p].lastMark = s.ports[p].lastMark :=
  (raiseLim_ev s key per src code sev a0 a1 sup j).port_lastMark p
@[simp] theorem raiseLim_port_discarded (s : State) (key per src code sev a0 a1 sup : Nat) (j : Bool) (p : Port) : (raiseLim s key per src code sev a0 a1 sup j).ports[p].discarded = s.ports[p].discarded :=
  (raiseLim_ev s key per src code sev a0 a1 sup j).port_discarded p
@[simp] theorem raiseLim_port_noResp (s : State) (key per src code sev a0 a1 sup : Nat) (j : Bool) (p : Port) : (raiseLim s key per src code sev a0 a1 sup j).ports[p].noResp = s.ports[p].noResp :=
  (raiseLim_ev s key per src code sev a0 a1 sup j).port_noResp p
@[simp] theorem raiseLim_port_resetting (s : State) (key per src code sev a0 a1 sup : Nat) (j : Bool) (p : Port) : (raiseLim s key per src code sev a0 a1 sup j).ports[p].resetting = s.ports[p].resetting :=
  (raiseLim_ev s key per src code sev a0 a1 sup j).port_resetting p

@[simp] theorem journal_now (s : State) (k src b : Nat) : (journal s k src b).now = s.now := (journal_ev s k src b).now
@[simp] theorem journal_free (s : State) (k src b : Nat) : (journal s k src b).free = s.free := (journal_ev s k src b).free
@[simp] theorem journal_nextId (s : State) (k src b : Nat) : (journal s k src b).nextId = s.nextId := (journal_ev s k src b).nextId
@[simp] theorem journal_pending (s : State) (k src b : Nat) : (journal s k src b).pending = s.pending := (journal_ev s k src b).pending
@[simp] theorem journal_links (s : State) (k src b : Nat) : (journal s k src b).links = s.links := (journal_ev s k src b).links
@[simp] theorem journal_train (s : State) (k src b : Nat) : (journal s k src b).train = s.train := (journal_ev s k src b).train
@[simp] theorem journal_pcs (s : State) (k src b : Nat) : (journal s k src b).pcs = s.pcs := (journal_ev s k src b).pcs
@[simp] theorem journal_dram (s : State) (k src b : Nat) : (journal s k src b).dram = s.dram := (journal_ev s k src b).dram
@[simp] theorem journal_scrub (s : State) (k src b : Nat) : (journal s k src b).scrub = s.scrub := (journal_ev s k src b).scrub
@[simp] theorem journal_guard (s : State) (k src b : Nat) : (journal s k src b).guard = s.guard := (journal_ev s k src b).guard
@[simp] theorem journal_lagoon (s : State) (k src b : Nat) : (journal s k src b).lagoon = s.lagoon := (journal_ev s k src b).lagoon
@[simp] theorem journal_epochs (s : State) (k src b : Nat) : (journal s k src b).epochs = s.epochs := (journal_ev s k src b).epochs
@[simp] theorem journal_stack (s : State) (k src b : Nat) : (journal s k src b).stack = s.stack := (journal_ev s k src b).stack
@[simp] theorem journal_transit (s : State) (k src b : Nat) : (journal s k src b).transit = s.transit := (journal_ev s k src b).transit
@[simp] theorem journal_jtag (s : State) (k src b : Nat) : (journal s k src b).jtag = s.jtag := (journal_ev s k src b).jtag
@[simp] theorem journal_power (s : State) (k src b : Nat) : (journal s k src b).power = s.power := (journal_ev s k src b).power
@[simp] theorem journal_start (s : State) (k src b : Nat) : (journal s k src b).start = s.start := (journal_ev s k src b).start
@[simp] theorem journal_therm (s : State) (k src b : Nat) : (journal s k src b).therm = s.therm := (journal_ev s k src b).therm
@[simp] theorem journal_chrosy (s : State) (k src b : Nat) : (journal s k src b).chrosy = s.chrosy := (journal_ev s k src b).chrosy
@[simp] theorem journal_mirror (s : State) (k src b : Nat) : (journal s k src b).mirror = s.mirror := (journal_ev s k src b).mirror
@[simp] theorem journal_fuse (s : State) (k src b : Nat) : (journal s k src b).fuse = s.fuse := (journal_ev s k src b).fuse
@[simp] theorem journal_fw (s : State) (k src b : Nat) : (journal s k src b).fw = s.fw := (journal_ev s k src b).fw
@[simp] theorem journal_wetex (s : State) (k src b : Nat) : (journal s k src b).wetex = s.wetex := (journal_ev s k src b).wetex
@[simp] theorem journal_decided (s : State) (k src b : Nat) : (journal s k src b).seq.decided = s.seq.decided := (journal_ev s k src b).decided
@[simp] theorem journal_port_link (s : State) (k src b : Nat) (p : Port) : (journal s k src b).ports[p].link = s.ports[p].link :=
  (journal_ev s k src b).port_link p
@[simp] theorem journal_port_failReason (s : State) (k src b : Nat) (p : Port) : (journal s k src b).ports[p].failReason = s.ports[p].failReason :=
  (journal_ev s k src b).port_failReason p
@[simp] theorem journal_port_mapDn (s : State) (k src b : Nat) (p : Port) : (journal s k src b).ports[p].mapDn = s.ports[p].mapDn :=
  (journal_ev s k src b).port_mapDn p
@[simp] theorem journal_port_mapUp (s : State) (k src b : Nat) (p : Port) : (journal s k src b).ports[p].mapUp = s.ports[p].mapUp :=
  (journal_ev s k src b).port_mapUp p
@[simp] theorem journal_port_credits (s : State) (k src b : Nat) (p : Port) : (journal s k src b).ports[p].credits = s.ports[p].credits :=
  (journal_ev s k src b).port_credits p
@[simp] theorem journal_port_returns (s : State) (k src b : Nat) (p : Port) : (journal s k src b).ports[p].returns = s.ports[p].returns :=
  (journal_ev s k src b).port_returns p
@[simp] theorem journal_port_staging (s : State) (k src b : Nat) (p : Port) : (journal s k src b).ports[p].staging = s.ports[p].staging :=
  (journal_ev s k src b).port_staging p
@[simp] theorem journal_port_tags (s : State) (k src b : Nat) (p : Port) : (journal s k src b).ports[p].tags = s.ports[p].tags :=
  (journal_ev s k src b).port_tags p
@[simp] theorem journal_port_egress (s : State) (k src b : Nat) (p : Port) : (journal s k src b).ports[p].egress = s.ports[p].egress :=
  (journal_ev s k src b).port_egress p
@[simp] theorem journal_port_sigCred (s : State) (k src b : Nat) (p : Port) : (journal s k src b).ports[p].sigCred = s.ports[p].sigCred :=
  (journal_ev s k src b).port_sigCred p
@[simp] theorem journal_port_undrained (s : State) (k src b : Nat) (p : Port) : (journal s k src b).ports[p].undrained = s.ports[p].undrained :=
  (journal_ev s k src b).port_undrained p
@[simp] theorem journal_port_unacked (s : State) (k src b : Nat) (p : Port) : (journal s k src b).ports[p].unacked = s.ports[p].unacked :=
  (journal_ev s k src b).port_unacked p
@[simp] theorem journal_port_lastBar (s : State) (k src b : Nat) (p : Port) : (journal s k src b).ports[p].lastBar = s.ports[p].lastBar :=
  (journal_ev s k src b).port_lastBar p
@[simp] theorem journal_port_lastMark (s : State) (k src b : Nat) (p : Port) : (journal s k src b).ports[p].lastMark = s.ports[p].lastMark :=
  (journal_ev s k src b).port_lastMark p
@[simp] theorem journal_port_discarded (s : State) (k src b : Nat) (p : Port) : (journal s k src b).ports[p].discarded = s.ports[p].discarded :=
  (journal_ev s k src b).port_discarded p
@[simp] theorem journal_port_noResp (s : State) (k src b : Nat) (p : Port) : (journal s k src b).ports[p].noResp = s.ports[p].noResp :=
  (journal_ev s k src b).port_noResp p
@[simp] theorem journal_port_resetting (s : State) (k src b : Nat) (p : Port) : (journal s k src b).ports[p].resetting = s.ports[p].resetting :=
  (journal_ev s k src b).port_resetting p

end Sys2Proof.Machine
end

