-- ==== Sys2Proof/Laws/FrameWxOps.lean ====
section
/-! SUPPORT. What each operation of Machine/WxOps.lean may change, one lemma an operation (`<name>_mv`): the components its
mask names, and nothing else of the state. -/

namespace Sys2Proof.Machine

theorem wxModRing_mv (x0 : State) (x1 : Fin 64) (x2 : WxRing → WxRing) : Moves 402653184 x0 (wxModRing x0 x1 x2) := by
  unfold wxModRing
  with_reducible exact Moves.mk' (m := 402653184) (Moves.refl _ _) (.inr rfl) (.inr rfl) (.inr rfl) (.inr rfl) (.inr rfl) (.inr rfl) (.inr rfl) (.inr rfl) (.inr rfl) rfl rfl (.inr rfl) (.inr rfl) (.inr rfl) (.inr rfl) (.inr rfl) (.inr rfl) (.inr rfl) (.inr rfl) (.inr rfl) (.inr rfl) (.inr rfl) (.inr rfl) (.inr rfl) (.inr rfl) (.inl rfl) (.inl rfl)

theorem wxMod_mv (x0 : State) (x1 : Fin 64) (x2 : Nat) (x3 : WxDesc → WxDesc) : Moves 402653184 x0 (wxMod x0 x1 x2 x3) := by
  unfold wxMod
  with_reducible refine Moves.step ?_ (wxModRing_mv _ _ _) rfl
  with_reducible exact Moves.refl _ _

theorem wxEnd_mv (x0 : State) (x1 : Fin 64) (x2 : Nat) (x3 : Nat) (x4 : Nat) (x5 : Nat) :
    Moves 134217728 x0 (wxEnd x0 x1 x2 x3 x4 x5) := by
  refine Moves.mk' (m := 134217728) (Moves.refl _ _) (.inr rfl) (.inr rfl) (.inr rfl) (.inr rfl) (.inr rfl) (.inr rfl) (.inr rfl) (.inr rfl) (.inr rfl) rfl rfl (.inr rfl) (.inr rfl) (.inr rfl) (.inr rfl) (.inr rfl) (.inr rfl) (.inr rfl) (.inr rfl) (.inr rfl) (.inr rfl) (.inr rfl) (.inr rfl) (.inr rfl) (.inr rfl) (.inl rfl) (.inr (actIdx_set _ _ _ ?_))
  simp only [List.map_map]
  refine List.map_congr_left fun d _ => ?_
  simp only [Function.comp]
  split <;> rfl

theorem wxAcked_mv (x0 : State) (x1 : Nat) (x2 : Nat) : Moves 134217728 x0 (wxAcked x0 x1 x2) := by
  refine Moves.mk' (m := 134217728) (Moves.refl _ _) (.inr rfl) (.inr rfl) (.inr rfl) (.inr rfl) (.inr rfl) (.inr rfl) (.inr rfl) (.inr rfl) (.inr rfl) rfl rfl (.inr rfl) (.inr rfl) (.inr rfl) (.inr rfl) (.inr rfl) (.inr rfl) (.inr rfl) (.inr rfl) (.inr rfl) (.inr rfl) (.inr rfl) (.inr rfl) (.inr rfl) (.inr rfl) (.inl rfl) (.inr (actIdx_map _ _ fun q => ?_))
  simp only [List.map_map]
  rfl

theorem wxSyncLost_mv (x0 : State) (x1 : Nat) : Moves 134217728 x0 (wxSyncLost x0 x1) := by
  refine Moves.mk' (m := 134217728) (Moves.refl _ _) (.inr rfl) (.inr rfl) (.inr rfl) (.inr rfl) (.inr rfl) (.inr rfl) (.inr rfl) (.inr rfl) (.inr rfl) rfl rfl (.inr rfl) (.inr rfl) (.inr rfl) (.inr rfl) (.inr rfl) (.inr rfl) (.inr rfl) (.inr rfl) (.inr rfl) (.inr rfl) (.inr rfl) (.inr rfl) (.inr rfl) (.inr rfl) (.inl rfl) (.inr (actIdx_map _ _ fun q => ?_))
  simp only [List.map_map]
  rfl

theorem endRepairs_mv (x0 : State) (x1 : Nat → Nat → Nat → Bool) (x2 : Nat) (x3 : Nat) (x4 : Nat) :
    Moves 134217728 x0 (endRepairs x0 x1 x2 x3 x4) := by
  refine Moves.mk' (m := 134217728) (Moves.refl _ _) (.inr rfl) (.inr rfl) (.inr rfl) (.inr rfl) (.inr rfl) (.inr rfl) (.inr rfl) (.inr rfl) (.inr rfl) rfl rfl (.inr rfl) (.inr rfl) (.inr rfl) (.inr rfl) (.inr rfl) (.inr rfl) (.inr rfl) (.inr rfl) (.inr rfl) (.inr rfl) (.inr rfl) (.inr rfl) (.inr rfl) (.inr rfl) (.inl rfl) (.inr (actIdx_map _ _ fun q => ?_))
  simp only [List.map_map]
  refine List.map_congr_left fun d _ => ?_
  simp only [Function.comp]
  split <;> rfl

end Sys2Proof.Machine
end

