-- ==== Sys2Proof/Laws/FrameEpochOps.lean ====
section
/-! SUPPORT. What each operation of Machine/EpochOps.lean may change, one lemma an operation (`<name>_mv`): the components its
mask names, and nothing else of the state. -/

namespace Sys2Proof.Machine

theorem markGranule_mv (x0 : State) (x1 : Nat) (x2 : Nat) : Moves 65536 x0 (markGranule x0 x1 x2) := by
  unfold markGranule
  with_reducible refine Moves.ite ?_ ?_
  with_reducible exact Moves.refl _ _
  with_reducible exact Moves.mk' (m := 65536) (Moves.refl _ _) (.inr rfl) (.inr rfl) (.inr rfl) (.inr rfl) (.inr rfl) (.inr rfl) (.inr rfl) (.inr rfl) (.inr rfl) rfl rfl (.inr rfl) (.inr rfl) (.inr rfl) (.inl rfl) (.inr rfl) (.inr rfl) (.inr rfl) (.inr rfl) (.inr rfl) (.inr rfl) (.inr rfl) (.inr rfl) (.inr rfl) (.inr rfl) (.inr rfl) (.inr rfl)

theorem tagWrite_mv (x0 : State) (x1 : Option Nat) (x2 : Nat) : Moves 65536 x0 (tagWrite x0 x1 x2) := by
  unfold tagWrite
  with_reducible refine Moves.step ?_ (markGranule_mv _ _ _) rfl
  with_reducible exact Moves.refl _ _

theorem dropMember_mv (x0 : State) (x1 : Member) : Moves 66032 x0 (dropMember x0 x1) := by
  unfold dropMember
  with_reducible refine Moves.ite ?_ ?_
  lift_lets
  (intro c2; clear_value c2)
  (intro c3; clear_value c3)
  (intro s4; refine Moves.cut (P := Moves 66032 x0 s4) ?_ ?_; rotate_left; intro h4; clear_value s4)
  (intro c5; clear_value c5)
  (intro s6; refine Moves.cut (P := Moves 66032 x0 s6) ?_ ?_; rotate_left; intro h6; clear_value s6)
  with_reducible refine Moves.step ?_ (raiseJ_mv _ _ _ _ _ _) rfl
  assumption
  with_reducible exact Moves.mk' (m := 66032) (Moves.refl _ _) (.inl rfl) (.inl rfl) (.inl rfl) (.inl rfl) (.inl rfl) (.inr rfl) (.inr rfl) (.inr rfl) (.inr rfl) rfl rfl (.inr rfl) (.inr rfl) (.inr rfl) (.inl rfl) (.inr rfl) (.inr rfl) (.inr rfl) (.inr rfl) (.inr rfl) (.inr rfl) (.inr rfl) (.inr rfl) (.inr rfl) (.inr rfl) (.inr rfl) (.inr rfl)
  subst s4
  with_reducible exact Moves.mk' (m := 66032) (Moves.refl _ _) (.inl rfl) (.inl rfl) (.inl rfl) (.inl rfl) (.inl rfl) (.inr rfl) (.inr rfl) (.inr rfl) (.inr rfl) rfl rfl (.inr rfl) (.inr rfl) (.inr rfl) (.inl rfl) (.inr rfl) (.inr rfl) (.inr rfl) (.inr rfl) (.inr rfl) (.inr rfl) (.inr rfl) (.inr rfl) (.inr rfl) (.inr rfl) (.inr rfl) (.inr rfl)
  subst s6
  with_reducible exact Moves.mk' (m := 66032) (by assumption) (.inl rfl) (.inl rfl) (.inl rfl) (.inl rfl) (.inl rfl) (.inr rfl) (.inr rfl) (.inr rfl) (.inr rfl) rfl rfl (.inr rfl) (.inr rfl) (.inr rfl) (.inl rfl) (.inr rfl) (.inr rfl) (.inr rfl) (.inr rfl) (.inr rfl) (.inr rfl) (.inr rfl) (.inr rfl) (.inr rfl) (.inr rfl) (.inr rfl) (.inr rfl)

end Sys2Proof.Machine
end

