-- ==== Sys2Proof/Laws/FrameTransitOps.lean ====
section
/-! SUPPORT. What each operation of Machine/TransitOps.lean may change, one lemma an operation (`<name>_mv`): the components its
mask names, and nothing else of the state. -/

namespace Sys2Proof.Machine

theorem markRange_mv (x0 : State) (x1 : Nat) (x2 : Nat) (x3 : Nat) : Moves 65536 x0 (markRange x0 x1 x2 x3) := by
  unfold markRange
  lift_lets
  (intro c1; clear_value c1)
  (intro c2; clear_value c2)
  (intro c3; clear_value c3)
  with_reducible exact Moves.mk' (m := 65536) (Moves.refl _ _) (.inr rfl) (.inr rfl) (.inr rfl) (.inr rfl) (.inr rfl) (.inr rfl) (.inr rfl) (.inr rfl) (.inr rfl) rfl rfl (.inr rfl) (.inr rfl) (.inr rfl) (.inl rfl) (.inr rfl) (.inr rfl) (.inr rfl) (.inr rfl) (.inr rfl) (.inr rfl) (.inr rfl) (.inr rfl) (.inr rfl) (.inr rfl) (.inr rfl) (.inr rfl)

theorem rangeErase_mv (x0 : State) (x1 : Bool) (x2 : Nat) (x3 : Nat) (x4 : Nat) :
    Moves 4096 x0 (rangeErase x0 x1 x2 x3 x4) :=
  State.dram_mv x0 _ (smFilter_wf _) (smFilter_wf _)

theorem marchActs_mv (x0 : State) (x1 : Nat) (x2 : Nat) (x3 : Nat) (x4 : Nat) : Moves 2064 x0 (marchActs x0 x1 x2 x3 x4) := by
  unfold marchActs
  lift_lets
  (intro c1; clear_value c1)
  (intro c2; clear_value c2)
  (intro c3; clear_value c3)
  (intro s4; refine Moves.cut (P := Moves 2064 x0 s4) ?_ ?_; rotate_left; intro h4; clear_value s4)
  with_reducible refine Moves.step ?_ (State.modPc_mv _ _ _) rfl
  assumption
  subst s4
  with_reducible refine Moves.step ?_ (bump_mv _ _ _) rfl
  with_reducible refine Moves.step ?_ (bump_mv _ _ _) rfl
  with_reducible exact Moves.refl _ _

theorem marchLeaves_mv (x0 : State) (x1 : Nat) (x2 : Nat) (x3 : Nat) (x4 : Nat) (x5 : Bool) : Moves 71792 x0 (marchLeaves x0 x1 x2 x3 x4 x5) := by
  unfold marchLeaves
  lift_lets
  (intro s1; refine Moves.cut (P := Moves 71792 x0 s1) ?_ ?_; rotate_left; intro h1; clear_value s1)
  (intro s2; refine Moves.cut (P := Moves 71792 x0 s2) ?_ ?_; rotate_left; intro h2; clear_value s2)
  with_reducible refine Moves.step ?_ (journal_mv _ _ _ _) rfl
  assumption
  subst s1
  with_reducible refine Moves.ite ?_ ?_
  with_reducible exact Moves.refl _ _
  with_reducible refine Moves.step ?_ (marchActs_mv _ _ _ _ _) rfl
  with_reducible exact Moves.refl _ _
  subst s2
  with_reducible refine Moves.step ?_ (markRange_mv _ _ _ _) rfl
  with_reducible refine Moves.step ?_ (rangeErase_mv _ _ _ _ _) rfl
  assumption

theorem spareResume_mv (x0 : State) : Moves 1024 x0 (spareResume x0) := by
  unfold spareResume
  (with_reducible refine Moves.foldl _ _ ?_ ?_; rotate_left; intro _ _ _)
  with_reducible refine Moves.ite ?_ ?_
  lift_lets
  (intro c3; clear_value c3)
  (intro c4; clear_value c4)
  (intro c5; clear_value c5)
  (intro c6; clear_value c6)
  with_reducible exact Moves.mk' (m := 1024) (by assumption) (.inr rfl) (.inr rfl) (.inr rfl) (.inr rfl) (.inr rfl) (.inr rfl) (.inl rfl) (.inr rfl) (.inr rfl) rfl rfl (.inr rfl) (.inr rfl) (.inr rfl) (.inr rfl) (.inr rfl) (.inr rfl) (.inr rfl) (.inr rfl) (.inr rfl) (.inr rfl) (.inr rfl) (.inr rfl) (.inr rfl) (.inr rfl) (.inr rfl) (.inr rfl)
  assumption
  with_reducible exact Moves.refl _ _

theorem transitRelease_mv (x0 : State) : Moves 263168 x0 (transitRelease x0) := by
  unfold transitRelease
  lift_lets
  (intro s1; refine Moves.cut (P := Moves 263168 x0 s1) ?_ ?_; rotate_left; intro h1; clear_value s1)
  (intro c2; clear_value c2)
  with_reducible exact Moves.mk' (m := 263168) (by assumption) (.inr rfl) (.inr rfl) (.inr rfl) (.inr rfl) (.inr rfl) (.inr rfl) (.inl rfl) (.inr rfl) (.inr rfl) rfl rfl (.inr rfl) (.inr rfl) (.inr rfl) (.inr rfl) (.inr rfl) (.inl rfl) (.inr rfl) (.inr rfl) (.inr rfl) (.inr rfl) (.inr rfl) (.inr rfl) (.inr rfl) (.inr rfl) (.inr rfl) (.inr rfl)
  subst s1
  with_reducible refine Moves.step ?_ (spareResume_mv _) rfl
  with_reducible exact Moves.refl _ _

theorem transitComplete_mv (x0 : State) (x1 : Option (Nat × Nat)) : Moves 134217728 x0 (transitComplete x0 x1) := by
  unfold transitComplete
  split
  with_reducible refine Moves.step ?_ (wxEnd_mv _ _ _ _ _ _) rfl
  with_reducible exact Moves.refl _ _
  with_reducible exact Moves.refl _ _

theorem marchLost_mv (x0 : State) : Moves 69632 x0 (marchLost x0) := by
  unfold marchLost
  (with_reducible refine Moves.foldl _ _ ?_ ?_; rotate_left; intro _ _ _)
  with_reducible refine Moves.step ?_ (markRange_mv _ _ _ _) rfl
  with_reducible refine Moves.step ?_ (rangeErase_mv _ _ _ _ _) rfl
  assumption
  with_reducible exact Moves.refl _ _

theorem transitStop_mv (x0 : State) : Moves 332800 x0 (transitStop x0) := by
  unfold transitStop
  with_reducible refine Moves.ite ?_ ?_
  with_reducible refine Moves.step ?_ (transitRelease_mv _) rfl
  with_reducible refine Moves.step ?_ (marchLost_mv _) rfl
  with_reducible exact Moves.mk' (m := 332800) (Moves.refl _ _) (.inr rfl) (.inr rfl) (.inr rfl) (.inr rfl) (.inr rfl) (.inr rfl) (.inl rfl) (.inr rfl) (.inl rfl) (by rfl) (by rfl) (.inr rfl) (.inr rfl) (.inr rfl) (.inl rfl) (.inr rfl) (.inl rfl) (.inr rfl) (.inr rfl) (.inr rfl) (.inr rfl) (.inr rfl) (.inr rfl) (.inr rfl) (.inr rfl) (.inr rfl) (.inr rfl)
  with_reducible exact Moves.refl _ _

theorem transitAbort_mv (x0 : State) (x1 : Nat) : Moves 134553072 x0 (transitAbort x0 x1) := by
  unfold transitAbort
  with_reducible refine Moves.ite ?_ ?_
  with_reducible exact Moves.refl _ _
  lift_lets
  (intro c3; clear_value c3)
  (intro c4; clear_value c4)
  (intro s5; refine Moves.cut (P := Moves 134553072 x0 s5) ?_ ?_; rotate_left; intro h5; clear_value s5)
  (intro s6; refine Moves.cut (P := Moves 134553072 x0 s6) ?_ ?_; rotate_left; intro h6; clear_value s6)
  (intro s7; refine Moves.cut (P := Moves 134553072 x0 s7) ?_ ?_; rotate_left; intro h7; clear_value s7)
  (intro s8; refine Moves.cut (P := Moves 134553072 x0 s8) ?_ ?_; rotate_left; intro h8; clear_value s8)
  with_reducible refine Moves.step ?_ (transitComplete_mv _ _) rfl
  assumption
  subst s5
  with_reducible exact Moves.mk' (m := 134553072) (Moves.refl _ _) (.inl rfl) (.inl rfl) (.inl rfl) (.inl rfl) (.inl rfl) (.inr rfl) (.inl rfl) (.inl rfl) (.inl rfl) (by rfl) (by rfl) (.inr rfl) (.inr rfl) (.inr rfl) (.inl rfl) (.inr rfl) (.inl rfl) (.inr rfl) (.inr rfl) (.inr rfl) (.inr rfl) (.inr rfl) (.inr rfl) (.inr rfl) (.inr rfl) (.inl rfl) (.inr rfl)
  subst s6
  with_reducible refine Moves.ite ?_ ?_
  with_reducible refine Moves.step ?_ (marchLost_mv _) rfl
  assumption
  (with_reducible refine Moves.foldl _ _ ?_ ?_; rotate_left; intro _ _ _)
  with_reducible refine Moves.step ?_ (marchLeaves_mv _ _ _ _ _ _) rfl
  assumption
  subst s7
  with_reducible refine Moves.step ?_ (transitRelease_mv _) rfl
  assumption
  subst s8
  with_reducible refine Moves.step ?_ (raiseJ_mv _ _ _ _ _ _) rfl
  assumption
  assumption

theorem transitSpareTaken_mv (x0 : State) (x1 : Nat × Nat × Nat) : Moves 134553072 x0 (transitSpareTaken x0 x1) := by
  unfold transitSpareTaken
  with_reducible refine Moves.ite ?_ ?_
  with_reducible refine Moves.step ?_ (transitAbort_mv _ _) rfl
  with_reducible exact Moves.refl _ _
  with_reducible exact Moves.refl _ _

end Sys2Proof.Machine
end

