-- ==== Sys2Proof/Laws/FramePortOps.lean ====
section
/-! SUPPORT. What each operation of Machine/PortOps.lean may change, one lemma an operation (`<name>_mv`): the components its
mask names, and nothing else of the state. -/

namespace Sys2Proof.Machine

theorem lapse_mv (x0 : State) (x1 : Pc) (x2 : Nat) (x3 : Nat) (x4 : Nat) (x5 : Nat) : Moves 2544 x0 (lapse x0 x1 x2 x3 x4 x5) := by
  unfold lapse
  lift_lets
  (intro s1; refine Moves.cut (P := Moves 2544 x0 s1) ?_ ?_; rotate_left; intro h1; clear_value s1)
  with_reducible refine Moves.step ?_ (raiseLim_mv _ _ _ _ _ _ _ _ _ _) rfl
  assumption
  subst s1
  with_reducible refine Moves.step ?_ (State.modPc_mv _ _ _) rfl
  with_reducible exact Moves.refl _ _

theorem noteBreach_mv (x0 : State) (x1 : Pc) : Moves 2048 x0 (noteBreach x0 x1) := by
  unfold noteBreach
  with_reducible refine Moves.ite ?_ ?_
  lift_lets
  (intro c2; clear_value c2)
  with_reducible refine Moves.step ?_ (State.modPc_mv _ _ _) rfl
  with_reducible exact Moves.refl _ _
  with_reducible exact Moves.refl _ _

theorem noteAll_mv (x0 : State) : Moves 2048 x0 (noteAll x0) := by
  unfold noteAll
  (with_reducible refine Moves.foldl _ _ ?_ ?_; rotate_left; intro _ _ _)
  with_reducible refine Moves.step ?_ (noteBreach_mv _ _) rfl
  assumption
  with_reducible exact Moves.refl _ _

theorem countUrgent_mv (x0 : State) (x1 : Port) (x2 : Pc) (x3 : Nat) (x4 : Nat) (x5 : Nat) (x6 : Nat) (x7 : Nat) : Moves 2544 x0 (countUrgent x0 x1 x2 x3 x4 x5 x6 x7) := by
  unfold countUrgent
  lift_lets
  (intro s1; refine Moves.cut (P := Moves 2544 x0 s1) ?_ ?_; rotate_left; intro h1; clear_value s1)
  (intro c2; clear_value c2)
  (intro s3; refine Moves.cut (P := Moves 2544 x0 s3) ?_ ?_; rotate_left; intro h3; clear_value s3)
  with_reducible refine Moves.ite ?_ ?_
  (with_reducible refine Moves.foldl _ _ ?_ ?_; rotate_left; intro _ _ _)
  with_reducible refine Moves.ite ?_ ?_
  with_reducible refine Moves.step ?_ (lapse_mv _ _ _ _ _ _) rfl
  assumption
  assumption
  assumption
  subst s1
  with_reducible refine Moves.step ?_ (State.modPc_mv _ _ _) rfl
  with_reducible refine Moves.step ?_ (noteAll_mv _) rfl
  with_reducible exact Moves.refl _ _
  subst s3
  with_reducible refine Moves.ite ?_ ?_
  with_reducible refine Moves.step ?_ (lapse_mv _ _ _ _ _ _) rfl
  assumption
  assumption
  assumption

theorem discardRequests_mv (x0 : State) (x1 : Port) : Moves 16779520 x0 (discardRequests x0 x1) := by
  unfold discardRequests
  lift_lets
  (intro c1; clear_value c1)
  (intro c2; clear_value c2)
  (intro c3; clear_value c3)
  (intro c4; clear_value c4)
  (intro c5; clear_value c5)
  (intro c6; clear_value c6)
  (intro c7; clear_value c7)
  (intro c8; clear_value c8)
  (intro s9; refine Moves.cut (P := Moves 16779520 x0 s9) ?_ ?_; rotate_left; intro h9; clear_value s9)
  (intro c10; clear_value c10)
  (intro s11; refine Moves.cut (P := Moves 16779520 x0 s11) ?_ ?_; rotate_left; intro h11; clear_value s11)
  with_reducible refine Moves.step ?_ (State.modPort_mv _ _ _) rfl
  assumption
  subst s9
  with_reducible refine Moves.step ?_ (noteAll_mv _) rfl
  with_reducible exact Moves.refl _ _
  subst s11
  with_reducible exact Moves.mk' (m := 16779520) (by assumption) (.inr rfl) (.inr rfl) (.inr rfl) (.inr rfl) (.inl rfl) (.inr rfl) (.inr rfl) (.inl rfl) (.inr rfl) rfl rfl (.inr rfl) (.inr rfl) (.inr rfl) (.inr rfl) (.inr rfl) (.inr rfl) (.inr rfl) (.inr rfl) (.inr rfl) (.inr rfl) (.inr rfl) (.inl rfl) (.inr rfl) (.inr rfl) (.inr rfl) (.inr rfl)

theorem discardPort_mv (x0 : State) (x1 : Port) : Moves 16779520 x0 (discardPort x0 x1) := by
  unfold discardPort
  with_reducible refine Moves.step ?_ (State.modPort_mv _ _ _) rfl
  with_reducible refine Moves.step ?_ (discardRequests_mv _ _) rfl
  with_reducible exact Moves.refl _ _

theorem failPort_mv (x0 : State) (x1 : Port) (x2 : Nat) (x3 : Bool) : Moves 16845808 x0 (failPort x0 x1 x2 x3) := by
  unfold failPort
  lift_lets
  (intro c1; clear_value c1)
  (intro s2; refine Moves.cut (P := Moves 16845808 x0 s2) ?_ ?_; rotate_left; intro h2; clear_value s2)
  (intro s3; refine Moves.cut (P := Moves 16845808 x0 s3) ?_ ?_; rotate_left; intro h3; clear_value s3)
  (intro s4; refine Moves.cut (P := Moves 16845808 x0 s4) ?_ ?_; rotate_left; intro h4; clear_value s4)
  (intro s5; refine Moves.cut (P := Moves 16845808 x0 s5) ?_ ?_; rotate_left; intro h5; clear_value s5)
  with_reducible refine Moves.ite ?_ ?_
  with_reducible refine Moves.step ?_ (discardRequests_mv _ _) rfl
  with_reducible refine Moves.step ?_ (dropMember_mv _ _) rfl
  assumption
  assumption
  subst s2
  with_reducible refine Moves.step ?_ (State.modPort_mv _ _ _) rfl
  with_reducible exact Moves.refl _ _
  subst s3
  with_reducible refine Moves.step ?_ (State.modLink_mv _ _ _) rfl
  assumption
  subst s4
  with_reducible refine Moves.ite ?_ ?_
  with_reducible refine Moves.step ?_ (pctlSend_mv _ _ _ _ _) rfl
  assumption
  assumption
  subst s5
  with_reducible refine Moves.step ?_ (raiseJ_mv _ _ _ _ _ _) rfl
  assumption

theorem loadCredits_mv (x0 : State) (x1 : Port) : Moves 496 x0 (loadCredits x0 x1) := by
  unfold loadCredits
  lift_lets
  intro v
  with_reducible refine Moves.ite ?_ ?_
  · with_reducible refine Moves.step ?_ (State.modPort_mv _ _ _) rfl
    with_reducible exact Moves.refl _ _
  · with_reducible refine Moves.step ?_ (raise_mv _ _ _ _ _ _) rfl
    with_reducible refine Moves.step ?_ (State.modPort_mv _ _ _) rfl
    with_reducible exact Moves.refl _ _

theorem portUp_mv (x0 : State) (x1 : Port) : Moves 1008 x0 (portUp x0 x1) := by
  unfold portUp
  lift_lets
  (intro s1; refine Moves.cut (P := Moves 1008 x0 s1) ?_ ?_; rotate_left; intro h1; clear_value s1)
  (intro s2; refine Moves.cut (P := Moves 1008 x0 s2) ?_ ?_; rotate_left; intro h2; clear_value s2)
  with_reducible refine Moves.step ?_ (State.modLink_mv _ _ _) rfl
  assumption
  subst s1
  with_reducible refine Moves.step ?_ (loadCredits_mv _ _) rfl
  with_reducible exact Moves.refl _ _
  subst s2
  with_reducible refine Moves.step ?_ (State.modPort_mv _ _ _) rfl
  assumption

theorem remapEvents_mv (x0 : State) (x1 : Port) (x2 : Nat) (x3 : Nat) (x4 : Nat) : Moves 496 x0 (remapEvents x0 x1 x2 x3 x4) := by
  unfold remapEvents
  lift_lets
  (intro s1; refine Moves.cut (P := Moves 496 x0 s1) ?_ ?_; rotate_left; intro h1; clear_value s1)
  with_reducible refine Moves.ite ?_ ?_
  with_reducible refine Moves.step ?_ (raise_mv _ _ _ _ _ _) rfl
  assumption
  assumption
  subst s1
  with_reducible refine Moves.step ?_ (raise_mv _ _ _ _ _ _) rfl
  with_reducible exact Moves.refl _ _

theorem recordDue_mv (x0 : State) (x1 : Fin 81) (x2 : Bool) : Moves 1024 x0 (recordDue x0 x1 x2) := by
  unfold recordDue
  lift_lets
  (intro c1; clear_value c1)
  (intro c2; clear_value c2)
  (intro c3; clear_value c3)
  with_reducible exact Moves.mk' (m := 1024) (Moves.refl _ _) (.inr rfl) (.inr rfl) (.inr rfl) (.inr rfl) (.inr rfl) (.inr rfl) (.inl rfl) (.inr rfl) (.inr rfl) rfl rfl (.inr rfl) (.inr rfl) (.inr rfl) (.inr rfl) (.inr rfl) (.inr rfl) (.inr rfl) (.inr rfl) (.inr rfl) (.inr rfl) (.inr rfl) (.inr rfl) (.inr rfl) (.inr rfl) (.inr rfl) (.inr rfl)

end Sys2Proof.Machine
end

