-- ==== Sys2Proof/Laws/FrameMem.lean ====
section
/-! SUPPORT. What each operation of Machine/Mem.lean may change, one lemma an operation (`<name>_mv`): the components its
mask names, and nothing else of the state. -/

namespace Sys2Proof.Machine

theorem tsvBurst_mv (x0 : State) (x1 : Nat) (x2 : Block) (x3 : DWord) (x4 : Bool) : Moves 2048 x0 (tsvBurst x0 x1 x2 x3 x4) := by
  unfold tsvBurst
  lift_lets
  intro c1
  with_reducible refine Moves.step ?_ (State.modPc_mv _ _ _) rfl
  with_reducible exact Moves.refl _ _

theorem dramWrite_mv (x0 : State) (x1 : Nat) (x2 : Block) (x3 : DWord) : Moves 6144 x0 (dramWrite x0 x1 x2 x3) := by
  unfold dramWrite
  have h := (Moves.refl 6144 x0).step (tsvBurst_mv x0 x1 x2 x3 true) rfl
  generalize tsvBurst x0 x1 x2 x3 true = t at h
  exact h.step (State.dram_mv t _ (memPut_wf _ _ _) (memPut_wf _ _ _)) rfl

theorem dramUpset_mv (x0 : State) (x1 : Upset) : Moves 4096 x0 (dramUpset x0 x1) := by
  unfold dramUpset
  dsimp only
  split
  · exact State.dram_mv x0 _ (memPut_wf _ _ _) (memPut_wf _ _ _)
  · exact Moves.refl _ _

theorem putLine_mv (x0 : State) (x1 : Line) : Moves 32768 x0 (putLine x0 x1) := by
  unfold putLine
  with_reducible exact Moves.mk' (m := 32768) (Moves.refl _ _) (.inr rfl) (.inr rfl) (.inr rfl) (.inr rfl) (.inr rfl) (.inr rfl) (.inr rfl) (.inr rfl) (.inr rfl) rfl rfl (.inr rfl) (.inr rfl) (.inl rfl) (.inr rfl) (.inr rfl) (.inr rfl) (.inr rfl) (.inr rfl) (.inr rfl) (.inr rfl) (.inr rfl) (.inr rfl) (.inr rfl) (.inr rfl) (.inr rfl) (.inr rfl)

theorem dropLine_mv (x0 : State) (x1 : Nat) : Moves 32768 x0 (dropLine x0 x1) := by
  unfold dropLine
  with_reducible exact Moves.mk' (m := 32768) (Moves.refl _ _) (.inr rfl) (.inr rfl) (.inr rfl) (.inr rfl) (.inr rfl) (.inr rfl) (.inr rfl) (.inr rfl) (.inr rfl) rfl rfl (.inr rfl) (.inr rfl) (.inl rfl) (.inr rfl) (.inr rfl) (.inr rfl) (.inr rfl) (.inr rfl) (.inr rfl) (.inr rfl) (.inr rfl) (.inr rfl) (.inr rfl) (.inr rfl) (.inr rfl) (.inr rfl)

theorem invalidate_mv (x0 : State) (x1 : Line) (x2 : Nat) : Moves 32768 x0 (invalidate x0 x1 x2) := by
  unfold invalidate
  lift_lets
  (intro c1; clear_value c1)
  with_reducible refine Moves.ite ?_ ?_
  with_reducible refine Moves.step ?_ (dropLine_mv _ _) rfl
  with_reducible exact Moves.refl _ _
  with_reducible refine Moves.step ?_ (putLine_mv _ _) rfl
  with_reducible exact Moves.refl _ _

theorem lineWrite_mv (x0 : State) (x1 : Line) (x2 : Nat) (x3 : Block) (x4 : DWord) (x5 : Bool) : Moves 32768 x0 (lineWrite x0 x1 x2 x3 x4 x5) := by
  unfold lineWrite
  lift_lets
  intro c1
  (intro c2; clear_value c2)
  with_reducible refine Moves.step ?_ (putLine_mv _ _) rfl
  with_reducible exact Moves.refl _ _

theorem commitWrite_mv (x0 : State) (x1 : Nat) (x2 : Block) (x3 : DWord) (x4 : Bool) : Moves 38912 x0 (commitWrite x0 x1 x2 x3 x4) := by
  unfold commitWrite
  split
  with_reducible refine Moves.ite ?_ ?_
  with_reducible refine Moves.step ?_ (dramWrite_mv _ _ _ _) rfl
  with_reducible refine Moves.step ?_ (invalidate_mv _ _ _) rfl
  with_reducible exact Moves.refl _ _
  with_reducible refine Moves.step ?_ (lineWrite_mv _ _ _ _ _ _) rfl
  with_reducible exact Moves.refl _ _
  with_reducible refine Moves.step ?_ (dramWrite_mv _ _ _ _) rfl
  with_reducible exact Moves.refl _ _

theorem freshSet_mv (x0 : State) (x1 : Nat) : Moves 4096 x0 (freshSet x0 x1) := by
  unfold freshSet
  with_reducible refine Moves.ite ?_ ?_
  with_reducible exact Moves.refl _ _
  with_reducible exact Moves.mk' (m := 4096) (Moves.refl _ _) (.inr rfl) (.inr rfl) (.inr rfl) (.inr rfl) (.inr rfl) (.inr rfl) (.inr rfl) (.inr rfl) (.inl rfl) (by rfl) (by rfl) (.inr rfl) (.inr rfl) (.inr rfl) (.inr rfl) (.inr rfl) (.inr rfl) (.inr rfl) (.inr rfl) (.inr rfl) (.inr rfl) (.inr rfl) (.inr rfl) (.inr rfl) (.inr rfl) (.inr rfl) (.inr rfl)

theorem claimDone_mv (x0 : State) (x1 : Nat) : Moves 4096 x0 (claimDone x0 x1) := by
  unfold claimDone
  lift_lets
  (intro c1; clear_value c1)
  (intro c2; subst c2)
  with_reducible exact Moves.mk' (m := 4096) (Moves.refl _ _) (.inr rfl) (.inr rfl) (.inr rfl) (.inr rfl) (.inr rfl) (.inr rfl) (.inr rfl) (.inr rfl) (.inl rfl) (by rfl) (by rfl) (.inr rfl) (.inr rfl) (.inr rfl) (.inr rfl) (.inr rfl) (.inr rfl) (.inr rfl) (.inr rfl) (.inr rfl) (.inr rfl) (.inr rfl) (.inr rfl) (.inr rfl) (.inr rfl) (.inr rfl) (.inr rfl)

theorem poisonList_mv (x0 : State) (x1 : Nat) (x2 : Nat) : Moves 4592 x0 (poisonList x0 x1 x2) := by
  unfold poisonList
  split
  with_reducible exact Moves.refl _ _
  split
  with_reducible exact Moves.mk' (m := 4592) (Moves.refl _ _) (.inl rfl) (.inl rfl) (.inl rfl) (.inl rfl) (.inl rfl) (.inr rfl) (.inr rfl) (.inr rfl) (.inl rfl) (by rfl) (by rfl) (.inr rfl) (.inr rfl) (.inr rfl) (.inr rfl) (.inr rfl) (.inr rfl) (.inr rfl) (.inr rfl) (.inr rfl) (.inr rfl) (.inr rfl) (.inr rfl) (.inr rfl) (.inr rfl) (.inr rfl) (.inr rfl)
  lift_lets
  (intro c5; clear_value c5)
  (intro c6; subst c6)
  (intro s7; refine Moves.cut (P := Moves 4592 x0 s7) ?_ ?_; rotate_left; intro h7; clear_value s7)
  with_reducible refine Moves.step ?_ (raise_mv _ _ _ _ _ _) rfl
  assumption
  subst s7
  with_reducible exact Moves.mk' (m := 4592) (Moves.refl _ _) (.inl rfl) (.inl rfl) (.inl rfl) (.inl rfl) (.inl rfl) (.inr rfl) (.inr rfl) (.inr rfl) (.inl rfl) (by rfl) (by rfl) (.inr rfl) (.inr rfl) (.inr rfl) (.inr rfl) (.inr rfl) (.inr rfl) (.inr rfl) (.inr rfl) (.inr rfl) (.inr rfl) (.inr rfl) (.inr rfl) (.inr rfl) (.inr rfl) (.inr rfl) (.inr rfl)

theorem poisonClear_mv (x0 : State) (x1 : Nat) : Moves 4592 x0 (poisonClear x0 x1) := by
  unfold poisonClear
  split
  with_reducible exact Moves.refl _ _
  lift_lets
  (intro c3; clear_value c3)
  (intro c4; subst c4)
  (intro s5; refine Moves.cut (P := Moves 4592 x0 s5) ?_ ?_; rotate_left; intro h5; clear_value s5)
  with_reducible refine Moves.step ?_ (raiseJ_mv _ _ _ _ _ _) rfl
  assumption
  subst s5
  with_reducible exact Moves.mk' (m := 4592) (Moves.refl _ _) (.inl rfl) (.inl rfl) (.inl rfl) (.inl rfl) (.inl rfl) (.inr rfl) (.inr rfl) (.inr rfl) (.inl rfl) (by rfl) (by rfl) (.inr rfl) (.inr rfl) (.inr rfl) (.inr rfl) (.inr rfl) (.inr rfl) (.inr rfl) (.inr rfl) (.inr rfl) (.inr rfl) (.inr rfl) (.inr rfl) (.inr rfl) (.inr rfl) (.inr rfl) (.inr rfl)

theorem uncorrFound_mv (x0 : State) (x1 : Nat) (x2 : Nat) (x3 : Bool) (x4 : Bool) : Moves 496 x0 (uncorrFound x0 x1 x2 x3 x4) := by
  unfold uncorrFound
  lift_lets
  (intro c1; clear_value c1)
  (intro c2; clear_value c2)
  with_reducible refine Moves.ite ?_ ?_
  with_reducible refine Moves.step ?_ (raiseJ_mv _ _ _ _ _ _) rfl
  with_reducible exact Moves.refl _ _
  with_reducible refine Moves.step ?_ (raise_mv _ _ _ _ _ _) rfl
  with_reducible exact Moves.refl _ _

theorem poisonSteps_mv (x0 : State) (x1 : Nat) (x2 : Nat) : Moves 70128 x0 (poisonSteps x0 x1 x2) := by
  unfold poisonSteps
  lift_lets
  (intro s1; refine Moves.cut (P := Moves 70128 x0 s1) ?_ ?_; rotate_left; intro h1; clear_value s1)
  (intro s2; refine Moves.cut (P := Moves 70128 x0 s2) ?_ ?_; rotate_left; intro h2; clear_value s2)
  with_reducible refine Moves.step ?_ (markGranule_mv _ _ _) rfl
  assumption
  subst s1
  with_reducible refine Moves.step ?_ (poisonList_mv _ _ _) rfl
  with_reducible exact Moves.refl _ _
  subst s2
  with_reducible refine Moves.step ?_ (uncorrFound_mv _ _ _ _ _) rfl
  assumption

theorem noteWrite_mv (x0 : State) (x1 : Nat) (x2 : Nat) : Moves 4096 x0 (noteWrite x0 x1 x2) := by
  unfold noteWrite
  with_reducible refine Moves.step ?_ (claimDone_mv _ _) rfl
  with_reducible exact Moves.mk' (m := 4096) (Moves.refl _ _) (.inr rfl) (.inr rfl) (.inr rfl) (.inr rfl) (.inr rfl) (.inr rfl) (.inr rfl) (.inr rfl) (.inl rfl) (by rfl) (by rfl) (.inr rfl) (.inr rfl) (.inr rfl) (.inr rfl) (.inr rfl) (.inr rfl) (.inr rfl) (.inr rfl) (.inr rfl) (.inr rfl) (.inr rfl) (.inr rfl) (.inr rfl) (.inr rfl) (.inr rfl) (.inr rfl)

theorem turn_mv (x0 : State) (x1 : Pc) (x2 : Src) : Moves 16 x0 (turn x0 x1 x2) := by
  unfold turn
  lift_lets
  (intro c1; clear_value c1)
  with_reducible refine Moves.ite ?_ ?_
  with_reducible refine Moves.step ?_ (State.atLeast_mv _ _) rfl
  with_reducible exact Moves.refl _ _
  with_reducible exact Moves.refl _ _

theorem enqueue_mv (x0 : State) (x1 : Pc) (x2 : QEnt) : Moves 2048 x0 (enqueue x0 x1 x2) := by
  unfold enqueue
  with_reducible refine Moves.step ?_ (State.modPc_mv _ _ _) rfl
  with_reducible exact Moves.refl _ _

theorem freeEntry_mv (x0 : State) (x1 : Pc) (x2 : Nat) : Moves 2048 x0 (freeEntry x0 x1 x2) := by
  unfold freeEntry
  with_reducible refine Moves.step ?_ (State.modPc_mv _ _ _) rfl
  with_reducible exact Moves.refl _ _

theorem modEntry_mv (x0 : State) (x1 : Pc) (x2 : Nat) (x3 : QEnt → QEnt) : Moves 2048 x0 (modEntry x0 x1 x2 x3) := by
  unfold modEntry
  with_reducible refine Moves.step ?_ (State.modPc_mv _ _ _) rfl
  with_reducible exact Moves.refl _ _

theorem dramRead_mv (x0 : State) (x1 : Nat) : Moves 2048 x0 (dramRead x0 x1).2 := by
  unfold dramRead
  lift_lets
  (intro c1; clear_value c1)
  (intro c2; clear_value c2)
  intro c3
  dsimp -zeta only
  with_reducible refine Moves.step ?_ (tsvBurst_mv _ _ _ _ _) rfl
  with_reducible exact Moves.refl _ _

theorem readWord_mv (x0 : State) (x1 : Nat) : Moves 2048 x0 (readWord x0 x1).2 := by
  unfold readWord
  split
  with_reducible exact Moves.refl _ _
  with_reducible refine Moves.ite2 ?_ ?_
  with_reducible refine Moves.step ?_ (dramRead_mv _ _) rfl
  with_reducible exact Moves.refl _ _
  lift_lets
  (intro c6; clear_value c6)
  (intro c7; clear_value c7)
  (intro c8; clear_value c8)
  dsimp -zeta only
  with_reducible refine Moves.step ?_ (tsvBurst_mv _ _ _ _ _) rfl
  with_reducible refine Moves.step ?_ (State.useFree_mv _) rfl
  with_reducible refine Moves.step ?_ (State.useFree_mv _) rfl
  with_reducible exact Moves.refl _ _

theorem repPush_mv (x0 : State) (x1 : RepEnt) : Moves 4592 x0 (repPush x0 x1) := by
  unfold repPush
  with_reducible refine Moves.ite ?_ ?_
  with_reducible exact Moves.mk' (m := 4592) (Moves.refl _ _) (.inl rfl) (.inl rfl) (.inl rfl) (.inl rfl) (.inl rfl) (.inr rfl) (.inr rfl) (.inr rfl) (.inl rfl) (by rfl) (by rfl) (.inr rfl) (.inr rfl) (.inr rfl) (.inr rfl) (.inr rfl) (.inr rfl) (.inr rfl) (.inr rfl) (.inr rfl) (.inr rfl) (.inr rfl) (.inr rfl) (.inr rfl) (.inr rfl) (.inr rfl) (.inr rfl)
  lift_lets
  (intro c3; clear_value c3)
  (intro c4; clear_value c4)
  (intro c5; subst c5)
  split
  with_reducible exact Moves.mk' (m := 4592) (Moves.refl _ _) (.inl rfl) (.inl rfl) (.inl rfl) (.inl rfl) (.inl rfl) (.inr rfl) (.inr rfl) (.inr rfl) (.inl rfl) (by rfl) (by rfl) (.inr rfl) (.inr rfl) (.inr rfl) (.inr rfl) (.inr rfl) (.inr rfl) (.inr rfl) (.inr rfl) (.inr rfl) (.inr rfl) (.inr rfl) (.inr rfl) (.inr rfl) (.inr rfl) (.inr rfl) (.inr rfl)
  lift_lets
  (intro c9; clear_value c9)
  (intro s10; refine Moves.cut (P := Moves 4592 x0 s10) ?_ ?_; rotate_left; intro h10; clear_value s10)
  with_reducible refine Moves.step ?_ (raiseLim_mv _ _ _ _ _ _ _ _ _ _) rfl
  assumption
  subst s10
  with_reducible exact Moves.mk' (m := 4592) (Moves.refl _ _) (.inl rfl) (.inl rfl) (.inl rfl) (.inl rfl) (.inl rfl) (.inr rfl) (.inr rfl) (.inr rfl) (.inl rfl) (by rfl) (by rfl) (.inr rfl) (.inr rfl) (.inr rfl) (.inr rfl) (.inr rfl) (.inr rfl) (.inr rfl) (.inr rfl) (.inr rfl) (.inr rfl) (.inr rfl) (.inr rfl) (.inr rfl) (.inr rfl) (.inr rfl) (.inr rfl)

theorem derive_mv (x0 : State) (x1 : Derived) : Moves 2048 x0 (derive x0 x1) := by
  unfold derive
  lift_lets
  intro c1
  (intro c2; clear_value c2)
  with_reducible refine Moves.ite ?_ ?_
  with_reducible refine Moves.step ?_ (State.modPc_mv _ _ _) rfl
  with_reducible exact Moves.refl _ _
  with_reducible refine Moves.step ?_ (State.modPc_mv _ _ _) rfl
  with_reducible exact Moves.refl _ _

theorem candidate_mv (x0 : State) (x1 : Coord) (x2 : List Nat) : Moves 4096 x0 (candidate x0 x1 x2) := by
  unfold candidate
  lift_lets
  (intro c1; clear_value c1)
  (intro c2; subst c2)
  with_reducible refine Moves.ite ?_ ?_
  with_reducible exact Moves.refl _ _
  with_reducible exact Moves.mk' (m := 4096) (Moves.refl _ _) (.inr rfl) (.inr rfl) (.inr rfl) (.inr rfl) (.inr rfl) (.inr rfl) (.inr rfl) (.inr rfl) (.inl rfl) (by rfl) (by rfl) (.inr rfl) (.inr rfl) (.inr rfl) (.inr rfl) (.inr rfl) (.inr rfl) (.inr rfl) (.inr rfl) (.inr rfl) (.inr rfl) (.inr rfl) (.inr rfl) (.inr rfl) (.inr rfl) (.inr rfl) (.inr rfl)

theorem repeatUpdate_mv (x0 : State) (x1 : Nat) (x2 : Nat) (x3 : Block) (x4 : List Nat) (x5 : Bool) : Moves 6640 x0 (repeatUpdate x0 x1 x2 x3 x4 x5) := by
  unfold repeatUpdate
  lift_lets
  (intro c1; clear_value c1)
  (intro c2; subst c2)
  (intro c3; clear_value c3)
  (intro s4; refine Moves.cut (P := Moves 6640 x0 s4) ?_ ?_; rotate_left; intro h4; clear_value s4)
  split
  with_reducible refine Moves.step ?_ (repPush_mv _ _) rfl
  with_reducible exact Moves.refl _ _
  lift_lets
  (intro s9; refine Moves.cut (P := Moves 6640 x0 s9) ?_ ?_; rotate_left; intro h9; clear_value s9)
  (intro s10; refine Moves.cut (P := Moves 6640 x0 s10) ?_ ?_; rotate_left; intro h10; clear_value s10)
  (intro s11; refine Moves.cut (P := Moves 6640 x0 s11) ?_ ?_; rotate_left; intro h11; clear_value s11)
  with_reducible refine Moves.ite ?_ ?_
  with_reducible refine Moves.step ?_ (candidate_mv _ _ _) rfl
  assumption
  with_reducible refine Moves.ite ?_ ?_
  assumption
  with_reducible refine Moves.step ?_ (derive_mv _ _) rfl
  assumption
  subst s4
  with_reducible exact Moves.mk' (m := 6640) (Moves.refl _ _) (.inl rfl) (.inl rfl) (.inl rfl) (.inl rfl) (.inl rfl) (.inr rfl) (.inr rfl) (.inl rfl) (.inl rfl) (by rfl) (by rfl) (.inr rfl) (.inr rfl) (.inr rfl) (.inr rfl) (.inr rfl) (.inr rfl) (.inr rfl) (.inr rfl) (.inr rfl) (.inr rfl) (.inr rfl) (.inr rfl) (.inr rfl) (.inr rfl) (.inr rfl) (.inr rfl)
  subst s9
  with_reducible exact Moves.mk' (m := 6640) (Moves.refl _ _) (.inl rfl) (.inl rfl) (.inl rfl) (.inl rfl) (.inl rfl) (.inr rfl) (.inr rfl) (.inl rfl) (.inl rfl) (by rfl) (by rfl) (.inr rfl) (.inr rfl) (.inr rfl) (.inr rfl) (.inr rfl) (.inr rfl) (.inr rfl) (.inr rfl) (.inr rfl) (.inr rfl) (.inr rfl) (.inr rfl) (.inr rfl) (.inr rfl) (.inr rfl) (.inr rfl)
  subst s10
  with_reducible refine Moves.step ?_ (bump_mv _ _ _) rfl
  assumption
  subst s11
  with_reducible refine Moves.step ?_ (raiseJ_mv _ _ _ _ _ _) rfl
  assumption

theorem laneReport_mv (x0 : State) (x1 : Pc) (x2 : List Nat) : Moves 2048 x0 (laneReport x0 x1 x2) := by
  unfold laneReport
  with_reducible refine Moves.step ?_ (State.modPc_mv _ _ _) rfl
  with_reducible exact Moves.refl _ _

theorem afterRead_mv (x0 : State) (x1 : Nat) (x2 : Nat) (x3 : Nat) (x4 : Found) (x5 : Bool) : Moves 6640 x0 (afterRead x0 x1 x2 x3 x4 x5) := by
  unfold afterRead
  lift_lets
  (intro c1; clear_value c1)
  (intro c2; clear_value c2)
  (intro s3; refine Moves.cut (P := Moves 6640 x0 s3) ?_ ?_; rotate_left; intro h3; clear_value s3)
  (intro s4; refine Moves.cut (P := Moves 6640 x0 s4) ?_ ?_; rotate_left; intro h4; clear_value s4)
  (intro s5; refine Moves.cut (P := Moves 6640 x0 s5) ?_ ?_; rotate_left; intro h5; clear_value s5)
  with_reducible refine Moves.ite ?_ ?_
  with_reducible refine Moves.step ?_ (repeatUpdate_mv _ _ _ _ _ _) rfl
  assumption
  with_reducible refine Moves.ite ?_ ?_
  with_reducible refine Moves.step ?_ (derive_mv _ _) rfl
  assumption
  with_reducible exact Moves.refl _ _
  subst s3
  with_reducible refine Moves.step ?_ (bump_mv _ _ _) rfl
  with_reducible exact Moves.refl _ _
  subst s4
  with_reducible refine Moves.step ?_ (laneReport_mv _ _ _) rfl
  assumption
  subst s5
  with_reducible refine Moves.step ?_ (bump_mv _ _ _) rfl
  with_reducible exact Moves.refl _ _

end Sys2Proof.Machine
end

