-- ==== Sys2Proof/Laws/FramePcOps.lean ====
section
/-! SUPPORT. What each operation of Machine/PcOps.lean may change, one lemma an operation (`<name>_mv`): the components its
mask names, and nothing else of the state. -/

namespace Sys2Proof.Machine

theorem answer_mv (x0 : State) (x1 : QEnt) (x2 : Nat) (x3 : List Nat) (x4 : List Block) : Moves 272 x0 (answer x0 x1 x2 x3 x4) := by
  unfold answer
  split
  with_reducible exact Moves.refl _ _
  with_reducible refine Moves.ite ?_ ?_
  with_reducible refine Moves.step ?_ (State.modPort_mv _ _ _) rfl
  with_reducible exact Moves.refl _ _
  with_reducible refine Moves.step ?_ (respond_mv _ _ _) rfl
  with_reducible exact Moves.refl _ _

theorem drainOrd_mv (x0 : State) (x1 : QEnt) : Moves 256 x0 (drainOrd x0 x1) := by
  unfold drainOrd
  split
  with_reducible exact Moves.refl _ _
  with_reducible refine Moves.step ?_ (State.modPort_mv _ _ _) rfl
  with_reducible exact Moves.refl _ _

theorem failEntry_mv (x0 : State) (x1 : Pc) (x2 : QEnt) (x3 : Nat) : Moves 2320 x0 (failEntry x0 x1 x2 x3) := by
  unfold failEntry
  lift_lets
  (intro s1; refine Moves.cut (P := Moves 2320 x0 s1) ?_ ?_; rotate_left; intro h1; clear_value s1)
  with_reducible refine Moves.step ?_ (freeEntry_mv _ _ _) rfl
  with_reducible refine Moves.step ?_ (drainOrd_mv _ _) rfl
  assumption
  subst s1
  with_reducible refine Moves.step ?_ (answer_mv _ _ _ _ _) rfl
  with_reducible exact Moves.refl _ _

theorem goOffline_mv (x0 : State) (x1 : Pc) : Moves 134220272 x0 (goOffline x0 x1) := by
  unfold goOffline
  lift_lets
  (intro c1; clear_value c1)
  (intro s2; refine Moves.cut (P := Moves 134220272 x0 s2) ?_ ?_; rotate_left; intro h2; clear_value s2)
  (intro s3; refine Moves.cut (P := Moves 134220272 x0 s3) ?_ ?_; rotate_left; intro h3; clear_value s3)
  (intro s4; refine Moves.cut (P := Moves 134220272 x0 s4) ?_ ?_; rotate_left; intro h4; clear_value s4)
  with_reducible refine Moves.step ?_ (State.modPc_mv _ _ _) rfl
  assumption
  subst s2
  with_reducible refine Moves.step ?_ (endRepairs_mv _ _ _ _ _) rfl
  with_reducible exact Moves.refl _ _
  subst s3
  (with_reducible refine Moves.foldl _ _ ?_ ?_; rotate_left; intro _ _ _)
  with_reducible refine Moves.step ?_ (failEntry_mv _ _ _ _) rfl
  assumption
  subst s4
  (with_reducible refine Moves.foldl _ _ ?_ ?_; rotate_left; intro _ _ _)
  with_reducible refine Moves.step ?_ (uncorrFound_mv _ _ _ _ _) rfl
  assumption
  assumption
  assumption

theorem thrSet_mv (x0 : State) (x1 : Nat) (x2 : Thr) : Moves 16384 x0 (thrSet x0 x1 x2) := by
  unfold thrSet
  with_reducible exact Moves.mk' (m := 16384) (Moves.refl _ _) (.inr rfl) (.inr rfl) (.inr rfl) (.inr rfl) (.inr rfl) (.inr rfl) (.inr rfl) (.inr rfl) (.inr rfl) rfl rfl (.inr rfl) (.inl rfl) (.inr rfl) (.inr rfl) (.inr rfl) (.inr rfl) (.inr rfl) (.inr rfl) (.inr rfl) (.inr rfl) (.inr rfl) (.inr rfl) (.inr rfl) (.inr rfl) (.inr rfl) (.inr rfl)

theorem spill_mv (x0 : State) (x1 : Nat) (x2 : Option Nat) (x3 : Bool) (x4 : Nat) : Moves 16400 x0 (spill x0 x1 x2 x3 x4) := by
  unfold spill
  split
  with_reducible exact Moves.refl _ _
  lift_lets
  (intro s3; refine Moves.cut (P := Moves 16400 x0 s3) ?_ ?_; rotate_left; intro h3; clear_value s3)
  (intro c4; clear_value c4)
  with_reducible refine Moves.step ?_ (thrSet_mv _ _ _) rfl
  assumption
  subst s3
  with_reducible refine Moves.step ?_ (bump_mv _ _ _) rfl
  with_reducible exact Moves.refl _ _

theorem countAct_mv (x0 : State) (x1 : Pc) (x2 : Nat) (x3 : Nat) (x4 : Option Nat) (x5 : Bool) : Moves 18448 x0 (countAct x0 x1 x2 x3 x4 x5) := by
  unfold countAct
  lift_lets
  (intro c1; clear_value c1)
  (intro s2; refine Moves.cut (P := Moves 18448 x0 s2) ?_ ?_; rotate_left; intro h2; clear_value s2)
  (intro c3; clear_value c3)
  split
  with_reducible refine Moves.ite ?_ ?_
  assumption
  with_reducible refine Moves.ite ?_ ?_
  with_reducible refine Moves.step ?_ (State.modPc_mv _ _ _) rfl
  assumption
  with_reducible refine Moves.step ?_ (spill_mv _ _ _ _ _) rfl
  assumption
  subst s2
  with_reducible refine Moves.step ?_ (State.modPc_mv _ _ _) rfl
  with_reducible exact Moves.refl _ _

theorem modBank_mv (x0 : Pc) (x1 : Nat) (x2 : Bank → Bank) (x3 : State) : Moves 2048 x3 (modBank x0 x1 x2 x3) := by
  unfold modBank
  with_reducible refine Moves.step ?_ (State.modPc_mv _ _ _) rfl
  with_reducible exact Moves.refl _ _

theorem columns_mv (x0 : State) (x1 : Pc) (x2 : Nat) (x3 : Nat) (x4 : Bool) : Moves 2048 x0 (columns x0 x1 x2 x3 x4) := by
  unfold columns
  lift_lets
  (intro s1; refine Moves.cut (P := Moves 2048 x0 s1) ?_ ?_; rotate_left; intro h1; clear_value s1)
  with_reducible refine Moves.step ?_ (State.modPc_mv _ _ _) rfl
  assumption
  subst s1
  with_reducible refine Moves.step ?_ (modBank_mv _ _ _ _) rfl
  with_reducible exact Moves.refl _ _

theorem rowCycle_mv (x0 : State) (x1 : Pc) (x2 : Nat) (x3 : Nat) (x4 : Nat) (x5 : Bool) : Moves 18448 x0 (rowCycle x0 x1 x2 x3 x4 x5) := by
  unfold rowCycle
  lift_lets
  (intro c1; clear_value c1)
  (intro s2; refine Moves.cut (P := Moves 18448 x0 s2) ?_ ?_; rotate_left; intro h2; clear_value s2)
  (intro s3; refine Moves.cut (P := Moves 18448 x0 s3) ?_ ?_; rotate_left; intro h3; clear_value s3)
  (intro s4; refine Moves.cut (P := Moves 18448 x0 s4) ?_ ?_; rotate_left; intro h4; clear_value s4)
  (intro s5; refine Moves.cut (P := Moves 18448 x0 s5) ?_ ?_; rotate_left; intro h5; clear_value s5)
  (intro s6; refine Moves.cut (P := Moves 18448 x0 s6) ?_ ?_; rotate_left; intro h6; clear_value s6)
  (intro s7; refine Moves.cut (P := Moves 18448 x0 s7) ?_ ?_; rotate_left; intro h7; clear_value s7)
  with_reducible refine Moves.ite ?_ ?_
  with_reducible refine Moves.step ?_ (columns_mv _ _ _ _ _) rfl
  with_reducible refine Moves.step ?_ (bump_mv _ _ _) rfl
  with_reducible refine Moves.step ?_ (State.atLeast_mv _ _) rfl
  with_reducible exact Moves.refl _ _
  with_reducible refine Moves.step ?_ (columns_mv _ _ _ _ _) rfl
  with_reducible refine Moves.step ?_ (bump_mv _ _ _) rfl
  assumption
  subst s2
  with_reducible refine Moves.step ?_ (State.atLeast_mv _ _) rfl
  with_reducible exact Moves.refl _ _
  subst s3
  with_reducible refine Moves.ite ?_ ?_
  with_reducible refine Moves.step ?_ (modBank_mv _ _ _ _) rfl
  assumption
  with_reducible exact Moves.refl _ _
  subst s4
  with_reducible refine Moves.step ?_ (State.atLeast_mv _ _) rfl
  assumption
  subst s5
  with_reducible refine Moves.step ?_ (modBank_mv _ _ _ _) rfl
  assumption
  subst s6
  with_reducible refine Moves.step ?_ (countAct_mv _ _ _ _ _ _) rfl
  with_reducible refine Moves.step ?_ (bump_mv _ _ _) rfl
  with_reducible refine Moves.step ?_ (State.modPc_mv _ _ _) rfl
  assumption
  subst s7
  with_reducible refine Moves.step ?_ (State.atLeast_mv _ _) rfl
  assumption

theorem ownWrites_mv (x0 : State) (x1 : List (Nat × Block)) : Moves 22544 x0 (ownWrites x0 x1) := by
  unfold ownWrites
  (with_reducible refine Moves.foldl _ _ ?_ ?_; rotate_left; intro _ _ _)
  lift_lets
  (intro c2; clear_value c2)
  (with_reducible refine Moves.foldl _ _ ?_ ?_; rotate_left; intro _ _ _)
  with_reducible refine Moves.step ?_ (dramWrite_mv _ _ _ _) rfl
  assumption
  with_reducible exact Moves.refl _ _
  with_reducible refine Moves.step ?_ (rowCycle_mv _ _ _ _ _ _) rfl
  assumption

theorem ownReads_mv (x0 : State) (x1 : List Nat) : Moves 18448 x0 (ownReads x0 x1) := by
  unfold ownReads
  (with_reducible refine Moves.foldl _ _ ?_ ?_; rotate_left; intro _ _ _)
  lift_lets
  (intro c2; clear_value c2)
  (with_reducible refine Moves.foldl _ _ ?_ ?_; rotate_left; intro _ _ _)
  with_reducible refine Moves.step ?_ (dramRead_mv _ _) rfl
  assumption
  with_reducible exact Moves.refl _ _
  with_reducible refine Moves.step ?_ (rowCycle_mv _ _ _ _ _ _) rfl
  assumption

theorem fillClaim_mv (x0 : State) (x1 : Claim) : Moves 22544 x0 (fillClaim x0 x1) := by
  unfold fillClaim
  with_reducible refine Moves.step ?_ (ownWrites_mv _ _) rfl
  with_reducible exact Moves.refl _ _

theorem claimWait_mv (x0 : State) : Moves 22544 x0 (claimWait x0) := by
  unfold claimWait
  with_reducible refine Moves.ite ?_ ?_
  with_reducible exact Moves.refl _ _
  split
  with_reducible exact Moves.refl _ _
  with_reducible refine Moves.step ?_ (fillClaim_mv _ _) rfl
  with_reducible exact Moves.mk' (m := 22544) (Moves.refl _ _) (.inl rfl) (.inr rfl) (.inr rfl) (.inr rfl) (.inr rfl) (.inr rfl) (.inr rfl) (.inl rfl) (.inl rfl) (by rfl) (by rfl) (.inr rfl) (.inl rfl) (.inr rfl) (.inr rfl) (.inr rfl) (.inr rfl) (.inr rfl) (.inr rfl) (.inr rfl) (.inr rfl) (.inr rfl) (.inr rfl) (.inr rfl) (.inr rfl) (.inr rfl) (.inr rfl)

theorem freshClaim_mv (x0 : State) (x1 : Nat) : Moves 22544 x0 (freshClaim x0 x1) := by
  unfold freshClaim
  with_reducible refine Moves.ite ?_ ?_
  lift_lets
  (intro s2; refine Moves.cut (P := Moves 22544 x0 s2) ?_ ?_; rotate_left; intro h2; clear_value s2)
  (intro c3; subst c3)
  with_reducible refine Moves.step ?_ (freshSet_mv _ _) rfl
  with_reducible exact Moves.mk' (m := 22544) (by assumption) (.inl rfl) (.inr rfl) (.inr rfl) (.inr rfl) (.inr rfl) (.inr rfl) (.inr rfl) (.inl rfl) (.inl rfl) (by rfl) (by rfl) (.inr rfl) (.inl rfl) (.inr rfl) (.inr rfl) (.inr rfl) (.inr rfl) (.inr rfl) (.inr rfl) (.inr rfl) (.inr rfl) (.inr rfl) (.inr rfl) (.inr rfl) (.inr rfl) (.inr rfl) (.inr rfl)
  with_reducible refine Moves.step ?_ (freshSet_mv _ _) rfl
  with_reducible exact Moves.refl _ _
  subst s2
  with_reducible refine Moves.step ?_ (claimWait_mv _) rfl
  with_reducible exact Moves.refl _ _

end Sys2Proof.Machine
end

