-- ==== Sys2Proof/Laws/FrameLagoon.lean ====
section
/-! SUPPORT. What each operation of Machine/Lagoon.lean may change, one lemma an operation (`<name>_mv`): the components its
mask names, and nothing else of the state. -/

namespace Sys2Proof.Machine

theorem allocLine_mv (x0 : State) (x1 : Nat) (x2 : Bool) {y : State} (e : allocLine x0 x1 x2 = some y) : Moves 32768 x0 y := by
  unfold allocLine at e
  split at e
  · exact absurd e (by simp)
  · dsimp only at e
    obtain rfl := Option.some.inj e
    refine Moves.mk' (m := 32768) ?_ (.inr rfl) (.inr rfl) (.inr rfl) (.inr rfl) (.inr rfl) (.inr rfl) (.inr rfl) (.inr rfl) (.inr rfl) rfl rfl (.inr rfl) (.inr rfl) (.inl rfl) (.inr rfl) (.inr rfl) (.inr rfl) (.inr rfl) (.inr rfl) (.inr rfl) (.inr rfl) (.inr rfl) (.inr rfl) (.inr rfl) (.inr rfl) (.inr rfl) (.inr rfl)
    split
    · exact (Moves.refl _ _).step (dropLine_mv _ _) rfl
    · exact Moves.refl _ _

theorem allocReserve_mv (x0 : State) (x1 : Nat) {y : State} (e : allocReserve x0 x1 = some y) : Moves 32768 x0 y := by
  unfold allocReserve at e
  split at e
  · obtain rfl := Option.some.inj e
    exact Moves.mk' (m := 32768) (Moves.refl _ _) (.inr rfl) (.inr rfl) (.inr rfl) (.inr rfl) (.inr rfl) (.inr rfl) (.inr rfl) (.inr rfl) (.inr rfl) rfl rfl (.inr rfl) (.inr rfl) (.inl rfl) (.inr rfl) (.inr rfl) (.inr rfl) (.inr rfl) (.inr rfl) (.inr rfl) (.inr rfl) (.inr rfl) (.inr rfl) (.inr rfl) (.inr rfl) (.inr rfl) (.inr rfl)
  · exact absurd e (by simp)

theorem drawOne_mv (x0 : State) (x1 : Nat) : Moves 32768 x0 (drawOne x0 x1) := by
  unfold drawOne
  with_reducible refine Moves.ite ?_ ?_
  with_reducible exact Moves.refl _ _
  split
  with_reducible refine Moves.step ?_ (putLine_mv _ _) rfl
  with_reducible exact Moves.refl _ _
  with_reducible exact Moves.refl _ _

theorem drawAll_mv (x0 : State) (x1 : Nat) : Moves 32768 x0 (drawAll x0 x1) := by
  unfold drawAll
  (with_reducible refine Moves.foldl _ _ ?_ ?_; rotate_left; intro _ _ _)
  with_reducible refine Moves.step ?_ (drawOne_mv _ _) rfl
  assumption
  with_reducible exact Moves.refl _ _

theorem wantWb_mv (x0 : State) (x1 : Nat) (x2 : Bool) : Moves 32768 x0 (wantWb x0 x1 x2) := by
  unfold wantWb
  split
  with_reducible exact Moves.refl _ _
  with_reducible refine Moves.step ?_ (drawAll_mv _ _) rfl
  with_reducible refine Moves.step ?_ (putLine_mv _ _) rfl
  with_reducible exact Moves.refl _ _

theorem flushEnds_mv (x0 : State) : Moves 32768 x0 (flushEnds x0) := by
  unfold flushEnds
  with_reducible refine Moves.ite ?_ ?_
  with_reducible exact Moves.mk' (m := 32768) (Moves.refl _ _) (.inr rfl) (.inr rfl) (.inr rfl) (.inr rfl) (.inr rfl) (.inr rfl) (.inr rfl) (.inr rfl) (.inr rfl) rfl rfl (.inr rfl) (.inr rfl) (.inl rfl) (.inr rfl) (.inr rfl) (.inr rfl) (.inr rfl) (.inr rfl) (.inr rfl) (.inr rfl) (.inr rfl) (.inr rfl) (.inr rfl) (.inr rfl) (.inr rfl) (.inr rfl)
  with_reducible exact Moves.refl _ _

theorem balanceWb_mv (x0 : State) : Moves 32768 x0 (balanceWb x0) := by
  unfold balanceWb
  with_reducible refine Moves.ite ?_ ?_
  split
  with_reducible refine Moves.step ?_ (wantWb_mv _ _ _) rfl
  with_reducible exact Moves.refl _ _
  with_reducible exact Moves.refl _ _
  with_reducible exact Moves.refl _ _

theorem afterLineWrite_mv (x0 : State) (x1 : Nat) (x2 : Bool) : Moves 32768 x0 (afterLineWrite x0 x1 x2) := by
  unfold afterLineWrite
  split
  with_reducible exact Moves.refl _ _
  with_reducible refine Moves.step ?_ (balanceWb_mv _) rfl
  with_reducible refine Moves.ite ?_ ?_
  with_reducible exact Moves.refl _ _
  with_reducible refine Moves.ite ?_ ?_
  with_reducible refine Moves.step ?_ (wantWb_mv _ _ _) rfl
  with_reducible exact Moves.refl _ _
  with_reducible refine Moves.step ?_ (drawAll_mv _ _) rfl
  with_reducible exact Moves.refl _ _

theorem capReached_mv (x0 : State) : Moves 33264 x0 (capReached x0) := by
  unfold capReached
  lift_lets
  (intro c1; clear_value c1)
  (intro s2; refine Moves.cut (P := Moves 33264 x0 s2) ?_ ?_; rotate_left; intro h2; clear_value s2)
  with_reducible refine Moves.step ?_ (raiseLim_mv _ _ _ _ _ _ _ _ _ _) rfl
  assumption
  subst s2
  with_reducible exact Moves.mk' (m := 33264) (Moves.refl _ _) (.inl rfl) (.inl rfl) (.inl rfl) (.inl rfl) (.inl rfl) (.inr rfl) (.inr rfl) (.inr rfl) (.inr rfl) rfl rfl (.inr rfl) (.inr rfl) (.inl rfl) (.inr rfl) (.inr rfl) (.inr rfl) (.inr rfl) (.inr rfl) (.inr rfl) (.inr rfl) (.inr rfl) (.inr rfl) (.inr rfl) (.inr rfl) (.inr rfl) (.inr rfl)

theorem flushBlocks_mv (x0 : State) (x1 : Line) (x2 : Nat) : Moves 6144 x0 (flushBlocks x0 x1 x2) := by
  unfold flushBlocks
  (with_reducible refine Moves.foldl _ _ ?_ ?_; rotate_left; intro _ _ _)
  with_reducible refine Moves.ite ?_ ?_
  with_reducible refine Moves.step ?_ (dramWrite_mv _ _ _ _) rfl
  assumption
  assumption
  with_reducible exact Moves.refl _ _

theorem closeRelease_mv (x0 : State) (x1 : Nat) (x2 : Nat) (x3 : Nat) : Moves 32768 x0 (closeRelease x0 x1 x2 x3) := by
  unfold closeRelease
  lift_lets
  (intro c1; clear_value c1)
  (intro c2; clear_value c2)
  (intro c3; clear_value c3)
  with_reducible refine Moves.ite ?_ ?_
  with_reducible exact Moves.refl _ _
  with_reducible exact Moves.mk' (m := 32768) (Moves.refl _ _) (.inr rfl) (.inr rfl) (.inr rfl) (.inr rfl) (.inr rfl) (.inr rfl) (.inr rfl) (.inr rfl) (.inr rfl) rfl rfl (.inr rfl) (.inr rfl) (.inl rfl) (.inr rfl) (.inr rfl) (.inr rfl) (.inr rfl) (.inr rfl) (.inr rfl) (.inr rfl) (.inr rfl) (.inr rfl) (.inr rfl) (.inr rfl) (.inr rfl) (.inr rfl)

theorem wbLine_mv (x0 : State) (x1 : Line) : Moves 32768 x0 (wbLine x0 x1) := by
  unfold wbLine
  lift_lets
  (intro c1; clear_value c1)
  with_reducible refine Moves.ite ?_ ?_
  with_reducible refine Moves.step ?_ (closeRelease_mv _ _ _ _) rfl
  with_reducible refine Moves.step ?_ (putLine_mv _ _) rfl
  with_reducible exact Moves.refl _ _
  with_reducible refine Moves.ite ?_ ?_
  with_reducible refine Moves.step ?_ (dropLine_mv _ _) rfl
  with_reducible exact Moves.refl _ _
  with_reducible refine Moves.step ?_ (putLine_mv _ _) rfl
  with_reducible exact Moves.refl _ _

theorem countWb_mv (x0 : State) (x1 : Line) (x2 : Nat) : Moves 32784 x0 (countWb x0 x1 x2) := by
  unfold countWb
  lift_lets
  (intro s1; refine Moves.cut (P := Moves 32784 x0 s1) ?_ ?_; rotate_left; intro h1; clear_value s1)
  (intro c2; clear_value c2)
  with_reducible refine Moves.ite ?_ ?_
  with_reducible exact Moves.mk' (m := 32784) (by assumption) (.inl rfl) (.inr rfl) (.inr rfl) (.inr rfl) (.inr rfl) (.inr rfl) (.inr rfl) (.inr rfl) (.inr rfl) rfl rfl (.inr rfl) (.inr rfl) (.inl rfl) (.inr rfl) (.inr rfl) (.inr rfl) (.inr rfl) (.inr rfl) (.inr rfl) (.inr rfl) (.inr rfl) (.inr rfl) (.inr rfl) (.inr rfl) (.inr rfl) (.inr rfl)
  assumption
  subst s1
  with_reducible refine Moves.step ?_ (bump_mv _ _ _) rfl
  with_reducible exact Moves.refl _ _

theorem finishWb_mv (x0 : State) (x1 : Line) : Moves 38928 x0 (finishWb x0 x1) := by
  unfold finishWb
  lift_lets
  (intro s1; refine Moves.cut (P := Moves 38928 x0 s1) ?_ ?_; rotate_left; intro h1; clear_value s1)
  (intro c2; clear_value c2)
  (intro s3; refine Moves.cut (P := Moves 38928 x0 s3) ?_ ?_; rotate_left; intro h3; clear_value s3)
  with_reducible refine Moves.step ?_ (drawAll_mv _ _) rfl
  with_reducible refine Moves.step ?_ (balanceWb_mv _) rfl
  with_reducible refine Moves.step ?_ (flushEnds_mv _) rfl
  assumption
  subst s1
  with_reducible refine Moves.step ?_ (countWb_mv _ _ _) rfl
  with_reducible refine Moves.step ?_ (flushBlocks_mv _ _ _) rfl
  with_reducible exact Moves.refl _ _
  subst s3
  with_reducible refine Moves.step ?_ (wbLine_mv _ _) rfl
  assumption

theorem flushLine_mv (x0 : State) (x1 : Line) : Moves 55312 x0 (flushLine x0 x1) := by
  unfold flushLine
  with_reducible refine Moves.ite ?_ ?_
  with_reducible exact Moves.refl _ _
  lift_lets
  (intro c3; clear_value c3)
  (intro s4; refine Moves.cut (P := Moves 55312 x0 s4) ?_ ?_; rotate_left; intro h4; clear_value s4)
  (intro s5; refine Moves.cut (P := Moves 55312 x0 s5) ?_ ?_; rotate_left; intro h5; clear_value s5)
  with_reducible refine Moves.step ?_ (putLine_mv _ _) rfl
  assumption
  subst s4
  with_reducible refine Moves.step ?_ (rowCycle_mv _ _ _ _ _ _) rfl
  with_reducible exact Moves.refl _ _
  subst s5
  with_reducible refine Moves.step ?_ (countWb_mv _ _ _) rfl
  with_reducible refine Moves.step ?_ (flushBlocks_mv _ _ _) rfl
  assumption

theorem flushLines_mv (x0 : State) (x1 : Line → Bool) : Moves 55312 x0 (flushLines x0 x1) := by
  unfold flushLines
  lift_lets
  (intro c1; clear_value c1)
  (with_reducible refine Moves.foldl _ _ ?_ ?_; rotate_left; intro _ _ _)
  (with_reducible refine Moves.foldl _ _ ?_ ?_; rotate_left; intro _ _ _)
  with_reducible refine Moves.step ?_ (flushLine_mv _ _) rfl
  assumption
  with_reducible exact Moves.refl _ _
  assumption

theorem emptyLines_mv (x0 : State) (x1 : Line → Bool) : Moves 55312 x0 (emptyLines x0 x1) := by
  unfold emptyLines
  lift_lets
  (intro s1; refine Moves.cut (P := Moves 55312 x0 s1) ?_ ?_; rotate_left; intro h1; clear_value s1)
  (intro c2; clear_value c2)
  with_reducible refine Moves.step ?_ (flushEnds_mv _) rfl
  with_reducible exact Moves.mk' (m := 55312) (by assumption) (.inl rfl) (.inr rfl) (.inr rfl) (.inr rfl) (.inr rfl) (.inr rfl) (.inr rfl) (.inl rfl) (.inl rfl) (by rfl) (by rfl) (.inr rfl) (.inl rfl) (.inl rfl) (.inr rfl) (.inr rfl) (.inr rfl) (.inr rfl) (.inr rfl) (.inr rfl) (.inr rfl) (.inr rfl) (.inr rfl) (.inr rfl) (.inr rfl) (.inr rfl) (.inr rfl)
  subst s1
  with_reducible refine Moves.step ?_ (flushLines_mv _ _) rfl
  with_reducible exact Moves.refl _ _

theorem releaseRow_mv (x0 : State) (x1 : Nat) (x2 : Nat) (x3 : Nat) : Moves 32768 x0 (releaseRow x0 x1 x2 x3) := by
  unfold releaseRow
  lift_lets
  (intro c1; clear_value c1)
  (intro c2; clear_value c2)
  (intro c3; clear_value c3)
  (intro s4; refine Moves.cut (P := Moves 32768 x0 s4) ?_ ?_; rotate_left; intro h4; clear_value s4)
  with_reducible refine Moves.step ?_ (drawAll_mv _ _) rfl
  with_reducible refine Moves.step ?_ (closeRelease_mv _ _ _ _) rfl
  assumption
  subst s4
  with_reducible exact Moves.mk' (m := 32768) (Moves.refl _ _) (.inr rfl) (.inr rfl) (.inr rfl) (.inr rfl) (.inr rfl) (.inr rfl) (.inr rfl) (.inr rfl) (.inr rfl) rfl rfl (.inr rfl) (.inr rfl) (.inl rfl) (.inr rfl) (.inr rfl) (.inr rfl) (.inr rfl) (.inr rfl) (.inr rfl) (.inr rfl) (.inr rfl) (.inr rfl) (.inr rfl) (.inr rfl) (.inr rfl) (.inr rfl)

theorem rowAccess_mv (x0 : State) (x1 : Nat) : Moves 32768 x0 (rowAccess x0 x1) := by
  unfold rowAccess
  split
  lift_lets
  (intro s2; refine Moves.cut (P := Moves 32768 x0 s2) ?_ ?_; rotate_left; intro h2; clear_value s2)
  (intro c3; clear_value c3)
  (intro c4; clear_value c4)
  (intro c5; clear_value c5)
  with_reducible refine Moves.ite ?_ ?_
  with_reducible exact Moves.mk' (m := 32768) (by assumption) (.inr rfl) (.inr rfl) (.inr rfl) (.inr rfl) (.inr rfl) (.inr rfl) (.inr rfl) (.inr rfl) (.inr rfl) rfl rfl (.inr rfl) (.inr rfl) (.inl rfl) (.inr rfl) (.inr rfl) (.inr rfl) (.inr rfl) (.inr rfl) (.inr rfl) (.inr rfl) (.inr rfl) (.inr rfl) (.inr rfl) (.inr rfl) (.inr rfl) (.inr rfl)
  assumption
  with_reducible exact Moves.refl _ _
  subst s2
  with_reducible refine Moves.step ?_ (putLine_mv _ _) rfl
  with_reducible exact Moves.refl _ _

theorem captureLines_mv (x0 : State) (x1 : List Nat) : Moves 32768 x0 (captureLines x0 x1) := by
  unfold captureLines
  (with_reducible refine Moves.foldl _ _ ?_ ?_; rotate_left; intro _ _ _)
  split
  with_reducible refine Moves.step ?_ (putLine_mv _ _) rfl
  assumption
  refine Moves.getD ?_ ?_
  assumption
  intro a6
  intro h7
  with_reducible refine Moves.step ?_ (allocLine_mv _ _ _ (by assumption)) rfl
  assumption
  with_reducible exact Moves.refl _ _

theorem captureRefused_mv (x0 : State) (x1 : Nat) (x2 : Nat) (x3 : Nat) (x4 : Nat) : Moves 496 x0 (captureRefused x0 x1 x2 x3 x4) := by
  unfold captureRefused
  with_reducible refine Moves.step ?_ (raiseLim_mv _ _ _ _ _ _ _ _ _ _) rfl
  with_reducible refine Moves.step ?_ (bump_mv _ _ _) rfl
  with_reducible exact Moves.refl _ _

theorem copyCycle_mv (x0 : State) (x1 : Pc) (x2 : Nat) (x3 : Nat) : Moves 2064 x0 (copyCycle x0 x1 x2 x3) := by
  unfold copyCycle
  lift_lets
  (intro s1; refine Moves.cut (P := Moves 2064 x0 s1) ?_ ?_; rotate_left; intro h1; clear_value s1)
  (intro s2; refine Moves.cut (P := Moves 2064 x0 s2) ?_ ?_; rotate_left; intro h2; clear_value s2)
  with_reducible refine Moves.step ?_ (modBank_mv _ _ _ _) rfl
  assumption
  subst s1
  with_reducible refine Moves.step ?_ (bump_mv _ _ _) rfl
  with_reducible refine Moves.step ?_ (State.modPc_mv _ _ _) rfl
  with_reducible exact Moves.refl _ _
  subst s2
  with_reducible refine Moves.step ?_ (bump_mv _ _ _) rfl
  assumption

theorem offerCapture_mv (x0 : State) (x1 : Pc) (x2 : Nat) (x3 : Nat) : Moves 51696 x0 (offerCapture x0 x1 x2 x3) := by
  unfold offerCapture
  lift_lets
  (intro c1; clear_value c1)
  (intro c2; clear_value c2)
  (intro s3; refine Moves.cut (P := Moves 51696 x0 s3) ?_ ?_; rotate_left; intro h3; clear_value s3)
  split
  with_reducible refine Moves.step ?_ (copyCycle_mv _ _ _ _) rfl
  with_reducible refine Moves.step ?_ (captureLines_mv _ _) rfl
  assumption
  (with_reducible refine Moves.foldl _ _ ?_ ?_; rotate_left; intro _ _ _)
  with_reducible refine Moves.step ?_ (spill_mv _ _ _ _ _) rfl
  assumption
  subst s3
  with_reducible refine Moves.step ?_ (State.modPc_mv _ _ _) rfl
  with_reducible exact Moves.refl _ _
  with_reducible refine Moves.step ?_ (captureRefused_mv _ _ _ _ _) rfl
  assumption

theorem storedWord_mv (x0 : State) (x1 : Nat) : Moves 2048 x0 (storedWord x0 x1).2.2 := by
  unfold storedWord
  with_reducible refine Moves.ite3 ?_ ?_
  dsimp -zeta only
  with_reducible refine Moves.step ?_ (dramRead_mv _ _) rfl
  with_reducible exact Moves.refl _ _
  dsimp -zeta only
  with_reducible refine Moves.step ?_ (State.useFree_mv _) rfl
  with_reducible refine Moves.step ?_ (State.useFree_mv _) rfl
  with_reducible exact Moves.refl _ _

theorem copyStored_mv (x0 : State) (x1 : Nat) : Moves 34816 x0 (copyStored x0 x1) := by
  unfold copyStored
  split
  with_reducible exact Moves.refl _ _
  with_reducible refine Moves.ite ?_ ?_
  with_reducible exact Moves.refl _ _
  split
  with_reducible refine Moves.step ?_ (putLine_mv _ _) rfl
  with_reducible refine Moves.step ?_ (Moves.thd (by assumption) (storedWord_mv _ _)) rfl
  with_reducible exact Moves.refl _ _

theorem captureCopy_mv (x0 : State) (x1 : List Nat) : Moves 34816 x0 (captureCopy x0 x1) := by
  unfold captureCopy
  (with_reducible refine Moves.foldl _ _ ?_ ?_; rotate_left; intro _ _ _)
  (with_reducible refine Moves.foldl _ _ ?_ ?_; rotate_left; intro _ _ _)
  with_reducible refine Moves.step ?_ (copyStored_mv _ _) rfl
  assumption
  with_reducible exact Moves.refl _ _
  assumption

theorem lagCount_mv (x0 : State) (x1 : List Nat) : Moves 4194304 x0 (lagCount x0 x1) := by
  unfold lagCount
  with_reducible refine Moves.ite ?_ ?_
  with_reducible exact Moves.refl _ _
  lift_lets
  (intro c3; clear_value c3)
  (intro c4; clear_value c4)
  with_reducible exact Moves.mk' (m := 4194304) (Moves.refl _ _) (.inr rfl) (.inr rfl) (.inr rfl) (.inr rfl) (.inr rfl) (.inr rfl) (.inr rfl) (.inr rfl) (.inr rfl) rfl rfl (.inr rfl) (.inr rfl) (.inr rfl) (.inr rfl) (.inr rfl) (.inr rfl) (.inr rfl) (.inr rfl) (.inr rfl) (.inl rfl) (.inr rfl) (.inr rfl) (.inr rfl) (.inr rfl) (.inr rfl) (.inr rfl)

theorem execCaptureCopyDone_mv (x0 : Pc) (x1 : Fin 32) (x2 : Nat) (x3 : State) : MovesO 4229136 x3 (execCaptureCopyDone x0 x1 x2 x3) := by
  unfold execCaptureCopyDone
  with_reducible refine MovesO.whenDo ?_ ?_
  with_reducible exact Moves.refl _ _
  lift_lets
  (intro s3; refine Moves.cut (P := Moves 4229136 x3 s3) ?_ ?_; rotate_left; intro h3; clear_value s3)
  (intro s4; refine Moves.cut (P := Moves 4229136 x3 s4) ?_ ?_; rotate_left; intro h4; clear_value s4)
  with_reducible refine Moves.step ?_ (modBank_mv _ _ _ _) rfl
  with_reducible refine Moves.step ?_ (captureCopy_mv _ _) rfl
  assumption
  subst s3
  with_reducible refine Moves.step ?_ (lagCount_mv _ _) rfl
  with_reducible exact Moves.refl _ _
  subst s4
  with_reducible refine Moves.step ?_ (State.atLeast_mv _ _) rfl
  assumption

theorem execLineWritebackTimeout_mv (x0 : Pc) (x1 : Nat) (x2 : State) : MovesO 32784 x2 (execLineWritebackTimeout x0 x1 x2) := by
  unfold execLineWritebackTimeout
  split
  with_reducible refine MovesO.next ?_
  with_reducible exact Moves.refl _ _
  with_reducible refine MovesO.whenDo ?_ ?_
  with_reducible exact Moves.refl _ _
  with_reducible refine Moves.step ?_ (wantWb_mv _ _ _) rfl
  with_reducible refine Moves.step ?_ (State.atLeast_mv _ _) rfl
  with_reducible exact Moves.refl _ _

theorem execLineWritebackDone_mv (x0 : Pc) (x1 : Nat) (x2 : State) : MovesO 38928 x2 (execLineWritebackDone x0 x1 x2) := by
  unfold execLineWritebackDone
  split
  with_reducible refine MovesO.next ?_
  with_reducible exact Moves.refl _ _
  with_reducible refine MovesO.whenDo ?_ ?_
  with_reducible exact Moves.refl _ _
  with_reducible refine Moves.step ?_ (finishWb_mv _ _) rfl
  with_reducible exact Moves.refl _ _

theorem emptyWay_mv (x0 : State) (x1 : Nat) : Moves 55312 x0 (emptyWay x0 x1) := by
  unfold emptyWay
  lift_lets
  (intro c1; clear_value c1)
  (intro c2; clear_value c2)
  with_reducible refine Moves.step ?_ (emptyLines_mv _ _) rfl
  with_reducible exact Moves.refl _ _

theorem disableWay_mv (x0 : State) (x1 : Nat) : Moves 55792 x0 (disableWay x0 x1) := by
  unfold disableWay
  lift_lets
  (intro c1; clear_value c1)
  (intro c2; clear_value c2)
  (intro c3; clear_value c3)
  (intro c4; clear_value c4)
  (intro s5; refine Moves.cut (P := Moves 55792 x0 s5) ?_ ?_; rotate_left; intro h5; clear_value s5)
  (intro s6; refine Moves.cut (P := Moves 55792 x0 s6) ?_ ?_; rotate_left; intro h6; clear_value s6)
  with_reducible refine Moves.ite ?_ ?_
  with_reducible refine Moves.ite ?_ ?_
  with_reducible refine Moves.step ?_ (emptyLines_mv _ _) rfl
  assumption
  (with_reducible refine Moves.foldl _ _ ?_ ?_; rotate_left; intro _ _ _)
  with_reducible refine Moves.step ?_ (releaseRow_mv _ _ _ _) rfl
  assumption
  assumption
  subst s5
  with_reducible exact Moves.mk' (m := 55792) (Moves.refl _ _) (.inl rfl) (.inl rfl) (.inl rfl) (.inl rfl) (.inl rfl) (.inr rfl) (.inr rfl) (.inl rfl) (.inl rfl) (by rfl) (by rfl) (.inr rfl) (.inl rfl) (.inl rfl) (.inr rfl) (.inr rfl) (.inr rfl) (.inr rfl) (.inr rfl) (.inr rfl) (.inr rfl) (.inr rfl) (.inr rfl) (.inr rfl) (.inr rfl) (.inr rfl) (.inr rfl)
  subst s6
  with_reducible refine Moves.step ?_ (raiseJ_mv _ _ _ _ _ _) rfl
  assumption
  assumption

theorem wayLoss_mv (x0 : State) (x1 : Nat) (x2 : Nat) : Moves 104944 x0 (wayLoss x0 x1 x2) := by
  unfold wayLoss
  split
  with_reducible exact Moves.refl _ _
  lift_lets
  intro c3
  (intro s4; refine Moves.cut (P := Moves 104944 x0 s4) ?_ ?_; rotate_left; intro h4; clear_value s4)
  (intro s5; refine Moves.cut (P := Moves 104944 x0 s5) ?_ ?_; rotate_left; intro h5; clear_value s5)
  (intro c6; clear_value c6)
  (intro s7; refine Moves.cut (P := Moves 104944 x0 s7) ?_ ?_; rotate_left; intro h7; clear_value s7)
  (intro s8; refine Moves.cut (P := Moves 104944 x0 s8) ?_ ?_; rotate_left; intro h8; clear_value s8)
  with_reducible refine Moves.ite ?_ ?_
  with_reducible refine Moves.step ?_ (raiseJ_mv _ _ _ _ _ _) rfl
  assumption
  with_reducible refine Moves.step ?_ (invalidate_mv _ _ _) rfl
  with_reducible exact Moves.refl _ _
  subst s4
  with_reducible refine Moves.step ?_ (invalidate_mv _ _ _) rfl
  with_reducible refine Moves.step ?_ (dramWrite_mv _ _ _ _) rfl
  with_reducible exact Moves.refl _ _
  subst s5
  with_reducible refine Moves.step ?_ (poisonList_mv _ _ _) rfl
  assumption
  subst s7
  with_reducible refine Moves.step ?_ (uncorrFound_mv _ _ _ _ _) rfl
  assumption
  subst s8
  with_reducible refine Moves.step ?_ (markGranule_mv _ _ _) rfl
  assumption

theorem tagLost_mv (x0 : State) (x1 : Nat) (x2 : Pc) (x3 : Nat) : Moves 134253040 x0 (tagLost x0 x1 x2 x3) := by
  unfold tagLost
  lift_lets
  (intro c1; clear_value c1)
  (intro c2; clear_value c2)
  (intro s3; refine Moves.cut (P := Moves 134253040 x0 s3) ?_ ?_; rotate_left; intro h3; clear_value s3)
  (intro s4; refine Moves.cut (P := Moves 134253040 x0 s4) ?_ ?_; rotate_left; intro h4; clear_value s4)
  with_reducible refine Moves.step ?_ (goOffline_mv _ _) rfl
  assumption
  subst s3
  with_reducible exact Moves.mk' (m := 134253040) (Moves.refl _ _) (.inl rfl) (.inl rfl) (.inl rfl) (.inl rfl) (.inl rfl) (.inr rfl) (.inr rfl) (.inl rfl) (.inr rfl) rfl rfl (.inr rfl) (.inr rfl) (.inl rfl) (.inr rfl) (.inr rfl) (.inr rfl) (.inr rfl) (.inr rfl) (.inr rfl) (.inr rfl) (.inr rfl) (.inr rfl) (.inr rfl) (.inr rfl) (.inl rfl) (.inr rfl)
  subst s4
  with_reducible refine Moves.step ?_ (raiseJ_mv _ _ _ _ _ _) rfl
  assumption

theorem abandonWayTest_mv (x0 : State) (x1 : Nat) : Moves 134553072 x0 (abandonWayTest x0 x1) := by
  unfold abandonWayTest
  with_reducible refine Moves.ite ?_ ?_
  with_reducible refine Moves.step ?_ (transitAbort_mv _ _) rfl
  with_reducible exact Moves.refl _ _
  with_reducible exact Moves.refl _ _

theorem dropCopy_mv (x0 : State) (x1 : Nat) (x2 : Nat) (x3 : Nat) : Moves 34816 x0 (dropCopy x0 x1 x2 x3) := by
  unfold dropCopy
  lift_lets
  (intro c1; clear_value c1)
  (intro s2; refine Moves.cut (P := Moves 34816 x0 s2) ?_ ?_; rotate_left; intro h2; clear_value s2)
  (intro c3; clear_value c3)
  (intro c4; clear_value c4)
  with_reducible exact Moves.mk' (m := 34816) (by assumption) (.inr rfl) (.inr rfl) (.inr rfl) (.inr rfl) (.inr rfl) (.inr rfl) (.inr rfl) (.inl rfl) (.inr rfl) rfl rfl (.inr rfl) (.inr rfl) (.inl rfl) (.inr rfl) (.inr rfl) (.inr rfl) (.inr rfl) (.inr rfl) (.inr rfl) (.inr rfl) (.inr rfl) (.inr rfl) (.inr rfl) (.inr rfl) (.inr rfl) (.inr rfl)
  subst s2
  with_reducible refine Moves.step ?_ (modBank_mv _ _ _ _) rfl
  with_reducible exact Moves.refl _ _

theorem abandonCopies_mv (x0 : State) (x1 : Nat) : Moves 35312 x0 (abandonCopies x0 x1) := by
  unfold abandonCopies
  (with_reducible refine Moves.foldl _ _ ?_ ?_; rotate_left; intro _ _ _)
  with_reducible refine Moves.ite ?_ ?_
  with_reducible refine Moves.step ?_ (captureRefused_mv _ _ _ _ _) rfl
  with_reducible refine Moves.step ?_ (dropCopy_mv _ _ _ _) rfl
  assumption
  assumption
  with_reducible exact Moves.refl _ _

theorem wayCorr_mv (x0 : State) (x1 : Nat) (x2 : Nat) : Moves 33264 x0 (wayCorr x0 x1 x2) := by
  unfold wayCorr
  lift_lets
  (intro s1; refine Moves.cut (P := Moves 33264 x0 s1) ?_ ?_; rotate_left; intro h1; clear_value s1)
  (intro c2; clear_value c2)
  (intro s3; refine Moves.cut (P := Moves 33264 x0 s3) ?_ ?_; rotate_left; intro h3; clear_value s3)
  with_reducible refine Moves.step ?_ (raiseLim_mv _ _ _ _ _ _ _ _ _ _) rfl
  assumption
  subst s1
  with_reducible refine Moves.step ?_ (bump_mv _ _ _) rfl
  with_reducible exact Moves.refl _ _
  subst s3
  with_reducible exact Moves.mk' (m := 33264) (by assumption) (.inl rfl) (.inl rfl) (.inl rfl) (.inl rfl) (.inl rfl) (.inr rfl) (.inr rfl) (.inr rfl) (.inr rfl) rfl rfl (.inr rfl) (.inr rfl) (.inl rfl) (.inr rfl) (.inr rfl) (.inr rfl) (.inr rfl) (.inr rfl) (.inr rfl) (.inr rfl) (.inr rfl) (.inr rfl) (.inr rfl) (.inr rfl) (.inr rfl) (.inr rfl)

theorem lineUpset_mv (x0 : State) (x1 : Upset) : Moves 33264 x0 (lineUpset x0 x1) := by
  unfold lineUpset
  split
  with_reducible refine Moves.ite ?_ ?_
  with_reducible refine Moves.step ?_ (wayCorr_mv _ _ _) rfl
  with_reducible exact Moves.refl _ _
  with_reducible exact Moves.refl _ _
  with_reducible exact Moves.refl _ _

theorem walkWay_mv (x0 : State) (x1 : Nat) (x2 : Bool) : Moves 32768 x0 (walkWay x0 x1 x2) := by
  unfold walkWay
  lift_lets
  (intro c1; clear_value c1)
  (intro s2; refine Moves.cut (P := Moves 32768 x0 s2) ?_ ?_; rotate_left; intro h2; clear_value s2)
  (intro c3; clear_value c3)
  (intro c4; clear_value c4)
  (intro s5; refine Moves.cut (P := Moves 32768 x0 s5) ?_ ?_; rotate_left; intro h5; clear_value s5)
  (with_reducible refine Moves.foldl _ _ ?_ ?_; rotate_left; intro _ _ _)
  with_reducible refine Moves.step ?_ (drawAll_mv _ _) rfl
  assumption
  subst s2
  (with_reducible refine Moves.foldl _ _ ?_ ?_; rotate_left; intro _ _ _)
  with_reducible refine Moves.step ?_ (releaseRow_mv _ _ _ _) rfl
  assumption
  subst s5
  with_reducible exact Moves.mk' (m := 32768) (by assumption) (.inr rfl) (.inr rfl) (.inr rfl) (.inr rfl) (.inr rfl) (.inr rfl) (.inr rfl) (.inr rfl) (.inr rfl) rfl rfl (.inr rfl) (.inr rfl) (.inl rfl) (.inr rfl) (.inr rfl) (.inr rfl) (.inr rfl) (.inr rfl) (.inr rfl) (.inr rfl) (.inr rfl) (.inr rfl) (.inr rfl) (.inr rfl) (.inr rfl) (.inr rfl)
  assumption
  with_reducible exact Moves.refl _ _

theorem testWay_mv (x0 : State) (x1 : Nat) : Moves 297456 x0 (testWay x0 x1) := by
  unfold testWay
  split
  lift_lets
  (intro s2; refine Moves.cut (P := Moves 297456 x0 s2) ?_ ?_; rotate_left; intro h2; clear_value s2)
  (intro c3; clear_value c3)
  with_reducible refine Moves.step ?_ (walkWay_mv _ _ _) rfl
  with_reducible exact Moves.mk' (m := 297456) (by assumption) (.inl rfl) (.inl rfl) (.inl rfl) (.inl rfl) (.inl rfl) (.inr rfl) (.inr rfl) (.inl rfl) (.inr rfl) rfl rfl (.inr rfl) (.inr rfl) (.inl rfl) (.inr rfl) (.inr rfl) (.inl rfl) (.inr rfl) (.inr rfl) (.inr rfl) (.inr rfl) (.inr rfl) (.inr rfl) (.inr rfl) (.inr rfl) (.inr rfl) (.inr rfl)
  with_reducible exact Moves.mk' (m := 297456) (Moves.refl _ _) (.inl rfl) (.inl rfl) (.inl rfl) (.inl rfl) (.inl rfl) (.inr rfl) (.inr rfl) (.inl rfl) (.inr rfl) rfl rfl (.inr rfl) (.inr rfl) (.inl rfl) (.inr rfl) (.inr rfl) (.inl rfl) (.inr rfl) (.inr rfl) (.inr rfl) (.inr rfl) (.inr rfl) (.inr rfl) (.inr rfl) (.inr rfl) (.inr rfl) (.inr rfl)
  subst s2
  with_reducible refine Moves.step ?_ (abandonCopies_mv _ _) rfl
  with_reducible exact Moves.refl _ _

theorem wayFails_mv (x0 : State) (x1 : Nat) (x2 : Nat) (x3 : Option (Pc × Nat)) (x4 : List Nat) : Moves 134585840 x0 (wayFails x0 x1 x2 x3 x4) := by
  unfold wayFails
  lift_lets
  (intro s1; refine Moves.cut (P := Moves 134585840 x0 s1) ?_ ?_; rotate_left; intro h1; clear_value s1)
  (intro s2; refine Moves.cut (P := Moves 134585840 x0 s2) ?_ ?_; rotate_left; intro h2; clear_value s2)
  (intro s3; refine Moves.cut (P := Moves 134585840 x0 s3) ?_ ?_; rotate_left; intro h3; clear_value s3)
  (intro s4; refine Moves.cut (P := Moves 134585840 x0 s4) ?_ ?_; rotate_left; intro h4; clear_value s4)
  (intro s5; refine Moves.cut (P := Moves 134585840 x0 s5) ?_ ?_; rotate_left; intro h5; clear_value s5)
  (intro c6; clear_value c6)
  with_reducible refine Moves.ite ?_ ?_
  with_reducible refine Moves.step ?_ (walkWay_mv _ _ _) rfl
  with_reducible exact Moves.mk' (m := 134585840) (by assumption) (.inl rfl) (.inl rfl) (.inl rfl) (.inl rfl) (.inl rfl) (.inr rfl) (.inl rfl) (.inl rfl) (.inl rfl) (by rfl) (by rfl) (.inr rfl) (.inr rfl) (.inl rfl) (.inl rfl) (.inr rfl) (.inl rfl) (.inr rfl) (.inr rfl) (.inr rfl) (.inr rfl) (.inr rfl) (.inr rfl) (.inr rfl) (.inr rfl) (.inl rfl) (.inr rfl)
  with_reducible exact Moves.mk' (m := 134585840) (by assumption) (.inl rfl) (.inl rfl) (.inl rfl) (.inl rfl) (.inl rfl) (.inr rfl) (.inl rfl) (.inl rfl) (.inl rfl) (by rfl) (by rfl) (.inr rfl) (.inr rfl) (.inl rfl) (.inl rfl) (.inr rfl) (.inl rfl) (.inr rfl) (.inr rfl) (.inr rfl) (.inr rfl) (.inr rfl) (.inr rfl) (.inr rfl) (.inr rfl) (.inl rfl) (.inr rfl)
  subst s1
  with_reducible refine Moves.step ?_ (abandonWayTest_mv _ _) rfl
  with_reducible exact Moves.refl _ _
  subst s2
  with_reducible refine Moves.step ?_ (abandonCopies_mv _ _) rfl
  assumption
  subst s3
  with_reducible refine Moves.ite ?_ ?_
  with_reducible refine Moves.step ?_ (wayCorr_mv _ _ _) rfl
  assumption
  assumption
  subst s4
  (with_reducible refine Moves.foldl _ _ ?_ ?_; rotate_left; intro _ _ _)
  with_reducible refine Moves.step ?_ (wayLoss_mv _ _ _) rfl
  assumption
  subst s5
  split
  with_reducible refine Moves.step ?_ (tagLost_mv _ _ _ _) rfl
  assumption
  assumption
  assumption

theorem execWayFailureDetected_mv (x0 : Fin 16) (x1 : Fin 5) (x2 : Option (Pc × Nat)) (x3 : List Nat) (x4 : State) : MovesO 134585840 x4 (execWayFailureDetected x0 x1 x2 x3 x4) := by
  unfold execWayFailureDetected
  with_reducible refine MovesO.whenDo ?_ ?_
  with_reducible exact Moves.refl _ _
  with_reducible refine Moves.step ?_ (wayFails_mv _ _ _ _ _) rfl
  with_reducible exact Moves.refl _ _

theorem wayRecovered_mv (x0 : State) (x1 : Nat) (x2 : List Nat) : Moves 121328 x0 (wayRecovered x0 x1 x2) := by
  unfold wayRecovered
  lift_lets
  (intro s1; refine Moves.cut (P := Moves 121328 x0 s1) ?_ ?_; rotate_left; intro h1; clear_value s1)
  (intro c2; clear_value c2)
  (intro c3; clear_value c3)
  (intro c4; clear_value c4)
  (intro s5; refine Moves.cut (P := Moves 121328 x0 s5) ?_ ?_; rotate_left; intro h5; clear_value s5)
  (intro s6; refine Moves.cut (P := Moves 121328 x0 s6) ?_ ?_; rotate_left; intro h6; clear_value s6)
  with_reducible refine Moves.step ?_ (disableWay_mv _ _) rfl
  assumption
  subst s1
  with_reducible refine Moves.step ?_ (emptyWay_mv _ _) rfl
  (with_reducible refine Moves.foldl _ _ ?_ ?_; rotate_left; intro _ _ _)
  with_reducible refine Moves.step ?_ (wayLoss_mv _ _ _) rfl
  assumption
  subst s5
  split
  with_reducible exact Moves.mk' (m := 121328) (by assumption) (.inl rfl) (.inl rfl) (.inl rfl) (.inl rfl) (.inl rfl) (.inr rfl) (.inr rfl) (.inl rfl) (.inl rfl) (by rfl) (by rfl) (.inr rfl) (.inl rfl) (.inl rfl) (.inl rfl) (.inr rfl) (.inr rfl) (.inr rfl) (.inr rfl) (.inr rfl) (.inr rfl) (.inr rfl) (.inr rfl) (.inr rfl) (.inr rfl) (.inr rfl) (.inr rfl)
  with_reducible refine Moves.step ?_ (walkWay_mv _ _ _) rfl
  with_reducible exact Moves.mk' (m := 121328) (by assumption) (.inl rfl) (.inl rfl) (.inl rfl) (.inl rfl) (.inl rfl) (.inr rfl) (.inr rfl) (.inl rfl) (.inl rfl) (by rfl) (by rfl) (.inr rfl) (.inl rfl) (.inl rfl) (.inl rfl) (.inr rfl) (.inr rfl) (.inr rfl) (.inr rfl) (.inr rfl) (.inr rfl) (.inr rfl) (.inr rfl) (.inr rfl) (.inr rfl) (.inr rfl) (.inr rfl)
  subst s6
  with_reducible refine Moves.step ?_ (raiseJ_mv _ _ _ _ _ _) rfl
  assumption
  with_reducible exact Moves.refl _ _

theorem execWayRecoveryDone_mv (x0 : Fin 16) (x1 : List Nat) (x2 : State) : MovesO 121328 x2 (execWayRecoveryDone x0 x1 x2) := by
  unfold execWayRecoveryDone
  with_reducible refine MovesO.whenDo ?_ ?_
  with_reducible exact Moves.refl _ _
  with_reducible refine Moves.step ?_ (wayRecovered_mv _ _ _) rfl
  with_reducible exact Moves.refl _ _

end Sys2Proof.Machine
end

