-- ==== Sys2Proof/Laws/FrameSched.lean ====
section
/-! SUPPORT. What each operation of Machine/Sched.lean may change, one lemma an operation (`<name>_mv`): the components its
mask names, and nothing else of the state. -/

namespace Sys2Proof.Machine

theorem markEnt_mv (x0 : State) (x1 : Pc) (x2 : QEnt) (x3 : Bool) : Moves 34816 x0 (markEnt x0 x1 x2 x3) := by
  unfold markEnt
  split
  split
  with_reducible refine Moves.step ?_ (putLine_mv _ _) rfl
  with_reducible exact Moves.refl _ _
  with_reducible exact Moves.refl _ _
  with_reducible refine Moves.step ?_ (modEntry_mv _ _ _ _) rfl
  with_reducible exact Moves.refl _ _

theorem issueCol_mv (x0 : State) (x1 : Pc) (x2 : QEnt) : Moves 34832 x0 (issueCol x0 x1 x2) := by
  unfold issueCol
  lift_lets
  (intro c1; clear_value c1)
  (intro c2; clear_value c2)
  (intro c3; clear_value c3)
  (intro c4; clear_value c4)
  (intro c5; clear_value c5)
  (intro s6; refine Moves.cut (P := Moves 34832 x0 s6) ?_ ?_; rotate_left; intro h6; clear_value s6)
  (intro s7; refine Moves.cut (P := Moves 34832 x0 s7) ?_ ?_; rotate_left; intro h7; clear_value s7)
  with_reducible refine Moves.ite ?_ ?_
  with_reducible refine Moves.step ?_ (modBank_mv _ _ _ _) rfl
  assumption
  assumption
  subst s6
  with_reducible refine Moves.step ?_ (bump_mv _ _ _) rfl
  with_reducible exact Moves.refl _ _
  subst s7
  with_reducible refine Moves.step ?_ (columns_mv _ _ _ _ _) rfl
  with_reducible refine Moves.step ?_ (markEnt_mv _ _ _ _) rfl
  assumption

theorem issueCmd_mv (x0 : State) (x1 : Pc) (x2 : QEnt) : Moves 51216 x0 (issueCmd x0 x1 x2) := by
  unfold issueCmd
  lift_lets
  (intro c1; clear_value c1)
  (intro c2; clear_value c2)
  (intro s3; refine Moves.cut (P := Moves 51216 x0 s3) ?_ ?_; rotate_left; intro h3; clear_value s3)
  (intro s4; refine Moves.cut (P := Moves 51216 x0 s4) ?_ ?_; rotate_left; intro h4; clear_value s4)
  split
  with_reducible refine Moves.ite ?_ ?_
  with_reducible refine Moves.step ?_ (issueCol_mv _ _ _) rfl
  with_reducible exact Moves.refl _ _
  with_reducible refine Moves.step ?_ (modBank_mv _ _ _ _) rfl
  with_reducible exact Moves.refl _ _
  with_reducible refine Moves.step ?_ (countAct_mv _ _ _ _ _ _) rfl
  with_reducible refine Moves.step ?_ (bump_mv _ _ _) rfl
  assumption
  subst s3
  with_reducible refine Moves.step ?_ (modBank_mv _ _ _ _) rfl
  with_reducible exact Moves.refl _ _
  subst s4
  with_reducible refine Moves.step ?_ (markEnt_mv _ _ _ _) rfl
  with_reducible refine Moves.step ?_ (State.modPc_mv _ _ _) rfl
  assumption

theorem streakAfter_mv (x0 : State) (x1 : Pc) (x2 : Nat) : Moves 2064 x0 (streakAfter x0 x1 x2) := by
  unfold streakAfter
  lift_lets
  (intro s1; refine Moves.cut (P := Moves 2064 x0 s1) ?_ ?_; rotate_left; intro h1; clear_value s1)
  with_reducible refine Moves.ite ?_ ?_
  with_reducible refine Moves.step ?_ (bump_mv _ _ _) rfl
  assumption
  assumption
  subst s1
  with_reducible refine Moves.step ?_ (State.modPc_mv _ _ _) rfl
  with_reducible exact Moves.refl _ _

theorem schedule_mv (x0 : State) (x1 : Pc) : Moves 51216 x0 (schedule x0 x1) := by
  unfold schedule
  lift_lets
  (intro c1; clear_value c1)
  split
  with_reducible exact Moves.refl _ _
  lift_lets
  (intro s5; refine Moves.cut (P := Moves 51216 x0 s5) ?_ ?_; rotate_left; intro h5; clear_value s5)
  split
  assumption
  with_reducible refine Moves.step ?_ (issueCmd_mv _ _ _) rfl
  with_reducible refine Moves.step ?_ (streakAfter_mv _ _ _) rfl
  assumption
  subst s5
  with_reducible refine Moves.step ?_ (State.atLeast_mv _ _) rfl
  with_reducible exact Moves.refl _ _

theorem execCaptureOffer_mv (x0 : Pc) (x1 : Fin 32) (x2 : Nat) (x3 : State) : MovesO 51696 x3 (execCaptureOffer x0 x1 x2 x3) := by
  unfold execCaptureOffer
  split
  with_reducible refine MovesO.next ?_
  with_reducible exact Moves.refl _ _
  lift_lets
  (intro s4; refine Moves.cut (P := Moves 51696 x3 s4) ?_ ?_; rotate_left; intro h4; clear_value s4)
  with_reducible refine MovesO.whenDo ?_ ?_
  with_reducible exact Moves.refl _ _
  with_reducible refine Moves.step ?_ (offerCapture_mv _ _ _ _) rfl
  assumption
  subst s4
  with_reducible refine Moves.step ?_ (State.atLeast_mv _ _) rfl
  with_reducible exact Moves.refl _ _

theorem readBlock_mv (x0 : State) (x1 : QEnt) (x2 : Nat) : Moves 34832 x0 (readBlock x0 x1 x2).2 := by
  unfold readBlock
  split
  with_reducible exact Moves.refl _ _
  with_reducible refine Moves.ite2 ?_ ?_
  with_reducible exact Moves.refl _ _
  split
  dsimp -zeta only
  with_reducible refine Moves.ite ?_ ?_
  with_reducible refine Moves.step ?_ (Moves.snd (by assumption) (readWord_mv _ _)) rfl
  with_reducible exact Moves.refl _ _
  with_reducible refine Moves.step ?_ (bump_mv _ _ _) rfl
  with_reducible refine Moves.step ?_ (rowAccess_mv _ _) rfl
  with_reducible refine Moves.step ?_ (Moves.snd (by assumption) (readWord_mv _ _)) rfl
  with_reducible exact Moves.refl _ _

theorem hostBlock_mv (x0 : State) (x1 : QEnt) (x2 : Nat) : Moves 39408 x0 (hostBlock x0 x1 x2).2.2 := by
  unfold hostBlock
  with_reducible refine Moves.ite3 ?_ ?_
  with_reducible exact Moves.refl _ _
  split
  dsimp -zeta only
  with_reducible refine Moves.step ?_ (afterRead_mv _ _ _ _ _ _) rfl
  with_reducible refine Moves.step ?_ (Moves.snd (by assumption) (readBlock_mv _ _ _)) rfl
  with_reducible exact Moves.refl _ _

theorem hostRead_mv (x0 : State) (x1 : Pc) (x2 : QEnt) : Moves 39408 x0 (hostRead x0 x1 x2) := by
  unfold hostRead
  split
  with_reducible refine Moves.step ?_ (freeEntry_mv _ _ _) rfl
  with_reducible refine Moves.step ?_ (answer_mv _ _ _ _ _) rfl
  (with_reducible refine Moves.snd (by assumption) (Moves.foldl_snd _ _ _ ?_ ?_); rotate_left; intro _ _ _; dsimp -zeta only)
  with_reducible refine Moves.step ?_ (hostBlock_mv _ _ _) rfl
  with_reducible assumption
  with_reducible exact Moves.refl _ _

theorem scrubFound_mv (x0 : State) (x1 : QEnt) (x2 : Pc) (x3 : Nat) (x4 : Found) : Moves 23024 x0 (scrubFound x0 x1 x2 x3 x4) := by
  unfold scrubFound
  lift_lets
  (intro c1; clear_value c1)
  (intro s2; refine Moves.cut (P := Moves 23024 x0 s2) ?_ ?_; rotate_left; intro h2; clear_value s2)
  split
  with_reducible refine Moves.ite ?_ ?_
  with_reducible refine Moves.ite ?_ ?_
  with_reducible refine Moves.step ?_ (afterRead_mv _ _ _ _ _ _) rfl
  with_reducible refine Moves.step ?_ (bump_mv _ _ _) rfl
  with_reducible exact Moves.refl _ _
  with_reducible refine Moves.ite ?_ ?_
  with_reducible refine Moves.step ?_ (bump_mv _ _ _) rfl
  with_reducible refine Moves.step ?_ (bump_mv _ _ _) rfl
  with_reducible refine Moves.step ?_ (bump_mv _ _ _) rfl
  with_reducible exact Moves.refl _ _
  with_reducible exact Moves.refl _ _
  with_reducible refine Moves.ite ?_ ?_
  with_reducible refine Moves.step ?_ (derive_mv _ _) rfl
  with_reducible refine Moves.step ?_ (afterRead_mv _ _ _ _ _ _) rfl
  with_reducible refine Moves.step ?_ (bump_mv _ _ _) rfl
  with_reducible exact Moves.refl _ _
  with_reducible refine Moves.ite ?_ ?_
  with_reducible refine Moves.step ?_ (dramWrite_mv _ _ _ _) rfl
  with_reducible refine Moves.step ?_ (bump_mv _ _ _) rfl
  with_reducible refine Moves.step ?_ (bump_mv _ _ _) rfl
  assumption
  with_reducible exact Moves.refl _ _
  with_reducible refine Moves.ite ?_ ?_
  with_reducible refine Moves.step ?_ (derive_mv _ _) rfl
  with_reducible refine Moves.step ?_ (afterRead_mv _ _ _ _ _ _) rfl
  with_reducible refine Moves.step ?_ (bump_mv _ _ _) rfl
  with_reducible exact Moves.refl _ _
  with_reducible refine Moves.ite ?_ ?_
  with_reducible refine Moves.step ?_ (afterRead_mv _ _ _ _ _ _) rfl
  with_reducible refine Moves.step ?_ (bump_mv _ _ _) rfl
  with_reducible exact Moves.refl _ _
  with_reducible exact Moves.refl _ _
  subst s2
  with_reducible refine Moves.step ?_ (rowCycle_mv _ _ _ _ _ _) rfl
  with_reducible exact Moves.refl _ _

theorem scrubBlock_mv (x0 : State) (x1 : QEnt) (x2 : Nat) : Moves 23024 x0 (scrubBlock x0 x1 x2) := by
  unfold scrubBlock
  with_reducible refine Moves.ite ?_ ?_
  with_reducible exact Moves.refl _ _
  with_reducible refine Moves.ite ?_ ?_
  split
  lift_lets
  (intro s5; refine Moves.cut (P := Moves 23024 x0 s5) ?_ ?_; rotate_left; intro h5; clear_value s5)
  with_reducible refine Moves.step ?_ (afterRead_mv _ _ _ _ _ _) rfl
  assumption
  split
  with_reducible refine Moves.step ?_ (scrubFound_mv _ _ _ _ _) rfl
  with_reducible refine Moves.step ?_ (Moves.snd (by assumption) (dramRead_mv _ _)) rfl
  with_reducible exact Moves.refl _ _
  subst s5
  with_reducible refine Moves.ite ?_ ?_
  with_reducible refine Moves.step ?_ (bump_mv _ _ _) rfl
  with_reducible refine Moves.step ?_ (Moves.snd (by assumption) (readWord_mv _ _)) rfl
  with_reducible exact Moves.refl _ _
  with_reducible refine Moves.ite ?_ ?_
  with_reducible refine Moves.step ?_ (bump_mv _ _ _) rfl
  with_reducible refine Moves.step ?_ (Moves.snd (by assumption) (readWord_mv _ _)) rfl
  with_reducible exact Moves.refl _ _
  with_reducible refine Moves.step ?_ (Moves.snd (by assumption) (readWord_mv _ _)) rfl
  with_reducible exact Moves.refl _ _

theorem scrubRead_mv (x0 : State) (x1 : Pc) (x2 : QEnt) : Moves 23024 x0 (scrubRead x0 x1 x2) := by
  unfold scrubRead
  lift_lets
  (intro s1; refine Moves.cut (P := Moves 23024 x0 s1) ?_ ?_; rotate_left; intro h1; clear_value s1)
  with_reducible refine Moves.step ?_ (State.modPc_mv _ _ _) rfl
  with_reducible refine Moves.step ?_ (freeEntry_mv _ _ _) rfl
  assumption
  subst s1
  (with_reducible refine Moves.foldl _ _ ?_ ?_; rotate_left; intro _ _ _)
  with_reducible refine Moves.step ?_ (scrubBlock_mv _ _ _) rfl
  assumption
  with_reducible exact Moves.refl _ _

theorem execReadDataDecoded_mv (x0 : Pc) (x1 : Nat) (x2 : List Upset) (x3 : State) : MovesO 4250096 x3 (execReadDataDecoded x0 x1 x2 x3) := by
  unfold execReadDataDecoded
  split
  with_reducible refine MovesO.next ?_
  with_reducible exact Moves.refl _ _
  with_reducible refine MovesO.whenDo ?_ ?_
  with_reducible exact Moves.refl _ _
  lift_lets
  (intro s6; refine Moves.cut (P := Moves 4250096 x3 s6) ?_ ?_; rotate_left; intro h6; clear_value s6)
  (intro c7; clear_value c7)
  (intro s8; refine Moves.cut (P := Moves 4250096 x3 s8) ?_ ?_; rotate_left; intro h8; clear_value s8)
  with_reducible refine Moves.ite ?_ ?_
  with_reducible refine Moves.step ?_ (scrubRead_mv _ _ _) rfl
  assumption
  with_reducible refine Moves.step ?_ (hostRead_mv _ _ _) rfl
  assumption
  subst s6
  with_reducible refine Moves.step ?_ (lagCount_mv _ _) rfl
  with_reducible exact Moves.refl _ _
  subst s8
  (with_reducible refine Moves.foldl _ _ ?_ ?_; rotate_left; intro _ _ _)
  with_reducible refine Moves.step ?_ (lineUpset_mv _ _) rfl
  assumption
  (with_reducible refine Moves.foldl _ _ ?_ ?_; rotate_left; intro _ _ _)
  with_reducible refine Moves.step ?_ (dramUpset_mv _ _) rfl
  assumption
  assumption

theorem commitBlock_mv (x0 : State) (x1 : QEnt) (x2 : Nat) : Moves 38912 x0 (commitBlock x0 x1 x2) := by
  unfold commitBlock
  split
  lift_lets
  (intro c2; clear_value c2)
  (intro s3; refine Moves.cut (P := Moves 38912 x0 s3) ?_ ?_; rotate_left; intro h3; clear_value s3)
  with_reducible refine Moves.ite ?_ ?_
  with_reducible refine Moves.step ?_ (afterLineWrite_mv _ _ _) rfl
  with_reducible refine Moves.step ?_ (rowAccess_mv _ _) rfl
  assumption
  assumption
  subst s3
  with_reducible refine Moves.step ?_ (commitWrite_mv _ _ _ _ _) rfl
  with_reducible exact Moves.refl _ _

theorem commitEntry_mv (x0 : State) (x1 : QEnt) : Moves 39408 x0 (commitEntry x0 x1) := by
  unfold commitEntry
  (with_reducible refine Moves.foldl _ _ ?_ ?_; rotate_left; intro _ _ _)
  lift_lets
  (intro s2; refine Moves.cut (P := Moves 39408 x0 s2) ?_ ?_; rotate_left; intro h2; clear_value s2)
  with_reducible refine Moves.ite ?_ ?_
  assumption
  with_reducible refine Moves.step ?_ (poisonClear_mv _ _) rfl
  assumption
  with_reducible exact Moves.refl _ _
  subst s2
  with_reducible refine Moves.step ?_ (commitBlock_mv _ _ _) rfl
  assumption

theorem corrWb_mv (x0 : State) (x1 : Pc) (x2 : Nat) : Moves 496 x0 (corrWb x0 x1 x2) := by
  unfold corrWb
  with_reducible refine Moves.step ?_ (raiseLim_mv _ _ _ _ _ _ _ _ _ _) rfl
  with_reducible refine Moves.step ?_ (bump_mv _ _ _) rfl
  with_reducible exact Moves.refl _ _

theorem poisonTurn_mv (x0 : State) (x1 : Pc) (x2 : Derived) : Moves 4112 x0 (poisonTurn x0 x1 x2) := by
  unfold poisonTurn
  with_reducible refine Moves.ite ?_ ?_
  with_reducible exact Moves.refl _ _
  lift_lets
  (intro c3; clear_value c3)
  (intro c4; clear_value c4)
  (intro s5; refine Moves.cut (P := Moves 4112 x0 s5) ?_ ?_; rotate_left; intro h5; clear_value s5)
  (intro c6; subst c6)
  with_reducible exact Moves.mk' (m := 4112) (by assumption) (.inl rfl) (.inr rfl) (.inr rfl) (.inr rfl) (.inr rfl) (.inr rfl) (.inr rfl) (.inr rfl) (.inl rfl) (by rfl) (by rfl) (.inr rfl) (.inr rfl) (.inr rfl) (.inr rfl) (.inr rfl) (.inr rfl) (.inr rfl) (.inr rfl) (.inr rfl) (.inr rfl) (.inr rfl) (.inr rfl) (.inr rfl) (.inr rfl) (.inr rfl) (.inr rfl)
  subst s5
  with_reducible refine Moves.ite ?_ ?_
  with_reducible refine Moves.step ?_ (State.atLeast_mv _ _) rfl
  with_reducible exact Moves.refl _ _
  with_reducible exact Moves.refl _ _

theorem enqueueDerived_mv (x0 : State) (x1 : Pc) (x2 : Derived) : Moves 72176 x0 (enqueueDerived x0 x1 x2) := by
  unfold enqueueDerived
  lift_lets
  (intro s1; refine Moves.cut (P := Moves 72176 x0 s1) ?_ ?_; rotate_left; intro h1; try clear_value s1)
  (intro c2; try clear_value c2)
  (intro s3; refine Moves.cut (P := Moves 72176 x0 s3) ?_ ?_; rotate_left; intro h3; clear_value s3)
  (intro c4; try clear_value c4)
  (intro c5; try clear_value c5)
  (intro s6; refine Moves.cut (P := Moves 72176 x0 s6) ?_ ?_; rotate_left; intro h6; clear_value s6)
  with_reducible refine Moves.ite ?_ ?_
  with_reducible refine Moves.ite ?_ ?_
  with_reducible refine Moves.step ?_ (uncorrFound_mv _ _ _ _ _) rfl
  assumption
  assumption
  with_reducible refine Moves.ite ?_ ?_
  with_reducible refine Moves.step ?_ (poisonSteps_mv _ _ _) rfl
  assumption
  with_reducible refine Moves.ite ?_ ?_
  with_reducible refine Moves.step ?_ (corrWb_mv _ _ _) rfl
  assumption
  assumption
  subst s1
  with_reducible refine Moves.step ?_ (State.modPc_mv _ _ _) rfl
  with_reducible refine Moves.step ?_ (poisonTurn_mv _ _ _) rfl
  with_reducible refine Moves.step ?_ (turn_mv _ _ _) rfl
  with_reducible exact Moves.refl _ _
  subst s3
  with_reducible refine Moves.step ?_ (bump_mv _ _ _) rfl
  assumption
  subst s6
  with_reducible refine Moves.step ?_ (noteWrite_mv _ _ _) rfl
  with_reducible refine Moves.step ?_ (enqueue_mv _ _ _) rfl
  with_reducible refine Moves.step ?_ (State.tick_mv _) rfl
  assumption

theorem execDerivedWriteEnqueue_mv (x0 : Pc) (x1 : State) : MovesO 72176 x1 (execDerivedWriteEnqueue x0 x1) := by
  unfold execDerivedWriteEnqueue
  split
  with_reducible refine MovesO.next ?_
  with_reducible exact Moves.refl _ _
  with_reducible refine MovesO.whenDo ?_ ?_
  with_reducible exact Moves.refl _ _
  with_reducible refine Moves.step ?_ (enqueueDerived_mv _ _ _) rfl
  with_reducible exact Moves.refl _ _

theorem lapseEnd_mv (x0 : State) (x1 : Pc) : Moves 2064 x0 (lapseEnd x0 x1) := by
  unfold lapseEnd
  lift_lets
  (intro s1; refine Moves.cut (P := Moves 2064 x0 s1) ?_ ?_; rotate_left; intro h1; clear_value s1)
  (intro s2; refine Moves.cut (P := Moves 2064 x0 s2) ?_ ?_; rotate_left; intro h2; clear_value s2)
  with_reducible refine Moves.ite ?_ ?_
  with_reducible refine Moves.step ?_ (State.modPc_mv _ _ _) rfl
  assumption
  assumption
  subst s1
  with_reducible refine Moves.step ?_ (noteBreach_mv _ _) rfl
  with_reducible exact Moves.refl _ _
  subst s2
  with_reducible refine Moves.step ?_ (noteBreach_mv _ _) rfl
  with_reducible refine Moves.step ?_ (State.atLeast_mv _ _) rfl
  assumption

theorem execUrgentLapseEnd_mv (x0 : Pc) (x1 : State) : MovesO 2064 x1 (execUrgentLapseEnd x0 x1) := by
  unfold execUrgentLapseEnd
  with_reducible refine MovesO.whenDo ?_ ?_
  with_reducible exact Moves.refl _ _
  with_reducible refine Moves.step ?_ (lapseEnd_mv _ _) rfl
  with_reducible exact Moves.refl _ _

end Sys2Proof.Machine
end

