-- ==== Sys2Proof/Laws/FrameMirrorOps.lean ====
section
/-! SUPPORT. What each operation of Machine/MirrorOps.lean may change, one lemma an operation (`<name>_mv`): the components its
mask names, and nothing else of the state. -/

namespace Sys2Proof.Machine

theorem modWin_mv (x0 : State) (x1 : Nat) (x2 : WinSt → WinSt) : Moves 16777216 x0 (modWin x0 x1 x2) := by
  unfold modWin
  with_reducible exact Moves.mk' (m := 16777216) (Moves.refl _ _) (.inr rfl) (.inr rfl) (.inr rfl) (.inr rfl) (.inr rfl) (.inr rfl) (.inr rfl) (.inr rfl) (.inr rfl) rfl rfl (.inr rfl) (.inr rfl) (.inr rfl) (.inr rfl) (.inr rfl) (.inr rfl) (.inr rfl) (.inr rfl) (.inr rfl) (.inr rfl) (.inr rfl) (.inl rfl) (.inr rfl) (.inr rfl) (.inr rfl) (.inr rfl)

theorem mirrorCfg_mv (x0 : State) (x1 : Nat) (x2 : Nat) : Moves 496 x0 (mirrorCfg x0 x1 x2) := by
  unfold mirrorCfg
  with_reducible refine Moves.step ?_ (raise_mv _ _ _ _ _ _) rfl
  with_reducible exact Moves.refl _ _

theorem releaseSync_mv (x0 : State) (x1 : SyncWait) (x2 : Nat) : Moves 272 x0 (releaseSync x0 x1 x2) := by
  unfold releaseSync
  lift_lets
  (intro s1; refine Moves.cut (P := Moves 272 x0 s1) ?_ ?_; rotate_left; intro h1; clear_value s1)
  (intro c2; clear_value c2)
  with_reducible refine Moves.ite ?_ ?_
  with_reducible refine Moves.step ?_ (State.modPort_mv _ _ _) rfl
  assumption
  with_reducible refine Moves.step ?_ (respond_mv _ _ _) rfl
  assumption
  subst s1
  with_reducible refine Moves.ite ?_ ?_
  with_reducible refine Moves.step ?_ (bump_mv _ _ _) rfl
  with_reducible exact Moves.refl _ _
  with_reducible exact Moves.refl _ _

theorem releaseWaits_mv (x0 : State) (x1 : SyncWait → Bool) (x2 : Nat) : Moves 16777488 x0 (releaseWaits x0 x1 x2) := by
  unfold releaseWaits
  lift_lets
  (intro c1; clear_value c1)
  (intro c2; clear_value c2)
  (intro s3; refine Moves.cut (P := Moves 16777488 x0 s3) ?_ ?_; rotate_left; intro h3; clear_value s3)
  (with_reducible refine Moves.foldl _ _ ?_ ?_; rotate_left; intro _ _ _)
  with_reducible refine Moves.step ?_ (releaseSync_mv _ _ _) rfl
  assumption
  subst s3
  with_reducible exact Moves.mk' (m := 16777488) (Moves.refl _ _) (.inl rfl) (.inr rfl) (.inr rfl) (.inr rfl) (.inl rfl) (.inr rfl) (.inr rfl) (.inr rfl) (.inr rfl) rfl rfl (.inr rfl) (.inr rfl) (.inr rfl) (.inr rfl) (.inr rfl) (.inr rfl) (.inr rfl) (.inr rfl) (.inr rfl) (.inr rfl) (.inr rfl) (.inl rfl) (.inr rfl) (.inr rfl) (.inr rfl) (.inr rfl)
  assumption

theorem diverge_mv (x0 : State) (x1 : Fin 64) (x2 : Nat) : Moves 150995440 x0 (diverge x0 x1 x2) := by
  unfold diverge
  with_reducible refine Moves.ite ?_ ?_
  with_reducible exact Moves.refl _ _
  lift_lets
  (intro c3; clear_value c3)
  (intro c4; clear_value c4)
  (intro s5; refine Moves.cut (P := Moves 150995440 x0 s5) ?_ ?_; rotate_left; intro h5; clear_value s5)
  (intro s6; refine Moves.cut (P := Moves 150995440 x0 s6) ?_ ?_; rotate_left; intro h6; clear_value s6)
  (intro s7; refine Moves.cut (P := Moves 150995440 x0 s7) ?_ ?_; rotate_left; intro h7; clear_value s7)
  with_reducible refine Moves.step ?_ (releaseWaits_mv _ _ _) rfl
  with_reducible refine Moves.step ?_ (wxSyncLost_mv _ _) rfl
  assumption
  subst s5
  with_reducible exact Moves.mk' (m := 150995440) (Moves.refl _ _) (.inl rfl) (.inl rfl) (.inl rfl) (.inl rfl) (.inl rfl) (.inr rfl) (.inr rfl) (.inr rfl) (.inr rfl) rfl rfl (.inr rfl) (.inr rfl) (.inr rfl) (.inr rfl) (.inr rfl) (.inr rfl) (.inr rfl) (.inr rfl) (.inr rfl) (.inr rfl) (.inr rfl) (.inl rfl) (.inr rfl) (.inr rfl) (.inl rfl) (.inr rfl)
  subst s6
  with_reducible refine Moves.step ?_ (modWin_mv _ _ _) rfl
  assumption
  subst s7
  with_reducible refine Moves.step ?_ (raiseJ_mv _ _ _ _ _ _) rfl
  assumption

theorem divergeLoss_mv (x0 : State) (x1 : Nat) : Moves 150995440 x0 (divergeLoss x0 x1) := by
  unfold divergeLoss
  (with_reducible refine Moves.foldl _ _ ?_ ?_; rotate_left; intro _ _ _)
  with_reducible refine Moves.ite ?_ ?_
  with_reducible refine Moves.step ?_ (diverge_mv _ _ _) rfl
  assumption
  assumption
  with_reducible exact Moves.refl _ _

theorem pushQ_mv (x0 : State) (x1 : Fin 2) (x2 : Msg) : Moves 16777216 x0 (pushQ x0 x1 x2) := by
  unfold pushQ
  with_reducible exact Moves.mk' (m := 16777216) (Moves.refl _ _) (.inr rfl) (.inr rfl) (.inr rfl) (.inr rfl) (.inr rfl) (.inr rfl) (.inr rfl) (.inr rfl) (.inr rfl) rfl rfl (.inr rfl) (.inr rfl) (.inr rfl) (.inr rfl) (.inr rfl) (.inr rfl) (.inr rfl) (.inr rfl) (.inr rfl) (.inr rfl) (.inr rfl) (.inl rfl) (.inr rfl) (.inr rfl) (.inr rfl) (.inr rfl)

theorem backlogHigh_mv (x0 : State) (x1 : State) : Moves 496 x1 (backlogHigh x0 x1) := by
  unfold backlogHigh
  lift_lets
  (intro c1; clear_value c1)
  with_reducible refine Moves.ite ?_ ?_
  with_reducible refine Moves.step ?_ (raiseLim_mv _ _ _ _ _ _ _ _ _ _) rfl
  with_reducible exact Moves.refl _ _
  with_reducible exact Moves.refl _ _

theorem toBacklog_mv (x0 : State) (x1 : Msg) : Moves 16800240 x0 (toBacklog x0 x1) := by
  unfold toBacklog
  lift_lets
  (intro c1; clear_value c1)
  (intro c2; clear_value c2)
  (intro s3; refine Moves.cut (P := Moves 16800240 x0 s3) ?_ ?_; rotate_left; intro h3; clear_value s3)
  with_reducible refine Moves.step ?_ (backlogHigh_mv _ _) rfl
  with_reducible refine Moves.step ?_ (ownWrites_mv _ _) rfl
  assumption
  subst s3
  with_reducible exact Moves.mk' (m := 16800240) (Moves.refl _ _) (.inl rfl) (.inl rfl) (.inl rfl) (.inl rfl) (.inl rfl) (.inr rfl) (.inr rfl) (.inl rfl) (.inl rfl) (by rfl) (by rfl) (.inr rfl) (.inl rfl) (.inr rfl) (.inr rfl) (.inr rfl) (.inr rfl) (.inr rfl) (.inr rfl) (.inr rfl) (.inr rfl) (.inr rfl) (.inl rfl) (.inr rfl) (.inr rfl) (.inr rfl) (.inr rfl)

theorem placeMsg_mv (x0 : State) (x1 : Fin 64) (x2 : Msg) (x3 : Bool) (x4 : Bool) : Moves 151017968 x0 (placeMsg x0 x1 x2 x3 x4) := by
  unfold placeMsg
  lift_lets
  (intro c1; clear_value c1)
  (intro c2; subst c2)
  with_reducible refine Moves.ite ?_ ?_
  dsimp -zeta only
  lift_lets
  (intro c6; clear_value c6)
  with_reducible refine Moves.mk' (m := 151017968) ?_ (.inl rfl) (.inl rfl) (.inl rfl) (.inl rfl) (.inl rfl) (.inr rfl) (.inr rfl) (.inl rfl) (.inl rfl) (by rfl) (by rfl) (.inr rfl) (.inl rfl) (.inr rfl) (.inr rfl) (.inr rfl) (.inr rfl) (.inr rfl) (.inr rfl) (.inr rfl) (.inr rfl) (.inr rfl) (.inl rfl) (.inr rfl) (.inr rfl) (.inl rfl) (.inr rfl)
  with_reducible refine Moves.step ?_ (pushQ_mv _ _ _) rfl
  with_reducible exact Moves.refl _ _
  with_reducible refine Moves.ite ?_ ?_
  dsimp -zeta only
  lift_lets
  (intro c13; clear_value c13)
  with_reducible refine Moves.mk' (m := 151017968) ?_ (.inl rfl) (.inl rfl) (.inl rfl) (.inl rfl) (.inl rfl) (.inr rfl) (.inr rfl) (.inl rfl) (.inl rfl) (by rfl) (by rfl) (.inr rfl) (.inl rfl) (.inr rfl) (.inr rfl) (.inr rfl) (.inr rfl) (.inr rfl) (.inr rfl) (.inr rfl) (.inr rfl) (.inr rfl) (.inl rfl) (.inr rfl) (.inr rfl) (.inl rfl) (.inr rfl)
  with_reducible refine Moves.step ?_ (pushQ_mv _ _ _) rfl
  with_reducible exact Moves.refl _ _
  with_reducible refine Moves.ite ?_ ?_
  dsimp -zeta only
  lift_lets
  (intro c20; clear_value c20)
  with_reducible refine Moves.mk' (m := 151017968) ?_ (.inl rfl) (.inl rfl) (.inl rfl) (.inl rfl) (.inl rfl) (.inr rfl) (.inr rfl) (.inl rfl) (.inl rfl) (by rfl) (by rfl) (.inr rfl) (.inl rfl) (.inr rfl) (.inr rfl) (.inr rfl) (.inr rfl) (.inr rfl) (.inr rfl) (.inr rfl) (.inr rfl) (.inr rfl) (.inl rfl) (.inr rfl) (.inr rfl) (.inl rfl) (.inr rfl)
  with_reducible refine Moves.step ?_ (toBacklog_mv _ _) rfl
  with_reducible exact Moves.refl _ _
  with_reducible refine Moves.step ?_ (diverge_mv _ _ _) rfl
  with_reducible exact Moves.refl _ _

theorem takeSeq_mv (x0 : State) (x1 : Fin 64) : Moves 16777216 x0 (takeSeq x0 x1).2 := by
  unfold takeSeq
  dsimp -zeta only
  with_reducible refine Moves.step ?_ (modWin_mv _ _ _) rfl
  with_reducible exact Moves.refl _ _

theorem mirrorWrite_mv (x0 : State) (x1 : Nat) (x2 : List Block) (x3 : Nat) : Moves 151017968 x0 (mirrorWrite x0 x1 x2 x3).2 := by
  unfold mirrorWrite
  split
  with_reducible exact Moves.refl _ _
  lift_lets
  (intro c3; clear_value c3)
  (intro s4; refine Moves.cut (P := Moves 151017968 x0 s4) ?_ ?_; rotate_left; intro h4; clear_value s4)
  with_reducible refine Moves.ite2 ?_ ?_
  with_reducible assumption
  split
  lift_lets
  (intro c9; clear_value c9)
  dsimp -zeta only
  with_reducible refine Moves.step ?_ (placeMsg_mv _ _ _ _ _) rfl
  with_reducible refine Moves.step ?_ (Moves.snd (by assumption) (takeSeq_mv _ _)) rfl
  assumption
  subst s4
  with_reducible refine Moves.ite ?_ ?_
  with_reducible exact Moves.refl _ _
  with_reducible refine Moves.step ?_ (diverge_mv _ _ _) rfl
  with_reducible exact Moves.refl _ _

theorem respondMirrored_mv (x0 : State) (x1 : Port) (x2 : Resp) (x3 : Bool) (x4 : Nat) (x5 : Option (Option Nat)) : Moves 16777488 x0 (respondMirrored x0 x1 x2 x3 x4 x5) := by
  unfold respondMirrored
  split
  with_reducible refine Moves.step ?_ (releaseSync_mv _ _ _) rfl
  with_reducible exact Moves.refl _ _
  with_reducible refine Moves.step ?_ (releaseSync_mv _ _ _) rfl
  with_reducible exact Moves.refl _ _
  with_reducible exact Moves.mk' (m := 16777488) (Moves.refl _ _) (.inl rfl) (.inr rfl) (.inr rfl) (.inr rfl) (.inl rfl) (.inr rfl) (.inr rfl) (.inr rfl) (.inr rfl) rfl rfl (.inr rfl) (.inr rfl) (.inr rfl) (.inr rfl) (.inr rfl) (.inr rfl) (.inr rfl) (.inr rfl) (.inr rfl) (.inr rfl) (.inr rfl) (.inl rfl) (.inr rfl) (.inr rfl) (.inr rfl) (.inr rfl)

theorem fwdMark_mv (x0 : State) (x1 : Nat) : Moves 16777216 x0 (fwdMark x0 x1) := by
  unfold fwdMark
  with_reducible refine Moves.ite ?_ ?_
  with_reducible refine Moves.step ?_ (pushQ_mv _ _ _) rfl
  with_reducible exact Moves.refl _ _
  with_reducible exact Moves.refl _ _

theorem formBarriers_mv (x0 : State) (x1 : Nat) : Moves 16777216 x0 (formBarriers x0 x1) := by
  unfold formBarriers
  (with_reducible refine Moves.foldl _ _ ?_ ?_; rotate_left; intro _ _ _; dsimp -zeta only)
  with_reducible refine Moves.ite ?_ ?_
  lift_lets
  (intro c3; clear_value c3)
  (intro c4; clear_value c4)
  (intro c5; clear_value c5)
  with_reducible refine Moves.step ?_ (pushQ_mv _ _ _) rfl
  with_reducible refine Moves.mk' (m := 16777216) ?_ (.inr rfl) (.inr rfl) (.inr rfl) (.inr rfl) (.inr rfl) (.inr rfl) (.inr rfl) (.inr rfl) (.inr rfl) rfl rfl (.inr rfl) (.inr rfl) (.inr rfl) (.inr rfl) (.inr rfl) (.inr rfl) (.inr rfl) (.inr rfl) (.inr rfl) (.inr rfl) (.inr rfl) (.inl rfl) (.inr rfl) (.inr rfl) (.inr rfl) (.inr rfl)
  with_reducible refine Moves.step ?_ (takeSeq_mv _ _) rfl
  assumption
  assumption
  with_reducible exact Moves.refl _ _

end Sys2Proof.Machine
end

