-- ==== Sys2Proof/Laws/FrameMerge.lean ====
section
/-! SUPPORT. What each operation of Machine/Merge.lean may change, one lemma an operation (`<name>_mv`): the components its
mask names, and nothing else of the state. -/

namespace Sys2Proof.Machine

theorem drainHost_mv (x0 : State) (x1 : QEnt) (x2 : List Block) : Moves 151083504 x0 (drainHost x0 x1 x2) := by
  unfold drainHost
  split
  with_reducible exact Moves.refl _ _
  lift_lets
  (intro c3; clear_value c3)
  (intro c4; clear_value c4)
  (intro c5; clear_value c5)
  (intro s6; refine Moves.cut (P := Moves 151083504 x0 s6) ?_ ?_; rotate_left; intro h6; clear_value s6)
  split
  with_reducible refine Moves.step ?_ (respondMirrored_mv _ _ _ _ _ _) rfl
  with_reducible refine Moves.step ?_ (Moves.snd (by assumption) (mirrorWrite_mv _ _ _ _)) rfl
  assumption
  subst s6
  with_reducible refine Moves.step ?_ (tagWrite_mv _ _ _) rfl
  with_reducible refine Moves.step ?_ (drainOrd_mv _ _) rfl
  with_reducible exact Moves.refl _ _

theorem finishWrite_mv (x0 : State) (x1 : Pc) (x2 : QEnt) : Moves 151116272 x0 (finishWrite x0 x1 x2) := by
  unfold finishWrite
  lift_lets
  (intro s1; refine Moves.cut (P := Moves 151116272 x0 s1) ?_ ?_; rotate_left; intro h1; clear_value s1)
  with_reducible refine Moves.ite ?_ ?_
  assumption
  with_reducible refine Moves.step ?_ (drainHost_mv _ _ _) rfl
  assumption
  subst s1
  with_reducible refine Moves.step ?_ (freeEntry_mv _ _ _) rfl
  with_reducible refine Moves.step ?_ (commitEntry_mv _ _) rfl
  with_reducible exact Moves.refl _ _

theorem execDramWriteDone_mv (x0 : Pc) (x1 : Nat) (x2 : State) : MovesO 151116272 x2 (execDramWriteDone x0 x1 x2) := by
  unfold execDramWriteDone
  split
  with_reducible refine MovesO.next ?_
  with_reducible exact Moves.refl _ _
  with_reducible refine MovesO.ite ?_ ?_
  with_reducible refine MovesO.ite ?_ ?_
  with_reducible refine MovesO.next ?_
  with_reducible refine Moves.ite ?_ ?_
  with_reducible exact Moves.refl _ _
  with_reducible refine Moves.step ?_ (capReached_mv _) rfl
  with_reducible refine Moves.step ?_ (modEntry_mv _ _ _ _) rfl
  with_reducible exact Moves.refl _ _
  with_reducible refine MovesO.next ?_
  with_reducible refine Moves.step ?_ (finishWrite_mv _ _ _) rfl
  with_reducible exact Moves.refl _ _
  with_reducible refine MovesO.next ?_
  with_reducible exact Moves.refl _ _

theorem moveLine_mv (x0 : State) (x1 : Line) (x2 : Bool) {y : State} (e : moveLine x0 x1 x2 = some y) : Moves 32768 x0 y := by
  unfold moveLine at e
  have h : Moves 32768 x0 (dropLine x0 x1.unit) := (Moves.refl _ _).step (dropLine_mv _ _) rfl
  generalize dropLine x0 x1.unit = d at e h
  dsimp only at e
  split at e
  · exact absurd e (by simp)
  · next t ht =>
    have k : Moves 32768 x0 t := by
      split at ht
      · cases ht
        exact h.step (allocLine_mv _ _ _ (by assumption)) rfl
      · split at ht
        · exact h.step (allocReserve_mv _ _ ht) rfl
        · exact absurd ht (by simp)
    cases hl : lineOf t x1.unit with
    | none => rw [hl] at e; exact absurd e (by simp)
    | some l =>
      rw [hl] at e
      obtain rfl := Option.some.inj e
      exact k.step (putLine_mv _ _) rfl

theorem mergePlace_mv (x0 : State) (x1 : Nat) (x2 : Bool) {y : State} (e : mergePlace x0 x1 x2 = .line y) :
    Moves 32768 x0 y := by
  unfold mergePlace at e
  repeat' split at e
  all_goals first
    | (cases e; done)
    | (obtain rfl := MergeAt.line.inj e
       first
         | exact Moves.refl _ _
         | exact (Moves.refl _ _).step (moveLine_mv _ _ _ (by assumption)) rfl
         | exact (Moves.refl _ _).step (allocLine_mv _ _ _ (by assumption)) rfl
         | exact (Moves.refl _ _).step (allocReserve_mv _ _ (by assumption)) rfl)

theorem makeRoom_mv (x0 : State) (x1 : Nat) : Moves 32768 x0 (makeRoom x0 x1) := by
  unfold makeRoom
  lift_lets
  (intro c1; clear_value c1)
  with_reducible refine Moves.ite ?_ ?_
  with_reducible exact Moves.refl _ _
  split
  with_reducible refine Moves.ite ?_ ?_
  with_reducible refine Moves.step ?_ (wantWb_mv _ _ _) rfl
  with_reducible exact Moves.refl _ _
  with_reducible refine Moves.step ?_ (putLine_mv _ _) rfl
  with_reducible exact Moves.refl _ _
  with_reducible exact Moves.refl _ _

theorem oldBlock_mv (x0 : State) (x1 : Nat) : Moves 2048 x0 (oldBlock x0 x1).2 := by
  unfold oldBlock
  with_reducible refine Moves.ite2 ?_ ?_
  with_reducible exact Moves.refl _ _
  with_reducible refine Moves.step ?_ (readWord_mv _ _) rfl
  with_reducible exact Moves.refl _ _

theorem mergeInEntry_mv (x0 : State) (x1 : Pc) (x2 : QEnt) (x3 : Block) : Moves 151083504 x0 (mergeInEntry x0 x1 x2 x3) := by
  unfold mergeInEntry
  lift_lets
  (intro s1; refine Moves.cut (P := Moves 151083504 x0 s1) ?_ ?_; rotate_left; intro h1; clear_value s1)
  with_reducible refine Moves.step ?_ (drainHost_mv _ _ _) rfl
  with_reducible refine Moves.step ?_ (bump_mv _ _ _) rfl
  assumption
  subst s1
  with_reducible refine Moves.step ?_ (modEntry_mv _ _ _ _) rfl
  with_reducible exact Moves.refl _ _

theorem mergeInLine_mv (x0 : State) (x1 : Pc) (x2 : QEnt) (x3 : Block) : Moves 151116272 x0 (mergeInLine x0 x1 x2 x3) := by
  unfold mergeInLine
  split
  with_reducible exact Moves.refl _ _
  lift_lets
  (intro s3; refine Moves.cut (P := Moves 151116272 x0 s3) ?_ ?_; rotate_left; intro h3; clear_value s3)
  (intro s4; refine Moves.cut (P := Moves 151116272 x0 s4) ?_ ?_; rotate_left; intro h4; clear_value s4)
  with_reducible refine Moves.step ?_ (drainHost_mv _ _ _) rfl
  with_reducible refine Moves.step ?_ (freeEntry_mv _ _ _) rfl
  with_reducible refine Moves.step ?_ (bump_mv _ _ _) rfl
  assumption
  subst s3
  with_reducible refine Moves.step ?_ (lineWrite_mv _ _ _ _ _ _) rfl
  with_reducible exact Moves.refl _ _
  subst s4
  with_reducible refine Moves.step ?_ (afterLineWrite_mv _ _ _) rfl
  with_reducible refine Moves.step ?_ (rowAccess_mv _ _) rfl
  assumption

theorem mergeFails_mv (x0 : State) (x1 : Pc) (x2 : QEnt) (x3 : Nat) : Moves 2320 x0 (mergeFails x0 x1 x2 x3) := by
  unfold mergeFails
  with_reducible refine Moves.step ?_ (freeEntry_mv _ _ _) rfl
  with_reducible refine Moves.step ?_ (drainOrd_mv _ _) rfl
  with_reducible refine Moves.step ?_ (answer_mv _ _ _ _ _) rfl
  with_reducible exact Moves.refl _ _

theorem mergeDo_mv (x0 : State) (x1 : Pc) (x2 : QEnt) : Moves 151116272 x0 (mergeDo x0 x1 x2) := by
  unfold mergeDo
  split
  lift_lets
  (intro s2; refine Moves.cut (P := Moves 151116272 x0 s2) ?_ ?_; rotate_left; intro h2; clear_value s2)
  (intro c3; clear_value c3)
  with_reducible refine Moves.ite ?_ ?_
  with_reducible refine Moves.step ?_ (mergeFails_mv _ _ _ _) rfl
  assumption
  split
  with_reducible refine Moves.step ?_ (mergeInLine_mv _ _ _ _) rfl
  with_reducible refine Moves.step ?_ (mergePlace_mv _ _ _ (by assumption)) rfl
  assumption
  with_reducible refine Moves.step ?_ (mergeInEntry_mv _ _ _ _) rfl
  assumption
  subst s2
  with_reducible refine Moves.step ?_ (afterRead_mv _ _ _ _ _ _) rfl
  with_reducible refine Moves.step ?_ (Moves.snd (by assumption) (oldBlock_mv _ _)) rfl
  with_reducible exact Moves.refl _ _

theorem mergeEntry_mv (x0 : State) (x1 : Pc) (x2 : QEnt) : Moves 536870896 x0 (mergeEntry x0 x1 x2) := by
  unfold mergeEntry
  with_reducible refine Moves.ite ?_ ?_
  with_reducible refine Moves.step ?_ (mergeFails_mv _ _ _ _) rfl
  with_reducible exact Moves.refl _ _
  lift_lets
  (intro c4; clear_value c4)
  (intro s5; refine Moves.cut (P := Moves 536870896 x0 s5) ?_ ?_; rotate_left; intro h5; clear_value s5)
  with_reducible refine Moves.ite ?_ ?_
  with_reducible refine Moves.ite ?_ ?_
  with_reducible exact Moves.refl _ _
  with_reducible refine Moves.step ?_ (capReached_mv _) rfl
  assumption
  with_reducible refine Moves.ite ?_ ?_
  with_reducible refine Moves.step ?_ (makeRoom_mv _ _) rfl
  assumption
  with_reducible refine Moves.step ?_ (mergeDo_mv _ _ _) rfl
  with_reducible exact Moves.refl _ _
  subst s5
  with_reducible refine Moves.step ?_ (modEntry_mv _ _ _ _) rfl
  with_reducible exact Moves.refl _ _

theorem execWrmMerge_mv (x0 : Pc) (x1 : Nat) (x2 : State) : MovesO 536870896 x2 (execWrmMerge x0 x1 x2) := by
  unfold execWrmMerge
  split
  with_reducible refine MovesO.next ?_
  with_reducible exact Moves.refl _ _
  lift_lets
  (intro c4; clear_value c4)
  with_reducible refine MovesO.whenDo ?_ ?_
  with_reducible exact Moves.refl _ _
  with_reducible refine Moves.step ?_ (mergeEntry_mv _ _ _) rfl
  with_reducible refine Moves.step ?_ (lagCount_mv _ _) rfl
  with_reducible exact Moves.refl _ _

theorem wiClear_mv (x0 : State) (x1 : Pc) : Moves 1048576 x0 (wiClear x0 x1) := by
  unfold wiClear
  (with_reducible refine Moves.foldl _ _ ?_ ?_; rotate_left; intro _ _ _)
  split
  with_reducible refine Moves.ite ?_ ?_
  assumption
  with_reducible exact Moves.mk' (m := 1048576) (by assumption) (.inr rfl) (.inr rfl) (.inr rfl) (.inr rfl) (.inr rfl) (.inr rfl) (.inr rfl) (.inr rfl) (.inr rfl) rfl rfl (.inr rfl) (.inr rfl) (.inr rfl) (.inr rfl) (.inr rfl) (.inr rfl) (.inr rfl) (.inl rfl) (.inr rfl) (.inr rfl) (.inr rfl) (.inr rfl) (.inr rfl) (.inr rfl) (.inr rfl) (.inr rfl)
  assumption
  with_reducible exact Moves.refl _ _

theorem wiSet_mv (x0 : State) (x1 : Pc) (x2 : QEnt) : Moves 1048576 x0 (wiSet x0 x1 x2) := by
  unfold wiSet
  lift_lets
  (intro c1; clear_value c1)
  (intro c2; clear_value c2)
  split
  with_reducible exact Moves.refl _ _
  lift_lets
  (intro c6; clear_value c6)
  (intro c7; clear_value c7)
  with_reducible exact Moves.mk' (m := 1048576) (Moves.refl _ _) (.inr rfl) (.inr rfl) (.inr rfl) (.inr rfl) (.inr rfl) (.inr rfl) (.inr rfl) (.inr rfl) (.inr rfl) rfl rfl (.inr rfl) (.inr rfl) (.inr rfl) (.inr rfl) (.inr rfl) (.inr rfl) (.inr rfl) (.inl rfl) (.inr rfl) (.inr rfl) (.inr rfl) (.inr rfl) (.inr rfl) (.inr rfl) (.inr rfl) (.inr rfl)

theorem pick_mv (x0 : State) (x1 : Pc) : Moves 1099792 x0 (pick x0 x1) := by
  unfold pick
  lift_lets
  (intro s1; refine Moves.cut (P := Moves 1099792 x0 s1) ?_ ?_; rotate_left; intro h1; clear_value s1)
  (intro s2; refine Moves.cut (P := Moves 1099792 x0 s2) ?_ ?_; rotate_left; intro h2; clear_value s2)
  (intro s3; refine Moves.cut (P := Moves 1099792 x0 s3) ?_ ?_; rotate_left; intro h3; clear_value s3)
  (intro s4; refine Moves.cut (P := Moves 1099792 x0 s4) ?_ ?_; rotate_left; intro h4; clear_value s4)
  (intro s5; refine Moves.cut (P := Moves 1099792 x0 s5) ?_ ?_; rotate_left; intro h5; clear_value s5)
  split
  assumption
  with_reducible refine Moves.ite ?_ ?_
  with_reducible refine Moves.step ?_ (wiSet_mv _ _ _) rfl
  assumption
  split
  assumption
  with_reducible refine Moves.ite ?_ ?_
  with_reducible refine Moves.step ?_ (wiSet_mv _ _ _) rfl
  assumption
  assumption
  subst s1
  with_reducible refine Moves.step ?_ (wiClear_mv _ _) rfl
  with_reducible exact Moves.refl _ _
  subst s2
  with_reducible refine Moves.step ?_ (schedule_mv _ _) rfl
  assumption
  subst s3
  with_reducible refine Moves.step ?_ (wiClear_mv _ _) rfl
  assumption
  subst s4
  with_reducible refine Moves.step ?_ (wiClear_mv _ _) rfl
  with_reducible refine Moves.step ?_ (State.atLeast_mv _ _) rfl
  assumption
  subst s5
  with_reducible refine Moves.step ?_ (schedule_mv _ _) rfl
  assumption

theorem execSchedulerPick_mv (x0 : Pc) (x1 : State) : MovesO 1099792 x1 (execSchedulerPick x0 x1) := by
  unfold execSchedulerPick
  with_reducible refine MovesO.whenDo ?_ ?_
  with_reducible exact Moves.refl _ _
  with_reducible refine Moves.step ?_ (pick_mv _ _) rfl
  with_reducible exact Moves.refl _ _

theorem makeWay_mv (x0 : State) (x1 : Nat) : Moves 55312 x0 (makeWay x0 x1) := by
  unfold makeWay
  lift_lets
  (intro c1; clear_value c1)
  (intro c2; clear_value c2)
  split
  with_reducible refine Moves.step ?_ (wbLine_mv _ _) rfl
  with_reducible refine Moves.step ?_ (flushLine_mv _ _) rfl
  with_reducible exact Moves.refl _ _
  with_reducible exact Moves.refl _ _

theorem mergeNow_mv (x0 : State) (x1 : Pc) (x2 : QEnt) : Moves 536870896 x0 (mergeNow x0 x1 x2) := by
  unfold mergeNow
  lift_lets
  (intro c1; clear_value c1)
  (intro s2; refine Moves.cut (P := Moves 536870896 x0 s2) ?_ ?_; rotate_left; intro h2; clear_value s2)
  with_reducible refine Moves.ite ?_ ?_
  with_reducible refine Moves.step ?_ (mergeFails_mv _ _ _ _) rfl
  assumption
  with_reducible refine Moves.step ?_ (mergeDo_mv _ _ _) rfl
  assumption
  subst s2
  with_reducible refine Moves.ite ?_ ?_
  with_reducible refine Moves.step ?_ (makeWay_mv _ _) rfl
  with_reducible exact Moves.refl _ _
  with_reducible exact Moves.refl _ _

theorem entryCycle_mv (x0 : State) (x1 : Pc) (x2 : QEnt) : Moves 18448 x0 (entryCycle x0 x1 x2) := by
  unfold entryCycle
  with_reducible refine Moves.ite ?_ ?_
  with_reducible refine Moves.step ?_ (rowCycle_mv _ _ _ _ _ _) rfl
  with_reducible exact Moves.refl _ _
  with_reducible exact Moves.refl _ _

theorem settleEntry_mv (x0 : State) (x1 : Pc) (x2 : QEnt) : Moves 536870896 x0 (settleEntry x0 x1 x2) := by
  unfold settleEntry
  lift_lets
  (intro s1; refine Moves.cut (P := Moves 536870896 x0 s1) ?_ ?_; rotate_left; intro h1; clear_value s1)
  (intro s2; refine Moves.cut (P := Moves 536870896 x0 s2) ?_ ?_; rotate_left; intro h2; clear_value s2)
  split
  with_reducible refine Moves.ite ?_ ?_
  with_reducible refine Moves.step ?_ (scrubRead_mv _ _ _) rfl
  assumption
  with_reducible refine Moves.step ?_ (hostRead_mv _ _ _) rfl
  assumption
  with_reducible refine Moves.step ?_ (finishWrite_mv _ _ _) rfl
  with_reducible refine Moves.ite ?_ ?_
  with_reducible refine Moves.step ?_ (makeWay_mv _ _) rfl
  assumption
  assumption
  split
  with_reducible refine Moves.ite ?_ ?_
  with_reducible refine Moves.step ?_ (freeEntry_mv _ _ _) rfl
  with_reducible refine Moves.step ?_ (commitEntry_mv _ _) rfl
  with_reducible refine Moves.ite ?_ ?_
  assumption
  with_reducible refine Moves.step ?_ (entryCycle_mv _ _ _) rfl
  assumption
  assumption
  assumption
  assumption
  subst s1
  with_reducible refine Moves.step ?_ (entryCycle_mv _ _ _) rfl
  with_reducible exact Moves.refl _ _
  subst s2
  with_reducible refine Moves.ite ?_ ?_
  assumption
  with_reducible refine Moves.step ?_ (mergeNow_mv _ _ _) rfl
  assumption

theorem serveOut_mv (x0 : State) (x1 : Pc) (x2 : QEnt) : Moves 536870896 x0 (serveOut x0 x1 x2) := by
  unfold serveOut
  lift_lets
  (intro s1; refine Moves.cut (P := Moves 536870896 x0 s1) ?_ ?_; rotate_left; intro h1; clear_value s1)
  with_reducible refine Moves.step ?_ (entryCycle_mv _ _ _) rfl
  assumption
  subst s1
  (with_reducible refine Moves.foldl _ _ ?_ ?_; rotate_left; intro _ _ _)
  with_reducible refine Moves.step ?_ (settleEntry_mv _ _ _) rfl
  assumption
  with_reducible exact Moves.refl _ _

theorem serveTo_mv (x0 : Nat) (x1 : State) (x2 : Pc) (x3 : Nat) : Moves 536870896 x1 (serveTo x0 x1 x2 x3) := by
  induction x0 generalizing x1 with
  | zero =>
    unfold serveTo
    split
    · exact Moves.refl _ _
    · exact (Moves.refl _ _).step (serveOut_mv _ _ _) rfl
  | succ k ih =>
    unfold serveTo
    split
    · exact Moves.refl _ _
    · dsimp only
      refine Moves.ite (Moves.refl _ _) ?_
      split
      · exact ((Moves.refl _ _).step (settleEntry_mv _ _ _) rfl).step (ih _) rfl
      · exact Moves.ite (((Moves.refl _ _).step (pick_mv _ _) rfl).step (ih _) rfl) ((Moves.refl _ _).step (serveOut_mv _ _ _) rfl)

theorem intWait_mv (x0 : State) (x1 : Pc) : Moves 536870896 x0 (intWait x0 x1) := by
  unfold intWait
  with_reducible refine Moves.ite ?_ ?_
  with_reducible exact Moves.refl _ _
  split
  with_reducible refine Moves.step ?_ (settleEntry_mv _ _ _) rfl
  with_reducible refine Moves.step ?_ (serveTo_mv _ _ _ _) rfl
  with_reducible exact Moves.refl _ _
  with_reducible exact Moves.refl _ _

theorem ownRequest_mv (x0 : State) (x1 : QEnt) : Moves 536870896 x0 (ownRequest x0 x1).2.2 := by
  unfold ownRequest
  lift_lets
  (intro c1; clear_value c1)
  (intro s2; refine Moves.cut (P := Moves 536870896 x0 s2) ?_ ?_; rotate_left; intro h2; clear_value s2)
  (intro c3; clear_value c3)
  (intro s4; refine Moves.cut (P := Moves 536870896 x0 s4) ?_ ?_; rotate_left; intro h4; clear_value s4)
  (intro s5; refine Moves.cut (P := Moves 536870896 x0 s5) ?_ ?_; rotate_left; intro h5; clear_value s5)
  dsimp -zeta only
  with_reducible refine Moves.step ?_ (serveTo_mv _ _ _ _) rfl
  assumption
  subst s2
  with_reducible refine Moves.step ?_ (turn_mv _ _ _) rfl
  with_reducible refine Moves.step ?_ (intWait_mv _ _) rfl
  with_reducible exact Moves.refl _ _
  subst s4
  with_reducible refine Moves.step ?_ (enqueue_mv _ _ _) rfl
  with_reducible refine Moves.step ?_ (State.tick_mv _) rfl
  assumption
  subst s5
  with_reducible refine Moves.ite ?_ ?_
  with_reducible refine Moves.step ?_ (noteWrite_mv _ _ _) rfl
  assumption
  assumption

theorem writeNow_mv (x0 : State) (x1 : Nat) (x2 : Block) (x3 : DWord) : Moves 536870896 x0 (writeNow x0 x1 x2 x3) := by
  unfold writeNow
  split
  with_reducible refine Moves.step ?_ (commitBlock_mv _ _ _) rfl
  with_reducible refine Moves.step ?_ (freeEntry_mv _ _ _) rfl
  with_reducible refine Moves.ite ?_ ?_
  with_reducible refine Moves.step ?_ (makeWay_mv _ _) rfl
  with_reducible refine Moves.step ?_ (Moves.thd (by assumption) (ownRequest_mv _ _)) rfl
  with_reducible exact Moves.refl _ _
  with_reducible refine Moves.step ?_ (Moves.thd (by assumption) (ownRequest_mv _ _)) rfl
  with_reducible exact Moves.refl _ _

theorem engineRead_mv (x0 : State) (x1 : Nat) : Moves 536870896 x0 (engineRead x0 x1).2.2 := by
  unfold engineRead
  split
  split
  dsimp -zeta only
  with_reducible refine Moves.step ?_ (freeEntry_mv _ _ _) rfl
  with_reducible refine Moves.step ?_ (Moves.snd (by assumption) (readBlock_mv _ _ _)) rfl
  with_reducible refine Moves.step ?_ (Moves.thd (by assumption) (ownRequest_mv _ _)) rfl
  with_reducible exact Moves.refl _ _

theorem readNow_mv (x0 : State) (x1 : Nat) (x2 : Nat) : Moves 536870896 x0 (readNow x0 x1 x2).2.2 := by
  unfold readNow
  with_reducible refine Moves.ite3 ?_ ?_
  with_reducible exact Moves.refl _ _
  split
  dsimp -zeta only
  with_reducible refine Moves.step ?_ (afterRead_mv _ _ _ _ _ _) rfl
  with_reducible refine Moves.step ?_ (Moves.thd (by assumption) (engineRead_mv _ _)) rfl
  with_reducible exact Moves.refl _ _

end Sys2Proof.Machine
end

