-- ==== Sys2Proof/Laws/FrameEpochs.lean ====
section
/-! SUPPORT. What each operation of Machine/Epochs.lean may change, one lemma an operation (`<name>_mv`): the components its
mask names, and nothing else of the state. -/

namespace Sys2Proof.Machine

theorem engineWriteAs_mv (x0 : State) (x1 : Nat) (x2 : Block) (x3 : Bool) (x4 : Option (Option Nat)) (x5 : Bool) : Moves 536870896 x0 (engineWriteAs x0 x1 x2 x3 x4 x5).2 := by
  unfold engineWriteAs
  lift_lets
  (intro s1; refine Moves.cut (P := Moves 536870896 x0 s1) ?_ ?_; rotate_left; intro h1; clear_value s1)
  (intro s2; refine Moves.cut (P := Moves 536870896 x0 s2) ?_ ?_; rotate_left; intro h2; clear_value s2)
  (intro s3; refine Moves.cut (P := Moves 536870896 x0 s3) ?_ ?_; rotate_left; intro h3; clear_value s3)
  (intro s4; refine Moves.cut (P := Moves 536870896 x0 s4) ?_ ?_; rotate_left; intro h4; clear_value s4)
  with_reducible refine Moves.ite2 ?_ ?_
  with_reducible refine Moves.step ?_ (mirrorWrite_mv _ _ _ _) rfl
  assumption
  with_reducible assumption
  subst s1
  with_reducible refine Moves.step ?_ (freshClaim_mv _ _) rfl
  with_reducible exact Moves.refl _ _
  subst s2
  with_reducible refine Moves.step ?_ (writeNow_mv _ _ _ _) rfl
  assumption
  subst s3
  with_reducible refine Moves.ite ?_ ?_
  with_reducible refine Moves.step ?_ (poisonList_mv _ _ _) rfl
  assumption
  with_reducible refine Moves.step ?_ (poisonClear_mv _ _) rfl
  assumption
  subst s4
  split
  with_reducible refine Moves.step ?_ (tagWrite_mv _ _ _) rfl
  assumption
  assumption

theorem engineWrite_mv (x0 : State) (x1 : Nat) (x2 : Block) (x3 : Bool) (x4 : Bool) (x5 : Bool) : Moves 536870896 x0 (engineWrite x0 x1 x2 x3 x4 x5) := by
  unfold engineWrite
  with_reducible refine Moves.step ?_ (engineWriteAs_mv _ _ _ _ _ _) rfl
  with_reducible exact Moves.refl _ _

theorem exportBits_mv (x0 : State) (x1 : Nat) (x2 : Nat) : Moves 536870896 x0 (exportBits x0 x1 x2) := by
  unfold exportBits
  (with_reducible refine Moves.foldl _ _ ?_ ?_; rotate_left; intro _ _ _)
  lift_lets
  (intro c2; clear_value c2)
  with_reducible refine Moves.ite ?_ ?_
  with_reducible refine Moves.step ?_ (engineWrite_mv _ _ _ _ _ _) rfl
  assumption
  assumption
  with_reducible exact Moves.refl _ _

theorem clearThrough_mv (x0 : State) (x1 : Nat) (x2 : Nat) (x3 : Nat) : Moves 65536 x0 (clearThrough x0 x1 x2 x3) := by
  unfold clearThrough
  lift_lets
  (intro c1; clear_value c1)
  (intro c2; clear_value c2)
  with_reducible exact Moves.mk' (m := 65536) (Moves.refl _ _) (.inr rfl) (.inr rfl) (.inr rfl) (.inr rfl) (.inr rfl) (.inr rfl) (.inr rfl) (.inr rfl) (.inr rfl) rfl rfl (.inr rfl) (.inr rfl) (.inr rfl) (.inl rfl) (.inr rfl) (.inr rfl) (.inr rfl) (.inr rfl) (.inr rfl) (.inr rfl) (.inr rfl) (.inr rfl) (.inr rfl) (.inr rfl) (.inr rfl) (.inr rfl)

theorem csrSetPair_mv (x0 : State) (x1 : Nat) (x2 : Nat) : Moves 16 x0 (csrSetPair x0 x1 x2) := by
  unfold csrSetPair
  with_reducible refine Moves.step ?_ (csrSet_mv _ _ _) rfl
  with_reducible refine Moves.step ?_ (csrSet_mv _ _ _) rfl
  with_reducible exact Moves.refl _ _

theorem runAction_mv (x0 : State) (x1 : Deferred) (x2 : Bool) : Moves 536870896 x0 (runAction x0 x1 x2) := by
  unfold runAction
  lift_lets
  (intro c1; clear_value c1)
  (intro s2; refine Moves.cut (P := Moves 536870896 x0 s2) ?_ ?_; rotate_left; intro h2; clear_value s2)
  with_reducible refine Moves.step ?_ (raiseX_mv _ _ _ _ _ _ _ _ _) rfl
  assumption
  subst s2
  split
  with_reducible refine Moves.step ?_ (journal_mv _ _ _ _) rfl
  with_reducible exact Moves.refl _ _
  with_reducible refine Moves.step ?_ (formBarriers_mv _ _) rfl
  with_reducible exact Moves.refl _ _
  with_reducible refine Moves.step ?_ (exportBits_mv _ _ _) rfl
  with_reducible exact Moves.refl _ _
  with_reducible refine Moves.step ?_ (hwFld_mv _ _ _ _ _) rfl
  with_reducible exact Moves.refl _ _
  with_reducible refine Moves.step ?_ (hwFld_mv _ _ _ _ _) rfl
  with_reducible exact Moves.refl _ _
  with_reducible exact Moves.refl _ _

theorem fire_mv (x0 : State) (x1 : Fin 16) (x2 : Nat) : Moves 536870896 x0 (fire x0 x1 x2) := by
  unfold fire
  lift_lets
  (intro c1; clear_value c1)
  (intro c2; clear_value c2)
  (intro c3; clear_value c3)
  (intro s4; refine Moves.cut (P := Moves 536870896 x0 s4) ?_ ?_; rotate_left; intro h4; clear_value s4)
  (intro c5; clear_value c5)
  (intro s6; refine Moves.cut (P := Moves 536870896 x0 s6) ?_ ?_; rotate_left; intro h6; clear_value s6)
  (intro c7; clear_value c7)
  (intro c8; clear_value c8)
  with_reducible refine Moves.ite ?_ ?_
  with_reducible refine Moves.step ?_ (raise_mv _ _ _ _ _ _) rfl
  assumption
  with_reducible refine Moves.ite ?_ ?_
  with_reducible refine Moves.step ?_ (runAction_mv _ _ _) rfl
  assumption
  with_reducible exact Moves.mk' (m := 536870896) (by assumption) (.inl rfl) (.inl rfl) (.inl rfl) (.inl rfl) (.inl rfl) (.inl rfl) (.inl rfl) (.inl rfl) (.inl rfl) (by rfl) (by rfl) (.inl rfl) (.inl rfl) (.inl rfl) (.inl rfl) (.inl rfl) (.inl rfl) (.inl rfl) (.inl rfl) (.inl rfl) (.inl rfl) (.inl rfl) (.inl rfl) (.inl rfl) (.inl rfl) (.inl rfl) (.inl rfl)
  subst s4
  with_reducible refine Moves.step ?_ (hwFld_mv _ _ _ _ _) rfl
  with_reducible exact Moves.refl _ _
  subst s6
  with_reducible exact Moves.mk' (m := 536870896) (by assumption) (.inl rfl) (.inl rfl) (.inl rfl) (.inl rfl) (.inl rfl) (.inl rfl) (.inl rfl) (.inl rfl) (.inl rfl) (by rfl) (by rfl) (.inl rfl) (.inl rfl) (.inl rfl) (.inl rfl) (.inl rfl) (.inl rfl) (.inl rfl) (.inl rfl) (.inl rfl) (.inl rfl) (.inl rfl) (.inl rfl) (.inl rfl) (.inl rfl) (.inl rfl) (.inl rfl)

theorem armedStale_mv (x0 : State) (x1 : Fin 16) (x2 : Nat) : Moves 66032 x0 (armedStale x0 x1 x2) := by
  unfold armedStale
  lift_lets
  (intro s1; refine Moves.cut (P := Moves 66032 x0 s1) ?_ ?_; rotate_left; intro h1; clear_value s1)
  (intro c2; clear_value c2)
  with_reducible refine Moves.step ?_ (raise_mv _ _ _ _ _ _) rfl
  with_reducible exact Moves.mk' (m := 66032) (by assumption) (.inl rfl) (.inl rfl) (.inl rfl) (.inl rfl) (.inl rfl) (.inr rfl) (.inr rfl) (.inr rfl) (.inr rfl) rfl rfl (.inr rfl) (.inr rfl) (.inr rfl) (.inl rfl) (.inr rfl) (.inr rfl) (.inr rfl) (.inr rfl) (.inr rfl) (.inr rfl) (.inr rfl) (.inr rfl) (.inr rfl) (.inr rfl) (.inr rfl) (.inr rfl)
  subst s1
  with_reducible refine Moves.step ?_ (hwFld_mv _ _ _ _ _) rfl
  with_reducible exact Moves.refl _ _

theorem fireAll_mv (x0 : State) (x1 : Bool) (x2 : Nat) : Moves 536870896 x0 (fireAll x0 x1 x2) := by
  unfold fireAll
  (with_reducible refine Moves.foldl _ _ ?_ ?_; rotate_left; intro _ _ _)
  lift_lets
  (intro c2; clear_value c2)
  with_reducible refine Moves.ite ?_ ?_
  with_reducible refine Moves.ite ?_ ?_
  with_reducible refine Moves.step ?_ (armedStale_mv _ _ _) rfl
  assumption
  with_reducible refine Moves.step ?_ (fire_mv _ _ _) rfl
  assumption
  assumption
  with_reducible exact Moves.refl _ _

theorem execDeferredTriggerAction_mv (x0 : State) : MovesO 536870896 x0 (execDeferredTriggerAction x0) := by
  unfold execDeferredTriggerAction
  split
  with_reducible refine MovesO.next ?_
  with_reducible exact Moves.refl _ _
  with_reducible refine MovesO.whenDo ?_ ?_
  with_reducible exact Moves.refl _ _
  with_reducible refine Moves.step ?_ (runAction_mv _ _ _) rfl
  with_reducible exact Moves.mk' (m := 536870896) (Moves.refl _ _) (.inl rfl) (.inl rfl) (.inl rfl) (.inl rfl) (.inl rfl) (.inl rfl) (.inl rfl) (.inl rfl) (.inl rfl) (by rfl) (by rfl) (.inl rfl) (.inl rfl) (.inl rfl) (.inl rfl) (.inl rfl) (.inl rfl) (.inl rfl) (.inl rfl) (.inl rfl) (.inl rfl) (.inl rfl) (.inl rfl) (.inl rfl) (.inl rfl) (.inl rfl) (.inl rfl)

theorem openEpoch_mv (x0 : State) (x1 : Nat) : Moves 16842752 x0 (openEpoch x0 x1) := by
  unfold openEpoch
  lift_lets
  (intro c1; clear_value c1)
  (intro c2; clear_value c2)
  with_reducible refine Moves.step ?_ (fwdMark_mv _ _) rfl
  with_reducible exact Moves.mk' (m := 16842752) (Moves.refl _ _) (.inr rfl) (.inr rfl) (.inr rfl) (.inr rfl) (.inr rfl) (.inr rfl) (.inr rfl) (.inr rfl) (.inr rfl) rfl rfl (.inr rfl) (.inr rfl) (.inr rfl) (.inl rfl) (.inr rfl) (.inr rfl) (.inr rfl) (.inr rfl) (.inr rfl) (.inr rfl) (.inr rfl) (.inl rfl) (.inr rfl) (.inr rfl) (.inr rfl) (.inr rfl)

theorem closeEpoch_mv (x0 : State) : Moves 536870896 x0 (closeEpoch x0) := by
  unfold closeEpoch
  lift_lets
  (intro c1; clear_value c1)
  (intro c2; clear_value c2)
  (intro s3; refine Moves.cut (P := Moves 536870896 x0 s3) ?_ ?_; rotate_left; intro h3; clear_value s3)
  (intro s4; refine Moves.cut (P := Moves 536870896 x0 s4) ?_ ?_; rotate_left; intro h4; clear_value s4)
  with_reducible refine Moves.step ?_ (fireAll_mv _ _ _) rfl
  assumption
  subst s3
  with_reducible exact Moves.mk' (m := 536870896) (Moves.refl _ _) (.inl rfl) (.inl rfl) (.inl rfl) (.inl rfl) (.inl rfl) (.inl rfl) (.inl rfl) (.inl rfl) (.inl rfl) (by rfl) (by rfl) (.inl rfl) (.inl rfl) (.inl rfl) (.inl rfl) (.inl rfl) (.inl rfl) (.inl rfl) (.inl rfl) (.inl rfl) (.inl rfl) (.inl rfl) (.inl rfl) (.inl rfl) (.inl rfl) (.inl rfl) (.inl rfl)
  subst s4
  with_reducible refine Moves.step ?_ (raiseLim_mv _ _ _ _ _ _ _ _ _ _) rfl
  assumption

theorem execEpochClose_mv (x0 : State) : MovesO 536870896 x0 (execEpochClose x0) := by
  unfold execEpochClose
  with_reducible refine MovesO.whenDo ?_ ?_
  with_reducible exact Moves.refl _ _
  with_reducible refine Moves.step ?_ (closeEpoch_mv _) rfl
  with_reducible exact Moves.refl _ _

theorem passBoundary_mv (x0 : State) (x1 : Member) (x2 : Nat) : Moves 536870896 x0 (passBoundary x0 x1 x2) := by
  unfold passBoundary
  lift_lets
  (intro c1; clear_value c1)
  (intro s2; refine Moves.cut (P := Moves 536870896 x0 s2) ?_ ?_; rotate_left; intro h2; clear_value s2)
  (intro c3; clear_value c3)
  (intro s4; refine Moves.cut (P := Moves 536870896 x0 s4) ?_ ?_; rotate_left; intro h4; clear_value s4)
  (intro c5; clear_value c5)
  (intro s6; refine Moves.cut (P := Moves 536870896 x0 s6) ?_ ?_; rotate_left; intro h6; clear_value s6)
  (intro s7; refine Moves.cut (P := Moves 536870896 x0 s7) ?_ ?_; rotate_left; intro h7; clear_value s7)
  with_reducible refine Moves.ite ?_ ?_
  with_reducible refine Moves.step ?_ (fireAll_mv _ _ _) rfl
  assumption
  assumption
  subst s2
  with_reducible refine Moves.step ?_ (journal_mv _ _ _ _) rfl
  with_reducible exact Moves.refl _ _
  subst s4
  with_reducible refine Moves.ite ?_ ?_
  with_reducible refine Moves.step ?_ (openEpoch_mv _ _) rfl
  assumption
  assumption
  subst s6
  with_reducible exact Moves.mk' (m := 536870896) (by assumption) (.inl rfl) (.inl rfl) (.inl rfl) (.inl rfl) (.inl rfl) (.inl rfl) (.inl rfl) (.inl rfl) (.inl rfl) (by rfl) (by rfl) (.inl rfl) (.inl rfl) (.inl rfl) (.inl rfl) (.inl rfl) (.inl rfl) (.inl rfl) (.inl rfl) (.inl rfl) (.inl rfl) (.inl rfl) (.inl rfl) (.inl rfl) (.inl rfl) (.inl rfl) (.inl rfl)
  subst s7
  with_reducible refine Moves.ite ?_ ?_
  with_reducible refine Moves.step ?_ (closeEpoch_mv _) rfl
  assumption
  assumption

theorem stallEvent_mv (x0 : State) (x1 : Nat) (x2 : Nat) : Moves 496 x0 (stallEvent x0 x1 x2) := by
  unfold stallEvent
  lift_lets
  (intro s1; refine Moves.cut (P := Moves 496 x0 s1) ?_ ?_; rotate_left; intro h1; clear_value s1)
  with_reducible refine Moves.step ?_ (raise_mv _ _ _ _ _ _) rfl
  assumption
  subst s1
  with_reducible refine Moves.step ?_ (State.atLeast_mv _ _) rfl
  with_reducible exact Moves.refl _ _

theorem execEpochStall_mv (x0 : Member) (x1 : State) : MovesO 66032 x1 (execEpochStall x0 x1) := by
  unfold execEpochStall
  split
  · dsimp only
    split
    · refine MovesO.ite (Moves.refl _ _) ?_
      exact ((Moves.refl _ _).step (State.modPort_mv _ _ _) rfl).step (stallEvent_mv _ _ _) rfl
    · exact Moves.refl _ _
  · split
    · split
      · refine MovesO.whenDo (Moves.refl _ _) ?_
        exact (Moves.mk' (m := 66032) (Moves.refl _ _) (.inl rfl) (.inl rfl) (.inl rfl) (.inl rfl) (.inl rfl) (.inr rfl) (.inr rfl) (.inr rfl) (.inr rfl) rfl rfl (.inr rfl) (.inr rfl) (.inr rfl) (.inl rfl) (.inr rfl) (.inr rfl) (.inr rfl) (.inr rfl) (.inr rfl) (.inr rfl) (.inr rfl) (.inr rfl) (.inr rfl) (.inr rfl) (.inr rfl) (.inr rfl)).step (stallEvent_mv _ _ _) rfl
      · exact Moves.refl _ _
    · split
      · refine MovesO.whenDo (Moves.refl _ _) ?_
        exact (Moves.mk' (m := 66032) (Moves.refl _ _) (.inl rfl) (.inl rfl) (.inl rfl) (.inl rfl) (.inl rfl) (.inr rfl) (.inr rfl) (.inr rfl) (.inr rfl) rfl rfl (.inr rfl) (.inr rfl) (.inr rfl) (.inl rfl) (.inr rfl) (.inr rfl) (.inr rfl) (.inr rfl) (.inr rfl) (.inr rfl) (.inr rfl) (.inr rfl) (.inr rfl) (.inr rfl) (.inr rfl) (.inr rfl)).step (stallEvent_mv _ _ _) rfl
      · exact Moves.refl _ _

theorem applySet_mv (x0 : State) (x1 : BitVec 18) : Moves 65536 x0 (applySet x0 x1) := by
  unfold applySet
  lift_lets
  (intro c1; clear_value c1)
  (intro c2; clear_value c2)
  (intro c3; clear_value c3)
  with_reducible exact Moves.mk' (m := 65536) (Moves.refl _ _) (.inr rfl) (.inr rfl) (.inr rfl) (.inr rfl) (.inr rfl) (.inr rfl) (.inr rfl) (.inr rfl) (.inr rfl) rfl rfl (.inr rfl) (.inr rfl) (.inr rfl) (.inl rfl) (.inr rfl) (.inr rfl) (.inr rfl) (.inr rfl) (.inr rfl) (.inr rfl) (.inr rfl) (.inr rfl) (.inr rfl) (.inr rfl) (.inr rfl) (.inr rfl)

theorem execPortsetApply_mv (x0 : State) : MovesO 65536 x0 (execPortsetApply x0) := by
  unfold execPortsetApply
  split
  with_reducible refine MovesO.next ?_
  with_reducible exact Moves.refl _ _
  with_reducible refine MovesO.whenDo ?_ ?_
  with_reducible exact Moves.refl _ _
  with_reducible refine Moves.step ?_ (applySet_mv _ _) rfl
  with_reducible exact Moves.refl _ _

theorem writePortset_mv (x0 : State) (x1 : Nat) : Moves 65536 x0 (writePortset x0 x1) := by
  unfold writePortset
  lift_lets
  (intro c1; clear_value c1)
  (intro c2; clear_value c2)
  with_reducible refine Moves.ite ?_ ?_
  with_reducible refine Moves.step ?_ (applySet_mv _ _) rfl
  with_reducible exact Moves.refl _ _
  with_reducible exact Moves.mk' (m := 65536) (Moves.refl _ _) (.inr rfl) (.inr rfl) (.inr rfl) (.inr rfl) (.inr rfl) (.inr rfl) (.inr rfl) (.inr rfl) (.inr rfl) rfl rfl (.inr rfl) (.inr rfl) (.inr rfl) (.inl rfl) (.inr rfl) (.inr rfl) (.inr rfl) (.inr rfl) (.inr rfl) (.inr rfl) (.inr rfl) (.inr rfl) (.inr rfl) (.inr rfl) (.inr rfl) (.inr rfl)

theorem writeInit_mv (x0 : State) (x1 : Nat) : Moves 65536 x0 (writeInit x0 x1) := by
  unfold writeInit
  with_reducible refine Moves.ite ?_ ?_
  with_reducible exact Moves.refl _ _
  lift_lets
  (intro c3; clear_value c3)
  (intro c4; clear_value c4)
  with_reducible exact Moves.mk' (m := 65536) (Moves.refl _ _) (.inr rfl) (.inr rfl) (.inr rfl) (.inr rfl) (.inr rfl) (.inr rfl) (.inr rfl) (.inr rfl) (.inr rfl) rfl rfl (.inr rfl) (.inr rfl) (.inr rfl) (.inl rfl) (.inr rfl) (.inr rfl) (.inr rfl) (.inr rfl) (.inr rfl) (.inr rfl) (.inr rfl) (.inr rfl) (.inr rfl) (.inr rfl) (.inr rfl) (.inr rfl)

theorem tidemarkCfg_mv (x0 : State) (x1 : Nat) (x2 : Nat) : Moves 496 x0 (tidemarkCfg x0 x1 x2) := by
  unfold tidemarkCfg
  with_reducible refine Moves.step ?_ (raise_mv _ _ _ _ _ _) rfl
  with_reducible exact Moves.refl _ _

theorem writeTrig_mv (x0 : State) (x1 : Fin 16) (x2 : Nat) : Moves 66032 x0 (writeTrig x0 x1 x2) := by
  unfold writeTrig
  lift_lets
  (intro c1; clear_value c1)
  (intro c2; clear_value c2)
  (intro s3; refine Moves.cut (P := Moves 66032 x0 s3) ?_ ?_; rotate_left; intro h3; clear_value s3)
  (intro c4; clear_value c4)
  (intro c5; clear_value c5)
  (intro c6; clear_value c6)
  (intro c7; clear_value c7)
  (intro c8; clear_value c8)
  (intro c9; clear_value c9)
  (intro c10; clear_value c10)
  (intro s11; refine Moves.cut (P := Moves 66032 x0 s11) ?_ ?_; rotate_left; intro h11; clear_value s11)
  with_reducible refine Moves.ite ?_ ?_
  with_reducible refine Moves.ite ?_ ?_
  with_reducible exact Moves.refl _ _
  with_reducible refine Moves.step ?_ (csrSet_mv _ _ _) rfl
  with_reducible exact Moves.refl _ _
  with_reducible refine Moves.ite ?_ ?_
  assumption
  with_reducible refine Moves.ite ?_ ?_
  with_reducible refine Moves.step ?_ (tidemarkCfg_mv _ _ _) rfl
  assumption
  with_reducible refine Moves.ite ?_ ?_
  with_reducible refine Moves.step ?_ (raise_mv _ _ _ _ _ _) rfl
  with_reducible exact Moves.mk' (m := 66032) (by assumption) (.inl rfl) (.inl rfl) (.inl rfl) (.inl rfl) (.inl rfl) (.inr rfl) (.inr rfl) (.inr rfl) (.inr rfl) rfl rfl (.inr rfl) (.inr rfl) (.inr rfl) (.inl rfl) (.inr rfl) (.inr rfl) (.inr rfl) (.inr rfl) (.inr rfl) (.inr rfl) (.inr rfl) (.inr rfl) (.inr rfl) (.inr rfl) (.inr rfl) (.inr rfl)
  with_reducible refine Moves.step ?_ (csrSet_mv _ _ _) rfl
  assumption
  subst s3
  with_reducible refine Moves.step ?_ (csrSet_mv _ _ _) rfl
  with_reducible exact Moves.refl _ _
  subst s11
  with_reducible exact Moves.mk' (m := 66032) (by assumption) (.inl rfl) (.inl rfl) (.inl rfl) (.inl rfl) (.inl rfl) (.inr rfl) (.inr rfl) (.inr rfl) (.inr rfl) rfl rfl (.inr rfl) (.inr rfl) (.inr rfl) (.inl rfl) (.inr rfl) (.inr rfl) (.inr rfl) (.inr rfl) (.inr rfl) (.inr rfl) (.inr rfl) (.inr rfl) (.inr rfl) (.inr rfl) (.inr rfl) (.inr rfl)

end Sys2Proof.Machine
end

