-- ==== Sys2Proof/Laws/FrameWidePort.lean ====
section
/-! SUPPORT. What each operation of Machine/WidePort.lean may change, one lemma an operation (`<name>_mv`): the components its
mask names, and nothing else of the state. -/

namespace Sys2Proof.Machine

theorem dropReq_mv (x0 : State) (x1 : Port) (x2 : ReqKind) (x3 : Slot) (x4 : Bool) : Moves 272 x0 (dropReq x0 x1 x2 x3 x4) := by
  unfold dropReq
  lift_lets
  (intro c1; clear_value c1)
  (intro s2; refine Moves.cut (P := Moves 272 x0 s2) ?_ ?_; rotate_left; intro h2; clear_value s2)
  with_reducible refine Moves.step ?_ (respond_mv _ _ _) rfl
  assumption
  subst s2
  with_reducible refine Moves.step ?_ (State.modPort_mv _ _ _) rfl
  with_reducible exact Moves.refl _ _

theorem cappedArrives_mv (x0 : State) (x1 : Port) (x2 : Pc) (x3 : Nat) (x4 : Nat) : Moves 18928 x0 (cappedArrives x0 x1 x2 x3 x4) := by
  unfold cappedArrives
  lift_lets
  (intro c1; clear_value c1)
  with_reducible refine Moves.ite ?_ ?_
  with_reducible refine Moves.step ?_ (lapse_mv _ _ _ _ _ _) rfl
  with_reducible refine Moves.step ?_ (thrSet_mv _ _ _) rfl
  with_reducible exact Moves.refl _ _
  with_reducible exact Moves.refl _ _

theorem urgentArrives_mv (x0 : State) (x1 : Port) (x2 : ReqKind) (x3 : Slot) (x4 : Nat) : Moves 18928 x0 (urgentArrives x0 x1 x2 x3 x4) := by
  unfold urgentArrives
  lift_lets
  (intro c1; clear_value c1)
  (intro c2; clear_value c2)
  (intro s3; refine Moves.cut (P := Moves 18928 x0 s3) ?_ ?_; rotate_left; intro h3; clear_value s3)
  (intro s4; refine Moves.cut (P := Moves 18928 x0 s4) ?_ ?_; rotate_left; intro h4; clear_value s4)
  (intro s5; refine Moves.cut (P := Moves 18928 x0 s5) ?_ ?_; rotate_left; intro h5; clear_value s5)
  with_reducible refine Moves.step ?_ (cappedArrives_mv _ _ _ _ _) rfl
  assumption
  subst s3
  with_reducible refine Moves.step ?_ (State.modPc_mv _ _ _) rfl
  with_reducible exact Moves.refl _ _
  subst s4
  with_reducible refine Moves.step ?_ (countUrgent_mv _ _ _ _ _ _ _ _) rfl
  assumption
  subst s5
  with_reducible refine Moves.ite ?_ ?_
  with_reducible refine Moves.step ?_ (lapse_mv _ _ _ _ _ _) rfl
  assumption
  assumption

theorem raiseReq_mv (x0 : State) (x1 : Port) (x2 : StReq) : Moves 2544 x0 (raiseReq x0 x1 x2) := by
  unfold raiseReq
  with_reducible refine Moves.ite ?_ ?_
  with_reducible exact Moves.refl _ _
  lift_lets
  (intro s3; refine Moves.cut (P := Moves 2544 x0 s3) ?_ ?_; rotate_left; intro h3; clear_value s3)
  (intro c4; clear_value c4)
  with_reducible refine Moves.step ?_ (countUrgent_mv _ _ _ _ _ _ _ _) rfl
  assumption
  subst s3
  with_reducible refine Moves.step ?_ (State.modPort_mv _ _ _) rfl
  with_reducible exact Moves.refl _ _

theorem stageReq_mv (x0 : State) (x1 : Port) (x2 : ReqKind) (x3 : Slot) (x4 : List Block) : Moves 18928 x0 (stageReq x0 x1 x2 x3 x4) := by
  unfold stageReq
  lift_lets
  (intro c1; clear_value c1)
  (intro c2; clear_value c2)
  (intro c3; clear_value c3)
  (intro s4; refine Moves.cut (P := Moves 18928 x0 s4) ?_ ?_; rotate_left; intro h4; clear_value s4)
  with_reducible refine Moves.ite ?_ ?_
  with_reducible refine Moves.step ?_ (urgentArrives_mv _ _ _ _ _) rfl
  (with_reducible refine Moves.foldl _ _ ?_ ?_; rotate_left; intro _ _ _)
  with_reducible refine Moves.step ?_ (raiseReq_mv _ _ _) rfl
  assumption
  assumption
  subst s4
  with_reducible refine Moves.step ?_ (State.modPort_mv _ _ _) rfl
  with_reducible refine Moves.step ?_ (State.tick_mv _) rfl
  with_reducible exact Moves.refl _ _
  assumption

theorem arrive_mv (x0 : State) (x1 : Port) (x2 : ReqKind) (x3 : Slot) (x4 : List Block) : Moves 18928 x0 (arrive x0 x1 x2 x3 x4) := by
  unfold arrive
  lift_lets
  (intro c1; clear_value c1)
  (intro c2; clear_value c2)
  with_reducible refine Moves.ite ?_ ?_
  with_reducible refine Moves.step ?_ (protoEvent_mv _ _ _ _) rfl
  with_reducible refine Moves.step ?_ (dropReq_mv _ _ _ _ _) rfl
  with_reducible exact Moves.refl _ _
  with_reducible refine Moves.ite ?_ ?_
  with_reducible refine Moves.step ?_ (protoEvent_mv _ _ _ _) rfl
  with_reducible refine Moves.step ?_ (dropReq_mv _ _ _ _ _) rfl
  with_reducible exact Moves.refl _ _
  with_reducible refine Moves.ite ?_ ?_
  with_reducible refine Moves.step ?_ (protoEvent_mv _ _ _ _) rfl
  with_reducible refine Moves.step ?_ (dropReq_mv _ _ _ _ _) rfl
  with_reducible exact Moves.refl _ _
  with_reducible refine Moves.step ?_ (stageReq_mv _ _ _ _ _) rfl
  with_reducible exact Moves.refl _ _

theorem execRd_mv (x0 : Port) (x1 : Slot) (x2 : State) : MovesO 18928 x2 (execRd x0 x1 x2) := by
  unfold execRd
  with_reducible refine MovesO.whenDo ?_ ?_
  with_reducible exact Moves.refl _ _
  with_reducible refine Moves.step ?_ (arrive_mv _ _ _ _ _) rfl
  with_reducible exact Moves.refl _ _

theorem execWr_mv (x0 : Port) (x1 : Slot) (x2 : List Block) (x3 : State) : MovesO 18928 x3 (execWr x0 x1 x2 x3) := by
  unfold execWr
  with_reducible refine MovesO.whenDo ?_ ?_
  with_reducible exact Moves.refl _ _
  with_reducible refine Moves.step ?_ (arrive_mv _ _ _ _ _) rfl
  with_reducible exact Moves.refl _ _

theorem execWrm_mv (x0 : Port) (x1 : Slot) (x2 : List Block) (x3 : State) : MovesO 18928 x3 (execWrm x0 x1 x2 x3) := by
  unfold execWrm
  with_reducible refine MovesO.whenDo ?_ ?_
  with_reducible exact Moves.refl _ _
  with_reducible refine Moves.step ?_ (arrive_mv _ _ _ _ _) rfl
  with_reducible exact Moves.refl _ _

theorem execCfgRd_mv (x0 : Port) (x1 : Slot) (x2 : State) : MovesO 18928 x2 (execCfgRd x0 x1 x2) := by
  unfold execCfgRd
  with_reducible refine MovesO.whenDo ?_ ?_
  with_reducible exact Moves.refl _ _
  with_reducible refine Moves.step ?_ (arrive_mv _ _ _ _ _) rfl
  with_reducible exact Moves.refl _ _

theorem execCfgWr_mv (x0 : Port) (x1 : Slot) (x2 : State) : MovesO 18928 x2 (execCfgWr x0 x1 x2) := by
  unfold execCfgWr
  with_reducible refine MovesO.whenDo ?_ ?_
  with_reducible exact Moves.refl _ _
  with_reducible refine Moves.step ?_ (arrive_mv _ _ _ _ _) rfl
  with_reducible exact Moves.refl _ _

theorem execMark_mv (x0 : Port) (x1 : Slot) (x2 : State) : MovesO 18928 x2 (execMark x0 x1 x2) := by
  unfold execMark
  with_reducible refine MovesO.whenDo ?_ ?_
  with_reducible exact Moves.refl _ _
  with_reducible refine Moves.step ?_ (arrive_mv _ _ _ _ _) rfl
  with_reducible exact Moves.refl _ _

theorem execFence_mv (x0 : Port) (x1 : Slot) (x2 : State) : MovesO 18928 x2 (execFence x0 x1 x2) := by
  unfold execFence
  with_reducible refine MovesO.whenDo ?_ ?_
  with_reducible exact Moves.refl _ _
  with_reducible refine Moves.step ?_ (arrive_mv _ _ _ _ _) rfl
  with_reducible exact Moves.refl _ _

theorem linkSlot_mv (x0 : State) (x1 : Port) (x2 : Slot) (x3 : Bool) : Moves 768 x0 (linkSlot x0 x1 x2 x3) := by
  unfold linkSlot
  lift_lets
  (intro s1; refine Moves.cut (P := Moves 768 x0 s1) ?_ ?_; rotate_left; intro h1; clear_value s1)
  with_reducible refine Moves.ite ?_ ?_
  with_reducible refine Moves.step ?_ (State.modLink_mv _ _ _) rfl
  assumption
  assumption
  subst s1
  with_reducible refine Moves.step ?_ (State.modPort_mv _ _ _) rfl
  with_reducible exact Moves.refl _ _

theorem execUnlistedOpcode_mv (x0 : Port) (x1 : Slot) (x2 : State) : MovesO 496 x2 (execUnlistedOpcode x0 x1 x2) := by
  unfold execUnlistedOpcode
  with_reducible refine MovesO.whenDo ?_ ?_
  with_reducible exact Moves.refl _ _
  with_reducible refine Moves.step ?_ (protoEvent_mv _ _ _ _) rfl
  with_reducible exact Moves.refl _ _

theorem sendFlits_mv (x0 : State) (x1 : Port) (x2 : List Block) : Moves 768 x0 (sendFlits x0 x1 x2) := by
  unfold sendFlits
  lift_lets
  (intro c1; clear_value c1)
  (intro s2; refine Moves.cut (P := Moves 768 x0 s2) ?_ ?_; rotate_left; intro h2; clear_value s2)
  with_reducible refine Moves.step ?_ (State.modLink_mv _ _ _) rfl
  assumption
  subst s2
  with_reducible refine Moves.step ?_ (State.modPort_mv _ _ _) rfl
  with_reducible exact Moves.refl _ _

theorem sendZero_mv (x0 : State) (x1 : Port) : Moves 512 x0 (sendZero x0 x1) := by
  unfold sendZero
  with_reducible refine Moves.step ?_ (State.modLink_mv _ _ _) rfl
  with_reducible exact Moves.refl _ _

theorem latencyMax_mv (x0 : State) (x1 : Nat) (x2 : Nat) (x3 : Nat) : Moves 16 x0 (latencyMax x0 x1 x2 x3) := by
  unfold latencyMax
  lift_lets
  (intro c1; clear_value c1)
  (intro c2; clear_value c2)
  with_reducible refine Moves.ite ?_ ?_
  with_reducible refine Moves.step ?_ (hwFld_mv _ _ _ _ _) rfl
  with_reducible exact Moves.refl _ _
  with_reducible exact Moves.refl _ _

theorem urgentSent_mv (x0 : State) (x1 : Resp) : Moves 2064 x0 (urgentSent x0 x1) := by
  unfold urgentSent
  lift_lets
  (intro c1; clear_value c1)
  (intro c2; clear_value c2)
  (intro s3; refine Moves.cut (P := Moves 2064 x0 s3) ?_ ?_; rotate_left; intro h3; clear_value s3)
  with_reducible refine Moves.step ?_ (State.modPc_mv _ _ _) rfl
  assumption
  subst s3
  with_reducible refine Moves.step ?_ (latencyMax_mv _ _ _ _) rfl
  with_reducible exact Moves.refl _ _

theorem sendResp_mv (x0 : State) (x1 : Port) (x2 : Resp) : Moves 2832 x0 (sendResp x0 x1 x2) := by
  unfold sendResp
  lift_lets
  (intro c1; clear_value c1)
  (intro s2; refine Moves.cut (P := Moves 2832 x0 s2) ?_ ?_; rotate_left; intro h2; clear_value s2)
  (intro s3; refine Moves.cut (P := Moves 2832 x0 s3) ?_ ?_; rotate_left; intro h3; clear_value s3)
  with_reducible refine Moves.ite ?_ ?_
  with_reducible refine Moves.step ?_ (urgentSent_mv _ _) rfl
  assumption
  assumption
  subst s2
  with_reducible refine Moves.step ?_ (State.modPort_mv _ _ _) rfl
  with_reducible exact Moves.refl _ _
  subst s3
  with_reducible refine Moves.step ?_ (sendFlits_mv _ _ _) rfl
  assumption

theorem execUpstreamResponseSend_mv (x0 : Port) (x1 : State) : MovesO 2832 x1 (execUpstreamResponseSend x0 x1) := by
  unfold execUpstreamResponseSend
  with_reducible refine MovesO.ite ?_ ?_
  with_reducible refine MovesO.next ?_
  with_reducible refine Moves.step ?_ (sendZero_mv _ _) rfl
  with_reducible exact Moves.refl _ _
  split
  with_reducible refine MovesO.whenDo ?_ ?_
  with_reducible exact Moves.refl _ _
  with_reducible refine Moves.step ?_ (sendFlits_mv _ _ _) rfl
  with_reducible exact Moves.refl _ _
  with_reducible refine MovesO.whenDo ?_ ?_
  with_reducible exact Moves.refl _ _
  with_reducible refine Moves.step ?_ (sendResp_mv _ _ _) rfl
  with_reducible exact Moves.refl _ _

theorem execSigSend_mv (x0 : Port) (x1 : State) : MovesO 768 x1 (execSigSend x0 x1) := by
  unfold execSigSend
  split
  with_reducible refine MovesO.next ?_
  with_reducible exact Moves.refl _ _
  with_reducible refine MovesO.whenDo ?_ ?_
  with_reducible exact Moves.refl _ _
  with_reducible refine Moves.step ?_ (sendFlits_mv _ _ _) rfl
  with_reducible refine Moves.step ?_ (State.modPort_mv _ _ _) rfl
  with_reducible exact Moves.refl _ _

end Sys2Proof.Machine
end

