-- ==== Sys2Proof/Laws/FrameRefreshGuard.lean ====
section
/-! SUPPORT. What each operation of Machine/RefreshGuard.lean may change, one lemma an operation (`<name>_mv`): the components its
mask names, and nothing else of the state. -/

namespace Sys2Proof.Machine

theorem rgEvent_mv (x0 : State) (x1 : Nat) (x2 : Nat) (x3 : Nat) (x4 : Nat) (x5 : Nat) (x6 : Nat) (x7 : Bool) : Moves 496 x0 (rgEvent x0 x1 x2 x3 x4 x5 x6 x7) := by
  unfold rgEvent
  with_reducible refine Moves.step ?_ (raiseLim_mv _ _ _ _ _ _ _ _ _ _) rfl
  with_reducible exact Moves.refl _ _

theorem adoptOrder_mv (x0 : State) (x1 : Pc) : Moves 18928 x0 (adoptOrder x0 x1) := by
  unfold adoptOrder
  lift_lets
  (intro c1; clear_value c1)
  (intro s2; refine Moves.cut (P := Moves 18928 x0 s2) ?_ ?_; rotate_left; intro h2; clear_value s2)
  (intro c3; clear_value c3)
  (intro s4; refine Moves.cut (P := Moves 18928 x0 s4) ?_ ?_; rotate_left; intro h4; clear_value s4)
  split
  with_reducible refine Moves.step ?_ (State.modPc_mv _ _ _) rfl
  with_reducible exact Moves.refl _ _
  with_reducible refine Moves.ite ?_ ?_
  assumption
  with_reducible refine Moves.step ?_ (rgEvent_mv _ _ _ _ _ _ _ _) rfl
  assumption
  subst s2
  with_reducible refine Moves.step ?_ (State.modPc_mv _ _ _) rfl
  with_reducible exact Moves.refl _ _
  subst s4
  with_reducible exact Moves.mk' (m := 18928) (by assumption) (.inl rfl) (.inl rfl) (.inl rfl) (.inl rfl) (.inl rfl) (.inr rfl) (.inr rfl) (.inl rfl) (.inr rfl) rfl rfl (.inr rfl) (.inl rfl) (.inr rfl) (.inr rfl) (.inr rfl) (.inr rfl) (.inr rfl) (.inr rfl) (.inr rfl) (.inr rfl) (.inr rfl) (.inr rfl) (.inr rfl) (.inr rfl) (.inr rfl) (.inr rfl)

theorem refreshSlot_mv (x0 : State) (x1 : Pc) : Moves 18928 x0 (refreshSlot x0 x1) := by
  unfold refreshSlot
  lift_lets
  intro c1
  (intro s2; refine Moves.cut (P := Moves 18928 x0 s2) ?_ ?_; rotate_left; intro h2; clear_value s2)
  intro c3
  (intro c4; clear_value c4)
  (intro s5; refine Moves.cut (P := Moves 18928 x0 s5) ?_ ?_; rotate_left; intro h5; clear_value s5)
  (intro s6; refine Moves.cut (P := Moves 18928 x0 s6) ?_ ?_; rotate_left; intro h6; clear_value s6)
  (intro s7; refine Moves.cut (P := Moves 18928 x0 s7) ?_ ?_; rotate_left; intro h7; clear_value s7)
  with_reducible refine Moves.ite ?_ ?_
  assumption
  with_reducible refine Moves.ite ?_ ?_
  with_reducible refine Moves.step ?_ (rgEvent_mv _ _ _ _ _ _ _ _) rfl
  assumption
  assumption
  subst s2
  with_reducible refine Moves.step ?_ (State.atLeast_mv _ _) rfl
  with_reducible exact Moves.refl _ _
  subst s5
  with_reducible refine Moves.step ?_ (State.modPc_mv _ _ _) rfl
  assumption
  subst s6
  with_reducible refine Moves.ite ?_ ?_
  with_reducible refine Moves.step ?_ (adoptOrder_mv _ _) rfl
  assumption
  assumption
  subst s7
  with_reducible refine Moves.step ?_ (modBank_mv _ _ _ _) rfl
  assumption

theorem wakePc_mv (x0 : State) (x1 : Pc) (x2 : Nat) : Moves 18928 x0 (wakePc x0 x1 x2) := by
  unfold wakePc
  with_reducible refine Moves.step ?_ (adoptOrder_mv _ _) rfl
  with_reducible refine Moves.step ?_ (State.modPc_mv _ _ _) rfl
  with_reducible exact Moves.refl _ _

theorem execRefreshSlot_mv (x0 : Pc) (x1 : State) : MovesO 18928 x1 (execRefreshSlot x0 x1) := by
  unfold execRefreshSlot
  with_reducible refine MovesO.whenDo ?_ ?_
  with_reducible exact Moves.refl _ _
  with_reducible refine Moves.step ?_ (refreshSlot_mv _ _) rfl
  with_reducible exact Moves.refl _ _

theorem startRefresh_mv (x0 : State) (x1 : Pc) (x2 : Fin 32) : Moves 2064 x0 (startRefresh x0 x1 x2) := by
  unfold startRefresh
  lift_lets
  (intro c1; clear_value c1)
  (intro s2; refine Moves.cut (P := Moves 2064 x0 s2) ?_ ?_; rotate_left; intro h2; clear_value s2)
  (intro s3; refine Moves.cut (P := Moves 2064 x0 s3) ?_ ?_; rotate_left; intro h3; clear_value s3)
  (intro s4; refine Moves.cut (P := Moves 2064 x0 s4) ?_ ?_; rotate_left; intro h4; clear_value s4)
  with_reducible refine Moves.ite ?_ ?_
  with_reducible refine Moves.step ?_ (bump_mv _ _ _) rfl
  assumption
  assumption
  subst s2
  with_reducible refine Moves.step ?_ (State.atLeast_mv _ _) rfl
  with_reducible exact Moves.refl _ _
  subst s3
  with_reducible refine Moves.step ?_ (modBank_mv _ _ _ _) rfl
  assumption
  subst s4
  with_reducible refine Moves.step ?_ (State.modPc_mv _ _ _) rfl
  assumption

theorem execRefreshStart_mv (x0 : Pc) (x1 : Fin 32) (x2 : State) : MovesO 2064 x2 (execRefreshStart x0 x1 x2) := by
  unfold execRefreshStart
  with_reducible refine MovesO.whenDo ?_ ?_
  with_reducible exact Moves.refl _ _
  with_reducible refine Moves.step ?_ (startRefresh_mv _ _ _) rfl
  with_reducible exact Moves.refl _ _

theorem execNbrRefreshTrigger_mv (x0 : Pc) (x1 : Fin 32) (x2 : Nat) (x3 : State) : MovesO 2544 x3 (execNbrRefreshTrigger x0 x1 x2 x3) := by
  unfold execNbrRefreshTrigger
  with_reducible refine MovesO.whenDo ?_ ?_
  with_reducible exact Moves.refl _ _
  lift_lets
  (intro s3; refine Moves.cut (P := Moves 2544 x3 s3) ?_ ?_; rotate_left; intro h3; clear_value s3)
  with_reducible refine Moves.ite ?_ ?_
  with_reducible refine Moves.step ?_ (lapse_mv _ _ _ _ _ _) rfl
  assumption
  assumption
  subst s3
  with_reducible refine Moves.step ?_ (modBank_mv _ _ _ _) rfl
  with_reducible exact Moves.refl _ _

theorem targetedRefresh_mv (x0 : State) (x1 : Pc) (x2 : Fin 32) (x3 : Nat) : Moves 18928 x0 (targetedRefresh x0 x1 x2 x3) := by
  unfold targetedRefresh
  lift_lets
  (intro c1; clear_value c1)
  (intro c2; clear_value c2)
  (intro s3; refine Moves.cut (P := Moves 18928 x0 s3) ?_ ?_; rotate_left; intro h3; clear_value s3)
  (intro s4; refine Moves.cut (P := Moves 18928 x0 s4) ?_ ?_; rotate_left; intro h4; clear_value s4)
  (intro s5; refine Moves.cut (P := Moves 18928 x0 s5) ?_ ?_; rotate_left; intro h5; clear_value s5)
  (intro c6; clear_value c6)
  (intro s7; refine Moves.cut (P := Moves 18928 x0 s7) ?_ ?_; rotate_left; intro h7; clear_value s7)
  (intro s8; refine Moves.cut (P := Moves 18928 x0 s8) ?_ ?_; rotate_left; intro h8; clear_value s8)
  with_reducible refine Moves.step ?_ (rgEvent_mv _ _ _ _ _ _ _ _) rfl
  with_reducible refine Moves.step ?_ (bump_mv _ _ _) rfl
  assumption
  subst s3
  with_reducible refine Moves.step ?_ (State.atLeast_mv _ _) rfl
  with_reducible exact Moves.refl _ _
  subst s4
  (with_reducible refine Moves.foldl _ _ ?_ ?_; rotate_left; intro _ _ _)
  with_reducible refine Moves.step ?_ (countAct_mv _ _ _ _ _ _) rfl
  assumption
  subst s5
  with_reducible refine Moves.step ?_ (bump_mv _ _ _) rfl
  assumption
  subst s7
  with_reducible refine Moves.step ?_ (State.modPc_mv _ _ _) rfl
  assumption
  subst s8
  with_reducible refine Moves.step ?_ (modBank_mv _ _ _ _) rfl
  assumption
  assumption

theorem execTargetedRefreshDone_mv (x0 : Pc) (x1 : Fin 32) (x2 : State) : MovesO 18928 x2 (execTargetedRefreshDone x0 x1 x2) := by
  unfold execTargetedRefreshDone
  split
  with_reducible refine MovesO.next ?_
  with_reducible exact Moves.refl _ _
  with_reducible refine MovesO.whenDo ?_ ?_
  with_reducible exact Moves.refl _ _
  with_reducible refine Moves.step ?_ (targetedRefresh_mv _ _ _ _) rfl
  with_reducible exact Moves.refl _ _

theorem throttleEvent_mv (x0 : State) (x1 : Nat) (x2 : Thr) (x3 : Nat) : Moves 496 x0 (throttleEvent x0 x1 x2 x3) := by
  unfold throttleEvent
  with_reducible refine Moves.step ?_ (rgEvent_mv _ _ _ _ _ _ _ _) rfl
  with_reducible exact Moves.refl _ _

theorem throttleLapse_mv (x0 : State) (x1 : Nat) : Moves 18928 x0 (throttleLapse x0 x1) := by
  unfold throttleLapse
  (with_reducible refine Moves.foldl _ _ ?_ ?_; rotate_left; intro _ _ _)
  with_reducible refine Moves.ite ?_ ?_
  lift_lets
  (intro c3; clear_value c3)
  with_reducible refine Moves.step ?_ (lapse_mv _ _ _ _ _ _) rfl
  with_reducible refine Moves.step ?_ (thrSet_mv _ _ _) rfl
  assumption
  assumption
  with_reducible exact Moves.refl _ _

theorem throttleFrees_mv (x0 : State) (x1 : Thr) : Moves 2048 x0 (throttleFrees x0 x1) := by
  unfold throttleFrees
  (with_reducible refine Moves.foldl _ _ ?_ ?_; rotate_left; intro _ _ _)
  with_reducible refine Moves.step ?_ (State.modPc_mv _ _ _) rfl
  assumption
  with_reducible exact Moves.refl _ _

theorem windowThr_mv (x0 : Nat) (x1 : State) (x2 : Nat) (x3 : Thr) : Moves 18928 x1 (windowThr x0 x1 x2 x3) := by
  unfold windowThr
  split
  lift_lets
  (intro c2; clear_value c2)
  (intro s3; refine Moves.cut (P := Moves 18928 x1 s3) ?_ ?_; rotate_left; intro h3; clear_value s3)
  (intro c4; clear_value c4)
  with_reducible refine Moves.ite ?_ ?_
  with_reducible refine Moves.step ?_ (throttleEvent_mv _ _ _ _) rfl
  with_reducible refine Moves.step ?_ (thrSet_mv _ _ _) rfl
  assumption
  with_reducible refine Moves.step ?_ (thrSet_mv _ _ _) rfl
  with_reducible exact Moves.refl _ _
  subst s3
  with_reducible refine Moves.step ?_ (throttleFrees_mv _ _) rfl
  with_reducible exact Moves.refl _ _

theorem windowEnd_mv (x0 : State) : Moves 51696 x0 (windowEnd x0) := by
  unfold windowEnd
  lift_lets
  (intro s1; refine Moves.cut (P := Moves 51696 x0 s1) ?_ ?_; rotate_left; intro h1; clear_value s1)
  (intro c2; clear_value c2)
  (intro c3; clear_value c3)
  (intro c4; clear_value c4)
  (intro s5; refine Moves.cut (P := Moves 51696 x0 s5) ?_ ?_; rotate_left; intro h5; clear_value s5)
  (intro s6; refine Moves.cut (P := Moves 51696 x0 s6) ?_ ?_; rotate_left; intro h6; clear_value s6)
  (intro c7; clear_value c7)
  (intro c8; clear_value c8)
  with_reducible exact Moves.mk' (m := 51696) (by assumption) (.inl rfl) (.inl rfl) (.inl rfl) (.inl rfl) (.inl rfl) (.inr rfl) (.inr rfl) (.inl rfl) (.inr rfl) rfl rfl (.inr rfl) (.inl rfl) (.inl rfl) (.inr rfl) (.inr rfl) (.inr rfl) (.inr rfl) (.inr rfl) (.inr rfl) (.inr rfl) (.inr rfl) (.inr rfl) (.inr rfl) (.inr rfl) (.inr rfl) (.inr rfl)
  subst s1
  with_reducible refine Moves.step ?_ (State.atLeast_mv _ _) rfl
  with_reducible exact Moves.refl _ _
  subst s5
  (with_reducible refine Moves.foldl _ _ ?_ ?_; rotate_left; intro _ _ _)
  with_reducible refine Moves.step ?_ (releaseRow_mv _ _ _ _) rfl
  assumption
  subst s6
  (with_reducible refine Moves.foldl _ _ ?_ ?_; rotate_left; intro _ _ _)
  with_reducible refine Moves.step ?_ (windowThr_mv _ _ _ _) rfl
  assumption
  assumption
  assumption

theorem execTrackerWindowEnd_mv (x0 : State) : MovesO 51696 x0 (execTrackerWindowEnd x0) := by
  unfold execTrackerWindowEnd
  with_reducible refine MovesO.whenDo ?_ ?_
  with_reducible exact Moves.refl _ _
  with_reducible refine Moves.step ?_ (windowEnd_mv _) rfl
  with_reducible exact Moves.refl _ _

theorem stepUp_mv (x0 : State) (x1 : Nat) (x2 : Thr) (x3 : Nat × Nat × Bool) : Moves 18928 x0 (stepUp x0 x1 x2 x3) := by
  unfold stepUp
  lift_lets
  (intro c1; clear_value c1)
  (intro c2; clear_value c2)
  (intro s3; refine Moves.cut (P := Moves 18928 x0 s3) ?_ ?_; rotate_left; intro h3; clear_value s3)
  (intro s4; refine Moves.cut (P := Moves 18928 x0 s4) ?_ ?_; rotate_left; intro h4; clear_value s4)
  with_reducible refine Moves.step ?_ (throttleEvent_mv _ _ _ _) rfl
  assumption
  subst s3
  with_reducible refine Moves.step ?_ (thrSet_mv _ _ _) rfl
  with_reducible exact Moves.refl _ _
  subst s4
  with_reducible refine Moves.ite ?_ ?_
  with_reducible refine Moves.step ?_ (throttleLapse_mv _ _) rfl
  assumption
  assumption

theorem execThrottleStepUp_mv (x0 : Fin 1024) (x1 : State) : MovesO 18928 x1 (execThrottleStepUp x0 x1) := by
  unfold execThrottleStepUp
  lift_lets
  (intro c1; clear_value c1)
  split
  split
  with_reducible refine MovesO.next ?_
  with_reducible exact Moves.refl _ _
  with_reducible refine MovesO.whenDo ?_ ?_
  with_reducible exact Moves.refl _ _
  with_reducible refine Moves.step ?_ (stepUp_mv _ _ _ _) rfl
  with_reducible exact Moves.refl _ _

theorem throttleTake_mv (x0 : State) (x1 : Nat) (x2 : Nat) (x3 : Nat) : Moves 16384 x0 (throttleTake x0 x1 x2 x3) := by
  unfold throttleTake
  lift_lets
  intro c1
  intro c2
  with_reducible refine Moves.step ?_ (thrSet_mv _ _ _) rfl
  with_reducible exact Moves.refl _ _

end Sys2Proof.Machine
end

