-- ==== Sys2Proof/Laws/FrameIntegrity.lean ====
section
/-! SUPPORT. What each operation of Machine/Integrity.lean may change, one lemma an operation (`<name>_mv`): the components its
mask names, and nothing else of the state. -/

namespace Sys2Proof.Machine

theorem tidefillActs_mv (x0 : State) (x1 : Pc) : Moves 2064 x0 (tidefillActs x0 x1) := by
  unfold tidefillActs
  lift_lets
  (intro c1; clear_value c1)
  with_reducible refine Moves.step ?_ (State.modPc_mv _ _ _) rfl
  with_reducible refine Moves.step ?_ (bump_mv _ _ _) rfl
  with_reducible refine Moves.step ?_ (bump_mv _ _ _) rfl
  with_reducible exact Moves.refl _ _

theorem tidefillDone_mv (x0 : State) (x1 : Nat) : Moves 14448 x0 (tidefillDone x0 x1) := by
  unfold tidefillDone
  refine Moves.step ?_ (journal_mv _ _ _ _) rfl
  have k : Moves 14448 x0 ((List.finRange 64).foldl tidefillActs x0) :=
    Moves.foldl _ _ (Moves.refl _ _) fun s n h => h.step (tidefillActs_mv s n) rfl
  generalize (List.finRange 64).foldl tidefillActs x0 = t at k
  have h : Moves 14448 x0 { t with
      dram := { t.dram with mem := [], chk := [], written := [], all := true, marched := [], freshAll := true, fresh := [], claims := []
                            poison := Vector.replicate 512 none, listFull := false, tidefillRan := true } } :=
    k.step (State.dram_mv t _ (fun _ => rfl) (fun _ => rfl)) rfl
  exact h.mk' (.inl rfl) (.inl rfl) (.inl rfl) (.inr rfl) (.inr rfl) (.inr rfl) (.inr rfl) (.inl rfl) (.inl rfl) (by rfl) (by rfl) (.inl rfl) (.inr rfl) (.inr rfl) (.inr rfl) (.inr rfl) (.inr rfl) (.inr rfl) (.inr rfl) (.inr rfl) (.inr rfl) (.inr rfl) (.inr rfl) (.inr rfl) (.inr rfl) (.inr rfl) (.inr rfl)

theorem execTidefillDone_mv (x0 : Nat) (x1 : State) : MovesO 14448 x1 (execTidefillDone x0 x1) := by
  unfold execTidefillDone
  with_reducible refine MovesO.whenDo ?_ ?_
  with_reducible exact Moves.refl _ _
  with_reducible refine Moves.step ?_ (tidefillDone_mv _ _) rfl
  with_reducible exact Moves.refl _ _

theorem claimFill_mv (x0 : State) (x1 : Nat) (x2 : Nat) (x3 : Nat) : Moves 6160 x0 (claimFill x0 x1 x2 x3) := by
  unfold claimFill
  lift_lets
  (intro c1; clear_value c1)
  (intro c2; clear_value c2)
  (intro s3; refine Moves.cut (P := Moves 6160 x0 s3) ?_ ?_; rotate_left; intro h3; clear_value s3)
  (intro c4; clear_value c4)
  (intro c5; clear_value c5)
  (with_reducible refine Moves.foldl _ _ ?_ ?_; rotate_left; intro _ _ _)
  with_reducible refine Moves.step ?_ (noteWrite_mv _ _ _) rfl
  assumption
  subst s3
  with_reducible refine Moves.step ?_ (turn_mv _ _ _) rfl
  with_reducible exact Moves.refl _ _
  with_reducible refine Moves.step ?_ (enqueue_mv _ _ _) rfl
  with_reducible refine Moves.step ?_ (State.tick_mv _) rfl
  assumption

theorem execFreshClaimFill_mv (x0 : Nat) (x1 : State) : MovesO 6160 x1 (execFreshClaimFill x0 x1) := by
  unfold execFreshClaimFill
  split
  with_reducible refine MovesO.next ?_
  with_reducible exact Moves.refl _ _
  split
  with_reducible refine MovesO.next ?_
  with_reducible exact Moves.refl _ _
  lift_lets
  intro c7
  with_reducible refine MovesO.whenDo ?_ ?_
  with_reducible exact Moves.refl _ _
  with_reducible refine Moves.step ?_ (claimFill_mv _ _ _ _) rfl
  with_reducible exact Moves.refl _ _

theorem behindEvent_mv (x0 : State) (x1 : Pc) : Moves 2544 x0 (behindEvent x0 x1) := by
  unfold behindEvent
  lift_lets
  (intro c1; clear_value c1)
  (intro s2; refine Moves.cut (P := Moves 2544 x0 s2) ?_ ?_; rotate_left; intro h2; clear_value s2)
  with_reducible refine Moves.ite ?_ ?_
  with_reducible refine Moves.step ?_ (raiseLim_mv _ _ _ _ _ _ _ _ _ _) rfl
  assumption
  with_reducible exact Moves.refl _ _
  subst s2
  with_reducible refine Moves.step ?_ (State.modPc_mv _ _ _) rfl
  with_reducible exact Moves.refl _ _

theorem issueUnit_mv (x0 : State) (x1 : Pc) (x2 : Nat) : Moves 2064 x0 (issueUnit x0 x1 x2) := by
  unfold issueUnit
  with_reducible refine Moves.ite ?_ ?_
  with_reducible exact Moves.refl _ _
  lift_lets
  (intro s3; refine Moves.cut (P := Moves 2064 x0 s3) ?_ ?_; rotate_left; intro h3; clear_value s3)
  (intro c4; clear_value c4)
  (intro c5; clear_value c5)
  with_reducible refine Moves.step ?_ (State.modPc_mv _ _ _) rfl
  with_reducible refine Moves.step ?_ (enqueue_mv _ _ _) rfl
  with_reducible refine Moves.step ?_ (State.tick_mv _) rfl
  assumption
  subst s3
  with_reducible refine Moves.step ?_ (turn_mv _ _ _) rfl
  with_reducible exact Moves.refl _ _

theorem scrubIssueAt_mv (x0 : State) (x1 : Pc) (x2 : Walker) (x3 : Option (Fin 8)) :
    Moves 2064 x0 (scrubIssueAt x0 x1 x2 x3) := by
  unfold scrubIssueAt
  dsimp only
  split
  · exact ((Moves.refl _ _).step (State.modPc_mv _ _ _) rfl).step (issueUnit_mv _ _ _) rfl
  · split
    · exact Moves.refl _ _
    · split
      · exact (Moves.refl _ _).step (State.modPc_mv _ _ _) rfl
      · exact ((Moves.refl _ _).step (State.modPc_mv _ _ _) rfl).step (issueUnit_mv _ _ _) rfl

theorem scrubIssue_mv (x0 : State) (x1 : Pc) : Moves 2544 x0 (scrubIssue x0 x1) := by
  unfold scrubIssue
  exact ((((Moves.refl _ _).step (State.atLeast_mv _ _) rfl).step (behindEvent_mv _ _) rfl).step
    (State.modPc_mv _ _ _) rfl).step (scrubIssueAt_mv _ _ _ _) rfl

theorem execScrubUnitIssue_mv (x0 : Pc) (x1 : State) : MovesO 2544 x1 (execScrubUnitIssue x0 x1) := by
  unfold execScrubUnitIssue
  with_reducible refine MovesO.whenDo ?_ ?_
  with_reducible exact Moves.refl _ _
  with_reducible refine Moves.step ?_ (scrubIssue_mv _ _) rfl
  with_reducible exact Moves.refl _ _

theorem lapEnd_mv (x0 : State) : Moves 14832 x0 (lapEnd x0) := by
  unfold lapEnd
  lift_lets
  (intro c1; clear_value c1)
  (intro c2; clear_value c2)
  (intro c3; clear_value c3)
  (intro c4; clear_value c4)
  (intro c5; clear_value c5)
  (intro c6; clear_value c6)
  (intro c7; subst c7)
  (intro s8; refine Moves.cut (P := Moves 14832 x0 s8) ?_ ?_; rotate_left; intro h8; clear_value s8)
  (intro s9; refine Moves.cut (P := Moves 14832 x0 s9) ?_ ?_; rotate_left; intro h9; clear_value s9)
  (intro s10; refine Moves.cut (P := Moves 14832 x0 s10) ?_ ?_; rotate_left; intro h10; clear_value s10)
  (intro c11; clear_value c11)
  (intro c12; clear_value c12)
  with_reducible exact Moves.mk' (m := 14832) (by assumption) (.inl rfl) (.inl rfl) (.inl rfl) (.inl rfl) (.inl rfl) (.inr rfl) (.inr rfl) (.inl rfl) (.inl rfl) (by rfl) (by rfl) (.inl rfl) (.inr rfl) (.inr rfl) (.inr rfl) (.inr rfl) (.inr rfl) (.inr rfl) (.inr rfl) (.inr rfl) (.inr rfl) (.inr rfl) (.inr rfl) (.inr rfl) (.inr rfl) (.inr rfl) (.inr rfl)
  subst s8
  with_reducible exact Moves.mk' (m := 14832) (Moves.refl _ _) (.inl rfl) (.inl rfl) (.inl rfl) (.inl rfl) (.inl rfl) (.inr rfl) (.inr rfl) (.inl rfl) (.inl rfl) (by rfl) (by rfl) (.inl rfl) (.inr rfl) (.inr rfl) (.inr rfl) (.inr rfl) (.inr rfl) (.inr rfl) (.inr rfl) (.inr rfl) (.inr rfl) (.inr rfl) (.inr rfl) (.inr rfl) (.inr rfl) (.inr rfl) (.inr rfl)
  subst s9
  with_reducible refine Moves.step ?_ (bump_mv _ _ _) rfl
  assumption
  subst s10
  with_reducible refine Moves.step ?_ (raiseLim_mv _ _ _ _ _ _ _ _ _ _) rfl
  assumption

theorem execScrubLapEnd_mv (x0 : State) : MovesO 14832 x0 (execScrubLapEnd x0) := by
  unfold execScrubLapEnd
  with_reducible refine MovesO.whenDo ?_ ?_
  with_reducible exact Moves.refl _ _
  with_reducible refine Moves.step ?_ (lapEnd_mv _) rfl
  with_reducible exact Moves.refl _ _

theorem scrubRelease_mv (x0 : State) : Moves 10240 x0 (scrubRelease x0) := by
  unfold scrubRelease
  with_reducible refine Moves.ite ?_ ?_
  lift_lets
  (intro c2; clear_value c2)
  (intro c3; clear_value c3)
  with_reducible exact Moves.mk' (m := 10240) (Moves.refl _ _) (.inr rfl) (.inr rfl) (.inr rfl) (.inr rfl) (.inr rfl) (.inr rfl) (.inr rfl) (.inl rfl) (.inr rfl) rfl rfl (.inl rfl) (.inr rfl) (.inr rfl) (.inr rfl) (.inr rfl) (.inr rfl) (.inr rfl) (.inr rfl) (.inr rfl) (.inr rfl) (.inr rfl) (.inr rfl) (.inr rfl) (.inr rfl) (.inr rfl) (.inr rfl)
  with_reducible exact Moves.refl _ _

theorem initDone_mv (x0 : State) (x1 : Nat) : Moves 10256 x0 (initDone x0 x1) := by
  unfold initDone
  with_reducible refine Moves.ite ?_ ?_
  with_reducible refine Moves.step ?_ (scrubRelease_mv _) rfl
  with_reducible refine Moves.step ?_ (csrSet_mv _ _ _) rfl
  with_reducible exact Moves.refl _ _
  with_reducible exact Moves.refl _ _

theorem repairRefused_mv (x0 : State) (x1 : Pc) (x2 : Nat) (x3 : Nat) (x4 : Nat) : Moves 496 x0 (repairRefused x0 x1 x2 x3 x4) := by
  unfold repairRefused
  with_reducible refine Moves.step ?_ (raise_mv _ _ _ _ _ _) rfl
  with_reducible exact Moves.refl _ _

theorem softStart_mv (x0 : State) (x1 : Pc) (x2 : Nat) (x3 : Nat) : Moves 2544 x0 (softStart x0 x1 x2 x3) := by
  unfold softStart
  split
  with_reducible refine Moves.step ?_ (modBank_mv _ _ _ _) rfl
  with_reducible exact Moves.refl _ _
  with_reducible refine Moves.step ?_ (repairRefused_mv _ _ _ _ _) rfl
  with_reducible exact Moves.refl _ _

theorem execSoftRepairStart_mv (x0 : Pc) (x1 : Fin 32) (x2 : Nat) (x3 : State) : MovesO 6640 x3 (execSoftRepairStart x0 x1 x2 x3) := by
  unfold execSoftRepairStart
  with_reducible refine MovesO.whenDo ?_ ?_
  with_reducible exact Moves.refl _ _
  with_reducible refine Moves.step ?_ (softStart_mv _ _ _ _) rfl
  with_reducible exact Moves.mk' (m := 6640) (Moves.refl _ _) (.inl rfl) (.inl rfl) (.inl rfl) (.inl rfl) (.inl rfl) (.inr rfl) (.inr rfl) (.inl rfl) (.inl rfl) (by rfl) (by rfl) (.inr rfl) (.inr rfl) (.inr rfl) (.inr rfl) (.inr rfl) (.inr rfl) (.inr rfl) (.inr rfl) (.inr rfl) (.inr rfl) (.inr rfl) (.inr rfl) (.inr rfl) (.inr rfl) (.inr rfl) (.inr rfl)

theorem repairBlock_mv (x0 : State) (x1 : Nat) : Moves 72176 x0 (repairBlock x0 x1) := by
  unfold repairBlock
  with_reducible refine Moves.ite ?_ ?_
  with_reducible exact Moves.refl _ _
  lift_lets
  (intro c3; clear_value c3)
  dsimp -zeta only
  lift_lets
  (intro c6; clear_value c6)
  dsimp -zeta only
  lift_lets
  (intro s9; refine Moves.cut (P := Moves 72176 x0 s9) ?_ ?_; rotate_left; intro h9; clear_value s9)
  with_reducible refine Moves.ite ?_ ?_
  with_reducible refine Moves.step ?_ (dramWrite_mv _ _ _ _) rfl
  with_reducible refine Moves.step ?_ (afterRead_mv _ _ _ _ _ _) rfl
  with_reducible refine Moves.step ?_ (dramRead_mv _ _) rfl
  with_reducible exact Moves.refl _ _
  with_reducible refine Moves.ite ?_ ?_
  with_reducible refine Moves.step ?_ (poisonSteps_mv _ _ _) rfl
  with_reducible refine Moves.step ?_ (dramWrite_mv _ _ _ _) rfl
  assumption
  with_reducible refine Moves.step ?_ (dramWrite_mv _ _ _ _) rfl
  with_reducible refine Moves.step ?_ (dramRead_mv _ _) rfl
  with_reducible exact Moves.refl _ _
  subst s9
  with_reducible refine Moves.step ?_ (bump_mv _ _ _) rfl
  with_reducible refine Moves.step ?_ (bump_mv _ _ _) rfl
  with_reducible refine Moves.step ?_ (dramRead_mv _ _) rfl
  with_reducible exact Moves.refl _ _

theorem softDone_mv (x0 : State) (x1 : Pc) (x2 : Fin 32) (x3 : Nat) : Moves 134306288 x0 (softDone x0 x1 x2 x3) := by
  unfold softDone
  lift_lets
  (intro s1; refine Moves.cut (P := Moves 134306288 x0 s1) ?_ ?_; rotate_left; intro h1; clear_value s1)
  (intro s2; refine Moves.cut (P := Moves 134306288 x0 s2) ?_ ?_; rotate_left; intro h2; clear_value s2)
  (intro s3; refine Moves.cut (P := Moves 134306288 x0 s3) ?_ ?_; rotate_left; intro h3; clear_value s3)
  (intro s4; refine Moves.cut (P := Moves 134306288 x0 s4) ?_ ?_; rotate_left; intro h4; clear_value s4)
  (intro s5; refine Moves.cut (P := Moves 134306288 x0 s5) ?_ ?_; rotate_left; intro h5; clear_value s5)
  (intro c6; subst c6)
  split
  lift_lets
  (intro s9; refine Moves.cut (P := Moves 134306288 x0 s9) ?_ ?_; rotate_left; intro h9; clear_value s9)
  (intro s10; refine Moves.cut (P := Moves 134306288 x0 s10) ?_ ?_; rotate_left; intro h10; clear_value s10)
  with_reducible refine Moves.step ?_ (raiseJ_mv _ _ _ _ _ _) rfl
  assumption
  with_reducible refine Moves.step ?_ (repairRefused_mv _ _ _ _ _) rfl
  with_reducible refine Moves.step ?_ (endRepairs_mv _ _ _ _ _) rfl
  assumption
  subst s1
  with_reducible refine Moves.step ?_ (State.atLeast_mv _ _) rfl
  with_reducible exact Moves.refl _ _
  subst s2
  (with_reducible refine Moves.foldl _ _ ?_ ?_; rotate_left; intro _ _ _)
  with_reducible refine Moves.step ?_ (repairBlock_mv _ _) rfl
  assumption
  subst s3
  with_reducible refine Moves.step ?_ (countAct_mv _ _ _ _ _ _) rfl
  with_reducible refine Moves.step ?_ (countAct_mv _ _ _ _ _ _) rfl
  assumption
  subst s4
  with_reducible refine Moves.step ?_ (bump_mv _ _ _) rfl
  with_reducible refine Moves.step ?_ (bump_mv _ _ _) rfl
  assumption
  subst s5
  with_reducible refine Moves.step ?_ (modBank_mv _ _ _ _) rfl
  assumption
  subst s9
  with_reducible exact Moves.mk' (m := 134306288) (by assumption) (.inl rfl) (.inl rfl) (.inl rfl) (.inl rfl) (.inl rfl) (.inr rfl) (.inr rfl) (.inl rfl) (.inl rfl) (by rfl) (by rfl) (.inr rfl) (.inl rfl) (.inr rfl) (.inl rfl) (.inr rfl) (.inr rfl) (.inr rfl) (.inr rfl) (.inr rfl) (.inr rfl) (.inr rfl) (.inr rfl) (.inr rfl) (.inr rfl) (.inl rfl) (.inr rfl)
  subst s10
  with_reducible refine Moves.step ?_ (endRepairs_mv _ _ _ _ _) rfl
  assumption
  assumption

theorem execSoftRepairDone_mv (x0 : Pc) (x1 : State) : MovesO 134306288 x1 (execSoftRepairDone x0 x1) := by
  unfold execSoftRepairDone
  split
  with_reducible refine MovesO.next ?_
  with_reducible exact Moves.refl _ _
  split
  with_reducible refine MovesO.next ?_
  with_reducible exact Moves.refl _ _
  with_reducible refine MovesO.whenDo ?_ ?_
  with_reducible exact Moves.refl _ _
  with_reducible refine Moves.step ?_ (softDone_mv _ _ _ _) rfl
  with_reducible exact Moves.refl _ _

theorem tsvMark_mv (x0 : State) (x1 : Pc) (x2 : Nat) : Moves 1520 x0 (tsvMark x0 x1 x2) := by
  unfold tsvMark
  lift_lets
  (intro c1; clear_value c1)
  (intro s2; refine Moves.cut (P := Moves 1520 x0 s2) ?_ ?_; rotate_left; intro h2; clear_value s2)
  (intro c3; clear_value c3)
  with_reducible exact Moves.mk' (m := 1520) (by assumption) (.inl rfl) (.inl rfl) (.inl rfl) (.inl rfl) (.inl rfl) (.inr rfl) (.inl rfl) (.inr rfl) (.inr rfl) rfl rfl (.inr rfl) (.inr rfl) (.inr rfl) (.inr rfl) (.inr rfl) (.inr rfl) (.inr rfl) (.inr rfl) (.inr rfl) (.inr rfl) (.inr rfl) (.inr rfl) (.inr rfl) (.inr rfl) (.inr rfl) (.inr rfl)
  subst s2
  with_reducible refine Moves.ite ?_ ?_
  with_reducible refine Moves.step ?_ (raise_mv _ _ _ _ _ _) rfl
  with_reducible exact Moves.refl _ _
  with_reducible exact Moves.refl _ _

theorem tsvFail_mv (x0 : State) (x1 : Pc) (x2 : Nat) : Moves 134221296 x0 (tsvFail x0 x1 x2) := by
  unfold tsvFail
  lift_lets
  (intro s1; refine Moves.cut (P := Moves 134221296 x0 s1) ?_ ?_; rotate_left; intro h1; clear_value s1)
  (intro s2; refine Moves.cut (P := Moves 134221296 x0 s2) ?_ ?_; rotate_left; intro h2; clear_value s2)
  (intro c3; clear_value c3)
  (intro s4; refine Moves.cut (P := Moves 134221296 x0 s4) ?_ ?_; rotate_left; intro h4; clear_value s4)
  with_reducible refine Moves.ite ?_ ?_
  assumption
  with_reducible refine Moves.ite ?_ ?_
  with_reducible refine Moves.step ?_ (goOffline_mv _ _) rfl
  assumption
  assumption
  subst s1
  with_reducible refine Moves.step ?_ (tsvMark_mv _ _ _) rfl
  with_reducible exact Moves.refl _ _
  subst s2
  with_reducible refine Moves.step ?_ (State.modPc_mv _ _ _) rfl
  assumption
  subst s4
  with_reducible refine Moves.step ?_ (raiseJ_mv _ _ _ _ _ _) rfl
  assumption

theorem execTsvLaneFailed_mv (x0 : Pc) (x1 : Nat) (x2 : State) : MovesO 134221296 x2 (execTsvLaneFailed x0 x1 x2) := by
  unfold execTsvLaneFailed
  with_reducible refine MovesO.ite ?_ ?_
  with_reducible refine MovesO.whenDo ?_ ?_
  with_reducible exact Moves.refl _ _
  with_reducible refine Moves.step ?_ (tsvFail_mv _ _ _) rfl
  with_reducible exact Moves.refl _ _
  with_reducible refine MovesO.whenDo ?_ ?_
  with_reducible exact Moves.refl _ _
  with_reducible refine Moves.step ?_ (tsvMark_mv _ _ _) rfl
  with_reducible exact Moves.refl _ _

theorem tsvStart_mv (x0 : State) (x1 : Pc) (x2 : Nat) (x3 : Fin 2) : Moves 134553072 x0 (tsvStart x0 x1 x2 x3) := by
  unfold tsvStart
  lift_lets
  (intro s1; refine Moves.cut (P := Moves 134553072 x0 s1) ?_ ?_; rotate_left; intro h1; clear_value s1)
  with_reducible refine Moves.step ?_ (State.modPc_mv _ _ _) rfl
  assumption
  subst s1
  with_reducible refine Moves.step ?_ (transitSpareTaken_mv _ _) rfl
  with_reducible exact Moves.refl _ _

theorem execTsvSwitchStart_mv (x0 : Pc) (x1 : State) : MovesO 134553072 x1 (execTsvSwitchStart x0 x1) := by
  unfold execTsvSwitchStart
  split
  with_reducible refine MovesO.whenDo ?_ ?_
  with_reducible exact Moves.refl _ _
  with_reducible refine Moves.step ?_ (tsvStart_mv _ _ _ _) rfl
  with_reducible exact Moves.refl _ _
  with_reducible refine MovesO.next ?_
  with_reducible exact Moves.refl _ _

theorem tsvDone_mv (x0 : State) (x1 : Pc) (x2 : Nat) (x3 : Fin 2) : Moves 7664 x0 (tsvDone x0 x1 x2 x3) := by
  unfold tsvDone
  lift_lets
  (intro s1; refine Moves.cut (P := Moves 7664 x0 s1) ?_ ?_; rotate_left; intro h1; clear_value s1)
  (intro c2; subst c2)
  (intro s3; refine Moves.cut (P := Moves 7664 x0 s3) ?_ ?_; rotate_left; intro h3; clear_value s3)
  (intro s4; refine Moves.cut (P := Moves 7664 x0 s4) ?_ ?_; rotate_left; intro h4; clear_value s4)
  with_reducible refine Moves.step ?_ (raiseJ_mv _ _ _ _ _ _) rfl
  assumption
  subst s1
  with_reducible refine Moves.step ?_ (State.modPc_mv _ _ _) rfl
  with_reducible exact Moves.refl _ _
  subst s3
  with_reducible exact Moves.mk' (m := 7664) (by assumption) (.inl rfl) (.inl rfl) (.inl rfl) (.inl rfl) (.inl rfl) (.inr rfl) (.inl rfl) (.inl rfl) (.inl rfl) (by rfl) (by rfl) (.inr rfl) (.inr rfl) (.inr rfl) (.inr rfl) (.inr rfl) (.inr rfl) (.inr rfl) (.inr rfl) (.inr rfl) (.inr rfl) (.inr rfl) (.inr rfl) (.inr rfl) (.inr rfl) (.inr rfl) (.inr rfl)
  subst s4
  with_reducible refine Moves.step ?_ (recordDue_mv _ _ _) rfl
  assumption

theorem execTsvSwitchDone_mv (x0 : Pc) (x1 : State) : MovesO 7664 x1 (execTsvSwitchDone x0 x1) := by
  unfold execTsvSwitchDone
  split
  with_reducible refine MovesO.next ?_
  with_reducible refine Moves.step ?_ (tsvDone_mv _ _ _ _) rfl
  with_reducible exact Moves.refl _ _
  with_reducible refine MovesO.next ?_
  with_reducible exact Moves.refl _ _

end Sys2Proof.Machine
end

