-- ==== Sys2Proof/Laws/FrameDrain.lean ====
section
/-! SUPPORT. What each operation of Machine/Drain.lean may change, one lemma an operation (`<name>_mv`): the components its
mask names, and nothing else of the state. -/

namespace Sys2Proof.Machine

theorem answerStaged_mv (x0 : State) (x1 : Port) (x2 : StReq) (x3 : Nat) : Moves 2320 x0 (answerStaged x0 x1 x2 x3) := by
  unfold answerStaged
  lift_lets
  (intro c1; clear_value c1)
  (intro s2; refine Moves.cut (P := Moves 2320 x0 s2) ?_ ?_; rotate_left; intro h2; clear_value s2)
  (intro c3; clear_value c3)
  (intro s4; refine Moves.cut (P := Moves 2320 x0 s4) ?_ ?_; rotate_left; intro h4; clear_value s4)
  with_reducible refine Moves.step ?_ (respond_mv _ _ _) rfl
  assumption
  subst s2
  with_reducible refine Moves.step ?_ (State.modPort_mv _ _ _) rfl
  with_reducible exact Moves.refl _ _
  subst s4
  with_reducible refine Moves.step ?_ (State.modPc_mv _ _ _) rfl
  assumption

theorem answerAll_mv (x0 : State) (x1 : StReq → Bool) (x2 : StReq → Nat) : Moves 2320 x0 (answerAll x0 x1 x2) := by
  unfold answerAll
  (with_reducible refine Moves.foldl _ _ ?_ ?_; rotate_left; intro _ _ _)
  (with_reducible refine Moves.foldl _ _ ?_ ?_; rotate_left; intro _ _ _)
  with_reducible refine Moves.step ?_ (answerStaged_mv _ _ _ _) rfl
  assumption
  with_reducible exact Moves.refl _ _
  assumption

theorem fenceStaging_mv (x0 : State) : Moves 2320 x0 (fenceStaging x0) := by
  unfold fenceStaging
  with_reducible refine Moves.step ?_ (answerAll_mv _ _ _) rfl
  with_reducible exact Moves.refl _ _

theorem drainQueue_mv (x0 : State) (x1 : Pc) : Moves 536870896 x0 (drainQueue x0 x1) := by
  unfold drainQueue
  (with_reducible refine Moves.foldl _ _ ?_ ?_; rotate_left; intro _ _ _)
  split
  with_reducible refine Moves.step ?_ (settleEntry_mv _ _ _) rfl
  assumption
  assumption
  with_reducible exact Moves.refl _ _

theorem drainQueues_mv (x0 : State) : Moves 536870896 x0 (drainQueues x0) := by
  unfold drainQueues
  (with_reducible refine Moves.foldl _ _ ?_ ?_; rotate_left; intro _ _ _)
  with_reducible refine Moves.step ?_ (drainQueue_mv _ _) rfl
  assumption
  with_reducible exact Moves.refl _ _

theorem abandon_mv (x0 : State) : Moves 134252544 x0 (abandon x0) := by
  unfold abandon
  lift_lets
  (intro s1; refine Moves.cut (P := Moves 134252544 x0 s1) ?_ ?_; rotate_left; intro h1; clear_value s1)
  (intro c2; clear_value c2)
  (intro s3; refine Moves.cut (P := Moves 134252544 x0 s3) ?_ ?_; rotate_left; intro h3; clear_value s3)
  (intro c4; clear_value c4)
  with_reducible exact Moves.mk' (m := 134252544) (by assumption) (.inr rfl) (.inr rfl) (.inr rfl) (.inr rfl) (.inr rfl) (.inr rfl) (.inr rfl) (.inl rfl) (.inr rfl) rfl rfl (.inr rfl) (.inr rfl) (.inl rfl) (.inr rfl) (.inr rfl) (.inr rfl) (.inr rfl) (.inr rfl) (.inr rfl) (.inr rfl) (.inr rfl) (.inr rfl) (.inr rfl) (.inr rfl) (.inl rfl) (.inr rfl)
  subst s1
  with_reducible refine Moves.step ?_ (endRepairs_mv _ _ _ _ _) rfl
  with_reducible exact Moves.refl _ _
  subst s3
  (with_reducible refine Moves.foldl _ _ ?_ ?_; rotate_left; intro _ _ _)
  with_reducible refine Moves.step ?_ (dropCopy_mv _ _ _ _) rfl
  assumption
  assumption

theorem flushLagoon_mv (x0 : State) : Moves 55312 x0 (flushLagoon x0) := by
  unfold flushLagoon
  lift_lets
  (intro s1; refine Moves.cut (P := Moves 55312 x0 s1) ?_ ?_; rotate_left; intro h1; clear_value s1)
  (intro c2; clear_value c2)
  with_reducible exact Moves.mk' (m := 55312) (by assumption) (.inl rfl) (.inr rfl) (.inr rfl) (.inr rfl) (.inr rfl) (.inr rfl) (.inr rfl) (.inl rfl) (.inl rfl) (by rfl) (by rfl) (.inr rfl) (.inl rfl) (.inl rfl) (.inr rfl) (.inr rfl) (.inr rfl) (.inr rfl) (.inr rfl) (.inr rfl) (.inr rfl) (.inr rfl) (.inr rfl) (.inr rfl) (.inr rfl) (.inr rfl) (.inr rfl)
  subst s1
  with_reducible refine Moves.step ?_ (flushLines_mv _ _) rfl
  with_reducible exact Moves.refl _ _

theorem drainClaims_mv (x0 : State) : Moves 22544 x0 (drainClaims x0) := by
  unfold drainClaims
  lift_lets
  (intro s1; refine Moves.cut (P := Moves 22544 x0 s1) ?_ ?_; rotate_left; intro h1; clear_value s1)
  (intro c2; subst c2)
  with_reducible exact Moves.mk' (m := 22544) (by assumption) (.inl rfl) (.inr rfl) (.inr rfl) (.inr rfl) (.inr rfl) (.inr rfl) (.inr rfl) (.inl rfl) (.inl rfl) (by rfl) (by rfl) (.inr rfl) (.inl rfl) (.inr rfl) (.inr rfl) (.inr rfl) (.inr rfl) (.inr rfl) (.inr rfl) (.inr rfl) (.inr rfl) (.inr rfl) (.inr rfl) (.inr rfl) (.inr rfl) (.inr rfl) (.inr rfl)
  subst s1
  (with_reducible refine Moves.foldl _ _ ?_ ?_; rotate_left; intro _ _ _)
  with_reducible refine Moves.step ?_ (fillClaim_mv _ _) rfl
  assumption
  with_reducible exact Moves.refl _ _

theorem selfRefreshAll_mv (x0 : State) : Moves 2064 x0 (selfRefreshAll x0) := by
  unfold selfRefreshAll
  lift_lets
  (intro c1; clear_value c1)
  (intro s2; refine Moves.cut (P := Moves 2064 x0 s2) ?_ ?_; rotate_left; intro h2; clear_value s2)
  with_reducible exact Moves.mk' (m := 2064) (by assumption) (.inl rfl) (.inr rfl) (.inr rfl) (.inr rfl) (.inr rfl) (.inr rfl) (.inr rfl) (.inl rfl) (.inr rfl) rfl rfl (.inr rfl) (.inr rfl) (.inr rfl) (.inr rfl) (.inr rfl) (.inr rfl) (.inr rfl) (.inr rfl) (.inr rfl) (.inr rfl) (.inr rfl) (.inr rfl) (.inr rfl) (.inr rfl) (.inr rfl) (.inr rfl)
  subst s2
  with_reducible refine Moves.step ?_ (State.atLeast_mv _ _) rfl
  with_reducible exact Moves.refl _ _

theorem wakeAll_mv (x0 : State) (x1 : Nat) : Moves 18928 x0 (wakeAll x0 x1) := by
  unfold wakeAll
  (with_reducible refine Moves.foldl _ _ ?_ ?_; rotate_left; intro _ _ _)
  with_reducible refine Moves.ite ?_ ?_
  with_reducible refine Moves.step ?_ (wakePc_mv _ _ _) rfl
  assumption
  assumption
  with_reducible exact Moves.refl _ _

end Sys2Proof.Machine
end

