-- ==== Sys2Proof/Laws/FrameThermal.lean ====
section
/-! SUPPORT. What each operation of Machine/Thermal.lean may change, one lemma an operation (`<name>_mv`): the components its
mask names, and nothing else of the state. -/

namespace Sys2Proof.Machine

theorem railEvent_mv (x0 : State) (x1 : Nat) (x2 : Nat) (x3 : Bool) : Moves 496 x0 (railEvent x0 x1 x2 x3) := by
  unfold railEvent
  with_reducible refine Moves.ite ?_ ?_
  with_reducible exact Moves.refl _ _
  split
  with_reducible exact Moves.refl _ _
  lift_lets
  (intro c5; clear_value c5)
  with_reducible refine Moves.step ?_ (raiseLim_mv _ _ _ _ _ _ _ _ _ _) rfl
  with_reducible exact Moves.refl _ _

theorem thermTake_mv (x0 : State) (x1 : Nat) (x2 : Nat) (x3 : Nat) : Moves 4194304 x0 (thermTake x0 x1 x2 x3) := by
  unfold thermTake
  with_reducible refine Moves.ite ?_ ?_
  with_reducible exact Moves.refl _ _
  lift_lets
  (intro c3; clear_value c3)
  (intro c4; clear_value c4)
  with_reducible exact Moves.mk' (m := 4194304) (Moves.refl _ _) (.inr rfl) (.inr rfl) (.inr rfl) (.inr rfl) (.inr rfl) (.inr rfl) (.inr rfl) (.inr rfl) (.inr rfl) rfl rfl (.inr rfl) (.inr rfl) (.inr rfl) (.inr rfl) (.inr rfl) (.inr rfl) (.inr rfl) (.inr rfl) (.inr rfl) (.inl rfl) (.inr rfl) (.inr rfl) (.inr rfl) (.inr rfl) (.inr rfl) (.inr rfl)

theorem settleBuckets_mv (x0 : State) (x1 : State) : Moves 4194304 x1 (settleBuckets x0 x1) := by
  unfold settleBuckets
  lift_lets
  (intro c1; clear_value c1)
  (intro c2; clear_value c2)
  with_reducible exact Moves.mk' (m := 4194304) (Moves.refl _ _) (.inr rfl) (.inr rfl) (.inr rfl) (.inr rfl) (.inr rfl) (.inr rfl) (.inr rfl) (.inr rfl) (.inr rfl) rfl rfl (.inr rfl) (.inr rfl) (.inr rfl) (.inr rfl) (.inr rfl) (.inr rfl) (.inr rfl) (.inr rfl) (.inr rfl) (.inl rfl) (.inr rfl) (.inr rfl) (.inr rfl) (.inr rfl) (.inr rfl) (.inr rfl)

theorem setDie_mv (x0 : State) (x1 : Fin 18) (x2 : DieSt → DieSt) : Moves 4194304 x0 (setDie x0 x1 x2) := by
  unfold setDie
  with_reducible exact Moves.mk' (m := 4194304) (Moves.refl _ _) (.inr rfl) (.inr rfl) (.inr rfl) (.inr rfl) (.inr rfl) (.inr rfl) (.inr rfl) (.inr rfl) (.inr rfl) rfl rfl (.inr rfl) (.inr rfl) (.inr rfl) (.inr rfl) (.inr rfl) (.inr rfl) (.inr rfl) (.inr rfl) (.inr rfl) (.inl rfl) (.inr rfl) (.inr rfl) (.inr rfl) (.inr rfl) (.inr rfl) (.inr rfl)

theorem shutdown_mv (x0 : State) : Moves 536870896 x0 (shutdown x0) := by
  unfold shutdown
  lift_lets
  (intro c1; clear_value c1)
  (intro s2; refine Moves.cut (P := Moves 536870896 x0 s2) ?_ ?_; rotate_left; intro h2; clear_value s2)
  (intro s3; refine Moves.cut (P := Moves 536870896 x0 s3) ?_ ?_; rotate_left; intro h3; clear_value s3)
  (intro s4; refine Moves.cut (P := Moves 536870896 x0 s4) ?_ ?_; rotate_left; intro h4; clear_value s4)
  with_reducible refine Moves.step ?_ (selfRefreshAll_mv _) rfl
  with_reducible refine Moves.step ?_ (flushLagoon_mv _) rfl
  with_reducible refine Moves.step ?_ (drainQueues_mv _) rfl
  with_reducible refine Moves.step ?_ (abandon_mv _) rfl
  assumption
  subst s2
  with_reducible exact Moves.mk' (m := 536870896) (Moves.refl _ _) (.inl rfl) (.inl rfl) (.inl rfl) (.inl rfl) (.inl rfl) (.inl rfl) (.inl rfl) (.inl rfl) (.inl rfl) (by rfl) (by rfl) (.inl rfl) (.inl rfl) (.inl rfl) (.inl rfl) (.inl rfl) (.inl rfl) (.inl rfl) (.inl rfl) (.inl rfl) (.inl rfl) (.inl rfl) (.inl rfl) (.inl rfl) (.inl rfl) (.inl rfl) (.inl rfl)
  subst s3
  with_reducible refine Moves.step ?_ (bump_mv _ _ _) rfl
  with_reducible refine Moves.step ?_ (transitAbort_mv _ _) rfl
  assumption
  subst s4
  with_reducible refine Moves.step ?_ (answerAll_mv _ _ _) rfl
  assumption

theorem dieShutdown_mv (x0 : State) (x1 : Nat) (x2 : Int) (x3 : Nat) : Moves 536870896 x0 (dieShutdown x0 x1 x2 x3) := by
  unfold dieShutdown
  lift_lets
  (intro s1; refine Moves.cut (P := Moves 536870896 x0 s1) ?_ ?_; rotate_left; intro h1; clear_value s1)
  with_reducible refine Moves.ite ?_ ?_
  with_reducible refine Moves.step ?_ (shutdown_mv _) rfl
  assumption
  assumption
  subst s1
  with_reducible refine Moves.step ?_ (raiseJ_mv _ _ _ _ _ _) rfl
  with_reducible exact Moves.refl _ _

theorem resumeService_mv (x0 : State) : Moves 4213232 x0 (resumeService x0) := by
  unfold resumeService
  lift_lets
  (intro c1; clear_value c1)
  (intro c2; subst c2)
  (intro c3; clear_value c3)
  (intro s4; refine Moves.cut (P := Moves 4213232 x0 s4) ?_ ?_; rotate_left; intro h4; clear_value s4)
  (intro s5; refine Moves.cut (P := Moves 4213232 x0 s5) ?_ ?_; rotate_left; intro h5; clear_value s5)
  with_reducible refine Moves.step ?_ (raiseJ_mv _ _ _ _ _ _) rfl
  with_reducible refine Moves.step ?_ (wakeAll_mv _ _) rfl
  assumption
  subst s4
  with_reducible refine Moves.step ?_ (dwHardware_mv _ _) rfl
  with_reducible exact Moves.mk' (m := 4213232) (Moves.refl _ _) (.inl rfl) (.inl rfl) (.inl rfl) (.inl rfl) (.inl rfl) (.inr rfl) (.inr rfl) (.inl rfl) (.inr rfl) rfl rfl (.inr rfl) (.inl rfl) (.inr rfl) (.inr rfl) (.inr rfl) (.inr rfl) (.inr rfl) (.inr rfl) (.inr rfl) (.inl rfl) (.inr rfl) (.inr rfl) (.inr rfl) (.inr rfl) (.inr rfl) (.inr rfl)
  subst s5
  (with_reducible refine Moves.foldl _ _ ?_ ?_; rotate_left; intro _ _ _)
  split
  with_reducible refine Moves.step ?_ (setDie_mv _ _ _) rfl
  assumption
  assumption
  assumption

theorem critical_mv (x0 : State) : Moves 4194320 x0 (critical x0) := by
  unfold critical
  lift_lets
  (intro c1; clear_value c1)
  (intro c2; clear_value c2)
  (intro c3; clear_value c3)
  with_reducible exact Moves.mk' (m := 4194320) (Moves.refl _ _) (.inl rfl) (.inr rfl) (.inr rfl) (.inr rfl) (.inr rfl) (.inr rfl) (.inr rfl) (.inr rfl) (.inr rfl) rfl rfl (.inr rfl) (.inr rfl) (.inr rfl) (.inr rfl) (.inr rfl) (.inr rfl) (.inr rfl) (.inr rfl) (.inr rfl) (.inl rfl) (.inr rfl) (.inr rfl) (.inr rfl) (.inr rfl) (.inr rfl) (.inr rfl)

theorem checkAllBroken_mv (x0 : State) (x1 : Fin 18) : Moves 536870896 x0 (checkAllBroken x0 x1) := by
  unfold checkAllBroken
  lift_lets
  (intro c1; clear_value c1)
  (intro s2; refine Moves.cut (P := Moves 536870896 x0 s2) ?_ ?_; rotate_left; intro h2; clear_value s2)
  (intro s3; refine Moves.cut (P := Moves 536870896 x0 s3) ?_ ?_; rotate_left; intro h3; clear_value s3)
  with_reducible refine Moves.ite ?_ ?_
  with_reducible refine Moves.step ?_ (dieShutdown_mv _ _ _ _) rfl
  assumption
  with_reducible exact Moves.refl _ _
  subst s2
  with_reducible refine Moves.step ?_ (setDie_mv _ _ _) rfl
  with_reducible exact Moves.refl _ _
  subst s3
  with_reducible refine Moves.step ?_ (raiseJ_mv _ _ _ _ _ _) rfl
  assumption

theorem compareDie_mv (x0 : State) (x1 : Fin 18) (x2 : Nat) : Moves 536870896 x0 (compareDie x0 x1 x2) := by
  unfold compareDie
  split
  with_reducible exact Moves.refl _ _
  lift_lets
  (intro c3; clear_value c3)
  (intro c4; clear_value c4)
  (intro c5; clear_value c5)
  (intro c6; clear_value c6)
  (intro s7; refine Moves.cut (P := Moves 536870896 x0 s7) ?_ ?_; rotate_left; intro h7; clear_value s7)
  (intro s8; refine Moves.cut (P := Moves 536870896 x0 s8) ?_ ?_; rotate_left; intro h8; clear_value s8)
  (intro s9; refine Moves.cut (P := Moves 536870896 x0 s9) ?_ ?_; rotate_left; intro h9; clear_value s9)
  with_reducible refine Moves.ite ?_ ?_
  with_reducible refine Moves.step ?_ (dieShutdown_mv _ _ _ _) rfl
  assumption
  assumption
  subst s7
  with_reducible refine Moves.step ?_ (settleBuckets_mv _ _) rfl
  with_reducible refine Moves.step ?_ (setDie_mv _ _ _) rfl
  with_reducible exact Moves.refl _ _
  subst s8
  with_reducible refine Moves.ite ?_ ?_
  with_reducible refine Moves.step ?_ (raise_mv _ _ _ _ _ _) rfl
  assumption
  assumption
  subst s9
  with_reducible refine Moves.ite ?_ ?_
  with_reducible refine Moves.step ?_ (raiseLim_mv _ _ _ _ _ _ _ _ _ _) rfl
  assumption
  assumption

theorem refreshRate_mv (x0 : State) (x1 : Nat) : Moves 2064 x0 (refreshRate x0 x1) := by
  unfold refreshRate
  split
  with_reducible exact Moves.refl _ _
  lift_lets
  (intro c3; clear_value c3)
  (intro c4; subst c4)
  with_reducible refine Moves.ite ?_ ?_
  dsimp -zeta only
  (with_reducible refine Moves.foldl _ _ ?_ ?_; rotate_left; intro _ _ _)
  with_reducible refine Moves.step ?_ (State.modPc_mv _ _ _) rfl
  assumption
  with_reducible refine Moves.ite ?_ ?_
  dsimp -zeta only
  (with_reducible refine Moves.foldl _ _ ?_ ?_; rotate_left; intro _ _ _)
  with_reducible refine Moves.step ?_ (State.modPc_mv _ _ _) rfl
  assumption
  with_reducible exact Moves.refl _ _
  with_reducible exact Moves.refl _ _
  with_reducible exact Moves.refl _ _

theorem inferRound_mv (x0 : State) : Moves 536870896 x0 (inferRound x0) := by
  unfold inferRound
  split
  with_reducible refine Moves.step ?_ (checkAllBroken_mv _ _) rfl
  with_reducible exact Moves.mk' (m := 536870896) (Moves.refl _ _) (.inl rfl) (.inl rfl) (.inl rfl) (.inl rfl) (.inl rfl) (.inl rfl) (.inl rfl) (.inl rfl) (.inl rfl) (by rfl) (by rfl) (.inl rfl) (.inl rfl) (.inl rfl) (.inl rfl) (.inl rfl) (.inl rfl) (.inl rfl) (.inl rfl) (.inl rfl) (.inl rfl) (.inl rfl) (.inl rfl) (.inl rfl) (.inl rfl) (.inl rfl) (.inl rfl)
  lift_lets
  (intro c4; clear_value c4)
  (intro s5; refine Moves.cut (P := Moves 536870896 x0 s5) ?_ ?_; rotate_left; intro h5; clear_value s5)
  (intro c6; clear_value c6)
  (intro c7; clear_value c7)
  (intro c8; clear_value c8)
  (intro c9; clear_value c9)
  (intro s10; refine Moves.cut (P := Moves 536870896 x0 s10) ?_ ?_; rotate_left; intro h10; clear_value s10)
  (intro c11; clear_value c11)
  (intro c12; clear_value c12)
  (intro s13; refine Moves.cut (P := Moves 536870896 x0 s13) ?_ ?_; rotate_left; intro h13; clear_value s13)
  (intro s14; refine Moves.cut (P := Moves 536870896 x0 s14) ?_ ?_; rotate_left; intro h14; clear_value s14)
  with_reducible refine Moves.ite ?_ ?_
  with_reducible refine Moves.step ?_ (compareDie_mv _ _ _) rfl
  assumption
  assumption
  subst s5
  with_reducible exact Moves.mk' (m := 536870896) (Moves.refl _ _) (.inl rfl) (.inl rfl) (.inl rfl) (.inl rfl) (.inl rfl) (.inl rfl) (.inl rfl) (.inl rfl) (.inl rfl) (by rfl) (by rfl) (.inl rfl) (.inl rfl) (.inl rfl) (.inl rfl) (.inl rfl) (.inl rfl) (.inl rfl) (.inl rfl) (.inl rfl) (.inl rfl) (.inl rfl) (.inl rfl) (.inl rfl) (.inl rfl) (.inl rfl) (.inl rfl)
  subst s10
  with_reducible exact Moves.mk' (m := 536870896) (by assumption) (.inl rfl) (.inl rfl) (.inl rfl) (.inl rfl) (.inl rfl) (.inl rfl) (.inl rfl) (.inl rfl) (.inl rfl) (by rfl) (by rfl) (.inl rfl) (.inl rfl) (.inl rfl) (.inl rfl) (.inl rfl) (.inl rfl) (.inl rfl) (.inl rfl) (.inl rfl) (.inl rfl) (.inl rfl) (.inl rfl) (.inl rfl) (.inl rfl) (.inl rfl) (.inl rfl)
  subst s13
  with_reducible exact Moves.mk' (m := 536870896) (by assumption) (.inl rfl) (.inl rfl) (.inl rfl) (.inl rfl) (.inl rfl) (.inl rfl) (.inl rfl) (.inl rfl) (.inl rfl) (by rfl) (by rfl) (.inl rfl) (.inl rfl) (.inl rfl) (.inl rfl) (.inl rfl) (.inl rfl) (.inl rfl) (.inl rfl) (.inl rfl) (.inl rfl) (.inl rfl) (.inl rfl) (.inl rfl) (.inl rfl) (.inl rfl) (.inl rfl)
  subst s14
  with_reducible refine Moves.ite ?_ ?_
  with_reducible refine Moves.step ?_ (raiseJ_mv _ _ _ _ _ _) rfl
  assumption
  assumption

theorem xingSeen_mv (x0 : State) (x1 : XingCheck) : Moves 1024 x0 (xingSeen x0 x1) := by
  unfold xingSeen
  with_reducible refine Moves.ite ?_ ?_
  lift_lets
  (intro c2; clear_value c2)
  (intro c3; clear_value c3)
  (intro c4; clear_value c4)
  with_reducible exact Moves.mk' (m := 1024) (Moves.refl _ _) (.inr rfl) (.inr rfl) (.inr rfl) (.inr rfl) (.inr rfl) (.inr rfl) (.inl rfl) (.inr rfl) (.inr rfl) rfl rfl (.inr rfl) (.inr rfl) (.inr rfl) (.inr rfl) (.inr rfl) (.inr rfl) (.inr rfl) (.inr rfl) (.inr rfl) (.inr rfl) (.inr rfl) (.inr rfl) (.inr rfl) (.inr rfl) (.inr rfl) (.inr rfl)
  with_reducible exact Moves.refl _ _

theorem crossingCheck_mv (x0 : State) (x1 : List XingCheck) : Moves 1520 x0 (crossingCheck x0 x1) := by
  unfold crossingCheck
  lift_lets
  (intro s1; refine Moves.cut (P := Moves 1520 x0 s1) ?_ ?_; rotate_left; intro h1; clear_value s1)
  (with_reducible refine Moves.foldl _ _ ?_ ?_; rotate_left; intro _ _ _)
  with_reducible refine Moves.ite ?_ ?_
  with_reducible refine Moves.step ?_ (raise_mv _ _ _ _ _ _) rfl
  assumption
  assumption
  subst s1
  (with_reducible refine Moves.foldl _ _ ?_ ?_; rotate_left; intro _ _ _)
  with_reducible refine Moves.step ?_ (xingSeen_mv _ _) rfl
  assumption
  assumption
  with_reducible exact Moves.refl _ _

theorem shadowVote_mv (x0 : State) : Moves 496 x0 (shadowVote x0) := by
  unfold shadowVote
  lift_lets
  (intro c1; subst c1)
  (with_reducible refine Moves.foldl _ _ ?_ ?_; rotate_left; intro _ _ _; dsimp -zeta only)
  lift_lets
  (intro c4; clear_value c4)
  dsimp -zeta only
  lift_lets
  (intro s7; refine Moves.cut (P := Moves 496 x0 s7) ?_ ?_; rotate_left; intro h7; clear_value s7)
  split
  assumption
  lift_lets
  (intro c11; clear_value c11)
  (intro c12; clear_value c12)
  with_reducible refine Moves.ite ?_ ?_
  with_reducible refine Moves.step ?_ (csrSet_mv _ _ _) rfl
  assumption
  split
  with_reducible refine Moves.step ?_ (raise_mv _ _ _ _ _ _) rfl
  with_reducible refine Moves.step ?_ (csrSet_mv _ _ _) rfl
  assumption
  with_reducible refine Moves.step ?_ (raiseJ_mv _ _ _ _ _ _) rfl
  assumption
  with_reducible exact Moves.refl _ _
  subst s7
  with_reducible exact Moves.mk' (m := 496) (by assumption) (.inl rfl) (.inl rfl) (.inl rfl) (.inl rfl) (.inl rfl) (.inr rfl) (.inr rfl) (.inr rfl) (.inr rfl) rfl rfl (.inr rfl) (.inr rfl) (.inr rfl) (.inr rfl) (.inr rfl) (.inr rfl) (.inr rfl) (.inr rfl) (.inr rfl) (.inr rfl) (.inr rfl) (.inr rfl) (.inr rfl) (.inr rfl) (.inr rfl) (.inr rfl)

theorem roundEnd_mv (x0 : State) (x1 : List XingCheck) : Moves 536870896 x0 (roundEnd x0 x1) := by
  unfold roundEnd
  lift_lets
  (intro s1; refine Moves.cut (P := Moves 536870896 x0 s1) ?_ ?_; rotate_left; intro h1; clear_value s1)
  (intro c2; clear_value c2)
  (intro c3; clear_value c3)
  with_reducible refine Moves.step ?_ (shadowVote_mv _) rfl
  with_reducible refine Moves.step ?_ (crossingCheck_mv _ _) rfl
  with_reducible exact Moves.mk' (m := 536870896) (by assumption) (.inl rfl) (.inl rfl) (.inl rfl) (.inl rfl) (.inl rfl) (.inl rfl) (.inl rfl) (.inl rfl) (.inl rfl) (by rfl) (by rfl) (.inl rfl) (.inl rfl) (.inl rfl) (.inl rfl) (.inl rfl) (.inl rfl) (.inl rfl) (.inl rfl) (.inl rfl) (.inl rfl) (.inl rfl) (.inl rfl) (.inl rfl) (.inl rfl) (.inl rfl) (.inl rfl)
  subst s1
  with_reducible refine Moves.step ?_ (inferRound_mv _) rfl
  with_reducible exact Moves.refl _ _

theorem stepTime_mv (x0 : State) (x1 : Nat) : Moves 4194320 x0 (stepTime x0 x1) := by
  unfold stepTime
  with_reducible refine Moves.ite ?_ ?_
  lift_lets
  (intro c2; clear_value c2)
  (intro c3; clear_value c3)
  (intro s4; refine Moves.cut (P := Moves 4194320 x0 s4) ?_ ?_; rotate_left; intro h4; clear_value s4)
  with_reducible refine Moves.ite ?_ ?_
  assumption
  with_reducible refine Moves.step ?_ (bump_mv _ _ _) rfl
  assumption
  with_reducible exact Moves.refl _ _
  subst s4
  with_reducible exact Moves.mk' (m := 4194320) (Moves.refl _ _) (.inl rfl) (.inr rfl) (.inr rfl) (.inr rfl) (.inr rfl) (.inr rfl) (.inr rfl) (.inr rfl) (.inr rfl) rfl rfl (.inr rfl) (.inr rfl) (.inr rfl) (.inr rfl) (.inr rfl) (.inr rfl) (.inr rfl) (.inr rfl) (.inr rfl) (.inl rfl) (.inr rfl) (.inr rfl) (.inr rfl) (.inr rfl) (.inr rfl) (.inr rfl)

theorem watchRead_mv (x0 : State) (x1 : Fin 128) (x2 : Nat) (x3 : Nat) (x4 : List XingCheck) (x5 : Bool) : Moves 536870896 x0 (watchRead x0 x1 x2 x3 x4 x5) := by
  unfold watchRead
  lift_lets
  (intro s1; refine Moves.cut (P := Moves 536870896 x0 s1) ?_ ?_; rotate_left; intro h1; clear_value s1)
  (intro s2; refine Moves.cut (P := Moves 536870896 x0 s2) ?_ ?_; rotate_left; intro h2; clear_value s2)
  (intro c3; clear_value c3)
  (intro c4; clear_value c4)
  (intro c5; clear_value c5)
  (intro s6; refine Moves.cut (P := Moves 536870896 x0 s6) ?_ ?_; rotate_left; intro h6; clear_value s6)
  (intro s7; refine Moves.cut (P := Moves 536870896 x0 s7) ?_ ?_; rotate_left; intro h7; clear_value s7)
  (intro s8; refine Moves.cut (P := Moves 536870896 x0 s8) ?_ ?_; rotate_left; intro h8; clear_value s8)
  (intro s9; refine Moves.cut (P := Moves 536870896 x0 s9) ?_ ?_; rotate_left; intro h9; clear_value s9)
  (intro c10; clear_value c10)
  (intro s11; refine Moves.cut (P := Moves 536870896 x0 s11) ?_ ?_; rotate_left; intro h11; clear_value s11)
  (intro s12; refine Moves.cut (P := Moves 536870896 x0 s12) ?_ ?_; rotate_left; intro h12; clear_value s12)
  (intro s13; refine Moves.cut (P := Moves 536870896 x0 s13) ?_ ?_; rotate_left; intro h13; clear_value s13)
  (intro s14; refine Moves.cut (P := Moves 536870896 x0 s14) ?_ ?_; rotate_left; intro h14; clear_value s14)
  with_reducible refine Moves.ite ?_ ?_
  with_reducible refine Moves.step ?_ (resumeService_mv _) rfl
  assumption
  assumption
  subst s1
  with_reducible refine Moves.step ?_ (State.atLeast_mv _ _) rfl
  with_reducible exact Moves.refl _ _
  subst s2
  with_reducible refine Moves.step ?_ (stepTime_mv _ _) rfl
  assumption
  subst s6
  with_reducible exact Moves.mk' (m := 536870896) (by assumption) (.inl rfl) (.inl rfl) (.inl rfl) (.inl rfl) (.inl rfl) (.inl rfl) (.inl rfl) (.inl rfl) (.inl rfl) (by rfl) (by rfl) (.inl rfl) (.inl rfl) (.inl rfl) (.inl rfl) (.inl rfl) (.inl rfl) (.inl rfl) (.inl rfl) (.inl rfl) (.inl rfl) (.inl rfl) (.inl rfl) (.inl rfl) (.inl rfl) (.inl rfl) (.inl rfl)
  subst s7
  with_reducible refine Moves.ite ?_ ?_
  with_reducible refine Moves.step ?_ (raiseJ_mv _ _ _ _ _ _) rfl
  assumption
  assumption
  subst s8
  with_reducible refine Moves.step ?_ (railEvent_mv _ _ _ _) rfl
  assumption
  subst s9
  with_reducible refine Moves.ite ?_ ?_
  with_reducible refine Moves.step ?_ (transitAbort_mv _ _) rfl
  assumption
  assumption
  subst s11
  with_reducible refine Moves.step ?_ (compareDie_mv _ _ _) rfl
  with_reducible refine Moves.step ?_ (checkAllBroken_mv _ _) rfl
  assumption
  subst s12
  with_reducible refine Moves.ite ?_ ?_
  with_reducible refine Moves.ite ?_ ?_
  with_reducible refine Moves.step ?_ (refreshRate_mv _ _) rfl
  assumption
  assumption
  assumption
  subst s13
  with_reducible refine Moves.ite ?_ ?_
  with_reducible refine Moves.step ?_ (roundEnd_mv _ _) rfl
  assumption
  assumption
  subst s14
  with_reducible refine Moves.step ?_ (critical_mv _) rfl
  assumption

end Sys2Proof.Machine
end

