-- ==== Sys2Proof/Laws/FrameAlmanac.lean ====
section
/-! SUPPORT. What each operation of Machine/Almanac.lean may change, one lemma an operation (`<name>_mv`): the components its
mask names, and nothing else of the state. -/

namespace Sys2Proof.Machine

theorem flushEntries_mv (x0 : State) (x1 : List Nat) : Moves 22544 x0 (flushEntries x0 x1) := by
  unfold flushEntries
  with_reducible refine Moves.step ?_ (ownWrites_mv _ _) rfl
  with_reducible exact Moves.refl _ _

theorem flushUnit_mv (x0 : State) : Moves 22608 x0 (flushUnit x0) := by
  unfold flushUnit
  lift_lets
  (intro c1; clear_value c1)
  (intro c2; clear_value c2)
  (intro s3; refine Moves.cut (P := Moves 22608 x0 s3) ?_ ?_; rotate_left; intro h3; clear_value s3)
  (intro c4; clear_value c4)
  with_reducible exact Moves.mk' (m := 22608) (by assumption) (.inl rfl) (.inr rfl) (.inl rfl) (.inr rfl) (.inr rfl) (.inr rfl) (.inr rfl) (.inl rfl) (.inl rfl) (by rfl) (by rfl) (.inr rfl) (.inl rfl) (.inr rfl) (.inr rfl) (.inr rfl) (.inr rfl) (.inr rfl) (.inr rfl) (.inr rfl) (.inr rfl) (.inr rfl) (.inr rfl) (.inr rfl) (.inr rfl) (.inr rfl) (.inr rfl)
  subst s3
  with_reducible refine Moves.step ?_ (flushEntries_mv _ _) rfl
  with_reducible exact Moves.refl _ _

theorem flushJournal_mv (x0 : State) : Moves 22608 x0 (flushJournal x0) := by
  unfold flushJournal
  lift_lets
  (intro c1; clear_value c1)
  (intro s2; refine Moves.cut (P := Moves 22608 x0 s2) ?_ ?_; rotate_left; intro h2; clear_value s2)
  (intro c3; clear_value c3)
  with_reducible exact Moves.mk' (m := 22608) (by assumption) (.inl rfl) (.inr rfl) (.inl rfl) (.inr rfl) (.inr rfl) (.inr rfl) (.inr rfl) (.inl rfl) (.inl rfl) (by rfl) (by rfl) (.inr rfl) (.inl rfl) (.inr rfl) (.inr rfl) (.inr rfl) (.inr rfl) (.inr rfl) (.inr rfl) (.inr rfl) (.inr rfl) (.inr rfl) (.inr rfl) (.inr rfl) (.inr rfl) (.inr rfl) (.inr rfl)
  subst s2
  with_reducible refine Moves.step ?_ (flushEntries_mv _ _) rfl
  with_reducible exact Moves.refl _ _

theorem execJournalUnitFlush_mv (x0 : State) : MovesO 22608 x0 (execJournalUnitFlush x0) := by
  unfold execJournalUnitFlush
  with_reducible refine MovesO.ite ?_ ?_
  with_reducible refine MovesO.next ?_
  with_reducible exact Moves.refl _ _
  with_reducible refine MovesO.ite ?_ ?_
  with_reducible refine MovesO.next ?_
  with_reducible exact Moves.refl _ _
  with_reducible refine MovesO.ite ?_ ?_
  with_reducible refine MovesO.next ?_
  with_reducible refine Moves.step ?_ (flushUnit_mv _) rfl
  with_reducible exact Moves.refl _ _
  with_reducible refine MovesO.next ?_
  with_reducible refine Moves.step ?_ (flushUnit_mv _) rfl
  with_reducible refine Moves.step ?_ (State.atLeast_mv _ _) rfl
  with_reducible exact Moves.refl _ _

theorem startLookup_mv (x0 : State) (x1 : Nat) (x2 : Option Nat) : Moves 64 x0 (startLookup x0 x1 x2) := by
  unfold startLookup
  with_reducible exact Moves.mk' (m := 64) (Moves.refl _ _) (.inr rfl) (.inr rfl) (.inl rfl) (.inr rfl) (.inr rfl) (.inr rfl) (.inr rfl) (.inr rfl) (.inr rfl) rfl rfl (.inr rfl) (.inr rfl) (.inr rfl) (.inr rfl) (.inr rfl) (.inr rfl) (.inr rfl) (.inr rfl) (.inr rfl) (.inr rfl) (.inr rfl) (.inr rfl) (.inr rfl) (.inr rfl) (.inr rfl) (.inr rfl)

theorem lookup_mv (x0 : State) : Moves 64 x0 (lookup x0) := by
  unfold lookup
  lift_lets
  (intro c1; clear_value c1)
  (intro c2; clear_value c2)
  (intro c3; clear_value c3)
  (intro c4; clear_value c4)
  (intro c5; clear_value c5)
  with_reducible refine Moves.ite ?_ ?_
  with_reducible exact Moves.mk' (m := 64) (Moves.refl _ _) (.inr rfl) (.inr rfl) (.inl rfl) (.inr rfl) (.inr rfl) (.inr rfl) (.inr rfl) (.inr rfl) (.inr rfl) rfl rfl (.inr rfl) (.inr rfl) (.inr rfl) (.inr rfl) (.inr rfl) (.inr rfl) (.inr rfl) (.inr rfl) (.inr rfl) (.inr rfl) (.inr rfl) (.inr rfl) (.inr rfl) (.inr rfl) (.inr rfl) (.inr rfl)
  with_reducible exact Moves.mk' (m := 64) (Moves.refl _ _) (.inr rfl) (.inr rfl) (.inl rfl) (.inr rfl) (.inr rfl) (.inr rfl) (.inr rfl) (.inr rfl) (.inr rfl) rfl rfl (.inr rfl) (.inr rfl) (.inr rfl) (.inr rfl) (.inr rfl) (.inr rfl) (.inr rfl) (.inr rfl) (.inr rfl) (.inr rfl) (.inr rfl) (.inr rfl) (.inr rfl) (.inr rfl) (.inr rfl) (.inr rfl)

theorem execAlmanacLookupDone_mv (x0 : State) : MovesO 64 x0 (execAlmanacLookupDone x0) := by
  unfold execAlmanacLookupDone
  with_reducible refine MovesO.whenDo ?_ ?_
  with_reducible exact Moves.refl _ _
  with_reducible refine Moves.step ?_ (lookup_mv _) rfl
  with_reducible exact Moves.refl _ _

theorem nextLookup_mv (x0 : State) : Moves 64 x0 (nextLookup x0) := by
  unfold nextLookup
  with_reducible refine Moves.ite ?_ ?_
  with_reducible refine Moves.step ?_ (startLookup_mv _ _ _) rfl
  with_reducible exact Moves.refl _ _
  with_reducible exact Moves.refl _ _

theorem evtCfg_mv (x0 : State) (x1 : Nat) (x2 : Nat) : Moves 496 x0 (evtCfg x0 x1 x2) := by
  unfold evtCfg
  with_reducible refine Moves.step ?_ (raise_mv _ _ _ _ _ _) rfl
  with_reducible exact Moves.refl _ _

theorem wxRequest_mv (x0 : State) (x1 : Nat) : Moves 402653200 x0 (wxRequest x0 x1) := by
  unfold wxRequest
  lift_lets
  intro c1
  (intro c2; clear_value c2)
  (intro c3; clear_value c3)
  split
  dsimp -zeta only
  lift_lets
  (intro s7; refine Moves.cut (P := Moves 402653200 x0 s7) ?_ ?_; rotate_left; intro h7; clear_value s7)
  (intro c8; clear_value c8)
  dsimp -zeta only
  with_reducible exact Moves.mk' (m := 402653200) (by assumption) (.inl rfl) (.inr rfl) (.inr rfl) (.inr rfl) (.inr rfl) (.inr rfl) (.inr rfl) (.inr rfl) (.inr rfl) rfl rfl (.inr rfl) (.inr rfl) (.inr rfl) (.inr rfl) (.inr rfl) (.inr rfl) (.inr rfl) (.inr rfl) (.inr rfl) (.inr rfl) (.inr rfl) (.inr rfl) (.inr rfl) (.inr rfl) (.inl rfl) (.inl rfl)
  split
  dsimp -zeta only
  lift_lets
  (intro s14; refine Moves.cut (P := Moves 402653200 x0 s14) ?_ ?_; rotate_left; intro h14; clear_value s14)
  (intro c15; clear_value c15)
  dsimp -zeta only
  with_reducible exact Moves.mk' (m := 402653200) (by assumption) (.inl rfl) (.inr rfl) (.inr rfl) (.inr rfl) (.inr rfl) (.inr rfl) (.inr rfl) (.inr rfl) (.inr rfl) rfl rfl (.inr rfl) (.inr rfl) (.inr rfl) (.inr rfl) (.inr rfl) (.inr rfl) (.inr rfl) (.inr rfl) (.inr rfl) (.inr rfl) (.inr rfl) (.inr rfl) (.inr rfl) (.inr rfl) (.inl rfl) (.inl rfl)
  dsimp -zeta only
  lift_lets
  (intro s20; refine Moves.cut (P := Moves 402653200 x0 s20) ?_ ?_; rotate_left; intro h20; clear_value s20)
  (intro c21; clear_value c21)
  dsimp -zeta only
  with_reducible exact Moves.mk' (m := 402653200) (by assumption) (.inl rfl) (.inr rfl) (.inr rfl) (.inr rfl) (.inr rfl) (.inr rfl) (.inr rfl) (.inr rfl) (.inr rfl) rfl rfl (.inr rfl) (.inr rfl) (.inr rfl) (.inr rfl) (.inr rfl) (.inr rfl) (.inr rfl) (.inr rfl) (.inr rfl) (.inr rfl) (.inr rfl) (.inr rfl) (.inr rfl) (.inr rfl) (.inl rfl) (.inl rfl)
  subst s7
  with_reducible refine Moves.step ?_ (State.atLeast_mv _ _) rfl
  with_reducible exact Moves.refl _ _
  subst s14
  with_reducible refine Moves.step ?_ (State.atLeast_mv _ _) rfl
  with_reducible exact Moves.refl _ _
  subst s20
  with_reducible refine Moves.step ?_ (State.atLeast_mv _ _) rfl
  with_reducible exact Moves.refl _ _

theorem stackWrite_mv (x0 : State) (x1 : Nat) (x2 : Block) : Moves 536870896 x0 (stackWrite x0 x1 x2) := by
  unfold stackWrite
  with_reducible refine Moves.step ?_ (poisonClear_mv _ _) rfl
  with_reducible refine Moves.step ?_ (writeNow_mv _ _ _ _) rfl
  with_reducible exact Moves.refl _ _

theorem ringWrite_mv (x0 : State) (x1 : Fin 4) (x2 : EvRec) (x3 : List EvRec) : Moves 536870896 x0 (ringWrite x0 x1 x2 x3) := by
  unfold ringWrite
  lift_lets
  (intro c1; clear_value c1)
  (intro c2; clear_value c2)
  (intro c3; clear_value c3)
  (intro c4; clear_value c4)
  (intro c5; clear_value c5)
  (intro c6; clear_value c6)
  (intro c7; clear_value c7)
  (intro s8; refine Moves.cut (P := Moves 536870896 x0 s8) ?_ ?_; rotate_left; intro h8; clear_value s8)
  (intro c9; clear_value c9)
  (intro c10; clear_value c10)
  (intro c11; clear_value c11)
  with_reducible exact Moves.mk' (m := 536870896) (by assumption) (.inl rfl) (.inl rfl) (.inl rfl) (.inl rfl) (.inl rfl) (.inl rfl) (.inl rfl) (.inl rfl) (.inl rfl) (by rfl) (by rfl) (.inl rfl) (.inl rfl) (.inl rfl) (.inl rfl) (.inl rfl) (.inl rfl) (.inl rfl) (.inl rfl) (.inl rfl) (.inl rfl) (.inl rfl) (.inl rfl) (.inl rfl) (.inl rfl) (.inl rfl) (.inl rfl)
  subst s8
  with_reducible refine Moves.step ?_ (stackWrite_mv _ _ _) rfl
  with_reducible refine Moves.step ?_ (wxRequest_mv _ _) rfl
  with_reducible exact Moves.refl _ _

theorem execEventRecordWrite_mv (x0 : Fin 4) (x1 : State) : MovesO 536870896 x1 (execEventRecordWrite x0 x1) := by
  unfold execEventRecordWrite
  lift_lets
  (intro c1; clear_value c1)
  split
  with_reducible refine MovesO.next ?_
  with_reducible exact Moves.refl _ _
  with_reducible refine MovesO.whenDo ?_ ?_
  with_reducible exact Moves.refl _ _
  with_reducible refine Moves.step ?_ (ringWrite_mv _ _ _ _) rfl
  with_reducible exact Moves.refl _ _

theorem writeEvRingCfg_mv (x0 : State) (x1 : Fin 4) (x2 : Nat) : Moves 496 x0 (writeEvRingCfg x0 x1 x2) := by
  unfold writeEvRingCfg
  lift_lets
  (intro c1; clear_value c1)
  (intro c2; clear_value c2)
  (intro c3; clear_value c3)
  (intro c4; clear_value c4)
  (intro s5; refine Moves.cut (P := Moves 496 x0 s5) ?_ ?_; rotate_left; intro h5; clear_value s5)
  (intro c6; subst c6)
  (intro s7; refine Moves.cut (P := Moves 496 x0 s7) ?_ ?_; rotate_left; intro h7; clear_value s7)
  (intro s8; refine Moves.cut (P := Moves 496 x0 s8) ?_ ?_; rotate_left; intro h8; clear_value s8)
  (intro s9; refine Moves.cut (P := Moves 496 x0 s9) ?_ ?_; rotate_left; intro h9; clear_value s9)
  (intro c10; clear_value c10)
  with_reducible refine Moves.ite ?_ ?_
  with_reducible refine Moves.ite ?_ ?_
  assumption
  with_reducible refine Moves.ite ?_ ?_
  dsimp -zeta only
  lift_lets
  (intro c17; clear_value c17)
  dsimp -zeta only
  with_reducible exact Moves.mk' (m := 496) (by assumption) (.inl rfl) (.inl rfl) (.inl rfl) (.inl rfl) (.inl rfl) (.inr rfl) (.inr rfl) (.inr rfl) (.inr rfl) rfl rfl (.inr rfl) (.inr rfl) (.inr rfl) (.inr rfl) (.inr rfl) (.inr rfl) (.inr rfl) (.inr rfl) (.inr rfl) (.inr rfl) (.inr rfl) (.inr rfl) (.inr rfl) (.inr rfl) (.inr rfl) (.inr rfl)
  with_reducible refine Moves.step ?_ (evtCfg_mv _ _ _) rfl
  with_reducible refine Moves.step ?_ (csrSet_mv _ _ _) rfl
  assumption
  with_reducible refine Moves.ite ?_ ?_
  dsimp -zeta only
  lift_lets
  (intro c26; clear_value c26)
  dsimp -zeta only
  with_reducible exact Moves.mk' (m := 496) (by assumption) (.inl rfl) (.inl rfl) (.inl rfl) (.inl rfl) (.inl rfl) (.inr rfl) (.inr rfl) (.inr rfl) (.inr rfl) rfl rfl (.inr rfl) (.inr rfl) (.inr rfl) (.inr rfl) (.inr rfl) (.inr rfl) (.inr rfl) (.inr rfl) (.inr rfl) (.inr rfl) (.inr rfl) (.inr rfl) (.inr rfl) (.inr rfl) (.inr rfl) (.inr rfl)
  assumption
  subst s5
  with_reducible refine Moves.step ?_ (csrSet_mv _ _ _) rfl
  with_reducible exact Moves.refl _ _
  subst s7
  with_reducible refine Moves.step ?_ (csrSet_mv _ _ _) rfl
  assumption
  subst s8
  with_reducible refine Moves.step ?_ (csrSet_mv _ _ _) rfl
  assumption
  subst s9
  with_reducible refine Moves.step ?_ (csrSet_mv _ _ _) rfl
  assumption

theorem writeEvHead_mv (x0 : State) (x1 : Fin 4) (x2 : Nat) : Moves 496 x0 (writeEvHead x0 x1 x2) := by
  unfold writeEvHead
  lift_lets
  (intro c1; clear_value c1)
  (intro c2; clear_value c2)
  (intro c3; clear_value c3)
  (intro c4; clear_value c4)
  (intro c5; clear_value c5)
  (intro s6; refine Moves.cut (P := Moves 496 x0 s6) ?_ ?_; rotate_left; intro h6; clear_value s6)
  (intro c7; clear_value c7)
  with_reducible refine Moves.ite ?_ ?_
  with_reducible exact Moves.mk' (m := 496) (by assumption) (.inl rfl) (.inl rfl) (.inl rfl) (.inl rfl) (.inl rfl) (.inr rfl) (.inr rfl) (.inr rfl) (.inr rfl) rfl rfl (.inr rfl) (.inr rfl) (.inr rfl) (.inr rfl) (.inr rfl) (.inr rfl) (.inr rfl) (.inr rfl) (.inr rfl) (.inr rfl) (.inr rfl) (.inr rfl) (.inr rfl) (.inr rfl) (.inr rfl) (.inr rfl)
  with_reducible refine Moves.step ?_ (evtCfg_mv _ _ _) rfl
  with_reducible exact Moves.refl _ _
  subst s6
  with_reducible refine Moves.step ?_ (csrSet_mv _ _ _) rfl
  with_reducible exact Moves.refl _ _

theorem writeFatalAck_mv (x0 : State) (x1 : Nat) : Moves 128 x0 (writeFatalAck x0 x1) := by
  unfold writeFatalAck
  with_reducible exact Moves.mk' (m := 128) (Moves.refl _ _) (.inr rfl) (.inr rfl) (.inr rfl) (.inl rfl) (.inr rfl) (.inr rfl) (.inr rfl) (.inr rfl) (.inr rfl) rfl rfl (.inr rfl) (.inr rfl) (.inr rfl) (.inr rfl) (.inr rfl) (.inr rfl) (.inr rfl) (.inr rfl) (.inr rfl) (.inr rfl) (.inr rfl) (.inr rfl) (.inr rfl) (.inr rfl) (.inr rfl) (.inr rfl)

theorem mfifoPop_mv (x0 : State) : Moves 128 x0 (mfifoPop x0) := by
  unfold mfifoPop
  lift_lets
  (intro c1; clear_value c1)
  (intro c2; clear_value c2)
  with_reducible exact Moves.mk' (m := 128) (Moves.refl _ _) (.inr rfl) (.inr rfl) (.inr rfl) (.inl rfl) (.inr rfl) (.inr rfl) (.inr rfl) (.inr rfl) (.inr rfl) rfl rfl (.inr rfl) (.inr rfl) (.inr rfl) (.inr rfl) (.inr rfl) (.inr rfl) (.inr rfl) (.inr rfl) (.inr rfl) (.inr rfl) (.inr rfl) (.inr rfl) (.inr rfl) (.inr rfl) (.inr rfl) (.inr rfl)

theorem execSmbusAlertResponse_mv (x0 : State) : MovesO 144 x0 (execSmbusAlertResponse x0) := by
  unfold execSmbusAlertResponse
  with_reducible refine MovesO.whenDo ?_ ?_
  with_reducible exact Moves.refl _ _
  with_reducible exact Moves.mk' (m := 144) (Moves.refl _ _) (.inl rfl) (.inr rfl) (.inr rfl) (.inl rfl) (.inr rfl) (.inr rfl) (.inr rfl) (.inr rfl) (.inr rfl) rfl rfl (.inr rfl) (.inr rfl) (.inr rfl) (.inr rfl) (.inr rfl) (.inr rfl) (.inr rfl) (.inr rfl) (.inr rfl) (.inr rfl) (.inr rfl) (.inr rfl) (.inr rfl) (.inr rfl) (.inr rfl) (.inr rfl)

end Sys2Proof.Machine
end

