-- ==== Sys2Proof/Laws/FrameLinkCtl.lean ====
section
/-! SUPPORT. What each operation of Machine/LinkCtl.lean may change, one lemma an operation (`<name>_mv`): the components its
mask names, and nothing else of the state. -/

namespace Sys2Proof.Machine

theorem settleLink_mv (x0 : State) (x1 : Port) : Moves 256 x0 (settleLink x0 x1) := by
  unfold settleLink
  with_reducible refine Moves.ite ?_ ?_
  with_reducible refine Moves.step ?_ (State.modPort_mv _ _ _) rfl
  with_reducible exact Moves.refl _ _
  with_reducible exact Moves.refl _ _

theorem flitAccept_mv (x0 : State) (x1 : Port) (x2 : Block) (x3 : Word) : Moves 512 x0 (flitAccept x0 x1 x2 x3) := by
  unfold flitAccept
  with_reducible refine Moves.step ?_ (State.modLink_mv _ _ _) rfl
  with_reducible exact Moves.refl _ _

theorem flitReject_mv (x0 : State) (x1 : Port) (x2 : Block) (x3 : Word) : Moves 528 x0 (flitReject x0 x1 x2 x3) := by
  unfold flitReject
  lift_lets
  (intro s1; refine Moves.cut (P := Moves 528 x0 s1) ?_ ?_; rotate_left; intro h1; clear_value s1)
  with_reducible refine Moves.step ?_ (bump_mv _ _ _) rfl
  assumption
  subst s1
  with_reducible refine Moves.step ?_ (State.modLink_mv _ _ _) rfl
  with_reducible exact Moves.refl _ _

theorem flitHeld_mv (x0 : State) (x1 : Port) (x2 : Block) (x3 : Word) : Moves 512 x0 (flitHeld x0 x1 x2 x3) := by
  unfold flitHeld
  with_reducible refine Moves.step ?_ (State.modLink_mv _ _ _) rfl
  with_reducible exact Moves.refl _ _

theorem linkReplay_mv (x0 : State) (x1 : Port) : Moves 496 x0 (linkReplay x0 x1) := by
  unfold linkReplay
  lift_lets
  (intro c1; clear_value c1)
  (intro c2; clear_value c2)
  (intro c3; clear_value c3)
  (intro c4; clear_value c4)
  split
  with_reducible exact Moves.refl _ _
  with_reducible refine Moves.step ?_ (raise_mv _ _ _ _ _ _) rfl
  with_reducible refine Moves.step ?_ (limitSet_mv _ _ _) rfl
  with_reducible exact Moves.refl _ _

theorem resend_mv (x0 : State) (x1 : Port) (x2 : Nat) : Moves 1008 x0 (resend x0 x1 x2) := by
  unfold resend
  lift_lets
  (intro c1; clear_value c1)
  (intro s2; refine Moves.cut (P := Moves 1008 x0 s2) ?_ ?_; rotate_left; intro h2; clear_value s2)
  with_reducible refine Moves.step ?_ (linkReplay_mv _ _) rfl
  with_reducible refine Moves.step ?_ (bump_mv _ _ _) rfl
  assumption
  subst s2
  with_reducible refine Moves.step ?_ (State.modLink_mv _ _ _) rfl
  with_reducible exact Moves.refl _ _

theorem execResendStart_mv (x0 : Port) (x1 : State) : MovesO 1008 x1 (execResendStart x0 x1) := by
  unfold execResendStart
  split
  with_reducible refine MovesO.next ?_
  with_reducible exact Moves.refl _ _
  with_reducible refine MovesO.whenDo ?_ ?_
  with_reducible exact Moves.refl _ _
  with_reducible refine Moves.step ?_ (resend_mv _ _ _) rfl
  with_reducible exact Moves.refl _ _

theorem execReplayStorm_mv (x0 : Port) (x1 : State) : MovesO 16845808 x1 (execReplayStorm x0 x1) := by
  unfold execReplayStorm
  with_reducible refine MovesO.whenDo ?_ ?_
  with_reducible exact Moves.refl _ _
  with_reducible refine Moves.step ?_ (failPort_mv _ _ _ _) rfl
  with_reducible exact Moves.refl _ _

theorem declareLane_mv (x0 : State) (x1 : Port) (x2 : Nat) : Moves 151330800 x0 (declareLane x0 x1 x2) := by
  unfold declareLane
  lift_lets
  (intro s1; refine Moves.cut (P := Moves 151330800 x0 s1) ?_ ?_; rotate_left; intro h1; clear_value s1)
  (intro c2; clear_value c2)
  (intro c3; clear_value c3)
  (intro c4; clear_value c4)
  with_reducible refine Moves.ite ?_ ?_
  with_reducible refine Moves.step ?_ (State.modLink_mv _ _ _) rfl
  assumption
  split
  with_reducible refine Moves.step ?_ (failPort_mv _ _ _ _) rfl
  assumption
  lift_lets
  (intro c12; clear_value c12)
  (intro s13; refine Moves.cut (P := Moves 151330800 x0 s13) ?_ ?_; rotate_left; intro h13; clear_value s13)
  (intro s14; refine Moves.cut (P := Moves 151330800 x0 s14) ?_ ?_; rotate_left; intro h14; clear_value s14)
  (intro s15; refine Moves.cut (P := Moves 151330800 x0 s15) ?_ ?_; rotate_left; intro h15; clear_value s15)
  with_reducible refine Moves.step ?_ (pctlSend_mv _ _ _ _ _) rfl
  assumption
  subst s1
  with_reducible refine Moves.step ?_ (State.modLink_mv _ _ _) rfl
  with_reducible exact Moves.refl _ _
  subst s13
  with_reducible refine Moves.step ?_ (transitSpareTaken_mv _ _) rfl
  assumption
  subst s14
  with_reducible refine Moves.step ?_ (State.modPort_mv _ _ _) rfl
  assumption
  subst s15
  with_reducible refine Moves.step ?_ (State.modLink_mv _ _ _) rfl
  assumption

theorem nextRepair_mv (x0 : State) (x1 : Port) : Moves 151330800 x0 (nextRepair x0 x1) := by
  unfold nextRepair
  with_reducible refine Moves.ite ?_ ?_
  with_reducible exact Moves.refl _ _
  split
  with_reducible exact Moves.refl _ _
  with_reducible refine Moves.step ?_ (declareLane_mv _ _ _) rfl
  with_reducible refine Moves.step ?_ (State.modLink_mv _ _ _) rfl
  with_reducible exact Moves.refl _ _

theorem repairStep_mv (x0 : State) (x1 : Port) : Moves 151330800 x0 (repairStep x0 x1) := by
  unfold repairStep
  with_reducible refine Moves.step ?_ (settleLink_mv _ _) rfl
  with_reducible refine Moves.step ?_ (nextRepair_mv _ _) rfl
  with_reducible exact Moves.refl _ _

theorem execNop_mv (x0 : Port) (x1 : NopSlot) (x2 : State) : MovesO 151330800 x2 (execNop x0 x1 x2) := by
  unfold execNop
  with_reducible refine MovesO.whenDo ?_ ?_
  with_reducible exact Moves.refl _ _
  with_reducible refine Moves.step ?_ (repairStep_mv _ _) rfl
  with_reducible refine Moves.step ?_ (linkSlot_mv _ _ _ _) rfl
  with_reducible exact Moves.refl _ _

theorem execFlitLinkCheck_mv (x0 : Port) (x1 : Block) (x2 : Word) (x3 : State) : MovesO 151330800 x3 (execFlitLinkCheck x0 x1 x2 x3) := by
  unfold execFlitLinkCheck
  with_reducible refine MovesO.whenDo ?_ ?_
  with_reducible exact Moves.refl _ _
  with_reducible refine Moves.ite ?_ ?_
  with_reducible refine Moves.step ?_ (flitHeld_mv _ _ _ _) rfl
  with_reducible exact Moves.refl _ _
  with_reducible refine Moves.ite ?_ ?_
  with_reducible refine Moves.step ?_ (repairStep_mv _ _) rfl
  with_reducible refine Moves.step ?_ (flitAccept_mv _ _ _ _) rfl
  with_reducible exact Moves.refl _ _
  with_reducible refine Moves.step ?_ (flitReject_mv _ _ _ _) rfl
  with_reducible exact Moves.refl _ _

theorem ovrMoved_mv (x0 : State) (x1 : Nat) : Moves 496 x0 (ovrMoved x0 x1) := by
  unfold ovrMoved
  with_reducible refine Moves.ite ?_ ?_
  lift_lets
  (intro c2; clear_value c2)
  (intro c3; clear_value c3)
  split
  with_reducible refine Moves.step ?_ (raise_mv _ _ _ _ _ _) rfl
  with_reducible exact Moves.refl _ _
  with_reducible exact Moves.refl _ _
  with_reducible exact Moves.refl _ _

theorem markLaneFailed_mv (x0 : State) (x1 : Nat) : Moves 1520 x0 (markLaneFailed x0 x1) := by
  unfold markLaneFailed
  lift_lets
  (intro s1; refine Moves.cut (P := Moves 1520 x0 s1) ?_ ?_; rotate_left; intro h1; clear_value s1)
  (intro c2; clear_value c2)
  (intro c3; clear_value c3)
  with_reducible exact Moves.mk' (m := 1520) (by assumption) (.inl rfl) (.inl rfl) (.inl rfl) (.inl rfl) (.inl rfl) (.inr rfl) (.inl rfl) (.inr rfl) (.inr rfl) rfl rfl (.inr rfl) (.inr rfl) (.inr rfl) (.inr rfl) (.inr rfl) (.inr rfl) (.inr rfl) (.inr rfl) (.inr rfl) (.inr rfl) (.inr rfl) (.inr rfl) (.inr rfl) (.inr rfl) (.inr rfl) (.inr rfl)
  subst s1
  with_reducible refine Moves.step ?_ (ovrMoved_mv _ _) rfl
  with_reducible exact Moves.refl _ _

theorem execDownstreamLaneFailed_mv (x0 : Port) (x1 : Nat) (x2 : State) : MovesO 151330800 x2 (execDownstreamLaneFailed x0 x1 x2) := by
  unfold execDownstreamLaneFailed
  with_reducible refine MovesO.ite ?_ ?_
  with_reducible refine MovesO.whenDo ?_ ?_
  with_reducible exact Moves.refl _ _
  with_reducible refine Moves.step ?_ (declareLane_mv _ _ _) rfl
  with_reducible refine Moves.step ?_ (markLaneFailed_mv _ _) rfl
  with_reducible exact Moves.refl _ _
  with_reducible refine MovesO.whenDo ?_ ?_
  with_reducible exact Moves.refl _ _
  with_reducible refine Moves.step ?_ (markLaneFailed_mv _ _) rfl
  with_reducible exact Moves.refl _ _

theorem execHckFault_mv (x0 : Port) (x1 : State) : MovesO 16845808 x1 (execHckFault x0 x1) := by
  unfold execHckFault
  with_reducible refine MovesO.whenDo ?_ ?_
  with_reducible exact Moves.refl _ _
  with_reducible refine Moves.step ?_ (failPort_mv _ _ _ _) rfl
  with_reducible exact Moves.refl _ _

theorem remapUp_mv (x0 : State) (x1 : Port) (x2 : Nat) : Moves 151330800 x0 (remapUp x0 x1 x2) := by
  unfold remapUp
  lift_lets
  (intro c1; clear_value c1)
  (intro c2; clear_value c2)
  (intro s3; refine Moves.cut (P := Moves 151330800 x0 s3) ?_ ?_; rotate_left; intro h3; clear_value s3)
  (intro c4; clear_value c4)
  (intro s5; refine Moves.cut (P := Moves 151330800 x0 s5) ?_ ?_; rotate_left; intro h5; clear_value s5)
  (intro s6; refine Moves.cut (P := Moves 151330800 x0 s6) ?_ ?_; rotate_left; intro h6; clear_value s6)
  (intro s7; refine Moves.cut (P := Moves 151330800 x0 s7) ?_ ?_; rotate_left; intro h7; clear_value s7)
  (intro s8; refine Moves.cut (P := Moves 151330800 x0 s8) ?_ ?_; rotate_left; intro h8; clear_value s8)
  with_reducible refine Moves.ite ?_ ?_
  with_reducible refine Moves.step ?_ (failPort_mv _ _ _ _) rfl
  with_reducible exact Moves.refl _ _
  with_reducible refine Moves.step ?_ (recordDue_mv _ _ _) rfl
  assumption
  subst s3
  with_reducible refine Moves.step ?_ (transitSpareTaken_mv _ _) rfl
  with_reducible exact Moves.refl _ _
  subst s5
  with_reducible refine Moves.step ?_ (State.modPort_mv _ _ _) rfl
  assumption
  subst s6
  with_reducible refine Moves.step ?_ (State.modLink_mv _ _ _) rfl
  assumption
  subst s7
  with_reducible refine Moves.step ?_ (pctlSend_mv _ _ _ _ _) rfl
  assumption
  subst s8
  with_reducible refine Moves.step ?_ (remapEvents_mv _ _ _ _ _) rfl
  assumption

theorem execRemap_mv (x0 : Port) (x1 : BitVec 16) (x2 : State) : MovesO 151330800 x2 (execRemap x0 x1 x2) := by
  unfold execRemap
  lift_lets
  intro c1
  with_reducible refine MovesO.whenDo ?_ ?_
  with_reducible exact Moves.refl _ _
  with_reducible refine Moves.step ?_ (remapUp_mv _ _ _) rfl
  with_reducible exact Moves.refl _ _

theorem remapDown_mv (x0 : State) (x1 : Port) (x2 : Nat) : Moves 151330800 x0 (remapDown x0 x1 x2) := by
  unfold remapDown
  lift_lets
  (intro c1; clear_value c1)
  (intro s2; refine Moves.cut (P := Moves 151330800 x0 s2) ?_ ?_; rotate_left; intro h2; clear_value s2)
  (intro s3; refine Moves.cut (P := Moves 151330800 x0 s3) ?_ ?_; rotate_left; intro h3; clear_value s3)
  (intro s4; refine Moves.cut (P := Moves 151330800 x0 s4) ?_ ?_; rotate_left; intro h4; clear_value s4)
  with_reducible refine Moves.step ?_ (repairStep_mv _ _) rfl
  with_reducible refine Moves.step ?_ (recordDue_mv _ _ _) rfl
  assumption
  subst s2
  with_reducible refine Moves.step ?_ (State.modPort_mv _ _ _) rfl
  with_reducible exact Moves.refl _ _
  subst s3
  with_reducible refine Moves.step ?_ (State.modLink_mv _ _ _) rfl
  assumption
  subst s4
  with_reducible refine Moves.step ?_ (remapEvents_mv _ _ _ _ _) rfl
  assumption

theorem execRemapDone_mv (x0 : Port) (x1 : BitVec 16) (x2 : State) : MovesO 151330800 x2 (execRemapDone x0 x1 x2) := by
  unfold execRemapDone
  with_reducible refine MovesO.whenDo ?_ ?_
  with_reducible exact Moves.refl _ _
  with_reducible refine Moves.step ?_ (remapDown_mv _ _ _) rfl
  with_reducible exact Moves.refl _ _

theorem startReset_mv (x0 : State) (x1 : Port) : Moves 16780032 x0 (startReset x0 x1) := by
  unfold startReset
  lift_lets
  (intro s1; refine Moves.cut (P := Moves 16780032 x0 s1) ?_ ?_; rotate_left; intro h1; clear_value s1)
  (intro s2; refine Moves.cut (P := Moves 16780032 x0 s2) ?_ ?_; rotate_left; intro h2; clear_value s2)
  (intro s3; refine Moves.cut (P := Moves 16780032 x0 s3) ?_ ?_; rotate_left; intro h3; clear_value s3)
  (intro s4; refine Moves.cut (P := Moves 16780032 x0 s4) ?_ ?_; rotate_left; intro h4; clear_value s4)
  with_reducible refine Moves.step ?_ (pctlSend_mv _ _ _ _ _) rfl
  assumption
  subst s1
  with_reducible refine Moves.step ?_ (State.modPort_mv _ _ _) rfl
  with_reducible exact Moves.refl _ _
  subst s2
  with_reducible refine Moves.step ?_ (discardPort_mv _ _) rfl
  assumption
  subst s3
  with_reducible refine Moves.step ?_ (State.modPort_mv _ _ _) rfl
  assumption
  subst s4
  with_reducible refine Moves.step ?_ (State.modLink_mv _ _ _) rfl
  assumption

theorem execPortReset_mv (x0 : Port) (x1 : State) : MovesO 16780032 x1 (execPortReset x0 x1) := by
  unfold execPortReset
  lift_lets
  (intro c1; clear_value c1)
  with_reducible refine MovesO.whenDo ?_ ?_
  with_reducible exact Moves.refl _ _
  with_reducible refine Moves.step ?_ (startReset_mv _ _) rfl
  with_reducible exact Moves.refl _ _

theorem endReset_mv (x0 : State) (x1 : Port) : Moves 1008 x0 (endReset x0 x1) := by
  unfold endReset
  lift_lets
  (intro c1; clear_value c1)
  (intro c2; clear_value c2)
  (intro s3; refine Moves.cut (P := Moves 1008 x0 s3) ?_ ?_; rotate_left; intro h3; clear_value s3)
  (intro s4; refine Moves.cut (P := Moves 1008 x0 s4) ?_ ?_; rotate_left; intro h4; clear_value s4)
  (intro s5; refine Moves.cut (P := Moves 1008 x0 s5) ?_ ?_; rotate_left; intro h5; clear_value s5)
  with_reducible refine Moves.step ?_ (raiseX_mv _ _ _ _ _ _ _ _ _) rfl
  assumption
  subst s3
  with_reducible refine Moves.step ?_ (portUp_mv _ _) rfl
  with_reducible exact Moves.refl _ _
  subst s4
  with_reducible refine Moves.step ?_ (pctlSend_mv _ _ _ _ _) rfl
  assumption
  subst s5
  with_reducible refine Moves.step ?_ (journal_mv _ _ _ _) rfl
  assumption

theorem execPortResetDone_mv (x0 : Port) (x1 : State) : MovesO 1008 x1 (execPortResetDone x0 x1) := by
  unfold execPortResetDone
  with_reducible refine MovesO.whenDo ?_ ?_
  with_reducible exact Moves.refl _ _
  with_reducible refine Moves.step ?_ (endReset_mv _ _) rfl
  with_reducible exact Moves.refl _ _

theorem execPortFail_mv (x0 : Port) (x1 : BitVec 16) (x2 : State) : MovesO 16845808 x2 (execPortFail x0 x1 x2) := by
  unfold execPortFail
  lift_lets
  (intro c1; clear_value c1)
  with_reducible refine MovesO.whenDo ?_ ?_
  with_reducible exact Moves.refl _ _
  with_reducible refine Moves.step ?_ (failPort_mv _ _ _ _) rfl
  with_reducible exact Moves.refl _ _

theorem execPctlFrameInvalid_mv (x0 : Port) (x1 : Byte) (x2 : BitVec 16) (x3 : Byte) (x4 : State) : MovesO 1008 x4 (execPctlFrameInvalid x0 x1 x2 x3 x4) := by
  unfold execPctlFrameInvalid
  lift_lets
  (intro c1; clear_value c1)
  (intro s2; refine Moves.cut (P := Moves 1008 x4 s2) ?_ ?_; rotate_left; intro h2; clear_value s2)
  with_reducible refine MovesO.whenDo ?_ ?_
  with_reducible exact Moves.refl _ _
  with_reducible refine Moves.step ?_ (raise_mv _ _ _ _ _ _) rfl
  assumption
  subst s2
  with_reducible refine Moves.ite ?_ ?_
  with_reducible refine Moves.step ?_ (State.modLink_mv _ _ _) rfl
  with_reducible exact Moves.refl _ _
  with_reducible exact Moves.refl _ _

theorem openStep_mv (x0 : State) (x1 : Port) (x2 : Bool) (x3 : Nat) : Moves 512 x0 (openStep x0 x1 x2 x3) := by
  unfold openStep
  lift_lets
  (intro s1; refine Moves.cut (P := Moves 512 x0 s1) ?_ ?_; rotate_left; intro h1; clear_value s1)
  with_reducible refine Moves.step ?_ (pctlSend_mv _ _ _ _ _) rfl
  assumption
  subst s1
  with_reducible refine Moves.step ?_ (State.modLink_mv _ _ _) rfl
  with_reducible exact Moves.refl _ _

theorem downStep_mv (x0 : Port) (x1 : State) (x2 : Nat) : Moves 528 x1 (downStep x0 x1 x2) := by
  unfold downStep
  lift_lets
  (intro s1; refine Moves.cut (P := Moves 528 x1 s1) ?_ ?_; rotate_left; intro h1; clear_value s1)
  (intro s2; refine Moves.cut (P := Moves 528 x1 s2) ?_ ?_; rotate_left; intro h2; clear_value s2)
  with_reducible refine Moves.step ?_ (State.atLeast_mv _ _) rfl
  assumption
  subst s1
  with_reducible refine Moves.ite ?_ ?_
  (with_reducible refine Moves.foldl _ _ ?_ ?_; rotate_left; intro _ _ _)
  with_reducible refine Moves.step ?_ (pctlSend_mv _ _ _ _ _) rfl
  assumption
  with_reducible exact Moves.refl _ _
  subst s2
  with_reducible refine Moves.step ?_ (pctlSend_mv _ _ _ _ _) rfl
  assumption
  with_reducible exact Moves.refl _ _

theorem trnReady_mv (x0 : State) (x1 : Port) (x2 : Bool) : Moves 528 x0 (trnReady x0 x1 x2) := by
  unfold trnReady
  lift_lets
  (intro s1; refine Moves.cut (P := Moves 528 x0 s1) ?_ ?_; rotate_left; intro h1; clear_value s1)
  with_reducible refine Moves.step ?_ (openStep_mv _ _ _ _) rfl
  (with_reducible refine Moves.foldl _ _ ?_ ?_; rotate_left; intro _ _ _)
  with_reducible refine Moves.step ?_ (downStep_mv _ _ _) rfl
  assumption
  subst s1
  with_reducible refine Moves.step ?_ (State.modLink_mv _ _ _) rfl
  with_reducible exact Moves.refl _ _
  assumption

theorem execTrnAck_mv (x0 : Port) (x1 : BitVec 16) (x2 : State) : MovesO 528 x2 (execTrnAck x0 x1 x2) := by
  unfold execTrnAck
  split
  with_reducible refine MovesO.whenDo ?_ ?_
  with_reducible exact Moves.refl _ _
  with_reducible refine Moves.step ?_ (trnReady_mv _ _ _) rfl
  with_reducible exact Moves.refl _ _
  with_reducible refine MovesO.next ?_
  with_reducible exact Moves.refl _ _

theorem execPhaseDone_mv (x0 : Port) (x1 : BitVec 16) (x2 : State) : MovesO 512 x2 (execPhaseDone x0 x1 x2) := by
  unfold execPhaseDone
  split
  with_reducible refine MovesO.ite ?_ ?_
  split
  with_reducible refine MovesO.next ?_
  with_reducible refine Moves.step ?_ (pctlSend_mv _ _ _ _ _) rfl
  with_reducible refine Moves.step ?_ (State.modLink_mv _ _ _) rfl
  with_reducible exact Moves.refl _ _
  with_reducible refine MovesO.next ?_
  with_reducible refine Moves.step ?_ (State.modLink_mv _ _ _) rfl
  with_reducible exact Moves.refl _ _
  with_reducible refine MovesO.next ?_
  with_reducible exact Moves.refl _ _
  with_reducible refine MovesO.next ?_
  with_reducible exact Moves.refl _ _

theorem trnAbandon_mv (x0 : State) (x1 : Port) (x2 : Nat) : Moves 16845808 x0 (trnAbandon x0 x1 x2) := by
  unfold trnAbandon
  with_reducible refine Moves.step ?_ (failPort_mv _ _ _ _) rfl
  with_reducible refine Moves.step ?_ (raise_mv _ _ _ _ _ _) rfl
  with_reducible refine Moves.step ?_ (pctlSend_mv _ _ _ _ _) rfl
  with_reducible exact Moves.refl _ _

theorem execPctlAnswerTimeout_mv (x0 : Port) (x1 : State) : MovesO 16845808 x1 (execPctlAnswerTimeout x0 x1) := by
  unfold execPctlAnswerTimeout
  split
  lift_lets
  (intro s2; refine Moves.cut (P := Moves 16845808 x1 s2) ?_ ?_; rotate_left; intro h2; clear_value s2)
  with_reducible refine MovesO.next ?_
  with_reducible refine Moves.ite ?_ ?_
  with_reducible refine Moves.step ?_ (State.modLink_mv _ _ _) rfl
  with_reducible refine Moves.step ?_ (pctlSend_mv _ _ _ _ _) rfl
  assumption
  with_reducible refine Moves.step ?_ (failPort_mv _ _ _ _) rfl
  assumption
  split
  with_reducible refine MovesO.next ?_
  with_reducible refine Moves.step ?_ (trnAbandon_mv _ _ _) rfl
  with_reducible refine Moves.step ?_ (State.atLeast_mv _ _) rfl
  with_reducible exact Moves.refl _ _
  with_reducible refine MovesO.next ?_
  with_reducible exact Moves.refl _ _
  subst s2
  with_reducible refine Moves.step ?_ (State.atLeast_mv _ _) rfl
  with_reducible exact Moves.refl _ _

theorem execLaneBad_mv (x0 : Port) (x1 : BitVec 16) (x2 : State) : MovesO 512 x2 (execLaneBad x0 x1 x2) := by
  unfold execLaneBad
  split
  with_reducible refine MovesO.whenDo ?_ ?_
  with_reducible exact Moves.refl _ _
  with_reducible refine Moves.step ?_ (State.modLink_mv _ _ _) rfl
  with_reducible exact Moves.refl _ _
  with_reducible refine MovesO.next ?_
  with_reducible exact Moves.refl _ _

theorem execTrnFail_mv (x0 : Port) (x1 : BitVec 16) (x2 : State) : MovesO 16845808 x2 (execTrnFail x0 x1 x2) := by
  unfold execTrnFail
  split
  with_reducible refine MovesO.next ?_
  with_reducible exact Moves.refl _ _
  with_reducible refine MovesO.next ?_
  with_reducible refine Moves.step ?_ (failPort_mv _ _ _ _) rfl
  with_reducible refine Moves.step ?_ (raise_mv _ _ _ _ _ _) rfl
  with_reducible exact Moves.refl _ _

end Sys2Proof.Machine
end

