-- ==== Sys2Proof/Laws/FrameTraining.lean ====
section
/-! SUPPORT. What each operation of Machine/Training.lean may change, one lemma an operation (`<name>_mv`): the components its
mask names, and nothing else of the state. -/

namespace Sys2Proof.Machine

theorem laneSet_mv (x0 : State) (x1 : Nat) (x2 : Lane) : Moves 1024 x0 (laneSet x0 x1 x2) := by
  unfold laneSet
  with_reducible exact Moves.mk' (m := 1024) (Moves.refl _ _) (.inr rfl) (.inr rfl) (.inr rfl) (.inr rfl) (.inr rfl) (.inr rfl) (.inl rfl) (.inr rfl) (.inr rfl) rfl rfl (.inr rfl) (.inr rfl) (.inr rfl) (.inr rfl) (.inr rfl) (.inr rfl) (.inr rfl) (.inr rfl) (.inr rfl) (.inr rfl) (.inr rfl) (.inr rfl) (.inr rfl) (.inr rfl) (.inr rfl) (.inr rfl)

theorem trainLanes_mv (x0 : State) (x1 : Nat) (x2 : LaneSweep → Lane → Lane × Bool) (x3 : List LaneSweep) : Moves 1024 x0 (trainLanes x0 x1 x2 x3).2 := by
  unfold trainLanes
  (with_reducible refine Moves.foldl_snd _ _ _ ?_ ?_; rotate_left; intro _ _ _)
  lift_lets
  (intro c2; clear_value c2)
  (intro c3; clear_value c3)
  dsimp -zeta only
  with_reducible refine Moves.step ?_ (laneSet_mv _ _ _) rfl
  with_reducible assumption
  with_reducible exact Moves.refl _ _

theorem markWrites_mv (x0 : Nat) (x1 : List LaneSweep) (x2 : State) : Moves 1024 x2 (markWrites x0 x1 x2) := by
  unfold markWrites
  (with_reducible refine Moves.foldl _ _ ?_ ?_; rotate_left; intro _ _ _)
  with_reducible refine Moves.step ?_ (laneSet_mv _ _ _) rfl
  assumption
  with_reducible exact Moves.refl _ _

theorem sparesLow_mv (x0 : State) (x1 : Port) (x2 : Nat) (x3 : List (Option Nat)) (x4 : List (Option Nat)) (x5 : List Nat) : Moves 496 x0 (sparesLow x0 x1 x2 x3 x4 x5) := by
  unfold sparesLow
  lift_lets
  (intro c1; clear_value c1)
  with_reducible refine Moves.ite ?_ ?_
  with_reducible refine Moves.step ?_ (raise_mv _ _ _ _ _ _) rfl
  with_reducible exact Moves.refl _ _
  with_reducible exact Moves.refl _ _

theorem portTrained_mv (x0 : State) (x1 : Port) (x2 : Bool) (x3 : List Nat) (x4 : List Nat) : Moves 16846832 x0 (portTrained x0 x1 x2 x3 x4) := by
  unfold portTrained
  lift_lets
  (intro c1; clear_value c1)
  (intro c2; clear_value c2)
  split
  dsimp -zeta only
  lift_lets
  (intro c6; clear_value c6)
  (intro c7; clear_value c7)
  (intro s8; refine Moves.cut (P := Moves 16846832 x0 s8) ?_ ?_; rotate_left; intro h8; clear_value s8)
  (intro s9; refine Moves.cut (P := Moves 16846832 x0 s9) ?_ ?_; rotate_left; intro h9; clear_value s9)
  (intro s10; refine Moves.cut (P := Moves 16846832 x0 s10) ?_ ?_; rotate_left; intro h10; clear_value s10)
  (intro c11; clear_value c11)
  (intro s12; refine Moves.cut (P := Moves 16846832 x0 s12) ?_ ?_; rotate_left; intro h12; clear_value s12)
  (intro s13; refine Moves.cut (P := Moves 16846832 x0 s13) ?_ ?_; rotate_left; intro h13; clear_value s13)
  dsimp -zeta only
  with_reducible refine Moves.ite ?_ ?_
  with_reducible refine Moves.step ?_ (failPort_mv _ _ _ _) rfl
  assumption
  with_reducible refine Moves.ite ?_ ?_
  with_reducible refine Moves.step ?_ (State.modLink_mv _ _ _) rfl
  assumption
  with_reducible refine Moves.step ?_ (portUp_mv _ _) rfl
  assumption
  lift_lets
  (intro c24; clear_value c24)
  (intro c25; clear_value c25)
  (intro c26; clear_value c26)
  split
  dsimp -zeta only
  lift_lets
  (intro s30; refine Moves.cut (P := Moves 16846832 x0 s30) ?_ ?_; rotate_left; intro h30; clear_value s30)
  (intro s31; refine Moves.cut (P := Moves 16846832 x0 s31) ?_ ?_; rotate_left; intro h31; clear_value s31)
  (intro s32; refine Moves.cut (P := Moves 16846832 x0 s32) ?_ ?_; rotate_left; intro h32; clear_value s32)
  (intro s33; refine Moves.cut (P := Moves 16846832 x0 s33) ?_ ?_; rotate_left; intro h33; clear_value s33)
  (intro s34; refine Moves.cut (P := Moves 16846832 x0 s34) ?_ ?_; rotate_left; intro h34; clear_value s34)
  dsimp -zeta only
  with_reducible refine Moves.ite ?_ ?_
  with_reducible refine Moves.step ?_ (failPort_mv _ _ _ _) rfl
  assumption
  with_reducible refine Moves.ite ?_ ?_
  with_reducible refine Moves.step ?_ (State.modLink_mv _ _ _) rfl
  assumption
  with_reducible refine Moves.step ?_ (portUp_mv _ _) rfl
  assumption
  subst s8
  with_reducible refine Moves.step ?_ (State.modPort_mv _ _ _) rfl
  with_reducible exact Moves.refl _ _
  subst s9
  with_reducible refine Moves.ite ?_ ?_
  with_reducible refine Moves.step ?_ (recordDue_mv _ _ _) rfl
  assumption
  assumption
  subst s10
  with_reducible refine Moves.step ?_ (sparesLow_mv _ _ _ _ _ _) rfl
  with_reducible refine Moves.step ?_ (sparesLow_mv _ _ _ _ _ _) rfl
  assumption
  subst s12
  with_reducible refine Moves.ite ?_ ?_
  with_reducible refine Moves.step ?_ (pctlSend_mv _ _ _ _ _) rfl
  assumption
  with_reducible refine Moves.step ?_ (State.modLink_mv _ _ _) rfl
  assumption
  subst s13
  with_reducible refine Moves.step ?_ (raise_mv _ _ _ _ _ _) rfl
  assumption
  subst s30
  with_reducible refine Moves.step ?_ (State.modPort_mv _ _ _) rfl
  with_reducible exact Moves.refl _ _
  subst s31
  with_reducible refine Moves.ite ?_ ?_
  with_reducible refine Moves.step ?_ (recordDue_mv _ _ _) rfl
  assumption
  assumption
  subst s32
  with_reducible refine Moves.step ?_ (sparesLow_mv _ _ _ _ _ _) rfl
  with_reducible refine Moves.step ?_ (sparesLow_mv _ _ _ _ _ _) rfl
  assumption
  subst s33
  with_reducible refine Moves.ite ?_ ?_
  with_reducible refine Moves.step ?_ (pctlSend_mv _ _ _ _ _) rfl
  assumption
  with_reducible refine Moves.step ?_ (State.modLink_mv _ _ _) rfl
  assumption
  subst s34
  with_reducible refine Moves.step ?_ (raise_mv _ _ _ _ _ _) rfl
  assumption

theorem pcTrained_mv (x0 : State) (x1 : Pc) (x2 : Bool) (x3 : List Nat) : Moves 134221296 x0 (pcTrained x0 x1 x2 x3) := by
  unfold pcTrained
  lift_lets
  (intro c1; clear_value c1)
  split
  dsimp -zeta only
  lift_lets
  (intro c5; clear_value c5)
  dsimp -zeta only
  lift_lets
  (intro s8; refine Moves.cut (P := Moves 134221296 x0 s8) ?_ ?_; rotate_left; intro h8; clear_value s8)
  (intro s9; refine Moves.cut (P := Moves 134221296 x0 s9) ?_ ?_; rotate_left; intro h9; clear_value s9)
  with_reducible refine Moves.ite ?_ ?_
  assumption
  with_reducible refine Moves.step ?_ (goOffline_mv _ _) rfl
  assumption
  lift_lets
  (intro c15; clear_value c15)
  split
  lift_lets
  (intro s18; refine Moves.cut (P := Moves 134221296 x0 s18) ?_ ?_; rotate_left; intro h18; clear_value s18)
  (intro s19; refine Moves.cut (P := Moves 134221296 x0 s19) ?_ ?_; rotate_left; intro h19; clear_value s19)
  with_reducible refine Moves.ite ?_ ?_
  assumption
  with_reducible refine Moves.step ?_ (goOffline_mv _ _) rfl
  assumption
  subst s8
  with_reducible refine Moves.step ?_ (State.modPc_mv _ _ _) rfl
  with_reducible exact Moves.refl _ _
  subst s9
  with_reducible refine Moves.ite ?_ ?_
  with_reducible refine Moves.step ?_ (recordDue_mv _ _ _) rfl
  assumption
  assumption
  subst s18
  with_reducible refine Moves.step ?_ (State.modPc_mv _ _ _) rfl
  with_reducible exact Moves.refl _ _
  subst s19
  with_reducible refine Moves.ite ?_ ?_
  with_reducible refine Moves.step ?_ (recordDue_mv _ _ _) rfl
  assumption
  assumption

theorem untunable_mv (x0 : State) (x1 : Nat) (x2 : Nat) : Moves 56816 x0 (untunable x0 x1 x2) := by
  unfold untunable
  lift_lets
  (intro c1; clear_value c1)
  (intro s2; refine Moves.cut (P := Moves 56816 x0 s2) ?_ ?_; rotate_left; intro h2; clear_value s2)
  (intro s3; refine Moves.cut (P := Moves 56816 x0 s3) ?_ ?_; rotate_left; intro h3; clear_value s3)
  (intro c4; clear_value c4)
  with_reducible refine Moves.ite ?_ ?_
  with_reducible refine Moves.ite ?_ ?_
  assumption
  with_reducible refine Moves.step ?_ (disableWay_mv _ _) rfl
  with_reducible refine Moves.step ?_ (raiseJ_mv _ _ _ _ _ _) rfl
  assumption
  with_reducible refine Moves.step ?_ (raise_mv _ _ _ _ _ _) rfl
  with_reducible exact Moves.mk' (m := 56816) (by assumption) (.inl rfl) (.inl rfl) (.inl rfl) (.inl rfl) (.inl rfl) (.inr rfl) (.inl rfl) (.inl rfl) (.inl rfl) (by rfl) (by rfl) (.inr rfl) (.inl rfl) (.inl rfl) (.inr rfl) (.inr rfl) (.inr rfl) (.inr rfl) (.inr rfl) (.inr rfl) (.inr rfl) (.inr rfl) (.inr rfl) (.inr rfl) (.inr rfl) (.inr rfl) (.inr rfl)
  subst s2
  with_reducible exact Moves.mk' (m := 56816) (Moves.refl _ _) (.inl rfl) (.inl rfl) (.inl rfl) (.inl rfl) (.inl rfl) (.inr rfl) (.inl rfl) (.inl rfl) (.inl rfl) (by rfl) (by rfl) (.inr rfl) (.inl rfl) (.inl rfl) (.inr rfl) (.inr rfl) (.inr rfl) (.inr rfl) (.inr rfl) (.inr rfl) (.inr rfl) (.inr rfl) (.inr rfl) (.inr rfl) (.inr rfl) (.inr rfl) (.inr rfl)
  subst s3
  with_reducible refine Moves.step ?_ (raise_mv _ _ _ _ _ _) rfl
  assumption

theorem crossingTrained_mv (x0 : State) (x1 : List LaneSweep) : Moves 56816 x0 (crossingTrained x0 x1) := by
  unfold crossingTrained
  (with_reducible refine Moves.foldl _ _ ?_ ?_; rotate_left; intro _ _ _)
  with_reducible refine Moves.step ?_ (untunable_mv _ _ _) rfl
  assumption
  with_reducible exact Moves.mk' (m := 56816) (Moves.refl _ _) (.inl rfl) (.inl rfl) (.inl rfl) (.inl rfl) (.inl rfl) (.inr rfl) (.inl rfl) (.inl rfl) (.inl rfl) (by rfl) (by rfl) (.inr rfl) (.inl rfl) (.inl rfl) (.inr rfl) (.inr rfl) (.inr rfl) (.inr rfl) (.inr rfl) (.inr rfl) (.inr rfl) (.inr rfl) (.inr rfl) (.inr rfl) (.inr rfl) (.inr rfl) (.inr rfl)

theorem setRec_mv (x0 : State) (x1 : Fin 81) (x2 : CalRec → CalRec) : Moves 1024 x0 (setRec x0 x1 x2) := by
  unfold setRec
  with_reducible exact Moves.mk' (m := 1024) (Moves.refl _ _) (.inr rfl) (.inr rfl) (.inr rfl) (.inr rfl) (.inr rfl) (.inr rfl) (.inl rfl) (.inr rfl) (.inr rfl) rfl rfl (.inr rfl) (.inr rfl) (.inr rfl) (.inr rfl) (.inr rfl) (.inr rfl) (.inr rfl) (.inr rfl) (.inr rfl) (.inr rfl) (.inr rfl) (.inr rfl) (.inr rfl) (.inr rfl) (.inr rfl) (.inr rfl)

theorem trainTime_mv (x0 : State) (x1 : Region) : Moves 16 x0 (trainTime x0 x1) := by
  unfold trainTime
  split
  with_reducible refine Moves.step ?_ (State.atLeast_mv _ _) rfl
  with_reducible exact Moves.refl _ _
  with_reducible exact Moves.refl _ _

theorem fullTrain_mv (x0 : State) (x1 : Region) (x2 : List LaneSweep) : Moves 151117808 x0 (fullTrain x0 x1 x2) := by
  unfold fullTrain
  lift_lets
  (intro c1; clear_value c1)
  split
  lift_lets
  (intro s4; refine Moves.cut (P := Moves 151117808 x0 s4) ?_ ?_; rotate_left; intro h4; clear_value s4)
  (intro c5; clear_value c5)
  (intro s6; refine Moves.cut (P := Moves 151117808 x0 s6) ?_ ?_; rotate_left; intro h6; clear_value s6)
  (intro s7; refine Moves.cut (P := Moves 151117808 x0 s7) ?_ ?_; rotate_left; intro h7; clear_value s7)
  split
  with_reducible refine Moves.step ?_ (portTrained_mv _ _ _ _ _) rfl
  assumption
  with_reducible refine Moves.step ?_ (pcTrained_mv _ _ _ _) rfl
  assumption
  with_reducible refine Moves.step ?_ (crossingTrained_mv _ _) rfl
  assumption
  subst s4
  with_reducible refine Moves.step ?_ (markWrites_mv _ _ _) rfl
  with_reducible refine Moves.step ?_ (Moves.snd (by assumption) (trainLanes_mv _ _ _ _)) rfl
  with_reducible refine Moves.step ?_ (trainTime_mv _ _) rfl
  with_reducible exact Moves.refl _ _
  subst s6
  with_reducible refine Moves.ite ?_ ?_
  assumption
  with_reducible exact Moves.mk' (m := 151117808) (by assumption) (.inl rfl) (.inl rfl) (.inl rfl) (.inl rfl) (.inl rfl) (.inl rfl) (.inl rfl) (.inl rfl) (.inl rfl) (by rfl) (by rfl) (.inr rfl) (.inl rfl) (.inl rfl) (.inl rfl) (.inr rfl) (.inr rfl) (.inr rfl) (.inr rfl) (.inr rfl) (.inr rfl) (.inr rfl) (.inl rfl) (.inr rfl) (.inr rfl) (.inl rfl) (.inr rfl)
  subst s7
  with_reducible refine Moves.step ?_ (setRec_mv _ _ _) rfl
  assumption

theorem execFullTraining_mv (x0 : Region) (x1 : List LaneSweep) (x2 : State) : MovesO 151117808 x2 (execFullTraining x0 x1 x2) := by
  unfold execFullTraining
  with_reducible refine MovesO.whenDo ?_ ?_
  with_reducible exact Moves.refl _ _
  with_reducible refine Moves.step ?_ (fullTrain_mv _ _ _) rfl
  with_reducible exact Moves.refl _ _

theorem recordBad_mv (x0 : State) (x1 : Region) : Moves 496 x0 (recordBad x0 x1) := by
  unfold recordBad
  split
  with_reducible refine Moves.step ?_ (raise_mv _ _ _ _ _ _) rfl
  with_reducible exact Moves.refl _ _
  with_reducible refine Moves.step ?_ (raise_mv _ _ _ _ _ _) rfl
  with_reducible exact Moves.refl _ _
  with_reducible exact Moves.refl _ _

theorem restoreMap_mv (x0 : State) (x1 : Region) (x2 : List (Option Nat)) : Moves 2304 x0 (restoreMap x0 x1 x2) := by
  unfold restoreMap
  with_reducible refine Moves.ite ?_ ?_
  with_reducible exact Moves.refl _ _
  split
  with_reducible refine Moves.step ?_ (State.modPort_mv _ _ _) rfl
  with_reducible exact Moves.refl _ _
  with_reducible refine Moves.step ?_ (State.modPc_mv _ _ _) rfl
  with_reducible exact Moves.refl _ _
  with_reducible exact Moves.refl _ _

theorem loadLane_mv (x0 : Nat) (x1 : State) (x2 : Nat × CalLane) : Moves 1024 x1 (loadLane x0 x1 x2) := by
  unfold loadLane
  lift_lets
  (intro c1; clear_value c1)
  (intro c2; clear_value c2)
  with_reducible refine Moves.ite ?_ ?_
  with_reducible exact Moves.refl _ _
  with_reducible refine Moves.step ?_ (laneSet_mv _ _ _) rfl
  with_reducible exact Moves.refl _ _

theorem fastEvents_mv (x0 : State) (x1 : Region) (x2 : List LaneSweep) (x3 : List LaneSweep) : Moves 496 x0 (fastEvents x0 x1 x2 x3) := by
  unfold fastEvents
  split
  (with_reducible refine Moves.foldl _ _ ?_ ?_; rotate_left; intro _ _ _)
  with_reducible refine Moves.step ?_ (raise_mv _ _ _ _ _ _) rfl
  assumption
  with_reducible exact Moves.refl _ _
  with_reducible exact Moves.refl _ _

theorem checkDrift_mv (x0 : State) (x1 : Nat) (x2 : Nat) : Moves 1024 x0 (checkDrift x0 x1 x2) := by
  unfold checkDrift
  lift_lets
  intro c1
  (intro c2; clear_value c2)
  (intro c3; clear_value c3)
  (intro c4; clear_value c4)
  split
  with_reducible exact Moves.refl _ _
  lift_lets
  (intro c8; clear_value c8)
  with_reducible refine Moves.ite ?_ ?_
  with_reducible refine Moves.step ?_ (setRec_mv _ _ _) rfl
  with_reducible exact Moves.refl _ _
  with_reducible exact Moves.refl _ _

theorem needFull_mv (x0 : State) (x1 : Region) : Moves 2032 x0 (needFull x0 x1) := by
  unfold needFull
  lift_lets
  (intro c1; clear_value c1)
  (intro s2; refine Moves.cut (P := Moves 2032 x0 s2) ?_ ?_; rotate_left; intro h2; clear_value s2)
  with_reducible refine Moves.step ?_ (recordBad_mv _ _) rfl
  split
  with_reducible refine Moves.step ?_ (pctlSend_mv _ _ _ _ _) rfl
  with_reducible refine Moves.step ?_ (State.modLink_mv _ _ _) rfl
  assumption
  assumption
  subst s2
  with_reducible exact Moves.mk' (m := 2032) (Moves.refl _ _) (.inl rfl) (.inl rfl) (.inl rfl) (.inl rfl) (.inl rfl) (.inl rfl) (.inl rfl) (.inr rfl) (.inr rfl) rfl rfl (.inr rfl) (.inr rfl) (.inr rfl) (.inr rfl) (.inr rfl) (.inr rfl) (.inr rfl) (.inr rfl) (.inr rfl) (.inr rfl) (.inr rfl) (.inr rfl) (.inr rfl) (.inr rfl) (.inr rfl) (.inr rfl)

theorem fastTrain_mv (x0 : State) (x1 : Region) (x2 : List LaneSweep) : Moves 151117808 x0 (fastTrain x0 x1 x2) := by
  unfold fastTrain
  lift_lets
  intro c1
  (intro c2; clear_value c2)
  (intro s3; refine Moves.cut (P := Moves 151117808 x0 s3) ?_ ?_; rotate_left; intro h3; clear_value s3)
  split
  with_reducible refine Moves.step ?_ (needFull_mv _ _) rfl
  with_reducible exact Moves.refl _ _
  lift_lets
  (intro s8; refine Moves.cut (P := Moves 151117808 x0 s8) ?_ ?_; rotate_left; intro h8; clear_value s8)
  split
  lift_lets
  (intro s11; refine Moves.cut (P := Moves 151117808 x0 s11) ?_ ?_; rotate_left; intro h11; clear_value s11)
  (intro s12; refine Moves.cut (P := Moves 151117808 x0 s12) ?_ ?_; rotate_left; intro h12; clear_value s12)
  (intro s13; refine Moves.cut (P := Moves 151117808 x0 s13) ?_ ?_; rotate_left; intro h13; clear_value s13)
  (intro c14; clear_value c14)
  (intro s15; refine Moves.cut (P := Moves 151117808 x0 s15) ?_ ?_; rotate_left; intro h15; clear_value s15)
  split
  with_reducible refine Moves.step ?_ (portTrained_mv _ _ _ _ _) rfl
  assumption
  with_reducible refine Moves.step ?_ (pcTrained_mv _ _ _ _) rfl
  assumption
  with_reducible refine Moves.step ?_ (crossingTrained_mv _ _) rfl
  assumption
  subst s3
  with_reducible exact Moves.mk' (m := 151117808) (Moves.refl _ _) (.inl rfl) (.inl rfl) (.inl rfl) (.inl rfl) (.inl rfl) (.inl rfl) (.inl rfl) (.inl rfl) (.inl rfl) (by rfl) (by rfl) (.inr rfl) (.inl rfl) (.inl rfl) (.inl rfl) (.inr rfl) (.inr rfl) (.inr rfl) (.inr rfl) (.inr rfl) (.inr rfl) (.inr rfl) (.inl rfl) (.inr rfl) (.inr rfl) (.inl rfl) (.inr rfl)
  subst s8
  with_reducible refine Moves.step ?_ (restoreMap_mv _ _ _) rfl
  (with_reducible refine Moves.foldl _ _ ?_ ?_; rotate_left; intro _ _ _)
  with_reducible refine Moves.step ?_ (loadLane_mv _ _ _) rfl
  assumption
  subst s11
  with_reducible refine Moves.step ?_ (markWrites_mv _ _ _) rfl
  with_reducible refine Moves.step ?_ (Moves.snd (by assumption) (trainLanes_mv _ _ _ _)) rfl
  assumption
  subst s12
  with_reducible refine Moves.step ?_ (fastEvents_mv _ _ _ _) rfl
  assumption
  subst s13
  (with_reducible refine Moves.foldl _ _ ?_ ?_; rotate_left; intro _ _ _)
  with_reducible refine Moves.step ?_ (checkDrift_mv _ _ _) rfl
  assumption
  subst s15
  with_reducible exact Moves.mk' (m := 151117808) (by assumption) (.inl rfl) (.inl rfl) (.inl rfl) (.inl rfl) (.inl rfl) (.inl rfl) (.inl rfl) (.inl rfl) (.inl rfl) (by rfl) (by rfl) (.inr rfl) (.inl rfl) (.inl rfl) (.inl rfl) (.inr rfl) (.inr rfl) (.inr rfl) (.inr rfl) (.inr rfl) (.inr rfl) (.inr rfl) (.inl rfl) (.inr rfl) (.inr rfl) (.inl rfl) (.inr rfl)
  assumption
  assumption

theorem execFastTraining_mv (x0 : Region) (x1 : List LaneSweep) (x2 : State) : MovesO 151117808 x2 (execFastTraining x0 x1 x2) := by
  unfold execFastTraining
  with_reducible refine MovesO.whenDo ?_ ?_
  with_reducible exact Moves.refl _ _
  with_reducible refine Moves.step ?_ (fastTrain_mv _ _ _) rfl
  with_reducible exact Moves.refl _ _

theorem trainingLost_mv (x0 : State) (x1 : Pc) : Moves 3568 x0 (trainingLost x0 x1) := by
  unfold trainingLost
  lift_lets
  (intro s1; refine Moves.cut (P := Moves 3568 x0 s1) ?_ ?_; rotate_left; intro h1; clear_value s1)
  (intro c2; clear_value c2)
  (intro s3; refine Moves.cut (P := Moves 3568 x0 s3) ?_ ?_; rotate_left; intro h3; clear_value s3)
  with_reducible refine Moves.step ?_ (raise_mv _ _ _ _ _ _) rfl
  assumption
  subst s1
  with_reducible refine Moves.step ?_ (State.modPc_mv _ _ _) rfl
  with_reducible exact Moves.refl _ _
  subst s3
  with_reducible exact Moves.mk' (m := 3568) (by assumption) (.inl rfl) (.inl rfl) (.inl rfl) (.inl rfl) (.inl rfl) (.inr rfl) (.inl rfl) (.inl rfl) (.inr rfl) rfl rfl (.inr rfl) (.inr rfl) (.inr rfl) (.inr rfl) (.inr rfl) (.inr rfl) (.inr rfl) (.inr rfl) (.inr rfl) (.inr rfl) (.inr rfl) (.inr rfl) (.inr rfl) (.inr rfl) (.inr rfl) (.inr rfl)

theorem execPcTrainingLost_mv (x0 : Pc) (x1 : Bool) (x2 : State) : MovesO 3568 x2 (execPcTrainingLost x0 x1 x2) := by
  unfold execPcTrainingLost
  with_reducible refine MovesO.whenDo ?_ ?_
  with_reducible exact Moves.refl _ _
  with_reducible refine Moves.step ?_ (trainingLost_mv _ _) rfl
  with_reducible exact Moves.refl _ _

theorem activityAfter_mv (x0 : State) : Moves 1024 x0 (activityAfter x0) := by
  unfold activityAfter
  with_reducible refine Moves.ite ?_ ?_
  with_reducible exact Moves.mk' (m := 1024) (Moves.refl _ _) (.inr rfl) (.inr rfl) (.inr rfl) (.inr rfl) (.inr rfl) (.inr rfl) (.inl rfl) (.inr rfl) (.inr rfl) rfl rfl (.inr rfl) (.inr rfl) (.inr rfl) (.inr rfl) (.inr rfl) (.inr rfl) (.inr rfl) (.inr rfl) (.inr rfl) (.inr rfl) (.inr rfl) (.inr rfl) (.inr rfl) (.inr rfl) (.inr rfl) (.inr rfl)
  with_reducible exact Moves.refl _ _

theorem retrainDone_mv (x0 : State) (x1 : Pc) (x2 : Bool) : Moves 134237680 x0 (retrainDone x0 x1 x2) := by
  unfold retrainDone
  with_reducible refine Moves.ite ?_ ?_
  with_reducible refine Moves.step ?_ (activityAfter_mv _) rfl
  with_reducible refine Moves.step ?_ (State.modPc_mv _ _ _) rfl
  with_reducible refine Moves.step ?_ (wakePc_mv _ _ _) rfl
  with_reducible exact Moves.refl _ _
  lift_lets
  (intro s6; refine Moves.cut (P := Moves 134237680 x0 s6) ?_ ?_; rotate_left; intro h6; clear_value s6)
  with_reducible refine Moves.step ?_ (activityAfter_mv _) rfl
  with_reducible refine Moves.step ?_ (goOffline_mv _ _) rfl
  with_reducible refine Moves.step ?_ (State.modPc_mv _ _ _) rfl
  assumption
  subst s6
  with_reducible refine Moves.step ?_ (raise_mv _ _ _ _ _ _) rfl
  with_reducible exact Moves.refl _ _

theorem eyeMargin_mv (x0 : State) (x1 : Nat) (x2 : Nat) (x3 : Nat) (x4 : Nat) : Moves 496 x0 (eyeMargin x0 x1 x2 x3 x4) := by
  unfold eyeMargin
  lift_lets
  (intro c1; clear_value c1)
  (intro c2; clear_value c2)
  (intro c3; clear_value c3)
  with_reducible refine Moves.step ?_ (raiseLim_mv _ _ _ _ _ _ _ _ _ _) rfl
  with_reducible exact Moves.refl _ _

theorem calPeriod_mv (x0 : State) (x1 : Nat) (x2 : Nat) (x3 : CalMeas) : Moves 1520 x0 (calPeriod x0 x1 x2 x3) := by
  unfold calPeriod
  lift_lets
  (intro c1; clear_value c1)
  (intro s2; refine Moves.cut (P := Moves 1520 x0 s2) ?_ ?_; rotate_left; intro h2; clear_value s2)
  (intro c3; clear_value c3)
  (intro c4; clear_value c4)
  (intro c5; clear_value c5)
  (intro c6; clear_value c6)
  (intro c7; clear_value c7)
  (intro s8; refine Moves.cut (P := Moves 1520 x0 s8) ?_ ?_; rotate_left; intro h8; clear_value s8)
  with_reducible refine Moves.ite ?_ ?_
  with_reducible refine Moves.step ?_ (eyeMargin_mv _ _ _ _ _) rfl
  assumption
  assumption
  subst s2
  with_reducible refine Moves.ite ?_ ?_
  with_reducible refine Moves.step ?_ (State.atLeast_mv _ _) rfl
  with_reducible exact Moves.refl _ _
  with_reducible exact Moves.refl _ _
  subst s8
  with_reducible refine Moves.step ?_ (laneSet_mv _ _ _) rfl
  assumption

theorem execCalPeriodEnd_mv (x0 : LaneRef) (x1 : CalMeas) (x2 : State) : MovesO 1520 x2 (execCalPeriodEnd x0 x1 x2) := by
  unfold execCalPeriodEnd
  split
  with_reducible refine MovesO.next ?_
  with_reducible exact Moves.refl _ _
  with_reducible refine MovesO.whenDo ?_ ?_
  with_reducible exact Moves.refl _ _
  with_reducible refine Moves.step ?_ (calPeriod_mv _ _ _ _) rfl
  with_reducible exact Moves.refl _ _

theorem calRail_mv (x0 : State) (x1 : Nat) (x2 : Nat) (x3 : Nat) : Moves 496 x0 (calRail x0 x1 x2 x3) := by
  unfold calRail
  with_reducible refine Moves.ite ?_ ?_
  with_reducible refine Moves.step ?_ (raise_mv _ _ _ _ _ _) rfl
  with_reducible exact Moves.refl _ _
  with_reducible refine Moves.step ?_ (raise_mv _ _ _ _ _ _) rfl
  with_reducible exact Moves.refl _ _

theorem calStep_mv (x0 : State) (x1 : Nat) (x2 : Nat) : Moves 1520 x0 (calStep x0 x1 x2) := by
  unfold calStep
  lift_lets
  (intro c1; clear_value c1)
  (intro s2; refine Moves.cut (P := Moves 1520 x0 s2) ?_ ?_; rotate_left; intro h2; clear_value s2)
  (intro c3; clear_value c3)
  (intro c4; clear_value c4)
  (intro c5; clear_value c5)
  (intro c6; clear_value c6)
  (intro c7; clear_value c7)
  (intro c8; clear_value c8)
  (intro s9; refine Moves.cut (P := Moves 1520 x0 s9) ?_ ?_; rotate_left; intro h9; clear_value s9)
  (intro c10; clear_value c10)
  (intro c11; clear_value c11)
  (intro s12; refine Moves.cut (P := Moves 1520 x0 s12) ?_ ?_; rotate_left; intro h12; clear_value s12)
  with_reducible refine Moves.ite ?_ ?_
  with_reducible refine Moves.step ?_ (checkDrift_mv _ _ _) rfl
  assumption
  with_reducible refine Moves.ite ?_ ?_
  with_reducible refine Moves.step ?_ (checkDrift_mv _ _ _) rfl
  with_reducible refine Moves.step ?_ (laneSet_mv _ _ _) rfl
  assumption
  with_reducible refine Moves.ite ?_ ?_
  with_reducible refine Moves.step ?_ (calRail_mv _ _ _ _) rfl
  with_reducible refine Moves.step ?_ (laneSet_mv _ _ _) rfl
  assumption
  with_reducible refine Moves.ite ?_ ?_
  with_reducible refine Moves.step ?_ (calRail_mv _ _ _ _) rfl
  with_reducible refine Moves.step ?_ (laneSet_mv _ _ _) rfl
  assumption
  assumption
  subst s2
  with_reducible refine Moves.step ?_ (State.atLeast_mv _ _) rfl
  with_reducible exact Moves.refl _ _
  subst s9
  with_reducible refine Moves.step ?_ (laneSet_mv _ _ _) rfl
  assumption
  subst s12
  with_reducible refine Moves.ite ?_ ?_
  with_reducible refine Moves.step ?_ (laneSet_mv _ _ _) rfl
  assumption
  assumption

theorem execCalStep_mv (x0 : LaneRef) (x1 : State) : MovesO 1520 x1 (execCalStep x0 x1) := by
  unfold execCalStep
  split
  with_reducible refine MovesO.next ?_
  with_reducible exact Moves.refl _ _
  with_reducible refine MovesO.whenDo ?_ ?_
  with_reducible exact Moves.refl _ _
  with_reducible refine Moves.step ?_ (calStep_mv _ _ _) rfl
  with_reducible exact Moves.refl _ _

theorem ovrEvent_mv (x0 : State) (x1 : Nat) (x2 : Nat) (x3 : Nat) : Moves 496 x0 (ovrEvent x0 x1 x2 x3) := by
  unfold ovrEvent
  with_reducible refine Moves.ite ?_ ?_
  with_reducible refine Moves.step ?_ (raise_mv _ _ _ _ _ _) rfl
  with_reducible exact Moves.refl _ _
  with_reducible refine Moves.step ?_ (raise_mv _ _ _ _ _ _) rfl
  with_reducible exact Moves.refl _ _

theorem ovrStep_mv (x0 : State) (x1 : Nat) (x2 : Nat) (x3 : Nat) : Moves 1520 x0 (ovrStep x0 x1 x2 x3) := by
  unfold ovrStep
  lift_lets
  (intro c1; clear_value c1)
  (intro s2; refine Moves.cut (P := Moves 1520 x0 s2) ?_ ?_; rotate_left; intro h2; clear_value s2)
  (intro c3; clear_value c3)
  (intro c4; clear_value c4)
  (intro c5; clear_value c5)
  (intro c6; clear_value c6)
  (intro c7; clear_value c7)
  (intro c8; clear_value c8)
  (intro c9; clear_value c9)
  (intro s10; refine Moves.cut (P := Moves 1520 x0 s10) ?_ ?_; rotate_left; intro h10; clear_value s10)
  with_reducible refine Moves.ite ?_ ?_
  with_reducible refine Moves.step ?_ (ovrEvent_mv _ _ _ _) rfl
  assumption
  assumption
  subst s2
  with_reducible refine Moves.step ?_ (State.atLeast_mv _ _) rfl
  with_reducible exact Moves.refl _ _
  subst s10
  with_reducible refine Moves.step ?_ (laneSet_mv _ _ _) rfl
  assumption

theorem execOverrideStep_mv (x0 : Fin 64) (x1 : State) : MovesO 1520 x1 (execOverrideStep x0 x1) := by
  unfold execOverrideStep
  split
  with_reducible refine MovesO.next ?_
  with_reducible exact Moves.refl _ _
  with_reducible refine MovesO.whenDo ?_ ?_
  with_reducible exact Moves.refl _ _
  with_reducible refine Moves.step ?_ (ovrStep_mv _ _ _ _) rfl
  with_reducible exact Moves.refl _ _

theorem rewriteRecord_mv (x0 : State) (x1 : Fin 81) : Moves 1520 x0 (rewriteRecord x0 x1) := by
  unfold rewriteRecord
  lift_lets
  (intro c1; clear_value c1)
  (intro s2; refine Moves.cut (P := Moves 1520 x0 s2) ?_ ?_; rotate_left; intro h2; clear_value s2)
  (intro c3; clear_value c3)
  (intro c4; clear_value c4)
  (intro c5; clear_value c5)
  (intro s6; refine Moves.cut (P := Moves 1520 x0 s6) ?_ ?_; rotate_left; intro h6; clear_value s6)
  (intro s7; refine Moves.cut (P := Moves 1520 x0 s7) ?_ ?_; rotate_left; intro h7; clear_value s7)
  (intro c8; clear_value c8)
  (intro s9; refine Moves.cut (P := Moves 1520 x0 s9) ?_ ?_; rotate_left; intro h9; clear_value s9)
  with_reducible refine Moves.ite ?_ ?_
  with_reducible refine Moves.step ?_ (raise_mv _ _ _ _ _ _) rfl
  assumption
  assumption
  subst s2
  with_reducible refine Moves.ite ?_ ?_
  with_reducible exact Moves.refl _ _
  with_reducible refine Moves.step ?_ (State.atLeast_mv _ _) rfl
  with_reducible exact Moves.refl _ _
  subst s6
  with_reducible refine Moves.step ?_ (setRec_mv _ _ _) rfl
  assumption
  subst s7
  with_reducible refine Moves.ite ?_ ?_
  with_reducible refine Moves.step ?_ (setRec_mv _ _ _) rfl
  assumption
  assumption
  subst s9
  with_reducible exact Moves.mk' (m := 1520) (by assumption) (.inl rfl) (.inl rfl) (.inl rfl) (.inl rfl) (.inl rfl) (.inr rfl) (.inl rfl) (.inr rfl) (.inr rfl) rfl rfl (.inr rfl) (.inr rfl) (.inr rfl) (.inr rfl) (.inr rfl) (.inr rfl) (.inr rfl) (.inr rfl) (.inr rfl) (.inr rfl) (.inr rfl) (.inr rfl) (.inr rfl) (.inr rfl) (.inr rfl) (.inr rfl)

theorem execCalRecordRewrite_mv (x0 : Fin 81) (x1 : State) : MovesO 1520 x1 (execCalRecordRewrite x0 x1) := by
  unfold execCalRecordRewrite
  with_reducible refine MovesO.whenDo ?_ ?_
  with_reducible exact Moves.refl _ _
  with_reducible refine Moves.step ?_ (rewriteRecord_mv _ _) rfl
  with_reducible exact Moves.refl _ _

theorem qualLatch_mv (x0 : State) : Moves 1040 x0 (qualLatch x0) := by
  unfold qualLatch
  split
  with_reducible refine Moves.step ?_ (csrSet_mv _ _ _) rfl
  with_reducible exact Moves.mk' (m := 1040) (Moves.refl _ _) (.inl rfl) (.inr rfl) (.inr rfl) (.inr rfl) (.inr rfl) (.inr rfl) (.inl rfl) (.inr rfl) (.inr rfl) rfl rfl (.inr rfl) (.inr rfl) (.inr rfl) (.inr rfl) (.inr rfl) (.inr rfl) (.inr rfl) (.inr rfl) (.inr rfl) (.inr rfl) (.inr rfl) (.inr rfl) (.inr rfl) (.inr rfl) (.inr rfl) (.inr rfl)

end Sys2Proof.Machine
end

