-- ==== Sys2Proof/Laws/FrameWetex.lean ====
section
/-! SUPPORT. What each operation of Machine/Wetex.lean may change, one lemma an operation (`<name>_mv`): the components its
mask names, and nothing else of the state. -/

namespace Sys2Proof.Machine

theorem wxErr_mv (x0 : State) (x1 : Nat) (x2 : Nat) (x3 : Nat) (x4 : Nat) (x5 : Nat) : Moves 496 x0 (wxErr x0 x1 x2 x3 x4 x5) := by
  unfold wxErr
  with_reducible refine Moves.step ?_ (raise_mv _ _ _ _ _ _) rfl
  with_reducible exact Moves.refl _ _

theorem wxSettle_mv (x0 : State) (x1 : Fin 64) : Moves 402653184 x0 (wxSettle x0 x1) := by
  unfold wxSettle
  lift_lets
  (intro c1; clear_value c1)
  intro c2
  with_reducible refine Moves.ite ?_ ?_
  with_reducible refine Moves.step ?_ (wxModRing_mv _ _ _) rfl
  with_reducible exact Moves.refl _ _
  with_reducible exact Moves.refl _ _

theorem writeWxCfg_mv (x0 : State) (x1 : Fin 64) (x2 : Nat) : Moves 402653680 x0 (writeWxCfg x0 x1 x2) := by
  unfold writeWxCfg
  lift_lets
  (intro c1; clear_value c1)
  (intro c2; clear_value c2)
  (intro s3; refine Moves.cut (P := Moves 402653680 x0 s3) ?_ ?_; rotate_left; intro h3; clear_value s3)
  (intro s4; refine Moves.cut (P := Moves 402653680 x0 s4) ?_ ?_; rotate_left; intro h4; clear_value s4)
  (intro s5; refine Moves.cut (P := Moves 402653680 x0 s5) ?_ ?_; rotate_left; intro h5; clear_value s5)
  with_reducible refine Moves.ite ?_ ?_
  with_reducible refine Moves.ite ?_ ?_
  with_reducible refine Moves.ite ?_ ?_
  with_reducible refine Moves.step ?_ (wxModRing_mv _ _ _) rfl
  with_reducible refine Moves.step ?_ (csrSet_mv _ _ _) rfl
  assumption
  with_reducible refine Moves.step ?_ (wxErr_mv _ _ _ _ _ _) rfl
  assumption
  assumption
  with_reducible refine Moves.ite ?_ ?_
  with_reducible exact Moves.refl _ _
  with_reducible refine Moves.step ?_ (wxSettle_mv _ _) rfl
  assumption
  subst s3
  with_reducible refine Moves.step ?_ (csrSet_mv _ _ _) rfl
  with_reducible exact Moves.refl _ _
  subst s4
  with_reducible refine Moves.step ?_ (csrSet_mv _ _ _) rfl
  with_reducible exact Moves.refl _ _
  subst s5
  with_reducible refine Moves.ite ?_ ?_
  with_reducible refine Moves.step ?_ (wxModRing_mv _ _ _) rfl
  assumption
  assumption

theorem doorbellBad_mv (x0 : State) (x1 : Nat) (x2 : Nat) (x3 : Nat) : Moves 496 x0 (doorbellBad x0 x1 x2 x3) := by
  unfold doorbellBad
  with_reducible refine Moves.step ?_ (wxErr_mv _ _ _ _ _ _) rfl
  with_reducible exact Moves.refl _ _

theorem sqDoorbell_mv (x0 : State) (x1 : Fin 64) (x2 : Nat) : Moves 402653680 x0 (sqDoorbell x0 x1 x2) := by
  unfold sqDoorbell
  lift_lets
  (intro c1; clear_value c1)
  with_reducible refine Moves.ite ?_ ?_
  with_reducible exact Moves.refl _ _
  with_reducible refine Moves.ite ?_ ?_
  with_reducible refine Moves.step ?_ (wxModRing_mv _ _ _) rfl
  with_reducible exact Moves.refl _ _
  with_reducible refine Moves.step ?_ (doorbellBad_mv _ _ _ _) rfl
  with_reducible exact Moves.refl _ _

theorem cqDoorbell_mv (x0 : State) (x1 : Fin 64) (x2 : Nat) : Moves 402653680 x0 (cqDoorbell x0 x1 x2) := by
  unfold cqDoorbell
  lift_lets
  (intro c1; clear_value c1)
  (intro c2; clear_value c2)
  (intro c3; clear_value c3)
  with_reducible refine Moves.ite ?_ ?_
  with_reducible exact Moves.refl _ _
  with_reducible refine Moves.ite ?_ ?_
  with_reducible refine Moves.step ?_ (wxModRing_mv _ _ _) rfl
  with_reducible exact Moves.refl _ _
  with_reducible refine Moves.step ?_ (doorbellBad_mv _ _ _ _) rfl
  with_reducible exact Moves.refl _ _

theorem writeWxCtl_mv (x0 : State) (x1 : Nat) : Moves 496 x0 (writeWxCtl x0 x1) := by
  unfold writeWxCtl
  lift_lets
  (intro c1; clear_value c1)
  (intro c2; clear_value c2)
  (intro s3; refine Moves.cut (P := Moves 496 x0 s3) ?_ ?_; rotate_left; intro h3; clear_value s3)
  with_reducible refine Moves.ite ?_ ?_
  assumption
  with_reducible refine Moves.step ?_ (raise_mv _ _ _ _ _ _) rfl
  assumption
  subst s3
  with_reducible refine Moves.step ?_ (csrSet_mv _ _ _) rfl
  with_reducible exact Moves.refl _ _

theorem wxStop_mv (x0 : State) (x1 : Fin 64) (x2 : Nat) : Moves 402653680 x0 (wxStop x0 x1 x2) := by
  unfold wxStop
  lift_lets
  (intro c1; clear_value c1)
  (intro s2; refine Moves.cut (P := Moves 402653680 x0 s2) ?_ ?_; rotate_left; intro h2; clear_value s2)
  with_reducible refine Moves.step ?_ (raiseJ_mv _ _ _ _ _ _) rfl
  assumption
  subst s2
  with_reducible refine Moves.step ?_ (wxModRing_mv _ _ _) rfl
  with_reducible exact Moves.refl _ _

theorem wxFetch_mv (x0 : State) (x1 : Fin 64) : Moves 536870896 x0 (wxFetch x0 x1) := by
  unfold wxFetch
  lift_lets
  (intro c1; clear_value c1)
  (intro c2; clear_value c2)
  with_reducible refine Moves.ite ?_ ?_
  with_reducible refine Moves.step ?_ (wxSettle_mv _ _) rfl
  with_reducible refine Moves.step ?_ (wxStop_mv _ _ _) rfl
  with_reducible exact Moves.refl _ _
  lift_lets
  dsimp -zeta only
  lift_lets
  (intro c10; clear_value c10)
  dsimp -zeta only
  lift_lets
  (intro c13; clear_value c13)
  dsimp -zeta only
  lift_lets
  (intro s16; refine Moves.cut (P := Moves 536870896 x0 s16) ?_ ?_; rotate_left; intro h16; clear_value s16)
  with_reducible refine Moves.step ?_ (journal_mv _ _ _ _) rfl
  assumption
  subst s16
  with_reducible refine Moves.step ?_ (wxModRing_mv _ _ _) rfl
  with_reducible refine Moves.step ?_ (readNow_mv _ _ _) rfl
  with_reducible refine Moves.step ?_ (wxRequest_mv _ _) rfl
  with_reducible exact Moves.refl _ _

theorem execDescFetch_mv (x0 : Fin 64) (x1 : State) : MovesO 536870896 x1 (execDescFetch x0 x1) := by
  unfold execDescFetch
  lift_lets
  (intro c1; clear_value c1)
  with_reducible refine MovesO.whenDo ?_ ?_
  with_reducible exact Moves.refl _ _
  with_reducible refine Moves.step ?_ (wxFetch_mv _ _) rfl
  with_reducible exact Moves.refl _ _

theorem wxDispatch_mv (x0 : State) (x1 : Fin 64) (x2 : WxDesc) : Moves 402653184 x0 (wxDispatch x0 x1 x2) := by
  unfold wxDispatch
  lift_lets
  (intro c1; clear_value c1)
  (intro c2; clear_value c2)
  (intro c3; clear_value c3)
  (intro s4; refine Moves.cut (P := Moves 402653184 x0 s4) ?_ ?_; rotate_left; intro h4; clear_value s4)
  with_reducible refine Moves.step ?_ (wxMod_mv _ _ _ _) rfl
  assumption
  subst s4
  with_reducible exact Moves.mk' (m := 402653184) (Moves.refl _ _) (.inr rfl) (.inr rfl) (.inr rfl) (.inr rfl) (.inr rfl) (.inr rfl) (.inr rfl) (.inr rfl) (.inr rfl) rfl rfl (.inr rfl) (.inr rfl) (.inr rfl) (.inr rfl) (.inr rfl) (.inr rfl) (.inr rfl) (.inr rfl) (.inr rfl) (.inr rfl) (.inr rfl) (.inr rfl) (.inr rfl) (.inr rfl) (.inl rfl) (.inl rfl)

theorem execDescDispatch_mv (x0 : State) : MovesO 402653184 x0 (execDescDispatch x0) := by
  unfold execDescDispatch
  split
  with_reducible refine MovesO.next ?_
  with_reducible exact Moves.refl _ _
  split
  with_reducible refine MovesO.next ?_
  with_reducible exact Moves.refl _ _
  with_reducible refine MovesO.whenDo ?_ ?_
  with_reducible exact Moves.refl _ _
  with_reducible refine Moves.step ?_ (wxDispatch_mv _ _ _) rfl
  with_reducible exact Moves.refl _ _

theorem wxDrop_mv (x0 : State) (x1 : Fin 64) (x2 : Nat) : Moves 402653184 x0 (wxDrop x0 x1 x2) := by
  unfold wxDrop
  with_reducible refine Moves.step ?_ (wxModRing_mv _ _ _) rfl
  with_reducible exact Moves.refl _ _

theorem descDone_mv (x0 : State) (x1 : Fin 64) (x2 : WxDesc) (x3 : Nat) (x4 : Nat) (x5 : Nat) : Moves 96 x0 (descDone x0 x1 x2 x3 x4 x5) := by
  unfold descDone
  with_reducible refine Moves.step ?_ (journal_mv _ _ _ _) rfl
  with_reducible exact Moves.refl _ _

theorem complEvents_mv (x0 : State) (x1 : Fin 64) (x2 : WxDesc) (x3 : Nat) (x4 : Nat) : Moves 496 x0 (complEvents x0 x1 x2 x3 x4) := by
  unfold complEvents
  lift_lets
  (intro s1; refine Moves.cut (P := Moves 496 x0 s1) ?_ ?_; rotate_left; intro h1; clear_value s1)
  with_reducible refine Moves.ite ?_ ?_
  with_reducible refine Moves.step ?_ (raiseLim_mv _ _ _ _ _ _ _ _ _ _) rfl
  assumption
  assumption
  subst s1
  with_reducible refine Moves.ite ?_ ?_
  with_reducible refine Moves.step ?_ (raiseLim_mv _ _ _ _ _ _ _ _ _ _) rfl
  with_reducible exact Moves.refl _ _
  with_reducible exact Moves.refl _ _

theorem complete_mv (x0 : State) (x1 : Fin 64) (x2 : WxDesc) (x3 : Nat) (x4 : Nat) (x5 : Nat) : Moves 536870896 x0 (complete x0 x1 x2 x3 x4 x5) := by
  unfold complete
  lift_lets
  (intro c1; clear_value c1)
  (intro c2; clear_value c2)
  (intro c3; clear_value c3)
  (intro s4; refine Moves.cut (P := Moves 536870896 x0 s4) ?_ ?_; rotate_left; intro h4; clear_value s4)
  (intro c5; clear_value c5)
  (intro c6; clear_value c6)
  (intro s7; refine Moves.cut (P := Moves 536870896 x0 s7) ?_ ?_; rotate_left; intro h7; clear_value s7)
  (intro c8; clear_value c8)
  (intro s9; refine Moves.cut (P := Moves 536870896 x0 s9) ?_ ?_; rotate_left; intro h9; clear_value s9)
  (intro s10; refine Moves.cut (P := Moves 536870896 x0 s10) ?_ ?_; rotate_left; intro h10; clear_value s10)
  (intro s11; refine Moves.cut (P := Moves 536870896 x0 s11) ?_ ?_; rotate_left; intro h11; clear_value s11)
  with_reducible refine Moves.ite ?_ ?_
  with_reducible refine Moves.step ?_ (wxSettle_mv _ _) rfl
  with_reducible refine Moves.step ?_ (wxDrop_mv _ _ _) rfl
  with_reducible exact Moves.refl _ _
  with_reducible refine Moves.ite ?_ ?_
  with_reducible refine Moves.step ?_ (wxSettle_mv _ _) rfl
  with_reducible refine Moves.step ?_ (wxDrop_mv _ _ _) rfl
  with_reducible refine Moves.step ?_ (wxStop_mv _ _ _) rfl
  with_reducible exact Moves.refl _ _
  with_reducible refine Moves.step ?_ (wxSettle_mv _ _) rfl
  with_reducible refine Moves.step ?_ (complEvents_mv _ _ _ _ _) rfl
  with_reducible refine Moves.step ?_ (wxDrop_mv _ _ _) rfl
  assumption
  subst s4
  with_reducible refine Moves.step ?_ (descDone_mv _ _ _ _ _ _) rfl
  with_reducible exact Moves.refl _ _
  subst s7
  with_reducible refine Moves.step ?_ (engineWriteAs_mv _ _ _ _ _ _) rfl
  with_reducible refine Moves.step ?_ (wxRequest_mv _ _) rfl
  assumption
  subst s9
  with_reducible refine Moves.step ?_ (wxModRing_mv _ _ _) rfl
  assumption
  subst s10
  with_reducible refine Moves.step ?_ (bump_mv _ _ _) rfl
  assumption
  subst s11
  with_reducible refine Moves.ite ?_ ?_
  with_reducible refine Moves.step ?_ (bump_mv _ _ _) rfl
  assumption
  assumption

theorem execCompletionRecord_mv (x0 : Fin 64) (x1 : Nat) (x2 : State) : MovesO 536870896 x2 (execCompletionRecord x0 x1 x2) := by
  unfold execCompletionRecord
  split
  with_reducible refine MovesO.next ?_
  with_reducible exact Moves.refl _ _
  split
  with_reducible refine MovesO.next ?_
  with_reducible exact Moves.refl _ _
  with_reducible refine MovesO.whenDo ?_ ?_
  with_reducible exact Moves.refl _ _
  with_reducible refine Moves.step ?_ (complete_mv _ _ _ _ _ _) rfl
  with_reducible exact Moves.refl _ _

theorem wxRun_mv {m : Nat} (x0 : Nat) (x1 : Fin 64) (x2 : Nat) (x3 : State) (x4 : WxDesc → State)
    (h : ∀ d, Moves m x3 (x4 d)) : MovesO m x3 (wxRun x0 x1 x2 x3 x4) := by
  unfold wxRun
  split
  · exact Moves.refl _ _
  · exact MovesO.whenDo (Moves.refl _ _) (h _)

theorem Moves.iteS {m : Nat} {s : State} {c : Prop} [Decidable c] {a b : Scan} (h : Moves m s a.s)
    (k : Moves m s b.s) : Moves m s (if c then a else b).s := by
  split
  · exact h
  · exact k

theorem Moves.thdS {α β : Type} {m : Nat} {s : State} {a : α} {c : β} {b : Scan} {p : α × β × Scan} (e : p = (a, c, b))
    (h : Moves m s p.2.2.s) : Moves m s b.s := by
  subst e
  exact h

theorem Moves.foldl_scan {m : Nat} {s0 : State} {α : Type} (l : List α) (f : Scan → α → Scan) (p : Scan)
    (h : Moves m s0 p.s) (k : ∀ a x, Moves m s0 a.s → Moves m s0 (f a x).s) : Moves m s0 (l.foldl f p).s := by
  induction l generalizing p with
  | nil => exact h
  | cons x l ih => exact ih (f p x) (k p x h)

theorem scan_mv {m : Nat} {s0 : State} (x0 : State) (x1 : Nat) (x2 : Nat) (x3 : Scan → Nat → Scan) (h : Moves m s0 x0)
    (k : ∀ a i, Moves m s0 a.s → Moves m s0 (x3 a i).s) : Moves m s0 (scan x0 x1 x2 x3).s := by
  unfold scan
  refine Moves.foldl_scan _ _ _ h ?_
  intro a i w
  split
  · exact w
  · exact k _ _ w

theorem scanOffline_mv (x0 : Scan) (x1 : Nat) (x2 : Nat) : Moves 0 x0.s (scanOffline x0 x1 x2).s := by
  unfold scanOffline
  with_reducible exact Moves.refl _ _

theorem scanRead_mv (x0 : Scan) (x1 : Nat) : Moves 536870896 x0.s (scanRead x0 x1).2.2.s := by
  unfold scanRead
  split
  lift_lets
  (intro c2; clear_value c2)
  dsimp -zeta only
  with_reducible refine Moves.step ?_ (Moves.thd (by assumption) (readNow_mv _ _ _)) rfl
  with_reducible refine Moves.step ?_ (wxRequest_mv _ _) rfl
  with_reducible exact Moves.refl _ _

theorem scanWrite_mv (x0 : WxDesc) (x1 : Scan) (x2 : Nat) (x3 : Block) (x4 : Bool) : Moves 536870896 x1.s (scanWrite x0 x1 x2 x3 x4).s := by
  unfold scanWrite
  lift_lets
  (intro c1; clear_value c1)
  split
  split
  dsimp -zeta only
  with_reducible refine Moves.step ?_ (Moves.snd (by assumption) (engineWriteAs_mv _ _ _ _ _ _)) rfl
  with_reducible refine Moves.step ?_ (wxRequest_mv _ _) rfl
  with_reducible exact Moves.refl _ _
  dsimp -zeta only
  with_reducible refine Moves.step ?_ (Moves.snd (by assumption) (engineWriteAs_mv _ _ _ _ _ _)) rfl
  with_reducible refine Moves.step ?_ (wxRequest_mv _ _) rfl
  with_reducible exact Moves.refl _ _
  dsimp -zeta only
  with_reducible refine Moves.step ?_ (Moves.snd (by assumption) (engineWriteAs_mv _ _ _ _ _ _)) rfl
  with_reducible refine Moves.step ?_ (wxRequest_mv _ _) rfl
  with_reducible exact Moves.refl _ _

theorem scanEnd_mv (x0 : Fin 64) (x1 : WxDesc) (x2 : Scan) (x3 : Nat) (x4 : Nat) : Moves 402653184 x2.s (scanEnd x0 x1 x2 x3 x4) := by
  unfold scanEnd
  split
  lift_lets
  (intro c2; clear_value c2)
  with_reducible refine Moves.step ?_ (wxMod_mv _ _ _ _) rfl
  with_reducible exact Moves.refl _ _

theorem copyStep_mv (x0 : WxDesc) (x1 : Scan) (x2 : Nat) : Moves 536870896 x1.s (copyStep x0 x1 x2).s := by
  unfold copyStep
  lift_lets
  (intro c1; clear_value c1)
  (intro c2; clear_value c2)
  with_reducible refine Moves.iteS ?_ ?_
  with_reducible refine Moves.step ?_ (scanOffline_mv _ _ _) rfl
  with_reducible exact Moves.refl _ _
  lift_lets
  dsimp -zeta only
  lift_lets
  (intro c9; clear_value c9)
  dsimp -zeta only
  lift_lets
  (intro s12; refine Moves.cut (P := Moves 536870896 x1.s s12.s) ?_ ?_; rotate_left; intro h12; clear_value s12)
  with_reducible assumption
  subst s12
  with_reducible refine Moves.step ?_ (scanWrite_mv _ _ _ _ _) rfl
  with_reducible refine Moves.step ?_ (scanRead_mv _ _) rfl
  with_reducible exact Moves.refl _ _

theorem execCopy_mv (x0 : Fin 64) (x1 : Nat) (x2 : State) : MovesO 536870896 x2 (execCopy x0 x1 x2) := by
  unfold execCopy
  (with_reducible refine wxRun_mv _ _ _ _ _ ?_; intro d)
  lift_lets
  (intro s2; refine Moves.cut (P := Moves 536870896 x2 s2.s) ?_ ?_; rotate_left; intro h2; clear_value s2)
  with_reducible refine Moves.step ?_ (scanEnd_mv _ _ _ _ _) rfl
  with_reducible assumption
  subst s2
  (with_reducible refine scan_mv _ _ _ _ ?_ ?_; rotate_left; intro _ _ _)
  with_reducible refine Moves.step ?_ (copyStep_mv _ _ _) rfl
  with_reducible assumption
  with_reducible exact Moves.refl _ _

theorem fillStep_mv (x0 : WxDesc) (x1 : Block) (x2 : Scan) (x3 : Nat) : Moves 536870896 x2.s (fillStep x0 x1 x2 x3).s := by
  unfold fillStep
  lift_lets
  (intro c1; clear_value c1)
  (intro s2; refine Moves.cut (P := Moves 536870896 x2.s s2.s) ?_ ?_; rotate_left; intro h2; clear_value s2)
  with_reducible refine Moves.iteS ?_ ?_
  with_reducible refine Moves.step ?_ (scanOffline_mv _ _ _) rfl
  with_reducible exact Moves.refl _ _
  with_reducible assumption
  subst s2
  with_reducible refine Moves.step ?_ (scanWrite_mv _ _ _ _ _) rfl
  with_reducible exact Moves.refl _ _

theorem execFill_mv (x0 : Fin 64) (x1 : Nat) (x2 : State) : MovesO 536870896 x2 (execFill x0 x1 x2) := by
  unfold execFill
  (with_reducible refine wxRun_mv _ _ _ _ _ ?_; intro d)
  lift_lets
  (intro s2; refine Moves.cut (P := Moves 536870896 x2 s2.s) ?_ ?_; rotate_left; intro h2; clear_value s2)
  with_reducible refine Moves.step ?_ (scanEnd_mv _ _ _ _ _) rfl
  with_reducible assumption
  subst s2
  (with_reducible refine scan_mv _ _ _ _ ?_ ?_; rotate_left; intro _ _ _)
  with_reducible refine Moves.step ?_ (fillStep_mv _ _ _ _) rfl
  with_reducible assumption
  with_reducible exact Moves.refl _ _

theorem execZero_mv (x0 : Fin 64) (x1 : Nat) (x2 : State) : MovesO 536870896 x2 (execZero x0 x1 x2) := by
  unfold execZero
  (with_reducible refine wxRun_mv _ _ _ _ _ ?_; intro d)
  lift_lets
  (intro s2; refine Moves.cut (P := Moves 536870896 x2 s2.s) ?_ ?_; rotate_left; intro h2; clear_value s2)
  with_reducible refine Moves.step ?_ (scanEnd_mv _ _ _ _ _) rfl
  with_reducible assumption
  subst s2
  (with_reducible refine scan_mv _ _ _ _ ?_ ?_; rotate_left; intro _ _ _)
  with_reducible refine Moves.step ?_ (fillStep_mv _ _ _ _) rfl
  with_reducible assumption
  with_reducible exact Moves.refl _ _

theorem dataStop_mv (x0 : Scan) (x1 : Nat) : Moves 0 x0.s (dataStop x0 x1).s := by
  unfold dataStop
  with_reducible exact Moves.refl _ _

theorem crcStep_mv (x0 : WxDesc) (x1 : Scan) (x2 : Nat) : Moves 536870896 x1.s (crcStep x0 x1 x2).s := by
  unfold crcStep
  lift_lets
  (intro c1; clear_value c1)
  with_reducible refine Moves.iteS ?_ ?_
  with_reducible refine Moves.step ?_ (scanOffline_mv _ _ _) rfl
  with_reducible exact Moves.refl _ _
  split
  with_reducible refine Moves.iteS ?_ ?_
  with_reducible refine Moves.step ?_ (dataStop_mv _ _) rfl
  with_reducible refine Moves.step ?_ (Moves.thdS (by assumption) (scanRead_mv _ _)) rfl
  with_reducible exact Moves.refl _ _
  dsimp -zeta only
  with_reducible refine Moves.step ?_ (Moves.thdS (by assumption) (scanRead_mv _ _)) rfl
  with_reducible exact Moves.refl _ _

theorem execCrc64_mv (x0 : Fin 64) (x1 : Nat) (x2 : State) : MovesO 536870896 x2 (execCrc64 x0 x1 x2) := by
  unfold execCrc64
  (with_reducible refine wxRun_mv _ _ _ _ _ ?_; intro d)
  lift_lets
  (intro s2; refine Moves.cut (P := Moves 536870896 x2 s2.s) ?_ ?_; rotate_left; intro h2; clear_value s2)
  with_reducible refine Moves.step ?_ (scanEnd_mv _ _ _ _ _) rfl
  with_reducible assumption
  subst s2
  (with_reducible refine scan_mv _ _ _ _ ?_ ?_; rotate_left; intro _ _ _)
  with_reducible refine Moves.step ?_ (crcStep_mv _ _ _) rfl
  with_reducible assumption
  with_reducible exact Moves.refl _ _

theorem compareStep_mv (x0 : WxDesc) (x1 : Scan) (x2 : Nat) : Moves 536870896 x1.s (compareStep x0 x1 x2).s := by
  unfold compareStep
  lift_lets
  (intro c1; clear_value c1)
  (intro c2; clear_value c2)
  with_reducible refine Moves.iteS ?_ ?_
  with_reducible refine Moves.step ?_ (scanOffline_mv _ _ _) rfl
  with_reducible exact Moves.refl _ _
  split
  split
  with_reducible refine Moves.iteS ?_ ?_
  with_reducible refine Moves.step ?_ (dataStop_mv _ _) rfl
  with_reducible refine Moves.step ?_ (Moves.thdS (by assumption) (scanRead_mv _ _)) rfl
  with_reducible refine Moves.step ?_ (Moves.thdS (by assumption) (scanRead_mv _ _)) rfl
  with_reducible exact Moves.refl _ _
  split
  dsimp -zeta only
  with_reducible refine Moves.step ?_ (Moves.thdS (by assumption) (scanRead_mv _ _)) rfl
  with_reducible refine Moves.step ?_ (Moves.thdS (by assumption) (scanRead_mv _ _)) rfl
  with_reducible exact Moves.refl _ _
  dsimp -zeta only
  with_reducible refine Moves.step ?_ (Moves.thdS (by assumption) (scanRead_mv _ _)) rfl
  with_reducible refine Moves.step ?_ (Moves.thdS (by assumption) (scanRead_mv _ _)) rfl
  with_reducible exact Moves.refl _ _

theorem execCompare_mv (x0 : Fin 64) (x1 : Nat) (x2 : State) : MovesO 536870896 x2 (execCompare x0 x1 x2) := by
  unfold execCompare
  (with_reducible refine wxRun_mv _ _ _ _ _ ?_; intro d)
  with_reducible refine Moves.step ?_ (scanEnd_mv _ _ _ _ _) rfl
  (with_reducible refine scan_mv _ _ _ _ ?_ ?_; rotate_left; intro _ _ _)
  with_reducible refine Moves.step ?_ (compareStep_mv _ _ _) rfl
  with_reducible assumption
  with_reducible exact Moves.refl _ _

theorem scrubStep_mv (x0 : WxDesc) (x1 : Scan) (x2 : Nat) : Moves 536870896 x1.s (scrubStep x0 x1 x2).s := by
  unfold scrubStep
  lift_lets
  (intro c1; clear_value c1)
  (intro s2; refine Moves.cut (P := Moves 536870896 x1.s s2) ?_ ?_; rotate_left; intro h2; clear_value s2)
  with_reducible refine Moves.iteS ?_ ?_
  with_reducible refine Moves.step ?_ (scanOffline_mv _ _ _) rfl
  with_reducible exact Moves.refl _ _
  with_reducible refine Moves.iteS ?_ ?_
  with_reducible assumption
  lift_lets
  dsimp -zeta only
  lift_lets
  (intro c11; clear_value c11)
  dsimp -zeta only
  lift_lets
  (intro s14; refine Moves.cut (P := Moves 536870896 x1.s s14) ?_ ?_; rotate_left; intro h14; clear_value s14)
  (intro s15; refine Moves.cut (P := Moves 536870896 x1.s s15) ?_ ?_; rotate_left; intro h15; clear_value s15)
  with_reducible assumption
  subst s2
  with_reducible refine Moves.step ?_ (wxRequest_mv _ _) rfl
  with_reducible exact Moves.refl _ _
  subst s14
  with_reducible refine Moves.step ?_ (afterRead_mv _ _ _ _ _ _) rfl
  with_reducible refine Moves.step ?_ (engineRead_mv _ _) rfl
  assumption
  subst s15
  with_reducible refine Moves.ite ?_ ?_
  with_reducible refine Moves.step ?_ (derive_mv _ _) rfl
  assumption
  assumption

theorem execScrubRange_mv (x0 : Fin 64) (x1 : Nat) (x2 : State) : MovesO 536870896 x2 (execScrubRange x0 x1 x2) := by
  unfold execScrubRange
  (with_reducible refine wxRun_mv _ _ _ _ _ ?_; intro d)
  lift_lets
  (intro s2; refine Moves.cut (P := Moves 536870896 x2 s2.s) ?_ ?_; rotate_left; intro h2; clear_value s2)
  with_reducible refine Moves.step ?_ (scanEnd_mv _ _ _ _ _) rfl
  with_reducible assumption
  subst s2
  (with_reducible refine scan_mv _ _ _ _ ?_ ?_; rotate_left; intro _ _ _)
  with_reducible refine Moves.step ?_ (scrubStep_mv _ _ _) rfl
  with_reducible assumption
  with_reducible exact Moves.refl _ _

theorem clearStep_mv (x0 : WxDesc) (x1 : Scan) (x2 : Nat) : Moves 536870896 x1.s (clearStep x0 x1 x2).s := by
  unfold clearStep
  lift_lets
  (intro c1; clear_value c1)
  (intro s2; refine Moves.cut (P := Moves 536870896 x1.s s2) ?_ ?_; rotate_left; intro h2; clear_value s2)
  with_reducible refine Moves.iteS ?_ ?_
  with_reducible refine Moves.step ?_ (scanOffline_mv _ _ _) rfl
  with_reducible exact Moves.refl _ _
  with_reducible refine Moves.iteS ?_ ?_
  with_reducible assumption
  lift_lets
  dsimp -zeta only
  lift_lets
  (intro c11; clear_value c11)
  dsimp -zeta only
  lift_lets
  (intro s14; refine Moves.cut (P := Moves 536870896 x1.s s14.s) ?_ ?_; rotate_left; intro h14; clear_value s14)
  (intro s15; refine Moves.cut (P := Moves 536870896 x1.s s15) ?_ ?_; rotate_left; intro h15; clear_value s15)
  (intro s16; refine Moves.cut (P := Moves 536870896 x1.s s16.s) ?_ ?_; rotate_left; intro h16; clear_value s16)
  with_reducible refine Moves.iteS ?_ ?_
  with_reducible assumption
  with_reducible refine Moves.iteS ?_ ?_
  with_reducible assumption
  dsimp -zeta only
  with_reducible refine Moves.step ?_ (afterRead_mv _ _ _ _ _ _) rfl
  with_reducible refine Moves.step ?_ (engineRead_mv _ _) rfl
  assumption
  subst s2
  with_reducible refine Moves.step ?_ (wxRequest_mv _ _) rfl
  with_reducible exact Moves.refl _ _
  subst s14
  with_reducible refine Moves.step ?_ (scanWrite_mv _ _ _ _ _) rfl
  dsimp -zeta only
  with_reducible refine Moves.step ?_ (engineRead_mv _ _) rfl
  assumption
  subst s15
  with_reducible refine Moves.step ?_ (bump_mv _ _ _) rfl
  with_reducible refine Moves.step ?_ (engineRead_mv _ _) rfl
  assumption
  subst s16
  with_reducible refine Moves.step ?_ (scanWrite_mv _ _ _ _ _) rfl
  with_reducible assumption

theorem execPoisonClear_mv (x0 : Fin 64) (x1 : Nat) (x2 : State) : MovesO 536870896 x2 (execPoisonClear x0 x1 x2) := by
  unfold execPoisonClear
  (with_reducible refine wxRun_mv _ _ _ _ _ ?_; intro d)
  lift_lets
  (intro s2; refine Moves.cut (P := Moves 536870896 x2 s2.s) ?_ ?_; rotate_left; intro h2; clear_value s2)
  with_reducible refine Moves.step ?_ (scanEnd_mv _ _ _ _ _) rfl
  with_reducible assumption
  subst s2
  (with_reducible refine scan_mv _ _ _ _ ?_ ?_; rotate_left; intro _ _ _)
  with_reducible refine Moves.step ?_ (clearStep_mv _ _ _) rfl
  with_reducible assumption
  with_reducible exact Moves.refl _ _

theorem advance_mv (x0 : State) (x1 : Fin 64) (x2 : WxDesc) : Moves 536870896 x0 (advance x0 x1 x2) := by
  unfold advance
  lift_lets
  (intro c1; clear_value c1)
  (intro c2; clear_value c2)
  with_reducible refine Moves.ite ?_ ?_
  with_reducible refine Moves.step ?_ (wxEnd_mv _ _ _ _ _ _) rfl
  with_reducible exact Moves.refl _ _
  with_reducible refine Moves.ite ?_ ?_
  with_reducible refine Moves.step ?_ (wxEnd_mv _ _ _ _ _ _) rfl
  with_reducible exact Moves.refl _ _
  with_reducible refine Moves.ite ?_ ?_
  with_reducible refine Moves.step ?_ (wxMod_mv _ _ _ _) rfl
  with_reducible exact Moves.mk' (m := 536870896) (Moves.refl _ _) (.inl rfl) (.inl rfl) (.inl rfl) (.inl rfl) (.inl rfl) (.inl rfl) (.inl rfl) (.inl rfl) (.inl rfl) (by rfl) (by rfl) (.inl rfl) (.inl rfl) (.inl rfl) (.inl rfl) (.inl rfl) (.inl rfl) (.inl rfl) (.inl rfl) (.inl rfl) (.inl rfl) (.inl rfl) (.inl rfl) (.inl rfl) (.inl rfl) (.inl rfl) (.inl rfl)
  with_reducible refine Moves.step ?_ (wxEnd_mv _ _ _ _ _ _) rfl
  with_reducible refine Moves.step ?_ (passBoundary_mv _ _ _) rfl
  with_reducible exact Moves.refl _ _

theorem execEpochAdvance_mv (x0 : Fin 64) (x1 : Nat) (x2 : State) : MovesO 536870896 x2 (execEpochAdvance x0 x1 x2) := by
  unfold execEpochAdvance
  (with_reducible refine wxRun_mv _ _ _ _ _ ?_; intro d)
  with_reducible refine Moves.step ?_ (advance_mv _ _ _) rfl
  with_reducible exact Moves.refl _ _

theorem releaseEngine_mv (x0 : State) : Moves 536870896 x0 (releaseEngine x0) := by
  unfold releaseEngine
  split
  with_reducible refine Moves.step ?_ (wxEnd_mv _ _ _ _ _ _) rfl
  with_reducible refine Moves.step ?_ (passBoundary_mv _ _ _) rfl
  with_reducible exact Moves.mk' (m := 536870896) (Moves.refl _ _) (.inl rfl) (.inl rfl) (.inl rfl) (.inl rfl) (.inl rfl) (.inl rfl) (.inl rfl) (.inl rfl) (.inl rfl) (by rfl) (by rfl) (.inl rfl) (.inl rfl) (.inl rfl) (.inl rfl) (.inl rfl) (.inl rfl) (.inl rfl) (.inl rfl) (.inl rfl) (.inl rfl) (.inl rfl) (.inl rfl) (.inl rfl) (.inl rfl) (.inl rfl) (.inl rfl)
  with_reducible exact Moves.refl _ _

theorem exportStep_mv (x0 : WxDesc) (x1 : Nat) (x2 : Scan) (x3 : Nat) : Moves 536870896 x2.s (exportStep x0 x1 x2 x3).s := by
  unfold exportStep
  lift_lets
  (intro c1; clear_value c1)
  (intro c2; clear_value c2)
  (intro c3; clear_value c3)
  with_reducible refine Moves.iteS ?_ ?_
  with_reducible refine Moves.step ?_ (scanOffline_mv _ _ _) rfl
  with_reducible exact Moves.refl _ _
  split
  lift_lets
  (intro s9; refine Moves.cut (P := Moves 536870896 x2.s s9.s) ?_ ?_; rotate_left; intro h9; clear_value s9)
  split
  with_reducible assumption
  with_reducible assumption
  with_reducible assumption
  subst s9
  dsimp -zeta only
  with_reducible refine Moves.step ?_ (Moves.snd (by assumption) (engineWriteAs_mv _ _ _ _ _ _)) rfl
  with_reducible refine Moves.step ?_ (wxRequest_mv _ _) rfl
  with_reducible exact Moves.refl _ _

theorem tidemarkExport_mv (x0 : State) (x1 : Fin 64) (x2 : WxDesc) : Moves 536870896 x0 (tidemarkExport x0 x1 x2) := by
  unfold tidemarkExport
  lift_lets
  (intro c1; clear_value c1)
  (intro c2; clear_value c2)
  (intro c3; clear_value c3)
  with_reducible refine Moves.ite ?_ ?_
  with_reducible refine Moves.step ?_ (wxEnd_mv _ _ _ _ _ _) rfl
  with_reducible exact Moves.refl _ _
  with_reducible refine Moves.step ?_ (scanEnd_mv _ _ _ _ _) rfl
  (with_reducible refine scan_mv _ _ _ _ ?_ ?_; rotate_left; intro _ _ _)
  with_reducible refine Moves.step ?_ (exportStep_mv _ _ _ _) rfl
  with_reducible assumption
  with_reducible exact Moves.refl _ _

theorem execTidemarkExport_mv (x0 : Fin 64) (x1 : Nat) (x2 : State) : MovesO 536870896 x2 (execTidemarkExport x0 x1 x2) := by
  unfold execTidemarkExport
  (with_reducible refine wxRun_mv _ _ _ _ _ ?_; intro d)
  with_reducible refine Moves.step ?_ (tidemarkExport_mv _ _ _) rfl
  with_reducible exact Moves.refl _ _

theorem tidemarkClear_mv (x0 : State) (x1 : Fin 64) (x2 : WxDesc) : Moves 134283264 x0 (tidemarkClear x0 x1 x2) := by
  unfold tidemarkClear
  lift_lets
  (intro c1; clear_value c1)
  (intro c2; clear_value c2)
  (intro c3; clear_value c3)
  (intro s4; refine Moves.cut (P := Moves 134283264 x0 s4) ?_ ?_; rotate_left; intro h4; clear_value s4)
  with_reducible refine Moves.ite ?_ ?_
  with_reducible refine Moves.step ?_ (wxEnd_mv _ _ _ _ _ _) rfl
  with_reducible exact Moves.refl _ _
  with_reducible refine Moves.ite ?_ ?_
  with_reducible refine Moves.step ?_ (wxEnd_mv _ _ _ _ _ _) rfl
  with_reducible exact Moves.refl _ _
  with_reducible refine Moves.step ?_ (wxEnd_mv _ _ _ _ _ _) rfl
  assumption
  subst s4
  with_reducible refine Moves.step ?_ (clearThrough_mv _ _ _ _) rfl
  with_reducible exact Moves.refl _ _

theorem execTidemarkClear_mv (x0 : Fin 64) (x1 : Nat) (x2 : State) : MovesO 134283264 x2 (execTidemarkClear x0 x1 x2) := by
  unfold execTidemarkClear
  (with_reducible refine wxRun_mv _ _ _ _ _ ?_; intro d)
  with_reducible refine Moves.step ?_ (tidemarkClear_mv _ _ _) rfl
  with_reducible exact Moves.refl _ _

theorem journalStep_mv (x0 : WxDesc) (x1 : Nat) (x2 : Scan) (x3 : Nat) : Moves 536870896 x2.s (journalStep x0 x1 x2 x3).s := by
  unfold journalStep
  lift_lets
  (intro c1; clear_value c1)
  (intro c2; clear_value c2)
  (intro s3; refine Moves.cut (P := Moves 536870896 x2.s s3.s) ?_ ?_; rotate_left; intro h3; clear_value s3)
  with_reducible refine Moves.iteS ?_ ?_
  with_reducible exact Moves.refl _ _
  with_reducible refine Moves.iteS ?_ ?_
  with_reducible refine Moves.step ?_ (scanOffline_mv _ _ _) rfl
  with_reducible exact Moves.refl _ _
  with_reducible assumption
  subst s3
  with_reducible refine Moves.step ?_ (scanWrite_mv _ _ _ _ _) rfl
  with_reducible exact Moves.refl _ _

theorem journalRead_mv (x0 : State) (x1 : Fin 64) (x2 : WxDesc) : Moves 536870896 x0 (journalRead x0 x1 x2) := by
  unfold journalRead
  lift_lets
  (intro c1; clear_value c1)
  (intro s2; refine Moves.cut (P := Moves 536870896 x0 s2.s) ?_ ?_; rotate_left; intro h2; clear_value s2)
  (intro s3; refine Moves.cut (P := Moves 536870896 x0 s3.s) ?_ ?_; rotate_left; intro h3; clear_value s3)
  with_reducible refine Moves.step ?_ (scanEnd_mv _ _ _ _ _) rfl
  with_reducible assumption
  subst s2
  (with_reducible refine scan_mv _ _ _ _ ?_ ?_; rotate_left; intro _ _ _)
  with_reducible refine Moves.step ?_ (journalStep_mv _ _ _ _) rfl
  with_reducible assumption
  subst s3
  with_reducible assumption
  with_reducible exact Moves.refl _ _

theorem execJournalRead_mv (x0 : Fin 64) (x1 : Nat) (x2 : State) : MovesO 536870896 x2 (execJournalRead x0 x1 x2) := by
  unfold execJournalRead
  (with_reducible refine wxRun_mv _ _ _ _ _ ?_; intro d)
  with_reducible refine Moves.step ?_ (journalRead_mv _ _ _) rfl
  with_reducible exact Moves.refl _ _

theorem repairSoft_mv (x0 : State) (x1 : Fin 64) (x2 : WxDesc) : Moves 402655728 x0 (repairSoft x0 x1 x2) := by
  unfold repairSoft
  lift_lets
  (intro c1; clear_value c1)
  (intro c2; clear_value c2)
  (intro c3; clear_value c3)
  split
  with_reducible refine Moves.step ?_ (wxMod_mv _ _ _ _) rfl
  with_reducible refine Moves.step ?_ (modBank_mv _ _ _ _) rfl
  with_reducible exact Moves.refl _ _
  with_reducible refine Moves.step ?_ (wxEnd_mv _ _ _ _ _ _) rfl
  with_reducible refine Moves.step ?_ (repairRefused_mv _ _ _ _ _) rfl
  with_reducible exact Moves.refl _ _

theorem execRepairSoft_mv (x0 : Fin 64) (x1 : Nat) (x2 : State) : MovesO 402655728 x2 (execRepairSoft x0 x1 x2) := by
  unfold execRepairSoft
  (with_reducible refine wxRun_mv _ _ _ _ _ ?_; intro d)
  lift_lets
  intro c2
  with_reducible refine Moves.ite ?_ ?_
  with_reducible exact Moves.refl _ _
  with_reducible refine Moves.step ?_ (repairSoft_mv _ _ _) rfl
  with_reducible exact Moves.refl _ _

theorem takeOffline_mv (x0 : State) (x1 : Pc) : Moves 536870896 x0 (takeOffline x0 x1) := by
  unfold takeOffline
  lift_lets
  (intro s1; refine Moves.cut (P := Moves 536870896 x0 s1) ?_ ?_; rotate_left; intro h1; clear_value s1)
  (intro s2; refine Moves.cut (P := Moves 536870896 x0 s2) ?_ ?_; rotate_left; intro h2; clear_value s2)
  assumption
  subst s1
  with_reducible refine Moves.step ?_ (endRepairs_mv _ _ _ _ _) rfl
  with_reducible refine Moves.step ?_ (drainQueue_mv _ _) rfl
  with_reducible exact Moves.refl _ _
  subst s2
  with_reducible refine Moves.step ?_ (State.modPc_mv _ _ _) rfl
  with_reducible refine Moves.step ?_ (State.atLeast_mv _ _) rfl
  assumption

theorem execPcOffline_mv (x0 : Fin 64) (x1 : Nat) (x2 : State) : MovesO 536870896 x2 (execPcOffline x0 x1 x2) := by
  unfold execPcOffline
  (with_reducible refine wxRun_mv _ _ _ _ _ ?_; intro d)
  lift_lets
  intro c2
  with_reducible refine Moves.ite ?_ ?_
  with_reducible refine Moves.step ?_ (wxEnd_mv _ _ _ _ _ _) rfl
  with_reducible exact Moves.refl _ _
  with_reducible refine Moves.step ?_ (wxEnd_mv _ _ _ _ _ _) rfl
  with_reducible refine Moves.step ?_ (takeOffline_mv _ _) rfl
  with_reducible exact Moves.refl _ _

theorem flushPc_mv (x0 : State) (x1 : Pc) : Moves 55312 x0 (flushPc x0 x1) := by
  unfold flushPc
  lift_lets
  (intro c1; clear_value c1)
  (intro s2; refine Moves.cut (P := Moves 55312 x0 s2) ?_ ?_; rotate_left; intro h2; clear_value s2)
  (intro c3; clear_value c3)
  with_reducible exact Moves.mk' (m := 55312) (by assumption) (.inl rfl) (.inr rfl) (.inr rfl) (.inr rfl) (.inr rfl) (.inr rfl) (.inr rfl) (.inl rfl) (.inl rfl) (by rfl) (by rfl) (.inr rfl) (.inl rfl) (.inl rfl) (.inr rfl) (.inr rfl) (.inr rfl) (.inr rfl) (.inr rfl) (.inr rfl) (.inr rfl) (.inr rfl) (.inr rfl) (.inr rfl) (.inr rfl) (.inr rfl) (.inr rfl)
  subst s2
  with_reducible refine Moves.step ?_ (flushLines_mv _ _) rfl
  with_reducible exact Moves.refl _ _

theorem bringOnline_mv (x0 : State) (x1 : Pc) (x2 : List LaneSweep) : Moves 536870896 x0 (bringOnline x0 x1 x2) := by
  unfold bringOnline
  lift_lets
  (intro s1; refine Moves.cut (P := Moves 536870896 x0 s1) ?_ ?_; rotate_left; intro h1; clear_value s1)
  (intro s2; refine Moves.cut (P := Moves 536870896 x0 s2) ?_ ?_; rotate_left; intro h2; clear_value s2)
  with_reducible refine Moves.ite ?_ ?_
  assumption
  with_reducible refine Moves.step ?_ (flushPc_mv _ _) rfl
  with_reducible refine Moves.step ?_ (drainQueue_mv _ _) rfl
  with_reducible refine Moves.step ?_ (wakePc_mv _ _ _) rfl
  assumption
  subst s1
  with_reducible refine Moves.step ?_ (State.modPc_mv _ _ _) rfl
  with_reducible exact Moves.refl _ _
  subst s2
  with_reducible refine Moves.step ?_ (fullTrain_mv _ _ _) rfl
  assumption

theorem pcOnlineOp_mv (x0 : State) (x1 : Fin 64) (x2 : WxDesc) (x3 : Pc) (x4 : List LaneSweep) : Moves 536870896 x0 (pcOnlineOp x0 x1 x2 x3 x4) := by
  unfold pcOnlineOp
  with_reducible refine Moves.ite ?_ ?_
  with_reducible refine Moves.step ?_ (wxEnd_mv _ _ _ _ _ _) rfl
  with_reducible exact Moves.refl _ _
  with_reducible refine Moves.ite ?_ ?_
  with_reducible refine Moves.step ?_ (wxEnd_mv _ _ _ _ _ _) rfl
  with_reducible exact Moves.refl _ _
  with_reducible refine Moves.ite ?_ ?_
  with_reducible refine Moves.step ?_ (wxEnd_mv _ _ _ _ _ _) rfl
  with_reducible exact Moves.refl _ _
  lift_lets
  (intro s10; refine Moves.cut (P := Moves 536870896 x0 s10) ?_ ?_; rotate_left; intro h10; clear_value s10)
  with_reducible refine Moves.ite ?_ ?_
  with_reducible refine Moves.step ?_ (wxEnd_mv _ _ _ _ _ _) rfl
  assumption
  with_reducible refine Moves.step ?_ (wxEnd_mv _ _ _ _ _ _) rfl
  assumption
  subst s10
  with_reducible refine Moves.step ?_ (bringOnline_mv _ _ _) rfl
  with_reducible exact Moves.refl _ _

theorem execPcOnline_mv (x0 : Fin 64) (x1 : Nat) (x2 : List LaneSweep) (x3 : State) : MovesO 536870896 x3 (execPcOnline x0 x1 x2 x3) := by
  unfold execPcOnline
  (with_reducible refine wxRun_mv _ _ _ _ _ ?_; intro d)
  with_reducible refine Moves.step ?_ (pcOnlineOp_mv _ _ _ _ _) rfl
  with_reducible exact Moves.refl _ _

theorem execDescFence_mv (x0 : Fin 64) (x1 : Nat) (x2 : State) : MovesO 134217728 x2 (execDescFence x0 x1 x2) := by
  unfold execDescFence
  (with_reducible refine wxRun_mv _ _ _ _ _ ?_; intro d)
  split
  with_reducible refine Moves.ite ?_ ?_
  with_reducible refine Moves.step ?_ (wxEnd_mv _ _ _ _ _ _) rfl
  with_reducible exact Moves.refl _ _
  with_reducible exact Moves.refl _ _
  with_reducible exact Moves.refl _ _

theorem fenceEngine_mv (x0 : State) : Moves 419496032 x0 (fenceEngine x0) := by
  unfold fenceEngine
  lift_lets
  (intro s1; refine Moves.cut (P := Moves 419496032 x0 s1) ?_ ?_; rotate_left; intro h1; clear_value s1)
  (intro c2; clear_value c2)
  (intro c3; clear_value c3)
  (intro c4; clear_value c4)
  (intro c5; clear_value c5)
  with_reducible exact Moves.mk' (m := 419496032) (by assumption) (.inr rfl) (.inl rfl) (.inl rfl) (.inr rfl) (.inr rfl) (.inr rfl) (.inr rfl) (.inr rfl) (.inr rfl) rfl rfl (.inr rfl) (.inr rfl) (.inr rfl) (.inl rfl) (.inr rfl) (.inr rfl) (.inr rfl) (.inr rfl) (.inr rfl) (.inr rfl) (.inr rfl) (.inl rfl) (.inr rfl) (.inr rfl) (.inl rfl) (.inl rfl)
  subst s1
  (with_reducible refine Moves.foldl _ _ ?_ ?_; rotate_left; intro _ _ _)
  lift_lets
  (intro c10; clear_value c10)
  (intro c11; clear_value c11)
  (with_reducible refine Moves.foldl _ _ ?_ ?_; rotate_left; intro _ _ _)
  with_reducible refine Moves.step ?_ (descDone_mv _ _ _ _ _ _) rfl
  assumption
  with_reducible exact Moves.refl _ _
  assumption

theorem wxDisable_mv (x0 : State) : Moves 402653200 x0 (wxDisable x0) := by
  unfold wxDisable
  lift_lets
  (intro c1; clear_value c1)
  (intro c2; clear_value c2)
  (intro s3; refine Moves.cut (P := Moves 402653200 x0 s3) ?_ ?_; rotate_left; intro h3; clear_value s3)
  (with_reducible refine Moves.foldl _ _ ?_ ?_; rotate_left; intro _ _ _)
  with_reducible refine Moves.step ?_ (csrSet_mv _ _ _) rfl
  assumption
  subst s3
  with_reducible exact Moves.mk' (m := 402653200) (Moves.refl _ _) (.inl rfl) (.inr rfl) (.inr rfl) (.inr rfl) (.inr rfl) (.inr rfl) (.inr rfl) (.inr rfl) (.inr rfl) rfl rfl (.inr rfl) (.inr rfl) (.inr rfl) (.inr rfl) (.inr rfl) (.inr rfl) (.inr rfl) (.inr rfl) (.inr rfl) (.inr rfl) (.inr rfl) (.inr rfl) (.inr rfl) (.inr rfl) (.inl rfl) (.inl rfl)
  assumption

end Sys2Proof.Machine
end

