-- ==== Sys2Proof/Laws/FrameTransit.lean ====
section
/-! SUPPORT. What each operation of Machine/Transit.lean may change, one lemma an operation (`<name>_mv`): the components its
mask names, and nothing else of the state. -/

namespace Sys2Proof.Machine

theorem startRun_mv (x0 : State) (x1 : Nat) (x2 : Nat) (x3 : Nat) (x4 : List Nat) (x5 : Nat × Nat) (x6 : Bool) (x7 : Option (Nat × Nat)) : Moves 297456 x0 (startRun x0 x1 x2 x3 x4 x5 x6 x7) := by
  unfold startRun
  lift_lets
  (intro c1; clear_value c1)
  (intro c2; clear_value c2)
  (intro s3; refine Moves.cut (P := Moves 297456 x0 s3) ?_ ?_; rotate_left; intro h3; clear_value s3)
  (intro c4; clear_value c4)
  (intro s5; refine Moves.cut (P := Moves 297456 x0 s5) ?_ ?_; rotate_left; intro h5; clear_value s5)
  with_reducible refine Moves.step ?_ (bump_mv _ _ _) rfl
  with_reducible refine Moves.ite ?_ ?_
  with_reducible refine Moves.step ?_ (testWay_mv _ _) rfl
  assumption
  assumption
  subst s3
  with_reducible refine Moves.ite ?_ ?_
  with_reducible exact Moves.refl _ _
  with_reducible refine Moves.step ?_ (State.useFree_mv _) rfl
  with_reducible exact Moves.refl _ _
  subst s5
  with_reducible exact Moves.mk' (m := 297456) (by assumption) (.inl rfl) (.inl rfl) (.inl rfl) (.inl rfl) (.inl rfl) (.inr rfl) (.inr rfl) (.inl rfl) (.inr rfl) rfl rfl (.inr rfl) (.inr rfl) (.inl rfl) (.inr rfl) (.inr rfl) (.inl rfl) (.inr rfl) (.inr rfl) (.inr rfl) (.inr rfl) (.inr rfl) (.inr rfl) (.inr rfl) (.inr rfl) (.inr rfl) (.inr rfl)

theorem bistRun_mv (x0 : State) (x1 : Fin 64) (x2 : WxDesc) (x3 : Nat) : Moves 402950640 x0 (bistRun x0 x1 x2 x3) := by
  unfold bistRun
  lift_lets
  (intro c1; clear_value c1)
  (intro c2; clear_value c2)
  (intro s3; refine Moves.cut (P := Moves 402950640 x0 s3) ?_ ?_; rotate_left; intro h3; clear_value s3)
  (intro c4; clear_value c4)
  (intro s5; refine Moves.cut (P := Moves 402950640 x0 s5) ?_ ?_; rotate_left; intro h5; clear_value s5)
  (intro c6; clear_value c6)
  (intro c7; clear_value c7)
  (intro c8; clear_value c8)
  (intro s9; refine Moves.cut (P := Moves 402950640 x0 s9) ?_ ?_; rotate_left; intro h9; clear_value s9)
  with_reducible refine Moves.ite ?_ ?_
  with_reducible refine Moves.step ?_ (wxEnd_mv _ _ _ _ _ _) rfl
  with_reducible exact Moves.refl _ _
  with_reducible refine Moves.ite ?_ ?_
  with_reducible refine Moves.step ?_ (wxEnd_mv _ _ _ _ _ _) rfl
  with_reducible refine Moves.step ?_ (raise_mv _ _ _ _ _ _) rfl
  assumption
  with_reducible refine Moves.ite ?_ ?_
  with_reducible refine Moves.step ?_ (wxEnd_mv _ _ _ _ _ _) rfl
  assumption
  with_reducible refine Moves.step ?_ (wxMod_mv _ _ _ _) rfl
  assumption
  subst s3
  with_reducible exact Moves.mk' (m := 402950640) (Moves.refl _ _) (.inl rfl) (.inl rfl) (.inl rfl) (.inl rfl) (.inl rfl) (.inr rfl) (.inr rfl) (.inl rfl) (.inr rfl) rfl rfl (.inr rfl) (.inr rfl) (.inl rfl) (.inr rfl) (.inr rfl) (.inl rfl) (.inr rfl) (.inr rfl) (.inr rfl) (.inr rfl) (.inr rfl) (.inr rfl) (.inr rfl) (.inr rfl) (.inl rfl) (.inl rfl)
  subst s5
  with_reducible exact Moves.mk' (m := 402950640) (by assumption) (.inl rfl) (.inl rfl) (.inl rfl) (.inl rfl) (.inl rfl) (.inr rfl) (.inr rfl) (.inl rfl) (.inr rfl) rfl rfl (.inr rfl) (.inr rfl) (.inl rfl) (.inr rfl) (.inr rfl) (.inl rfl) (.inr rfl) (.inr rfl) (.inr rfl) (.inr rfl) (.inr rfl) (.inr rfl) (.inr rfl) (.inr rfl) (.inl rfl) (.inl rfl)
  subst s9
  with_reducible refine Moves.step ?_ (startRun_mv _ _ _ _ _ _ _ _) rfl
  assumption

theorem execBistRun_mv (x0 : Fin 64) (x1 : Nat) (x2 : Nat) (x3 : State) : MovesO 402950640 x3 (execBistRun x0 x1 x2 x3) := by
  unfold execBistRun
  (with_reducible refine wxRun_mv _ _ _ _ _ ?_; intro d)
  with_reducible refine Moves.step ?_ (bistRun_mv _ _ _ _) rfl
  with_reducible exact Moves.refl _ _

theorem startQuick_mv (x0 : State) : Moves 297456 x0 (startQuick x0) := by
  unfold startQuick
  lift_lets
  (intro c1; clear_value c1)
  with_reducible refine Moves.step ?_ (startRun_mv _ _ _ _ _ _ _ _) rfl
  with_reducible exact Moves.refl _ _

theorem nextWayTest_mv (x0 : State) : Moves 297456 x0 (nextWayTest x0) := by
  unfold nextWayTest
  split
  with_reducible refine Moves.ite ?_ ?_
  with_reducible exact Moves.refl _ _
  with_reducible refine Moves.step ?_ (testWay_mv _ _) rfl
  with_reducible exact Moves.mk' (m := 297456) (Moves.refl _ _) (.inl rfl) (.inl rfl) (.inl rfl) (.inl rfl) (.inl rfl) (.inr rfl) (.inr rfl) (.inl rfl) (.inr rfl) rfl rfl (.inr rfl) (.inr rfl) (.inl rfl) (.inr rfl) (.inr rfl) (.inl rfl) (.inr rfl) (.inr rfl) (.inr rfl) (.inr rfl) (.inr rfl) (.inr rfl) (.inr rfl) (.inr rfl) (.inr rfl) (.inr rfl)
  with_reducible exact Moves.refl _ _

theorem cclkWindow_mv (x0 : State) (x1 : Nat) : Moves 134585840 x0 (cclkWindow x0 x1) := by
  unfold cclkWindow
  lift_lets
  (intro c1; clear_value c1)
  (intro s2; refine Moves.cut (P := Moves 134585840 x0 s2) ?_ ?_; rotate_left; intro h2; clear_value s2)
  with_reducible refine Moves.ite ?_ ?_
  with_reducible refine Moves.step ?_ (nextWayTest_mv _) rfl
  assumption
  with_reducible refine Moves.step ?_ (transitAbort_mv _ _) rfl
  assumption
  subst s2
  with_reducible exact Moves.mk' (m := 134585840) (Moves.refl _ _) (.inl rfl) (.inl rfl) (.inl rfl) (.inl rfl) (.inl rfl) (.inr rfl) (.inl rfl) (.inl rfl) (.inl rfl) (by rfl) (by rfl) (.inr rfl) (.inr rfl) (.inl rfl) (.inl rfl) (.inr rfl) (.inl rfl) (.inr rfl) (.inr rfl) (.inr rfl) (.inr rfl) (.inr rfl) (.inr rfl) (.inr rfl) (.inr rfl) (.inl rfl) (.inr rfl)

theorem logFail_mv (x0 : State) (x1 : TransitFail) : Moves 262640 x0 (logFail x0 x1) := by
  unfold logFail
  lift_lets
  (intro c1; clear_value c1)
  (intro c2; clear_value c2)
  intro c3
  intro c4
  (intro c5; clear_value c5)
  with_reducible refine Moves.step ?_ (raiseLim_mv _ _ _ _ _ _ _ _ _ _) rfl
  with_reducible exact Moves.mk' (m := 262640) (Moves.refl _ _) (.inl rfl) (.inl rfl) (.inl rfl) (.inl rfl) (.inl rfl) (.inr rfl) (.inr rfl) (.inr rfl) (.inr rfl) rfl rfl (.inr rfl) (.inr rfl) (.inr rfl) (.inr rfl) (.inr rfl) (.inl rfl) (.inr rfl) (.inr rfl) (.inr rfl) (.inr rfl) (.inr rfl) (.inr rfl) (.inr rfl) (.inr rfl) (.inr rfl) (.inr rfl)

theorem failEffect_mv (x0 : State) (x1 : TransitFail) : Moves 57328 x0 (failEffect x0 x1) := by
  unfold failEffect
  lift_lets
  (intro c1; clear_value c1)
  (intro c2; clear_value c2)
  (intro c3; clear_value c3)
  (intro c4; clear_value c4)
  with_reducible refine Moves.ite ?_ ?_
  with_reducible refine Moves.ite ?_ ?_
  with_reducible refine Moves.step ?_ (State.modLink_mv _ _ _) rfl
  with_reducible exact Moves.refl _ _
  with_reducible refine Moves.step ?_ (markLaneFailed_mv _ _) rfl
  with_reducible exact Moves.refl _ _
  with_reducible refine Moves.ite ?_ ?_
  with_reducible refine Moves.step ?_ (markLaneFailed_mv _ _) rfl
  with_reducible exact Moves.refl _ _
  with_reducible refine Moves.ite ?_ ?_
  with_reducible refine Moves.ite ?_ ?_
  with_reducible exact Moves.refl _ _
  with_reducible refine Moves.step ?_ (disableWay_mv _ _) rfl
  with_reducible refine Moves.step ?_ (raiseJ_mv _ _ _ _ _ _) rfl
  with_reducible exact Moves.refl _ _
  with_reducible exact Moves.refl _ _

theorem runDone_mv (x0 : State) (x1 : Nat) (x2 : Nat) (x3 : Nat) (x4 : List TransitFail) : Moves 134602736 x0 (runDone x0 x1 x2 x3 x4) := by
  unfold runDone
  lift_lets
  (intro c1; clear_value c1)
  (intro s2; refine Moves.cut (P := Moves 134602736 x0 s2) ?_ ?_; rotate_left; intro h2; clear_value s2)
  (intro s3; refine Moves.cut (P := Moves 134602736 x0 s3) ?_ ?_; rotate_left; intro h3; clear_value s3)
  (intro s4; refine Moves.cut (P := Moves 134602736 x0 s4) ?_ ?_; rotate_left; intro h4; clear_value s4)
  (intro s5; refine Moves.cut (P := Moves 134602736 x0 s5) ?_ ?_; rotate_left; intro h5; clear_value s5)
  (intro s6; refine Moves.cut (P := Moves 134602736 x0 s6) ?_ ?_; rotate_left; intro h6; clear_value s6)
  (intro c7; clear_value c7)
  (intro c8; clear_value c8)
  (intro s9; refine Moves.cut (P := Moves 134602736 x0 s9) ?_ ?_; rotate_left; intro h9; clear_value s9)
  (intro s10; refine Moves.cut (P := Moves 134602736 x0 s10) ?_ ?_; rotate_left; intro h10; clear_value s10)
  with_reducible refine Moves.step ?_ (transitComplete_mv _ _) rfl
  assumption
  subst s2
  (with_reducible refine Moves.foldl _ _ ?_ ?_; rotate_left; intro _ _ _)
  with_reducible refine Moves.step ?_ (logFail_mv _ _) rfl
  assumption
  subst s3
  (with_reducible refine Moves.foldl _ _ ?_ ?_; rotate_left; intro _ _ _)
  with_reducible refine Moves.step ?_ (marchLeaves_mv _ _ _ _ _ _) rfl
  assumption
  subst s4
  split
  (with_reducible refine Moves.foldl _ _ ?_ ?_; rotate_left; intro _ _ _)
  with_reducible refine Moves.step ?_ (emptyWay_mv _ _) rfl
  assumption
  assumption
  subst s5
  with_reducible refine Moves.step ?_ (transitRelease_mv _) rfl
  assumption
  subst s6
  (with_reducible refine Moves.foldl _ _ ?_ ?_; rotate_left; intro _ _ _)
  with_reducible refine Moves.step ?_ (failEffect_mv _ _) rfl
  assumption
  subst s9
  with_reducible exact Moves.mk' (m := 134602736) (by assumption) (.inl rfl) (.inl rfl) (.inl rfl) (.inl rfl) (.inl rfl) (.inl rfl) (.inl rfl) (.inl rfl) (.inl rfl) (by rfl) (by rfl) (.inr rfl) (.inl rfl) (.inl rfl) (.inl rfl) (.inr rfl) (.inl rfl) (.inr rfl) (.inr rfl) (.inr rfl) (.inr rfl) (.inr rfl) (.inr rfl) (.inr rfl) (.inr rfl) (.inl rfl) (.inr rfl)
  subst s10
  with_reducible refine Moves.step ?_ (raiseJ_mv _ _ _ _ _ _) rfl
  assumption
  with_reducible exact Moves.refl _ _
  assumption
  assumption
  assumption

theorem writeTransitCtl_mv (x0 : State) (x1 : Nat) : Moves 134553072 x0 (writeTransitCtl x0 x1) := by
  unfold writeTransitCtl
  with_reducible refine Moves.ite ?_ ?_
  with_reducible refine Moves.step ?_ (transitAbort_mv _ _) rfl
  with_reducible exact Moves.refl _ _
  with_reducible exact Moves.refl _ _

theorem jtagBypass_mv (x0 : State) : Moves 524288 x0 (jtagBypass x0) := by
  unfold jtagBypass
  with_reducible exact Moves.mk' (m := 524288) (Moves.refl _ _) (.inr rfl) (.inr rfl) (.inr rfl) (.inr rfl) (.inr rfl) (.inr rfl) (.inr rfl) (.inr rfl) (.inr rfl) rfl rfl (.inr rfl) (.inr rfl) (.inr rfl) (.inr rfl) (.inr rfl) (.inr rfl) (.inl rfl) (.inr rfl) (.inr rfl) (.inr rfl) (.inr rfl) (.inr rfl) (.inr rfl) (.inr rfl) (.inr rfl) (.inr rfl)

theorem execBypass_mv (x0 : Byte) (x1 : State) : MovesO 524288 x1 (execBypass x0 x1) := by
  unfold execBypass
  with_reducible refine MovesO.whenDo ?_ ?_
  with_reducible exact Moves.refl _ _
  with_reducible refine Moves.step ?_ (jtagBypass_mv _) rfl
  with_reducible exact Moves.refl _ _

theorem execIdcode_mv (x0 : State) : MovesO 524288 x0 (execIdcode x0) := by
  unfold execIdcode
  with_reducible refine MovesO.whenDo ?_ ?_
  with_reducible exact Moves.refl _ _
  with_reducible exact Moves.mk' (m := 524288) (Moves.refl _ _) (.inr rfl) (.inr rfl) (.inr rfl) (.inr rfl) (.inr rfl) (.inr rfl) (.inr rfl) (.inr rfl) (.inr rfl) rfl rfl (.inr rfl) (.inr rfl) (.inr rfl) (.inr rfl) (.inr rfl) (.inr rfl) (.inl rfl) (.inr rfl) (.inr rfl) (.inr rfl) (.inr rfl) (.inr rfl) (.inr rfl) (.inr rfl) (.inr rfl) (.inr rfl)

theorem execSamplePreload_mv (x0 : List Bool) (x1 : State) : MovesO 524288 x1 (execSamplePreload x0 x1) := by
  unfold execSamplePreload
  with_reducible refine MovesO.whenDo ?_ ?_
  with_reducible exact Moves.refl _ _
  with_reducible exact Moves.mk' (m := 524288) (Moves.refl _ _) (.inr rfl) (.inr rfl) (.inr rfl) (.inr rfl) (.inr rfl) (.inr rfl) (.inr rfl) (.inr rfl) (.inr rfl) rfl rfl (.inr rfl) (.inr rfl) (.inr rfl) (.inr rfl) (.inr rfl) (.inr rfl) (.inl rfl) (.inr rfl) (.inr rfl) (.inr rfl) (.inr rfl) (.inr rfl) (.inr rfl) (.inr rfl) (.inr rfl) (.inr rfl)

theorem jtagRefused_mv (x0 : State) (x1 : Nat) (x2 : Nat) : Moves 524784 x0 (jtagRefused x0 x1 x2) := by
  unfold jtagRefused
  with_reducible refine Moves.step ?_ (raise_mv _ _ _ _ _ _) rfl
  with_reducible refine Moves.step ?_ (jtagBypass_mv _) rfl
  with_reducible exact Moves.refl _ _

theorem execExtest_mv (x0 : State) : MovesO 524784 x0 (execExtest x0) := by
  unfold execExtest
  with_reducible refine MovesO.whenDo ?_ ?_
  with_reducible exact Moves.refl _ _
  with_reducible refine Moves.ite ?_ ?_
  with_reducible refine Moves.step ?_ (jtagRefused_mv _ _ _) rfl
  with_reducible exact Moves.refl _ _
  with_reducible exact Moves.mk' (m := 524784) (Moves.refl _ _) (.inl rfl) (.inl rfl) (.inl rfl) (.inl rfl) (.inl rfl) (.inr rfl) (.inr rfl) (.inr rfl) (.inr rfl) rfl rfl (.inr rfl) (.inr rfl) (.inr rfl) (.inr rfl) (.inr rfl) (.inr rfl) (.inl rfl) (.inr rfl) (.inr rfl) (.inr rfl) (.inr rfl) (.inr rfl) (.inr rfl) (.inr rfl) (.inr rfl) (.inr rfl)

theorem execWrapSel_mv (x0 : State) : MovesO 524784 x0 (execWrapSel x0) := by
  unfold execWrapSel
  with_reducible refine MovesO.whenDo ?_ ?_
  with_reducible exact Moves.refl _ _
  with_reducible refine Moves.ite ?_ ?_
  with_reducible refine Moves.step ?_ (jtagRefused_mv _ _ _) rfl
  with_reducible exact Moves.refl _ _
  with_reducible refine Moves.ite ?_ ?_
  with_reducible refine Moves.step ?_ (jtagRefused_mv _ _ _) rfl
  with_reducible exact Moves.refl _ _
  with_reducible exact Moves.mk' (m := 524784) (Moves.refl _ _) (.inl rfl) (.inl rfl) (.inl rfl) (.inl rfl) (.inl rfl) (.inr rfl) (.inr rfl) (.inr rfl) (.inr rfl) rfl rfl (.inr rfl) (.inr rfl) (.inr rfl) (.inr rfl) (.inr rfl) (.inr rfl) (.inl rfl) (.inr rfl) (.inr rfl) (.inr rfl) (.inr rfl) (.inr rfl) (.inr rfl) (.inr rfl) (.inr rfl) (.inr rfl)

end Sys2Proof.Machine
end

