-- ==== Sys2Proof/Laws/FrameFuses.lean ====
section
/-! SUPPORT. What each operation of Machine/Fuses.lean may change, one lemma an operation (`<name>_mv`): the components its
mask names, and nothing else of the state. -/

namespace Sys2Proof.Machine

theorem fuseRegs_mv (x0 : State) : Moves 16 x0 (fuseRegs x0) := by
  unfold fuseRegs
  lift_lets
  (intro c1; clear_value c1)
  (intro c2; clear_value c2)
  (intro c3; clear_value c3)
  (intro c4; clear_value c4)
  (intro c5; clear_value c5)
  (intro s6; refine Moves.cut (P := Moves 16 x0 s6) ?_ ?_; rotate_left; intro h6; clear_value s6)
  (intro s7; refine Moves.cut (P := Moves 16 x0 s7) ?_ ?_; rotate_left; intro h7; clear_value s7)
  (intro s8; refine Moves.cut (P := Moves 16 x0 s8) ?_ ?_; rotate_left; intro h8; clear_value s8)
  with_reducible refine Moves.step ?_ (csrSet_mv _ _ _) rfl
  with_reducible refine Moves.step ?_ (State.useFree_mv _) rfl
  assumption
  subst s6
  with_reducible refine Moves.step ?_ (csrSet_mv _ _ _) rfl
  with_reducible exact Moves.refl _ _
  subst s7
  with_reducible refine Moves.step ?_ (csrSet_mv _ _ _) rfl
  assumption
  subst s8
  (with_reducible refine Moves.foldl _ _ ?_ ?_; rotate_left; intro _ _ _)
  with_reducible refine Moves.step ?_ (csrSet_mv _ _ _) rfl
  assumption
  assumption

theorem groupEvents_mv (x0 : State) (x1 : Fin 8) : Moves 496 x0 (groupEvents x0 x1) := by
  unfold groupEvents
  lift_lets
  (intro c1; clear_value c1)
  (intro c2; clear_value c2)
  (intro c3; clear_value c3)
  (intro s4; refine Moves.cut (P := Moves 496 x0 s4) ?_ ?_; rotate_left; intro h4; clear_value s4)
  (intro s5; refine Moves.cut (P := Moves 496 x0 s5) ?_ ?_; rotate_left; intro h5; clear_value s5)
  with_reducible refine Moves.ite ?_ ?_
  with_reducible refine Moves.step ?_ (raiseJ_mv _ _ _ _ _ _) rfl
  assumption
  assumption
  subst s4
  with_reducible refine Moves.ite ?_ ?_
  with_reducible refine Moves.step ?_ (raiseJ_mv _ _ _ _ _ _) rfl
  with_reducible exact Moves.refl _ _
  with_reducible exact Moves.refl _ _
  subst s5
  with_reducible refine Moves.ite ?_ ?_
  assumption
  with_reducible refine Moves.step ?_ (raise_mv _ _ _ _ _ _) rfl
  assumption

theorem senseFuses_mv (x0 : State) (x1 : List FuseReading) : Moves 33554928 x0 (senseFuses x0 x1) := by
  unfold senseFuses
  lift_lets
  (intro c1; clear_value c1)
  (intro c2; clear_value c2)
  (intro c3; clear_value c3)
  (intro s4; refine Moves.cut (P := Moves 33554928 x0 s4) ?_ ?_; rotate_left; intro h4; clear_value s4)
  (intro s5; refine Moves.cut (P := Moves 33554928 x0 s5) ?_ ?_; rotate_left; intro h5; clear_value s5)
  with_reducible refine Moves.ite ?_ ?_
  with_reducible refine Moves.step ?_ (raise_mv _ _ _ _ _ _) rfl
  assumption
  assumption
  subst s4
  with_reducible exact Moves.mk' (m := 33554928) (Moves.refl _ _) (.inl rfl) (.inl rfl) (.inl rfl) (.inl rfl) (.inl rfl) (.inr rfl) (.inr rfl) (.inr rfl) (.inr rfl) rfl rfl (.inr rfl) (.inr rfl) (.inr rfl) (.inr rfl) (.inr rfl) (.inr rfl) (.inr rfl) (.inr rfl) (.inr rfl) (.inr rfl) (.inr rfl) (.inr rfl) (.inl rfl) (.inr rfl) (.inr rfl) (.inr rfl)
  subst s5
  (with_reducible refine Moves.foldl _ _ ?_ ?_; rotate_left; intro _ _ _)
  with_reducible refine Moves.step ?_ (groupEvents_mv _ _) rfl
  assumption
  with_reducible refine Moves.step ?_ (fuseRegs_mv _) rfl
  assumption

theorem entryBad_mv (x0 : State) (x1 : Nat) (x2 : Nat) (x3 : Nat) : Moves 496 x0 (entryBad x0 x1 x2 x3) := by
  unfold entryBad
  with_reducible refine Moves.step ?_ (raiseJ_mv _ _ _ _ _ _) rfl
  with_reducible exact Moves.refl _ _

theorem badField_mv (x0 : State) : Moves 496 x0 (badField x0) := by
  unfold badField
  (with_reducible refine Moves.foldl _ _ ?_ ?_; rotate_left; intro _ _ _)
  lift_lets
  (intro c2; clear_value c2)
  (intro c3; clear_value c3)
  (intro c4; clear_value c4)
  with_reducible refine Moves.ite ?_ ?_
  with_reducible refine Moves.step ?_ (entryBad_mv _ _ _ _) rfl
  assumption
  assumption
  with_reducible exact Moves.refl _ _

theorem loadEntry_mv (x0 : State) (x1 : Nat × Nat) : Moves 6640 x0 (loadEntry x0 x1) := by
  unfold loadEntry
  split
  lift_lets
  (intro c2; clear_value c2)
  (intro c3; clear_value c3)
  (intro c4; subst c4)
  (intro c5; clear_value c5)
  (intro c6; clear_value c6)
  with_reducible refine Moves.ite ?_ ?_
  split
  with_reducible exact Moves.refl _ _
  with_reducible refine Moves.ite ?_ ?_
  with_reducible refine Moves.step ?_ (entryBad_mv _ _ _ _) rfl
  with_reducible exact Moves.refl _ _
  with_reducible exact Moves.mk' (m := 6640) (Moves.refl _ _) (.inl rfl) (.inl rfl) (.inl rfl) (.inl rfl) (.inl rfl) (.inr rfl) (.inr rfl) (.inl rfl) (.inl rfl) (by rfl) (by rfl) (.inr rfl) (.inr rfl) (.inr rfl) (.inr rfl) (.inr rfl) (.inr rfl) (.inr rfl) (.inr rfl) (.inr rfl) (.inr rfl) (.inr rfl) (.inr rfl) (.inr rfl) (.inr rfl) (.inr rfl) (.inr rfl)
  with_reducible refine Moves.ite ?_ ?_
  with_reducible refine Moves.ite ?_ ?_
  with_reducible exact Moves.refl _ _
  with_reducible refine Moves.ite ?_ ?_
  with_reducible refine Moves.step ?_ (entryBad_mv _ _ _ _) rfl
  with_reducible exact Moves.refl _ _
  with_reducible exact Moves.mk' (m := 6640) (Moves.refl _ _) (.inl rfl) (.inl rfl) (.inl rfl) (.inl rfl) (.inl rfl) (.inr rfl) (.inr rfl) (.inl rfl) (.inl rfl) (by rfl) (by rfl) (.inr rfl) (.inr rfl) (.inr rfl) (.inr rfl) (.inr rfl) (.inr rfl) (.inr rfl) (.inr rfl) (.inr rfl) (.inr rfl) (.inr rfl) (.inr rfl) (.inr rfl) (.inr rfl) (.inr rfl) (.inr rfl)
  with_reducible refine Moves.ite ?_ ?_
  with_reducible exact Moves.refl _ _
  with_reducible refine Moves.step ?_ (State.modPc_mv _ _ _) rfl
  with_reducible exact Moves.refl _ _

theorem loadRepairs_mv (x0 : State) : Moves 6640 x0 (loadRepairs x0) := by
  unfold loadRepairs
  lift_lets
  (intro c1; clear_value c1)
  (intro s2; refine Moves.cut (P := Moves 6640 x0 s2) ?_ ?_; rotate_left; intro h2; clear_value s2)
  (intro c3; subst c3)
  (intro s4; refine Moves.cut (P := Moves 6640 x0 s4) ?_ ?_; rotate_left; intro h4; clear_value s4)
  with_reducible refine Moves.step ?_ (badField_mv _) rfl
  (with_reducible refine Moves.foldl _ _ ?_ ?_; rotate_left; intro _ _ _)
  with_reducible refine Moves.step ?_ (loadEntry_mv _ _) rfl
  assumption
  subst s2
  with_reducible refine Moves.step ?_ (State.useFree_mv _) rfl
  with_reducible exact Moves.refl _ _
  subst s4
  with_reducible exact Moves.mk' (m := 6640) (by assumption) (.inl rfl) (.inl rfl) (.inl rfl) (.inl rfl) (.inl rfl) (.inr rfl) (.inr rfl) (.inl rfl) (.inl rfl) (by rfl) (by rfl) (.inr rfl) (.inr rfl) (.inr rfl) (.inr rfl) (.inr rfl) (.inr rfl) (.inr rfl) (.inr rfl) (.inr rfl) (.inr rfl) (.inr rfl) (.inr rfl) (.inr rfl) (.inr rfl) (.inr rfl) (.inr rfl)
  assumption

theorem fuseProg_mv (x0 : State) (x1 : Nat) (x2 : Nat) (x3 : Nat) (x4 : Nat) : Moves 496 x0 (fuseProg x0 x1 x2 x3 x4) := by
  unfold fuseProg
  with_reducible refine Moves.step ?_ (raiseJ_mv _ _ _ _ _ _) rfl
  with_reducible exact Moves.refl _ _

theorem setFuseResult_mv (x0 : State) (x1 : Nat) : Moves 33554432 x0 (setFuseResult x0 x1) := by
  unfold setFuseResult
  with_reducible exact Moves.mk' (m := 33554432) (Moves.refl _ _) (.inr rfl) (.inr rfl) (.inr rfl) (.inr rfl) (.inr rfl) (.inr rfl) (.inr rfl) (.inr rfl) (.inr rfl) rfl rfl (.inr rfl) (.inr rfl) (.inr rfl) (.inr rfl) (.inr rfl) (.inr rfl) (.inr rfl) (.inr rfl) (.inr rfl) (.inr rfl) (.inr rfl) (.inr rfl) (.inl rfl) (.inr rfl) (.inr rfl) (.inr rfl)

theorem fuseRequest_mv (x0 : State) (x1 : Nat) : Moves 33554928 x0 (fuseRequest x0 x1) := by
  unfold fuseRequest
  lift_lets
  (intro c1; clear_value c1)
  (intro c2; clear_value c2)
  (intro c3; clear_value c3)
  with_reducible refine Moves.ite ?_ ?_
  with_reducible exact Moves.refl _ _
  with_reducible refine Moves.ite ?_ ?_
  with_reducible refine Moves.step ?_ (fuseProg_mv _ _ _ _ _) rfl
  with_reducible exact Moves.refl _ _
  with_reducible refine Moves.ite ?_ ?_
  with_reducible refine Moves.step ?_ (setFuseResult_mv _ _) rfl
  with_reducible exact Moves.refl _ _
  with_reducible exact Moves.mk' (m := 33554928) (Moves.refl _ _) (.inl rfl) (.inl rfl) (.inl rfl) (.inl rfl) (.inl rfl) (.inr rfl) (.inr rfl) (.inr rfl) (.inr rfl) rfl rfl (.inr rfl) (.inr rfl) (.inr rfl) (.inr rfl) (.inr rfl) (.inr rfl) (.inr rfl) (.inr rfl) (.inr rfl) (.inr rfl) (.inr rfl) (.inr rfl) (.inl rfl) (.inr rfl) (.inr rfl) (.inr rfl)

theorem fuseNoPulse_mv (x0 : State) (x1 : Nat) : Moves 33554928 x0 (fuseNoPulse x0 x1) := by
  unfold fuseNoPulse
  with_reducible refine Moves.step ?_ (raise_mv _ _ _ _ _ _) rfl
  with_reducible exact Moves.mk' (m := 33554928) (Moves.refl _ _) (.inl rfl) (.inl rfl) (.inl rfl) (.inl rfl) (.inl rfl) (.inr rfl) (.inr rfl) (.inr rfl) (.inr rfl) rfl rfl (.inr rfl) (.inr rfl) (.inr rfl) (.inr rfl) (.inr rfl) (.inr rfl) (.inr rfl) (.inr rfl) (.inr rfl) (.inr rfl) (.inr rfl) (.inr rfl) (.inl rfl) (.inr rfl) (.inr rfl) (.inr rfl)

theorem fuseStart_mv (x0 : State) (x1 : FuseOp) : Moves 33554928 x0 (fuseStart x0 x1) := by
  unfold fuseStart
  with_reducible refine Moves.ite ?_ ?_
  with_reducible refine Moves.step ?_ (setFuseResult_mv _ _) rfl
  with_reducible exact Moves.mk' (m := 33554928) (Moves.refl _ _) (.inl rfl) (.inl rfl) (.inl rfl) (.inl rfl) (.inl rfl) (.inr rfl) (.inr rfl) (.inr rfl) (.inr rfl) rfl rfl (.inr rfl) (.inr rfl) (.inr rfl) (.inr rfl) (.inr rfl) (.inr rfl) (.inr rfl) (.inr rfl) (.inr rfl) (.inr rfl) (.inr rfl) (.inr rfl) (.inl rfl) (.inr rfl) (.inr rfl) (.inr rfl)
  with_reducible refine Moves.ite ?_ ?_
  with_reducible refine Moves.step ?_ (fuseNoPulse_mv _ _) rfl
  with_reducible exact Moves.refl _ _
  split
  with_reducible exact Moves.mk' (m := 33554928) (Moves.refl _ _) (.inl rfl) (.inl rfl) (.inl rfl) (.inl rfl) (.inl rfl) (.inr rfl) (.inr rfl) (.inr rfl) (.inr rfl) rfl rfl (.inr rfl) (.inr rfl) (.inr rfl) (.inr rfl) (.inr rfl) (.inr rfl) (.inr rfl) (.inr rfl) (.inr rfl) (.inr rfl) (.inr rfl) (.inr rfl) (.inl rfl) (.inr rfl) (.inr rfl) (.inr rfl)

theorem execFuseOpStart_mv (x0 : State) : MovesO 33554928 x0 (execFuseOpStart x0) := by
  unfold execFuseOpStart
  split
  with_reducible refine MovesO.whenDo ?_ ?_
  with_reducible exact Moves.refl _ _
  with_reducible refine Moves.step ?_ (fuseStart_mv _ _) rfl
  with_reducible exact Moves.refl _ _
  split
  with_reducible refine MovesO.whenDo ?_ ?_
  with_reducible exact Moves.refl _ _
  with_reducible refine Moves.step ?_ (fuseStart_mv _ _) rfl
  with_reducible exact Moves.refl _ _
  with_reducible refine MovesO.next ?_
  with_reducible exact Moves.refl _ _

theorem fieldProg_mv (x0 : State) (x1 : SMap FuseWord) (x2 : SMap FuseWord) (x3 : Nat) (x4 : Nat) (x5 : Nat) : Moves 496 x0 (fieldProg x0 x1 x2 x3 x4 x5) := by
  unfold fieldProg
  lift_lets
  (intro c1; clear_value c1)
  (intro s2; refine Moves.cut (P := Moves 496 x0 s2) ?_ ?_; rotate_left; intro h2; clear_value s2)
  with_reducible refine Moves.ite ?_ ?_
  with_reducible refine Moves.step ?_ (fuseProg_mv _ _ _ _ _) rfl
  assumption
  assumption
  subst s2
  with_reducible refine Moves.step ?_ (fuseProg_mv _ _ _ _ _) rfl
  with_reducible exact Moves.refl _ _

theorem tsvProgrammed_mv (x0 : State) (x1 : FuseOp) (x2 : List FuseReading) (x3 : Nat) : Moves 33559024 x0 (tsvProgrammed x0 x1 x2 x3) := by
  unfold tsvProgrammed
  lift_lets
  (intro c1; clear_value c1)
  (intro c2; clear_value c2)
  (intro c3; subst c3)
  (intro c4; clear_value c4)
  split
  lift_lets
  (intro s7; refine Moves.cut (P := Moves 33559024 x0 s7) ?_ ?_; rotate_left; intro h7; clear_value s7)
  (intro s8; refine Moves.cut (P := Moves 33559024 x0 s8) ?_ ?_; rotate_left; intro h8; clear_value s8)
  with_reducible refine Moves.ite ?_ ?_
  with_reducible refine Moves.step ?_ (raiseJ_mv _ _ _ _ _ _) rfl
  assumption
  assumption
  subst s7
  with_reducible exact Moves.mk' (m := 33559024) (Moves.refl _ _) (.inl rfl) (.inl rfl) (.inl rfl) (.inl rfl) (.inl rfl) (.inr rfl) (.inr rfl) (.inr rfl) (.inl rfl) (by rfl) (by rfl) (.inr rfl) (.inr rfl) (.inr rfl) (.inr rfl) (.inr rfl) (.inr rfl) (.inr rfl) (.inr rfl) (.inr rfl) (.inr rfl) (.inr rfl) (.inr rfl) (.inl rfl) (.inr rfl) (.inr rfl) (.inr rfl)
  subst s8
  with_reducible refine Moves.step ?_ (fieldProg_mv _ _ _ _ _ _) rfl
  assumption

theorem fuseDone_mv (x0 : State) (x1 : FuseOp) (x2 : List FuseReading) (x3 : Nat) : Moves 33559024 x0 (fuseDone x0 x1 x2 x3) := by
  unfold fuseDone
  lift_lets
  (intro c1; clear_value c1)
  (intro c2; clear_value c2)
  (intro c3; clear_value c3)
  (intro c4; clear_value c4)
  (intro s5; refine Moves.cut (P := Moves 33559024 x0 s5) ?_ ?_; rotate_left; intro h5; clear_value s5)
  (intro s6; refine Moves.cut (P := Moves 33559024 x0 s6) ?_ ?_; rotate_left; intro h6; clear_value s6)
  with_reducible refine Moves.ite ?_ ?_
  with_reducible refine Moves.step ?_ (fuseNoPulse_mv _ _) rfl
  with_reducible exact Moves.mk' (m := 33559024) (Moves.refl _ _) (.inl rfl) (.inl rfl) (.inl rfl) (.inl rfl) (.inl rfl) (.inr rfl) (.inr rfl) (.inr rfl) (.inl rfl) (by rfl) (by rfl) (.inr rfl) (.inr rfl) (.inr rfl) (.inr rfl) (.inr rfl) (.inr rfl) (.inr rfl) (.inr rfl) (.inr rfl) (.inr rfl) (.inr rfl) (.inr rfl) (.inl rfl) (.inr rfl) (.inr rfl) (.inr rfl)
  with_reducible refine Moves.ite ?_ ?_
  with_reducible refine Moves.step ?_ (tsvProgrammed_mv _ _ _ _) rfl
  with_reducible exact Moves.refl _ _
  with_reducible refine Moves.ite ?_ ?_
  with_reducible refine Moves.step ?_ (raiseJ_mv _ _ _ _ _ _) rfl
  assumption
  assumption
  subst s5
  with_reducible exact Moves.mk' (m := 33559024) (Moves.refl _ _) (.inl rfl) (.inl rfl) (.inl rfl) (.inl rfl) (.inl rfl) (.inr rfl) (.inr rfl) (.inr rfl) (.inl rfl) (by rfl) (by rfl) (.inr rfl) (.inr rfl) (.inr rfl) (.inr rfl) (.inr rfl) (.inr rfl) (.inr rfl) (.inr rfl) (.inr rfl) (.inr rfl) (.inr rfl) (.inr rfl) (.inl rfl) (.inr rfl) (.inr rfl) (.inr rfl)
  subst s6
  with_reducible refine Moves.step ?_ (fuseProg_mv _ _ _ _ _) rfl
  assumption

theorem execFuseOpDone_mv (x0 : List FuseReading) (x1 : Nat) (x2 : State) : MovesO 33559024 x2 (execFuseOpDone x0 x1 x2) := by
  unfold execFuseOpDone
  split
  with_reducible refine MovesO.whenDo ?_ ?_
  with_reducible exact Moves.refl _ _
  with_reducible refine Moves.step ?_ (fuseDone_mv _ _ _ _) rfl
  with_reducible exact Moves.refl _ _
  with_reducible refine MovesO.next ?_
  with_reducible exact Moves.refl _ _

theorem fuseStop_mv (x0 : State) : Moves 33554432 x0 (fuseStop x0) := by
  unfold fuseStop
  split
  with_reducible exact Moves.refl _ _
  lift_lets
  (intro c3; clear_value c3)
  (intro s4; refine Moves.cut (P := Moves 33554432 x0 s4) ?_ ?_; rotate_left; intro h4; clear_value s4)
  (intro c5; clear_value c5)
  with_reducible exact Moves.mk' (m := 33554432) (by assumption) (.inr rfl) (.inr rfl) (.inr rfl) (.inr rfl) (.inr rfl) (.inr rfl) (.inr rfl) (.inr rfl) (.inr rfl) rfl rfl (.inr rfl) (.inr rfl) (.inr rfl) (.inr rfl) (.inr rfl) (.inr rfl) (.inr rfl) (.inr rfl) (.inr rfl) (.inr rfl) (.inr rfl) (.inr rfl) (.inl rfl) (.inr rfl) (.inr rfl) (.inr rfl)
  subst s4
  with_reducible refine Moves.step ?_ (State.useFree_mv _) rfl
  with_reducible refine Moves.step ?_ (State.useFree_mv _) rfl
  with_reducible refine Moves.step ?_ (State.useFree_mv _) rfl
  with_reducible exact Moves.refl _ _

theorem driftWord_mv (x0 : State) (x1 : Nat × FuseWord) : Moves 33554928 x0 (driftWord x0 x1) := by
  unfold driftWord
  split
  with_reducible exact Moves.refl _ _
  lift_lets
  (intro c3; clear_value c3)
  (intro c4; clear_value c4)
  (intro s5; refine Moves.cut (P := Moves 33554928 x0 s5) ?_ ?_; rotate_left; intro h5; clear_value s5)
  (intro c6; clear_value c6)
  (intro s7; refine Moves.cut (P := Moves 33554928 x0 s7) ?_ ?_; rotate_left; intro h7; clear_value s7)
  with_reducible refine Moves.ite ?_ ?_
  assumption
  with_reducible refine Moves.step ?_ (raise_mv _ _ _ _ _ _) rfl
  assumption
  subst s5
  with_reducible exact Moves.mk' (m := 33554928) (Moves.refl _ _) (.inl rfl) (.inl rfl) (.inl rfl) (.inl rfl) (.inl rfl) (.inr rfl) (.inr rfl) (.inr rfl) (.inr rfl) rfl rfl (.inr rfl) (.inr rfl) (.inr rfl) (.inr rfl) (.inr rfl) (.inr rfl) (.inr rfl) (.inr rfl) (.inr rfl) (.inr rfl) (.inr rfl) (.inr rfl) (.inl rfl) (.inr rfl) (.inr rfl) (.inr rfl)
  subst s7
  with_reducible exact Moves.mk' (m := 33554928) (by assumption) (.inl rfl) (.inl rfl) (.inl rfl) (.inl rfl) (.inl rfl) (.inr rfl) (.inr rfl) (.inr rfl) (.inr rfl) rfl rfl (.inr rfl) (.inr rfl) (.inr rfl) (.inr rfl) (.inr rfl) (.inr rfl) (.inr rfl) (.inr rfl) (.inr rfl) (.inr rfl) (.inr rfl) (.inr rfl) (.inl rfl) (.inr rfl) (.inr rfl) (.inr rfl)

theorem resense_mv (x0 : State) (x1 : List FuseReading) : Moves 33554928 x0 (resense x0 x1) := by
  unfold resense
  lift_lets
  (intro c1; clear_value c1)
  (intro s2; refine Moves.cut (P := Moves 33554928 x0 s2) ?_ ?_; rotate_left; intro h2; clear_value s2)
  (intro c3; clear_value c3)
  (with_reducible refine Moves.foldl _ _ ?_ ?_; rotate_left; intro _ _ _)
  with_reducible refine Moves.step ?_ (driftWord_mv _ _) rfl
  assumption
  subst s2
  with_reducible exact Moves.mk' (m := 33554928) (Moves.refl _ _) (.inl rfl) (.inl rfl) (.inl rfl) (.inl rfl) (.inl rfl) (.inr rfl) (.inr rfl) (.inr rfl) (.inr rfl) rfl rfl (.inr rfl) (.inr rfl) (.inr rfl) (.inr rfl) (.inr rfl) (.inr rfl) (.inr rfl) (.inr rfl) (.inr rfl) (.inr rfl) (.inr rfl) (.inr rfl) (.inl rfl) (.inr rfl) (.inr rfl) (.inr rfl)
  assumption

theorem execFuseResense_mv (x0 : List FuseReading) (x1 : State) : MovesO 33554928 x1 (execFuseResense x0 x1) := by
  unfold execFuseResense
  with_reducible refine MovesO.whenDo ?_ ?_
  with_reducible exact Moves.refl _ _
  with_reducible refine Moves.step ?_ (resense_mv _ _) rfl
  with_reducible refine Moves.step ?_ (State.atLeast_mv _ _) rfl
  with_reducible exact Moves.refl _ _

theorem writeRdsel_mv (x0 : State) (x1 : Nat) : Moves 33554432 x0 (writeRdsel x0 x1) := by
  unfold writeRdsel
  lift_lets
  (intro c1; clear_value c1)
  (intro c2; clear_value c2)
  (intro c3; clear_value c3)
  (intro c4; clear_value c4)
  with_reducible exact Moves.mk' (m := 33554432) (Moves.refl _ _) (.inr rfl) (.inr rfl) (.inr rfl) (.inr rfl) (.inr rfl) (.inr rfl) (.inr rfl) (.inr rfl) (.inr rfl) rfl rfl (.inr rfl) (.inr rfl) (.inr rfl) (.inr rfl) (.inr rfl) (.inr rfl) (.inr rfl) (.inr rfl) (.inr rfl) (.inr rfl) (.inr rfl) (.inr rfl) (.inl rfl) (.inr rfl) (.inr rfl) (.inr rfl)

theorem fuseRepairRefused_mv (x0 : State) (x1 : Fin 64) (x2 : WxDesc) (x3 : Nat) (x4 : Nat) (x5 : Nat) (x6 : Nat) : Moves 134218224 x0 (fuseRepairRefused x0 x1 x2 x3 x4 x5 x6) := by
  unfold fuseRepairRefused
  with_reducible refine Moves.step ?_ (wxEnd_mv _ _ _ _ _ _) rfl
  with_reducible refine Moves.step ?_ (repairRefused_mv _ _ _ _ _) rfl
  with_reducible exact Moves.refl _ _

theorem fuseRepairProgram_mv (x0 : State) (x1 : Fin 64) (x2 : WxDesc) (x3 : Nat) (x4 : Nat) (x5 : Nat) (x6 : Nat) (x7 : Bool)
    (x8 : State → State) (h : ∀ s, Moves 167776752 s (x8 s)) :
    Moves 167776752 x0 (fuseRepairProgram x0 x1 x2 x3 x4 x5 x6 x7 x8) := by
  unfold fuseRepairProgram
  dsimp only
  refine Moves.ite ?_ ?_
  · refine Moves.step ?_ (wxEnd_mv _ _ _ _ _ _) rfl
    refine Moves.step ?_ (raiseJ_mv _ _ _ _ _ _) rfl
    refine Moves.step ?_ (h _) rfl
    refine Moves.step ?_ (fieldProg_mv _ _ _ _ _ _) rfl
    exact Moves.mk' (m := 167776752) (Moves.refl _ _) (.inl rfl) (.inl rfl) (.inl rfl) (.inl rfl) (.inl rfl) (.inr rfl) (.inr rfl) (.inr rfl) (.inl rfl) (by rfl) (by rfl) (.inr rfl) (.inr rfl) (.inr rfl) (.inr rfl) (.inr rfl) (.inr rfl) (.inr rfl) (.inr rfl) (.inr rfl) (.inr rfl) (.inr rfl) (.inr rfl) (.inl rfl) (.inr rfl) (.inl rfl) (.inr rfl)
  · refine Moves.step ?_ (wxEnd_mv _ _ _ _ _ _) rfl
    refine Moves.step ?_ (fieldProg_mv _ _ _ _ _ _) rfl
    exact Moves.mk' (m := 167776752) (Moves.refl _ _) (.inl rfl) (.inl rfl) (.inl rfl) (.inl rfl) (.inl rfl) (.inr rfl) (.inr rfl) (.inr rfl) (.inl rfl) (by rfl) (by rfl) (.inr rfl) (.inr rfl) (.inr rfl) (.inr rfl) (.inr rfl) (.inr rfl) (.inr rfl) (.inr rfl) (.inr rfl) (.inr rfl) (.inr rfl) (.inr rfl) (.inl rfl) (.inr rfl) (.inl rfl) (.inr rfl)

theorem fuseRow_mv (x0 : State) (x1 : Fin 64) (x2 : WxDesc) (x3 : Fin 256) (x4 : Bool) : Moves 167776752 x0 (fuseRow x0 x1 x2 x3 x4) := by
  unfold fuseRow
  split
  with_reducible refine Moves.step ?_ (fuseRepairRefused_mv _ _ _ _ _ _ _) rfl
  with_reducible exact Moves.refl _ _
  split
  with_reducible refine Moves.step ?_ (fuseRepairRefused_mv _ _ _ _ _ _ _) rfl
  with_reducible exact Moves.refl _ _
  with_reducible refine Moves.ite ?_ ?_
  with_reducible refine Moves.step ?_ (fuseRepairRefused_mv _ _ _ _ _ _ _) rfl
  with_reducible refine Moves.step ?_ (fuseNoPulse_mv _ _) rfl
  with_reducible exact Moves.refl _ _
  (with_reducible refine Moves.step ?_ (fuseRepairProgram_mv _ _ _ _ _ _ _ _ _ ?_) rfl; rotate_left; intro _)
  with_reducible exact Moves.mk' (m := 167776752) (Moves.refl _ _) (.inl rfl) (.inl rfl) (.inl rfl) (.inl rfl) (.inl rfl) (.inr rfl) (.inr rfl) (.inr rfl) (.inl rfl) (by rfl) (by rfl) (.inr rfl) (.inr rfl) (.inr rfl) (.inr rfl) (.inr rfl) (.inr rfl) (.inr rfl) (.inr rfl) (.inr rfl) (.inr rfl) (.inr rfl) (.inr rfl) (.inl rfl) (.inr rfl) (.inl rfl) (.inr rfl)
  with_reducible exact Moves.refl _ _

theorem columnCopy_mv (x0 : State) (x1 : Pc) : Moves 2064 x0 (columnCopy x0 x1) := by
  unfold columnCopy
  lift_lets
  (intro s1; refine Moves.cut (P := Moves 2064 x0 s1) ?_ ?_; rotate_left; intro h1; clear_value s1)
  with_reducible refine Moves.step ?_ (State.modPc_mv _ _ _) rfl
  with_reducible refine Moves.step ?_ (State.atLeast_mv _ _) rfl
  assumption
  subst s1
  with_reducible refine Moves.step ?_ (bump_mv _ _ _) rfl
  with_reducible refine Moves.step ?_ (bump_mv _ _ _) rfl
  with_reducible exact Moves.refl _ _

theorem fuseCol_mv (x0 : State) (x1 : Fin 64) (x2 : WxDesc) (x3 : Nat) (x4 : Nat) (x5 : Nat) (x6 : Bool) : Moves 167778800 x0 (fuseCol x0 x1 x2 x3 x4 x5 x6) := by
  unfold fuseCol
  with_reducible refine Moves.ite ?_ ?_
  with_reducible refine Moves.step ?_ (fuseRepairRefused_mv _ _ _ _ _ _ _) rfl
  with_reducible exact Moves.refl _ _
  with_reducible refine Moves.ite ?_ ?_
  with_reducible refine Moves.step ?_ (fuseRepairRefused_mv _ _ _ _ _ _ _) rfl
  with_reducible exact Moves.refl _ _
  split
  with_reducible refine Moves.step ?_ (fuseRepairRefused_mv _ _ _ _ _ _ _) rfl
  with_reducible exact Moves.refl _ _
  split
  with_reducible refine Moves.step ?_ (fuseRepairRefused_mv _ _ _ _ _ _ _) rfl
  with_reducible exact Moves.refl _ _
  with_reducible refine Moves.ite ?_ ?_
  with_reducible refine Moves.step ?_ (fuseRepairRefused_mv _ _ _ _ _ _ _) rfl
  with_reducible refine Moves.step ?_ (fuseNoPulse_mv _ _) rfl
  with_reducible exact Moves.refl _ _
  generalize hs : columnCopy x0 (pcFin x3) = s17
  have h17 : Moves 167778800 x0 s17 := hs ▸ (Moves.refl _ _).step (columnCopy_mv _ _) rfl
  dsimp only
  refine h17.step (fuseRepairProgram_mv _ _ _ _ _ _ _ _ _ fun s => ?_) rfl
  exact Moves.mk' (m := 167776752) (Moves.refl _ _) (.inl rfl) (.inl rfl) (.inl rfl) (.inl rfl) (.inl rfl) (.inr rfl) (.inr rfl) (.inr rfl) (.inl rfl) (by rfl) (by rfl) (.inr rfl) (.inr rfl) (.inr rfl) (.inr rfl) (.inr rfl) (.inr rfl) (.inr rfl) (.inr rfl) (.inr rfl) (.inr rfl) (.inr rfl) (.inr rfl) (.inl rfl) (.inr rfl) (.inl rfl) (.inr rfl)

theorem repairFuse_mv (x0 : State) (x1 : Fin 64) (x2 : WxDesc) (x3 : Bool) : Moves 167778800 x0 (repairFuse x0 x1 x2 x3) := by
  unfold repairFuse
  lift_lets
  intro c1
  (intro s2; refine Moves.cut (P := Moves 167778800 x0 s2) ?_ ?_; rotate_left; intro h2; clear_value s2)
  (intro c3; clear_value c3)
  (intro c4; clear_value c4)
  with_reducible refine Moves.ite ?_ ?_
  with_reducible refine Moves.step ?_ (fuseRepairRefused_mv _ _ _ _ _ _ _) rfl
  assumption
  with_reducible refine Moves.ite ?_ ?_
  with_reducible refine Moves.step ?_ (fuseRow_mv _ _ _ _ _) rfl
  assumption
  with_reducible refine Moves.step ?_ (fuseCol_mv _ _ _ _ _ _ _) rfl
  assumption
  subst s2
  with_reducible refine Moves.step ?_ (dwHardware_mv _ _) rfl
  with_reducible refine Moves.step ?_ (csrSet_mv _ _ _) rfl
  with_reducible exact Moves.refl _ _

theorem execRepairFuse_mv (x0 : Fin 64) (x1 : Nat) (x2 : Bool) (x3 : State) : MovesO 167778800 x3 (execRepairFuse x0 x1 x2 x3) := by
  unfold execRepairFuse
  (with_reducible refine wxRun_mv _ _ _ _ _ ?_; intro d)
  with_reducible refine Moves.step ?_ (repairFuse_mv _ _ _ _) rfl
  with_reducible exact Moves.refl _ _

end Sys2Proof.Machine
end

