-- ==== Sys2Proof/Laws/FrameMirrorRx.lean ====
section
/-! SUPPORT. What each operation of Machine/MirrorRx.lean may change, one lemma an operation (`<name>_mv`): the components its
mask names, and nothing else of the state. -/

namespace Sys2Proof.Machine

theorem sendCopy_mv (x0 : State) (x1 : Fin 64) (x2 : Nat) (x3 : List Block) : Moves 151017968 x0 (sendCopy x0 x1 x2 x3) := by
  unfold sendCopy
  split
  lift_lets
  (intro c2; clear_value c2)
  with_reducible refine Moves.step ?_ (placeMsg_mv _ _ _ _ _) rfl
  with_reducible refine Moves.step ?_ (Moves.snd (by assumption) (takeSeq_mv _ _)) rfl
  with_reducible exact Moves.refl _ _

theorem copyBlock_mv (x0 : State) (x1 : Nat) : Moves 536870896 x0 (copyBlock x0 x1).2 := by
  unfold copyBlock
  with_reducible refine Moves.ite2 ?_ ?_
  with_reducible exact Moves.refl _ _
  split
  dsimp -zeta only
  with_reducible refine Moves.step ?_ (Moves.thd (by assumption) (readNow_mv _ _ _)) rfl
  with_reducible refine Moves.step ?_ (wxRequest_mv _ _) rfl
  with_reducible exact Moves.refl _ _

theorem copyReads_mv (x0 : State) (x1 : Nat) : Moves 536870896 x0 (copyReads x0 x1).2 := by
  unfold copyReads
  (with_reducible refine Moves.foldl_snd _ _ _ ?_ ?_; rotate_left; intro _ _ _; dsimp -zeta only)
  with_reducible refine Moves.step ?_ (copyBlock_mv _ _) rfl
  with_reducible assumption
  with_reducible exact Moves.refl _ _

theorem copySends_mv (x0 : State) (x1 : Fin 64) (x2 : Nat) (x3 : List (Option Block)) : Moves 151017968 x0 (copySends x0 x1 x2 x3).2 := by
  unfold copySends
  lift_lets
  (intro c1; clear_value c1)
  with_reducible refine Moves.ite2 ?_ ?_
  dsimp -zeta only
  with_reducible refine Moves.step ?_ (sendCopy_mv _ _ _ _) rfl
  with_reducible exact Moves.refl _ _
  dsimp -zeta only
  (with_reducible refine Moves.foldl _ _ ?_ ?_; rotate_left; intro _ _ _)
  split
  with_reducible refine Moves.step ?_ (sendCopy_mv _ _ _ _) rfl
  assumption
  assumption
  with_reducible exact Moves.refl _ _

theorem copyUnit_mv (x0 : State) (x1 : Fin 64) (x2 : Nat) : Moves 536870896 x0 (copyUnit x0 x1 x2).2 := by
  unfold copyUnit
  with_reducible refine Moves.step ?_ (copySends_mv _ _ _ _) rfl
  with_reducible refine Moves.step ?_ (copyReads_mv _ _) rfl
  with_reducible exact Moves.refl _ _

theorem setJob_mv (x0 : State) (x1 : Option ResyncJob) : Moves 16777216 x0 (setJob x0 x1) := by
  unfold setJob
  with_reducible exact Moves.mk' (m := 16777216) (Moves.refl _ _) (.inr rfl) (.inr rfl) (.inr rfl) (.inr rfl) (.inr rfl) (.inr rfl) (.inr rfl) (.inr rfl) (.inr rfl) rfl rfl (.inr rfl) (.inr rfl) (.inr rfl) (.inr rfl) (.inr rfl) (.inr rfl) (.inr rfl) (.inr rfl) (.inr rfl) (.inr rfl) (.inr rfl) (.inl rfl) (.inr rfl) (.inr rfl) (.inr rfl) (.inr rfl)

theorem fillCopy_mv (x0 : Nat) (x1 : State) : Moves 536870896 x1 (fillCopy x0 x1) := by
  induction x0 generalizing x1 with
  | zero => exact Moves.refl _ _
  | succ k ih =>
    unfold fillCopy
    split
    · exact Moves.refl _ _
    · split
      · exact Moves.refl _ _
      · refine Moves.ite ?_ (Moves.ite ?_ ?_)
        · exact ((Moves.refl _ _).step (setJob_mv _ _) rfl).step (ih _) rfl
        · exact ((Moves.refl _ _).step (setJob_mv _ _) rfl).step (ih _) rfl
        · dsimp only
          refine Moves.ite ?_ (Moves.ite ?_ (Moves.refl _ _))
          · exact ((Moves.refl _ _).step (setJob_mv _ _) rfl).step (ih _) rfl
          · split
            · exact (Moves.refl _ _).step (copyUnit_mv _ _ _) rfl
            · exact (((Moves.refl _ _).step (copyUnit_mv _ _ _) rfl).step (setJob_mv _ _) rfl).step (ih _) rfl

theorem copyAcked_mv (x0 : State) (x1 : Nat) : Moves 16777712 x0 (copyAcked x0 x1) := by
  unfold copyAcked
  with_reducible refine Moves.ite ?_ ?_
  with_reducible refine Moves.step ?_ (raiseJ_mv _ _ _ _ _ _) rfl
  with_reducible refine Moves.step ?_ (modWin_mv _ _ _) rfl
  with_reducible exact Moves.refl _ _
  with_reducible exact Moves.refl _ _

theorem resyncStep_mv (x0 : State) : Moves 536870896 x0 (resyncStep x0) := by
  unfold resyncStep
  lift_lets
  (intro s1; refine Moves.cut (P := Moves 536870896 x0 s1) ?_ ?_; rotate_left; intro h1; clear_value s1)
  (intro c2; clear_value c2)
  split
  assumption
  lift_lets
  (intro c6; clear_value c6)
  (intro s7; refine Moves.cut (P := Moves 536870896 x0 s7) ?_ ?_; rotate_left; intro h7; clear_value s7)
  (intro s8; refine Moves.cut (P := Moves 536870896 x0 s8) ?_ ?_; rotate_left; intro h8; clear_value s8)
  with_reducible refine Moves.ite ?_ ?_
  with_reducible refine Moves.step ?_ (wxEnd_mv _ _ _ _ _ _) rfl
  with_reducible refine Moves.step ?_ (setJob_mv _ _) rfl
  assumption
  assumption
  subst s1
  with_reducible refine Moves.ite ?_ ?_
  with_reducible exact Moves.refl _ _
  with_reducible refine Moves.step ?_ (fillCopy_mv _ _) rfl
  with_reducible exact Moves.refl _ _
  subst s7
  with_reducible refine Moves.step ?_ (setJob_mv _ _) rfl
  assumption
  subst s8
  (with_reducible refine Moves.foldl _ _ ?_ ?_; rotate_left; intro _ _ _)
  with_reducible refine Moves.step ?_ (copyAcked_mv _ _) rfl
  assumption
  assumption

theorem startResync_mv (x0 : State) (x1 : Fin 64) (x2 : WxDesc) : Moves 536870896 x0 (startResync x0 x1 x2) := by
  unfold startResync
  lift_lets
  (intro c1; clear_value c1)
  (intro c2; clear_value c2)
  (intro s3; refine Moves.cut (P := Moves 536870896 x0 s3) ?_ ?_; rotate_left; intro h3; clear_value s3)
  (intro c4; clear_value c4)
  (intro s5; refine Moves.cut (P := Moves 536870896 x0 s5) ?_ ?_; rotate_left; intro h5; clear_value s5)
  split
  with_reducible refine Moves.step ?_ (resyncStep_mv _) rfl
  with_reducible refine Moves.step ?_ (wxMod_mv _ _ _ _) rfl
  assumption
  with_reducible refine Moves.step ?_ (wxEnd_mv _ _ _ _ _ _) rfl
  with_reducible exact Moves.refl _ _
  subst s3
  (with_reducible refine Moves.foldl _ _ ?_ ?_; rotate_left; intro _ _ _)
  with_reducible refine Moves.step ?_ (modWin_mv _ _ _) rfl
  assumption
  subst s5
  with_reducible refine Moves.step ?_ (setJob_mv _ _) rfl
  assumption
  with_reducible exact Moves.refl _ _

theorem execMirrorResync_mv (x0 : Fin 64) (x1 : Nat) (x2 : State) : MovesO 536870896 x2 (execMirrorResync x0 x1 x2) := by
  unfold execMirrorResync
  split
  with_reducible refine MovesO.whenDo ?_ ?_
  with_reducible exact Moves.refl _ _
  with_reducible refine Moves.step ?_ (resyncStep_mv _) rfl
  with_reducible exact Moves.refl _ _
  (with_reducible refine wxRun_mv _ _ _ _ _ ?_; intro d)
  with_reducible refine Moves.step ?_ (startResync_mv _ _ _) rfl
  with_reducible exact Moves.refl _ _

theorem setPull_mv (x0 : State) (x1 : Option PullJob) : Moves 16777216 x0 (setPull x0 x1) := by
  unfold setPull
  with_reducible exact Moves.mk' (m := 16777216) (Moves.refl _ _) (.inr rfl) (.inr rfl) (.inr rfl) (.inr rfl) (.inr rfl) (.inr rfl) (.inr rfl) (.inr rfl) (.inr rfl) rfl rfl (.inr rfl) (.inr rfl) (.inr rfl) (.inr rfl) (.inr rfl) (.inr rfl) (.inr rfl) (.inr rfl) (.inr rfl) (.inr rfl) (.inr rfl) (.inl rfl) (.inr rfl) (.inr rfl) (.inr rfl) (.inr rfl)

theorem endPull_mv (x0 : State) (x1 : PullJob) (x2 : Nat) (x3 : Nat) : Moves 150994944 x0 (endPull x0 x1 x2 x3) := by
  unfold endPull
  with_reducible refine Moves.step ?_ (wxEnd_mv _ _ _ _ _ _) rfl
  with_reducible refine Moves.step ?_ (setPull_mv _ _) rfl
  with_reducible exact Moves.refl _ _

theorem pullNext_mv (x0 : State) (x1 : PullJob) : Moves 150994944 x0 (pullNext x0 x1) := by
  unfold pullNext
  with_reducible refine Moves.ite ?_ ?_
  with_reducible refine Moves.step ?_ (endPull_mv _ _ _ _) rfl
  with_reducible exact Moves.refl _ _
  lift_lets
  (intro c4; clear_value c4)
  (intro c5; clear_value c5)
  (intro c6; clear_value c6)
  (intro c7; clear_value c7)
  (intro s8; refine Moves.cut (P := Moves 150994944 x0 s8) ?_ ?_; rotate_left; intro h8; clear_value s8)
  (intro c9; clear_value c9)
  (intro s10; refine Moves.cut (P := Moves 150994944 x0 s10) ?_ ?_; rotate_left; intro h10; clear_value s10)
  with_reducible refine Moves.ite ?_ ?_
  with_reducible refine Moves.step ?_ (endPull_mv _ _ _ _) rfl
  with_reducible exact Moves.refl _ _
  with_reducible refine Moves.step ?_ (setPull_mv _ _) rfl
  assumption
  subst s8
  with_reducible refine Moves.step ?_ (pushQ_mv _ _ _) rfl
  with_reducible refine Moves.step ?_ (State.tick_mv _) rfl
  with_reducible exact Moves.refl _ _
  subst s10
  with_reducible exact Moves.mk' (m := 150994944) (by assumption) (.inr rfl) (.inr rfl) (.inr rfl) (.inr rfl) (.inr rfl) (.inr rfl) (.inr rfl) (.inr rfl) (.inr rfl) rfl rfl (.inr rfl) (.inr rfl) (.inr rfl) (.inr rfl) (.inr rfl) (.inr rfl) (.inr rfl) (.inr rfl) (.inr rfl) (.inr rfl) (.inr rfl) (.inl rfl) (.inr rfl) (.inr rfl) (.inl rfl) (.inr rfl)

theorem startPull_mv (x0 : State) (x1 : Fin 64) (x2 : WxDesc) : Moves 419430400 x0 (startPull x0 x1 x2) := by
  unfold startPull
  lift_lets
  intro c1
  (intro s2; refine Moves.cut (P := Moves 419430400 x0 s2) ?_ ?_; rotate_left; intro h2; clear_value s2)
  with_reducible refine Moves.ite ?_ ?_
  with_reducible refine Moves.step ?_ (wxEnd_mv _ _ _ _ _ _) rfl
  with_reducible exact Moves.refl _ _
  with_reducible refine Moves.ite ?_ ?_
  with_reducible refine Moves.step ?_ (wxEnd_mv _ _ _ _ _ _) rfl
  with_reducible exact Moves.refl _ _
  with_reducible refine Moves.step ?_ (pullNext_mv _ _) rfl
  assumption
  subst s2
  with_reducible refine Moves.step ?_ (wxMod_mv _ _ _ _) rfl
  with_reducible exact Moves.refl _ _

theorem execMirrorPull_mv (x0 : Fin 64) (x1 : Nat) (x2 : State) : MovesO 419430400 x2 (execMirrorPull x0 x1 x2) := by
  unfold execMirrorPull
  (with_reducible refine wxRun_mv _ _ _ _ _ ?_; intro d)
  with_reducible refine Moves.ite ?_ ?_
  with_reducible exact Moves.refl _ _
  with_reducible refine Moves.step ?_ (startPull_mv _ _ _) rfl
  with_reducible exact Moves.refl _ _

theorem pullWrite_mv (x0 : State) (x1 : PullJob) (x2 : Nat) (x3 : Nat) (x4 : Block) : Moves 536870896 x0 (pullWrite x0 x1 x2 x3 x4).2 := by
  unfold pullWrite
  with_reducible refine Moves.ite2 ?_ ?_
  with_reducible exact Moves.refl _ _
  dsimp -zeta only
  with_reducible refine Moves.step ?_ (engineWriteAs_mv _ _ _ _ _ _) rfl
  with_reducible refine Moves.step ?_ (wxRequest_mv _ _) rfl
  with_reducible exact Moves.refl _ _

theorem pullAnswered_mv (x0 : State) (x1 : PullJob) (x2 : PullReq) (x3 : Nat) (x4 : Nat) (x5 : Nat) : Moves 150994944 x0 (pullAnswered x0 x1 x2 x3 x4 x5) := by
  unfold pullAnswered
  lift_lets
  (intro c1; clear_value c1)
  with_reducible refine Moves.ite ?_ ?_
  with_reducible refine Moves.step ?_ (pullNext_mv _ _) rfl
  with_reducible refine Moves.step ?_ (setPull_mv _ _) rfl
  with_reducible exact Moves.refl _ _
  with_reducible refine Moves.step ?_ (setPull_mv _ _) rfl
  with_reducible exact Moves.refl _ _

theorem pullData_mv (x0 : State) (x1 : PullJob) (x2 : PullReq) (x3 : BitVec 256) (x4 : List Block) : Moves 536870896 x0 (pullData x0 x1 x2 x3 x4) := by
  unfold pullData
  lift_lets
  (intro c1; clear_value c1)
  (intro c2; clear_value c2)
  with_reducible refine Moves.ite ?_ ?_
  split
  with_reducible refine Moves.step ?_ (pullAnswered_mv _ _ _ _ _ _) rfl
  (with_reducible refine Moves.snd (by assumption) (Moves.foldl_snd _ _ _ ?_ ?_); rotate_left; intro _ _ _; dsimp -zeta only)
  with_reducible refine Moves.step ?_ (pullWrite_mv _ _ _ _ _) rfl
  with_reducible assumption
  with_reducible refine Moves.step ?_ (pullAnswered_mv _ _ _ _ _ _) rfl
  with_reducible exact Moves.refl _ _
  with_reducible exact Moves.refl _ _

theorem takeRx_mv (x0 : State) (x1 : Fin 2) (x2 : BitVec 256) (x3 : List Block) : Moves 8388608 x0 (takeRx x0 x1 x2 x3).2 := by
  unfold takeRx
  lift_lets
  (intro c1; clear_value c1)
  (intro c2; clear_value c2)
  (intro c3; clear_value c3)
  with_reducible refine Moves.ite2 ?_ ?_
  dsimp -zeta only
  with_reducible exact Moves.mk' (m := 8388608) (Moves.refl _ _) (.inr rfl) (.inr rfl) (.inr rfl) (.inr rfl) (.inr rfl) (.inr rfl) (.inr rfl) (.inr rfl) (.inr rfl) rfl rfl (.inr rfl) (.inr rfl) (.inr rfl) (.inr rfl) (.inr rfl) (.inr rfl) (.inr rfl) (.inr rfl) (.inr rfl) (.inr rfl) (.inl rfl) (.inr rfl) (.inr rfl) (.inr rfl) (.inr rfl) (.inr rfl)
  with_reducible exact Moves.refl _ _

theorem freeRx_mv (x0 : State) (x1 : Fin 2) (x2 : Nat) : Moves 8388608 x0 (freeRx x0 x1 x2) := by
  unfold freeRx
  with_reducible exact Moves.mk' (m := 8388608) (Moves.refl _ _) (.inr rfl) (.inr rfl) (.inr rfl) (.inr rfl) (.inr rfl) (.inr rfl) (.inr rfl) (.inr rfl) (.inr rfl) rfl rfl (.inr rfl) (.inr rfl) (.inr rfl) (.inr rfl) (.inr rfl) (.inr rfl) (.inr rfl) (.inr rfl) (.inr rfl) (.inr rfl) (.inl rfl) (.inr rfl) (.inr rfl) (.inr rfl) (.inr rfl) (.inr rfl)

theorem takeNow_mv (x0 : State) (x1 : Fin 2) (x2 : BitVec 256) (x3 : List Block) : Moves 8388608 x0 (takeNow x0 x1 x2 x3) := by
  unfold takeNow
  split
  with_reducible refine Moves.step ?_ (freeRx_mv _ _ _) rfl
  with_reducible refine Moves.step ?_ (Moves.snd (by assumption) (takeRx_mv _ _ _ _)) rfl
  with_reducible exact Moves.refl _ _

theorem applyRefused_mv (x0 : State) (x1 : BitVec 256) (x2 : Nat) : Moves 496 x0 (applyRefused x0 x1 x2) := by
  unfold applyRefused
  with_reducible refine Moves.step ?_ (raiseLim_mv _ _ _ _ _ _ _ _ _ _) rfl
  with_reducible exact Moves.refl _ _

theorem sendNack_mv (x0 : State) (x1 : BitVec 256) (x2 : Nat) : Moves 16777712 x0 (sendNack x0 x1 x2) := by
  unfold sendNack
  with_reducible refine Moves.step ?_ (applyRefused_mv _ _ _) rfl
  with_reducible refine Moves.step ?_ (pushQ_mv _ _ _) rfl
  with_reducible exact Moves.refl _ _

theorem pushApply_mv (x0 : State) (x1 : Fin 2) (x2 : BitVec 256) (x3 : List Block) : Moves 25165824 x0 (pushApply x0 x1 x2 x3) := by
  unfold pushApply
  split
  with_reducible refine Moves.mk' (m := 25165824) ?_ (.inr rfl) (.inr rfl) (.inr rfl) (.inr rfl) (.inr rfl) (.inr rfl) (.inr rfl) (.inr rfl) (.inr rfl) rfl rfl (.inr rfl) (.inr rfl) (.inr rfl) (.inr rfl) (.inr rfl) (.inr rfl) (.inr rfl) (.inr rfl) (.inr rfl) (.inr rfl) (.inl rfl) (.inl rfl) (.inr rfl) (.inr rfl) (.inr rfl) (.inr rfl)
  with_reducible refine Moves.step ?_ (Moves.snd (by assumption) (takeRx_mv _ _ _ _)) rfl
  with_reducible exact Moves.refl _ _

theorem rxWrite_mv (x0 : State) (x1 : Fin 2) (x2 : BitVec 256) (x3 : List Block) : Moves 25166320 x0 (rxWrite x0 x1 x2 x3) := by
  unfold rxWrite
  split
  with_reducible refine Moves.step ?_ (pushApply_mv _ _ _ _) rfl
  with_reducible exact Moves.refl _ _
  with_reducible refine Moves.step ?_ (sendNack_mv _ _ _) rfl
  with_reducible refine Moves.step ?_ (takeNow_mv _ _ _ _) rfl
  with_reducible exact Moves.refl _ _

theorem execSyncWrite_mv (x0 : BitVec 256) (x1 : List Block) (x2 : State) : MovesO 25166320 x2 (execSyncWrite x0 x1 x2) := by
  unfold execSyncWrite
  with_reducible refine MovesO.whenDo ?_ ?_
  with_reducible exact Moves.refl _ _
  with_reducible refine Moves.step ?_ (rxWrite_mv _ _ _ _) rfl
  with_reducible exact Moves.refl _ _

theorem execAsyncWrite_mv (x0 : BitVec 256) (x1 : List Block) (x2 : State) : MovesO 25166320 x2 (execAsyncWrite x0 x1 x2) := by
  unfold execAsyncWrite
  with_reducible refine MovesO.whenDo ?_ ?_
  with_reducible exact Moves.refl _ _
  with_reducible refine Moves.step ?_ (rxWrite_mv _ _ _ _) rfl
  with_reducible exact Moves.refl _ _

theorem execResyncData_mv (x0 : BitVec 256) (x1 : List Block) (x2 : State) : MovesO 25166320 x2 (execResyncData x0 x1 x2) := by
  unfold execResyncData
  with_reducible refine MovesO.whenDo ?_ ?_
  with_reducible exact Moves.refl _ _
  with_reducible refine Moves.step ?_ (rxWrite_mv _ _ _ _) rfl
  with_reducible exact Moves.refl _ _

theorem fwdRefused_mv (x0 : State) (x1 : Nat) : Moves 496 x0 (fwdRefused x0 x1) := by
  unfold fwdRefused
  with_reducible refine Moves.step ?_ (raiseJ_mv _ _ _ _ _ _) rfl
  with_reducible exact Moves.refl _ _

theorem doMark_mv (x0 : State) (x1 : Nat) : Moves 536870896 x0 (doMark x0 x1).2 := by
  unfold doMark
  with_reducible refine Moves.ite2 ?_ ?_
  dsimp -zeta only
  with_reducible refine Moves.step ?_ (fwdRefused_mv _ _) rfl
  with_reducible exact Moves.refl _ _
  with_reducible refine Moves.ite2 ?_ ?_
  dsimp -zeta only
  with_reducible refine Moves.step ?_ (dropMember_mv _ _) rfl
  with_reducible refine Moves.step ?_ (fwdRefused_mv _ _) rfl
  with_reducible exact Moves.refl _ _
  with_reducible refine Moves.ite2 ?_ ?_
  dsimp -zeta only
  with_reducible exact Moves.mk' (m := 536870896) (Moves.refl _ _) (.inl rfl) (.inl rfl) (.inl rfl) (.inl rfl) (.inl rfl) (.inl rfl) (.inl rfl) (.inl rfl) (.inl rfl) (by rfl) (by rfl) (.inl rfl) (.inl rfl) (.inl rfl) (.inl rfl) (.inl rfl) (.inl rfl) (.inl rfl) (.inl rfl) (.inl rfl) (.inl rfl) (.inl rfl) (.inl rfl) (.inl rfl) (.inl rfl) (.inl rfl) (.inl rfl)
  dsimp -zeta only
  with_reducible refine Moves.step ?_ (passBoundary_mv _ _ _) rfl
  with_reducible exact Moves.refl _ _

theorem execMarkMessage_mv (x0 : BitVec 256) (x1 : State) : MovesO 536870896 x1 (execMarkMessage x0 x1) := by
  unfold execMarkMessage
  with_reducible refine MovesO.whenDo ?_ ?_
  with_reducible exact Moves.refl _ _
  with_reducible refine Moves.ite ?_ ?_
  with_reducible refine Moves.step ?_ (takeNow_mv _ _ _ _) rfl
  with_reducible exact Moves.refl _ _
  with_reducible refine Moves.ite ?_ ?_
  split
  with_reducible refine Moves.ite ?_ ?_
  with_reducible refine Moves.step ?_ (takeNow_mv _ _ _ _) rfl
  with_reducible refine Moves.step ?_ (Moves.snd (by assumption) (doMark_mv _ _)) rfl
  with_reducible exact Moves.refl _ _
  with_reducible refine Moves.step ?_ (pushApply_mv _ _ _ _) rfl
  with_reducible refine Moves.step ?_ (Moves.snd (by assumption) (doMark_mv _ _)) rfl
  with_reducible exact Moves.refl _ _
  with_reducible refine Moves.step ?_ (pushApply_mv _ _ _ _) rfl
  with_reducible exact Moves.refl _ _

theorem answerBarrier_mv (x0 : State) (x1 : BitVec 256) : Moves 16777216 x0 (answerBarrier x0 x1) := by
  unfold answerBarrier
  with_reducible exact Moves.mk' (m := 16777216) (Moves.refl _ _) (.inr rfl) (.inr rfl) (.inr rfl) (.inr rfl) (.inr rfl) (.inr rfl) (.inr rfl) (.inr rfl) (.inr rfl) rfl rfl (.inr rfl) (.inr rfl) (.inr rfl) (.inr rfl) (.inr rfl) (.inr rfl) (.inr rfl) (.inr rfl) (.inr rfl) (.inr rfl) (.inr rfl) (.inl rfl) (.inr rfl) (.inr rfl) (.inr rfl) (.inr rfl)

theorem execBarrier_mv (x0 : BitVec 256) (x1 : State) : MovesO 25165824 x1 (execBarrier x0 x1) := by
  unfold execBarrier
  with_reducible refine MovesO.whenDo ?_ ?_
  with_reducible exact Moves.refl _ _
  with_reducible refine Moves.ite ?_ ?_
  with_reducible refine Moves.step ?_ (answerBarrier_mv _ _) rfl
  with_reducible refine Moves.step ?_ (takeNow_mv _ _ _ _) rfl
  with_reducible exact Moves.refl _ _
  with_reducible refine Moves.step ?_ (pushApply_mv _ _ _ _) rfl
  with_reducible exact Moves.refl _ _

theorem ackEntry_mv (x0 : State) (x1 : Nat × Nat) : Moves 150995216 x0 (ackEntry x0 x1) := by
  unfold ackEntry
  with_reducible refine Moves.ite ?_ ?_
  with_reducible exact Moves.refl _ _
  lift_lets
  (intro s3; refine Moves.cut (P := Moves 150995216 x0 s3) ?_ ?_; rotate_left; intro h3; clear_value s3)
  (intro c4; clear_value c4)
  (intro s5; refine Moves.cut (P := Moves 150995216 x0 s5) ?_ ?_; rotate_left; intro h5; clear_value s5)
  (intro s6; refine Moves.cut (P := Moves 150995216 x0 s6) ?_ ?_; rotate_left; intro h6; clear_value s6)
  with_reducible refine Moves.step ?_ (releaseWaits_mv _ _ _) rfl
  assumption
  subst s3
  with_reducible refine Moves.step ?_ (modWin_mv _ _ _) rfl
  with_reducible exact Moves.refl _ _
  subst s5
  with_reducible exact Moves.mk' (m := 150995216) (by assumption) (.inl rfl) (.inr rfl) (.inr rfl) (.inr rfl) (.inl rfl) (.inr rfl) (.inr rfl) (.inr rfl) (.inr rfl) rfl rfl (.inr rfl) (.inr rfl) (.inr rfl) (.inr rfl) (.inr rfl) (.inr rfl) (.inr rfl) (.inr rfl) (.inr rfl) (.inr rfl) (.inr rfl) (.inl rfl) (.inr rfl) (.inr rfl) (.inl rfl) (.inr rfl)
  subst s6
  with_reducible refine Moves.step ?_ (wxAcked_mv _ _ _) rfl
  assumption

theorem execMirrorAck_mv (x0 : BitVec 256) (x1 : State) : MovesO 536870896 x1 (execMirrorAck x0 x1) := by
  unfold execMirrorAck
  with_reducible refine MovesO.whenDo ?_ ?_
  with_reducible exact Moves.refl _ _
  with_reducible refine Moves.step ?_ (resyncStep_mv _) rfl
  (with_reducible refine Moves.foldl _ _ ?_ ?_; rotate_left; intro _ _ _)
  with_reducible refine Moves.step ?_ (ackEntry_mv _ _) rfl
  assumption
  with_reducible refine Moves.step ?_ (takeNow_mv _ _ _ _) rfl
  with_reducible exact Moves.refl _ _

theorem gotNack_mv (x0 : State) (x1 : BitVec 256) : Moves 536870896 x0 (gotNack x0 x1) := by
  unfold gotNack
  with_reducible refine Moves.ite ?_ ?_
  with_reducible refine Moves.step ?_ (resyncStep_mv _) rfl
  with_reducible refine Moves.step ?_ (diverge_mv _ _ _) rfl
  with_reducible exact Moves.refl _ _
  split
  split
  with_reducible refine Moves.step ?_ (pullAnswered_mv _ _ _ _ _ _) rfl
  with_reducible exact Moves.refl _ _
  with_reducible exact Moves.refl _ _
  with_reducible exact Moves.refl _ _

theorem execNack_mv (x0 : BitVec 256) (x1 : State) : MovesO 536870896 x1 (execNack x0 x1) := by
  unfold execNack
  with_reducible refine MovesO.whenDo ?_ ?_
  with_reducible exact Moves.refl _ _
  with_reducible refine Moves.step ?_ (gotNack_mv _ _) rfl
  with_reducible refine Moves.step ?_ (takeNow_mv _ _ _ _) rfl
  with_reducible exact Moves.refl _ _

theorem barrierDone_mv (x0 : State) (x1 : Nat × Nat) : Moves 16777712 x0 (barrierDone x0 x1) := by
  unfold barrierDone
  lift_lets
  (intro c1; clear_value c1)
  (intro s2; refine Moves.cut (P := Moves 16777712 x0 s2) ?_ ?_; rotate_left; intro h2; clear_value s2)
  with_reducible refine Moves.step ?_ (raise_mv _ _ _ _ _ _) rfl
  assumption
  subst s2
  with_reducible exact Moves.mk' (m := 16777712) (Moves.refl _ _) (.inl rfl) (.inl rfl) (.inl rfl) (.inl rfl) (.inl rfl) (.inr rfl) (.inr rfl) (.inr rfl) (.inr rfl) rfl rfl (.inr rfl) (.inr rfl) (.inr rfl) (.inr rfl) (.inr rfl) (.inr rfl) (.inr rfl) (.inr rfl) (.inr rfl) (.inr rfl) (.inr rfl) (.inl rfl) (.inr rfl) (.inr rfl) (.inr rfl) (.inr rfl)

theorem execBarrierAck_mv (x0 : BitVec 256) (x1 : State) : MovesO 25166320 x1 (execBarrierAck x0 x1) := by
  unfold execBarrierAck
  with_reducible refine MovesO.whenDo ?_ ?_
  with_reducible exact Moves.refl _ _
  (with_reducible refine Moves.foldl _ _ ?_ ?_; rotate_left; intro _ _ _)
  with_reducible refine Moves.step ?_ (barrierDone_mv _ _) rfl
  assumption
  with_reducible refine Moves.step ?_ (takeNow_mv _ _ _ _) rfl
  with_reducible exact Moves.refl _ _

theorem supply_mv (x0 : State) (x1 : Nat) : Moves 536870896 x0 (supply x0 x1).2 := by
  unfold supply
  split
  dsimp -zeta only
  with_reducible refine Moves.step ?_ (Moves.thd (by assumption) (readNow_mv _ _ _)) rfl
  with_reducible exact Moves.refl _ _

theorem answerPull_mv (x0 : State) (x1 : BitVec 256) : Moves 536870896 x0 (answerPull x0 x1) := by
  unfold answerPull
  lift_lets
  (intro c1; clear_value c1)
  dsimp -zeta only
  lift_lets
  (intro c4; clear_value c4)
  dsimp -zeta only
  with_reducible refine Moves.ite ?_ ?_
  with_reducible refine Moves.step ?_ (pushQ_mv _ _ _) rfl
  (with_reducible refine Moves.foldl_snd _ _ _ ?_ ?_; rotate_left; intro _ _ _; dsimp -zeta only)
  with_reducible refine Moves.step ?_ (supply_mv _ _) rfl
  with_reducible assumption
  (with_reducible refine Moves.foldl _ _ ?_ ?_; rotate_left; intro _ _ _)
  split
  with_reducible refine Moves.step ?_ (pushQ_mv _ _ _) rfl
  assumption
  with_reducible refine Moves.step ?_ (pushQ_mv _ _ _) rfl
  assumption
  with_reducible exact Moves.refl _ _
  (with_reducible refine Moves.foldl_snd _ _ _ ?_ ?_; rotate_left; intro _ _ _; dsimp -zeta only)
  with_reducible refine Moves.step ?_ (supply_mv _ _) rfl
  with_reducible assumption
  with_reducible exact Moves.refl _ _

theorem execPullReq_mv (x0 : BitVec 256) (x1 : State) : MovesO 536870896 x1 (execPullReq x0 x1) := by
  unfold execPullReq
  with_reducible refine MovesO.whenDo ?_ ?_
  with_reducible exact Moves.refl _ _
  lift_lets
  (intro s3; refine Moves.cut (P := Moves 536870896 x1 s3) ?_ ?_; rotate_left; intro h3; clear_value s3)
  split
  with_reducible refine Moves.step ?_ (answerPull_mv _ _) rfl
  assumption
  with_reducible refine Moves.step ?_ (sendNack_mv _ _ _) rfl
  assumption
  subst s3
  with_reducible refine Moves.step ?_ (takeNow_mv _ _ _ _) rfl
  with_reducible exact Moves.refl _ _

theorem execPullData_mv (x0 : BitVec 256) (x1 : List Block) (x2 : State) : MovesO 536870896 x2 (execPullData x0 x1 x2) := by
  unfold execPullData
  with_reducible refine MovesO.whenDo ?_ ?_
  with_reducible exact Moves.refl _ _
  lift_lets
  (intro s3; refine Moves.cut (P := Moves 536870896 x2 s3) ?_ ?_; rotate_left; intro h3; clear_value s3)
  split
  assumption
  split
  with_reducible refine Moves.step ?_ (pullData_mv _ _ _ _ _) rfl
  assumption
  assumption
  subst s3
  with_reducible refine Moves.step ?_ (takeNow_mv _ _ _ _) rfl
  with_reducible exact Moves.refl _ _

theorem execReservedMessage_mv (x0 : BitVec 256) (x1 : State) : MovesO 8389104 x1 (execReservedMessage x0 x1) := by
  unfold execReservedMessage
  with_reducible refine MovesO.whenDo ?_ ?_
  with_reducible exact Moves.refl _ _
  lift_lets
  (intro s3; refine Moves.cut (P := Moves 8389104 x1 s3) ?_ ?_; rotate_left; intro h3; clear_value s3)
  with_reducible refine Moves.step ?_ (applyRefused_mv _ _ _) rfl
  assumption
  subst s3
  with_reducible refine Moves.ite ?_ ?_
  with_reducible refine Moves.step ?_ (takeNow_mv _ _ _ _) rfl
  with_reducible exact Moves.refl _ _
  with_reducible refine Moves.step ?_ (takeNow_mv _ _ _ _) rfl
  with_reducible exact Moves.refl _ _

theorem popApply_mv (x0 : State) (x1 : Fin 2) : Moves 25165824 x0 (popApply x0 x1) := by
  unfold popApply
  split
  with_reducible exact Moves.refl _ _
  with_reducible refine Moves.step ?_ (freeRx_mv _ _ _) rfl
  with_reducible exact Moves.mk' (m := 25165824) (Moves.refl _ _) (.inr rfl) (.inr rfl) (.inr rfl) (.inr rfl) (.inr rfl) (.inr rfl) (.inr rfl) (.inr rfl) (.inr rfl) rfl rfl (.inr rfl) (.inr rfl) (.inr rfl) (.inr rfl) (.inr rfl) (.inr rfl) (.inr rfl) (.inr rfl) (.inr rfl) (.inr rfl) (.inl rfl) (.inl rfl) (.inr rfl) (.inr rfl) (.inr rfl) (.inr rfl)

theorem ackDueFor_mv (x0 : State) (x1 : BitVec 256) : Moves 16777216 x0 (ackDueFor x0 x1) := by
  unfold ackDueFor
  lift_lets
  (intro c1; clear_value c1)
  (intro c2; clear_value c2)
  with_reducible exact Moves.mk' (m := 16777216) (Moves.refl _ _) (.inr rfl) (.inr rfl) (.inr rfl) (.inr rfl) (.inr rfl) (.inr rfl) (.inr rfl) (.inr rfl) (.inr rfl) rfl rfl (.inr rfl) (.inr rfl) (.inr rfl) (.inr rfl) (.inr rfl) (.inr rfl) (.inr rfl) (.inr rfl) (.inr rfl) (.inr rfl) (.inr rfl) (.inl rfl) (.inr rfl) (.inr rfl) (.inr rfl) (.inr rfl)

theorem applyMsg_mv (x0 : State) (x1 : BitVec 256) (x2 : List Block) : Moves 16865296 x0 (applyMsg x0 x1 x2) := by
  unfold applyMsg
  lift_lets
  (intro c1; clear_value c1)
  (intro c2; clear_value c2)
  (intro s3; refine Moves.cut (P := Moves 16865296 x0 s3) ?_ ?_; rotate_left; intro h3; clear_value s3)
  (intro c4; clear_value c4)
  (intro c5; clear_value c5)
  (intro c6; clear_value c6)
  (intro s7; refine Moves.cut (P := Moves 16865296 x0 s7) ?_ ?_; rotate_left; intro h7; clear_value s7)
  (intro s8; refine Moves.cut (P := Moves 16865296 x0 s8) ?_ ?_; rotate_left; intro h8; clear_value s8)
  (intro s9; refine Moves.cut (P := Moves 16865296 x0 s9) ?_ ?_; rotate_left; intro h9; clear_value s9)
  (intro s10; refine Moves.cut (P := Moves 16865296 x0 s10) ?_ ?_; rotate_left; intro h10; clear_value s10)
  (intro s11; refine Moves.cut (P := Moves 16865296 x0 s11) ?_ ?_; rotate_left; intro h11; clear_value s11)
  with_reducible refine Moves.step ?_ (ackDueFor_mv _ _) rfl
  assumption
  subst s3
  with_reducible refine Moves.step ?_ (turn_mv _ _ _) rfl
  with_reducible exact Moves.refl _ _
  subst s7
  (with_reducible refine Moves.foldl _ _ ?_ ?_; rotate_left; intro _ _ _)
  with_reducible refine Moves.step ?_ (freshClaim_mv _ _) rfl
  assumption
  subst s8
  with_reducible refine Moves.step ?_ (enqueue_mv _ _ _) rfl
  with_reducible refine Moves.step ?_ (State.tick_mv _) rfl
  assumption
  subst s9
  (with_reducible refine Moves.foldl _ _ ?_ ?_; rotate_left; intro _ _ _)
  with_reducible refine Moves.step ?_ (noteWrite_mv _ _ _) rfl
  assumption
  subst s10
  with_reducible refine Moves.step ?_ (tagWrite_mv _ _ _) rfl
  assumption
  subst s11
  with_reducible refine Moves.ite ?_ ?_
  assumption
  with_reducible refine Moves.step ?_ (bump_mv _ _ _) rfl
  assumption
  assumption
  assumption

theorem execApplyWrite_mv (x0 : Fin 2) (x1 : State) : MovesO 536870896 x1 (execApplyWrite x0 x1) := by
  unfold execApplyWrite
  split
  with_reducible refine MovesO.next ?_
  with_reducible exact Moves.refl _ _
  lift_lets
  (intro c4; clear_value c4)
  with_reducible refine MovesO.ite ?_ ?_
  with_reducible refine MovesO.next ?_
  with_reducible exact Moves.refl _ _
  with_reducible refine MovesO.ite ?_ ?_
  split
  with_reducible refine MovesO.next ?_
  with_reducible refine Moves.ite ?_ ?_
  with_reducible refine Moves.step ?_ (popApply_mv _ _) rfl
  with_reducible refine Moves.step ?_ (Moves.snd (by assumption) (doMark_mv _ _)) rfl
  with_reducible exact Moves.refl _ _
  with_reducible refine Moves.step ?_ (Moves.snd (by assumption) (doMark_mv _ _)) rfl
  with_reducible exact Moves.refl _ _
  with_reducible refine MovesO.ite ?_ ?_
  with_reducible refine MovesO.whenDo ?_ ?_
  with_reducible exact Moves.refl _ _
  with_reducible refine Moves.step ?_ (answerBarrier_mv _ _) rfl
  with_reducible refine Moves.step ?_ (popApply_mv _ _) rfl
  with_reducible exact Moves.refl _ _
  split
  with_reducible refine MovesO.whenDo ?_ ?_
  with_reducible exact Moves.refl _ _
  with_reducible refine Moves.step ?_ (applyMsg_mv _ _ _) rfl
  with_reducible refine Moves.step ?_ (popApply_mv _ _) rfl
  with_reducible exact Moves.refl _ _
  with_reducible refine MovesO.next ?_
  with_reducible refine Moves.step ?_ (sendNack_mv _ _ _) rfl
  with_reducible refine Moves.step ?_ (popApply_mv _ _) rfl
  with_reducible exact Moves.refl _ _

theorem releaseMirror_mv (x0 : State) : Moves 536870896 x0 (releaseMirror x0) := by
  unfold releaseMirror
  split
  lift_lets
  (intro c2; clear_value c2)
  (intro s3; refine Moves.cut (P := Moves 536870896 x0 s3) ?_ ?_; rotate_left; intro h3; clear_value s3)
  split
  with_reducible refine Moves.ite ?_ ?_
  with_reducible refine Moves.step ?_ (popApply_mv _ _) rfl
  assumption
  assumption
  assumption
  with_reducible exact Moves.refl _ _
  subst s3
  with_reducible refine Moves.step ?_ (passBoundary_mv _ _ _) rfl
  with_reducible exact Moves.mk' (m := 536870896) (Moves.refl _ _) (.inl rfl) (.inl rfl) (.inl rfl) (.inl rfl) (.inl rfl) (.inl rfl) (.inl rfl) (.inl rfl) (.inl rfl) (by rfl) (by rfl) (.inl rfl) (.inl rfl) (.inl rfl) (.inl rfl) (.inl rfl) (.inl rfl) (.inl rfl) (.inl rfl) (.inl rfl) (.inl rfl) (.inl rfl) (.inl rfl) (.inl rfl) (.inl rfl) (.inl rfl) (.inl rfl)

theorem pushTx_mv (x0 : State) (x1 : Fin 2) (x2 : Msg) : Moves 8388608 x0 (pushTx x0 x1 x2) := by
  unfold pushTx
  with_reducible exact Moves.mk' (m := 8388608) (Moves.refl _ _) (.inr rfl) (.inr rfl) (.inr rfl) (.inr rfl) (.inr rfl) (.inr rfl) (.inr rfl) (.inr rfl) (.inr rfl) rfl rfl (.inr rfl) (.inr rfl) (.inr rfl) (.inr rfl) (.inr rfl) (.inr rfl) (.inr rfl) (.inr rfl) (.inr rfl) (.inr rfl) (.inl rfl) (.inr rfl) (.inr rfl) (.inr rfl) (.inr rfl) (.inr rfl)

theorem sendQueued_mv (x0 : State) (x1 : Fin 2) : Moves 536870896 x0 (sendQueued x0 x1) := by
  unfold sendQueued
  split
  with_reducible exact Moves.refl _ _
  lift_lets
  (intro c3; clear_value c3)
  (intro c4; clear_value c4)
  (intro s5; refine Moves.cut (P := Moves 536870896 x0 s5) ?_ ?_; rotate_left; intro h5; clear_value s5)
  (intro s6; refine Moves.cut (P := Moves 536870896 x0 s6) ?_ ?_; rotate_left; intro h6; clear_value s6)
  with_reducible refine Moves.step ?_ (resyncStep_mv _) rfl
  with_reducible refine Moves.step ?_ (pushTx_mv _ _ _) rfl
  assumption
  subst s5
  with_reducible exact Moves.mk' (m := 536870896) (Moves.refl _ _) (.inl rfl) (.inl rfl) (.inl rfl) (.inl rfl) (.inl rfl) (.inl rfl) (.inl rfl) (.inl rfl) (.inl rfl) (by rfl) (by rfl) (.inl rfl) (.inl rfl) (.inl rfl) (.inl rfl) (.inl rfl) (.inl rfl) (.inl rfl) (.inl rfl) (.inl rfl) (.inl rfl) (.inl rfl) (.inl rfl) (.inl rfl) (.inl rfl) (.inl rfl) (.inl rfl)
  subst s6
  with_reducible refine Moves.ite ?_ ?_
  with_reducible refine Moves.step ?_ (bump_mv _ _ _) rfl
  assumption
  assumption

theorem sendMsg_mv (x0 : State) (x1 : Fin 2) : Moves 536870896 x0 (sendMsg x0 x1) := by
  unfold sendMsg
  with_reducible refine Moves.ite ?_ ?_
  lift_lets
  (intro c2; clear_value c2)
  (intro c3; clear_value c3)
  with_reducible refine Moves.step ?_ (pushTx_mv _ _ _) rfl
  with_reducible exact Moves.mk' (m := 536870896) (Moves.refl _ _) (.inl rfl) (.inl rfl) (.inl rfl) (.inl rfl) (.inl rfl) (.inl rfl) (.inl rfl) (.inl rfl) (.inl rfl) (by rfl) (by rfl) (.inl rfl) (.inl rfl) (.inl rfl) (.inl rfl) (.inl rfl) (.inl rfl) (.inl rfl) (.inl rfl) (.inl rfl) (.inl rfl) (.inl rfl) (.inl rfl) (.inl rfl) (.inl rfl) (.inl rfl) (.inl rfl)
  with_reducible refine Moves.ite ?_ ?_
  lift_lets
  (intro c8; clear_value c8)
  (intro c9; clear_value c9)
  with_reducible refine Moves.step ?_ (pushTx_mv _ _ _) rfl
  with_reducible exact Moves.mk' (m := 536870896) (Moves.refl _ _) (.inl rfl) (.inl rfl) (.inl rfl) (.inl rfl) (.inl rfl) (.inl rfl) (.inl rfl) (.inl rfl) (.inl rfl) (by rfl) (by rfl) (.inl rfl) (.inl rfl) (.inl rfl) (.inl rfl) (.inl rfl) (.inl rfl) (.inl rfl) (.inl rfl) (.inl rfl) (.inl rfl) (.inl rfl) (.inl rfl) (.inl rfl) (.inl rfl) (.inl rfl) (.inl rfl)
  with_reducible refine Moves.step ?_ (sendQueued_mv _ _) rfl
  with_reducible exact Moves.refl _ _

theorem execMirrorMessageSend_mv (x0 : Fin 2) (x1 : State) : MovesO 536870896 x1 (execMirrorMessageSend x0 x1) := by
  unfold execMirrorMessageSend
  with_reducible refine MovesO.whenDo ?_ ?_
  with_reducible exact Moves.refl _ _
  with_reducible refine Moves.step ?_ (sendMsg_mv _ _) rfl
  with_reducible exact Moves.refl _ _

theorem execBacklogRead_mv (x0 : State) : MovesO 536870896 x0 (execBacklogRead x0) := by
  unfold execBacklogRead
  split
  with_reducible refine MovesO.next ?_
  with_reducible exact Moves.refl _ _
  with_reducible refine MovesO.whenDo ?_ ?_
  with_reducible exact Moves.refl _ _
  lift_lets
  (intro s6; refine Moves.cut (P := Moves 536870896 x0 s6) ?_ ?_; rotate_left; intro h6; clear_value s6)
  (intro c7; clear_value c7)
  with_reducible refine Moves.step ?_ (resyncStep_mv _) rfl
  with_reducible refine Moves.step ?_ (pushQ_mv _ _ _) rfl
  with_reducible exact Moves.mk' (m := 536870896) (by assumption) (.inl rfl) (.inl rfl) (.inl rfl) (.inl rfl) (.inl rfl) (.inl rfl) (.inl rfl) (.inl rfl) (.inl rfl) (by rfl) (by rfl) (.inl rfl) (.inl rfl) (.inl rfl) (.inl rfl) (.inl rfl) (.inl rfl) (.inl rfl) (.inl rfl) (.inl rfl) (.inl rfl) (.inl rfl) (.inl rfl) (.inl rfl) (.inl rfl) (.inl rfl) (.inl rfl)
  subst s6
  with_reducible refine Moves.step ?_ (ownReads_mv _ _) rfl
  with_reducible exact Moves.refl _ _

theorem execSyncTimeout_mv (x0 : Fin 64) (x1 : State) : MovesO 536870896 x1 (execSyncTimeout x0 x1) := by
  unfold execSyncTimeout
  split
  with_reducible refine MovesO.next ?_
  with_reducible exact Moves.refl _ _
  with_reducible refine MovesO.next ?_
  with_reducible refine Moves.step ?_ (resyncStep_mv _) rfl
  with_reducible refine Moves.step ?_ (diverge_mv _ _ _) rfl
  with_reducible refine Moves.step ?_ (State.atLeast_mv _ _) rfl
  with_reducible exact Moves.refl _ _

theorem winStart_mv (x0 : State) (x1 : Nat) (x2 : Bool) : Moves 16777712 x0 (winStart x0 x1 x2) := by
  unfold winStart
  with_reducible refine Moves.ite ?_ ?_
  with_reducible refine Moves.step ?_ (raiseJ_mv _ _ _ _ _ _) rfl
  with_reducible refine Moves.step ?_ (modWin_mv _ _ _) rfl
  with_reducible exact Moves.refl _ _
  with_reducible refine Moves.step ?_ (raiseJ_mv _ _ _ _ _ _) rfl
  with_reducible refine Moves.step ?_ (modWin_mv _ _ _) rfl
  with_reducible exact Moves.refl _ _

theorem winStop_mv (x0 : State) (x1 : Nat) : Moves 536870896 x0 (winStop x0 x1) := by
  unfold winStop
  lift_lets
  (intro c1; clear_value c1)
  (intro c2; clear_value c2)
  (intro c3; clear_value c3)
  (intro s4; refine Moves.cut (P := Moves 536870896 x0 s4) ?_ ?_; rotate_left; intro h4; clear_value s4)
  (intro s5; refine Moves.cut (P := Moves 536870896 x0 s5) ?_ ?_; rotate_left; intro h5; clear_value s5)
  with_reducible refine Moves.step ?_ (resyncStep_mv _) rfl
  with_reducible refine Moves.step ?_ (releaseWaits_mv _ _ _) rfl
  with_reducible refine Moves.step ?_ (wxSyncLost_mv _ _) rfl
  assumption
  subst s4
  with_reducible exact Moves.mk' (m := 536870896) (Moves.refl _ _) (.inl rfl) (.inl rfl) (.inl rfl) (.inl rfl) (.inl rfl) (.inl rfl) (.inl rfl) (.inl rfl) (.inl rfl) (by rfl) (by rfl) (.inl rfl) (.inl rfl) (.inl rfl) (.inl rfl) (.inl rfl) (.inl rfl) (.inl rfl) (.inl rfl) (.inl rfl) (.inl rfl) (.inl rfl) (.inl rfl) (.inl rfl) (.inl rfl) (.inl rfl) (.inl rfl)
  subst s5
  with_reducible refine Moves.step ?_ (modWin_mv _ _ _) rfl
  assumption

theorem winAct_mv (x0 : State) (x1 : Nat) (x2 : Nat) : Moves 536870896 x0 (winAct x0 x1 x2) := by
  unfold winAct
  lift_lets
  (intro c1; clear_value c1)
  (intro s2; refine Moves.cut (P := Moves 536870896 x0 s2) ?_ ?_; rotate_left; intro h2; clear_value s2)
  with_reducible refine Moves.ite ?_ ?_
  with_reducible refine Moves.ite ?_ ?_
  with_reducible refine Moves.step ?_ (winStop_mv _ _) rfl
  assumption
  with_reducible refine Moves.step ?_ (winStart_mv _ _ _) rfl
  assumption
  with_reducible refine Moves.step ?_ (mirrorCfg_mv _ _ _) rfl
  with_reducible exact Moves.refl _ _
  subst s2
  with_reducible refine Moves.step ?_ (csrSet_mv _ _ _) rfl
  with_reducible exact Moves.refl _ _

theorem writeWinCtl_mv (x0 : State) (x1 : Nat) (x2 : Nat) : Moves 536870896 x0 (writeWinCtl x0 x1 x2).1 := by
  unfold writeWinCtl
  with_reducible refine Moves.ite1 ?_ ?_
  dsimp -zeta only
  with_reducible refine Moves.step ?_ (mirrorCfg_mv _ _ _) rfl
  with_reducible exact Moves.refl _ _
  with_reducible refine Moves.ite1 ?_ ?_
  dsimp -zeta only
  with_reducible refine Moves.step ?_ (winAct_mv _ _ _) rfl
  with_reducible exact Moves.refl _ _
  dsimp -zeta only
  with_reducible exact Moves.mk' (m := 536870896) (Moves.refl _ _) (.inl rfl) (.inl rfl) (.inl rfl) (.inl rfl) (.inl rfl) (.inl rfl) (.inl rfl) (.inl rfl) (.inl rfl) (by rfl) (by rfl) (.inl rfl) (.inl rfl) (.inl rfl) (.inl rfl) (.inl rfl) (.inl rfl) (.inl rfl) (.inl rfl) (.inl rfl) (.inl rfl) (.inl rfl) (.inl rfl) (.inl rfl) (.inl rfl) (.inl rfl) (.inl rfl)

theorem winWaiting_mv (x0 : State) : Moves 536870896 x0 (winWaiting x0) := by
  unfold winWaiting
  lift_lets
  (intro c1; clear_value c1)
  (intro c2; clear_value c2)
  (with_reducible refine Moves.foldl _ _ ?_ ?_; rotate_left; intro _ _ _)
  with_reducible refine Moves.step ?_ (winAct_mv _ _ _) rfl
  assumption
  with_reducible exact Moves.mk' (m := 536870896) (Moves.refl _ _) (.inl rfl) (.inl rfl) (.inl rfl) (.inl rfl) (.inl rfl) (.inl rfl) (.inl rfl) (.inl rfl) (.inl rfl) (by rfl) (by rfl) (.inl rfl) (.inl rfl) (.inl rfl) (.inl rfl) (.inl rfl) (.inl rfl) (.inl rfl) (.inl rfl) (.inl rfl) (.inl rfl) (.inl rfl) (.inl rfl) (.inl rfl) (.inl rfl) (.inl rfl) (.inl rfl)

theorem mirrorLoss_mv (x0 : State) (x1 : Nat) : Moves 536870896 x0 (mirrorLoss x0 x1) := by
  unfold mirrorLoss
  lift_lets
  (intro s1; refine Moves.cut (P := Moves 536870896 x0 s1) ?_ ?_; rotate_left; intro h1; clear_value s1)
  (intro s2; refine Moves.cut (P := Moves 536870896 x0 s2) ?_ ?_; rotate_left; intro h2; clear_value s2)
  (intro c3; clear_value c3)
  (intro c4; clear_value c4)
  with_reducible exact Moves.mk' (m := 536870896) (by assumption) (.inl rfl) (.inl rfl) (.inl rfl) (.inl rfl) (.inl rfl) (.inl rfl) (.inl rfl) (.inl rfl) (.inl rfl) (by rfl) (by rfl) (.inl rfl) (.inl rfl) (.inl rfl) (.inl rfl) (.inl rfl) (.inl rfl) (.inl rfl) (.inl rfl) (.inl rfl) (.inl rfl) (.inl rfl) (.inl rfl) (.inl rfl) (.inl rfl) (.inl rfl) (.inl rfl)
  subst s1
  with_reducible refine Moves.step ?_ (resyncStep_mv _) rfl
  with_reducible refine Moves.step ?_ (divergeLoss_mv _ _) rfl
  with_reducible exact Moves.refl _ _
  subst s2
  split
  with_reducible refine Moves.step ?_ (endPull_mv _ _ _ _) rfl
  assumption
  assumption

end Sys2Proof.Machine
end

