-- ==== Sys2Proof/Laws/FrameChrosy.lean ====
section
/-! SUPPORT. What each operation of Machine/Chrosy.lean may change, one lemma an operation (`<name>_mv`): the components its
mask names, and nothing else of the state. -/

namespace Sys2Proof.Machine

theorem modChr_mv (x0 : State) (x1 : ChrosySt → ChrosySt) : Moves 8388608 x0 (modChr x0 x1) := by
  unfold modChr
  with_reducible exact Moves.mk' (m := 8388608) (Moves.refl _ _) (.inr rfl) (.inr rfl) (.inr rfl) (.inr rfl) (.inr rfl) (.inr rfl) (.inr rfl) (.inr rfl) (.inr rfl) rfl rfl (.inr rfl) (.inr rfl) (.inr rfl) (.inr rfl) (.inr rfl) (.inr rfl) (.inr rfl) (.inr rfl) (.inr rfl) (.inr rfl) (.inl rfl) (.inr rfl) (.inr rfl) (.inr rfl) (.inr rfl) (.inr rfl)

theorem sendLanes_mv (x0 : State) (x1 : Bool) (x2 : List ChrFrame) : Moves 8388608 x0 (sendLanes x0 x1 x2) := by
  unfold sendLanes
  lift_lets
  (intro c1; clear_value c1)
  (intro c2; clear_value c2)
  (intro c3; clear_value c3)
  (intro c4; clear_value c4)
  with_reducible refine Moves.step ?_ (modChr_mv _ _) rfl
  with_reducible exact Moves.refl _ _

theorem slotSent_mv (x0 : State) (x1 : Nat × Nat) : Moves 8388608 x0 (slotSent x0 x1) := by
  unfold slotSent
  with_reducible refine Moves.step ?_ (modChr_mv _ _) rfl
  with_reducible exact Moves.refl _ _

theorem linkRetry_mv (x0 : State) : Moves 8389104 x0 (linkRetry x0) := by
  unfold linkRetry
  lift_lets
  (intro c1; clear_value c1)
  (intro c2; clear_value c2)
  (intro c3; clear_value c3)
  (intro s4; refine Moves.cut (P := Moves 8389104 x0 s4) ?_ ?_; rotate_left; intro h4; clear_value s4)
  with_reducible refine Moves.ite ?_ ?_
  with_reducible exact Moves.refl _ _
  split
  with_reducible exact Moves.refl _ _
  with_reducible refine Moves.step ?_ (raise_mv _ _ _ _ _ _) rfl
  assumption
  subst s4
  with_reducible refine Moves.step ?_ (modChr_mv _ _) rfl
  with_reducible refine Moves.step ?_ (limitSet_mv _ _ _) rfl
  with_reducible exact Moves.refl _ _

theorem sendResend_mv (x0 : State) (x1 : Nat) (x2 : Nat) : Moves 8388624 x0 (sendResend x0 x1 x2).2 := by
  unfold sendResend
  lift_lets
  (intro c1; clear_value c1)
  (intro c2; clear_value c2)
  (intro s3; refine Moves.cut (P := Moves 8388624 x0 s3) ?_ ?_; rotate_left; intro h3; clear_value s3)
  dsimp -zeta only
  with_reducible refine Moves.step ?_ (bump_mv _ _ _) rfl
  assumption
  subst s3
  with_reducible refine Moves.step ?_ (modChr_mv _ _) rfl
  with_reducible exact Moves.refl _ _

theorem headsSent_mv (x0 : State) (x1 : List ChrFrame) : Moves 16777216 x0 (headsSent x0 x1) := by
  unfold headsSent
  lift_lets
  (intro c1; clear_value c1)
  (intro c2; clear_value c2)
  (intro c3; clear_value c3)
  with_reducible exact Moves.mk' (m := 16777216) (Moves.refl _ _) (.inr rfl) (.inr rfl) (.inr rfl) (.inr rfl) (.inr rfl) (.inr rfl) (.inr rfl) (.inr rfl) (.inr rfl) rfl rfl (.inr rfl) (.inr rfl) (.inr rfl) (.inr rfl) (.inr rfl) (.inr rfl) (.inr rfl) (.inr rfl) (.inr rfl) (.inr rfl) (.inr rfl) (.inl rfl) (.inr rfl) (.inr rfl) (.inr rfl) (.inr rfl)

theorem sendNew_mv (x0 : State) (x1 : Nat) : Moves 25165824 x0 (sendNew x0 x1).2 := by
  unfold sendNew
  lift_lets
  (intro c1; clear_value c1)
  (intro c2; clear_value c2)
  (intro c3; clear_value c3)
  (intro c4; clear_value c4)
  (intro c5; clear_value c5)
  (intro s6; refine Moves.cut (P := Moves 25165824 x0 s6) ?_ ?_; rotate_left; intro h6; clear_value s6)
  dsimp -zeta only
  with_reducible refine Moves.step ?_ (headsSent_mv _ _) rfl
  assumption
  subst s6
  with_reducible refine Moves.step ?_ (modChr_mv _ _) rfl
  with_reducible exact Moves.refl _ _

theorem blockStart_mv (x0 : State) : Moves 25166320 x0 (blockStart x0) := by
  unfold blockStart
  lift_lets
  (intro c1; clear_value c1)
  (intro s2; refine Moves.cut (P := Moves 25166320 x0 s2) ?_ ?_; rotate_left; intro h2; clear_value s2)
  (intro s3; refine Moves.cut (P := Moves 25166320 x0 s3) ?_ ?_; rotate_left; intro h3; clear_value s3)
  (intro c4; clear_value c4)
  (intro s5; refine Moves.cut (P := Moves 25166320 x0 s5) ?_ ?_; rotate_left; intro h5; clear_value s5)
  (intro c6; clear_value c6)
  (intro c7; clear_value c7)
  split
  dsimp -zeta only
  lift_lets
  (intro c11; clear_value c11)
  (intro c12; clear_value c12)
  dsimp -zeta only
  lift_lets
  (intro c15; clear_value c15)
  (intro s16; refine Moves.cut (P := Moves 25166320 x0 s16) ?_ ?_; rotate_left; intro h16; clear_value s16)
  (intro s17; refine Moves.cut (P := Moves 25166320 x0 s17) ?_ ?_; rotate_left; intro h17; clear_value s17)
  (intro s18; refine Moves.cut (P := Moves 25166320 x0 s18) ?_ ?_; rotate_left; intro h18; clear_value s18)
  with_reducible refine Moves.step ?_ (linkRetry_mv _) rfl
  assumption
  split
  dsimp -zeta only
  lift_lets
  (intro c24; clear_value c24)
  (intro c25; clear_value c25)
  dsimp -zeta only
  lift_lets
  (intro c28; clear_value c28)
  (intro s29; refine Moves.cut (P := Moves 25166320 x0 s29) ?_ ?_; rotate_left; intro h29; clear_value s29)
  (intro s30; refine Moves.cut (P := Moves 25166320 x0 s30) ?_ ?_; rotate_left; intro h30; clear_value s30)
  (intro s31; refine Moves.cut (P := Moves 25166320 x0 s31) ?_ ?_; rotate_left; intro h31; clear_value s31)
  with_reducible refine Moves.step ?_ (linkRetry_mv _) rfl
  assumption
  dsimp -zeta only
  lift_lets
  (intro c36; clear_value c36)
  (intro c37; clear_value c37)
  dsimp -zeta only
  lift_lets
  (intro c40; clear_value c40)
  (intro s41; refine Moves.cut (P := Moves 25166320 x0 s41) ?_ ?_; rotate_left; intro h41; clear_value s41)
  (intro s42; refine Moves.cut (P := Moves 25166320 x0 s42) ?_ ?_; rotate_left; intro h42; clear_value s42)
  (intro s43; refine Moves.cut (P := Moves 25166320 x0 s43) ?_ ?_; rotate_left; intro h43; clear_value s43)
  with_reducible refine Moves.step ?_ (linkRetry_mv _) rfl
  assumption
  subst s2
  with_reducible refine Moves.step ?_ (State.atLeast_mv _ _) rfl
  with_reducible exact Moves.refl _ _
  subst s3
  with_reducible refine Moves.step ?_ (modChr_mv _ _) rfl
  assumption
  subst s5
  with_reducible refine Moves.step ?_ (modChr_mv _ _) rfl
  assumption
  subst s16
  (with_reducible refine Moves.foldl _ _ ?_ ?_; rotate_left; intro _ _ _)
  with_reducible refine Moves.step ?_ (slotSent_mv _ _) rfl
  assumption
  subst s17
  with_reducible refine Moves.step ?_ (sendLanes_mv _ _ _) rfl
  assumption
  subst s18
  with_reducible refine Moves.step ?_ (modChr_mv _ _) rfl
  assumption
  subst s29
  (with_reducible refine Moves.foldl _ _ ?_ ?_; rotate_left; intro _ _ _)
  with_reducible refine Moves.step ?_ (slotSent_mv _ _) rfl
  assumption
  subst s30
  with_reducible refine Moves.step ?_ (sendLanes_mv _ _ _) rfl
  assumption
  subst s31
  with_reducible refine Moves.step ?_ (modChr_mv _ _) rfl
  assumption
  subst s41
  (with_reducible refine Moves.foldl _ _ ?_ ?_; rotate_left; intro _ _ _)
  with_reducible refine Moves.step ?_ (slotSent_mv _ _) rfl
  assumption
  subst s42
  with_reducible refine Moves.step ?_ (sendLanes_mv _ _ _) rfl
  assumption
  subst s43
  with_reducible refine Moves.step ?_ (modChr_mv _ _) rfl
  assumption
  assumption
  with_reducible refine Moves.step ?_ (sendResend_mv _ _ _) rfl
  assumption
  with_reducible refine Moves.step ?_ (sendNew_mv _ _) rfl
  assumption

theorem execChrosyBlockStart_mv (x0 : State) : MovesO 25166320 x0 (execChrosyBlockStart x0) := by
  unfold execChrosyBlockStart
  with_reducible refine MovesO.whenDo ?_ ?_
  with_reducible exact Moves.refl _ _
  with_reducible refine Moves.step ?_ (blockStart_mv _) rfl
  with_reducible exact Moves.refl _ _

theorem enterSeek_mv (x0 : State) : Moves 8388608 x0 (enterSeek x0) := by
  unfold enterSeek
  with_reducible refine Moves.step ?_ (modChr_mv _ _) rfl
  with_reducible exact Moves.refl _ _

theorem loseLink_mv (x0 : State) (x1 : Nat) : Moves 536870896 x0 (loseLink x0 x1) := by
  unfold loseLink
  with_reducible refine Moves.ite ?_ ?_
  with_reducible refine Moves.step ?_ (enterSeek_mv _) rfl
  with_reducible exact Moves.refl _ _
  lift_lets
  (intro c4; clear_value c4)
  (intro s5; refine Moves.cut (P := Moves 536870896 x0 s5) ?_ ?_; rotate_left; intro h5; clear_value s5)
  (intro s6; refine Moves.cut (P := Moves 536870896 x0 s6) ?_ ?_; rotate_left; intro h6; clear_value s6)
  (intro s7; refine Moves.cut (P := Moves 536870896 x0 s7) ?_ ?_; rotate_left; intro h7; clear_value s7)
  (intro c8; clear_value c8)
  (intro c9; clear_value c9)
  (intro s10; refine Moves.cut (P := Moves 536870896 x0 s10) ?_ ?_; rotate_left; intro h10; clear_value s10)
  (intro c11; clear_value c11)
  with_reducible refine Moves.step ?_ (enterSeek_mv _) rfl
  with_reducible exact Moves.mk' (m := 536870896) (by assumption) (.inl rfl) (.inl rfl) (.inl rfl) (.inl rfl) (.inl rfl) (.inl rfl) (.inl rfl) (.inl rfl) (.inl rfl) (by rfl) (by rfl) (.inl rfl) (.inl rfl) (.inl rfl) (.inl rfl) (.inl rfl) (.inl rfl) (.inl rfl) (.inl rfl) (.inl rfl) (.inl rfl) (.inl rfl) (.inl rfl) (.inl rfl) (.inl rfl) (.inl rfl) (.inl rfl)
  subst s5
  with_reducible refine Moves.step ?_ (modChr_mv _ _) rfl
  with_reducible exact Moves.refl _ _
  subst s6
  with_reducible refine Moves.step ?_ (raiseJ_mv _ _ _ _ _ _) rfl
  assumption
  subst s7
  with_reducible refine Moves.step ?_ (dropMember_mv _ _) rfl
  with_reducible refine Moves.step ?_ (mirrorLoss_mv _ _) rfl
  assumption
  subst s10
  with_reducible exact Moves.mk' (m := 536870896) (by assumption) (.inl rfl) (.inl rfl) (.inl rfl) (.inl rfl) (.inl rfl) (.inl rfl) (.inl rfl) (.inl rfl) (.inl rfl) (by rfl) (by rfl) (.inl rfl) (.inl rfl) (.inl rfl) (.inl rfl) (.inl rfl) (.inl rfl) (.inl rfl) (.inl rfl) (.inl rfl) (.inl rfl) (.inl rfl) (.inl rfl) (.inl rfl) (.inl rfl) (.inl rfl) (.inl rfl)

theorem sendDown_mv (x0 : State) (x1 : Nat) : Moves 25166320 x0 (sendDown x0 x1) := by
  unfold sendDown
  with_reducible refine Moves.step ?_ (blockStart_mv _) rfl
  with_reducible refine Moves.step ?_ (modChr_mv _ _) rfl
  with_reducible exact Moves.refl _ _

theorem stopLink_mv (x0 : State) (x1 : Nat) : Moves 536870896 x0 (stopLink x0 x1) := by
  unfold stopLink
  lift_lets
  (intro s1; refine Moves.cut (P := Moves 536870896 x0 s1) ?_ ?_; rotate_left; intro h1; clear_value s1)
  with_reducible refine Moves.step ?_ (modChr_mv _ _) rfl
  with_reducible refine Moves.step ?_ (enterSeek_mv _) rfl
  assumption
  subst s1
  with_reducible refine Moves.ite ?_ ?_
  with_reducible refine Moves.step ?_ (sendDown_mv _ _) rfl
  with_reducible refine Moves.step ?_ (loseLink_mv _ _) rfl
  with_reducible exact Moves.refl _ _
  with_reducible refine Moves.step ?_ (modChr_mv _ _) rfl
  with_reducible exact Moves.refl _ _

theorem startLink_mv (x0 : State) : Moves 8388608 x0 (startLink x0) := by
  unfold startLink
  with_reducible refine Moves.ite ?_ ?_
  with_reducible refine Moves.step ?_ (modChr_mv _ _) rfl
  with_reducible refine Moves.step ?_ (enterSeek_mv _) rfl
  with_reducible exact Moves.refl _ _
  with_reducible exact Moves.refl _ _

theorem restartBringUp_mv (x0 : State) : Moves 8388608 x0 (restartBringUp x0) := by
  unfold restartBringUp
  with_reducible refine Moves.ite ?_ ?_
  with_reducible refine Moves.step ?_ (enterSeek_mv _) rfl
  with_reducible exact Moves.refl _ _
  with_reducible refine Moves.step ?_ (startLink_mv _) rfl
  with_reducible exact Moves.refl _ _

theorem goUp_mv (x0 : State) : Moves 8389104 x0 (goUp x0) := by
  unfold goUp
  lift_lets
  (intro s1; refine Moves.cut (P := Moves 8389104 x0 s1) ?_ ?_; rotate_left; intro h1; clear_value s1)
  with_reducible refine Moves.step ?_ (raiseJ_mv _ _ _ _ _ _) rfl
  with_reducible refine Moves.step ?_ (bump_mv _ _ _) rfl
  assumption
  subst s1
  with_reducible refine Moves.step ?_ (modChr_mv _ _) rfl
  with_reducible exact Moves.refl _ _

theorem degradedEvent_mv (x0 : State) (x1 : Nat) (x2 : Nat) (x3 : Nat) : Moves 496 x0 (degradedEvent x0 x1 x2 x3) := by
  unfold degradedEvent
  with_reducible refine Moves.step ?_ (raiseJ_mv _ _ _ _ _ _) rfl
  with_reducible exact Moves.refl _ _

theorem backUp_mv (x0 : State) : Moves 8388608 x0 (backUp x0) := by
  unfold backUp
  with_reducible refine Moves.ite ?_ ?_
  with_reducible refine Moves.step ?_ (modChr_mv _ _) rfl
  with_reducible exact Moves.refl _ _
  with_reducible exact Moves.refl _ _

theorem degradeStart_mv (x0 : State) (x1 : Nat) : Moves 536870896 x0 (degradeStart x0 x1) := by
  unfold degradeStart
  with_reducible refine Moves.ite ?_ ?_
  with_reducible refine Moves.step ?_ (loseLink_mv _ _) rfl
  with_reducible exact Moves.refl _ _
  with_reducible refine Moves.step ?_ (modChr_mv _ _) rfl
  with_reducible exact Moves.refl _ _

theorem degradeEnd_mv (x0 : State) : Moves 536870896 x0 (degradeEnd x0) := by
  unfold degradeEnd
  split
  with_reducible refine Moves.ite ?_ ?_
  lift_lets
  (intro s3; refine Moves.cut (P := Moves 536870896 x0 s3) ?_ ?_; rotate_left; intro h3; clear_value s3)
  (intro c4; clear_value c4)
  (intro s5; refine Moves.cut (P := Moves 536870896 x0 s5) ?_ ?_; rotate_left; intro h5; clear_value s5)
  split
  with_reducible refine Moves.step ?_ (degradeStart_mv _ _) rfl
  assumption
  with_reducible refine Moves.step ?_ (backUp_mv _) rfl
  assumption
  with_reducible exact Moves.refl _ _
  with_reducible exact Moves.refl _ _
  subst s3
  with_reducible refine Moves.step ?_ (degradedEvent_mv _ _ _ _) rfl
  with_reducible exact Moves.refl _ _
  subst s5
  with_reducible refine Moves.step ?_ (modChr_mv _ _) rfl
  assumption

theorem rxFrame_mv (x0 : State) (x1 : Nat) (x2 : Fin 2) (x3 : BitVec 288) : Moves 8388624 x0 (rxFrame x0 x1 x2 x3) := by
  unfold rxFrame
  with_reducible refine Moves.ite ?_ ?_
  with_reducible exact Moves.refl _ _
  lift_lets
  (intro c3; clear_value c3)
  with_reducible refine Moves.ite ?_ ?_
  with_reducible refine Moves.step ?_ (modChr_mv _ _) rfl
  with_reducible exact Moves.refl _ _
  with_reducible refine Moves.ite ?_ ?_
  with_reducible exact Moves.refl _ _
  with_reducible refine Moves.step ?_ (bump_mv _ _ _) rfl
  with_reducible refine Moves.step ?_ (modChr_mv _ _) rfl
  with_reducible exact Moves.refl _ _

theorem rxFrames_mv (x0 : State) (x1 : Nat) (x2 : Nat) (x3 : Nat) (x4 : List (BitVec 288)) : Moves 8388624 x0 (rxFrames x0 x1 x2 x3 x4) := by
  unfold rxFrames
  (with_reducible refine Moves.foldl _ _ ?_ ?_; rotate_left; intro _ _ _)
  with_reducible refine Moves.step ?_ (rxFrame_mv _ _ _ _) rfl
  assumption
  with_reducible exact Moves.refl _ _

theorem rxInvalid_mv (x0 : State) (x1 : List (BitVec 288)) : Moves 8388624 x0 (rxInvalid x0 x1) := by
  unfold rxInvalid
  lift_lets
  (intro s1; refine Moves.cut (P := Moves 8388624 x0 s1) ?_ ?_; rotate_left; intro h1; clear_value s1)
  with_reducible refine Moves.ite ?_ ?_
  with_reducible refine Moves.ite ?_ ?_
  assumption
  with_reducible refine Moves.step ?_ (bump_mv _ _ _) rfl
  with_reducible refine Moves.step ?_ (modChr_mv _ _) rfl
  assumption
  assumption
  subst s1
  with_reducible refine Moves.step ?_ (bump_mv _ _ _) rfl
  with_reducible refine Moves.step ?_ (modChr_mv _ _) rfl
  with_reducible exact Moves.refl _ _

theorem blockReceived_mv (x0 : State) (x1 : List ChrChar) (x2 : List (BitVec 288)) : Moves 536870896 x0 (blockReceived x0 x1 x2) := by
  unfold blockReceived
  lift_lets
  (intro s1; refine Moves.cut (P := Moves 536870896 x0 s1) ?_ ?_; rotate_left; intro h1; clear_value s1)
  (intro s2; refine Moves.cut (P := Moves 536870896 x0 s2) ?_ ?_; rotate_left; intro h2; clear_value s2)
  (intro s3; refine Moves.cut (P := Moves 536870896 x0 s3) ?_ ?_; rotate_left; intro h3; clear_value s3)
  with_reducible refine Moves.step ?_ (linkRetry_mv _) rfl
  with_reducible refine Moves.step ?_ (modChr_mv _ _) rfl
  assumption
  subst s1
  with_reducible refine Moves.step ?_ (modChr_mv _ _) rfl
  with_reducible exact Moves.refl _ _
  subst s2
  with_reducible refine Moves.step ?_ (bump_mv _ _ _) rfl
  assumption
  subst s3
  split
  with_reducible refine Moves.step ?_ (rxInvalid_mv _ _) rfl
  with_reducible exact Moves.refl _ _
  with_reducible refine Moves.ite ?_ ?_
  with_reducible refine Moves.step ?_ (degradeEnd_mv _) rfl
  with_reducible refine Moves.step ?_ (rxFrames_mv _ _ _ _ _) rfl
  assumption
  assumption

theorem execChrosyBlockReceived_mv (x0 : List ChrChar) (x1 : List (BitVec 288)) (x2 : State) : MovesO 536870896 x2 (execChrosyBlockReceived x0 x1 x2) := by
  unfold execChrosyBlockReceived
  with_reducible refine MovesO.whenDo ?_ ?_
  with_reducible exact Moves.refl _ _
  with_reducible refine Moves.step ?_ (blockReceived_mv _ _ _) rfl
  with_reducible exact Moves.refl _ _

theorem freeFrames_mv (x0 : State) (x1 : Nat) : Moves 8388608 x0 (freeFrames x0 x1) := by
  unfold freeFrames
  lift_lets
  (intro c1; clear_value c1)
  with_reducible refine Moves.step ?_ (modChr_mv _ _) rfl
  with_reducible exact Moves.refl _ _

theorem execChrosyAck_mv (x0 : Byte) (x1 : State) : MovesO 8388608 x1 (execChrosyAck x0 x1) := by
  unfold execChrosyAck
  with_reducible refine MovesO.whenDo ?_ ?_
  with_reducible exact Moves.refl _ _
  with_reducible refine Moves.step ?_ (backUp_mv _) rfl
  with_reducible refine Moves.step ?_ (freeFrames_mv _ _) rfl
  with_reducible exact Moves.refl _ _

theorem gotNak_mv (x0 : State) (x1 : Nat) : Moves 8388608 x0 (gotNak x0 x1) := by
  unfold gotNak
  lift_lets
  (intro s1; refine Moves.cut (P := Moves 8388608 x0 s1) ?_ ?_; rotate_left; intro h1; clear_value s1)
  with_reducible refine Moves.step ?_ (modChr_mv _ _) rfl
  assumption
  subst s1
  with_reducible refine Moves.step ?_ (freeFrames_mv _ _) rfl
  with_reducible exact Moves.refl _ _

theorem execChrosyNak_mv (x0 : Byte) (x1 : State) : MovesO 8388608 x1 (execChrosyNak x0 x1) := by
  unfold execChrosyNak
  with_reducible refine MovesO.whenDo ?_ ?_
  with_reducible exact Moves.refl _ _
  with_reducible refine Moves.step ?_ (backUp_mv _) rfl
  with_reducible refine Moves.step ?_ (gotNak_mv _ _) rfl
  with_reducible exact Moves.refl _ _

theorem execChrosyCredit_mv (x0 : Fin 2) (x1 : Byte) (x2 : State) : MovesO 8388608 x2 (execChrosyCredit x0 x1 x2) := by
  unfold execChrosyCredit
  with_reducible refine MovesO.whenDo ?_ ?_
  with_reducible exact Moves.refl _ _
  with_reducible refine Moves.step ?_ (modChr_mv _ _) rfl
  with_reducible exact Moves.refl _ _

theorem execHeartbeat_mv (x0 : Byte) (x1 : State) : MovesO 8389104 x1 (execHeartbeat x0 x1) := by
  unfold execHeartbeat
  with_reducible refine MovesO.whenDo ?_ ?_
  with_reducible exact Moves.refl _ _
  lift_lets
  (intro c3; clear_value c3)
  (intro s4; refine Moves.cut (P := Moves 8389104 x1 s4) ?_ ?_; rotate_left; intro h4; clear_value s4)
  with_reducible refine Moves.ite ?_ ?_
  assumption
  with_reducible refine Moves.step ?_ (raise_mv _ _ _ _ _ _) rfl
  assumption
  subst s4
  with_reducible refine Moves.step ?_ (modChr_mv _ _) rfl
  with_reducible exact Moves.refl _ _

theorem execAlignNext_mv (x0 : BitVec 4) (x1 : State) : MovesO 8388608 x1 (execAlignNext x0 x1) := by
  unfold execAlignNext
  with_reducible refine MovesO.whenDo ?_ ?_
  with_reducible exact Moves.refl _ _
  with_reducible refine Moves.step ?_ (modChr_mv _ _) rfl
  with_reducible exact Moves.refl _ _

theorem tryUp_mv (x0 : State) : Moves 8389104 x0 (tryUp x0) := by
  unfold tryUp
  with_reducible refine Moves.ite ?_ ?_
  with_reducible refine Moves.step ?_ (goUp_mv _) rfl
  with_reducible refine Moves.step ?_ (modChr_mv _ _) rfl
  with_reducible exact Moves.refl _ _
  with_reducible exact Moves.refl _ _

theorem txRealigned_mv (x0 : State) : Moves 8389104 x0 (txRealigned x0) := by
  unfold txRealigned
  split
  with_reducible refine Moves.step ?_ (backUp_mv _) rfl
  with_reducible refine Moves.step ?_ (modChr_mv _ _) rfl
  with_reducible refine Moves.step ?_ (degradedEvent_mv _ _ _ _) rfl
  with_reducible exact Moves.refl _ _
  with_reducible exact Moves.refl _ _

theorem execAlignOk_mv (x0 : BitVec 4) (x1 : State) : MovesO 8389104 x1 (execAlignOk x0 x1) := by
  unfold execAlignOk
  lift_lets
  (intro c1; clear_value c1)
  with_reducible refine MovesO.ite ?_ ?_
  with_reducible refine MovesO.next ?_
  with_reducible exact Moves.refl _ _
  split
  with_reducible refine MovesO.next ?_
  with_reducible refine Moves.step ?_ (tryUp_mv _) rfl
  with_reducible refine Moves.step ?_ (modChr_mv _ _) rfl
  with_reducible exact Moves.refl _ _
  with_reducible refine MovesO.next ?_
  with_reducible refine Moves.step ?_ (tryUp_mv _) rfl
  with_reducible refine Moves.step ?_ (modChr_mv _ _) rfl
  with_reducible exact Moves.refl _ _
  with_reducible refine MovesO.whenDo ?_ ?_
  with_reducible exact Moves.refl _ _
  with_reducible refine Moves.step ?_ (txRealigned_mv _) rfl
  with_reducible exact Moves.refl _ _
  with_reducible refine MovesO.next ?_
  with_reducible exact Moves.refl _ _

theorem execLinkUp_mv (x0 : State) : MovesO 8389104 x0 (execLinkUp x0) := by
  unfold execLinkUp
  with_reducible refine MovesO.whenDo ?_ ?_
  with_reducible exact Moves.refl _ _
  with_reducible refine Moves.step ?_ (tryUp_mv _) rfl
  with_reducible refine Moves.step ?_ (modChr_mv _ _) rfl
  with_reducible exact Moves.refl _ _

theorem gotDegrade_mv (x0 : State) (x1 : Nat) : Moves 8388608 x0 (gotDegrade x0 x1) := by
  unfold gotDegrade
  with_reducible refine Moves.ite ?_ ?_
  with_reducible exact Moves.refl _ _
  with_reducible refine Moves.step ?_ (modChr_mv _ _) rfl
  with_reducible exact Moves.refl _ _

theorem execDegrade_mv (x0 : BitVec 4) (x1 : State) : MovesO 8388608 x1 (execDegrade x0 x1) := by
  unfold execDegrade
  with_reducible refine MovesO.whenDo ?_ ?_
  with_reducible exact Moves.refl _ _
  with_reducible refine Moves.step ?_ (gotDegrade_mv _ _) rfl
  with_reducible exact Moves.refl _ _

theorem execLinkDown_mv (x0 : BitVec 4) (x1 : State) : MovesO 536870896 x1 (execLinkDown x0 x1) := by
  unfold execLinkDown
  with_reducible refine MovesO.whenDo ?_ ?_
  with_reducible exact Moves.refl _ _
  with_reducible refine Moves.step ?_ (loseLink_mv _ _) rfl
  with_reducible exact Moves.refl _ _

theorem execChrosyAligned_mv (x0 : BitVec 4) (x1 : State) : MovesO 536870896 x1 (execChrosyAligned x0 x1) := by
  unfold execChrosyAligned
  lift_lets
  (intro c1; clear_value c1)
  split
  with_reducible refine MovesO.whenDo ?_ ?_
  with_reducible exact Moves.refl _ _
  with_reducible refine Moves.step ?_ (modChr_mv _ _) rfl
  with_reducible exact Moves.refl _ _
  with_reducible refine MovesO.whenDo ?_ ?_
  with_reducible exact Moves.refl _ _
  with_reducible refine Moves.step ?_ (degradeEnd_mv _) rfl
  with_reducible refine Moves.step ?_ (modChr_mv _ _) rfl
  with_reducible exact Moves.refl _ _
  with_reducible refine MovesO.next ?_
  with_reducible exact Moves.refl _ _

theorem execSeekTimeout_mv (x0 : Nat) (x1 : State) : MovesO 8389104 x1 (execSeekTimeout x0 x1) := by
  unfold execSeekTimeout
  with_reducible refine MovesO.whenDo ?_ ?_
  with_reducible exact Moves.refl _ _
  lift_lets
  (intro s3; refine Moves.cut (P := Moves 8389104 x1 s3) ?_ ?_; rotate_left; intro h3; clear_value s3)
  (intro c4; clear_value c4)
  (intro s5; refine Moves.cut (P := Moves 8389104 x1 s5) ?_ ?_; rotate_left; intro h5; clear_value s5)
  with_reducible refine Moves.step ?_ (raiseLim_mv _ _ _ _ _ _ _ _ _ _) rfl
  assumption
  subst s3
  with_reducible refine Moves.step ?_ (State.atLeast_mv _ _) rfl
  with_reducible exact Moves.refl _ _
  subst s5
  with_reducible refine Moves.step ?_ (modChr_mv _ _) rfl
  with_reducible refine Moves.step ?_ (enterSeek_mv _) rfl
  assumption

theorem chrLaneFailed_mv (x0 : State) (x1 : Fin 9) (x2 : Nat) : Moves 536870896 x0 (chrLaneFailed x0 x1 x2) := by
  unfold chrLaneFailed
  lift_lets
  (intro c1; clear_value c1)
  (intro s2; refine Moves.cut (P := Moves 536870896 x0 s2) ?_ ?_; rotate_left; intro h2; clear_value s2)
  (intro s3; refine Moves.cut (P := Moves 536870896 x0 s3) ?_ ?_; rotate_left; intro h3; clear_value s3)
  (intro s4; refine Moves.cut (P := Moves 536870896 x0 s4) ?_ ?_; rotate_left; intro h4; clear_value s4)
  with_reducible refine Moves.ite ?_ ?_
  with_reducible refine Moves.step ?_ (loseLink_mv _ _) rfl
  assumption
  with_reducible refine Moves.ite ?_ ?_
  with_reducible refine Moves.step ?_ (modChr_mv _ _) rfl
  assumption
  with_reducible refine Moves.step ?_ (degradeStart_mv _ _) rfl
  assumption
  subst s2
  with_reducible refine Moves.step ?_ (modChr_mv _ _) rfl
  with_reducible exact Moves.refl _ _
  subst s3
  with_reducible refine Moves.ite ?_ ?_
  with_reducible refine Moves.step ?_ (bump_mv _ _ _) rfl
  assumption
  assumption
  subst s4
  with_reducible refine Moves.step ?_ (raiseJ_mv _ _ _ _ _ _) rfl
  assumption

theorem execChrosyLaneFailed_mv (x0 : Fin 9) (x1 : Fin 5) (x2 : State) : MovesO 536870896 x2 (execChrosyLaneFailed x0 x1 x2) := by
  unfold execChrosyLaneFailed
  with_reducible refine MovesO.whenDo ?_ ?_
  with_reducible exact Moves.refl _ _
  with_reducible refine Moves.step ?_ (chrLaneFailed_mv _ _ _) rfl
  with_reducible exact Moves.refl _ _

theorem execDegradeRepeat_mv (x0 : State) : MovesO 536870896 x0 (execDegradeRepeat x0) := by
  unfold execDegradeRepeat
  split
  with_reducible refine MovesO.next ?_
  with_reducible exact Moves.refl _ _
  with_reducible refine MovesO.whenDo ?_ ?_
  with_reducible exact Moves.refl _ _
  lift_lets
  (intro s6; refine Moves.cut (P := Moves 536870896 x0 s6) ?_ ?_; rotate_left; intro h6; clear_value s6)
  with_reducible refine Moves.ite ?_ ?_
  with_reducible refine Moves.step ?_ (modChr_mv _ _) rfl
  assumption
  with_reducible refine Moves.step ?_ (loseLink_mv _ _) rfl
  assumption
  subst s6
  with_reducible refine Moves.step ?_ (State.atLeast_mv _ _) rfl
  with_reducible exact Moves.refl _ _

theorem execChrosyNoBlockTimeout_mv (x0 : State) : MovesO 536870896 x0 (execChrosyNoBlockTimeout x0) := by
  unfold execChrosyNoBlockTimeout
  with_reducible refine MovesO.whenDo ?_ ?_
  with_reducible exact Moves.refl _ _
  with_reducible refine Moves.step ?_ (loseLink_mv _ _) rfl
  with_reducible refine Moves.step ?_ (State.atLeast_mv _ _) rfl
  with_reducible exact Moves.refl _ _

theorem execChrosyStallTimeout_mv (x0 : State) : MovesO 536870896 x0 (execChrosyStallTimeout x0) := by
  unfold execChrosyStallTimeout
  with_reducible refine MovesO.whenDo ?_ ?_
  with_reducible exact Moves.refl _ _
  with_reducible refine Moves.step ?_ (loseLink_mv _ _) rfl
  with_reducible refine Moves.step ?_ (State.atLeast_mv _ _) rfl
  with_reducible exact Moves.refl _ _

theorem adaptLane_mv (x0 : State) (x1 : ChrAdapt) : Moves 8389104 x0 (adaptLane x0 x1) := by
  unfold adaptLane
  lift_lets
  intro c1
  (intro c2; clear_value c2)
  (intro c3; clear_value c3)
  (intro c4; clear_value c4)
  (intro c5; clear_value c5)
  (intro c6; clear_value c6)
  (intro s7; refine Moves.cut (P := Moves 8389104 x0 s7) ?_ ?_; rotate_left; intro h7; clear_value s7)
  with_reducible refine Moves.ite ?_ ?_
  with_reducible refine Moves.step ?_ (raiseLim_mv _ _ _ _ _ _ _ _ _ _) rfl
  assumption
  assumption
  subst s7
  with_reducible refine Moves.step ?_ (modChr_mv _ _) rfl
  with_reducible exact Moves.refl _ _

theorem execChrosyAdaptTick_mv (x0 : List ChrAdapt) (x1 : State) : MovesO 8389104 x1 (execChrosyAdaptTick x0 x1) := by
  unfold execChrosyAdaptTick
  with_reducible refine MovesO.whenDo ?_ ?_
  with_reducible exact Moves.refl _ _
  (with_reducible refine Moves.foldl _ _ ?_ ?_; rotate_left; intro _ _ _)
  with_reducible refine Moves.step ?_ (adaptLane_mv _ _) rfl
  assumption
  with_reducible exact Moves.refl _ _

theorem writeChrosyCtl_mv (x0 : State) (x1 : Nat) : Moves 536870896 x0 (writeChrosyCtl x0 x1) := by
  unfold writeChrosyCtl
  lift_lets
  (intro s1; refine Moves.cut (P := Moves 536870896 x0 s1) ?_ ?_; rotate_left; intro h1; clear_value s1)
  with_reducible refine Moves.ite ?_ ?_
  with_reducible refine Moves.ite ?_ ?_
  with_reducible refine Moves.step ?_ (startLink_mv _) rfl
  assumption
  assumption
  with_reducible refine Moves.ite ?_ ?_
  with_reducible refine Moves.step ?_ (stopLink_mv _ _) rfl
  assumption
  assumption
  subst s1
  with_reducible refine Moves.step ?_ (csrSet_mv _ _ _) rfl
  with_reducible exact Moves.refl _ _

theorem chrLatch_mv (x0 : State) : Moves 8388608 x0 (chrLatch x0) := by
  unfold chrLatch
  with_reducible refine Moves.step ?_ (modChr_mv _ _) rfl
  with_reducible exact Moves.refl _ _

end Sys2Proof.Machine
end

