-- ==== Sys2Proof/Laws/FrameFirmware.lean ====
section
/-! SUPPORT. What each operation of Machine/Firmware.lean may change, one lemma an operation (`<name>_mv`): the components its
mask names, and nothing else of the state. -/

namespace Sys2Proof.Machine

theorem slotSet_mv (x0 : State) (x1 : Nat) (x2 : Nat) (x3 : FwSlot) : Moves 67108864 x0 (slotSet x0 x1 x2 x3) := by
  unfold slotSet
  lift_lets
  (intro c1; clear_value c1)
  (intro c2; clear_value c2)
  with_reducible exact Moves.mk' (m := 67108864) (Moves.refl _ _) (.inr rfl) (.inr rfl) (.inr rfl) (.inr rfl) (.inr rfl) (.inr rfl) (.inr rfl) (.inr rfl) (.inr rfl) rfl rfl (.inr rfl) (.inr rfl) (.inr rfl) (.inr rfl) (.inr rfl) (.inr rfl) (.inr rfl) (.inr rfl) (.inr rfl) (.inr rfl) (.inr rfl) (.inr rfl) (.inr rfl) (.inl rfl) (.inr rfl) (.inr rfl)

theorem bootWrite_mv (x0 : State) : Moves 67108864 x0 (bootWrite x0) := by
  unfold bootWrite
  with_reducible exact Moves.mk' (m := 67108864) (Moves.refl _ _) (.inr rfl) (.inr rfl) (.inr rfl) (.inr rfl) (.inr rfl) (.inr rfl) (.inr rfl) (.inr rfl) (.inr rfl) rfl rfl (.inr rfl) (.inr rfl) (.inr rfl) (.inr rfl) (.inr rfl) (.inr rfl) (.inr rfl) (.inr rfl) (.inr rfl) (.inr rfl) (.inr rfl) (.inr rfl) (.inr rfl) (.inl rfl) (.inr rfl) (.inr rfl)

theorem setActive_mv (x0 : State) (x1 : Nat) (x2 : Nat) : Moves 67108864 x0 (setActive x0 x1 x2) := by
  unfold setActive
  with_reducible exact Moves.mk' (m := 67108864) (Moves.refl _ _) (.inr rfl) (.inr rfl) (.inr rfl) (.inr rfl) (.inr rfl) (.inr rfl) (.inr rfl) (.inr rfl) (.inr rfl) rfl rfl (.inr rfl) (.inr rfl) (.inr rfl) (.inr rfl) (.inr rfl) (.inr rfl) (.inr rfl) (.inr rfl) (.inr rfl) (.inr rfl) (.inr rfl) (.inr rfl) (.inr rfl) (.inl rfl) (.inr rfl) (.inr rfl)

theorem updEntry_mv (x0 : State) (x1 : Nat) (x2 : Nat) (x3 : Nat) (x4 : Nat) (x5 : Nat) (x6 : Nat) : Moves 96 x0 (updEntry x0 x1 x2 x3 x4 x5 x6) := by
  unfold updEntry
  with_reducible refine Moves.step ?_ (journal_mv _ _ _ _) rfl
  with_reducible exact Moves.refl _ _

theorem updEvent_mv (x0 : State) (x1 : Nat) (x2 : Nat) (x3 : Nat) (x4 : Nat) (x5 : Nat) : Moves 496 x0 (updEvent x0 x1 x2 x3 x4 x5) := by
  unfold updEvent
  with_reducible refine Moves.step ?_ (raiseX_mv _ _ _ _ _ _ _ _ _) rfl
  with_reducible exact Moves.refl _ _

theorem endLease_mv (x0 : State) (x1 : Nat) : Moves 67109360 x0 (endLease x0 x1) := by
  unfold endLease
  lift_lets
  (intro c1; clear_value c1)
  (intro c2; clear_value c2)
  (intro s3; refine Moves.cut (P := Moves 67109360 x0 s3) ?_ ?_; rotate_left; intro h3; clear_value s3)
  (intro s4; refine Moves.cut (P := Moves 67109360 x0 s4) ?_ ?_; rotate_left; intro h4; clear_value s4)
  with_reducible refine Moves.ite ?_ ?_
  assumption
  with_reducible refine Moves.step ?_ (updEvent_mv _ _ _ _ _ _) rfl
  assumption
  subst s3
  with_reducible exact Moves.mk' (m := 67109360) (Moves.refl _ _) (.inl rfl) (.inl rfl) (.inl rfl) (.inl rfl) (.inl rfl) (.inr rfl) (.inr rfl) (.inr rfl) (.inr rfl) rfl rfl (.inr rfl) (.inr rfl) (.inr rfl) (.inr rfl) (.inr rfl) (.inr rfl) (.inr rfl) (.inr rfl) (.inr rfl) (.inr rfl) (.inr rfl) (.inr rfl) (.inr rfl) (.inl rfl) (.inr rfl) (.inr rfl)
  subst s4
  with_reducible refine Moves.step ?_ (updEntry_mv _ _ _ _ _ _ _) rfl
  with_reducible refine Moves.step ?_ (bootWrite_mv _) rfl
  assumption

theorem takeHeader_mv (x0 : State) (x1 : Nat) (x2 : Nat) (x3 : ImageHeader) : Moves 67109360 x0 (takeHeader x0 x1 x2 x3).2 := by
  unfold takeHeader
  lift_lets
  (intro c1; clear_value c1)
  (intro c2; clear_value c2)
  (intro s3; refine Moves.cut (P := Moves 67109360 x0 s3) ?_ ?_; rotate_left; intro h3; clear_value s3)
  (intro c4; clear_value c4)
  (intro s5; refine Moves.cut (P := Moves 67109360 x0 s5) ?_ ?_; rotate_left; intro h5; clear_value s5)
  (intro c6; clear_value c6)
  (intro s7; refine Moves.cut (P := Moves 67109360 x0 s7) ?_ ?_; rotate_left; intro h7; clear_value s7)
  (intro s8; refine Moves.cut (P := Moves 67109360 x0 s8) ?_ ?_; rotate_left; intro h8; clear_value s8)
  with_reducible refine Moves.ite2 ?_ ?_
  split
  split
  dsimp -zeta only
  with_reducible refine Moves.step ?_ (limitSet_mv _ _ _) rfl
  assumption
  dsimp -zeta only
  with_reducible refine Moves.step ?_ (updEvent_mv _ _ _ _ _ _) rfl
  with_reducible refine Moves.step ?_ (limitSet_mv _ _ _) rfl
  assumption
  dsimp -zeta only
  with_reducible refine Moves.ite ?_ ?_
  with_reducible refine Moves.step ?_ (updEvent_mv _ _ _ _ _ _) rfl
  with_reducible refine Moves.step ?_ (bootWrite_mv _) rfl
  assumption
  assumption
  subst s3
  with_reducible refine Moves.step ?_ (updEntry_mv _ _ _ _ _ _ _) rfl
  with_reducible exact Moves.refl _ _
  subst s5
  with_reducible exact Moves.mk' (m := 67109360) (by assumption) (.inl rfl) (.inl rfl) (.inl rfl) (.inl rfl) (.inl rfl) (.inr rfl) (.inr rfl) (.inr rfl) (.inr rfl) rfl rfl (.inr rfl) (.inr rfl) (.inr rfl) (.inr rfl) (.inr rfl) (.inr rfl) (.inr rfl) (.inr rfl) (.inr rfl) (.inr rfl) (.inr rfl) (.inr rfl) (.inr rfl) (.inl rfl) (.inr rfl) (.inr rfl)
  subst s7
  with_reducible exact Moves.mk' (m := 67109360) (by assumption) (.inl rfl) (.inl rfl) (.inl rfl) (.inl rfl) (.inl rfl) (.inr rfl) (.inr rfl) (.inr rfl) (.inr rfl) rfl rfl (.inr rfl) (.inr rfl) (.inr rfl) (.inr rfl) (.inr rfl) (.inr rfl) (.inr rfl) (.inr rfl) (.inr rfl) (.inr rfl) (.inr rfl) (.inr rfl) (.inr rfl) (.inl rfl) (.inr rfl) (.inr rfl)
  subst s8
  with_reducible refine Moves.step ?_ (slotSet_mv _ _ _ _) rfl
  assumption

theorem stagedWhole_mv (x0 : State) (x1 : Nat) (x2 : Nat) : Moves 67109360 x0 (stagedWhole x0 x1 x2).2 := by
  unfold stagedWhole
  lift_lets
  (intro c1; clear_value c1)
  (intro c2; clear_value c2)
  (intro c3; subst c3)
  (intro s4; refine Moves.cut (P := Moves 67109360 x0 s4) ?_ ?_; rotate_left; intro h4; clear_value s4)
  (intro c5; clear_value c5)
  (intro s6; refine Moves.cut (P := Moves 67109360 x0 s6) ?_ ?_; rotate_left; intro h6; clear_value s6)
  split
  with_reducible exact Moves.refl _ _
  lift_lets
  (intro c10; clear_value c10)
  with_reducible refine Moves.ite2 ?_ ?_
  dsimp -zeta only
  with_reducible refine Moves.step ?_ (updEvent_mv _ _ _ _ _ _) rfl
  with_reducible refine Moves.step ?_ (updEntry_mv _ _ _ _ _ _ _) rfl
  assumption
  dsimp -zeta only
  with_reducible refine Moves.step ?_ (updEntry_mv _ _ _ _ _ _ _) rfl
  with_reducible refine Moves.step ?_ (slotSet_mv _ _ _ _) rfl
  lift_lets
  (intro c20; clear_value c20)
  with_reducible exact Moves.mk' (m := 67109360) (Moves.refl _ _) (.inl rfl) (.inl rfl) (.inl rfl) (.inl rfl) (.inl rfl) (.inr rfl) (.inr rfl) (.inr rfl) (.inr rfl) rfl rfl (.inr rfl) (.inr rfl) (.inr rfl) (.inr rfl) (.inr rfl) (.inr rfl) (.inr rfl) (.inr rfl) (.inr rfl) (.inr rfl) (.inr rfl) (.inr rfl) (.inr rfl) (.inl rfl) (.inr rfl) (.inr rfl)
  subst s4
  with_reducible refine Moves.step ?_ (slotSet_mv _ _ _ _) rfl
  dsimp -zeta only
  lift_lets
  (intro c26; clear_value c26)
  with_reducible exact Moves.mk' (m := 67109360) (Moves.refl _ _) (.inl rfl) (.inl rfl) (.inl rfl) (.inl rfl) (.inl rfl) (.inr rfl) (.inr rfl) (.inr rfl) (.inr rfl) rfl rfl (.inr rfl) (.inr rfl) (.inr rfl) (.inr rfl) (.inr rfl) (.inr rfl) (.inr rfl) (.inr rfl) (.inr rfl) (.inr rfl) (.inr rfl) (.inr rfl) (.inr rfl) (.inl rfl) (.inr rfl) (.inr rfl)
  subst s6
  with_reducible exact Moves.mk' (m := 67109360) (by assumption) (.inl rfl) (.inl rfl) (.inl rfl) (.inl rfl) (.inl rfl) (.inr rfl) (.inr rfl) (.inr rfl) (.inr rfl) rfl rfl (.inr rfl) (.inr rfl) (.inr rfl) (.inr rfl) (.inr rfl) (.inr rfl) (.inr rfl) (.inr rfl) (.inr rfl) (.inr rfl) (.inr rfl) (.inr rfl) (.inr rfl) (.inl rfl) (.inr rfl) (.inr rfl)

theorem stageBody_mv (x0 : State) (x1 : Nat) (x2 : Nat) (x3 : List Block) : Moves 67109360 x0 (stageBody x0 x1 x2 x3).2 := by
  unfold stageBody
  lift_lets
  (intro c1; clear_value c1)
  (intro c2; clear_value c2)
  (intro c3; clear_value c3)
  (intro s4; refine Moves.cut (P := Moves 67109360 x0 s4) ?_ ?_; rotate_left; intro h4; clear_value s4)
  (intro c5; clear_value c5)
  (intro s6; refine Moves.cut (P := Moves 67109360 x0 s6) ?_ ?_; rotate_left; intro h6; clear_value s6)
  split
  with_reducible exact Moves.refl _ _
  with_reducible refine Moves.ite2 ?_ ?_
  with_reducible exact Moves.refl _ _
  with_reducible refine Moves.ite2 ?_ ?_
  with_reducible refine Moves.step ?_ (stagedWhole_mv _ _ _) rfl
  assumption
  with_reducible assumption
  subst s4
  with_reducible refine Moves.step ?_ (slotSet_mv _ _ _ _) rfl
  with_reducible exact Moves.refl _ _
  subst s6
  with_reducible exact Moves.mk' (m := 67109360) (by assumption) (.inl rfl) (.inl rfl) (.inl rfl) (.inl rfl) (.inl rfl) (.inr rfl) (.inr rfl) (.inr rfl) (.inr rfl) rfl rfl (.inr rfl) (.inr rfl) (.inr rfl) (.inr rfl) (.inr rfl) (.inr rfl) (.inr rfl) (.inr rfl) (.inr rfl) (.inr rfl) (.inr rfl) (.inr rfl) (.inr rfl) (.inl rfl) (.inr rfl) (.inr rfl)

theorem stageStep_mv (x0 : State) (x1 : Nat) (x2 : Nat) (x3 : Nat) (x4 : List Block) : Moves 67109360 x0 (stageStep x0 x1 x2 x3 x4).2 := by
  unfold stageStep
  lift_lets
  intro c1
  (intro c2; clear_value c2)
  (intro c3; clear_value c3)
  (intro c4; clear_value c4)
  (intro s5; refine Moves.cut (P := Moves 67109360 x0 s5) ?_ ?_; rotate_left; intro h5; clear_value s5)
  (intro c6; clear_value c6)
  with_reducible refine Moves.ite2 ?_ ?_
  with_reducible exact Moves.refl _ _
  with_reducible refine Moves.ite2 ?_ ?_
  with_reducible exact Moves.refl _ _
  with_reducible refine Moves.ite2 ?_ ?_
  with_reducible refine Moves.ite2 ?_ ?_
  with_reducible exact Moves.refl _ _
  with_reducible refine Moves.ite2 ?_ ?_
  dsimp -zeta only
  with_reducible exact Moves.mk' (m := 67109360) (Moves.refl _ _) (.inl rfl) (.inl rfl) (.inl rfl) (.inl rfl) (.inl rfl) (.inr rfl) (.inr rfl) (.inr rfl) (.inr rfl) rfl rfl (.inr rfl) (.inr rfl) (.inr rfl) (.inr rfl) (.inr rfl) (.inr rfl) (.inr rfl) (.inr rfl) (.inr rfl) (.inr rfl) (.inr rfl) (.inr rfl) (.inr rfl) (.inl rfl) (.inr rfl) (.inr rfl)
  split
  with_reducible refine Moves.ite2 ?_ ?_
  dsimp -zeta only
  with_reducible refine Moves.step ?_ (Moves.snd (by assumption) (takeHeader_mv _ _ _ _)) rfl
  assumption
  with_reducible refine Moves.step ?_ (stageBody_mv _ _ _ _) rfl
  with_reducible refine Moves.step ?_ (Moves.snd (by assumption) (takeHeader_mv _ _ _ _)) rfl
  assumption
  with_reducible refine Moves.step ?_ (stageBody_mv _ _ _ _) rfl
  with_reducible exact Moves.refl _ _
  subst s5
  with_reducible exact Moves.mk' (m := 67109360) (Moves.refl _ _) (.inl rfl) (.inl rfl) (.inl rfl) (.inl rfl) (.inl rfl) (.inr rfl) (.inr rfl) (.inr rfl) (.inr rfl) rfl rfl (.inr rfl) (.inr rfl) (.inr rfl) (.inr rfl) (.inr rfl) (.inr rfl) (.inr rfl) (.inr rfl) (.inr rfl) (.inr rfl) (.inr rfl) (.inr rfl) (.inr rfl) (.inl rfl) (.inr rfl) (.inr rfl)

theorem readStep_mv (x0 : WxDesc) (x1 : Scan × List Block) (x2 : Nat) : Moves 536870896 x1.1.s (readStep x0 x1 x2).1.s := by
  unfold readStep
  lift_lets
  (intro c1; clear_value c1)
  split
  with_reducible exact Moves.refl _ _
  split
  dsimp -zeta only
  with_reducible refine Moves.step ?_ (scanOffline_mv _ _ _) rfl
  with_reducible exact Moves.refl _ _
  split
  dsimp -zeta only
  with_reducible refine Moves.step ?_ (Moves.thdS (by assumption) (scanRead_mv _ _)) rfl
  with_reducible exact Moves.refl _ _

theorem fwStage_mv (x0 : State) (x1 : Fin 64) (x2 : WxDesc) : Moves 536870896 x0 (fwStage x0 x1 x2) := by
  unfold fwStage
  have h : Moves 536870896 x0 ((List.range x2.len).foldl (readStep x2) ((({ s := x0 } : Scan), []) : Scan × List Block)).1.s := by
    generalize List.range x2.len = l
    have key : ∀ p : Scan × List Block, Moves 536870896 x0 p.1.s → Moves 536870896 x0 (l.foldl (readStep x2) p).1.s := by
      induction l with
      | nil => exact fun _ k => k
      | cons a l ih => exact fun p k => ih _ (k.step (readStep_mv _ _ _) rfl)
    exact key _ (Moves.refl _ _)
  generalize (List.range x2.len).foldl (readStep x2) ((({ s := x0 } : Scan), []) : Scan × List Block) = p at h
  obtain ⟨a, blocks⟩ := p
  dsimp only at h ⊢
  split
  · exact h.step (wxEnd_mv _ _ _ _ _ _) rfl
  · refine Moves.ite ?_ (Moves.ite ?_ ?_) <;>
      exact (h.step (stageStep_mv _ _ _ _ _) rfl).step (wxEnd_mv _ _ _ _ _ _) rfl

theorem execFwStage_mv (x0 : Fin 64) (x1 : Nat) (x2 : State) : MovesO 536870896 x2 (execFwStage x0 x1 x2) := by
  unfold execFwStage
  (with_reducible refine wxRun_mv _ _ _ _ _ ?_; intro d)
  with_reducible refine Moves.step ?_ (fwStage_mv _ _ _) rfl
  with_reducible exact Moves.refl _ _

theorem resetEntry_mv (x0 : State) (x1 : Nat) (x2 : Nat) (x3 : Nat) : Moves 96 x0 (resetEntry x0 x1 x2 x3) := by
  unfold resetEntry
  with_reducible refine Moves.step ?_ (formEntry_mv _ _ _ _) rfl
  with_reducible exact Moves.refl _ _

theorem keeperStop_mv (x0 : State) (x1 : Nat) : Moves 203890160 x0 (keeperStop x0 x1) := by
  unfold keeperStop
  lift_lets
  (intro c1; clear_value c1)
  (intro c2; clear_value c2)
  (intro s3; refine Moves.cut (P := Moves 203890160 x0 s3) ?_ ?_; rotate_left; intro h3; clear_value s3)
  (intro s4; refine Moves.cut (P := Moves 203890160 x0 s4) ?_ ?_; rotate_left; intro h4; clear_value s4)
  (intro s5; refine Moves.cut (P := Moves 203890160 x0 s5) ?_ ?_; rotate_left; intro h5; clear_value s5)
  (intro s6; refine Moves.cut (P := Moves 203890160 x0 s6) ?_ ?_; rotate_left; intro h6; clear_value s6)
  (intro c7; clear_value c7)
  (intro c8; clear_value c8)
  (intro c9; clear_value c9)
  (intro c10; clear_value c10)
  with_reducible refine Moves.ite ?_ ?_
  assumption
  with_reducible refine Moves.step ?_ (raise_mv _ _ _ _ _ _) rfl
  with_reducible exact Moves.mk' (m := 203890160) (by assumption) (.inl rfl) (.inl rfl) (.inl rfl) (.inl rfl) (.inl rfl) (.inr rfl) (.inl rfl) (.inl rfl) (.inl rfl) (by rfl) (by rfl) (.inr rfl) (.inr rfl) (.inr rfl) (.inl rfl) (.inl rfl) (.inl rfl) (.inr rfl) (.inr rfl) (.inl rfl) (.inr rfl) (.inr rfl) (.inr rfl) (.inr rfl) (.inl rfl) (.inl rfl) (.inr rfl)
  subst s3
  with_reducible exact Moves.mk' (m := 203890160) (Moves.refl _ _) (.inl rfl) (.inl rfl) (.inl rfl) (.inl rfl) (.inl rfl) (.inr rfl) (.inl rfl) (.inl rfl) (.inl rfl) (by rfl) (by rfl) (.inr rfl) (.inr rfl) (.inr rfl) (.inl rfl) (.inl rfl) (.inl rfl) (.inr rfl) (.inr rfl) (.inl rfl) (.inr rfl) (.inr rfl) (.inr rfl) (.inr rfl) (.inl rfl) (.inl rfl) (.inr rfl)
  subst s4
  with_reducible refine Moves.step ?_ (dwHardware_mv _ _) rfl
  with_reducible refine Moves.step ?_ (csrSet_mv _ _ _) rfl
  assumption
  subst s5
  with_reducible refine Moves.step ?_ (transitAbort_mv _ _) rfl
  assumption
  subst s6
  with_reducible refine Moves.ite ?_ ?_
  with_reducible refine Moves.step ?_ (resetEntry_mv _ _ _ _) rfl
  assumption
  with_reducible exact Moves.mk' (m := 203890160) (by assumption) (.inl rfl) (.inl rfl) (.inl rfl) (.inl rfl) (.inl rfl) (.inr rfl) (.inl rfl) (.inl rfl) (.inl rfl) (by rfl) (by rfl) (.inr rfl) (.inr rfl) (.inr rfl) (.inl rfl) (.inl rfl) (.inl rfl) (.inr rfl) (.inr rfl) (.inl rfl) (.inr rfl) (.inr rfl) (.inr rfl) (.inr rfl) (.inl rfl) (.inl rfl) (.inr rfl)

theorem revert_mv (x0 : State) (x1 : Nat) : Moves 67108864 x0 (revert x0 x1) := by
  unfold revert
  lift_lets
  (intro c1; clear_value c1)
  (intro s2; refine Moves.cut (P := Moves 67108864 x0 s2) ?_ ?_; rotate_left; intro h2; clear_value s2)
  (intro c3; clear_value c3)
  with_reducible refine Moves.step ?_ (slotSet_mv _ _ _ _) rfl
  with_reducible refine Moves.step ?_ (slotSet_mv _ _ _ _) rfl
  with_reducible refine Moves.step ?_ (bootWrite_mv _) rfl
  assumption
  subst s2
  with_reducible refine Moves.step ?_ (setActive_mv _ _ _) rfl
  with_reducible exact Moves.refl _ _

theorem revertArea_mv (x0 : State) : Moves 67108864 x0 (revertArea x0) := by
  unfold revertArea
  split
  with_reducible exact Moves.mk' (m := 67108864) (Moves.refl _ _) (.inr rfl) (.inr rfl) (.inr rfl) (.inr rfl) (.inr rfl) (.inr rfl) (.inr rfl) (.inr rfl) (.inr rfl) rfl rfl (.inr rfl) (.inr rfl) (.inr rfl) (.inr rfl) (.inr rfl) (.inr rfl) (.inr rfl) (.inr rfl) (.inr rfl) (.inr rfl) (.inr rfl) (.inr rfl) (.inr rfl) (.inl rfl) (.inr rfl) (.inr rfl)
  with_reducible exact Moves.refl _ _

theorem fallback_mv (x0 : State) : Moves 67109360 x0 (fallback x0) := by
  unfold fallback
  lift_lets
  (intro c1; clear_value c1)
  (intro c2; clear_value c2)
  (intro s3; refine Moves.cut (P := Moves 67109360 x0 s3) ?_ ?_; rotate_left; intro h3; clear_value s3)
  (intro s4; refine Moves.cut (P := Moves 67109360 x0 s4) ?_ ?_; rotate_left; intro h4; clear_value s4)
  with_reducible refine Moves.step ?_ (endLease_mv _ _) rfl
  assumption
  subst s3
  (with_reducible refine Moves.foldl _ _ ?_ ?_; rotate_left; intro _ _ _)
  lift_lets
  (intro s10; refine Moves.cut (P := Moves 67109360 x0 s10) ?_ ?_; rotate_left; intro h10; clear_value s10)
  with_reducible refine Moves.ite ?_ ?_
  with_reducible refine Moves.step ?_ (updEntry_mv _ _ _ _ _ _ _) rfl
  assumption
  assumption
  subst s4
  with_reducible refine Moves.step ?_ (updEvent_mv _ _ _ _ _ _) rfl
  assumption
  with_reducible refine Moves.step ?_ (revertArea_mv _) rfl
  with_reducible exact Moves.refl _ _
  subst s10
  with_reducible refine Moves.step ?_ (revert_mv _ _) rfl
  assumption

theorem watchdog_mv (x0 : State) : Moves 203890160 x0 (watchdog x0) := by
  unfold watchdog
  lift_lets
  (intro c1; clear_value c1)
  (intro c2; clear_value c2)
  (intro s3; refine Moves.cut (P := Moves 203890160 x0 s3) ?_ ?_; rotate_left; intro h3; clear_value s3)
  (intro s4; refine Moves.cut (P := Moves 203890160 x0 s4) ?_ ?_; rotate_left; intro h4; clear_value s4)
  (intro s5; refine Moves.cut (P := Moves 203890160 x0 s5) ?_ ?_; rotate_left; intro h5; clear_value s5)
  with_reducible refine Moves.step ?_ (keeperStop_mv _ _) rfl
  assumption
  subst s3
  with_reducible refine Moves.ite ?_ ?_
  with_reducible exact Moves.refl _ _
  with_reducible refine Moves.step ?_ (bootWrite_mv _) rfl
  with_reducible exact Moves.mk' (m := 203890160) (Moves.refl _ _) (.inl rfl) (.inl rfl) (.inl rfl) (.inl rfl) (.inl rfl) (.inr rfl) (.inl rfl) (.inl rfl) (.inl rfl) (by rfl) (by rfl) (.inr rfl) (.inr rfl) (.inr rfl) (.inl rfl) (.inl rfl) (.inl rfl) (.inr rfl) (.inr rfl) (.inl rfl) (.inr rfl) (.inr rfl) (.inr rfl) (.inr rfl) (.inl rfl) (.inl rfl) (.inr rfl)
  subst s4
  with_reducible refine Moves.step ?_ (raiseJ_mv _ _ _ _ _ _) rfl
  assumption
  subst s5
  with_reducible refine Moves.ite ?_ ?_
  with_reducible refine Moves.step ?_ (fallback_mv _) rfl
  assumption
  assumption

theorem execKeeperWatchdogExpiry_mv (x0 : State) : MovesO 203890160 x0 (execKeeperWatchdogExpiry x0) := by
  unfold execKeeperWatchdogExpiry
  with_reducible refine MovesO.whenDo ?_ ?_
  with_reducible exact Moves.refl _ _
  with_reducible refine Moves.step ?_ (watchdog_mv _) rfl
  with_reducible exact Moves.refl _ _

theorem swapSlot_mv (x0 : State) (x1 : Nat) : Moves 67108864 x0 (swapSlot x0 x1) := by
  unfold swapSlot
  lift_lets
  (intro c1; clear_value c1)
  (intro c2; clear_value c2)
  (intro s3; refine Moves.cut (P := Moves 67108864 x0 s3) ?_ ?_; rotate_left; intro h3; clear_value s3)
  (intro c4; clear_value c4)
  with_reducible exact Moves.mk' (m := 67108864) (by assumption) (.inr rfl) (.inr rfl) (.inr rfl) (.inr rfl) (.inr rfl) (.inr rfl) (.inr rfl) (.inr rfl) (.inr rfl) rfl rfl (.inr rfl) (.inr rfl) (.inr rfl) (.inr rfl) (.inr rfl) (.inr rfl) (.inr rfl) (.inr rfl) (.inr rfl) (.inr rfl) (.inr rfl) (.inr rfl) (.inr rfl) (.inl rfl) (.inr rfl) (.inr rfl)
  subst s3
  with_reducible refine Moves.step ?_ (setActive_mv _ _ _) rfl
  with_reducible refine Moves.step ?_ (slotSet_mv _ _ _ _) rfl
  with_reducible refine Moves.step ?_ (bootWrite_mv _) rfl
  with_reducible exact Moves.refl _ _

theorem activated_mv (x0 : State) (x1 : Nat) (x2 : Nat) : Moves 8389104 x0 (activated x0 x1 x2) := by
  unfold activated
  lift_lets
  (intro c1; clear_value c1)
  (intro s2; refine Moves.cut (P := Moves 8389104 x0 s2) ?_ ?_; rotate_left; intro h2; clear_value s2)
  with_reducible refine Moves.ite ?_ ?_
  with_reducible refine Moves.step ?_ (restartBringUp_mv _) rfl
  assumption
  assumption
  subst s2
  with_reducible refine Moves.step ?_ (updEvent_mv _ _ _ _ _ _) rfl
  with_reducible refine Moves.step ?_ (updEntry_mv _ _ _ _ _ _ _) rfl
  with_reducible exact Moves.refl _ _

theorem activationFails_mv (x0 : State) (x1 : Nat) (x2 : Nat) : Moves 67109360 x0 (activationFails x0 x1 x2) := by
  unfold activationFails
  lift_lets
  (intro c1; clear_value c1)
  (intro c2; clear_value c2)
  (intro s3; refine Moves.cut (P := Moves 67109360 x0 s3) ?_ ?_; rotate_left; intro h3; clear_value s3)
  (intro s4; refine Moves.cut (P := Moves 67109360 x0 s4) ?_ ?_; rotate_left; intro h4; clear_value s4)
  (intro s5; refine Moves.cut (P := Moves 67109360 x0 s5) ?_ ?_; rotate_left; intro h5; clear_value s5)
  (intro s6; refine Moves.cut (P := Moves 67109360 x0 s6) ?_ ?_; rotate_left; intro h6; clear_value s6)
  with_reducible refine Moves.step ?_ (endLease_mv _ _) rfl
  assumption
  subst s3
  with_reducible refine Moves.step ?_ (raiseJ_mv _ _ _ _ _ _) rfl
  with_reducible exact Moves.refl _ _
  subst s4
  with_reducible refine Moves.step ?_ (updEntry_mv _ _ _ _ _ _ _) rfl
  assumption
  subst s5
  with_reducible refine Moves.step ?_ (revert_mv _ _) rfl
  assumption
  subst s6
  with_reducible refine Moves.step ?_ (updEvent_mv _ _ _ _ _ _) rfl
  with_reducible refine Moves.step ?_ (updEntry_mv _ _ _ _ _ _ _) rfl
  assumption

theorem activate_mv (x0 : State) (x1 : Nat) (x2 : Nat) (x3 : Option (Nat × Nat)) (x4 : Bool) : Moves 212278768 x0 (activate x0 x1 x2 x3 x4).2 := by
  unfold activate
  lift_lets
  (intro c1; clear_value c1)
  (intro s2; refine Moves.cut (P := Moves 212278768 x0 s2) ?_ ?_; rotate_left; intro h2; clear_value s2)
  (intro c3; clear_value c3)
  with_reducible refine Moves.ite2 ?_ ?_
  with_reducible exact Moves.refl _ _
  with_reducible refine Moves.ite2 ?_ ?_
  dsimp -zeta only
  with_reducible refine Moves.step ?_ (keeperStop_mv _ _) rfl
  with_reducible exact Moves.mk' (m := 212278768) (by assumption) (.inl rfl) (.inl rfl) (.inl rfl) (.inl rfl) (.inl rfl) (.inr rfl) (.inl rfl) (.inl rfl) (.inl rfl) (by rfl) (by rfl) (.inr rfl) (.inr rfl) (.inr rfl) (.inl rfl) (.inl rfl) (.inl rfl) (.inr rfl) (.inr rfl) (.inl rfl) (.inr rfl) (.inl rfl) (.inr rfl) (.inr rfl) (.inl rfl) (.inl rfl) (.inr rfl)
  with_reducible refine Moves.ite2 ?_ ?_
  dsimp -zeta only
  with_reducible refine Moves.step ?_ (activated_mv _ _ _) rfl
  assumption
  dsimp -zeta only
  with_reducible refine Moves.step ?_ (activationFails_mv _ _ _) rfl
  assumption
  subst s2
  with_reducible refine Moves.step ?_ (swapSlot_mv _ _) rfl
  with_reducible exact Moves.refl _ _

theorem fwEnd_mv (x0 : State) (x1 : Fin 64) (x2 : Nat) (x3 : Nat) (x4 : Nat) : Moves 134217728 x0 (fwEnd x0 x1 x2 x3 x4) := by
  unfold fwEnd
  with_reducible refine Moves.ite ?_ ?_
  with_reducible refine Moves.step ?_ (wxEnd_mv _ _ _ _ _ _) rfl
  with_reducible exact Moves.refl _ _
  with_reducible refine Moves.ite ?_ ?_
  with_reducible refine Moves.step ?_ (wxEnd_mv _ _ _ _ _ _) rfl
  with_reducible exact Moves.refl _ _
  with_reducible refine Moves.step ?_ (wxEnd_mv _ _ _ _ _ _) rfl
  with_reducible exact Moves.refl _ _

theorem execFwActivate_mv (x0 : Fin 64) (x1 : Nat) (x2 : Bool) (x3 : State) : MovesO 480714224 x3 (execFwActivate x0 x1 x2 x3) := by
  unfold execFwActivate
  split
  with_reducible refine MovesO.next ?_
  with_reducible exact Moves.refl _ _
  lift_lets
  (intro c4; clear_value c4)
  with_reducible refine MovesO.whenDo ?_ ?_
  with_reducible exact Moves.refl _ _
  split
  with_reducible refine Moves.step ?_ (fwEnd_mv _ _ _ _ _) rfl
  with_reducible refine Moves.step ?_ (Moves.snd (by assumption) (activate_mv _ _ _ _ _)) rfl
  with_reducible exact Moves.refl _ _
  with_reducible refine Moves.step ?_ (wxMod_mv _ _ _ _) rfl
  with_reducible refine Moves.step ?_ (Moves.snd (by assumption) (activate_mv _ _ _ _ _)) rfl
  with_reducible exact Moves.refl _ _

theorem rbAdvance_mv (x0 : State) (x1 : Nat) (x2 : Bool) : Moves 33554928 x0 (rbAdvance x0 x1 x2) := by
  unfold rbAdvance
  lift_lets
  (intro c1; clear_value c1)
  with_reducible refine Moves.ite ?_ ?_
  with_reducible exact Moves.refl _ _
  with_reducible refine Moves.ite ?_ ?_
  with_reducible refine Moves.step ?_ (fuseNoPulse_mv _ _) rfl
  with_reducible exact Moves.refl _ _
  (with_reducible refine Moves.foldl _ _ ?_ ?_; rotate_left; intro _ _ _; dsimp -zeta only)
  lift_lets
  (intro c9; clear_value c9)
  (intro s10; refine Moves.cut (P := Moves 33554928 x0 s10) ?_ ?_; rotate_left; intro h10; clear_value s10)
  (intro c11; clear_value c11)
  dsimp -zeta only
  lift_lets
  (intro c14; clear_value c14)
  (intro c15; clear_value c15)
  (intro c16; clear_value c16)
  (intro c17; clear_value c17)
  (intro c18; clear_value c18)
  (intro s19; refine Moves.cut (P := Moves 33554928 x0 s19) ?_ ?_; rotate_left; intro h19; clear_value s19)
  with_reducible refine Moves.ite ?_ ?_
  assumption
  with_reducible refine Moves.step ?_ (fuseProg_mv _ _ _ _ _) rfl
  assumption
  with_reducible exact Moves.refl _ _
  subst s10
  with_reducible refine Moves.step ?_ (State.useFree_mv _) rfl
  assumption
  subst s19
  with_reducible exact Moves.mk' (m := 33554928) (by assumption) (.inl rfl) (.inl rfl) (.inl rfl) (.inl rfl) (.inl rfl) (.inr rfl) (.inr rfl) (.inr rfl) (.inr rfl) rfl rfl (.inr rfl) (.inr rfl) (.inr rfl) (.inr rfl) (.inr rfl) (.inr rfl) (.inr rfl) (.inr rfl) (.inr rfl) (.inr rfl) (.inr rfl) (.inr rfl) (.inl rfl) (.inr rfl) (.inr rfl) (.inr rfl)

theorem rbTry_mv (x0 : State) (x1 : Bool) : Moves 100663792 x0 (rbTry x0 x1) := by
  unfold rbTry
  lift_lets
  (intro s1; refine Moves.cut (P := Moves 100663792 x0 s1) ?_ ?_; rotate_left; intro h1; clear_value s1)
  (intro c2; clear_value c2)
  (intro c3; clear_value c3)
  with_reducible exact Moves.mk' (m := 100663792) (by assumption) (.inl rfl) (.inl rfl) (.inl rfl) (.inl rfl) (.inl rfl) (.inr rfl) (.inr rfl) (.inr rfl) (.inr rfl) rfl rfl (.inr rfl) (.inr rfl) (.inr rfl) (.inr rfl) (.inr rfl) (.inr rfl) (.inr rfl) (.inr rfl) (.inr rfl) (.inr rfl) (.inr rfl) (.inr rfl) (.inl rfl) (.inl rfl) (.inr rfl) (.inr rfl)
  subst s1
  with_reducible refine Moves.ite ?_ ?_
  (with_reducible refine Moves.foldl _ _ ?_ ?_; rotate_left; intro _ _ _)
  with_reducible refine Moves.step ?_ (rbAdvance_mv _ _ _) rfl
  assumption
  with_reducible exact Moves.refl _ _
  with_reducible exact Moves.refl _ _

theorem commit_mv (x0 : State) : Moves 100663792 x0 (commit x0) := by
  unfold commit
  lift_lets
  (intro c1; clear_value c1)
  (intro c2; clear_value c2)
  (intro c3; clear_value c3)
  (intro s4; refine Moves.cut (P := Moves 100663792 x0 s4) ?_ ?_; rotate_left; intro h4; clear_value s4)
  (intro s5; refine Moves.cut (P := Moves 100663792 x0 s5) ?_ ?_; rotate_left; intro h5; clear_value s5)
  (intro c6; clear_value c6)
  (intro s7; refine Moves.cut (P := Moves 100663792 x0 s7) ?_ ?_; rotate_left; intro h7; clear_value s7)
  (intro s8; refine Moves.cut (P := Moves 100663792 x0 s8) ?_ ?_; rotate_left; intro h8; clear_value s8)
  (intro s9; refine Moves.cut (P := Moves 100663792 x0 s9) ?_ ?_; rotate_left; intro h9; clear_value s9)
  with_reducible refine Moves.step ?_ (endLease_mv _ _) rfl
  assumption
  subst s4
  (with_reducible refine Moves.foldl _ _ ?_ ?_; rotate_left; intro _ _ _)
  lift_lets
  (intro c15; clear_value c15)
  (intro s16; refine Moves.cut (P := Moves 100663792 x0 s16) ?_ ?_; rotate_left; intro h16; clear_value s16)
  (intro c17; clear_value c17)
  with_reducible refine Moves.ite ?_ ?_
  with_reducible exact Moves.mk' (m := 100663792) (by assumption) (.inl rfl) (.inl rfl) (.inl rfl) (.inl rfl) (.inl rfl) (.inr rfl) (.inr rfl) (.inr rfl) (.inr rfl) rfl rfl (.inr rfl) (.inr rfl) (.inr rfl) (.inr rfl) (.inr rfl) (.inr rfl) (.inr rfl) (.inr rfl) (.inr rfl) (.inr rfl) (.inr rfl) (.inr rfl) (.inl rfl) (.inl rfl) (.inr rfl) (.inr rfl)
  assumption
  subst s5
  with_reducible refine Moves.step ?_ (rbTry_mv _ _) rfl
  with_reducible refine Moves.step ?_ (State.useFree_mv _) rfl
  assumption
  subst s7
  split
  with_reducible exact Moves.mk' (m := 100663792) (by assumption) (.inl rfl) (.inl rfl) (.inl rfl) (.inl rfl) (.inl rfl) (.inr rfl) (.inr rfl) (.inr rfl) (.inr rfl) rfl rfl (.inr rfl) (.inr rfl) (.inr rfl) (.inr rfl) (.inr rfl) (.inr rfl) (.inr rfl) (.inr rfl) (.inr rfl) (.inr rfl) (.inr rfl) (.inr rfl) (.inl rfl) (.inl rfl) (.inr rfl) (.inr rfl)
  assumption
  subst s8
  with_reducible refine Moves.step ?_ (updEntry_mv _ _ _ _ _ _ _) rfl
  assumption
  subst s9
  with_reducible refine Moves.step ?_ (updEvent_mv _ _ _ _ _ _) rfl
  assumption
  with_reducible exact Moves.refl _ _
  subst s16
  with_reducible refine Moves.step ?_ (slotSet_mv _ _ _ _) rfl
  assumption

theorem commitReq_mv (x0 : State) (x1 : Nat) : Moves 100663792 x0 (commitReq x0 x1).2.2 := by
  unfold commitReq
  with_reducible refine Moves.ite3 ?_ ?_
  with_reducible exact Moves.refl _ _
  with_reducible refine Moves.ite3 ?_ ?_
  with_reducible exact Moves.refl _ _
  with_reducible refine Moves.ite3 ?_ ?_
  with_reducible exact Moves.refl _ _
  lift_lets
  (intro s7; refine Moves.cut (P := Moves 100663792 x0 s7) ?_ ?_; rotate_left; intro h7; clear_value s7)
  with_reducible assumption
  subst s7
  with_reducible refine Moves.step ?_ (commit_mv _) rfl
  with_reducible exact Moves.refl _ _

theorem execFwCommit_mv (x0 : Fin 64) (x1 : Nat) (x2 : State) : MovesO 234881520 x2 (execFwCommit x0 x1 x2) := by
  unfold execFwCommit
  (with_reducible refine wxRun_mv _ _ _ _ _ ?_; intro d)
  split
  with_reducible refine Moves.step ?_ (fwEnd_mv _ _ _ _ _) rfl
  with_reducible refine Moves.step ?_ (Moves.thd (by assumption) (commitReq_mv _ _)) rfl
  with_reducible exact Moves.refl _ _

theorem cleanBoot_mv (x0 : State) : Moves 100663792 x0 (cleanBoot x0) := by
  unfold cleanBoot
  lift_lets
  (intro c1; clear_value c1)
  (intro s2; refine Moves.cut (P := Moves 100663792 x0 s2) ?_ ?_; rotate_left; intro h2; clear_value s2)
  (intro c3; clear_value c3)
  (intro s4; refine Moves.cut (P := Moves 100663792 x0 s4) ?_ ?_; rotate_left; intro h4; clear_value s4)
  with_reducible refine Moves.ite ?_ ?_
  assumption
  with_reducible refine Moves.ite ?_ ?_
  with_reducible refine Moves.step ?_ (commit_mv _) rfl
  assumption
  with_reducible refine Moves.step ?_ (bootWrite_mv _) rfl
  assumption
  subst s2
  with_reducible refine Moves.step ?_ (State.atLeast_mv _ _) rfl
  with_reducible exact Moves.refl _ _
  subst s4
  with_reducible exact Moves.mk' (m := 100663792) (by assumption) (.inl rfl) (.inl rfl) (.inl rfl) (.inl rfl) (.inl rfl) (.inr rfl) (.inr rfl) (.inr rfl) (.inr rfl) rfl rfl (.inr rfl) (.inr rfl) (.inr rfl) (.inr rfl) (.inr rfl) (.inr rfl) (.inr rfl) (.inr rfl) (.inr rfl) (.inr rfl) (.inr rfl) (.inr rfl) (.inl rfl) (.inl rfl) (.inr rfl) (.inr rfl)

theorem execCleanBoot_mv (x0 : State) : MovesO 100663792 x0 (execCleanBoot x0) := by
  unfold execCleanBoot
  with_reducible refine MovesO.whenDo ?_ ?_
  with_reducible exact Moves.refl _ _
  with_reducible refine Moves.step ?_ (cleanBoot_mv _) rfl
  with_reducible exact Moves.refl _ _

theorem execLeaseTimeout_mv (x0 : State) : MovesO 67109360 x0 (execLeaseTimeout x0) := by
  unfold execLeaseTimeout
  with_reducible refine MovesO.whenDo ?_ ?_
  with_reducible exact Moves.refl _ _
  with_reducible refine Moves.step ?_ (endLease_mv _ _) rfl
  with_reducible refine Moves.step ?_ (State.atLeast_mv _ _) rfl
  with_reducible exact Moves.refl _ _

theorem releaseLease_mv (x0 : State) (x1 : Path) : Moves 67109360 x0 (releaseLease x0 x1) := by
  unfold releaseLease
  lift_lets
  (intro c1; clear_value c1)
  with_reducible refine Moves.ite ?_ ?_
  with_reducible refine Moves.step ?_ (endLease_mv _ _) rfl
  with_reducible exact Moves.refl _ _
  with_reducible exact Moves.refl _ _

theorem execRollbackFuseRetry_mv (x0 : Bool) (x1 : State) : MovesO 100663792 x1 (execRollbackFuseRetry x0 x1) := by
  unfold execRollbackFuseRetry
  lift_lets
  (intro s1; refine Moves.cut (P := Moves 100663792 x1 s1) ?_ ?_; rotate_left; intro h1; clear_value s1)
  with_reducible refine MovesO.whenDo ?_ ?_
  with_reducible exact Moves.refl _ _
  with_reducible refine Moves.step ?_ (rbTry_mv _ _) rfl
  assumption
  subst s1
  with_reducible refine Moves.ite ?_ ?_
  with_reducible exact Moves.refl _ _
  with_reducible refine Moves.step ?_ (State.atLeast_mv _ _) rfl
  with_reducible exact Moves.refl _ _

theorem setMResult_mv (x0 : State) (x1 : Nat) : Moves 67108864 x0 (setMResult x0 x1) := by
  unfold setMResult
  with_reducible exact Moves.mk' (m := 67108864) (Moves.refl _ _) (.inr rfl) (.inr rfl) (.inr rfl) (.inr rfl) (.inr rfl) (.inr rfl) (.inr rfl) (.inr rfl) (.inr rfl) rfl rfl (.inr rfl) (.inr rfl) (.inr rfl) (.inr rfl) (.inr rfl) (.inr rfl) (.inr rfl) (.inr rfl) (.inr rfl) (.inr rfl) (.inr rfl) (.inr rfl) (.inr rfl) (.inl rfl) (.inr rfl) (.inr rfl)

theorem runMcmd_mv (x0 : State) (x1 : Nat) (x2 : Bool) : Moves 245833200 x0 (runMcmd x0 x1 x2) := by
  unfold runMcmd
  lift_lets
  (intro c1; clear_value c1)
  (intro c2; clear_value c2)
  with_reducible refine Moves.ite ?_ ?_
  split
  lift_lets
  (intro c6; clear_value c6)
  with_reducible refine Moves.step ?_ (setMResult_mv _ _) rfl
  with_reducible refine Moves.mk' (m := 245833200) ?_ (.inl rfl) (.inl rfl) (.inl rfl) (.inl rfl) (.inl rfl) (.inr rfl) (.inl rfl) (.inl rfl) (.inl rfl) (by rfl) (by rfl) (.inr rfl) (.inr rfl) (.inr rfl) (.inl rfl) (.inl rfl) (.inl rfl) (.inr rfl) (.inr rfl) (.inl rfl) (.inr rfl) (.inl rfl) (.inr rfl) (.inl rfl) (.inl rfl) (.inl rfl) (.inr rfl)
  with_reducible refine Moves.step ?_ (Moves.snd (by assumption) (stageStep_mv _ _ _ _ _)) rfl
  with_reducible exact Moves.refl _ _
  with_reducible refine Moves.ite ?_ ?_
  split
  with_reducible refine Moves.step ?_ (setMResult_mv _ _) rfl
  with_reducible refine Moves.step ?_ (Moves.snd (by assumption) (activate_mv _ _ _ _ _)) rfl
  with_reducible exact Moves.refl _ _
  with_reducible refine Moves.step ?_ (Moves.snd (by assumption) (activate_mv _ _ _ _ _)) rfl
  with_reducible exact Moves.refl _ _
  with_reducible refine Moves.ite ?_ ?_
  split
  with_reducible refine Moves.step ?_ (setMResult_mv _ _) rfl
  with_reducible refine Moves.step ?_ (Moves.thd (by assumption) (commitReq_mv _ _)) rfl
  with_reducible exact Moves.refl _ _
  with_reducible refine Moves.step ?_ (setMResult_mv _ _) rfl
  with_reducible exact Moves.refl _ _

theorem runWaiting_mv (x0 : State) : Moves 245833200 x0 (runWaiting x0) := by
  unfold runWaiting
  split
  with_reducible exact Moves.refl _ _
  with_reducible refine Moves.ite ?_ ?_
  with_reducible exact Moves.refl _ _
  with_reducible refine Moves.step ?_ (runMcmd_mv _ _ _) rfl
  with_reducible exact Moves.mk' (m := 245833200) (Moves.refl _ _) (.inl rfl) (.inl rfl) (.inl rfl) (.inl rfl) (.inl rfl) (.inr rfl) (.inl rfl) (.inl rfl) (.inl rfl) (by rfl) (by rfl) (.inr rfl) (.inr rfl) (.inr rfl) (.inl rfl) (.inl rfl) (.inl rfl) (.inr rfl) (.inr rfl) (.inl rfl) (.inr rfl) (.inl rfl) (.inr rfl) (.inl rfl) (.inl rfl) (.inl rfl) (.inr rfl)

theorem execPcRetrainDone_mv (x0 : Pc) (x1 : Bool) (x2 : State) : MovesO 245849584 x2 (execPcRetrainDone x0 x1 x2) := by
  unfold execPcRetrainDone
  with_reducible refine MovesO.whenDo ?_ ?_
  with_reducible exact Moves.refl _ _
  with_reducible refine Moves.step ?_ (runWaiting_mv _) rfl
  with_reducible refine Moves.step ?_ (retrainDone_mv _ _ _) rfl
  with_reducible exact Moves.refl _ _

theorem writeMcmd_mv (x0 : State) (x1 : Nat) (x2 : Bool) : Moves 245833200 x0 (writeMcmd x0 x1 x2) := by
  unfold writeMcmd
  with_reducible refine Moves.ite ?_ ?_
  with_reducible refine Moves.step ?_ (setMResult_mv _ _) rfl
  with_reducible exact Moves.refl _ _
  with_reducible refine Moves.ite ?_ ?_
  with_reducible exact Moves.mk' (m := 245833200) (Moves.refl _ _) (.inl rfl) (.inl rfl) (.inl rfl) (.inl rfl) (.inl rfl) (.inr rfl) (.inl rfl) (.inl rfl) (.inl rfl) (by rfl) (by rfl) (.inr rfl) (.inr rfl) (.inr rfl) (.inl rfl) (.inl rfl) (.inl rfl) (.inr rfl) (.inr rfl) (.inl rfl) (.inr rfl) (.inl rfl) (.inr rfl) (.inl rfl) (.inl rfl) (.inl rfl) (.inr rfl)
  with_reducible refine Moves.step ?_ (runMcmd_mv _ _ _) rfl
  with_reducible exact Moves.refl _ _

theorem storeSettings_mv (x0 : State) : Moves 67108864 x0 (storeSettings x0) := by
  unfold storeSettings
  lift_lets
  intro c1
  (intro c2; clear_value c2)
  (intro c3; clear_value c3)
  (intro c4; clear_value c4)
  with_reducible exact Moves.mk' (m := 67108864) (Moves.refl _ _) (.inr rfl) (.inr rfl) (.inr rfl) (.inr rfl) (.inr rfl) (.inr rfl) (.inr rfl) (.inr rfl) (.inr rfl) rfl rfl (.inr rfl) (.inr rfl) (.inr rfl) (.inr rfl) (.inr rfl) (.inr rfl) (.inr rfl) (.inr rfl) (.inr rfl) (.inr rfl) (.inr rfl) (.inr rfl) (.inr rfl) (.inl rfl) (.inr rfl) (.inr rfl)

theorem execSettingsStore_mv (x0 : State) : MovesO 67108864 x0 (execSettingsStore x0) := by
  unfold execSettingsStore
  with_reducible refine MovesO.whenDo ?_ ?_
  with_reducible exact Moves.refl _ _
  with_reducible refine Moves.step ?_ (storeSettings_mv _) rfl
  with_reducible exact Moves.refl _ _

theorem convertSettings_mv (x0 : State) : Moves 67109360 x0 (convertSettings x0) := by
  unfold convertSettings
  split
  with_reducible exact Moves.refl _ _
  lift_lets
  (intro c3; clear_value c3)
  (intro c4; clear_value c4)
  (intro c5; clear_value c5)
  (intro c6; clear_value c6)
  (intro c7; clear_value c7)
  (intro s8; refine Moves.cut (P := Moves 67109360 x0 s8) ?_ ?_; rotate_left; intro h8)
  (intro c9; clear_value c9)
  (intro s10; refine Moves.cut (P := Moves 67109360 x0 s10) ?_ ?_; rotate_left; intro h10; clear_value s10)
  (intro s11; refine Moves.cut (P := Moves 67109360 x0 s11) ?_ ?_; rotate_left; intro h11; clear_value s11)
  with_reducible refine Moves.ite ?_ ?_
  assumption
  with_reducible refine Moves.step ?_ (updEvent_mv _ _ _ _ _ _) rfl
  assumption
  subst s8
  with_reducible refine Moves.step ?_ (bootWrite_mv _) rfl
  with_reducible exact Moves.refl _ _
  subst s10
  with_reducible exact Moves.mk' (m := 67109360) (by assumption) (.inl rfl) (.inl rfl) (.inl rfl) (.inl rfl) (.inl rfl) (.inr rfl) (.inr rfl) (.inr rfl) (.inr rfl) rfl rfl (.inr rfl) (.inr rfl) (.inr rfl) (.inr rfl) (.inr rfl) (.inr rfl) (.inr rfl) (.inr rfl) (.inr rfl) (.inr rfl) (.inr rfl) (.inr rfl) (.inr rfl) (.inl rfl) (.inr rfl) (.inr rfl)
  subst s11
  with_reducible refine Moves.step ?_ (updEntry_mv _ _ _ _ _ _ _) rfl
  assumption

theorem bootCheck_mv (x0 : State) (x1 : Nat) : Moves 67109360 x0 (bootCheck x0 x1).2 := by
  unfold bootCheck
  lift_lets
  (intro c1; clear_value c1)
  (intro s2; refine Moves.cut (P := Moves 67109360 x0 s2) ?_ ?_; rotate_left; intro h2; clear_value s2)
  (intro c3; clear_value c3)
  (intro s4; refine Moves.cut (P := Moves 67109360 x0 s4) ?_ ?_; rotate_left; intro h4; clear_value s4)
  with_reducible refine Moves.ite2 ?_ ?_
  with_reducible exact Moves.refl _ _
  with_reducible refine Moves.ite2 ?_ ?_
  dsimp -zeta only
  with_reducible refine Moves.step ?_ (updEvent_mv _ _ _ _ _ _) rfl
  with_reducible refine Moves.step ?_ (updEntry_mv _ _ _ _ _ _ _) rfl
  assumption
  with_reducible exact Moves.refl _ _
  subst s2
  with_reducible refine Moves.step ?_ (setActive_mv _ _ _) rfl
  with_reducible refine Moves.step ?_ (bootWrite_mv _) rfl
  with_reducible exact Moves.refl _ _
  subst s4
  with_reducible refine Moves.step ?_ (slotSet_mv _ _ _ _) rfl
  assumption

theorem keeperOther_mv (x0 : State) : Moves 67109360 x0 (keeperOther x0).2 := by
  unfold keeperOther
  lift_lets
  (intro c1; clear_value c1)
  (intro s2; refine Moves.cut (P := Moves 67109360 x0 s2) ?_ ?_; rotate_left; intro h2; clear_value s2)
  (intro c3; clear_value c3)
  with_reducible refine Moves.step ?_ (bootCheck_mv _ _) rfl
  with_reducible refine Moves.step ?_ (slotSet_mv _ _ _ _) rfl
  assumption
  subst s2
  with_reducible refine Moves.step ?_ (raiseJ_mv _ _ _ _ _ _) rfl
  with_reducible exact Moves.refl _ _

theorem keeperBack_mv (x0 : State) (x1 : Nat) (x2 : Nat) : Moves 536870896 x0 (keeperBack x0 x1 x2) := by
  unfold keeperBack
  lift_lets
  (intro c1; clear_value c1)
  (intro c2; clear_value c2)
  (intro s3; refine Moves.cut (P := Moves 536870896 x0 s3) ?_ ?_; rotate_left; intro h3; clear_value s3)
  (intro s4; refine Moves.cut (P := Moves 536870896 x0 s4) ?_ ?_; rotate_left; intro h4; clear_value s4)
  (intro c5; clear_value c5)
  (intro s6; refine Moves.cut (P := Moves 536870896 x0 s6) ?_ ?_; rotate_left; intro h6; clear_value s6)
  (intro s7; refine Moves.cut (P := Moves 536870896 x0 s7) ?_ ?_; rotate_left; intro h7; clear_value s7)
  with_reducible refine Moves.step ?_ (runWaiting_mv _) rfl
  with_reducible refine Moves.step ?_ (winWaiting_mv _) rfl
  assumption
  subst s3
  with_reducible exact Moves.mk' (m := 536870896) (Moves.refl _ _) (.inl rfl) (.inl rfl) (.inl rfl) (.inl rfl) (.inl rfl) (.inl rfl) (.inl rfl) (.inl rfl) (.inl rfl) (by rfl) (by rfl) (.inl rfl) (.inl rfl) (.inl rfl) (.inl rfl) (.inl rfl) (.inl rfl) (.inl rfl) (.inl rfl) (.inl rfl) (.inl rfl) (.inl rfl) (.inl rfl) (.inl rfl) (.inl rfl) (.inl rfl) (.inl rfl)
  subst s4
  with_reducible refine Moves.step ?_ (raiseJ_mv _ _ _ _ _ _) rfl
  assumption
  subst s6
  with_reducible exact Moves.mk' (m := 536870896) (by assumption) (.inl rfl) (.inl rfl) (.inl rfl) (.inl rfl) (.inl rfl) (.inl rfl) (.inl rfl) (.inl rfl) (.inl rfl) (by rfl) (by rfl) (.inl rfl) (.inl rfl) (.inl rfl) (.inl rfl) (.inl rfl) (.inl rfl) (.inl rfl) (.inl rfl) (.inl rfl) (.inl rfl) (.inl rfl) (.inl rfl) (.inl rfl) (.inl rfl) (.inl rfl) (.inl rfl)
  subst s7
  split
  assumption
  lift_lets
  (intro s22; refine Moves.cut (P := Moves 536870896 x0 s22) ?_ ?_; rotate_left; intro h22; clear_value s22)
  (intro c23; clear_value c23)
  split
  with_reducible refine Moves.step ?_ (fwEnd_mv _ _ _ _ _) rfl
  assumption
  with_reducible refine Moves.step ?_ (setMResult_mv _ _) rfl
  assumption
  subst s22
  with_reducible refine Moves.ite ?_ ?_
  assumption
  with_reducible refine Moves.step ?_ (convertSettings_mv _) rfl
  with_reducible refine Moves.step ?_ (activated_mv _ _ _) rfl
  assumption

theorem restartDone_mv (x0 : State) (x1 : Nat) (x2 : Bool) (x3 : Nat) : Moves 536870896 x0 (restartDone x0 x1 x2 x3) := by
  unfold restartDone
  split
  with_reducible refine Moves.ite ?_ ?_
  with_reducible refine Moves.step ?_ (keeperBack_mv _ _ _) rfl
  with_reducible exact Moves.refl _ _
  with_reducible refine Moves.step ?_ (activationFails_mv _ _ _) rfl
  with_reducible exact Moves.mk' (m := 536870896) (Moves.refl _ _) (.inl rfl) (.inl rfl) (.inl rfl) (.inl rfl) (.inl rfl) (.inl rfl) (.inl rfl) (.inl rfl) (.inl rfl) (by rfl) (by rfl) (.inl rfl) (.inl rfl) (.inl rfl) (.inl rfl) (.inl rfl) (.inl rfl) (.inl rfl) (.inl rfl) (.inl rfl) (.inl rfl) (.inl rfl) (.inl rfl) (.inl rfl) (.inl rfl) (.inl rfl) (.inl rfl)
  with_reducible refine Moves.ite ?_ ?_
  with_reducible refine Moves.step ?_ (keeperBack_mv _ _ _) rfl
  with_reducible exact Moves.refl _ _
  with_reducible refine Moves.step ?_ (keeperOther_mv _) rfl
  with_reducible exact Moves.refl _ _

theorem execKeeperRestartDone_mv (x0 : Bool) (x1 : Nat) (x2 : State) : MovesO 536870896 x2 (execKeeperRestartDone x0 x1 x2) := by
  unfold execKeeperRestartDone
  split
  with_reducible refine MovesO.next ?_
  with_reducible refine Moves.step ?_ (restartDone_mv _ _ _ _) rfl
  with_reducible exact Moves.refl _ _
  with_reducible refine MovesO.next ?_
  with_reducible exact Moves.refl _ _

theorem writeKeeperReset_mv (x0 : State) (x1 : Nat) : Moves 203890160 x0 (writeKeeperReset x0 x1) := by
  unfold writeKeeperReset
  with_reducible refine Moves.ite ?_ ?_
  with_reducible refine Moves.step ?_ (keeperStop_mv _ _) rfl
  with_reducible exact Moves.refl _ _
  with_reducible exact Moves.refl _ _

end Sys2Proof.Machine
end

