-- ==== Sys2Proof/Laws/FramePower.lean ====
section
/-! SUPPORT. What each operation of Machine/Power.lean may change, one lemma an operation (`<name>_mv`): the components its
mask names, and nothing else of the state. -/

namespace Sys2Proof.Machine

theorem settleResidency_mv (x0 : State) : Moves 1048592 x0 (settleResidency x0) := by
  unfold settleResidency
  split
  with_reducible exact Moves.refl _ _
  lift_lets
  intro c3
  (intro c4; clear_value c4)
  (intro c5; clear_value c5)
  (intro s6; refine Moves.cut (P := Moves 1048592 x0 s6) ?_ ?_; rotate_left; intro h6; clear_value s6)
  with_reducible refine Moves.ite ?_ ?_
  assumption
  with_reducible refine Moves.step ?_ (bump_mv _ _ _) rfl
  assumption
  subst s6
  with_reducible exact Moves.mk' (m := 1048592) (Moves.refl _ _) (.inl rfl) (.inr rfl) (.inr rfl) (.inr rfl) (.inr rfl) (.inr rfl) (.inr rfl) (.inr rfl) (.inr rfl) rfl rfl (.inr rfl) (.inr rfl) (.inr rfl) (.inr rfl) (.inr rfl) (.inr rfl) (.inr rfl) (.inl rfl) (.inr rfl) (.inr rfl) (.inr rfl) (.inr rfl) (.inr rfl) (.inr rfl) (.inr rfl) (.inr rfl)

theorem lowEntry_mv (x0 : State) (x1 : List Nat) : Moves 1048592 x0 (lowEntry x0 x1) := by
  unfold lowEntry
  lift_lets
  (intro c1; clear_value c1)
  (intro c2; clear_value c2)
  (intro c3; clear_value c3)
  (intro s4; refine Moves.cut (P := Moves 1048592 x0 s4) ?_ ?_; rotate_left; intro h4; clear_value s4)
  (intro c5; clear_value c5)
  (intro s6; refine Moves.cut (P := Moves 1048592 x0 s6) ?_ ?_; rotate_left; intro h6; clear_value s6)
  (intro c7; clear_value c7)
  with_reducible refine Moves.ite ?_ ?_
  with_reducible exact Moves.mk' (m := 1048592) (by assumption) (.inl rfl) (.inr rfl) (.inr rfl) (.inr rfl) (.inr rfl) (.inr rfl) (.inr rfl) (.inr rfl) (.inr rfl) rfl rfl (.inr rfl) (.inr rfl) (.inr rfl) (.inr rfl) (.inr rfl) (.inr rfl) (.inr rfl) (.inl rfl) (.inr rfl) (.inr rfl) (.inr rfl) (.inr rfl) (.inr rfl) (.inr rfl) (.inr rfl) (.inr rfl)
  with_reducible exact Moves.mk' (m := 1048592) (by assumption) (.inl rfl) (.inr rfl) (.inr rfl) (.inr rfl) (.inr rfl) (.inr rfl) (.inr rfl) (.inr rfl) (.inr rfl) rfl rfl (.inr rfl) (.inr rfl) (.inr rfl) (.inr rfl) (.inr rfl) (.inr rfl) (.inr rfl) (.inl rfl) (.inr rfl) (.inr rfl) (.inr rfl) (.inr rfl) (.inr rfl) (.inr rfl) (.inr rfl) (.inr rfl)
  subst s4
  with_reducible refine Moves.step ?_ (State.atLeast_mv _ _) rfl
  with_reducible exact Moves.refl _ _
  subst s6
  with_reducible exact Moves.mk' (m := 1048592) (by assumption) (.inl rfl) (.inr rfl) (.inr rfl) (.inr rfl) (.inr rfl) (.inr rfl) (.inr rfl) (.inr rfl) (.inr rfl) rfl rfl (.inr rfl) (.inr rfl) (.inr rfl) (.inr rfl) (.inr rfl) (.inr rfl) (.inr rfl) (.inl rfl) (.inr rfl) (.inr rfl) (.inr rfl) (.inr rfl) (.inr rfl) (.inr rfl) (.inr rfl) (.inr rfl)

theorem execLowPowerEntry_mv (x0 : State) : MovesO 1048592 x0 (execLowPowerEntry x0) := by
  unfold execLowPowerEntry
  lift_lets
  (intro c1; clear_value c1)
  with_reducible refine MovesO.whenDo ?_ ?_
  with_reducible exact Moves.refl _ _
  with_reducible refine Moves.step ?_ (lowEntry_mv _ _) rfl
  with_reducible exact Moves.refl _ _

theorem lowEntered_mv (x0 : State) (x1 : Nat) : Moves 1103888 x0 (lowEntered x0 x1) := by
  unfold lowEntered
  lift_lets
  (intro s1; refine Moves.cut (P := Moves 1103888 x0 s1) ?_ ?_; rotate_left; intro h1; clear_value s1)
  (intro c2; clear_value c2)
  with_reducible exact Moves.mk' (m := 1103888) (by assumption) (.inl rfl) (.inr rfl) (.inr rfl) (.inr rfl) (.inr rfl) (.inr rfl) (.inr rfl) (.inl rfl) (.inl rfl) (by rfl) (by rfl) (.inr rfl) (.inl rfl) (.inl rfl) (.inr rfl) (.inr rfl) (.inr rfl) (.inr rfl) (.inl rfl) (.inr rfl) (.inr rfl) (.inr rfl) (.inr rfl) (.inr rfl) (.inr rfl) (.inr rfl) (.inr rfl)
  subst s1
  with_reducible refine Moves.step ?_ (settleResidency_mv _) rfl
  with_reducible refine Moves.step ?_ (selfRefreshAll_mv _) rfl
  with_reducible refine Moves.step ?_ (flushLagoon_mv _) rfl
  with_reducible exact Moves.refl _ _

theorem execLowPowerEntryDone_mv (x0 : State) : MovesO 1103888 x0 (execLowPowerEntryDone x0) := by
  unfold execLowPowerEntryDone
  split
  with_reducible refine MovesO.next ?_
  with_reducible exact Moves.refl _ _
  with_reducible refine MovesO.whenDo ?_ ?_
  with_reducible exact Moves.refl _ _
  with_reducible refine Moves.step ?_ (lowEntered_mv _ _) rfl
  with_reducible exact Moves.refl _ _

theorem wake_mv (x0 : State) (x1 : Nat) : Moves 1048576 x0 (wake x0 x1) := by
  unfold wake
  with_reducible exact Moves.mk' (m := 1048576) (Moves.refl _ _) (.inr rfl) (.inr rfl) (.inr rfl) (.inr rfl) (.inr rfl) (.inr rfl) (.inr rfl) (.inr rfl) (.inr rfl) rfl rfl (.inr rfl) (.inr rfl) (.inr rfl) (.inr rfl) (.inr rfl) (.inr rfl) (.inr rfl) (.inl rfl) (.inr rfl) (.inr rfl) (.inr rfl) (.inr rfl) (.inr rfl) (.inr rfl) (.inr rfl) (.inr rfl)

theorem execWake_mv (x0 : Fin 7) (x1 : State) : MovesO 1048576 x1 (execWake x0 x1) := by
  unfold execWake
  with_reducible refine MovesO.whenDo ?_ ?_
  with_reducible exact Moves.refl _ _
  with_reducible refine Moves.step ?_ (wake_mv _ _) rfl
  with_reducible exact Moves.refl _ _

theorem wakeDone_mv (x0 : State) : Moves 1067504 x0 (wakeDone x0) := by
  unfold wakeDone
  lift_lets
  (intro s1; refine Moves.cut (P := Moves 1067504 x0 s1) ?_ ?_; rotate_left; intro h1; clear_value s1)
  (intro c2; clear_value c2)
  (intro s3; refine Moves.cut (P := Moves 1067504 x0 s3) ?_ ?_; rotate_left; intro h3; clear_value s3)
  (intro c4; clear_value c4)
  (intro c5; clear_value c5)
  (intro s6; refine Moves.cut (P := Moves 1067504 x0 s6) ?_ ?_; rotate_left; intro h6; clear_value s6)
  with_reducible refine Moves.step ?_ (bump_mv _ _ _) rfl
  with_reducible refine Moves.step ?_ (wakeAll_mv _ _) rfl
  assumption
  subst s1
  with_reducible refine Moves.step ?_ (State.atLeast_mv _ _) rfl
  with_reducible exact Moves.refl _ _
  subst s3
  with_reducible refine Moves.step ?_ (settleResidency_mv _) rfl
  assumption
  subst s6
  with_reducible exact Moves.mk' (m := 1067504) (by assumption) (.inl rfl) (.inl rfl) (.inl rfl) (.inl rfl) (.inl rfl) (.inr rfl) (.inr rfl) (.inl rfl) (.inr rfl) rfl rfl (.inr rfl) (.inl rfl) (.inr rfl) (.inr rfl) (.inr rfl) (.inr rfl) (.inr rfl) (.inl rfl) (.inr rfl) (.inr rfl) (.inr rfl) (.inr rfl) (.inr rfl) (.inr rfl) (.inr rfl) (.inr rfl)

theorem execWakeDone_mv (x0 : State) : MovesO 1067504 x0 (execWakeDone x0) := by
  unfold execWakeDone
  with_reducible refine MovesO.whenDo ?_ ?_
  with_reducible exact Moves.refl _ _
  with_reducible refine Moves.step ?_ (wakeDone_mv _) rfl
  with_reducible exact Moves.refl _ _

theorem runMemory_mv (x0 : State) : Moves 1067504 x0 (runMemory x0) := by
  unfold runMemory
  lift_lets
  (intro c1; clear_value c1)
  (intro s2; refine Moves.cut (P := Moves 1067504 x0 s2) ?_ ?_; rotate_left; intro h2; clear_value s2)
  (intro s3; refine Moves.cut (P := Moves 1067504 x0 s3) ?_ ?_; rotate_left; intro h3; clear_value s3)
  (intro c4; clear_value c4)
  (intro s5; refine Moves.cut (P := Moves 1067504 x0 s5) ?_ ?_; rotate_left; intro h5; clear_value s5)
  with_reducible refine Moves.step ?_ (wakeAll_mv _ _) rfl
  assumption
  subst s2
  with_reducible refine Moves.step ?_ (settleResidency_mv _) rfl
  with_reducible exact Moves.refl _ _
  subst s3
  with_reducible refine Moves.ite ?_ ?_
  assumption
  with_reducible refine Moves.step ?_ (bump_mv _ _ _) rfl
  assumption
  subst s5
  with_reducible exact Moves.mk' (m := 1067504) (by assumption) (.inl rfl) (.inl rfl) (.inl rfl) (.inl rfl) (.inl rfl) (.inr rfl) (.inr rfl) (.inl rfl) (.inr rfl) rfl rfl (.inr rfl) (.inl rfl) (.inr rfl) (.inr rfl) (.inr rfl) (.inr rfl) (.inr rfl) (.inl rfl) (.inr rfl) (.inr rfl) (.inr rfl) (.inr rfl) (.inr rfl) (.inr rfl) (.inr rfl) (.inr rfl)

theorem drainStart_mv (x0 : State) (x1 : Nat) (x2 : Bool) : Moves 454417904 x0 (drainStart x0 x1 x2) := by
  unfold drainStart
  lift_lets
  (intro s1; refine Moves.cut (P := Moves 454417904 x0 s1) ?_ ?_; rotate_left; intro h1; clear_value s1)
  (intro c2; clear_value c2)
  (intro c3; clear_value c3)
  (intro c4; clear_value c4)
  (intro c5; clear_value c5)
  (intro s6; refine Moves.cut (P := Moves 454417904 x0 s6) ?_ ?_; rotate_left; intro h6; clear_value s6)
  (intro s7; refine Moves.cut (P := Moves 454417904 x0 s7) ?_ ?_; rotate_left; intro h7; clear_value s7)
  with_reducible refine Moves.step ?_ (fenceStaging_mv _) rfl
  with_reducible refine Moves.step ?_ (fenceEngine_mv _) rfl
  with_reducible refine Moves.step ?_ (fuseStop_mv _) rfl
  with_reducible refine Moves.step ?_ (abandon_mv _) rfl
  assumption
  subst s1
  with_reducible refine Moves.step ?_ (runMemory_mv _) rfl
  with_reducible refine Moves.ite ?_ ?_
  with_reducible refine Moves.step ?_ (transitStop_mv _) rfl
  with_reducible exact Moves.refl _ _
  with_reducible refine Moves.step ?_ (transitAbort_mv _ _) rfl
  with_reducible exact Moves.refl _ _
  subst s6
  with_reducible exact Moves.mk' (m := 454417904) (by assumption) (.inl rfl) (.inl rfl) (.inl rfl) (.inl rfl) (.inl rfl) (.inr rfl) (.inl rfl) (.inl rfl) (.inl rfl) (by rfl) (by rfl) (.inr rfl) (.inl rfl) (.inl rfl) (.inl rfl) (.inr rfl) (.inl rfl) (.inr rfl) (.inl rfl) (.inr rfl) (.inr rfl) (.inr rfl) (.inl rfl) (.inl rfl) (.inr rfl) (.inl rfl) (.inl rfl)
  subst s7
  with_reducible refine Moves.step ?_ (journal_mv _ _ _ _) rfl
  assumption

theorem copySeal_mv (x0 : State) : Moves 22544 x0 (copySeal x0) := by
  unfold copySeal
  lift_lets
  (intro c1; clear_value c1)
  with_reducible refine Moves.step ?_ (ownWrites_mv _ _) rfl
  with_reducible exact Moves.refl _ _

theorem drainEnd_mv (x0 : State) : Moves 1071216 x0 (drainEnd x0) := by
  unfold drainEnd
  lift_lets
  (intro c1; clear_value c1)
  (intro c2; clear_value c2)
  (intro s3; refine Moves.cut (P := Moves 1071216 x0 s3) ?_ ?_; rotate_left; intro h3; clear_value s3)
  (intro c4; clear_value c4)
  (intro s5; refine Moves.cut (P := Moves 1071216 x0 s5) ?_ ?_; rotate_left; intro h5; clear_value s5)
  (intro c6; clear_value c6)
  (intro c7; clear_value c7)
  with_reducible refine Moves.step ?_ (copySeal_mv _) rfl
  with_reducible exact Moves.mk' (m := 1071216) (by assumption) (.inl rfl) (.inl rfl) (.inl rfl) (.inr rfl) (.inr rfl) (.inr rfl) (.inr rfl) (.inl rfl) (.inl rfl) (by rfl) (by rfl) (.inr rfl) (.inl rfl) (.inr rfl) (.inr rfl) (.inr rfl) (.inr rfl) (.inr rfl) (.inl rfl) (.inr rfl) (.inr rfl) (.inr rfl) (.inr rfl) (.inr rfl) (.inr rfl) (.inr rfl) (.inr rfl)
  subst s3
  with_reducible refine Moves.step ?_ (journal_mv _ _ _ _) rfl
  with_reducible refine Moves.step ?_ (State.useFree_mv _) rfl
  with_reducible exact Moves.refl _ _
  subst s5
  with_reducible refine Moves.step ?_ (flushJournal_mv _) rfl
  with_reducible refine Moves.step ?_ (journal_mv _ _ _ _) rfl
  assumption

theorem gate_mv (x0 : State) : Moves 536870896 x0 (gate x0) := by
  unfold gate
  with_reducible refine Moves.step ?_ (stopLink_mv _ _) rfl
  with_reducible exact Moves.refl _ _

theorem drainStep_mv (x0 : State) (x1 : Nat) : Moves 536870896 x0 (drainStep x0 x1) := by
  unfold drainStep
  split
  with_reducible refine Moves.step ?_ (drainQueues_mv _) rfl
  with_reducible exact Moves.refl _ _
  with_reducible refine Moves.step ?_ (flushLagoon_mv _) rfl
  with_reducible exact Moves.refl _ _
  with_reducible refine Moves.step ?_ (flushJournal_mv _) rfl
  with_reducible refine Moves.step ?_ (drainClaims_mv _) rfl
  with_reducible exact Moves.refl _ _
  with_reducible refine Moves.step ?_ (drainEnd_mv _) rfl
  with_reducible exact Moves.refl _ _
  with_reducible refine Moves.step ?_ (selfRefreshAll_mv _) rfl
  with_reducible exact Moves.refl _ _
  with_reducible refine Moves.step ?_ (gate_mv _) rfl
  with_reducible exact Moves.refl _ _
  with_reducible exact Moves.refl _ _

theorem drainSteps_mv (x0 : State) (x1 : Nat) (x2 : Nat) : Moves 536870896 x0 (drainSteps x0 x1 x2) := by
  unfold drainSteps
  lift_lets
  (intro s1; refine Moves.cut (P := Moves 536870896 x0 s1) ?_ ?_; rotate_left; intro h1; clear_value s1)
  (intro c2; clear_value c2)
  with_reducible exact Moves.mk' (m := 536870896) (by assumption) (.inl rfl) (.inl rfl) (.inl rfl) (.inl rfl) (.inl rfl) (.inl rfl) (.inl rfl) (.inl rfl) (.inl rfl) (by rfl) (by rfl) (.inl rfl) (.inl rfl) (.inl rfl) (.inl rfl) (.inl rfl) (.inl rfl) (.inl rfl) (.inl rfl) (.inl rfl) (.inl rfl) (.inl rfl) (.inl rfl) (.inl rfl) (.inl rfl) (.inl rfl) (.inl rfl)
  subst s1
  (with_reducible refine Moves.foldl _ _ ?_ ?_; rotate_left; intro _ _ _)
  with_reducible refine Moves.step ?_ (drainStep_mv _ _) rfl
  assumption
  with_reducible exact Moves.refl _ _

theorem enterLowWater_mv (x0 : State) (x1 : Bool) (x2 : Nat) : Moves 1179648 x0 (enterLowWater x0 x1 x2) := by
  unfold enterLowWater
  with_reducible exact Moves.mk' (m := 1179648) (Moves.refl _ _) (.inr rfl) (.inr rfl) (.inr rfl) (.inr rfl) (.inr rfl) (.inr rfl) (.inr rfl) (.inr rfl) (.inr rfl) rfl rfl (.inr rfl) (.inr rfl) (.inr rfl) (.inr rfl) (.inl rfl) (.inr rfl) (.inr rfl) (.inl rfl) (.inr rfl) (.inr rfl) (.inr rfl) (.inr rfl) (.inr rfl) (.inr rfl) (.inr rfl) (.inr rfl)

theorem drain_mv (x0 : State) (x1 : Nat) (x2 : Nat) : Moves 536870896 x0 (drain x0 x1 x2) := by
  unfold drain
  split
  with_reducible refine Moves.step ?_ (enterLowWater_mv _ _ _) rfl
  with_reducible exact Moves.mk' (m := 536870896) (Moves.refl _ _) (.inl rfl) (.inl rfl) (.inl rfl) (.inl rfl) (.inl rfl) (.inl rfl) (.inl rfl) (.inl rfl) (.inl rfl) (by rfl) (by rfl) (.inl rfl) (.inl rfl) (.inl rfl) (.inl rfl) (.inl rfl) (.inl rfl) (.inl rfl) (.inl rfl) (.inl rfl) (.inl rfl) (.inl rfl) (.inl rfl) (.inl rfl) (.inl rfl) (.inl rfl) (.inl rfl)
  lift_lets
  (intro s4; refine Moves.cut (P := Moves 536870896 x0 s4) ?_ ?_; rotate_left; intro h4; clear_value s4)
  with_reducible refine Moves.ite ?_ ?_
  with_reducible refine Moves.step ?_ (enterLowWater_mv _ _ _) rfl
  assumption
  with_reducible refine Moves.step ?_ (enterLowWater_mv _ _ _) rfl
  assumption
  subst s4
  with_reducible refine Moves.step ?_ (drainSteps_mv _ _ _) rfl
  with_reducible refine Moves.step ?_ (drainStart_mv _ _ _) rfl
  with_reducible exact Moves.refl _ _

theorem startFails_mv (x0 : State) : Moves 1179648 x0 (startFails x0) := by
  unfold startFails
  lift_lets
  (intro c1; clear_value c1)
  (intro s2; refine Moves.cut (P := Moves 1179648 x0 s2) ?_ ?_; rotate_left; intro h2; clear_value s2)
  with_reducible refine Moves.ite ?_ ?_
  with_reducible refine Moves.step ?_ (enterLowWater_mv _ _ _) rfl
  assumption
  with_reducible refine Moves.step ?_ (enterLowWater_mv _ _ _) rfl
  assumption
  subst s2
  with_reducible exact Moves.mk' (m := 1179648) (Moves.refl _ _) (.inr rfl) (.inr rfl) (.inr rfl) (.inr rfl) (.inr rfl) (.inr rfl) (.inr rfl) (.inr rfl) (.inr rfl) rfl rfl (.inr rfl) (.inr rfl) (.inr rfl) (.inr rfl) (.inl rfl) (.inr rfl) (.inr rfl) (.inl rfl) (.inr rfl) (.inr rfl) (.inr rfl) (.inr rfl) (.inr rfl) (.inr rfl) (.inr rfl) (.inr rfl)

theorem detect_mv (x0 : State) (x1 : Nat) (x2 : Nat) : Moves 536870896 x0 (detect x0 x1 x2) := by
  unfold detect
  split
  with_reducible refine Moves.ite ?_ ?_
  with_reducible refine Moves.step ?_ (drain_mv _ _ _) rfl
  with_reducible exact Moves.refl _ _
  with_reducible exact Moves.refl _ _
  with_reducible refine Moves.ite ?_ ?_
  with_reducible refine Moves.ite ?_ ?_
  with_reducible refine Moves.step ?_ (drain_mv _ _ _) rfl
  with_reducible exact Moves.refl _ _
  with_reducible exact Moves.refl _ _
  with_reducible refine Moves.step ?_ (startFails_mv _) rfl
  with_reducible exact Moves.refl _ _
  with_reducible refine Moves.ite ?_ ?_
  with_reducible refine Moves.ite ?_ ?_
  with_reducible refine Moves.step ?_ (drain_mv _ _ _) rfl
  with_reducible exact Moves.refl _ _
  with_reducible exact Moves.refl _ _
  with_reducible refine Moves.step ?_ (startFails_mv _) rfl
  with_reducible exact Moves.refl _ _
  lift_lets
  (intro c20; clear_value c20)
  (intro s21; refine Moves.cut (P := Moves 536870896 x0 s21) ?_ ?_; rotate_left; intro h21; clear_value s21)
  with_reducible refine Moves.ite ?_ ?_
  with_reducible refine Moves.step ?_ (enterLowWater_mv _ _ _) rfl
  assumption
  with_reducible refine Moves.step ?_ (enterLowWater_mv _ _ _) rfl
  assumption
  with_reducible exact Moves.refl _ _
  subst s21
  with_reducible refine Moves.step ?_ (drainSteps_mv _ _ _) rfl
  with_reducible exact Moves.refl _ _

theorem execPfailDetect_mv (x0 : Fin 8) (x1 : State) : MovesO 536870896 x1 (execPfailDetect x0 x1) := by
  unfold execPfailDetect
  with_reducible refine MovesO.next ?_
  with_reducible refine Moves.step ?_ (detect_mv _ _ _) rfl
  with_reducible exact Moves.refl _ _

theorem execDroopDetect_mv (x0 : Fin 8) (x1 : State) : MovesO 536870896 x1 (execDroopDetect x0 x1) := by
  unfold execDroopDetect
  with_reducible refine MovesO.whenDo ?_ ?_
  with_reducible exact Moves.refl _ _
  with_reducible refine Moves.step ?_ (detect_mv _ _ _) rfl
  with_reducible exact Moves.refl _ _

theorem execSeal_mv (x0 : Fin 64) (x1 : Nat) (x2 : State) : MovesO 536870896 x2 (execSeal x0 x1 x2) := by
  unfold execSeal
  (with_reducible refine wxRun_mv _ _ _ _ _ ?_; intro d)
  with_reducible refine Moves.step ?_ (drain_mv _ _ _) rfl
  with_reducible exact Moves.refl _ _

theorem execLanternRailFault_mv (x0 : Bool) (x1 : Bool) (x2 : State) : MovesO 1048576 x2 (execLanternRailFault x0 x1 x2) := by
  unfold execLanternRailFault
  lift_lets
  (intro c1; clear_value c1)
  (intro c2; clear_value c2)
  (intro c3; clear_value c3)
  with_reducible refine MovesO.whenDo ?_ ?_
  with_reducible exact Moves.refl _ _
  with_reducible exact Moves.mk' (m := 1048576) (Moves.refl _ _) (.inr rfl) (.inr rfl) (.inr rfl) (.inr rfl) (.inr rfl) (.inr rfl) (.inr rfl) (.inr rfl) (.inr rfl) rfl rfl (.inr rfl) (.inr rfl) (.inr rfl) (.inr rfl) (.inr rfl) (.inr rfl) (.inr rfl) (.inl rfl) (.inr rfl) (.inr rfl) (.inr rfl) (.inr rfl) (.inr rfl) (.inr rfl) (.inr rfl) (.inr rfl)

theorem coreLoss_mv (x0 : State) : Moves 3280896 x0 (coreLoss x0) := by
  unfold coreLoss
  lift_lets
  (intro c1; subst c1)
  (intro c2; clear_value c2)
  (intro s3; refine Moves.cut (P := Moves 3280896 x0 s3) ?_ ?_; rotate_left; intro h3; clear_value s3)
  (intro c4; clear_value c4)
  split
  assumption
  with_reducible exact Moves.mk' (m := 3280896) (by assumption) (.inr rfl) (.inr rfl) (.inr rfl) (.inr rfl) (.inr rfl) (.inr rfl) (.inr rfl) (.inr rfl) (.inl rfl) (by rfl) (by rfl) (.inr rfl) (.inr rfl) (.inr rfl) (.inr rfl) (.inl rfl) (.inr rfl) (.inr rfl) (.inl rfl) (.inl rfl) (.inr rfl) (.inr rfl) (.inr rfl) (.inr rfl) (.inr rfl) (.inr rfl) (.inr rfl)
  with_reducible refine Moves.step ?_ (enterLowWater_mv _ _ _) rfl
  assumption
  with_reducible refine Moves.step ?_ (enterLowWater_mv _ _ _) rfl
  assumption
  with_reducible refine Moves.step ?_ (enterLowWater_mv _ _ _) rfl
  assumption
  with_reducible refine Moves.step ?_ (enterLowWater_mv _ _ _) rfl
  assumption
  with_reducible refine Moves.step ?_ (enterLowWater_mv _ _ _) rfl
  assumption
  subst s3
  with_reducible exact Moves.mk' (m := 3280896) (Moves.refl _ _) (.inr rfl) (.inr rfl) (.inr rfl) (.inr rfl) (.inr rfl) (.inr rfl) (.inr rfl) (.inr rfl) (.inl rfl) (by rfl) (by rfl) (.inr rfl) (.inr rfl) (.inr rfl) (.inr rfl) (.inl rfl) (.inr rfl) (.inr rfl) (.inl rfl) (.inl rfl) (.inr rfl) (.inr rfl) (.inr rfl) (.inr rfl) (.inr rfl) (.inr rfl) (.inr rfl)

theorem execVddCoreLoss_mv (x0 : State) : MovesO 3280896 x0 (execVddCoreLoss x0) := by
  unfold execVddCoreLoss
  with_reducible refine MovesO.next ?_
  with_reducible refine Moves.step ?_ (coreLoss_mv _) rfl
  with_reducible exact Moves.refl _ _

theorem execVlanLoss_mv (x0 : State) : MovesO 1048576 x0 (execVlanLoss x0) := by
  unfold execVlanLoss
  with_reducible refine MovesO.next ?_
  with_reducible exact Moves.mk' (m := 1048576) (Moves.refl _ _) (.inr rfl) (.inr rfl) (.inr rfl) (.inr rfl) (.inr rfl) (.inr rfl) (.inr rfl) (.inr rfl) (.inr rfl) rfl rfl (.inr rfl) (.inr rfl) (.inr rfl) (.inr rfl) (.inr rfl) (.inr rfl) (.inr rfl) (.inl rfl) (.inr rfl) (.inr rfl) (.inr rfl) (.inr rfl) (.inr rfl) (.inr rfl) (.inr rfl) (.inr rfl)

theorem execRefclkLoss_mv (x0 : Nat) (x1 : State) : MovesO 2097648 x1 (execRefclkLoss x0 x1) := by
  unfold execRefclkLoss
  with_reducible refine MovesO.whenDo ?_ ?_
  with_reducible exact Moves.refl _ _
  with_reducible refine Moves.step ?_ (raiseJ_mv _ _ _ _ _ _) rfl
  with_reducible exact Moves.mk' (m := 2097648) (Moves.refl _ _) (.inl rfl) (.inl rfl) (.inl rfl) (.inl rfl) (.inl rfl) (.inr rfl) (.inr rfl) (.inr rfl) (.inr rfl) rfl rfl (.inr rfl) (.inr rfl) (.inr rfl) (.inr rfl) (.inr rfl) (.inr rfl) (.inr rfl) (.inr rfl) (.inl rfl) (.inr rfl) (.inr rfl) (.inr rfl) (.inr rfl) (.inr rfl) (.inr rfl) (.inr rfl)

end Sys2Proof.Machine
end

