-- ==== Sys2Proof/Laws/FrameStart.lean ====
section
/-! SUPPORT. What each operation of Machine/Start.lean may change, one lemma an operation (`<name>_mv`): the components its
mask names, and nothing else of the state. -/

namespace Sys2Proof.Machine

theorem applySettings_mv (x0 : State) : Moves 16 x0 (applySettings x0) := by
  unfold applySettings
  (with_reducible refine Moves.foldl _ _ ?_ ?_; rotate_left; intro _ _ _)
  lift_lets
  (intro c2; clear_value c2)
  with_reducible refine Moves.step ?_ (csrSet_mv _ _ _) rfl
  assumption
  with_reducible exact Moves.refl _ _

theorem storeOne_mv (x0 : State) (x1 : Nat) (x2 : Nat) : Moves 67108864 x0 (storeOne x0 x1 x2) := by
  unfold storeOne
  lift_lets
  intro c1
  (intro c2; clear_value c2)
  (intro c3; clear_value c3)
  with_reducible exact Moves.mk' (m := 67108864) (Moves.refl _ _) (.inr rfl) (.inr rfl) (.inr rfl) (.inr rfl) (.inr rfl) (.inr rfl) (.inr rfl) (.inr rfl) (.inr rfl) rfl rfl (.inr rfl) (.inr rfl) (.inr rfl) (.inr rfl) (.inr rfl) (.inr rfl) (.inr rfl) (.inr rfl) (.inr rfl) (.inr rfl) (.inr rfl) (.inr rfl) (.inr rfl) (.inl rfl) (.inr rfl) (.inr rfl)

theorem restartRegs_mv (x0 : State) (x1 : Bool) (x2 : Bool) : Moves 16 x0 (restartRegs x0 x1 x2) := by
  unfold restartRegs
  lift_lets
  (intro s1; refine Moves.cut (P := Moves 16 x0 s1) ?_ ?_; rotate_left; intro h1; clear_value s1)
  (with_reducible refine Moves.foldl _ _ ?_ ?_; rotate_left; intro _ _ _)
  with_reducible refine Moves.step ?_ (csrSet_mv _ _ _) rfl
  assumption
  subst s1
  with_reducible exact Moves.mk' (m := 16) (Moves.refl _ _) (.inl rfl) (.inr rfl) (.inr rfl) (.inr rfl) (.inr rfl) (.inr rfl) (.inr rfl) (.inr rfl) (.inr rfl) rfl rfl (.inr rfl) (.inr rfl) (.inr rfl) (.inr rfl) (.inr rfl) (.inr rfl) (.inr rfl) (.inr rfl) (.inr rfl) (.inr rfl) (.inr rfl) (.inr rfl) (.inr rfl) (.inr rfl) (.inr rfl) (.inr rfl)
  assumption

theorem restartEvents_mv (x0 : State) (x1 : Bool) : Moves 128 x0 (restartEvents x0 x1) := by
  unfold restartEvents
  with_reducible refine Moves.ite ?_ ?_
  with_reducible exact Moves.mk' (m := 128) (Moves.refl _ _) (.inr rfl) (.inr rfl) (.inr rfl) (.inl rfl) (.inr rfl) (.inr rfl) (.inr rfl) (.inr rfl) (.inr rfl) rfl rfl (.inr rfl) (.inr rfl) (.inr rfl) (.inr rfl) (.inr rfl) (.inr rfl) (.inr rfl) (.inr rfl) (.inr rfl) (.inr rfl) (.inr rfl) (.inr rfl) (.inr rfl) (.inr rfl) (.inr rfl) (.inr rfl)
  with_reducible exact Moves.mk' (m := 128) (Moves.refl _ _) (.inr rfl) (.inr rfl) (.inr rfl) (.inl rfl) (.inr rfl) (.inr rfl) (.inr rfl) (.inr rfl) (.inr rfl) rfl rfl (.inr rfl) (.inr rfl) (.inr rfl) (.inr rfl) (.inr rfl) (.inr rfl) (.inr rfl) (.inr rfl) (.inr rfl) (.inr rfl) (.inr rfl) (.inr rfl) (.inr rfl) (.inr rfl) (.inr rfl) (.inr rfl)

theorem restartJournal_mv (x0 : State) (x1 : Bool) (x2 : Bool) : Moves 64 x0 (restartJournal x0 x1 x2) := by
  unfold restartJournal
  with_reducible refine Moves.ite ?_ ?_
  with_reducible exact Moves.mk' (m := 64) (Moves.refl _ _) (.inr rfl) (.inr rfl) (.inl rfl) (.inr rfl) (.inr rfl) (.inr rfl) (.inr rfl) (.inr rfl) (.inr rfl) rfl rfl (.inr rfl) (.inr rfl) (.inr rfl) (.inr rfl) (.inr rfl) (.inr rfl) (.inr rfl) (.inr rfl) (.inr rfl) (.inr rfl) (.inr rfl) (.inr rfl) (.inr rfl) (.inr rfl) (.inr rfl) (.inr rfl)
  with_reducible refine Moves.ite ?_ ?_
  with_reducible exact Moves.mk' (m := 64) (Moves.refl _ _) (.inr rfl) (.inr rfl) (.inl rfl) (.inr rfl) (.inr rfl) (.inr rfl) (.inr rfl) (.inr rfl) (.inr rfl) rfl rfl (.inr rfl) (.inr rfl) (.inr rfl) (.inr rfl) (.inr rfl) (.inr rfl) (.inr rfl) (.inr rfl) (.inr rfl) (.inr rfl) (.inr rfl) (.inr rfl) (.inr rfl) (.inr rfl) (.inr rfl) (.inr rfl)
  with_reducible exact Moves.mk' (m := 64) (Moves.refl _ _) (.inr rfl) (.inr rfl) (.inl rfl) (.inr rfl) (.inr rfl) (.inr rfl) (.inr rfl) (.inr rfl) (.inr rfl) rfl rfl (.inr rfl) (.inr rfl) (.inr rfl) (.inr rfl) (.inr rfl) (.inr rfl) (.inr rfl) (.inr rfl) (.inr rfl) (.inr rfl) (.inr rfl) (.inr rfl) (.inr rfl) (.inr rfl) (.inr rfl) (.inr rfl)

theorem restartMirror_mv (x0 : State) (x1 : Bool) (x2 : Nat) : Moves 536870896 x0 (restartMirror x0 x1 x2) := by
  unfold restartMirror
  with_reducible refine Moves.ite ?_ ?_
  with_reducible exact Moves.mk' (m := 536870896) (Moves.refl _ _) (.inl rfl) (.inl rfl) (.inl rfl) (.inl rfl) (.inl rfl) (.inl rfl) (.inl rfl) (.inl rfl) (.inl rfl) (by rfl) (by rfl) (.inl rfl) (.inl rfl) (.inl rfl) (.inl rfl) (.inl rfl) (.inl rfl) (.inl rfl) (.inl rfl) (.inl rfl) (.inl rfl) (.inl rfl) (.inl rfl) (.inl rfl) (.inl rfl) (.inl rfl) (.inl rfl)
  lift_lets
  (intro s3; refine Moves.cut (P := Moves 536870896 x0 s3) ?_ ?_; rotate_left; intro h3; clear_value s3)
  with_reducible exact Moves.mk' (m := 536870896) (by assumption) (.inl rfl) (.inl rfl) (.inl rfl) (.inl rfl) (.inl rfl) (.inl rfl) (.inl rfl) (.inl rfl) (.inl rfl) (by rfl) (by rfl) (.inl rfl) (.inl rfl) (.inl rfl) (.inl rfl) (.inl rfl) (.inl rfl) (.inl rfl) (.inl rfl) (.inl rfl) (.inl rfl) (.inl rfl) (.inl rfl) (.inl rfl) (.inl rfl) (.inl rfl) (.inl rfl)
  subst s3
  with_reducible refine Moves.ite ?_ ?_
  with_reducible refine Moves.step ?_ (dropMember_mv _ _) rfl
  with_reducible refine Moves.step ?_ (mirrorLoss_mv _ _) rfl
  with_reducible exact Moves.refl _ _
  with_reducible exact Moves.refl _ _

theorem restartState_mv (x0 : State) (x1 : Bool) (x2 : Bool) (x3 : Bool) (x4 : Nat) : Moves 536870896 x0 (restartState x0 x1 x2 x3 x4) := by
  unfold restartState
  refine Moves.mk' (m := 536870896) ?_ (.inl rfl) (.inl rfl) (.inl rfl) (.inl rfl) (.inl rfl) (.inl rfl) (.inl rfl) (.inl rfl) (.inl rfl) (by rfl) (by rfl) (.inl rfl) (.inl rfl) (.inl rfl) (.inl rfl) (.inl rfl) (.inl rfl) (.inl rfl) (.inl rfl) (.inl rfl) (.inl rfl) (.inl rfl) (.inl rfl) (.inl rfl) (.inl rfl) (.inl rfl) (.inl rfl)
  refine Moves.step ?_ (wxDisable_mv _) rfl
  refine Moves.step ?_ (restartRegs_mv _ _ _) rfl
  refine Moves.step ?_ (restartJournal_mv _ _ _) rfl
  refine Moves.step ?_ (restartEvents_mv _ _) rfl
  refine Moves.step ?_ (restartMirror_mv _ _ _) rfl
  exact Moves.mk' (m := 536870896) (Moves.refl _ _) (.inl rfl) (.inl rfl) (.inl rfl) (.inl rfl) (.inl rfl) (.inl rfl) (.inl rfl) (.inl rfl) (.inl rfl) (by rfl) (by rfl) (.inl rfl) (.inl rfl) (.inl rfl) (.inl rfl) (.inl rfl) (.inl rfl) (.inl rfl) (.inl rfl) (.inl rfl) (.inl rfl) (.inl rfl) (.inl rfl) (.inl rfl) (.inl rfl) (.inl rfl) (.inl rfl)

theorem wipe_mv (x0 : State) : Moves 20033600 x0 (wipe x0) := by
  unfold wipe
  dsimp only
  refine Moves.mk' (m := 20033600) (s := { x0 with dram := { mapActive := bitsOf (settingOf x0 0x000020) 0 2, freshActive := (settingOf x0 0x070008).testBit 1, tsvPending := x0.dram.tsvPending } }) ?_ (.inr rfl) (.inr rfl) (.inl rfl) (.inr rfl) (.inr rfl) (.inr rfl) (.inr rfl) (.inr rfl) (.inl rfl) rfl rfl (.inl rfl) (.inr rfl) (.inl rfl) (.inl rfl) (.inr rfl) (.inr rfl) (.inr rfl) (.inl rfl) (.inl rfl) (.inr rfl) (.inr rfl) (.inl rfl) (.inr rfl) (.inr rfl) (.inr rfl) (.inr rfl)
  exact (Moves.refl _ _).step (State.dram_mv x0 _ (fun _ => rfl) (fun _ => rfl)) rfl

theorem chrosyOff_mv (x0 : State) : Moves 16777216 x0 (chrosyOff x0) := by
  unfold chrosyOff
  with_reducible refine Moves.ite ?_ ?_
  with_reducible exact Moves.refl _ _
  with_reducible exact Moves.mk' (m := 16777216) (Moves.refl _ _) (.inr rfl) (.inr rfl) (.inr rfl) (.inr rfl) (.inr rfl) (.inr rfl) (.inr rfl) (.inr rfl) (.inr rfl) rfl rfl (.inr rfl) (.inr rfl) (.inr rfl) (.inr rfl) (.inr rfl) (.inr rfl) (.inr rfl) (.inr rfl) (.inr rfl) (.inr rfl) (.inr rfl) (.inl rfl) (.inr rfl) (.inr rfl) (.inr rfl) (.inr rfl)

theorem decideSeries_mv (x0 : State) (x1 : Nat) (x2 : Nat) (x3 : Bool) : Moves 2097648 x0 (decideSeries x0 x1 x2 x3) := by
  unfold decideSeries
  lift_lets
  (intro c1; clear_value c1)
  (intro c2; clear_value c2)
  (intro s3; refine Moves.cut (P := Moves 2097648 x0 s3) ?_ ?_; rotate_left; intro h3; clear_value s3)
  (with_reducible refine Moves.foldl _ _ ?_ ?_; rotate_left; intro _ _ _)
  with_reducible refine Moves.step ?_ (issueHeld_mv _ _) rfl
  assumption
  subst s3
  with_reducible exact Moves.mk' (m := 2097648) (Moves.refl _ _) (.inl rfl) (.inl rfl) (.inl rfl) (.inl rfl) (.inl rfl) (.inr rfl) (.inr rfl) (.inr rfl) (.inr rfl) rfl rfl (.inr rfl) (.inr rfl) (.inr rfl) (.inr rfl) (.inr rfl) (.inr rfl) (.inr rfl) (.inr rfl) (.inl rfl) (.inr rfl) (.inr rfl) (.inr rfl) (.inr rfl) (.inr rfl) (.inr rfl) (.inr rfl)
  with_reducible refine Moves.step ?_ (resetEntry_mv _ _ _ _) rfl
  assumption

theorem reportSeal_mv (x0 : State) (x1 : Nat) : Moves 1048576 x0 (reportSeal x0 x1) := by
  unfold reportSeal
  lift_lets
  (intro c1; clear_value c1)
  (intro c2; clear_value c2)
  (intro c3; clear_value c3)
  with_reducible exact Moves.mk' (m := 1048576) (Moves.refl _ _) (.inr rfl) (.inr rfl) (.inr rfl) (.inr rfl) (.inr rfl) (.inr rfl) (.inr rfl) (.inr rfl) (.inr rfl) rfl rfl (.inr rfl) (.inr rfl) (.inr rfl) (.inr rfl) (.inr rfl) (.inr rfl) (.inr rfl) (.inl rfl) (.inr rfl) (.inr rfl) (.inr rfl) (.inr rfl) (.inr rfl) (.inr rfl) (.inr rfl) (.inr rfl)

theorem lcErase_mv (x0 : State) : Moves 67108864 x0 (lcErase x0) := by
  unfold lcErase
  with_reducible exact Moves.mk' (m := 67108864) (Moves.refl _ _) (.inr rfl) (.inr rfl) (.inr rfl) (.inr rfl) (.inr rfl) (.inr rfl) (.inr rfl) (.inr rfl) (.inr rfl) rfl rfl (.inr rfl) (.inr rfl) (.inr rfl) (.inr rfl) (.inr rfl) (.inr rfl) (.inr rfl) (.inr rfl) (.inr rfl) (.inr rfl) (.inr rfl) (.inr rfl) (.inr rfl) (.inl rfl) (.inr rfl) (.inr rfl)

theorem coldStart_mv (x0 : State) (x1 : Nat) : Moves 536870896 x0 (coldStart x0 x1) := by
  unfold coldStart
  lift_lets
  (intro c1; clear_value c1)
  (intro c2; clear_value c2)
  (intro c3; clear_value c3)
  (intro c4; clear_value c4)
  (intro c5; clear_value c5)
  intro c6
  (intro s7; refine Moves.cut (P := Moves 536870896 x0 s7) ?_ ?_; rotate_left; intro h7; clear_value s7)
  (intro c8; clear_value c8)
  (intro c9; clear_value c9)
  (intro s10; refine Moves.cut (P := Moves 536870896 x0 s10) ?_ ?_; rotate_left; intro h10; clear_value s10)
  (intro s11; refine Moves.cut (P := Moves 536870896 x0 s11) ?_ ?_; rotate_left; intro h11; clear_value s11)
  (intro s12; refine Moves.cut (P := Moves 536870896 x0 s12) ?_ ?_; rotate_left; intro h12; clear_value s12)
  (intro s13; refine Moves.cut (P := Moves 536870896 x0 s13) ?_ ?_; rotate_left; intro h13; clear_value s13)
  with_reducible refine Moves.ite ?_ ?_
  with_reducible refine Moves.step ?_ (decideSeries_mv _ _ _ _) rfl
  with_reducible refine Moves.step ?_ (wipe_mv _) rfl
  with_reducible refine Moves.ite ?_ ?_
  with_reducible refine Moves.step ?_ (lcErase_mv _) rfl
  assumption
  assumption
  assumption
  subst s7
  with_reducible refine Moves.step ?_ (reportSeal_mv _ _) rfl
  with_reducible refine Moves.step ?_ (restartState_mv _ _ _ _ _) rfl
  with_reducible exact Moves.refl _ _
  subst s10
  with_reducible exact Moves.mk' (m := 536870896) (by assumption) (.inl rfl) (.inl rfl) (.inl rfl) (.inl rfl) (.inl rfl) (.inl rfl) (.inl rfl) (.inl rfl) (.inl rfl) (by rfl) (by rfl) (.inl rfl) (.inl rfl) (.inl rfl) (.inl rfl) (.inl rfl) (.inl rfl) (.inl rfl) (.inl rfl) (.inl rfl) (.inl rfl) (.inl rfl) (.inl rfl) (.inl rfl) (.inl rfl) (.inl rfl) (.inl rfl)
  subst s11
  with_reducible refine Moves.step ?_ (storeOne_mv _ _ _) rfl
  assumption
  subst s12
  with_reducible refine Moves.ite ?_ ?_
  with_reducible refine Moves.step ?_ (raiseJ_mv _ _ _ _ _ _) rfl
  assumption
  assumption
  subst s13
  with_reducible refine Moves.ite ?_ ?_
  with_reducible refine Moves.step ?_ (raiseJ_mv _ _ _ _ _ _) rfl
  assumption
  assumption

theorem execPowerGood_mv (x0 : BitVec 3) (x1 : State) : MovesO 536870896 x1 (execPowerGood x0 x1) := by
  unfold execPowerGood
  with_reducible refine MovesO.whenDo ?_ ?_
  with_reducible exact Moves.refl _ _
  with_reducible refine Moves.step ?_ (coldStart_mv _ _) rfl
  with_reducible exact Moves.refl _ _

theorem execPfailRecovered_mv (x0 : State) : MovesO 536870896 x0 (execPfailRecovered x0) := by
  unfold execPfailRecovered
  with_reducible refine MovesO.whenDo ?_ ?_
  with_reducible exact Moves.refl _ _
  lift_lets
  (intro c3; clear_value c3)
  with_reducible refine Moves.step ?_ (raise_mv _ _ _ _ _ _) rfl
  with_reducible refine Moves.step ?_ (coldStart_mv _ _) rfl
  with_reducible refine Moves.step ?_ (State.atLeast_mv _ _) rfl
  with_reducible exact Moves.refl _ _

theorem fuseSensed_mv (x0 : State) (x1 : List FuseReading) : Moves 120697328 x0 (fuseSensed x0 x1) := by
  unfold fuseSensed
  lift_lets
  (intro s1; refine Moves.cut (P := Moves 120697328 x0 s1) ?_ ?_; rotate_left; intro h1; clear_value s1)
  (intro c2; clear_value c2)
  (intro s3; refine Moves.cut (P := Moves 120697328 x0 s3) ?_ ?_; rotate_left; intro h3; clear_value s3)
  (intro s4; refine Moves.cut (P := Moves 120697328 x0 s4) ?_ ?_; rotate_left; intro h4; clear_value s4)
  (intro c5; clear_value c5)
  (intro s6; refine Moves.cut (P := Moves 120697328 x0 s6) ?_ ?_; rotate_left; intro h6; clear_value s6)
  with_reducible refine Moves.step ?_ (chrosyOff_mv _) rfl
  with_reducible refine Moves.ite ?_ ?_
  assumption
  with_reducible refine Moves.step ?_ (decideSeries_mv _ _ _ _) rfl
  assumption
  subst s1
  with_reducible refine Moves.step ?_ (senseFuses_mv _ _) rfl
  with_reducible exact Moves.refl _ _
  subst s3
  with_reducible refine Moves.ite ?_ ?_
  with_reducible refine Moves.step ?_ (lcErase_mv _) rfl
  assumption
  assumption
  subst s4
  with_reducible refine Moves.ite ?_ ?_
  with_reducible refine Moves.step ?_ (wipe_mv _) rfl
  with_reducible refine Moves.step ?_ (restartRegs_mv _ _ _) rfl
  with_reducible exact Moves.mk' (m := 120697328) (by assumption) (.inl rfl) (.inl rfl) (.inl rfl) (.inl rfl) (.inl rfl) (.inr rfl) (.inr rfl) (.inr rfl) (.inl rfl) (by rfl) (by rfl) (.inl rfl) (.inr rfl) (.inl rfl) (.inl rfl) (.inr rfl) (.inr rfl) (.inr rfl) (.inl rfl) (.inl rfl) (.inr rfl) (.inr rfl) (.inl rfl) (.inl rfl) (.inl rfl) (.inr rfl) (.inr rfl)
  assumption
  subst s6
  with_reducible exact Moves.mk' (m := 120697328) (by assumption) (.inl rfl) (.inl rfl) (.inl rfl) (.inl rfl) (.inl rfl) (.inr rfl) (.inr rfl) (.inr rfl) (.inl rfl) (by rfl) (by rfl) (.inl rfl) (.inr rfl) (.inl rfl) (.inl rfl) (.inr rfl) (.inr rfl) (.inr rfl) (.inl rfl) (.inl rfl) (.inr rfl) (.inr rfl) (.inl rfl) (.inl rfl) (.inl rfl) (.inr rfl) (.inr rfl)

theorem execFuseSenseDone_mv (x0 : List FuseReading) (x1 : State) : MovesO 120697328 x1 (execFuseSenseDone x0 x1) := by
  unfold execFuseSenseDone
  with_reducible refine MovesO.whenDo ?_ ?_
  with_reducible exact Moves.refl _ _
  with_reducible refine Moves.step ?_ (fuseSensed_mv _ _) rfl
  with_reducible exact Moves.refl _ _

theorem haltStart_mv (x0 : State) (x1 : Nat) : Moves 1049072 x0 (haltStart x0 x1) := by
  unfold haltStart
  with_reducible refine Moves.step ?_ (raise_mv _ _ _ _ _ _) rfl
  with_reducible exact Moves.mk' (m := 1049072) (Moves.refl _ _) (.inl rfl) (.inl rfl) (.inl rfl) (.inl rfl) (.inl rfl) (.inr rfl) (.inr rfl) (.inr rfl) (.inr rfl) rfl rfl (.inr rfl) (.inr rfl) (.inr rfl) (.inr rfl) (.inr rfl) (.inr rfl) (.inr rfl) (.inl rfl) (.inr rfl) (.inr rfl) (.inr rfl) (.inr rfl) (.inr rfl) (.inr rfl) (.inr rfl) (.inr rfl)

theorem chrosyBoot_mv (x0 : State) : Moves 75497968 x0 (chrosyBoot x0) := by
  unfold chrosyBoot
  with_reducible refine Moves.ite ?_ ?_
  with_reducible exact Moves.refl _ _
  split
  with_reducible refine Moves.ite ?_ ?_
  with_reducible refine Moves.step ?_ (Moves.snd (by assumption) (bootCheck_mv _ _)) rfl
  with_reducible exact Moves.refl _ _
  with_reducible refine Moves.step ?_ (raiseJ_mv _ _ _ _ _ _) rfl
  with_reducible refine Moves.mk' (m := 75497968) ?_ (.inl rfl) (.inl rfl) (.inl rfl) (.inl rfl) (.inl rfl) (.inr rfl) (.inr rfl) (.inr rfl) (.inr rfl) rfl rfl (.inr rfl) (.inr rfl) (.inr rfl) (.inr rfl) (.inr rfl) (.inr rfl) (.inr rfl) (.inr rfl) (.inr rfl) (.inr rfl) (.inl rfl) (.inr rfl) (.inr rfl) (.inl rfl) (.inr rfl) (.inr rfl)
  with_reducible refine Moves.step ?_ (Moves.snd (by assumption) (bootCheck_mv _ _)) rfl
  with_reducible exact Moves.refl _ _

theorem keeperRuns_mv (x0 : State) : Moves 69634544 x0 (keeperRuns x0) := by
  unfold keeperRuns
  lift_lets
  (intro c1; clear_value c1)
  (intro c2; clear_value c2)
  (intro c3; clear_value c3)
  (intro s4; refine Moves.cut (P := Moves 69634544 x0 s4) ?_ ?_; rotate_left; intro h4; clear_value s4)
  (intro s5; refine Moves.cut (P := Moves 69634544 x0 s5) ?_ ?_; rotate_left; intro h5; clear_value s5)
  (intro s6; refine Moves.cut (P := Moves 69634544 x0 s6) ?_ ?_; rotate_left; intro h6; clear_value s6)
  with_reducible refine Moves.step ?_ (startQuick_mv _) rfl
  assumption
  subst s4
  with_reducible exact Moves.mk' (m := 69634544) (Moves.refl _ _) (.inl rfl) (.inl rfl) (.inl rfl) (.inl rfl) (.inl rfl) (.inr rfl) (.inr rfl) (.inl rfl) (.inr rfl) rfl rfl (.inr rfl) (.inr rfl) (.inl rfl) (.inr rfl) (.inl rfl) (.inl rfl) (.inr rfl) (.inr rfl) (.inl rfl) (.inr rfl) (.inr rfl) (.inr rfl) (.inr rfl) (.inl rfl) (.inr rfl) (.inr rfl)
  subst s5
  with_reducible refine Moves.ite ?_ ?_
  with_reducible refine Moves.step ?_ (convertSettings_mv _) rfl
  assumption
  assumption
  subst s6
  with_reducible refine Moves.ite ?_ ?_
  with_reducible refine Moves.step ?_ (endLease_mv _ _) rfl
  assumption
  assumption

theorem keeperBoot_mv (x0 : State) (x1 : Bool) : Moves 79071728 x0 (keeperBoot x0 x1) := by
  unfold keeperBoot
  split
  with_reducible refine Moves.ite ?_ ?_
  with_reducible refine Moves.step ?_ (haltStart_mv _ _) rfl
  with_reducible refine Moves.step ?_ (Moves.snd (by assumption) (bootCheck_mv _ _)) rfl
  with_reducible exact Moves.refl _ _
  with_reducible refine Moves.ite ?_ ?_
  split
  with_reducible refine Moves.ite ?_ ?_
  with_reducible refine Moves.step ?_ (Moves.snd (by assumption) (keeperOther_mv _)) rfl
  with_reducible refine Moves.step ?_ (Moves.snd (by assumption) (bootCheck_mv _ _)) rfl
  with_reducible exact Moves.refl _ _
  with_reducible refine Moves.step ?_ (haltStart_mv _ _) rfl
  with_reducible refine Moves.step ?_ (Moves.snd (by assumption) (keeperOther_mv _)) rfl
  with_reducible refine Moves.step ?_ (Moves.snd (by assumption) (bootCheck_mv _ _)) rfl
  with_reducible exact Moves.refl _ _
  split
  with_reducible refine Moves.ite ?_ ?_
  with_reducible refine Moves.step ?_ (haltStart_mv _ _) rfl
  with_reducible refine Moves.step ?_ (Moves.snd (by assumption) (bootCheck_mv _ _)) rfl
  with_reducible refine Moves.step ?_ (Moves.snd (by assumption) (bootCheck_mv _ _)) rfl
  with_reducible exact Moves.refl _ _
  with_reducible refine Moves.step ?_ (keeperRuns_mv _) rfl
  with_reducible refine Moves.step ?_ (chrosyBoot_mv _) rfl
  with_reducible refine Moves.step ?_ (Moves.snd (by assumption) (bootCheck_mv _ _)) rfl
  with_reducible refine Moves.step ?_ (Moves.snd (by assumption) (bootCheck_mv _ _)) rfl
  with_reducible exact Moves.refl _ _

theorem execKeeperBootDone_mv (x0 : Bool) (x1 : State) : MovesO 79071728 x1 (execKeeperBootDone x0 x1) := by
  unfold execKeeperBootDone
  with_reducible refine MovesO.whenDo ?_ ?_
  with_reducible exact Moves.refl _ _
  with_reducible refine Moves.step ?_ (keeperBoot_mv _ _) rfl
  with_reducible exact Moves.refl _ _

theorem openTraining_mv (x0 : State) : Moves 768 x0 (openTraining x0) := by
  unfold openTraining
  lift_lets
  (intro c1; clear_value c1)
  (with_reducible refine Moves.foldl _ _ ?_ ?_; rotate_left; intro _ _ _)
  lift_lets
  (intro s4; refine Moves.cut (P := Moves 768 x0 s4) ?_ ?_; rotate_left; intro h4; clear_value s4)
  with_reducible refine Moves.ite ?_ ?_
  assumption
  with_reducible refine Moves.step ?_ (pctlSend_mv _ _ _ _ _) rfl
  with_reducible refine Moves.step ?_ (State.modLink_mv _ _ _) rfl
  assumption
  with_reducible exact Moves.refl _ _
  subst s4
  with_reducible refine Moves.step ?_ (State.modPort_mv _ _ _) rfl
  assumption

theorem quickEnd_mv (x0 : State) : Moves 3153904 x0 (quickEnd x0) := by
  unfold quickEnd
  lift_lets
  (intro c1; clear_value c1)
  (intro c2; clear_value c2)
  (intro s3; refine Moves.cut (P := Moves 3153904 x0 s3) ?_ ?_; rotate_left; intro h3; clear_value s3)
  (intro c4; clear_value c4)
  (intro c5; clear_value c5)
  with_reducible refine Moves.ite ?_ ?_
  with_reducible refine Moves.step ?_ (haltStart_mv _ _) rfl
  assumption
  with_reducible refine Moves.ite ?_ ?_
  with_reducible refine Moves.step ?_ (haltStart_mv _ _) rfl
  assumption
  with_reducible refine Moves.step ?_ (openTraining_mv _) rfl
  with_reducible refine Moves.step ?_ (loadRepairs_mv _) rfl
  with_reducible exact Moves.mk' (m := 3153904) (by assumption) (.inl rfl) (.inl rfl) (.inl rfl) (.inl rfl) (.inl rfl) (.inl rfl) (.inl rfl) (.inl rfl) (.inl rfl) (by rfl) (by rfl) (.inr rfl) (.inr rfl) (.inr rfl) (.inr rfl) (.inr rfl) (.inr rfl) (.inr rfl) (.inl rfl) (.inl rfl) (.inr rfl) (.inr rfl) (.inr rfl) (.inr rfl) (.inr rfl) (.inr rfl) (.inr rfl)
  subst s3
  with_reducible exact Moves.mk' (m := 3153904) (Moves.refl _ _) (.inl rfl) (.inl rfl) (.inl rfl) (.inl rfl) (.inl rfl) (.inl rfl) (.inl rfl) (.inl rfl) (.inl rfl) (by rfl) (by rfl) (.inr rfl) (.inr rfl) (.inr rfl) (.inr rfl) (.inr rfl) (.inr rfl) (.inr rfl) (.inl rfl) (.inl rfl) (.inr rfl) (.inr rfl) (.inr rfl) (.inr rfl) (.inr rfl) (.inr rfl) (.inr rfl)

theorem afterRun_mv (x0 : State) (x1 : State) : Moves 3153904 x1 (afterRun x0 x1) := by
  unfold afterRun
  with_reducible refine Moves.ite ?_ ?_
  with_reducible refine Moves.step ?_ (quickEnd_mv _) rfl
  with_reducible exact Moves.refl _ _
  with_reducible exact Moves.refl _ _

theorem execTransitRunDone_mv (x0 : DWord) (x1 : DWord) (x2 : DWord) (x3 : List TransitFail) (x4 : State) : MovesO 137748464 x4 (execTransitRunDone x0 x1 x2 x3 x4) := by
  unfold execTransitRunDone
  with_reducible refine MovesO.whenDo ?_ ?_
  with_reducible exact Moves.refl _ _
  with_reducible refine Moves.step ?_ (afterRun_mv _ _) rfl
  with_reducible refine Moves.step ?_ (runDone_mv _ _ _ _ _) rfl
  with_reducible exact Moves.refl _ _

theorem execTransitCclkWindow_mv (x0 : Nat) (x1 : State) : MovesO 137732080 x1 (execTransitCclkWindow x0 x1) := by
  unfold execTransitCclkWindow
  with_reducible refine MovesO.whenDo ?_ ?_
  with_reducible exact Moves.refl _ _
  with_reducible refine Moves.step ?_ (afterRun_mv _ _) rfl
  with_reducible refine Moves.step ?_ (cclkWindow_mv _ _) rfl
  with_reducible exact Moves.refl _ _

theorem execWatchReading_mv (x0 : Nat) (x1 : WatchValue) (x2 : State) : MovesO 536870896 x2 (execWatchReading x0 x1 x2) := by
  unfold execWatchReading
  with_reducible refine MovesO.whenDo ?_ ?_
  with_reducible exact Moves.refl _ _
  with_reducible refine Moves.step ?_ (afterRun_mv _ _) rfl
  with_reducible refine Moves.step ?_ (watchRead_mv _ _ _ _ _ _) rfl
  with_reducible exact Moves.refl _ _

theorem checkBlock_mv (x0 : State) (x1 : Nat) : Moves 72176 x0 (checkBlock x0 x1).2 := by
  unfold checkBlock
  lift_lets
  (intro c1; clear_value c1)
  split
  lift_lets
  (intro c4; clear_value c4)
  with_reducible refine Moves.ite2 ?_ ?_
  dsimp -zeta only
  with_reducible refine Moves.step ?_ (dramWrite_mv _ _ _ _) rfl
  with_reducible refine Moves.step ?_ (afterRead_mv _ _ _ _ _ _) rfl
  with_reducible refine Moves.step ?_ (bump_mv _ _ _) rfl
  with_reducible refine Moves.step ?_ (Moves.snd (by assumption) (readWord_mv _ _)) rfl
  with_reducible refine Moves.step ?_ (State.tick_mv _) rfl
  with_reducible exact Moves.refl _ _
  with_reducible refine Moves.ite2 ?_ ?_
  dsimp -zeta only
  with_reducible refine Moves.step ?_ (poisonSteps_mv _ _ _) rfl
  with_reducible refine Moves.step ?_ (dramWrite_mv _ _ _ _) rfl
  with_reducible refine Moves.step ?_ (bump_mv _ _ _) rfl
  with_reducible refine Moves.step ?_ (bump_mv _ _ _) rfl
  with_reducible refine Moves.step ?_ (Moves.snd (by assumption) (readWord_mv _ _)) rfl
  with_reducible refine Moves.step ?_ (State.tick_mv _) rfl
  with_reducible exact Moves.refl _ _
  dsimp -zeta only
  with_reducible refine Moves.step ?_ (Moves.snd (by assumption) (readWord_mv _ _)) rfl
  with_reducible refine Moves.step ?_ (State.tick_mv _) rfl
  with_reducible exact Moves.refl _ _

theorem checkEntry_mv (x0 : State) (x1 : Nat) (x2 : WiEnt) : Moves 72176 x0 (checkEntry x0 x1 x2).2 := by
  unfold checkEntry
  (with_reducible refine Moves.foldl_snd _ _ _ ?_ ?_; rotate_left; intro _ _ _; dsimp -zeta only)
  with_reducible refine Moves.step ?_ (checkBlock_mv _ _) rfl
  with_reducible assumption
  with_reducible exact Moves.refl _ _

theorem wiCheck_mv (x0 : State) (x1 : Fin 256) : Moves 1137136 x0 (wiCheck x0 x1) := by
  unfold wiCheck
  split
  with_reducible exact Moves.refl _ _
  lift_lets
  (intro c3; clear_value c3)
  (intro s4; refine Moves.cut (P := Moves 1137136 x0 s4) ?_ ?_; rotate_left; intro h4; clear_value s4)
  split
  lift_lets
  (intro c7; clear_value c7)
  (intro s8; refine Moves.cut (P := Moves 1137136 x0 s8) ?_ ?_; rotate_left; intro h8; clear_value s8)
  with_reducible refine Moves.step ?_ (raise_mv _ _ _ _ _ _) rfl
  assumption
  subst s4
  with_reducible refine Moves.step ?_ (rowCycle_mv _ _ _ _ _ _) rfl
  with_reducible exact Moves.refl _ _
  subst s8
  with_reducible refine Moves.mk' (m := 1137136) ?_ (.inl rfl) (.inl rfl) (.inl rfl) (.inl rfl) (.inl rfl) (.inr rfl) (.inr rfl) (.inl rfl) (.inl rfl) (by rfl) (by rfl) (.inr rfl) (.inl rfl) (.inr rfl) (.inl rfl) (.inr rfl) (.inr rfl) (.inr rfl) (.inl rfl) (.inr rfl) (.inr rfl) (.inr rfl) (.inr rfl) (.inr rfl) (.inr rfl) (.inr rfl) (.inr rfl)
  with_reducible refine Moves.step ?_ (Moves.snd (by assumption) (checkEntry_mv _ _ _)) rfl
  assumption

theorem restoreRow_mv (x0 : State) (x1 : Bool) (x2 : Nat × Nat × Nat) : Moves 1169904 x0 (restoreRow x0 x1 x2) := by
  unfold restoreRow
  lift_lets
  (intro s1; refine Moves.cut (P := Moves 1169904 x0 s1) ?_ ?_; rotate_left; intro h1; clear_value s1)
  (intro s2; refine Moves.cut (P := Moves 1169904 x0 s2) ?_ ?_; rotate_left; intro h2; clear_value s2)
  with_reducible refine Moves.ite ?_ ?_
  with_reducible refine Moves.step ?_ (ownWrites_mv _ _) rfl
  assumption
  assumption
  subst s1
  (with_reducible refine Moves.foldl _ _ ?_ ?_; rotate_left; intro _ _ _)
  with_reducible refine Moves.step ?_ (wiCheck_mv _ _) rfl
  assumption
  subst s2
  (with_reducible refine Moves.foldl _ _ ?_ ?_; rotate_left; intro _ _ _)
  with_reducible refine Moves.step ?_ (flushLine_mv _ _) rfl
  assumption
  with_reducible exact Moves.refl _ _
  assumption

theorem restoreDram_mv (x0 : State) (x1 : Bool) : Moves 1169904 x0 (restoreDram x0 x1) := by
  unfold restoreDram
  lift_lets
  (intro s1; refine Moves.cut (P := Moves 1169904 x0 s1) ?_ ?_; rotate_left; intro h1; clear_value s1)
  (intro c2; clear_value c2)
  (intro c3; subst c3)
  (intro c4; clear_value c4)
  with_reducible exact Moves.mk' (m := 1169904) (by assumption) (.inl rfl) (.inl rfl) (.inl rfl) (.inl rfl) (.inl rfl) (.inr rfl) (.inr rfl) (.inl rfl) (.inl rfl) (by rfl) (by rfl) (.inr rfl) (.inl rfl) (.inl rfl) (.inl rfl) (.inr rfl) (.inr rfl) (.inr rfl) (.inl rfl) (.inr rfl) (.inr rfl) (.inr rfl) (.inr rfl) (.inr rfl) (.inr rfl) (.inr rfl) (.inr rfl)
  subst s1
  (with_reducible refine Moves.foldl _ _ ?_ ?_; rotate_left; intro _ _ _)
  with_reducible refine Moves.step ?_ (restoreRow_mv _ _ _) rfl
  assumption
  with_reducible exact Moves.refl _ _

theorem replaceRecords_mv (x0 : State) : Moves 70128 x0 (replaceRecords x0) := by
  unfold replaceRecords
  lift_lets
  (intro c1; clear_value c1)
  (intro c2; clear_value c2)
  (intro c3; subst c3)
  (intro s4; refine Moves.cut (P := Moves 70128 x0 s4) ?_ ?_; rotate_left; intro h4; clear_value s4)
  (intro s5; refine Moves.cut (P := Moves 70128 x0 s5) ?_ ?_; rotate_left; intro h5; clear_value s5)
  with_reducible refine Moves.step ?_ (raiseJ_mv _ _ _ _ _ _) rfl
  assumption
  subst s4
  with_reducible exact Moves.mk' (m := 70128) (Moves.refl _ _) (.inl rfl) (.inl rfl) (.inl rfl) (.inl rfl) (.inl rfl) (.inr rfl) (.inr rfl) (.inr rfl) (.inl rfl) (by rfl) (by rfl) (.inr rfl) (.inr rfl) (.inr rfl) (.inl rfl) (.inr rfl) (.inr rfl) (.inr rfl) (.inr rfl) (.inr rfl) (.inr rfl) (.inr rfl) (.inr rfl) (.inr rfl) (.inr rfl) (.inr rfl) (.inr rfl)
  subst s5
  (with_reducible refine Moves.foldl _ _ ?_ ?_; rotate_left; intro _ _ _)
  with_reducible refine Moves.step ?_ (csrSet_mv _ _ _) rfl
  assumption
  assumption

theorem failCutWays_mv (x0 : State) : Moves 55792 x0 (failCutWays x0) := by
  unfold failCutWays
  lift_lets
  (intro c1; clear_value c1)
  (intro c2; clear_value c2)
  (with_reducible refine Moves.foldl _ _ ?_ ?_; rotate_left; intro _ _ _)
  with_reducible refine Moves.step ?_ (disableWay_mv _ _) rfl
  assumption
  with_reducible exact Moves.mk' (m := 55792) (Moves.refl _ _) (.inl rfl) (.inl rfl) (.inl rfl) (.inl rfl) (.inl rfl) (.inr rfl) (.inr rfl) (.inl rfl) (.inl rfl) (by rfl) (by rfl) (.inr rfl) (.inl rfl) (.inl rfl) (.inr rfl) (.inr rfl) (.inr rfl) (.inr rfl) (.inr rfl) (.inr rfl) (.inr rfl) (.inr rfl) (.inr rfl) (.inr rfl) (.inr rfl) (.inr rfl) (.inr rfl)

theorem restoreMemory_mv (x0 : State) : Moves 1169904 x0 (restoreMemory x0) := by
  unfold restoreMemory
  with_reducible refine Moves.ite ?_ ?_
  with_reducible exact Moves.refl _ _
  lift_lets
  (intro s3; refine Moves.cut (P := Moves 1169904 x0 s3) ?_ ?_; rotate_left; intro h3; clear_value s3)
  with_reducible refine Moves.ite ?_ ?_
  with_reducible refine Moves.step ?_ (replaceRecords_mv _) rfl
  assumption
  assumption
  subst s3
  with_reducible refine Moves.step ?_ (restoreDram_mv _ _) rfl
  with_reducible exact Moves.refl _ _

theorem reportTorn_mv (x0 : State) : Moves 496 x0 (reportTorn x0) := by
  unfold reportTorn
  with_reducible refine Moves.ite ?_ ?_
  with_reducible exact Moves.refl _ _
  lift_lets
  (intro s3; refine Moves.cut (P := Moves 496 x0 s3) ?_ ?_; rotate_left; intro h3; clear_value s3)
  with_reducible refine Moves.step ?_ (raiseJ_mv _ _ _ _ _ _) rfl
  assumption
  subst s3
  with_reducible refine Moves.step ?_ (journal_mv _ _ _ _) rfl
  with_reducible exact Moves.refl _ _

theorem releasePort_mv (x0 : State) (x1 : Port) : Moves 512 x0 (releasePort x0 x1) := by
  unfold releasePort
  split
  with_reducible refine Moves.step ?_ (pctlSend_mv _ _ _ _ _) rfl
  with_reducible refine Moves.step ?_ (State.modLink_mv _ _ _) rfl
  with_reducible exact Moves.refl _ _
  with_reducible exact Moves.refl _ _

theorem setReady_mv (x0 : State) (x1 : Nat) : Moves 45772272 x0 (setReady x0 x1) := by
  unfold setReady
  lift_lets
  (intro c1; clear_value c1)
  (intro c2; clear_value c2)
  (intro c3; clear_value c3)
  (intro c4; clear_value c4)
  (intro c5; clear_value c5)
  (intro c6; clear_value c6)
  (intro c7; clear_value c7)
  (intro c8; clear_value c8)
  (intro s9; refine Moves.cut (P := Moves 45772272 x0 s9) ?_ ?_; rotate_left; intro h9; clear_value s9)
  (intro s10; refine Moves.cut (P := Moves 45772272 x0 s10) ?_ ?_; rotate_left; intro h10; clear_value s10)
  (intro c11; clear_value c11)
  (intro s12; refine Moves.cut (P := Moves 45772272 x0 s12) ?_ ?_; rotate_left; intro h12; clear_value s12)
  (intro s13; refine Moves.cut (P := Moves 45772272 x0 s13) ?_ ?_; rotate_left; intro h13; clear_value s13)
  (intro s14; refine Moves.cut (P := Moves 45772272 x0 s14) ?_ ?_; rotate_left; intro h14; clear_value s14)
  (intro s15; refine Moves.cut (P := Moves 45772272 x0 s15) ?_ ?_; rotate_left; intro h15; clear_value s15)
  with_reducible refine Moves.step ?_ (startLink_mv _) rfl
  assumption
  subst s9
  with_reducible exact Moves.mk' (m := 45772272) (Moves.refl _ _) (.inl rfl) (.inl rfl) (.inl rfl) (.inl rfl) (.inl rfl) (.inr rfl) (.inl rfl) (.inl rfl) (.inr rfl) rfl rfl (.inl rfl) (.inl rfl) (.inr rfl) (.inr rfl) (.inl rfl) (.inr rfl) (.inl rfl) (.inl rfl) (.inl rfl) (.inr rfl) (.inl rfl) (.inr rfl) (.inl rfl) (.inr rfl) (.inr rfl) (.inr rfl)
  subst s10
  with_reducible refine Moves.ite ?_ ?_
  with_reducible refine Moves.step ?_ (jtagBypass_mv _) rfl
  assumption
  assumption
  subst s12
  with_reducible refine Moves.ite ?_ ?_
  assumption
  with_reducible refine Moves.step ?_ (scrubRelease_mv _) rfl
  with_reducible exact Moves.mk' (m := 45772272) (by assumption) (.inl rfl) (.inl rfl) (.inl rfl) (.inl rfl) (.inl rfl) (.inr rfl) (.inl rfl) (.inl rfl) (.inr rfl) rfl rfl (.inl rfl) (.inl rfl) (.inr rfl) (.inr rfl) (.inl rfl) (.inr rfl) (.inl rfl) (.inl rfl) (.inl rfl) (.inr rfl) (.inl rfl) (.inr rfl) (.inl rfl) (.inr rfl) (.inr rfl) (.inr rfl)
  subst s13
  with_reducible refine Moves.step ?_ (raise_mv _ _ _ _ _ _) rfl
  assumption
  subst s14
  with_reducible refine Moves.ite ?_ ?_
  assumption
  with_reducible refine Moves.step ?_ (raiseJ_mv _ _ _ _ _ _) rfl
  assumption
  subst s15
  with_reducible refine Moves.ite ?_ ?_
  with_reducible refine Moves.step ?_ (raise_mv _ _ _ _ _ _) rfl
  assumption
  assumption

theorem release_mv (x0 : State) (x1 : Nat) : Moves 45875184 x0 (release x0 x1) := by
  unfold release
  lift_lets
  (intro s1; refine Moves.cut (P := Moves 45875184 x0 s1) ?_ ?_; rotate_left; intro h1; clear_value s1)
  (intro s2; refine Moves.cut (P := Moves 45875184 x0 s2) ?_ ?_; rotate_left; intro h2; clear_value s2)
  (intro s3; refine Moves.cut (P := Moves 45875184 x0 s3) ?_ ?_; rotate_left; intro h3; clear_value s3)
  (intro s4; refine Moves.cut (P := Moves 45875184 x0 s4) ?_ ?_; rotate_left; intro h4; clear_value s4)
  (intro s5; refine Moves.cut (P := Moves 45875184 x0 s5) ?_ ?_; rotate_left; intro h5; clear_value s5)
  with_reducible refine Moves.step ?_ (setReady_mv _ _) rfl
  assumption
  subst s1
  with_reducible refine Moves.step ?_ (State.atLeast_mv _ _) rfl
  with_reducible exact Moves.refl _ _
  subst s2
  with_reducible refine Moves.step ?_ (reportTorn_mv _) rfl
  with_reducible refine Moves.step ?_ (failCutWays_mv _) rfl
  with_reducible refine Moves.step ?_ (restoreMemory_mv _) rfl
  assumption
  subst s3
  with_reducible refine Moves.step ?_ (applySettings_mv _) rfl
  assumption
  subst s4
  (with_reducible refine Moves.foldl _ _ ?_ ?_; rotate_left; intro _ _ _)
  with_reducible refine Moves.step ?_ (releasePort_mv _ _) rfl
  assumption
  subst s5
  with_reducible refine Moves.ite ?_ ?_
  with_reducible exact Moves.mk' (m := 45875184) (by assumption) (.inl rfl) (.inl rfl) (.inl rfl) (.inl rfl) (.inl rfl) (.inl rfl) (.inl rfl) (.inl rfl) (.inl rfl) (by rfl) (by rfl) (.inl rfl) (.inl rfl) (.inl rfl) (.inl rfl) (.inl rfl) (.inr rfl) (.inl rfl) (.inl rfl) (.inl rfl) (.inr rfl) (.inl rfl) (.inr rfl) (.inl rfl) (.inr rfl) (.inr rfl) (.inr rfl)
  with_reducible refine Moves.step ?_ (wakeAll_mv _ _) rfl
  assumption
  assumption

theorem execStartRelease_mv (x0 : Nat) (x1 : State) : MovesO 45875184 x1 (execStartRelease x0 x1) := by
  unfold execStartRelease
  with_reducible refine MovesO.whenDo ?_ ?_
  with_reducible exact Moves.refl _ _
  with_reducible refine Moves.ite ?_ ?_
  with_reducible refine Moves.step ?_ (haltStart_mv _ _) rfl
  with_reducible exact Moves.refl _ _
  with_reducible refine Moves.step ?_ (release_mv _ _) rfl
  with_reducible exact Moves.refl _ _

theorem restartStart_mv (x0 : State) (x1 : Nat) : Moves 3543024 x0 (restartStart x0 x1) := by
  unfold restartStart
  lift_lets
  (intro c1; clear_value c1)
  (intro s2; refine Moves.cut (P := Moves 3543024 x0 s2) ?_ ?_; rotate_left; intro h2; clear_value s2)
  (intro s3; refine Moves.cut (P := Moves 3543024 x0 s3) ?_ ?_; rotate_left; intro h3; clear_value s3)
  (intro c4; clear_value c4)
  (intro c5; clear_value c5)
  (intro c6; clear_value c6)
  (intro s7; refine Moves.cut (P := Moves 3543024 x0 s7) ?_ ?_; rotate_left; intro h7; clear_value s7)
  with_reducible refine Moves.step ?_ (raise_mv _ _ _ _ _ _) rfl
  assumption
  subst s2
  with_reducible refine Moves.step ?_ (restartRegs_mv _ _ _) rfl
  with_reducible exact Moves.refl _ _
  subst s3
  with_reducible exact Moves.mk' (m := 3543024) (by assumption) (.inl rfl) (.inl rfl) (.inl rfl) (.inl rfl) (.inl rfl) (.inl rfl) (.inl rfl) (.inl rfl) (.inr rfl) rfl rfl (.inr rfl) (.inr rfl) (.inr rfl) (.inr rfl) (.inl rfl) (.inl rfl) (.inr rfl) (.inl rfl) (.inl rfl) (.inr rfl) (.inr rfl) (.inr rfl) (.inr rfl) (.inr rfl) (.inr rfl) (.inr rfl)
  subst s7
  with_reducible exact Moves.mk' (m := 3543024) (by assumption) (.inl rfl) (.inl rfl) (.inl rfl) (.inl rfl) (.inl rfl) (.inl rfl) (.inl rfl) (.inl rfl) (.inr rfl) rfl rfl (.inr rfl) (.inr rfl) (.inr rfl) (.inr rfl) (.inl rfl) (.inl rfl) (.inr rfl) (.inl rfl) (.inl rfl) (.inr rfl) (.inr rfl) (.inr rfl) (.inr rfl) (.inr rfl) (.inr rfl) (.inr rfl)

theorem warmReset_mv (x0 : State) (x1 : Nat) : Moves 536870896 x0 (warmReset x0 x1) := by
  unfold warmReset
  lift_lets
  (intro s1; refine Moves.cut (P := Moves 536870896 x0 s1) ?_ ?_; rotate_left; intro h1; clear_value s1)
  (intro s2; refine Moves.cut (P := Moves 536870896 x0 s2) ?_ ?_; rotate_left; intro h2; clear_value s2)
  (intro c3; clear_value c3)
  (intro c4; clear_value c4)
  (intro c5; clear_value c5)
  with_reducible exact Moves.mk' (m := 536870896) (by assumption) (.inl rfl) (.inl rfl) (.inl rfl) (.inl rfl) (.inl rfl) (.inl rfl) (.inl rfl) (.inl rfl) (.inl rfl) (by rfl) (by rfl) (.inl rfl) (.inl rfl) (.inl rfl) (.inl rfl) (.inl rfl) (.inl rfl) (.inl rfl) (.inl rfl) (.inl rfl) (.inl rfl) (.inl rfl) (.inl rfl) (.inl rfl) (.inl rfl) (.inl rfl) (.inl rfl)
  subst s1
  with_reducible refine Moves.step ?_ (drainSteps_mv _ _ _) rfl
  with_reducible refine Moves.step ?_ (drainStart_mv _ _ _) rfl
  with_reducible exact Moves.refl _ _
  subst s2
  with_reducible refine Moves.ite ?_ ?_
  with_reducible refine Moves.step ?_ (stopLink_mv _ _) rfl
  assumption
  assumption

theorem execPrstAssert_mv (x0 : Fin 8) (x1 : State) : MovesO 536870896 x1 (execPrstAssert x0 x1) := by
  unfold execPrstAssert
  split
  with_reducible refine MovesO.next ?_
  with_reducible refine Moves.step ?_ (warmReset_mv _ _) rfl
  with_reducible exact Moves.refl _ _
  with_reducible refine MovesO.next ?_
  with_reducible refine Moves.step ?_ (restartStart_mv _ _) rfl
  with_reducible exact Moves.refl _ _
  with_reducible refine MovesO.next ?_
  with_reducible refine Moves.step ?_ (restartStart_mv _ _) rfl
  with_reducible exact Moves.refl _ _
  with_reducible refine MovesO.next ?_
  with_reducible exact Moves.refl _ _

theorem hardReset_mv (x0 : State) : Moves 37166096 x0 (hardReset x0) := by
  unfold hardReset
  lift_lets
  (intro c1; clear_value c1)
  (intro c2; clear_value c2)
  (intro s3; refine Moves.cut (P := Moves 37166096 x0 s3) ?_ ?_; rotate_left; intro h3; clear_value s3)
  (intro c4; clear_value c4)
  (intro s5; refine Moves.cut (P := Moves 37166096 x0 s5) ?_ ?_; rotate_left; intro h5; clear_value s5)
  (intro c6; clear_value c6)
  (intro c7; clear_value c7)
  (intro c8; clear_value c8)
  with_reducible exact Moves.mk' (m := 37166096) (by assumption) (.inl rfl) (.inr rfl) (.inr rfl) (.inr rfl) (.inr rfl) (.inr rfl) (.inl rfl) (.inl rfl) (.inl rfl) (by rfl) (by rfl) (.inr rfl) (.inr rfl) (.inr rfl) (.inl rfl) (.inl rfl) (.inl rfl) (.inr rfl) (.inl rfl) (.inl rfl) (.inr rfl) (.inr rfl) (.inr rfl) (.inl rfl) (.inr rfl) (.inr rfl) (.inr rfl)
  subst s3
  (with_reducible refine Moves.foldl _ _ ?_ ?_; rotate_left; intro _ _ _)
  with_reducible refine Moves.step ?_ (wiClear_mv _ _) rfl
  assumption
  subst s5
  with_reducible refine Moves.step ?_ (selfRefreshAll_mv _) rfl
  with_reducible exact Moves.mk' (m := 37166096) (by assumption) (.inl rfl) (.inr rfl) (.inr rfl) (.inr rfl) (.inr rfl) (.inr rfl) (.inl rfl) (.inl rfl) (.inl rfl) (by rfl) (by rfl) (.inr rfl) (.inr rfl) (.inr rfl) (.inl rfl) (.inl rfl) (.inl rfl) (.inr rfl) (.inl rfl) (.inl rfl) (.inr rfl) (.inr rfl) (.inr rfl) (.inl rfl) (.inr rfl) (.inr rfl) (.inr rfl)
  with_reducible refine Moves.step ?_ (transitStop_mv _) rfl
  with_reducible refine Moves.step ?_ (fuseStop_mv _) rfl
  with_reducible exact Moves.refl _ _

theorem execHrstAssert_mv (x0 : State) : MovesO 37167088 x0 (execHrstAssert x0) := by
  unfold execHrstAssert
  split
  with_reducible refine MovesO.next ?_
  with_reducible refine Moves.step ?_ (hardReset_mv _) rfl
  with_reducible exact Moves.refl _ _
  with_reducible refine MovesO.next ?_
  with_reducible refine Moves.step ?_ (hardReset_mv _) rfl
  with_reducible exact Moves.refl _ _
  with_reducible refine MovesO.next ?_
  with_reducible refine Moves.step ?_ (restartStart_mv _ _) rfl
  with_reducible exact Moves.refl _ _
  with_reducible refine MovesO.next ?_
  with_reducible refine Moves.step ?_ (restartStart_mv _ _) rfl
  with_reducible exact Moves.refl _ _
  with_reducible refine MovesO.next ?_
  with_reducible exact Moves.refl _ _

theorem logicRelease_mv (x0 : State) (x1 : Nat) : Moves 536870896 x0 (logicRelease x0 x1) := by
  unfold logicRelease
  lift_lets
  (intro s1; refine Moves.cut (P := Moves 536870896 x0 s1) ?_ ?_; rotate_left; intro h1; clear_value s1)
  (intro c2; clear_value c2)
  (intro s3; refine Moves.cut (P := Moves 536870896 x0 s3) ?_ ?_; rotate_left; intro h3; clear_value s3)
  (intro c4; clear_value c4)
  (intro s5; refine Moves.cut (P := Moves 536870896 x0 s5) ?_ ?_; rotate_left; intro h5; clear_value s5)
  (intro c6; clear_value c6)
  (intro s7; refine Moves.cut (P := Moves 536870896 x0 s7) ?_ ?_; rotate_left; intro h7; clear_value s7)
  with_reducible refine Moves.step ?_ (decideSeries_mv _ _ _ _) rfl
  assumption
  subst s1
  with_reducible refine Moves.step ?_ (State.atLeast_mv _ _) rfl
  with_reducible exact Moves.refl _ _
  subst s3
  with_reducible refine Moves.step ?_ (restartState_mv _ _ _ _ _) rfl
  assumption
  subst s5
  with_reducible refine Moves.ite ?_ ?_
  with_reducible refine Moves.step ?_ (reportSeal_mv _ _) rfl
  assumption
  with_reducible exact Moves.mk' (m := 536870896) (by assumption) (.inl rfl) (.inl rfl) (.inl rfl) (.inl rfl) (.inl rfl) (.inl rfl) (.inl rfl) (.inl rfl) (.inl rfl) (by rfl) (by rfl) (.inl rfl) (.inl rfl) (.inl rfl) (.inl rfl) (.inl rfl) (.inl rfl) (.inl rfl) (.inl rfl) (.inl rfl) (.inl rfl) (.inl rfl) (.inl rfl) (.inl rfl) (.inl rfl) (.inl rfl) (.inl rfl)
  subst s7
  with_reducible exact Moves.mk' (m := 536870896) (by assumption) (.inl rfl) (.inl rfl) (.inl rfl) (.inl rfl) (.inl rfl) (.inl rfl) (.inl rfl) (.inl rfl) (.inl rfl) (by rfl) (by rfl) (.inl rfl) (.inl rfl) (.inl rfl) (.inl rfl) (.inl rfl) (.inl rfl) (.inl rfl) (.inl rfl) (.inl rfl) (.inl rfl) (.inl rfl) (.inl rfl) (.inl rfl) (.inl rfl) (.inl rfl) (.inl rfl)

theorem finishQuiesce_mv (x0 : State) : Moves 536870896 x0 (finishQuiesce x0) := by
  unfold finishQuiesce
  with_reducible refine Moves.ite ?_ ?_
  with_reducible exact Moves.refl _ _
  with_reducible refine Moves.step ?_ (stopLink_mv _ _) rfl
  with_reducible refine Moves.step ?_ (drainSteps_mv _ _ _) rfl
  with_reducible exact Moves.refl _ _

theorem execLogicResetRelease_mv (x0 : State) : MovesO 536870896 x0 (execLogicResetRelease x0) := by
  unfold execLogicResetRelease
  split
  with_reducible refine MovesO.next ?_
  with_reducible refine Moves.step ?_ (logicRelease_mv _ _) rfl
  with_reducible refine Moves.step ?_ (finishQuiesce_mv _) rfl
  with_reducible exact Moves.refl _ _
  with_reducible refine MovesO.next ?_
  with_reducible refine Moves.step ?_ (logicRelease_mv _ _) rfl
  with_reducible exact Moves.refl _ _
  with_reducible refine MovesO.next ?_
  with_reducible exact Moves.refl _ _

theorem execPfailDetectArm_mv (x0 : State) : MovesO 3145744 x0 (execPfailDetectArm x0) := by
  unfold execPfailDetectArm
  split
  with_reducible refine MovesO.whenDo ?_ ?_
  with_reducible exact Moves.refl _ _
  lift_lets
  (intro s4; refine Moves.cut (P := Moves 3145744 x0 s4) ?_ ?_; rotate_left; intro h4; clear_value s4)
  (intro c5; clear_value c5)
  (intro c6; clear_value c6)
  with_reducible exact Moves.mk' (m := 3145744) (by assumption) (.inl rfl) (.inr rfl) (.inr rfl) (.inr rfl) (.inr rfl) (.inr rfl) (.inr rfl) (.inr rfl) (.inr rfl) rfl rfl (.inr rfl) (.inr rfl) (.inr rfl) (.inr rfl) (.inr rfl) (.inr rfl) (.inr rfl) (.inl rfl) (.inl rfl) (.inr rfl) (.inr rfl) (.inr rfl) (.inr rfl) (.inr rfl) (.inr rfl) (.inr rfl)
  with_reducible refine MovesO.next ?_
  with_reducible exact Moves.refl _ _
  subst s4
  with_reducible refine Moves.step ?_ (State.atLeast_mv _ _) rfl
  with_reducible exact Moves.refl _ _

end Sys2Proof.Machine
end

