-- ==== Sys2Proof/Laws/FrameRegWrite.lean ====
section
/-! SUPPORT. What each operation of Machine/RegWrite.lean may change, one lemma an operation (`<name>_mv`): the components its
mask names, and nothing else of the state. -/

namespace Sys2Proof.Machine

theorem writeLost_mv (x0 : State) (x1 : Path) (x2 : Nat) : Moves 496 x0 (writeLost x0 x1 x2) := by
  unfold writeLost
  lift_lets
  (intro c1; clear_value c1)
  (intro c2; clear_value c2)
  (intro s3; refine Moves.cut (P := Moves 496 x0 s3) ?_ ?_; rotate_left; intro h3; clear_value s3)
  with_reducible refine Moves.step ?_ (raiseLim_mv _ _ _ _ _ _ _ _ _ _) rfl
  assumption
  subst s3
  with_reducible exact Moves.mk' (m := 496) (Moves.refl _ _) (.inl rfl) (.inl rfl) (.inl rfl) (.inl rfl) (.inl rfl) (.inr rfl) (.inr rfl) (.inr rfl) (.inr rfl) rfl rfl (.inr rfl) (.inr rfl) (.inr rfl) (.inr rfl) (.inr rfl) (.inr rfl) (.inr rfl) (.inr rfl) (.inr rfl) (.inr rfl) (.inr rfl) (.inr rfl) (.inr rfl) (.inr rfl) (.inr rfl) (.inr rfl)

theorem storeWord_mv (x0 : State) (x1 : Path) (x2 : RegRow) (x3 : Nat) (x4 : Nat) : Moves 496 x0 (storeWord x0 x1 x2 x3 x4) := by
  unfold storeWord
  lift_lets
  (intro s1; refine Moves.cut (P := Moves 496 x0 s1) ?_ ?_; rotate_left; intro h1; clear_value s1)
  (intro c2; clear_value c2)
  (intro c3; clear_value c3)
  (intro c4; clear_value c4)
  (intro c5; clear_value c5)
  (intro s6; refine Moves.cut (P := Moves 496 x0 s6) ?_ ?_; rotate_left; intro h6; clear_value s6)
  (intro c7; clear_value c7)
  (intro s8; refine Moves.cut (P := Moves 496 x0 s8) ?_ ?_; rotate_left; intro h8; clear_value s8)
  with_reducible refine Moves.ite ?_ ?_
  with_reducible refine Moves.step ?_ (csrSet_mv _ _ _) rfl
  assumption
  with_reducible refine Moves.ite ?_ ?_
  with_reducible refine Moves.step ?_ (csrSet_mv _ _ _) rfl
  assumption
  with_reducible refine Moves.ite ?_ ?_
  assumption
  with_reducible refine Moves.step ?_ (writeLost_mv _ _ _) rfl
  assumption
  subst s1
  with_reducible refine Moves.step ?_ (keepCsr_mv _) rfl
  with_reducible exact Moves.refl _ _
  subst s6
  with_reducible refine Moves.step ?_ (csrSet_mv _ _ _) rfl
  assumption
  subst s8
  with_reducible exact Moves.mk' (m := 496) (by assumption) (.inl rfl) (.inl rfl) (.inl rfl) (.inl rfl) (.inl rfl) (.inr rfl) (.inr rfl) (.inr rfl) (.inr rfl) rfl rfl (.inr rfl) (.inr rfl) (.inr rfl) (.inr rfl) (.inr rfl) (.inr rfl) (.inr rfl) (.inr rfl) (.inr rfl) (.inr rfl) (.inr rfl) (.inr rfl) (.inr rfl) (.inr rfl) (.inr rfl) (.inr rfl)

theorem storeSetting_mv (x0 : State) (x1 : Path) (x2 : RegRow) (x3 : Nat) (x4 : Nat) : Moves 67109360 x0 (storeSetting x0 x1 x2 x3 x4) := by
  unfold storeSetting
  lift_lets
  (intro s1; refine Moves.cut (P := Moves 67109360 x0 s1) ?_ ?_; rotate_left; intro h1; clear_value s1)
  (intro c2; clear_value c2)
  with_reducible refine Moves.step ?_ (journalReg_mv _ _ _ _ _) rfl
  with_reducible exact Moves.mk' (m := 67109360) (by assumption) (.inl rfl) (.inl rfl) (.inl rfl) (.inl rfl) (.inl rfl) (.inr rfl) (.inr rfl) (.inr rfl) (.inr rfl) rfl rfl (.inr rfl) (.inr rfl) (.inr rfl) (.inr rfl) (.inr rfl) (.inr rfl) (.inr rfl) (.inr rfl) (.inr rfl) (.inr rfl) (.inr rfl) (.inr rfl) (.inr rfl) (.inl rfl) (.inr rfl) (.inr rfl)
  subst s1
  with_reducible refine Moves.step ?_ (storeWord_mv _ _ _ _ _) rfl
  with_reducible exact Moves.refl _ _

theorem clearRings_mv (x0 : State) : Moves 16 x0 (clearRings x0) := by
  unfold clearRings
  (with_reducible refine Moves.foldl _ _ ?_ ?_; rotate_left; intro _ _ _)
  (with_reducible refine Moves.foldl _ _ ?_ ?_; rotate_left; intro _ _ _)
  with_reducible refine Moves.step ?_ (csrSet_mv _ _ _) rfl
  assumption
  with_reducible exact Moves.refl _ _
  assumption

theorem setMode_mv (x0 : State) (x1 : Nat) (x2 : Bool) : Moves 16 x0 (setMode x0 x1 x2) := by
  unfold setMode
  lift_lets
  (intro c1; clear_value c1)
  (intro s2; refine Moves.cut (P := Moves 16 x0 s2) ?_ ?_; rotate_left; intro h2; clear_value s2)
  (intro s3; refine Moves.cut (P := Moves 16 x0 s3) ?_ ?_; rotate_left; intro h3; clear_value s3)
  with_reducible refine Moves.ite ?_ ?_
  with_reducible refine Moves.step ?_ (clearRings_mv _) rfl
  assumption
  assumption
  subst s2
  with_reducible refine Moves.step ?_ (csrSet_mv _ _ _) rfl
  with_reducible exact Moves.refl _ _
  subst s3
  (with_reducible refine Moves.foldl _ _ ?_ ?_; rotate_left; intro _ _ _)
  with_reducible refine Moves.step ?_ (csrSet_mv _ _ _) rfl
  assumption
  assumption

theorem writeMode_mv (x0 : State) (x1 : Path) (x2 : RegRow) (x3 : Nat) (x4 : Nat) : Moves 496 x0 (writeMode x0 x1 x2 x3 x4) := by
  unfold writeMode
  lift_lets
  (intro c1; clear_value c1)
  (intro s2; refine Moves.cut (P := Moves 496 x0 s2) ?_ ?_; rotate_left; intro h2; clear_value s2)
  (intro s3; refine Moves.cut (P := Moves 496 x0 s3) ?_ ?_; rotate_left; intro h3; clear_value s3)
  with_reducible refine Moves.step ?_ (storeWord_mv _ _ _ _ _) rfl
  assumption
  subst s2
  with_reducible refine Moves.step ?_ (keepCsr_mv _) rfl
  with_reducible exact Moves.refl _ _
  subst s3
  with_reducible refine Moves.ite ?_ ?_
  assumption
  with_reducible refine Moves.ite ?_ ?_
  with_reducible refine Moves.step ?_ (regAccess_mv _ _ _ _) rfl
  assumption
  with_reducible refine Moves.step ?_ (setMode_mv _ _ _) rfl
  assumption

theorem qosCfg_mv (x0 : State) (x1 : Port) (x2 : Nat) : Moves 496 x0 (qosCfg x0 x1 x2) := by
  unfold qosCfg
  with_reducible refine Moves.step ?_ (raiseLim_mv _ _ _ _ _ _ _ _ _ _) rfl
  with_reducible exact Moves.refl _ _

theorem writePort_mv (x0 : State) (x1 : Path) (x2 : RegRow) (x3 : Nat) (x4 : Nat) : Moves 496 x0 (writePort x0 x1 x2 x3 x4) := by
  unfold writePort
  with_reducible refine Moves.ite ?_ ?_
  with_reducible refine Moves.step ?_ (writeMode_mv _ _ _ _ _) rfl
  with_reducible exact Moves.refl _ _
  lift_lets
  (intro s4; refine Moves.cut (P := Moves 496 x0 s4) ?_ ?_; rotate_left; intro h4; clear_value s4)
  (intro c5; clear_value c5)
  (intro c6; clear_value c6)
  (intro c7; clear_value c7)
  with_reducible refine Moves.ite ?_ ?_
  assumption
  with_reducible refine Moves.ite ?_ ?_
  with_reducible refine Moves.ite ?_ ?_
  assumption
  with_reducible refine Moves.step ?_ (qosCfg_mv _ _ _) rfl
  assumption
  with_reducible refine Moves.ite ?_ ?_
  with_reducible refine Moves.step ?_ (qosCfg_mv _ _ _) rfl
  assumption
  assumption
  subst s4
  with_reducible refine Moves.step ?_ (storeWord_mv _ _ _ _ _) rfl
  with_reducible exact Moves.refl _ _

theorem rgCfg_mv (x0 : State) (x1 : Nat) (x2 : Nat) : Moves 496 x0 (rgCfg x0 x1 x2) := by
  unfold rgCfg
  with_reducible refine Moves.step ?_ (rgEvent_mv _ _ _ _ _ _ _ _) rfl
  with_reducible exact Moves.refl _ _

theorem writeGuard_mv (x0 : State) (x1 : Path) (x2 : RegRow) (x3 : Nat) (x4 : Nat) : Moves 18928 x0 (writeGuard x0 x1 x2 x3 x4) := by
  unfold writeGuard
  with_reducible refine Moves.ite ?_ ?_
  (with_reducible refine Moves.foldl _ _ ?_ ?_; rotate_left; intro _ _ _)
  with_reducible refine Moves.step ?_ (refreshRate_mv _ _) rfl
  assumption
  with_reducible refine Moves.ite ?_ ?_
  with_reducible refine Moves.step ?_ (writeMode_mv _ _ _ _ _) rfl
  with_reducible exact Moves.refl _ _
  lift_lets
  (intro s8; refine Moves.cut (P := Moves 18928 x0 s8) ?_ ?_; rotate_left; intro h8; clear_value s8)
  (intro c9; clear_value c9)
  with_reducible refine Moves.ite ?_ ?_
  with_reducible refine Moves.ite ?_ ?_
  with_reducible refine Moves.step ?_ (rgCfg_mv _ _ _) rfl
  assumption
  assumption
  with_reducible refine Moves.ite ?_ ?_
  with_reducible exact Moves.mk' (m := 18928) (by assumption) (.inl rfl) (.inl rfl) (.inl rfl) (.inl rfl) (.inl rfl) (.inr rfl) (.inr rfl) (.inl rfl) (.inr rfl) rfl rfl (.inr rfl) (.inl rfl) (.inr rfl) (.inr rfl) (.inr rfl) (.inr rfl) (.inr rfl) (.inr rfl) (.inr rfl) (.inr rfl) (.inr rfl) (.inr rfl) (.inr rfl) (.inr rfl) (.inr rfl) (.inr rfl)
  with_reducible refine Moves.ite ?_ ?_
  with_reducible refine Moves.step ?_ (rgCfg_mv _ _ _) rfl
  assumption
  assumption
  lift_lets
  (intro s22; refine Moves.cut (P := Moves 18928 x0 s22) ?_ ?_; rotate_left; intro h22; clear_value s22)
  with_reducible refine Moves.ite ?_ ?_
  with_reducible exact Moves.mk' (m := 18928) (by assumption) (.inl rfl) (.inl rfl) (.inl rfl) (.inl rfl) (.inl rfl) (.inr rfl) (.inr rfl) (.inl rfl) (.inr rfl) rfl rfl (.inr rfl) (.inl rfl) (.inr rfl) (.inr rfl) (.inr rfl) (.inr rfl) (.inr rfl) (.inr rfl) (.inr rfl) (.inr rfl) (.inr rfl) (.inr rfl) (.inr rfl) (.inr rfl) (.inr rfl) (.inr rfl)
  assumption
  subst s8
  with_reducible refine Moves.step ?_ (storeWord_mv _ _ _ _ _) rfl
  with_reducible exact Moves.refl _ _
  subst s22
  with_reducible refine Moves.step ?_ (writeMode_mv _ _ _ _ _) rfl
  with_reducible exact Moves.refl _ _

theorem releaseExcess_mv (x0 : Nat) (x1 : Nat) (x2 : State) : Moves 32768 x2 (releaseExcess x0 x1 x2) := by
  induction x0 generalizing x2 with
  | zero => exact Moves.refl _ _
  | succ k ih =>
    unfold releaseExcess
    refine Moves.ite (Moves.refl _ _) ?_
    split
    · exact ((Moves.refl _ _).step (releaseRow_mv _ _ _ _) rfl).step (ih _) rfl
    · exact Moves.refl _ _

theorem lagoonChanged_mv (x0 : State) : Moves 32768 x0 (lagoonChanged x0) := by
  unfold lagoonChanged
  lift_lets
  (intro c1; clear_value c1)
  (intro s2; refine Moves.cut (P := Moves 32768 x0 s2) ?_ ?_; rotate_left; intro h2; clear_value s2)
  with_reducible refine Moves.step ?_ (releaseExcess_mv _ _ _) rfl
  assumption
  subst s2
  with_reducible refine Moves.step ?_ (balanceWb_mv _) rfl
  with_reducible exact Moves.mk' (m := 32768) (Moves.refl _ _) (.inr rfl) (.inr rfl) (.inr rfl) (.inr rfl) (.inr rfl) (.inr rfl) (.inr rfl) (.inr rfl) (.inr rfl) rfl rfl (.inr rfl) (.inr rfl) (.inl rfl) (.inr rfl) (.inr rfl) (.inr rfl) (.inr rfl) (.inr rfl) (.inr rfl) (.inr rfl) (.inr rfl) (.inr rfl) (.inr rfl) (.inr rfl) (.inr rfl) (.inr rfl)

theorem writeLagoon_mv (x0 : State) (x1 : Path) (x2 : RegRow) (x3 : Nat) (x4 : Nat) : Moves 33264 x0 (writeLagoon x0 x1 x2 x3 x4) := by
  unfold writeLagoon
  with_reducible refine Moves.ite ?_ ?_
  with_reducible refine Moves.step ?_ (lagoonChanged_mv _) rfl
  with_reducible refine Moves.step ?_ (writeMode_mv _ _ _ _ _) rfl
  with_reducible exact Moves.refl _ _
  with_reducible refine Moves.ite ?_ ?_
  with_reducible refine Moves.ite ?_ ?_
  with_reducible refine Moves.step ?_ (storeWord_mv _ _ _ _ _) rfl
  with_reducible exact Moves.refl _ _
  lift_lets
  (intro c9; clear_value c9)
  (intro s10; refine Moves.cut (P := Moves 33264 x0 s10) ?_ ?_; rotate_left; intro h10; clear_value s10)
  with_reducible refine Moves.ite ?_ ?_
  assumption
  with_reducible refine Moves.step ?_ (raise_mv _ _ _ _ _ _) rfl
  assumption
  with_reducible refine Moves.step ?_ (storeWord_mv _ _ _ _ _) rfl
  with_reducible exact Moves.refl _ _
  subst s10
  with_reducible refine Moves.step ?_ (lagoonChanged_mv _) rfl
  with_reducible refine Moves.step ?_ (storeWord_mv _ _ _ _ _) rfl
  with_reducible exact Moves.refl _ _

theorem overridesChanged_mv (x0 : State) : Moves 1024 x0 (overridesChanged x0) := by
  unfold overridesChanged
  lift_lets
  (intro c1; clear_value c1)
  (intro c2; clear_value c2)
  (intro c3; clear_value c3)
  with_reducible exact Moves.mk' (m := 1024) (Moves.refl _ _) (.inr rfl) (.inr rfl) (.inr rfl) (.inr rfl) (.inr rfl) (.inr rfl) (.inl rfl) (.inr rfl) (.inr rfl) rfl rfl (.inr rfl) (.inr rfl) (.inr rfl) (.inr rfl) (.inr rfl) (.inr rfl) (.inr rfl) (.inr rfl) (.inr rfl) (.inr rfl) (.inr rfl) (.inr rfl) (.inr rfl) (.inr rfl) (.inr rfl) (.inr rfl)

theorem writeSextant_mv (x0 : State) (x1 : Path) (x2 : RegRow) (x3 : Nat) (x4 : Nat) : Moves 1520 x0 (writeSextant x0 x1 x2 x3 x4) := by
  unfold writeSextant
  with_reducible refine Moves.ite ?_ ?_
  with_reducible refine Moves.step ?_ (overridesChanged_mv _) rfl
  with_reducible refine Moves.step ?_ (writeMode_mv _ _ _ _ _) rfl
  with_reducible exact Moves.refl _ _
  with_reducible refine Moves.ite ?_ ?_
  with_reducible refine Moves.step ?_ (qualLatch_mv _) rfl
  with_reducible refine Moves.step ?_ (storeWord_mv _ _ _ _ _) rfl
  with_reducible exact Moves.refl _ _
  with_reducible refine Moves.ite ?_ ?_
  split
  lift_lets
  (intro s11; refine Moves.cut (P := Moves 1520 x0 s11) ?_ ?_; rotate_left; intro h11; clear_value s11)
  (intro c12; clear_value c12)
  (intro c13; clear_value c13)
  with_reducible refine Moves.step ?_ (laneSet_mv _ _ _) rfl
  assumption
  with_reducible exact Moves.refl _ _
  lift_lets
  (intro s18; refine Moves.cut (P := Moves 1520 x0 s18) ?_ ?_; rotate_left; intro h18; clear_value s18)
  (intro s19; refine Moves.cut (P := Moves 1520 x0 s19) ?_ ?_; rotate_left; intro h19; clear_value s19)
  with_reducible refine Moves.ite ?_ ?_
  with_reducible refine Moves.ite ?_ ?_
  with_reducible refine Moves.step ?_ (ovrEvent_mv _ _ _ _) rfl
  assumption
  assumption
  assumption
  subst s11
  with_reducible refine Moves.step ?_ (storeWord_mv _ _ _ _ _) rfl
  with_reducible exact Moves.refl _ _
  subst s18
  with_reducible refine Moves.step ?_ (storeWord_mv _ _ _ _ _) rfl
  with_reducible exact Moves.refl _ _
  subst s19
  with_reducible refine Moves.step ?_ (overridesChanged_mv _) rfl
  assumption

theorem scrubCfg_mv (x0 : State) (x1 : Nat) (x2 : Nat) : Moves 496 x0 (scrubCfg x0 x1 x2) := by
  unfold scrubCfg
  with_reducible refine Moves.step ?_ (raise_mv _ _ _ _ _ _) rfl
  with_reducible exact Moves.refl _ _

theorem writeInteg_mv (x0 : State) (x1 : Path) (x2 : RegRow) (x3 : Nat) (x4 : Nat) : Moves 67109360 x0 (writeInteg x0 x1 x2 x3 x4) := by
  unfold writeInteg
  with_reducible refine Moves.ite ?_ ?_
  with_reducible refine Moves.step ?_ (writeMode_mv _ _ _ _ _) rfl
  with_reducible exact Moves.refl _ _
  with_reducible refine Moves.ite ?_ ?_
  lift_lets
  (intro c5; clear_value c5)
  (intro s6; refine Moves.cut (P := Moves 67109360 x0 s6) ?_ ?_; rotate_left; intro h6; clear_value s6)
  with_reducible refine Moves.ite ?_ ?_
  assumption
  with_reducible refine Moves.step ?_ (scrubCfg_mv _ _ _) rfl
  assumption
  with_reducible refine Moves.ite ?_ ?_
  with_reducible refine Moves.step ?_ (storeSetting_mv _ _ _ _ _) rfl
  with_reducible exact Moves.refl _ _
  lift_lets
  (intro s15; refine Moves.cut (P := Moves 67109360 x0 s15) ?_ ?_; rotate_left; intro h15; clear_value s15)
  with_reducible refine Moves.ite ?_ ?_
  with_reducible refine Moves.step ?_ (scrubCfg_mv _ _ _) rfl
  assumption
  assumption
  subst s6
  with_reducible refine Moves.step ?_ (storeWord_mv _ _ _ _ _) rfl
  with_reducible exact Moves.refl _ _
  subst s15
  with_reducible refine Moves.step ?_ (storeWord_mv _ _ _ _ _) rfl
  with_reducible exact Moves.refl _ _

theorem thermCfg_mv (x0 : State) (x1 : Nat) (x2 : Nat) : Moves 496 x0 (thermCfg x0 x1 x2) := by
  unfold thermCfg
  with_reducible refine Moves.step ?_ (raiseLim_mv _ _ _ _ _ _ _ _ _ _) rfl
  with_reducible exact Moves.refl _ _

theorem writeThermal_mv (x0 : State) (x1 : Path) (x2 : RegRow) (x3 : Nat) (x4 : Nat) : Moves 496 x0 (writeThermal x0 x1 x2 x3 x4) := by
  unfold writeThermal
  with_reducible refine Moves.ite ?_ ?_
  with_reducible refine Moves.step ?_ (writeMode_mv _ _ _ _ _) rfl
  with_reducible exact Moves.refl _ _
  with_reducible refine Moves.ite ?_ ?_
  lift_lets
  (intro c5; clear_value c5)
  (intro s6; refine Moves.cut (P := Moves 496 x0 s6) ?_ ?_; rotate_left; intro h6; clear_value s6)
  with_reducible refine Moves.ite ?_ ?_
  assumption
  with_reducible refine Moves.step ?_ (thermCfg_mv _ _ _) rfl
  assumption
  with_reducible refine Moves.step ?_ (storeWord_mv _ _ _ _ _) rfl
  with_reducible exact Moves.refl _ _
  subst s6
  with_reducible refine Moves.step ?_ (storeWord_mv _ _ _ _ _) rfl
  with_reducible exact Moves.refl _ _

theorem writePower_mv (x0 : State) (x1 : Path) (x2 : RegRow) (x3 : Nat) (x4 : Nat) : Moves 67109360 x0 (writePower x0 x1 x2 x3 x4) := by
  unfold writePower
  with_reducible refine Moves.ite ?_ ?_
  with_reducible refine Moves.step ?_ (writeMode_mv _ _ _ _ _) rfl
  with_reducible exact Moves.refl _ _
  with_reducible refine Moves.ite ?_ ?_
  lift_lets
  (intro c5; clear_value c5)
  (intro s6; refine Moves.cut (P := Moves 67109360 x0 s6) ?_ ?_; rotate_left; intro h6; clear_value s6)
  with_reducible refine Moves.ite ?_ ?_
  assumption
  with_reducible refine Moves.step ?_ (raiseLim_mv _ _ _ _ _ _ _ _ _ _) rfl
  assumption
  with_reducible refine Moves.ite ?_ ?_
  with_reducible refine Moves.step ?_ (storeSetting_mv _ _ _ _ _) rfl
  with_reducible exact Moves.refl _ _
  with_reducible refine Moves.step ?_ (storeWord_mv _ _ _ _ _) rfl
  with_reducible exact Moves.refl _ _
  subst s6
  with_reducible refine Moves.step ?_ (storeWord_mv _ _ _ _ _) rfl
  with_reducible exact Moves.refl _ _

theorem reportHw_mv (x0 : State) (x1 : Path) (x2 : RegRow) (x3 : Nat) (x4 : State) : Moves 496 x4 (reportHw x0 x1 x2 x3 x4) := by
  unfold reportHw
  with_reducible refine Moves.ite ?_ ?_
  with_reducible exact Moves.refl _ _
  with_reducible refine Moves.step ?_ (writeLost_mv _ _ _) rfl
  with_reducible exact Moves.refl _ _

theorem writeWetex_mv (x0 : State) (x1 : Path) (x2 : RegRow) (x3 : Nat) (x4 : Nat) : Moves 402653680 x0 (writeWetex x0 x1 x2 x3 x4) := by
  unfold writeWetex
  with_reducible refine Moves.ite ?_ ?_
  with_reducible refine Moves.step ?_ (writeWxCtl_mv _ _) rfl
  with_reducible exact Moves.refl _ _
  with_reducible refine Moves.ite ?_ ?_
  with_reducible refine Moves.step ?_ (writeWxCfg_mv _ _ _) rfl
  with_reducible exact Moves.refl _ _
  with_reducible refine Moves.step ?_ (storeWord_mv _ _ _ _ _) rfl
  with_reducible exact Moves.refl _ _

theorem writeEvents_mv (x0 : State) (x1 : Path) (x2 : RegRow) (x3 : Nat) (x4 : Nat) : Moves 66032 x0 (writeEvents x0 x1 x2 x3 x4) := by
  unfold writeEvents
  with_reducible refine Moves.ite ?_ ?_
  with_reducible refine Moves.step ?_ (writeMode_mv _ _ _ _ _) rfl
  with_reducible exact Moves.refl _ _
  with_reducible refine Moves.ite ?_ ?_
  lift_lets
  (intro c5; clear_value c5)
  with_reducible refine Moves.ite ?_ ?_
  with_reducible exact Moves.refl _ _
  with_reducible refine Moves.ite ?_ ?_
  with_reducible refine Moves.step ?_ (writeEvRingCfg_mv _ _ _) rfl
  with_reducible exact Moves.refl _ _
  with_reducible refine Moves.ite ?_ ?_
  with_reducible refine Moves.step ?_ (writeEvHead_mv _ _ _) rfl
  with_reducible exact Moves.refl _ _
  with_reducible refine Moves.step ?_ (storeWord_mv _ _ _ _ _) rfl
  with_reducible exact Moves.refl _ _
  with_reducible refine Moves.ite ?_ ?_
  with_reducible refine Moves.step ?_ (reportHw_mv _ _ _ _ _) rfl
  with_reducible refine Moves.step ?_ (writePortset_mv _ _) rfl
  with_reducible exact Moves.refl _ _
  with_reducible refine Moves.ite ?_ ?_
  with_reducible refine Moves.step ?_ (reportHw_mv _ _ _ _ _) rfl
  with_reducible refine Moves.step ?_ (writeTrig_mv _ _ _) rfl
  with_reducible exact Moves.refl _ _
  with_reducible refine Moves.step ?_ (storeWord_mv _ _ _ _ _) rfl
  with_reducible exact Moves.refl _ _

theorem writeChrosy_mv (x0 : State) (x1 : Path) (x2 : RegRow) (x3 : Nat) (x4 : Nat) : Moves 536870896 x0 (writeChrosy x0 x1 x2 x3 x4) := by
  unfold writeChrosy
  with_reducible refine Moves.ite ?_ ?_
  with_reducible refine Moves.step ?_ (writeChrosyCtl_mv _ _) rfl
  with_reducible exact Moves.refl _ _
  with_reducible refine Moves.ite ?_ ?_
  with_reducible refine Moves.step ?_ (chrLatch_mv _) rfl
  with_reducible refine Moves.step ?_ (storeWord_mv _ _ _ _ _) rfl
  with_reducible exact Moves.refl _ _
  with_reducible refine Moves.ite ?_ ?_
  with_reducible refine Moves.step ?_ (writeMode_mv _ _ _ _ _) rfl
  with_reducible exact Moves.refl _ _
  with_reducible refine Moves.ite ?_ ?_
  lift_lets
  (intro c12; clear_value c12)
  (intro c13; clear_value c13)
  (intro c14; clear_value c14)
  (intro c15; clear_value c15)
  (intro s16; refine Moves.cut (P := Moves 536870896 x0 s16) ?_ ?_; rotate_left; intro h16; clear_value s16)
  with_reducible refine Moves.ite ?_ ?_
  assumption
  with_reducible refine Moves.step ?_ (mirrorCfg_mv _ _ _) rfl
  assumption
  with_reducible refine Moves.ite ?_ ?_
  lift_lets
  (intro c23; clear_value c23)
  with_reducible refine Moves.ite ?_ ?_
  with_reducible exact Moves.refl _ _
  with_reducible refine Moves.ite ?_ ?_
  lift_lets
  dsimp -zeta only
  lift_lets
  (intro c30; clear_value c30)
  dsimp -zeta only
  with_reducible refine Moves.ite ?_ ?_
  with_reducible refine Moves.step ?_ (journalReg_mv _ _ _ _ _) rfl
  with_reducible refine Moves.mk' (m := 536870896) ?_ (.inl rfl) (.inl rfl) (.inl rfl) (.inl rfl) (.inl rfl) (.inl rfl) (.inl rfl) (.inl rfl) (.inl rfl) (by rfl) (by rfl) (.inl rfl) (.inl rfl) (.inl rfl) (.inl rfl) (.inl rfl) (.inl rfl) (.inl rfl) (.inl rfl) (.inl rfl) (.inl rfl) (.inl rfl) (.inl rfl) (.inl rfl) (.inl rfl) (.inl rfl) (.inl rfl)
  with_reducible refine Moves.step ?_ (writeWinCtl_mv _ _ _) rfl
  with_reducible exact Moves.refl _ _
  with_reducible refine Moves.step ?_ (writeWinCtl_mv _ _ _) rfl
  with_reducible exact Moves.refl _ _
  with_reducible refine Moves.ite ?_ ?_
  with_reducible refine Moves.ite ?_ ?_
  with_reducible refine Moves.step ?_ (storeSetting_mv _ _ _ _ _) rfl
  with_reducible exact Moves.refl _ _
  with_reducible exact Moves.refl _ _
  with_reducible exact Moves.refl _ _
  with_reducible refine Moves.step ?_ (storeWord_mv _ _ _ _ _) rfl
  with_reducible exact Moves.refl _ _
  subst s16
  with_reducible refine Moves.step ?_ (storeWord_mv _ _ _ _ _) rfl
  with_reducible exact Moves.refl _ _

theorem writeFw_mv (x0 : State) (x1 : Path) (x2 : RegRow) (x3 : Nat) (x4 : Nat) (x5 : Bool) : Moves 245833200 x0 (writeFw x0 x1 x2 x3 x4 x5) := by
  unfold writeFw
  with_reducible refine Moves.ite ?_ ?_
  with_reducible exact Moves.refl _ _
  with_reducible refine Moves.ite ?_ ?_
  with_reducible refine Moves.step ?_ (raiseLim_mv _ _ _ _ _ _ _ _ _ _) rfl
  with_reducible exact Moves.refl _ _
  with_reducible refine Moves.ite ?_ ?_
  with_reducible refine Moves.step ?_ (writeMcmd_mv _ _ _) rfl
  with_reducible exact Moves.refl _ _
  with_reducible refine Moves.step ?_ (storeWord_mv _ _ _ _ _) rfl
  with_reducible exact Moves.refl _ _

theorem writeTransit_mv (x0 : State) (x1 : Path) (x2 : RegRow) (x3 : Nat) (x4 : Nat) : Moves 134553072 x0 (writeTransit x0 x1 x2 x3 x4) := by
  unfold writeTransit
  with_reducible refine Moves.ite ?_ ?_
  with_reducible refine Moves.step ?_ (writeMode_mv _ _ _ _ _) rfl
  with_reducible exact Moves.refl _ _
  with_reducible refine Moves.ite ?_ ?_
  with_reducible refine Moves.step ?_ (writeTransitCtl_mv _ _) rfl
  with_reducible exact Moves.refl _ _
  lift_lets
  (intro s7; refine Moves.cut (P := Moves 134553072 x0 s7) ?_ ?_; rotate_left; intro h7; clear_value s7)
  with_reducible refine Moves.ite ?_ ?_
  with_reducible refine Moves.step ?_ (raise_mv _ _ _ _ _ _) rfl
  assumption
  assumption
  subst s7
  with_reducible refine Moves.step ?_ (storeWord_mv _ _ _ _ _) rfl
  with_reducible exact Moves.refl _ _

theorem writeGlobal_mv (x0 : State) (x1 : Path) (x2 : RegRow) (x3 : Nat) (x4 : Nat) : Moves 67109360 x0 (writeGlobal x0 x1 x2 x3 x4) := by
  unfold writeGlobal
  with_reducible refine Moves.ite ?_ ?_
  with_reducible refine Moves.ite ?_ ?_
  with_reducible refine Moves.step ?_ (regAccess_mv _ _ _ _) rfl
  with_reducible exact Moves.refl _ _
  lift_lets
  (intro s5; refine Moves.cut (P := Moves 67109360 x0 s5) ?_ ?_; rotate_left; intro h5; clear_value s5)
  (intro c6; clear_value c6)
  with_reducible refine Moves.step ?_ (journalReg_mv _ _ _ _ _) rfl
  with_reducible exact Moves.mk' (m := 67109360) (by assumption) (.inl rfl) (.inl rfl) (.inl rfl) (.inl rfl) (.inl rfl) (.inr rfl) (.inr rfl) (.inr rfl) (.inr rfl) rfl rfl (.inr rfl) (.inr rfl) (.inr rfl) (.inr rfl) (.inr rfl) (.inr rfl) (.inr rfl) (.inr rfl) (.inr rfl) (.inr rfl) (.inr rfl) (.inr rfl) (.inr rfl) (.inl rfl) (.inr rfl) (.inr rfl)
  with_reducible refine Moves.ite ?_ ?_
  with_reducible exact Moves.mk' (m := 67109360) (Moves.refl _ _) (.inl rfl) (.inl rfl) (.inl rfl) (.inl rfl) (.inl rfl) (.inr rfl) (.inr rfl) (.inr rfl) (.inr rfl) rfl rfl (.inr rfl) (.inr rfl) (.inr rfl) (.inr rfl) (.inr rfl) (.inr rfl) (.inr rfl) (.inr rfl) (.inr rfl) (.inr rfl) (.inr rfl) (.inr rfl) (.inr rfl) (.inl rfl) (.inr rfl) (.inr rfl)
  with_reducible refine Moves.step ?_ (storeWord_mv _ _ _ _ _) rfl
  with_reducible exact Moves.refl _ _
  subst s5
  with_reducible refine Moves.step ?_ (storeWord_mv _ _ _ _ _) rfl
  with_reducible exact Moves.refl _ _

theorem writeFuse_mv (x0 : State) (x1 : Path) (x2 : RegRow) (x3 : Nat) (x4 : Nat) : Moves 33554928 x0 (writeFuse x0 x1 x2 x3 x4) := by
  unfold writeFuse
  lift_lets
  (intro s1; refine Moves.cut (P := Moves 33554928 x0 s1) ?_ ?_; rotate_left; intro h1; clear_value s1)
  with_reducible refine Moves.ite ?_ ?_
  with_reducible refine Moves.step ?_ (writeRdsel_mv _ _) rfl
  assumption
  assumption
  subst s1
  with_reducible refine Moves.step ?_ (storeWord_mv _ _ _ _ _) rfl
  with_reducible exact Moves.refl _ _

theorem applyWord_mv (x0 : State) (x1 : Path) (x2 : Nat) (x3 : Nat) (x4 : Bool) : Moves 536870896 x0 (applyWord x0 x1 x2 x3 x4) := by
  unfold applyWord
  split
  with_reducible exact Moves.refl _ _
  split
  with_reducible refine Moves.step ?_ (writeGlobal_mv _ _ _ _ _) rfl
  with_reducible exact Moves.refl _ _
  with_reducible refine Moves.step ?_ (writeFuse_mv _ _ _ _ _) rfl
  with_reducible exact Moves.refl _ _
  with_reducible refine Moves.step ?_ (writePort_mv _ _ _ _ _) rfl
  with_reducible exact Moves.refl _ _
  with_reducible refine Moves.step ?_ (writePort_mv _ _ _ _ _) rfl
  with_reducible exact Moves.refl _ _
  with_reducible refine Moves.step ?_ (writeGuard_mv _ _ _ _ _) rfl
  with_reducible exact Moves.refl _ _
  with_reducible refine Moves.step ?_ (writeLagoon_mv _ _ _ _ _) rfl
  with_reducible exact Moves.refl _ _
  with_reducible refine Moves.step ?_ (writeInteg_mv _ _ _ _ _) rfl
  with_reducible exact Moves.refl _ _
  with_reducible refine Moves.step ?_ (writeThermal_mv _ _ _ _ _) rfl
  with_reducible exact Moves.refl _ _
  with_reducible refine Moves.step ?_ (writeWetex_mv _ _ _ _ _) rfl
  with_reducible exact Moves.refl _ _
  with_reducible refine Moves.step ?_ (writeEvents_mv _ _ _ _ _) rfl
  with_reducible exact Moves.refl _ _
  with_reducible refine Moves.step ?_ (writeChrosy_mv _ _ _ _ _) rfl
  with_reducible exact Moves.refl _ _
  with_reducible refine Moves.step ?_ (writePower_mv _ _ _ _ _) rfl
  with_reducible exact Moves.refl _ _
  with_reducible refine Moves.step ?_ (writeFw_mv _ _ _ _ _ _) rfl
  with_reducible exact Moves.refl _ _
  with_reducible refine Moves.step ?_ (writeTransit_mv _ _ _ _ _) rfl
  with_reducible exact Moves.refl _ _
  with_reducible refine Moves.step ?_ (writeSextant_mv _ _ _ _ _) rfl
  with_reducible exact Moves.refl _ _
  with_reducible refine Moves.step ?_ (storeWord_mv _ _ _ _ _) rfl
  with_reducible exact Moves.refl _ _

theorem applyPair_mv (x0 : State) (x1 : Path) (x2 : Nat) (x3 : Nat) : Moves 66032 x0 (applyPair x0 x1 x2 x3) := by
  unfold applyPair
  with_reducible refine Moves.ite ?_ ?_
  with_reducible refine Moves.step ?_ (writeFatalAck_mv _ _) rfl
  with_reducible exact Moves.refl _ _
  with_reducible refine Moves.ite ?_ ?_
  with_reducible refine Moves.step ?_ (startLookup_mv _ _ _) rfl
  with_reducible exact Moves.refl _ _
  with_reducible refine Moves.ite ?_ ?_
  with_reducible refine Moves.step ?_ (writeInit_mv _ _) rfl
  with_reducible exact Moves.refl _ _
  with_reducible refine Moves.ite ?_ ?_
  split
  with_reducible refine Moves.step ?_ (storeWord_mv _ _ _ _ _) rfl
  with_reducible refine Moves.step ?_ (storeWord_mv _ _ _ _ _) rfl
  with_reducible exact Moves.refl _ _
  with_reducible exact Moves.refl _ _
  with_reducible exact Moves.refl _ _

end Sys2Proof.Machine
end

