-- ==== Sys2Proof/Laws/FrameAccess.lean ====
section
/-! SUPPORT. What each operation of Machine/Access.lean may change, one lemma an operation (`<name>_mv`): the components its
mask names, and nothing else of the state. -/

namespace Sys2Proof.Machine

theorem expireDual_mv (x0 : State) : Moves 496 x0 (expireDual x0) := by
  unfold expireDual
  lift_lets
  (intro c1; clear_value c1)
  (intro s2; refine Moves.cut (P := Moves 496 x0 s2) ?_ ?_; rotate_left; intro h2; clear_value s2)
  (intro c3; clear_value c3)
  split
  with_reducible refine Moves.ite ?_ ?_
  with_reducible refine Moves.step ?_ (regDw_mv _ _ _ _) rfl
  with_reducible exact Moves.mk' (m := 496) (by assumption) (.inl rfl) (.inl rfl) (.inl rfl) (.inl rfl) (.inl rfl) (.inr rfl) (.inr rfl) (.inr rfl) (.inr rfl) rfl rfl (.inr rfl) (.inr rfl) (.inr rfl) (.inr rfl) (.inr rfl) (.inr rfl) (.inr rfl) (.inr rfl) (.inr rfl) (.inr rfl) (.inr rfl) (.inr rfl) (.inr rfl) (.inr rfl) (.inr rfl) (.inr rfl)
  assumption
  assumption
  subst s2
  split
  with_reducible refine Moves.ite ?_ ?_
  with_reducible refine Moves.step ?_ (regDw_mv _ _ _ _) rfl
  with_reducible exact Moves.mk' (m := 496) (Moves.refl _ _) (.inl rfl) (.inl rfl) (.inl rfl) (.inl rfl) (.inl rfl) (.inr rfl) (.inr rfl) (.inr rfl) (.inr rfl) rfl rfl (.inr rfl) (.inr rfl) (.inr rfl) (.inr rfl) (.inr rfl) (.inr rfl) (.inr rfl) (.inr rfl) (.inr rfl) (.inr rfl) (.inr rfl) (.inr rfl) (.inr rfl) (.inr rfl) (.inr rfl) (.inr rfl)
  with_reducible exact Moves.refl _ _
  with_reducible exact Moves.refl _ _

theorem interruptDual_mv (x0 : State) (x1 : Path) (x2 : Nat) : Moves 496 x0 (interruptDual x0 x1 x2) := by
  unfold interruptDual
  with_reducible refine Moves.ite ?_ ?_
  with_reducible exact Moves.refl _ _
  lift_lets
  (intro c3; clear_value c3)
  (intro s4; refine Moves.cut (P := Moves 496 x0 s4) ?_ ?_; rotate_left; intro h4; clear_value s4)
  (intro c5; clear_value c5)
  split
  with_reducible refine Moves.step ?_ (regDw_mv _ _ _ _) rfl
  with_reducible exact Moves.mk' (m := 496) (by assumption) (.inl rfl) (.inl rfl) (.inl rfl) (.inl rfl) (.inl rfl) (.inr rfl) (.inr rfl) (.inr rfl) (.inr rfl) rfl rfl (.inr rfl) (.inr rfl) (.inr rfl) (.inr rfl) (.inr rfl) (.inr rfl) (.inr rfl) (.inr rfl) (.inr rfl) (.inr rfl) (.inr rfl) (.inr rfl) (.inr rfl) (.inr rfl) (.inr rfl) (.inr rfl)
  assumption
  subst s4
  split
  with_reducible refine Moves.ite ?_ ?_
  with_reducible exact Moves.refl _ _
  with_reducible refine Moves.step ?_ (regDw_mv _ _ _ _) rfl
  with_reducible exact Moves.mk' (m := 496) (Moves.refl _ _) (.inl rfl) (.inl rfl) (.inl rfl) (.inl rfl) (.inl rfl) (.inr rfl) (.inr rfl) (.inr rfl) (.inr rfl) rfl rfl (.inr rfl) (.inr rfl) (.inr rfl) (.inr rfl) (.inr rfl) (.inr rfl) (.inr rfl) (.inr rfl) (.inr rfl) (.inr rfl) (.inr rfl) (.inr rfl) (.inr rfl) (.inr rfl) (.inr rfl) (.inr rfl)
  with_reducible exact Moves.refl _ _

theorem setDual_mv (x0 : State) (x1 : Path) (x2 : Option Dual) : Moves 16 x0 (setDual x0 x1 x2) := by
  unfold setDual
  with_reducible refine Moves.ite ?_ ?_
  with_reducible exact Moves.mk' (m := 16) (Moves.refl _ _) (.inl rfl) (.inr rfl) (.inr rfl) (.inr rfl) (.inr rfl) (.inr rfl) (.inr rfl) (.inr rfl) (.inr rfl) rfl rfl (.inr rfl) (.inr rfl) (.inr rfl) (.inr rfl) (.inr rfl) (.inr rfl) (.inr rfl) (.inr rfl) (.inr rfl) (.inr rfl) (.inr rfl) (.inr rfl) (.inr rfl) (.inr rfl) (.inr rfl) (.inr rfl)
  with_reducible exact Moves.mk' (m := 16) (Moves.refl _ _) (.inl rfl) (.inr rfl) (.inr rfl) (.inr rfl) (.inr rfl) (.inr rfl) (.inr rfl) (.inr rfl) (.inr rfl) rfl rfl (.inr rfl) (.inr rfl) (.inr rfl) (.inr rfl) (.inr rfl) (.inr rfl) (.inr rfl) (.inr rfl) (.inr rfl) (.inr rfl) (.inr rfl) (.inr rfl) (.inr rfl) (.inr rfl) (.inr rfl) (.inr rfl)

theorem dualValue_mv (x0 : State) (x1 : Path) (x2 : Nat) (x3 : Nat) : Moves 496 x0 (dualValue x0 x1 x2 x3) := by
  unfold dualValue
  lift_lets
  (intro s1; refine Moves.cut (P := Moves 496 x0 s1) ?_ ?_; rotate_left; intro h1; clear_value s1)
  with_reducible refine Moves.step ?_ (setDual_mv _ _ _) rfl
  assumption
  subst s1
  split
  with_reducible refine Moves.step ?_ (regDw_mv _ _ _ _) rfl
  with_reducible refine Moves.step ?_ (setDual_mv _ _ _) rfl
  with_reducible exact Moves.refl _ _
  with_reducible exact Moves.refl _ _

theorem acceptDual_mv (x0 : State) (x1 : Path) (x2 : RegRow) (x3 : Nat) (x4 : Nat) : Moves 241647088 x0 (acceptDual x0 x1 x2 x3 x4) := by
  unfold acceptDual
  lift_lets
  (intro s1; refine Moves.cut (P := Moves 241647088 x0 s1) ?_ ?_; rotate_left; intro h1; clear_value s1)
  (intro c2; clear_value c2)
  with_reducible refine Moves.ite ?_ ?_
  with_reducible refine Moves.step ?_ (writeKeeperReset_mv _ _) rfl
  assumption
  with_reducible refine Moves.ite ?_ ?_
  with_reducible refine Moves.step ?_ (storeOne_mv _ _ _) rfl
  with_reducible refine Moves.step ?_ (csrSet_mv _ _ _) rfl
  assumption
  with_reducible refine Moves.ite ?_ ?_
  with_reducible refine Moves.step ?_ (fuseRequest_mv _ _) rfl
  assumption
  with_reducible refine Moves.ite ?_ ?_
  with_reducible refine Moves.ite ?_ ?_
  with_reducible refine Moves.step ?_ (initDone_mv _ _) rfl
  assumption
  with_reducible exact Moves.refl _ _
  with_reducible refine Moves.ite ?_ ?_
  with_reducible refine Moves.ite ?_ ?_
  with_reducible exact Moves.mk' (m := 241647088) (by assumption) (.inl rfl) (.inl rfl) (.inl rfl) (.inl rfl) (.inl rfl) (.inr rfl) (.inl rfl) (.inl rfl) (.inl rfl) (by rfl) (by rfl) (.inl rfl) (.inr rfl) (.inr rfl) (.inl rfl) (.inl rfl) (.inl rfl) (.inr rfl) (.inr rfl) (.inl rfl) (.inl rfl) (.inr rfl) (.inr rfl) (.inl rfl) (.inl rfl) (.inl rfl) (.inr rfl)
  with_reducible exact Moves.refl _ _
  with_reducible refine Moves.ite ?_ ?_
  with_reducible refine Moves.ite ?_ ?_
  with_reducible refine Moves.step ?_ (releaseLease_mv _ _) rfl
  assumption
  assumption
  with_reducible refine Moves.step ?_ (csrSet_mv _ _ _) rfl
  assumption
  subst s1
  with_reducible refine Moves.step ?_ (journalReg_mv _ _ _ _ _) rfl
  with_reducible exact Moves.refl _ _

theorem complement_mv (x0 : State) (x1 : Path) (x2 : Nat) (x3 : Nat) : Moves 241647088 x0 (complement x0 x1 x2 x3) := by
  unfold complement
  split
  with_reducible refine Moves.ite ?_ ?_
  lift_lets
  (intro s3; refine Moves.cut (P := Moves 241647088 x0 s3) ?_ ?_; rotate_left; intro h3; clear_value s3)
  with_reducible refine Moves.ite ?_ ?_
  split
  with_reducible refine Moves.step ?_ (acceptDual_mv _ _ _ _ _) rfl
  assumption
  assumption
  with_reducible refine Moves.step ?_ (regDw_mv _ _ _ _) rfl
  assumption
  with_reducible refine Moves.step ?_ (regDw_mv _ _ _ _) rfl
  with_reducible exact Moves.refl _ _
  with_reducible refine Moves.step ?_ (regDw_mv _ _ _ _) rfl
  with_reducible exact Moves.refl _ _
  subst s3
  with_reducible refine Moves.step ?_ (setDual_mv _ _ _) rfl
  with_reducible exact Moves.refl _ _

theorem clearLatch_mv (x0 : State) (x1 : Path) : Moves 16 x0 (clearLatch x0 x1) := by
  unfold clearLatch
  with_reducible exact Moves.mk' (m := 16) (Moves.refl _ _) (.inl rfl) (.inr rfl) (.inr rfl) (.inr rfl) (.inr rfl) (.inr rfl) (.inr rfl) (.inr rfl) (.inr rfl) rfl rfl (.inr rfl) (.inr rfl) (.inr rfl) (.inr rfl) (.inr rfl) (.inr rfl) (.inr rfl) (.inr rfl) (.inr rfl) (.inr rfl) (.inr rfl) (.inr rfl) (.inr rfl) (.inr rfl) (.inr rfl) (.inr rfl)

theorem setHeld_mv (x0 : State) (x1 : Path) (x2 : Option (Nat × Word)) : Moves 16 x0 (setHeld x0 x1 x2) := by
  unfold setHeld
  with_reducible exact Moves.mk' (m := 16) (Moves.refl _ _) (.inl rfl) (.inr rfl) (.inr rfl) (.inr rfl) (.inr rfl) (.inr rfl) (.inr rfl) (.inr rfl) (.inr rfl) rfl rfl (.inr rfl) (.inr rfl) (.inr rfl) (.inr rfl) (.inr rfl) (.inr rfl) (.inr rfl) (.inr rfl) (.inr rfl) (.inr rfl) (.inr rfl) (.inr rfl) (.inr rfl) (.inr rfl) (.inr rfl) (.inr rfl)

theorem ringDoorbell_mv (x0 : State) (x1 : Nat) (x2 : Nat) : Moves 402653680 x0 (ringDoorbell x0 x1 x2) := by
  unfold ringDoorbell
  lift_lets
  (intro c1; clear_value c1)
  with_reducible refine Moves.ite ?_ ?_
  with_reducible refine Moves.step ?_ (sqDoorbell_mv _ _ _) rfl
  with_reducible exact Moves.refl _ _
  with_reducible refine Moves.ite ?_ ?_
  with_reducible refine Moves.step ?_ (cqDoorbell_mv _ _ _) rfl
  with_reducible exact Moves.refl _ _
  with_reducible exact Moves.refl _ _

theorem performWord_mv (x0 : State) (x1 : Path) (x2 : Nat) (x3 : Nat) (x4 : Bool) : Moves 536870896 x0 (performWord x0 x1 x2 x3 x4) := by
  unfold performWord
  lift_lets
  (intro s1; refine Moves.cut (P := Moves 536870896 x0 s1) ?_ ?_; rotate_left; intro h1; clear_value s1)
  (intro s2; refine Moves.cut (P := Moves 536870896 x0 s2) ?_ ?_; rotate_left; intro h2; clear_value s2)
  with_reducible refine Moves.ite ?_ ?_
  with_reducible refine Moves.ite ?_ ?_
  assumption
  with_reducible refine Moves.step ?_ (ringDoorbell_mv _ _ _) rfl
  assumption
  with_reducible refine Moves.ite ?_ ?_
  with_reducible refine Moves.step ?_ (complement_mv _ _ _ _) rfl
  assumption
  split
  assumption
  with_reducible refine Moves.ite ?_ ?_
  assumption
  with_reducible refine Moves.ite ?_ ?_
  with_reducible refine Moves.step ?_ (dualValue_mv _ _ _ _) rfl
  assumption
  with_reducible refine Moves.ite ?_ ?_
  with_reducible refine Moves.step ?_ (setHeld_mv _ _ _) rfl
  assumption
  with_reducible refine Moves.ite ?_ ?_
  split
  with_reducible refine Moves.ite ?_ ?_
  with_reducible refine Moves.step ?_ (applyPair_mv _ _ _ _) rfl
  with_reducible refine Moves.step ?_ (setHeld_mv _ _ _) rfl
  assumption
  with_reducible refine Moves.step ?_ (applyPair_mv _ _ _ _) rfl
  assumption
  with_reducible refine Moves.step ?_ (applyPair_mv _ _ _ _) rfl
  assumption
  with_reducible refine Moves.step ?_ (applyWord_mv _ _ _ _ _) rfl
  assumption
  subst s1
  with_reducible refine Moves.step ?_ (clearLatch_mv _ _) rfl
  with_reducible refine Moves.step ?_ (expireDual_mv _) rfl
  with_reducible exact Moves.refl _ _
  subst s2
  with_reducible refine Moves.step ?_ (interruptDual_mv _ _ _) rfl
  assumption

theorem performDouble_mv (x0 : State) (x1 : Path) (x2 : Nat) (x3 : Nat) (x4 : Bool) : Moves 536870896 x0 (performDouble x0 x1 x2 x3 x4) := by
  unfold performDouble
  with_reducible refine Moves.ite ?_ ?_
  with_reducible refine Moves.step ?_ (applyPair_mv _ _ _ _) rfl
  with_reducible refine Moves.step ?_ (setHeld_mv _ _ _) rfl
  with_reducible refine Moves.step ?_ (interruptDual_mv _ _ _) rfl
  with_reducible refine Moves.step ?_ (clearLatch_mv _ _) rfl
  with_reducible refine Moves.step ?_ (expireDual_mv _) rfl
  with_reducible exact Moves.refl _ _
  with_reducible refine Moves.step ?_ (performWord_mv _ _ _ _ _) rfl
  with_reducible refine Moves.step ?_ (performWord_mv _ _ _ _ _) rfl
  with_reducible exact Moves.refl _ _

theorem readEffect_mv (x0 : State) (x1 : Nat) : Moves 8389840 x0 (readEffect x0 x1) := by
  unfold readEffect
  with_reducible refine Moves.ite ?_ ?_
  with_reducible refine Moves.step ?_ (qualLatch_mv _) rfl
  with_reducible exact Moves.refl _ _
  with_reducible refine Moves.ite ?_ ?_
  with_reducible refine Moves.ite ?_ ?_
  with_reducible refine Moves.step ?_ (chrLatch_mv _) rfl
  with_reducible exact Moves.refl _ _
  with_reducible exact Moves.refl _ _
  with_reducible refine Moves.ite ?_ ?_
  with_reducible refine Moves.step ?_ (nextLookup_mv _) rfl
  with_reducible exact Moves.refl _ _
  with_reducible refine Moves.ite ?_ ?_
  with_reducible refine Moves.step ?_ (mfifoPop_mv _) rfl
  with_reducible exact Moves.refl _ _
  with_reducible exact Moves.refl _ _

theorem readWord32_mv (x0 : State) (x1 : Path) (x2 : Nat) : Moves 8389840 x0 (readWord32 x0 x1 x2).2 := by
  unfold readWord32
  with_reducible refine Moves.ite2 ?_ ?_
  dsimp -zeta only
  with_reducible refine Moves.step ?_ (clearLatch_mv _ _) rfl
  with_reducible exact Moves.refl _ _
  lift_lets
  (intro c5; clear_value c5)
  (intro c6; clear_value c6)
  (intro c7; clear_value c7)
  (intro s8; refine Moves.cut (P := Moves 8389840 x0 s8) ?_ ?_; rotate_left; intro h8; clear_value s8)
  dsimp -zeta only
  with_reducible refine Moves.step ?_ (readEffect_mv _ _) rfl
  assumption
  subst s8
  with_reducible refine Moves.ite ?_ ?_
  with_reducible exact Moves.mk' (m := 8389840) (Moves.refl _ _) (.inl rfl) (.inr rfl) (.inl rfl) (.inl rfl) (.inr rfl) (.inr rfl) (.inl rfl) (.inr rfl) (.inr rfl) rfl rfl (.inr rfl) (.inr rfl) (.inr rfl) (.inr rfl) (.inr rfl) (.inr rfl) (.inr rfl) (.inr rfl) (.inr rfl) (.inr rfl) (.inl rfl) (.inr rfl) (.inr rfl) (.inr rfl) (.inr rfl) (.inr rfl)
  with_reducible refine Moves.step ?_ (clearLatch_mv _ _) rfl
  with_reducible exact Moves.refl _ _

theorem cfgRead_mv (x0 : State) (x1 : Path) (x2 : Nat) (x3 : Nat) : Moves 8390128 x0 (cfgRead x0 x1 x2 x3).2.2 := by
  unfold cfgRead
  with_reducible refine Moves.ite3 ?_ ?_
  dsimp -zeta only
  with_reducible refine Moves.step ?_ (regAccess_mv _ _ _ _) rfl
  with_reducible exact Moves.refl _ _
  with_reducible refine Moves.ite3 ?_ ?_
  dsimp -zeta only
  with_reducible refine Moves.step ?_ (regAccess_mv _ _ _ _) rfl
  with_reducible refine Moves.step ?_ (clearLatch_mv _ _) rfl
  with_reducible exact Moves.refl _ _
  with_reducible refine Moves.ite3 ?_ ?_
  lift_lets
  (intro c11; clear_value c11)
  dsimp -zeta only
  with_reducible refine Moves.step ?_ (clearLatch_mv _ _) rfl
  with_reducible exact Moves.refl _ _
  with_reducible refine Moves.ite3 ?_ ?_
  split
  dsimp -zeta only
  with_reducible refine Moves.step ?_ (Moves.snd (by assumption) (readWord32_mv _ _ _)) rfl
  with_reducible exact Moves.refl _ _
  split
  split
  dsimp -zeta only
  with_reducible refine Moves.step ?_ (Moves.snd (by assumption) (readWord32_mv _ _ _)) rfl
  with_reducible refine Moves.step ?_ (Moves.snd (by assumption) (readWord32_mv _ _ _)) rfl
  with_reducible exact Moves.refl _ _

theorem cfgWrite_mv (x0 : State) (x1 : Path) (x2 : Nat) (x3 : Nat) (x4 : Nat) (x5 : Bool) : Moves 536870896 x0 (cfgWrite x0 x1 x2 x3 x4 x5).2 := by
  unfold cfgWrite
  with_reducible refine Moves.ite2 ?_ ?_
  dsimp -zeta only
  with_reducible refine Moves.step ?_ (regAccess_mv _ _ _ _) rfl
  with_reducible exact Moves.refl _ _
  with_reducible refine Moves.ite2 ?_ ?_
  lift_lets
  (intro s6; refine Moves.cut (P := Moves 536870896 x0 s6) ?_ ?_; rotate_left; intro h6; clear_value s6)
  (intro s7; refine Moves.cut (P := Moves 536870896 x0 s7) ?_ ?_; rotate_left; intro h7; clear_value s7)
  dsimp -zeta only
  with_reducible refine Moves.step ?_ (regAccess_mv _ _ _ _) rfl
  assumption
  with_reducible refine Moves.ite2 ?_ ?_
  dsimp -zeta only
  with_reducible refine Moves.step ?_ (performWord_mv _ _ _ _ _) rfl
  with_reducible exact Moves.refl _ _
  dsimp -zeta only
  with_reducible refine Moves.step ?_ (performDouble_mv _ _ _ _ _) rfl
  with_reducible exact Moves.refl _ _
  subst s6
  with_reducible refine Moves.step ?_ (clearLatch_mv _ _) rfl
  with_reducible refine Moves.step ?_ (expireDual_mv _) rfl
  with_reducible exact Moves.refl _ _
  subst s7
  with_reducible refine Moves.ite ?_ ?_
  assumption
  with_reducible refine Moves.step ?_ (interruptDual_mv _ _ _) rfl
  assumption

theorem writeReg_mv (x0 : State) (x1 : Path) (x2 : Nat) (x3 : Nat) (x4 : Bool) : Moves 536870896 x0 (writeReg x0 x1 x2 x3 x4) := by
  unfold writeReg
  with_reducible refine Moves.step ?_ (cfgWrite_mv _ _ _ _ _ _) rfl
  with_reducible exact Moves.refl _ _

theorem writeDual_mv (x0 : State) (x1 : Path) (x2 : Nat) (x3 : Nat) (x4 : Nat) : Moves 536870896 x0 (writeDual x0 x1 x2 x3 x4) := by
  unfold writeDual
  with_reducible refine Moves.step ?_ (writeReg_mv _ _ _ _ _) rfl
  with_reducible refine Moves.step ?_ (writeReg_mv _ _ _ _ _) rfl
  with_reducible exact Moves.refl _ _

theorem writePair_mv (x0 : State) (x1 : Path) (x2 : Nat) (x3 : Nat) : Moves 536870896 x0 (writePair x0 x1 x2 x3) := by
  unfold writePair
  with_reducible refine Moves.step ?_ (cfgWrite_mv _ _ _ _ _ _) rfl
  with_reducible exact Moves.refl _ _

theorem readReg_mv (x0 : State) (x1 : Path) (x2 : Nat) : Moves 8390128 x0 (readReg x0 x1 x2) := by
  unfold readReg
  split
  with_reducible refine Moves.mk' (m := 8390128) ?_ (.inl rfl) (.inl rfl) (.inl rfl) (.inl rfl) (.inl rfl) (.inr rfl) (.inl rfl) (.inr rfl) (.inr rfl) rfl rfl (.inr rfl) (.inr rfl) (.inr rfl) (.inr rfl) (.inr rfl) (.inr rfl) (.inr rfl) (.inr rfl) (.inr rfl) (.inr rfl) (.inl rfl) (.inr rfl) (.inr rfl) (.inr rfl) (.inr rfl) (.inr rfl)
  with_reducible refine Moves.step ?_ (Moves.thd (by assumption) (cfgRead_mv _ _ _ _)) rfl
  with_reducible exact Moves.refl _ _

theorem execRegWrite_mv (x0 : Path) (x1 : BitVec 24) (x2 : Word) (x3 : State) : MovesO 536870896 x3 (execRegWrite x0 x1 x2 x3) := by
  unfold execRegWrite
  with_reducible refine MovesO.whenDo ?_ ?_
  with_reducible exact Moves.refl _ _
  with_reducible refine Moves.step ?_ (writeReg_mv _ _ _ _ _) rfl
  with_reducible exact Moves.refl _ _

theorem execDwWindowExpiry_mv (x0 : State) : MovesO 496 x0 (execDwWindowExpiry x0) := by
  unfold execDwWindowExpiry
  split
  with_reducible refine MovesO.next ?_
  with_reducible refine Moves.step ?_ (expireDual_mv _) rfl
  with_reducible refine Moves.step ?_ (State.atLeast_mv _ _) rfl
  with_reducible exact Moves.refl _ _
  with_reducible refine MovesO.next ?_
  with_reducible refine Moves.step ?_ (expireDual_mv _) rfl
  with_reducible refine Moves.step ?_ (State.atLeast_mv _ _) rfl
  with_reducible exact Moves.refl _ _
  with_reducible refine MovesO.next ?_
  with_reducible refine Moves.step ?_ (expireDual_mv _) rfl
  with_reducible refine Moves.step ?_ (State.atLeast_mv _ _) rfl
  with_reducible exact Moves.refl _ _
  with_reducible refine MovesO.next ?_
  with_reducible exact Moves.refl _ _

theorem execCfgownerWrite_mv (x0 : Path) (x1 : Word) (x2 : Word) (x3 : State) : MovesO 536870896 x3 (execCfgownerWrite x0 x1 x2 x3) := by
  unfold execCfgownerWrite
  with_reducible refine MovesO.whenDo ?_ ?_
  with_reducible exact Moves.refl _ _
  with_reducible refine Moves.step ?_ (writeDual_mv _ _ _ _ _) rfl
  with_reducible exact Moves.refl _ _

theorem execKeeperResetRequest_mv (x0 : Path) (x1 : Word) (x2 : Word) (x3 : State) : MovesO 536870896 x3 (execKeeperResetRequest x0 x1 x2 x3) := by
  unfold execKeeperResetRequest
  with_reducible refine MovesO.whenDo ?_ ?_
  with_reducible exact Moves.refl _ _
  with_reducible refine Moves.step ?_ (writeDual_mv _ _ _ _ _) rfl
  with_reducible exact Moves.refl _ _

theorem execWipeNextWrite_mv (x0 : Path) (x1 : Word) (x2 : Word) (x3 : State) : MovesO 536870896 x3 (execWipeNextWrite x0 x1 x2 x3) := by
  unfold execWipeNextWrite
  with_reducible refine MovesO.whenDo ?_ ?_
  with_reducible exact Moves.refl _ _
  with_reducible refine Moves.step ?_ (writeDual_mv _ _ _ _ _) rfl
  with_reducible exact Moves.refl _ _

theorem execScrubInitdone_mv (x0 : Path) (x1 : Word) (x2 : Word) (x3 : State) : MovesO 536870896 x3 (execScrubInitdone x0 x1 x2 x3) := by
  unfold execScrubInitdone
  with_reducible refine MovesO.whenDo ?_ ?_
  with_reducible exact Moves.refl _ _
  with_reducible refine Moves.step ?_ (writeDual_mv _ _ _ _ _) rfl
  with_reducible exact Moves.refl _ _

theorem execRepairFuseauth_mv (x0 : Path) (x1 : Word) (x2 : Word) (x3 : State) : MovesO 536870896 x3 (execRepairFuseauth x0 x1 x2 x3) := by
  unfold execRepairFuseauth
  with_reducible refine MovesO.whenDo ?_ ?_
  with_reducible exact Moves.refl _ _
  with_reducible refine Moves.step ?_ (writeDual_mv _ _ _ _ _) rfl
  with_reducible exact Moves.refl _ _

theorem execThermalResumeArm_mv (x0 : Path) (x1 : Word) (x2 : Word) (x3 : State) : MovesO 536870896 x3 (execThermalResumeArm x0 x1 x2 x3) := by
  unfold execThermalResumeArm
  with_reducible refine MovesO.whenDo ?_ ?_
  with_reducible exact Moves.refl _ _
  with_reducible refine Moves.step ?_ (writeDual_mv _ _ _ _ _) rfl
  with_reducible exact Moves.refl _ _

theorem execFwupRelease_mv (x0 : Path) (x1 : Word) (x2 : Word) (x3 : State) : MovesO 536870896 x3 (execFwupRelease x0 x1 x2 x3) := by
  unfold execFwupRelease
  with_reducible refine MovesO.whenDo ?_ ?_
  with_reducible exact Moves.refl _ _
  with_reducible refine Moves.step ?_ (writeDual_mv _ _ _ _ _) rfl
  with_reducible exact Moves.refl _ _

theorem fuseCommand_mv (x0 : State) (x1 : Path) (x2 : Nat) (x3 : Word) (x4 : Word) : MovesO 536870896 x0 (fuseCommand x0 x1 x2 x3 x4) := by
  unfold fuseCommand
  with_reducible refine MovesO.whenDo ?_ ?_
  with_reducible exact Moves.refl _ _
  with_reducible refine Moves.step ?_ (writeDual_mv _ _ _ _ _) rfl
  with_reducible exact Moves.refl _ _

theorem execFuseWrite_mv (x0 : Path) (x1 : Word) (x2 : Word) (x3 : State) : MovesO 536870896 x3 (execFuseWrite x0 x1 x2 x3) := by
  unfold execFuseWrite
  with_reducible refine MovesO.of_moves ?_ (fuseCommand_mv _ _ _ _ _) rfl
  with_reducible exact Moves.refl _ _

theorem execFuseWriteCrc_mv (x0 : Path) (x1 : Word) (x2 : Word) (x3 : State) : MovesO 536870896 x3 (execFuseWriteCrc x0 x1 x2 x3) := by
  unfold execFuseWriteCrc
  with_reducible refine MovesO.of_moves ?_ (fuseCommand_mv _ _ _ _ _) rfl
  with_reducible exact Moves.refl _ _

theorem execFuseLock_mv (x0 : Path) (x1 : Word) (x2 : Word) (x3 : State) : MovesO 536870896 x3 (execFuseLock x0 x1 x2 x3) := by
  unfold execFuseLock
  with_reducible refine MovesO.of_moves ?_ (fuseCommand_mv _ _ _ _ _) rfl
  with_reducible exact Moves.refl _ _

theorem execLcAdvance_mv (x0 : Path) (x1 : Word) (x2 : Word) (x3 : State) : MovesO 536870896 x3 (execLcAdvance x0 x1 x2 x3) := by
  unfold execLcAdvance
  with_reducible refine MovesO.of_moves ?_ (fuseCommand_mv _ _ _ _ _) rfl
  with_reducible exact Moves.refl _ _

theorem execFuseDirect_mv (x0 : Path) (x1 : Word) (x2 : Word) (x3 : State) : MovesO 536870896 x3 (execFuseDirect x0 x1 x2 x3) := by
  unfold execFuseDirect
  with_reducible refine MovesO.of_moves ?_ (fuseCommand_mv _ _ _ _ _) rfl
  with_reducible exact Moves.refl _ _

theorem execFuseRdselWrite_mv (x0 : Path) (x1 : Word) (x2 : State) : MovesO 536870896 x2 (execFuseRdselWrite x0 x1 x2) := by
  unfold execFuseRdselWrite
  with_reducible refine MovesO.whenDo ?_ ?_
  with_reducible exact Moves.refl _ _
  with_reducible refine Moves.step ?_ (writeReg_mv _ _ _ _ _) rfl
  with_reducible exact Moves.refl _ _

theorem execSextantQselWrite_mv (x0 : Path) (x1 : Word) (x2 : State) : MovesO 536870896 x2 (execSextantQselWrite x0 x1 x2) := by
  unfold execSextantQselWrite
  with_reducible refine MovesO.whenDo ?_ ?_
  with_reducible exact Moves.refl _ _
  with_reducible refine Moves.step ?_ (writeReg_mv _ _ _ _ _) rfl
  with_reducible exact Moves.refl _ _

theorem execSextantQualRead_mv (x0 : Path) (x1 : State) : MovesO 8390128 x1 (execSextantQualRead x0 x1) := by
  unfold execSextantQualRead
  with_reducible refine MovesO.whenDo ?_ ?_
  with_reducible exact Moves.refl _ _
  with_reducible refine Moves.step ?_ (readReg_mv _ _ _) rfl
  with_reducible exact Moves.refl _ _

theorem execEpochPortsetWrite_mv (x0 : Path) (x1 : Word) (x2 : State) : MovesO 536870896 x2 (execEpochPortsetWrite x0 x1 x2) := by
  unfold execEpochPortsetWrite
  with_reducible refine MovesO.whenDo ?_ ?_
  with_reducible exact Moves.refl _ _
  with_reducible refine Moves.step ?_ (writeReg_mv _ _ _ _ _) rfl
  with_reducible exact Moves.refl _ _

theorem execEpochInitWrite_mv (x0 : Path) (x1 : DWord) (x2 : State) : MovesO 536870896 x2 (execEpochInitWrite x0 x1 x2) := by
  unfold execEpochInitWrite
  with_reducible refine MovesO.whenDo ?_ ?_
  with_reducible exact Moves.refl _ _
  with_reducible refine Moves.step ?_ (writePair_mv _ _ _ _) rfl
  with_reducible exact Moves.refl _ _

theorem execTrigArm_mv (x0 : Path) (x1 : Fin 16) (x2 : Word) (x3 : State) : MovesO 536870896 x3 (execTrigArm x0 x1 x2 x3) := by
  unfold execTrigArm
  with_reducible refine MovesO.whenDo ?_ ?_
  with_reducible exact Moves.refl _ _
  with_reducible refine Moves.step ?_ (writeReg_mv _ _ _ _ _) rfl
  with_reducible exact Moves.refl _ _

theorem execSqTailDoorbell_mv (x0 : Path) (x1 : Fin 64) (x2 : Word) (x3 : State) : MovesO 536870896 x3 (execSqTailDoorbell x0 x1 x2 x3) := by
  unfold execSqTailDoorbell
  with_reducible refine MovesO.whenDo ?_ ?_
  with_reducible exact Moves.refl _ _
  with_reducible refine Moves.step ?_ (writeReg_mv _ _ _ _ _) rfl
  with_reducible exact Moves.refl _ _

theorem execCqHeadDoorbell_mv (x0 : Path) (x1 : Fin 64) (x2 : Word) (x3 : State) : MovesO 536870896 x3 (execCqHeadDoorbell x0 x1 x2 x3) := by
  unfold execCqHeadDoorbell
  with_reducible refine MovesO.whenDo ?_ ?_
  with_reducible exact Moves.refl _ _
  with_reducible refine Moves.step ?_ (writeReg_mv _ _ _ _ _) rfl
  with_reducible exact Moves.refl _ _

theorem execRingEnable_mv (x0 : Path) (x1 : Fin 64) (x2 : Word) (x3 : State) : MovesO 536870896 x3 (execRingEnable x0 x1 x2 x3) := by
  unfold execRingEnable
  with_reducible refine MovesO.whenDo ?_ ?_
  with_reducible exact Moves.refl _ _
  with_reducible refine Moves.step ?_ (writeReg_mv _ _ _ _ _) rfl
  with_reducible exact Moves.refl _ _

theorem execRingDisable_mv (x0 : Path) (x1 : Fin 64) (x2 : Word) (x3 : State) : MovesO 536870896 x3 (execRingDisable x0 x1 x2 x3) := by
  unfold execRingDisable
  with_reducible refine MovesO.whenDo ?_ ?_
  with_reducible exact Moves.refl _ _
  with_reducible refine Moves.step ?_ (writeReg_mv _ _ _ _ _) rfl
  with_reducible exact Moves.refl _ _

theorem execAlmanacRselWrite_mv (x0 : Path) (x1 : DWord) (x2 : State) : MovesO 536870896 x2 (execAlmanacRselWrite x0 x1 x2) := by
  unfold execAlmanacRselWrite
  with_reducible refine MovesO.whenDo ?_ ?_
  with_reducible exact Moves.refl _ _
  with_reducible refine Moves.step ?_ (writePair_mv _ _ _ _) rfl
  with_reducible exact Moves.refl _ _

theorem execAlmanacRdataRead_mv (x0 : Path) (x1 : State) : MovesO 8390128 x1 (execAlmanacRdataRead x0 x1) := by
  unfold execAlmanacRdataRead
  with_reducible refine MovesO.whenDo ?_ ?_
  with_reducible exact Moves.refl _ _
  with_reducible refine Moves.step ?_ (readReg_mv _ _ _) rfl
  with_reducible exact Moves.refl _ _

theorem execEvtRingEnable_mv (x0 : Path) (x1 : Fin 4) (x2 : Word) (x3 : State) : MovesO 536870896 x3 (execEvtRingEnable x0 x1 x2 x3) := by
  unfold execEvtRingEnable
  with_reducible refine MovesO.whenDo ?_ ?_
  with_reducible exact Moves.refl _ _
  with_reducible refine Moves.step ?_ (writeReg_mv _ _ _ _ _) rfl
  with_reducible exact Moves.refl _ _

theorem execEvtRingDisable_mv (x0 : Path) (x1 : Fin 4) (x2 : Word) (x3 : State) : MovesO 536870896 x3 (execEvtRingDisable x0 x1 x2 x3) := by
  unfold execEvtRingDisable
  with_reducible refine MovesO.whenDo ?_ ?_
  with_reducible exact Moves.refl _ _
  with_reducible refine Moves.step ?_ (writeReg_mv _ _ _ _ _) rfl
  with_reducible exact Moves.refl _ _

theorem execEvtRingHeadWrite_mv (x0 : Path) (x1 : Fin 4) (x2 : Word) (x3 : State) : MovesO 536870896 x3 (execEvtRingHeadWrite x0 x1 x2 x3) := by
  unfold execEvtRingHeadWrite
  with_reducible refine MovesO.whenDo ?_ ?_
  with_reducible exact Moves.refl _ _
  with_reducible refine Moves.step ?_ (writeReg_mv _ _ _ _ _) rfl
  with_reducible exact Moves.refl _ _

theorem execEvtFatalAckWrite_mv (x0 : Path) (x1 : DWord) (x2 : State) : MovesO 536870896 x2 (execEvtFatalAckWrite x0 x1 x2) := by
  unfold execEvtFatalAckWrite
  with_reducible refine MovesO.whenDo ?_ ?_
  with_reducible exact Moves.refl _ _
  with_reducible refine Moves.step ?_ (writePair_mv _ _ _ _) rfl
  with_reducible exact Moves.refl _ _

theorem execEvtMfifoRead_mv (x0 : Path) (x1 : State) : MovesO 8390128 x1 (execEvtMfifoRead x0 x1) := by
  unfold execEvtMfifoRead
  with_reducible refine MovesO.whenDo ?_ ?_
  with_reducible exact Moves.refl _ _
  with_reducible refine Moves.step ?_ (readReg_mv _ _ _) rfl
  with_reducible exact Moves.refl _ _

theorem execChrosyEnable_mv (x0 : Path) (x1 : Word) (x2 : State) : MovesO 536870896 x2 (execChrosyEnable x0 x1 x2) := by
  unfold execChrosyEnable
  with_reducible refine MovesO.whenDo ?_ ?_
  with_reducible exact Moves.refl _ _
  with_reducible refine Moves.step ?_ (writeReg_mv _ _ _ _ _) rfl
  with_reducible exact Moves.refl _ _

theorem execChrosyDisable_mv (x0 : Path) (x1 : Word) (x2 : State) : MovesO 536870896 x2 (execChrosyDisable x0 x1 x2) := by
  unfold execChrosyDisable
  with_reducible refine MovesO.whenDo ?_ ?_
  with_reducible exact Moves.refl _ _
  with_reducible refine Moves.step ?_ (writeReg_mv _ _ _ _ _) rfl
  with_reducible exact Moves.refl _ _

theorem execChrosyQselWrite_mv (x0 : Path) (x1 : Word) (x2 : State) : MovesO 536870896 x2 (execChrosyQselWrite x0 x1 x2) := by
  unfold execChrosyQselWrite
  with_reducible refine MovesO.whenDo ?_ ?_
  with_reducible exact Moves.refl _ _
  with_reducible refine Moves.step ?_ (writeReg_mv _ _ _ _ _) rfl
  with_reducible exact Moves.refl _ _

theorem execChrosyQualRead_mv (x0 : Path) (x1 : State) : MovesO 8390128 x1 (execChrosyQualRead x0 x1) := by
  unfold execChrosyQualRead
  with_reducible refine MovesO.whenDo ?_ ?_
  with_reducible exact Moves.refl _ _
  with_reducible refine Moves.step ?_ (readReg_mv _ _ _) rfl
  with_reducible exact Moves.refl _ _

theorem execWindowSetAsync_mv (x0 : Path) (x1 : Fin 64) (x2 : Word) (x3 : State) : MovesO 536870896 x3 (execWindowSetAsync x0 x1 x2 x3) := by
  unfold execWindowSetAsync
  with_reducible refine MovesO.whenDo ?_ ?_
  with_reducible exact Moves.refl _ _
  with_reducible refine Moves.step ?_ (writeReg_mv _ _ _ _ _) rfl
  with_reducible exact Moves.refl _ _

theorem execWindowSetSync_mv (x0 : Path) (x1 : Fin 64) (x2 : Word) (x3 : State) : MovesO 536870896 x3 (execWindowSetSync x0 x1 x2 x3) := by
  unfold execWindowSetSync
  with_reducible refine MovesO.whenDo ?_ ?_
  with_reducible exact Moves.refl _ _
  with_reducible refine Moves.step ?_ (writeReg_mv _ _ _ _ _) rfl
  with_reducible exact Moves.refl _ _

theorem execWindowSetOff_mv (x0 : Path) (x1 : Fin 64) (x2 : Word) (x3 : State) : MovesO 536870896 x3 (execWindowSetOff x0 x1 x2 x3) := by
  unfold execWindowSetOff
  with_reducible refine MovesO.whenDo ?_ ?_
  with_reducible exact Moves.refl _ _
  with_reducible refine Moves.step ?_ (writeReg_mv _ _ _ _ _) rfl
  with_reducible exact Moves.refl _ _

theorem execTransitAbort_mv (x0 : Path) (x1 : Word) (x2 : State) : MovesO 536870896 x2 (execTransitAbort x0 x1 x2) := by
  unfold execTransitAbort
  with_reducible refine MovesO.whenDo ?_ ?_
  with_reducible exact Moves.refl _ _
  with_reducible refine Moves.step ?_ (writeReg_mv _ _ _ _ _) rfl
  with_reducible exact Moves.refl _ _

theorem execMgmtStage_mv (x0 : Word) (x1 : State) : MovesO 536870896 x1 (execMgmtStage x0 x1) := by
  unfold execMgmtStage
  with_reducible refine MovesO.whenDo ?_ ?_
  with_reducible exact Moves.refl _ _
  with_reducible refine Moves.step ?_ (writeReg_mv _ _ _ _ _) rfl
  with_reducible exact Moves.refl _ _

theorem execMgmtActivate_mv (x0 : Word) (x1 : Bool) (x2 : State) : MovesO 536870896 x2 (execMgmtActivate x0 x1 x2) := by
  unfold execMgmtActivate
  with_reducible refine MovesO.whenDo ?_ ?_
  with_reducible exact Moves.refl _ _
  with_reducible refine Moves.step ?_ (writeReg_mv _ _ _ _ _) rfl
  with_reducible exact Moves.refl _ _

theorem execMgmtCommit_mv (x0 : Word) (x1 : State) : MovesO 536870896 x1 (execMgmtCommit x0 x1) := by
  unfold execMgmtCommit
  with_reducible refine MovesO.whenDo ?_ ?_
  with_reducible exact Moves.refl _ _
  with_reducible refine Moves.step ?_ (writeReg_mv _ _ _ _ _) rfl
  with_reducible exact Moves.refl _ _

theorem mgmtFails_mv (x0 : State) (x1 : Nat) : Moves 496 x0 (mgmtFails x0 x1) := by
  unfold mgmtFails
  lift_lets
  (intro c1; clear_value c1)
  (intro s2; refine Moves.cut (P := Moves 496 x0 s2) ?_ ?_; rotate_left; intro h2; clear_value s2)
  with_reducible refine Moves.step ?_ (regAccess_mv _ _ _ _) rfl
  assumption
  subst s2
  with_reducible exact Moves.mk' (m := 496) (Moves.refl _ _) (.inl rfl) (.inl rfl) (.inl rfl) (.inl rfl) (.inl rfl) (.inr rfl) (.inr rfl) (.inr rfl) (.inr rfl) rfl rfl (.inr rfl) (.inr rfl) (.inr rfl) (.inr rfl) (.inr rfl) (.inr rfl) (.inr rfl) (.inr rfl) (.inr rfl) (.inr rfl) (.inr rfl) (.inr rfl) (.inr rfl) (.inr rfl) (.inr rfl) (.inr rfl)

theorem mgmtNack_mv (x0 : State) : Moves 16 x0 (mgmtNack x0) := by
  unfold mgmtNack
  with_reducible exact Moves.mk' (m := 16) (Moves.refl _ _) (.inl rfl) (.inr rfl) (.inr rfl) (.inr rfl) (.inr rfl) (.inr rfl) (.inr rfl) (.inr rfl) (.inr rfl) rfl rfl (.inr rfl) (.inr rfl) (.inr rfl) (.inr rfl) (.inr rfl) (.inr rfl) (.inr rfl) (.inr rfl) (.inr rfl) (.inr rfl) (.inr rfl) (.inr rfl) (.inr rfl) (.inr rfl) (.inr rfl) (.inr rfl)

theorem mgmtPoint_mv (x0 : State) (x1 : Nat) (x2 : Nat) : Moves 16 x0 (mgmtPoint x0 x1 x2) := by
  unfold mgmtPoint
  with_reducible exact Moves.mk' (m := 16) (Moves.refl _ _) (.inl rfl) (.inr rfl) (.inr rfl) (.inr rfl) (.inr rfl) (.inr rfl) (.inr rfl) (.inr rfl) (.inr rfl) rfl rfl (.inr rfl) (.inr rfl) (.inr rfl) (.inr rfl) (.inr rfl) (.inr rfl) (.inr rfl) (.inr rfl) (.inr rfl) (.inr rfl) (.inr rfl) (.inr rfl) (.inr rfl) (.inr rfl) (.inr rfl) (.inr rfl)

theorem setPointer_mv (x0 : State) (x1 : List Nat) : Moves 496 x0 (setPointer x0 x1) := by
  unfold setPointer
  with_reducible refine Moves.ite ?_ ?_
  with_reducible refine Moves.step ?_ (mgmtPoint_mv _ _ _) rfl
  with_reducible exact Moves.refl _ _
  with_reducible refine Moves.step ?_ (mgmtFails_mv _ _) rfl
  with_reducible exact Moves.refl _ _

theorem execMgmtSetPointer_mv (x0 : List Byte) (x1 : State) : MovesO 496 x1 (execMgmtSetPointer x0 x1) := by
  unfold execMgmtSetPointer
  with_reducible refine MovesO.whenDo ?_ ?_
  with_reducible exact Moves.refl _ _
  with_reducible refine Moves.ite ?_ ?_
  with_reducible refine Moves.step ?_ (mgmtNack_mv _) rfl
  with_reducible exact Moves.refl _ _
  with_reducible refine Moves.step ?_ (setPointer_mv _ _) rfl
  with_reducible exact Moves.refl _ _

theorem mgmtWords_mv (x0 : State) (x1 : Nat) (x2 : List Nat) (x3 : Nat) : Moves 536870896 x0 (mgmtWords x0 x1 x2 x3) := by
  unfold mgmtWords
  (with_reducible refine Moves.foldl _ _ ?_ ?_; rotate_left; intro _ _ _)
  with_reducible refine Moves.step ?_ (performWord_mv _ _ _ _ _) rfl
  assumption
  with_reducible exact Moves.refl _ _

theorem mgmtWriteTx_mv (x0 : State) (x1 : List Nat) : Moves 536870896 x0 (mgmtWriteTx x0 x1) := by
  unfold mgmtWriteTx
  lift_lets
  (intro c1; clear_value c1)
  (intro c2; clear_value c2)
  (intro c3; clear_value c3)
  (intro s4; refine Moves.cut (P := Moves 536870896 x0 s4) ?_ ?_; rotate_left; intro h4; clear_value s4)
  (intro c5; clear_value c5)
  with_reducible refine Moves.ite ?_ ?_
  with_reducible refine Moves.step ?_ (mgmtWords_mv _ _ _ _) rfl
  with_reducible exact Moves.mk' (m := 536870896) (by assumption) (.inl rfl) (.inl rfl) (.inl rfl) (.inl rfl) (.inl rfl) (.inl rfl) (.inl rfl) (.inl rfl) (.inl rfl) (by rfl) (by rfl) (.inl rfl) (.inl rfl) (.inl rfl) (.inl rfl) (.inl rfl) (.inl rfl) (.inl rfl) (.inl rfl) (.inl rfl) (.inl rfl) (.inl rfl) (.inl rfl) (.inl rfl) (.inl rfl) (.inl rfl) (.inl rfl)
  with_reducible refine Moves.step ?_ (mgmtFails_mv _ _) rfl
  with_reducible exact Moves.refl _ _
  subst s4
  with_reducible refine Moves.step ?_ (mgmtPoint_mv _ _ _) rfl
  with_reducible exact Moves.refl _ _

theorem execMgmtWrite_mv (x0 : List Byte) (x1 : State) : MovesO 536870896 x1 (execMgmtWrite x0 x1) := by
  unfold execMgmtWrite
  with_reducible refine MovesO.whenDo ?_ ?_
  with_reducible exact Moves.refl _ _
  with_reducible refine Moves.ite ?_ ?_
  with_reducible refine Moves.step ?_ (mgmtNack_mv _) rfl
  with_reducible exact Moves.refl _ _
  with_reducible refine Moves.step ?_ (mgmtWriteTx_mv _ _) rfl
  with_reducible exact Moves.refl _ _

theorem mgmtTake_mv (x0 : State) (x1 : Nat) (x2 : Nat) : Moves 8389840 x0 (mgmtTake x0 x1 x2).2 := by
  unfold mgmtTake
  (with_reducible refine Moves.foldl_snd _ _ _ ?_ ?_; rotate_left; intro _ _ _; dsimp -zeta only)
  with_reducible refine Moves.step ?_ (readWord32_mv _ _ _) rfl
  with_reducible assumption
  with_reducible exact Moves.refl _ _

theorem mgmtReadTx_mv (x0 : State) (x1 : List Nat) : Moves 8390128 x0 (mgmtReadTx x0 x1) := by
  unfold mgmtReadTx
  lift_lets
  (intro c1; clear_value c1)
  (intro c2; clear_value c2)
  with_reducible refine Moves.ite ?_ ?_
  lift_lets
  dsimp -zeta only
  lift_lets
  (intro c7; clear_value c7)
  dsimp -zeta only
  lift_lets
  (intro c10; clear_value c10)
  with_reducible refine Moves.mk' (m := 8390128) ?_ (.inl rfl) (.inl rfl) (.inl rfl) (.inl rfl) (.inl rfl) (.inr rfl) (.inl rfl) (.inr rfl) (.inr rfl) rfl rfl (.inr rfl) (.inr rfl) (.inr rfl) (.inr rfl) (.inr rfl) (.inr rfl) (.inr rfl) (.inr rfl) (.inr rfl) (.inr rfl) (.inl rfl) (.inr rfl) (.inr rfl) (.inr rfl) (.inr rfl) (.inr rfl)
  with_reducible refine Moves.step ?_ (mgmtTake_mv _ _ _) rfl
  with_reducible refine Moves.step ?_ (mgmtPoint_mv _ _ _) rfl
  with_reducible exact Moves.refl _ _
  with_reducible refine Moves.step ?_ (mgmtFails_mv _ _) rfl
  with_reducible exact Moves.refl _ _

theorem execMgmtRead_mv (x0 : List Byte) (x1 : State) : MovesO 8390128 x1 (execMgmtRead x0 x1) := by
  unfold execMgmtRead
  with_reducible refine MovesO.whenDo ?_ ?_
  with_reducible exact Moves.refl _ _
  with_reducible refine Moves.ite ?_ ?_
  with_reducible refine Moves.step ?_ (mgmtNack_mv _) rfl
  with_reducible exact Moves.refl _ _
  with_reducible refine Moves.step ?_ (mgmtReadTx_mv _ _) rfl
  with_reducible exact Moves.refl _ _

theorem execSmbusTimeout_mv (x0 : State) : MovesO 16 x0 (execSmbusTimeout x0) := by
  unfold execSmbusTimeout
  with_reducible refine MovesO.whenDo ?_ ?_
  with_reducible exact Moves.refl _ _
  with_reducible exact Moves.mk' (m := 16) (Moves.refl _ _) (.inl rfl) (.inr rfl) (.inr rfl) (.inr rfl) (.inr rfl) (.inr rfl) (.inr rfl) (.inr rfl) (.inr rfl) rfl rfl (.inr rfl) (.inr rfl) (.inr rfl) (.inr rfl) (.inr rfl) (.inr rfl) (.inr rfl) (.inr rfl) (.inr rfl) (.inr rfl) (.inr rfl) (.inr rfl) (.inr rfl) (.inr rfl) (.inr rfl) (.inr rfl)

end Sys2Proof.Machine
end

