-- ==== Sys2Proof/Laws/FrameStaging.lean ====
section
/-! SUPPORT. What each operation of Machine/Staging.lean may change, one lemma an operation (`<name>_mv`): the components its
mask names, and nothing else of the state. -/

namespace Sys2Proof.Machine

theorem unstage_mv (x0 : State) (x1 : Port) (x2 : StReq) : Moves 256 x0 (unstage x0 x1 x2) := by
  unfold unstage
  with_reducible refine Moves.step ?_ (State.modPort_mv _ _ _) rfl
  with_reducible exact Moves.refl _ _

theorem claimBase_mv (x0 : State) (x1 : Nat) : Moves 6144 x0 (claimBase x0 x1) := by
  unfold claimBase
  with_reducible refine Moves.ite ?_ ?_
  with_reducible refine Moves.step ?_ (dramWrite_mv _ _ _ _) rfl
  with_reducible exact Moves.refl _ _
  with_reducible exact Moves.refl _ _

theorem enterQueue_mv (x0 : State) (x1 : Port) (x2 : StReq) (x3 : Nat) : Moves 155277808 x0 (enterQueue x0 x1 x2 x3) := by
  unfold enterQueue
  lift_lets
  (intro c1; clear_value c1)
  (intro s2; refine Moves.cut (P := Moves 155277808 x0 s2) ?_ ?_; rotate_left; intro h2; clear_value s2)
  (intro c3; clear_value c3)
  (intro c4; clear_value c4)
  (intro s5; refine Moves.cut (P := Moves 155277808 x0 s5) ?_ ?_; rotate_left; intro h5; clear_value s5)
  (intro s6; refine Moves.cut (P := Moves 155277808 x0 s6) ?_ ?_; rotate_left; intro h6; clear_value s6)
  (intro s7; refine Moves.cut (P := Moves 155277808 x0 s7) ?_ ?_; rotate_left; intro h7; clear_value s7)
  (intro s8; refine Moves.cut (P := Moves 155277808 x0 s8) ?_ ?_; rotate_left; intro h8; clear_value s8)
  (intro s9; refine Moves.cut (P := Moves 155277808 x0 s9) ?_ ?_; rotate_left; intro h9; clear_value s9)
  (intro s10; refine Moves.cut (P := Moves 155277808 x0 s10) ?_ ?_; rotate_left; intro h10; clear_value s10)
  with_reducible refine Moves.ite ?_ ?_
  with_reducible refine Moves.step ?_ (enqueue_mv _ _ _) rfl
  assumption
  with_reducible refine Moves.ite ?_ ?_
  with_reducible refine Moves.step ?_ (enqueue_mv _ _ _) rfl
  assumption
  with_reducible refine Moves.ite ?_ ?_
  with_reducible refine Moves.step ?_ (enqueue_mv _ _ _) rfl
  assumption
  with_reducible refine Moves.step ?_ (drainHost_mv _ _ _) rfl
  with_reducible refine Moves.step ?_ (enqueue_mv _ _ _) rfl
  assumption
  subst s2
  with_reducible refine Moves.step ?_ (turn_mv _ _ _) rfl
  with_reducible exact Moves.refl _ _
  subst s5
  with_reducible refine Moves.step ?_ (throttleTake_mv _ _ _ _) rfl
  with_reducible refine Moves.step ?_ (unstage_mv _ _ _) rfl
  with_reducible refine Moves.step ?_ (State.tick_mv _) rfl
  assumption
  subst s6
  with_reducible refine Moves.ite ?_ ?_
  assumption
  with_reducible refine Moves.step ?_ (thermTake_mv _ _ _ _) rfl
  assumption
  subst s7
  with_reducible refine Moves.step ?_ (State.modPc_mv _ _ _) rfl
  assumption
  subst s8
  with_reducible refine Moves.step ?_ (freshClaim_mv _ _) rfl
  assumption
  subst s9
  with_reducible refine Moves.ite ?_ ?_
  with_reducible refine Moves.step ?_ (claimBase_mv _ _) rfl
  assumption
  assumption
  subst s10
  (with_reducible refine Moves.foldl _ _ ?_ ?_; rotate_left; intro _ _ _)
  with_reducible refine Moves.step ?_ (noteWrite_mv _ _ _) rfl
  assumption
  assumption

theorem doCfg_mv (x0 : State) (x1 : Port) (x2 : StReq) : Moves 536870896 x0 (doCfg x0 x1 x2) := by
  unfold doCfg
  lift_lets
  (intro c1; clear_value c1)
  (intro c2; clear_value c2)
  (intro s3; refine Moves.cut (P := Moves 536870896 x0 s3) ?_ ?_; rotate_left; intro h3; clear_value s3)
  with_reducible refine Moves.ite ?_ ?_
  split
  with_reducible refine Moves.step ?_ (respond_mv _ _ _) rfl
  with_reducible refine Moves.step ?_ (Moves.thd (by assumption) (cfgRead_mv _ _ _ _)) rfl
  assumption
  split
  with_reducible refine Moves.step ?_ (respond_mv _ _ _) rfl
  with_reducible refine Moves.step ?_ (Moves.snd (by assumption) (cfgWrite_mv _ _ _ _ _ _)) rfl
  assumption
  subst s3
  with_reducible refine Moves.step ?_ (unstage_mv _ _ _) rfl
  with_reducible exact Moves.refl _ _

theorem recordMark_mv (x0 : State) (x1 : Port) (x2 : StReq) : Moves 536870896 x0 (recordMark x0 x1 x2) := by
  unfold recordMark
  lift_lets
  (intro s1; refine Moves.cut (P := Moves 536870896 x0 s1) ?_ ?_; rotate_left; intro h1; clear_value s1)
  (intro s2; refine Moves.cut (P := Moves 536870896 x0 s2) ?_ ?_; rotate_left; intro h2; clear_value s2)
  with_reducible refine Moves.step ?_ (passBoundary_mv _ _ _) rfl
  assumption
  subst s1
  with_reducible refine Moves.step ?_ (answerStaged_mv _ _ _ _) rfl
  with_reducible exact Moves.refl _ _
  subst s2
  with_reducible refine Moves.step ?_ (State.modPort_mv _ _ _) rfl
  assumption

theorem doMarkReq_mv (x0 : State) (x1 : Port) (x2 : StReq) : Moves 536870896 x0 (doMarkReq x0 x1 x2) := by
  unfold doMarkReq
  lift_lets
  (intro c1; clear_value c1)
  (intro c2; clear_value c2)
  with_reducible refine Moves.ite ?_ ?_
  with_reducible refine Moves.step ?_ (protoEvent_mv _ _ _ _) rfl
  with_reducible refine Moves.step ?_ (answerStaged_mv _ _ _ _) rfl
  with_reducible exact Moves.refl _ _
  with_reducible refine Moves.ite ?_ ?_
  with_reducible refine Moves.step ?_ (State.modPort_mv _ _ _) rfl
  with_reducible exact Moves.refl _ _
  with_reducible refine Moves.step ?_ (recordMark_mv _ _ _) rfl
  with_reducible exact Moves.refl _ _

theorem leave_mv (x0 : State) (x1 : Port) (x2 : StReq) : Moves 536870896 x0 (leave x0 x1 x2) := by
  unfold leave
  split
  split
  with_reducible refine Moves.step ?_ (answerStaged_mv _ _ _ _) rfl
  with_reducible exact Moves.refl _ _
  split
  with_reducible refine Moves.step ?_ (enterQueue_mv _ _ _ _) rfl
  with_reducible exact Moves.refl _ _
  with_reducible exact Moves.refl _ _
  split
  with_reducible refine Moves.step ?_ (answerStaged_mv _ _ _ _) rfl
  with_reducible exact Moves.refl _ _
  split
  with_reducible refine Moves.step ?_ (enterQueue_mv _ _ _ _) rfl
  with_reducible exact Moves.refl _ _
  with_reducible exact Moves.refl _ _
  split
  with_reducible refine Moves.step ?_ (answerStaged_mv _ _ _ _) rfl
  with_reducible exact Moves.refl _ _
  split
  with_reducible refine Moves.step ?_ (enterQueue_mv _ _ _ _) rfl
  with_reducible exact Moves.refl _ _
  with_reducible exact Moves.refl _ _
  with_reducible refine Moves.step ?_ (doCfg_mv _ _ _) rfl
  with_reducible exact Moves.refl _ _
  with_reducible refine Moves.step ?_ (doCfg_mv _ _ _) rfl
  with_reducible exact Moves.refl _ _
  with_reducible refine Moves.ite ?_ ?_
  with_reducible refine Moves.step ?_ (answerStaged_mv _ _ _ _) rfl
  with_reducible exact Moves.refl _ _
  with_reducible refine Moves.step ?_ (doMarkReq_mv _ _ _) rfl
  with_reducible exact Moves.refl _ _
  with_reducible refine Moves.step ?_ (answerStaged_mv _ _ _ _) rfl
  with_reducible exact Moves.refl _ _

theorem reportClaims_mv (x0 : State) (x1 : Port) : Moves 496 x0 (reportClaims x0 x1) := by
  unfold reportClaims
  lift_lets
  (intro c1; clear_value c1)
  (intro c2; clear_value c2)
  (with_reducible refine Moves.foldl _ _ ?_ ?_; rotate_left; intro _ _ _)
  lift_lets
  (intro c5; clear_value c5)
  (intro s6; refine Moves.cut (P := Moves 496 x0 s6) ?_ ?_; rotate_left; intro h6; clear_value s6)
  with_reducible refine Moves.step ?_ (raiseLim_mv _ _ _ _ _ _ _ _ _ _) rfl
  assumption
  with_reducible exact Moves.refl _ _
  subst s6
  with_reducible refine Moves.step ?_ (State.modPort_mv _ _ _) rfl
  assumption

theorem releaseStaged_mv (x0 : State) (x1 : Port) : Moves 536870896 x0 (releaseStaged x0 x1) := by
  unfold releaseStaged
  lift_lets
  (intro s1; refine Moves.cut (P := Moves 536870896 x0 s1) ?_ ?_; rotate_left; intro h1; clear_value s1)
  split
  with_reducible refine Moves.step ?_ (leave_mv _ _ _) rfl
  with_reducible refine Moves.step ?_ (State.modPort_mv _ _ _) rfl
  assumption
  assumption
  subst s1
  with_reducible refine Moves.step ?_ (reportClaims_mv _ _) rfl
  with_reducible refine Moves.step ?_ (State.atLeast_mv _ _) rfl
  with_reducible exact Moves.refl _ _

theorem execStagingRelease_mv (x0 : Port) (x1 : State) : MovesO 536870896 x1 (execStagingRelease x0 x1) := by
  unfold execStagingRelease
  with_reducible refine MovesO.whenDo ?_ ?_
  with_reducible exact Moves.refl _ _
  with_reducible refine Moves.step ?_ (releaseStaged_mv _ _) rfl
  with_reducible exact Moves.refl _ _

theorem execBoundaryRelease_mv (x0 : Member) (x1 : State) : MovesO 536870896 x1 (execBoundaryRelease x0 x1) := by
  unfold execBoundaryRelease
  split
  split
  with_reducible refine MovesO.whenDo ?_ ?_
  with_reducible exact Moves.refl _ _
  with_reducible refine Moves.step ?_ (recordMark_mv _ _ _) rfl
  with_reducible exact Moves.refl _ _
  with_reducible refine MovesO.next ?_
  with_reducible exact Moves.refl _ _
  with_reducible refine MovesO.ite ?_ ?_
  split
  with_reducible refine MovesO.whenDo ?_ ?_
  with_reducible exact Moves.refl _ _
  with_reducible refine Moves.step ?_ (releaseEngine_mv _) rfl
  with_reducible exact Moves.refl _ _
  with_reducible refine MovesO.next ?_
  with_reducible exact Moves.refl _ _
  split
  with_reducible refine MovesO.whenDo ?_ ?_
  with_reducible exact Moves.refl _ _
  with_reducible refine Moves.step ?_ (releaseMirror_mv _) rfl
  with_reducible exact Moves.refl _ _
  with_reducible refine MovesO.next ?_
  with_reducible exact Moves.refl _ _

end Sys2Proof.Machine
end

