-- ==== Sys2Proof/Laws/FrameStep.lean ====
section
/-! SUPPORT. What each operation of Machine/Step.lean may change, one lemma an operation (`<name>_mv`): the components its
mask names, and nothing else of the state. -/

namespace Sys2Proof.Machine

theorem idleTick_mv (x0 : State) : Moves 16 x0 (idleTick x0) := by
  unfold idleTick
  with_reducible refine Moves.step ?_ (State.atLeast_mv _ _) rfl
  with_reducible exact Moves.refl _ _

theorem State.withFetchWord_mv (x0 : State) (x1 : Nat) (x2 : Nat) : Moves 0 x0 (State.withFetchWord x0 x1 x2) := by
  unfold State.withFetchWord
  split
  trivial
  with_reducible exact Moves.refl _ _

end Sys2Proof.Machine
end

