-- ==== Sys2Proof/WellFormed.lean ====
section
/-! DEFINITION. Which commands are well formed: a Wide Port slot carries its command's opcode and is followed by its data flits
(R55, R73), a row, a lane, a symbol, a character and a message lie in their ranges. A command that is not well formed names
nothing that can happen at the stack's interfaces. -/

namespace Sys2Proof

/-- The slot's opcode (R73). -/
def slotIs (w : Slot) (opc : Nat) : Bool := decide (bitsOf w.toNat 0 8 = opc)

/-- The data flits of a WR: 1, 2 or 4 by its LEN; none at the reserved LEN (R55, R75). -/
def wrFlits (w : Slot) : Nat := match bitsOf w.toNat 25 2 with | 0 => 1 | 1 => 2 | 2 => 4 | _ => 0

/-- A DRAM row (R23). -/
def rowOk (r : Nat) : Bool := decide (r < 49152)

/-- A lane position or crossing group, and compare counts of 16 bits (R104, R107). -/
def LaneSweep.wf (x : LaneSweep) : Bool :=
  decide (x.lane < 256) && (x.delayErr ++ x.threshErr ++ x.centreErr ++ x.verifyErr).all fun k => decide (k < 65536)

/-- A crossing group and a run within its 80 taps (R104, R132). -/
def XingCheck.wf (x : XingCheck) : Bool := decide (x.group < 256) && decide (x.lo + x.len ≤ 80)

/-- A fuse reading's word (R494). -/
def FuseReading.wf (x : FuseReading) : Bool := decide (x.word < 8192)

/-- The type of a mirror message, in its header frame (R386). -/
def msgIs (h : BitVec 256) (t : Nat) : Bool := decide (bitsOf h.toNat 0 8 = t)

/-- Well-formed commands. -/
def Instr.wf : Instr → Bool
  | .rd _ w => slotIs w 1
  | .wr _ w l => slotIs w 2 && decide (l.length = wrFlits w)
  | .wrm _ w l => slotIs w 3 && decide (l.length = 1)
  | .cfgRd _ w => slotIs w 4
  | .cfgWr _ w => slotIs w 5
  | .mark _ w => slotIs w 6
  | .fence _ w => slotIs w 7
  | .nop _ w => slotIs w.slot 0
  | .unlistedOpcode _ w => decide (7 < bitsOf w.toNat 0 8)
  | .downstreamLaneFailed _ lane => decide (lane < 72)
  | .fullTraining _ l | .fastTraining _ l | .pcOnline _ _ l => l.all LaneSweep.wf
  | .readDataDecoded _ _ us => us.all fun u => decide (u.sym < 72)
  | .captureOffer _ _ r | .captureCopyDone _ _ r | .nbrRefreshTrigger _ _ r | .softRepairStart _ _ r => rowOk r
  | .tsvLaneFailed _ lane => decide (lane < 74)
  | .freshClaimFill page => decide (page < 25165824)
  | .fuseSenseDone l | .fuseResense l | .fuseOpDone l _ => l.all FuseReading.wf
  | .watchReading _ r => r.xing.all XingCheck.wf
  | .syncWrite h _ => msgIs h 1
  | .asyncWrite h _ => msgIs h 2
  | .markMessage h => msgIs h 3
  | .barrier h => msgIs h 4
  | .mirrorAck h => msgIs h 5
  | .nack h => msgIs h 6
  | .barrierAck h => msgIs h 7
  | .pullReq h => msgIs h 8
  | .pullData h _ => msgIs h 9
  | .resyncData h _ => msgIs h 10
  | .reservedMessage h => msgIs h 0 || decide (10 < bitsOf h.toNat 0 8)
  | _ => true

end Sys2Proof
end

