-- ==== Sys2Proof/Tests/Slice0.lean ====
section
/-! SUPPORT. The model's own tests: ill-formed commands, values the spec writes out, single steps, and for every statement
states and operands that meet its hypotheses, clause by clause. -/

namespace Sys2Proof.Tests

set_option Elab.async false

open Sys2Proof Sys2Proof.Machine

/-- A stack in service: its links up, its pseudo-channels online, the Keeper running. -/
def svc : State :=
  { State.reset with
    ports := Vector.replicate 16 { link := .up, credits := #v[8, 8, 8] }
    pcs := Vector.replicate 64 { mode := .online }
    stack := { ready := true, keeper := .running }
    seq := { decided := true }
    scrub := { held := false }
    power := { phase := .service } }

def onPort (s : State) (f : PortSt → PortSt) : State := s.modPort 0 f
def onLink (s : State) (f : LinkSt → LinkSt) : State := s.modLink 0 f
def onPc (s : State) (f : PcSt → PcSt) : State := s.modPc 0 f

/-- The next state of a step that has one. -/
def stepped (s : State) : State := match step s with
  | .next t => t
  | _ => s

/-- The next state of a command that has one. -/
def ran (c : Instr) (s : State) : State := match exec c s with
  | .next t => t
  | _ => s

def anEvent : EvRec := ⟨1, 0, 0x0107, 3, 0, 0, 0⟩

/-- A descriptor block: opcode, LEN, OPERAND0 to OPERAND2. -/
def descBlock (opc len o0 o1 o2 : Nat) : Block :=
  BitVec.ofNat 512 (opc + len * 2 ^ 192 + o0 * 2 ^ 256 + o1 * 2 ^ 320 + o2 * 2 ^ 384)

def dsc (b : Block) : WxDesc := { idx := 0, desc := b, disp := some 0, tag := some 0 }

/-- Ring pair 0 holds the dispatched descriptor `dsc b`. -/
def onEngine (s : State) (b : Block) : State :=
  { s with wetex := { s.wetex with
      rings := s.wetex.rings.set 0 { st := .active, sqHead := 1, sqTail := 1, act := [dsc b] }, order := 1 } }

def onRing (s : State) (q : WxRing) : State := { s with wetex := { s.wetex with rings := s.wetex.rings.set 0 q } }

/-- A stack in service with its Chrosy link up. -/
def mir : State := csrSet { svc with chrosy := { svc.chrosy with st := .up, txW := 8, rxW := 8, credits := #v[256, 256] } } 0x000008 4

/-- The same, taking write messages for the first 64 KiB. -/
def mirRx : State := csrSet (csrSet mir 0x0B0108 1) 0x0B0134 1

/-- A mirror message header: type, window, LEN, code, WSEQ, block, epoch. -/
def msgHdr (type win len code wseq blk epoch : Nat) : BitVec 256 :=
  BitVec.ofNat 256 (type + win * 2 ^ 8 + len * 2 ^ 14 + code * 2 ^ 16 + wseq * 2 ^ 32 + blk * 2 ^ 128 + epoch * 2 ^ 192)

/-- Bytes of a management transaction with their PEC. -/
def withPec (l : List Byte) : List Byte := l ++ [BitVec.ofNat 8 (crc8 (mgmtAdr svc 0 :: byteNats l))]

def imgHdr : ImageHeader :=
  { magic := 0, hwType := 0, component := 0, hdrFmt := 1, version := 3, rangeLoMin := 0, rangeLoMax := 9, rangeHiMin := 0,
    rangeHiMax := 9, unitBind := 0, rollback := 0, keySlot := 0, length := 9000, setFmt := 0, setFmtMin := 0, bodyHash := 0,
    signature := 0, pubkey := 0, hdrCrc := 0, raw := [] }

/-- A partial write to a block of a claimed page whose unit has a line. -/
def mergeEnt : QEnt :=
  { id := 1, src := .host 0, kind := .wrm, cls := 1, blk := 0, n := 1, arrived := 0, pool := 1, data := [9], mask := 1,
    issued := true }

def claimedLine : Line := { way := 0, unit := 0, valid := 2, dirty := 2 }

def mergeState : State :=
  { onPc svc fun c => { c with queue := [mergeEnt] } with
    lagoon := { svc.lagoon with lines := [claimedLine] }
    dram := { svc.dram with freshActive := true, claims := [{ page := 0, done := 0 }] } }

/-- A calibration copy with the check word its bytes have. -/
def goodCopy (gen : Word) (lanes : SMap CalLane) : CalCopy :=
  { gen, lanes, crc := calCrc { gen, lanes } }

/-! ### Ill-formed commands are refused, one for each check -/

theorem test_wf_slots :
    ([.rd 0 2, .wr 0 1 [0], .wr 0 2 [], .wr 0 0x4000002#128 [0, 0], .wrm 0 2 [0], .wrm 0 3 [], .cfgRd 0 5, .cfgWr 0 4, .mark 0 7,
      .fence 0 6, .nop 0 ⟨1, false⟩, .unlistedOpcode 0 7] : List Instr).all (fun c => !c.wf) = true := by decide +kernel

theorem test_wf_ranges :
    ([.downstreamLaneFailed 0 72, .tsvLaneFailed 0 74, .freshClaimFill 25165824, .captureOffer 0 0 49152,
      .captureCopyDone 0 0 49152, .nbrRefreshTrigger 0 0 49152, .softRepairStart 0 0 49152, .readDataDecoded 0 0 [⟨0, 72, 1⟩],
      .fullTraining (.pc 0) [{ lane := 0, delayErr := [65536] }], .fastTraining (.pc 0) [{ lane := 256 }],
      .pcOnline 0 0 [{ lane := 0, verifyErr := [65536] }], .watchReading 0 ⟨0, [⟨0, 70, 11⟩]⟩, .fuseSenseDone [⟨8192, 0, 0, 0⟩], .fuseResense [⟨8192, 0, 0, 0⟩],
      .fuseOpDone [⟨8192, 0, 0, 0⟩] 0] : List Instr).all (fun c => !c.wf) = true := by decide +kernel

theorem test_wf_messages :
    ([.syncWrite 2 [], .asyncWrite 1 [], .markMessage 4, .barrier 3, .mirrorAck 6, .nack 5, .barrierAck 8, .pullReq 7, .pullData 10 [],
      .resyncData 9 [], .reservedMessage 10] : List Instr).all (fun c => !c.wf) = true := by decide +kernel

theorem test_wf_admits :
    ([.rd 0 1, .wr 0 0x4000002#128 [0, 0, 0, 0], .wrm 0 3 [0], .unlistedOpcode 0 8, .tsvLaneFailed 0 73, .captureOffer 0 0 49151,
      .reservedMessage 11, .fuseSenseDone [⟨8191, 0, 0, 0⟩]] : List Instr).all (fun c => c.wf) = true := by decide +kernel

/-! ### Values the spec writes out -/

/-- R133: the top address is row 49,151 of every order. -/
theorem test_top_address_row :
    ([0, 1, 2, 3] : List Nat).all (fun m => (coordOf m (0x17_FFFF_FFFF / 64)).row == 49151) = true := by decide +kernel

/-- R133: HASHED at row 3 of pseudo-channel field 0: R = 3 gives pseudo-channel 3, bank 0. -/
theorem test_hashed_pc : (coordOf 2 (3 * 2 ^ 21 / 64)).pc = 3 ∧ (coordOf 2 (3 * 2 ^ 21 / 64)).bank = 0 := by decide +kernel

/-- R135: region 15 of PARTITIONED starts at pseudo-channel 60. -/
theorem test_partition_pc : (coordOf 3 (15 * 6 * 2 ^ 30 / 64)).pc = 60 := by decide +kernel

/-- R490: IDCODE of die step 1. -/
theorem test_idcode : (ran .idcode svc).jtag.dr = 0x19616A9D := by decide +kernel

/-- R310: the CRC-64 of the nine ASCII digits. -/
theorem test_crc64 : crc64 0 [0x31, 0x32, 0x33, 0x34, 0x35, 0x36, 0x37, 0x38, 0x39] = 0x6C40DF5F0B497347 := by decide +kernel

/-- R11: 10 us are 16,000 CCLK of 0.625 ns. -/
theorem test_us10 : us10 * 625 = 10000000 := by decide

/-- R119: an eye of all 128 phases is one UI wide. -/
theorem test_eye_width : eyeWidth 128 = 1000 := by decide

/-! ### One step -/

/-- R89: a read takes a staging entry and its class's credit. -/
theorem test_rd_staged :
    (ran (.rd 0 0x20501#128) svc).ports[(0 : Port)].staging.length = 1 ∧
    (ran (.rd 0 0x20501#128) svc).ports[(0 : Port)].credits[(1 : Fin 3)] = 7 := by decide +kernel

/-- R77: a 256-byte read at block 1 is answered PROTO and takes no staging entry. -/
theorem test_rd_misaligned :
    (ran (.rd 0 0x104020501#128) svc).ports[(0 : Port)].staging = [] ∧
    (ran (.rd 0 0x104020501#128) svc).ports[(0 : Port)].egress.map (·.status) = [stProto] := by decide +kernel

/-- R73: before READY nothing is accepted. -/
theorem test_rd_before_ready : (ran (.rd 0 0x20501#128) State.reset).ports[(0 : Port)].egress = [] := by decide +kernel

/-- R534: a register write of a port that CFGOWNER does not name keeps the register. -/
theorem test_unowned : csrGet (ran (.regWrite 3 0x000020 0x11) (csrSet svc 0x000040 1)) 0x000020 = 2 := by decide +kernel

/-- R137: the map lock is sticky. -/
theorem test_lock_sticky : csrGet (ran (.regWrite 0 0x000020 0x01) (csrSet svc 0x000020 0x12)) 0x000020 = 0x12 := by
  decide +kernel

/-- R542: a wrong complement keeps the register. -/
theorem test_dual_complement : csrGet (ran (.cfgownerWrite 0 3 3) svc) 0x000040 = 0xFFFF := by decide +kernel

/-- R407: NEAP is entered at once. -/
theorem test_neap : (ran .lowPowerEntry (csrSet svc 0x0C0004 500)).power.low = 1 := by decide +kernel

/-- R416: a drain cut in step 4 leaves the seal torn, a whole one leaves it clean. -/
theorem test_drain_seal :
    (ran (.pfailDetect 4) svc).power.lwSeal.state = 1 ∧ (ran (.pfailDetect 7) svc).power.lwSeal.state = 2 := by decide +kernel

/-- The queue is first in, first out. -/
theorem test_queue_order : (stepped { svc with pending := [.idcode, .linkUp] }).pending = [.linkUp] := by decide +kernel

/-! ### Witnesses: for each clause of each statement, in order, a state and operands that meet its hypotheses -/

theorem witness_StepKeepsMemoryCanonical :
    ∃ (s t : State), memWf s = true ∧ step s = .next t :=
  ⟨{ svc with pending := [.rd 0 0x20500#128] }, stepped { svc with pending := [.rd 0 0x20500#128] }, by decide +kernel, rfl⟩

theorem witness_StepTakesOneCommandAndTimeRuns :
    (∃ (s t : State), step s = .next t) ∧
    (∃ (s : State), s.pending = []) :=
  ⟨
    ⟨{ svc with pending := [.rd 0 0x20500#128] }, stepped { svc with pending := [.rd 0 0x20500#128] }, rfl⟩,
    ⟨svc, by decide +kernel⟩⟩

theorem witness_RequestsAreTakenOrRefused :
    (∃ (k : ReqKind) (p : Port) (w : Slot) (_fl : List Block) (s : State), accepts s p = true ∧ s.ports[p].tags.contains
      (slotTag w) = false ∧ badFormat k w = false ∧ ((∀ c : Fin 3, creditClass k w = c.val → 0 < s.ports[p].credits[c])) ∧
      creditClass k w < 3) ∧
    (∃ (k : ReqKind) (p : Port) (w : Slot) (_fl : List Block) (s : State), accepts s p = true ∧ ((s.ports[p].tags.contains
      (slotTag w) = true ∨ badFormat k w = true ∨ ∃ c : Fin 3, creditClass k w = c.val ∧ s.ports[p].credits[c] = 0))) :=
  ⟨
    ⟨.rd, 0, 0x20500#128, [], svc, by decide +kernel⟩,
    ⟨.rd, 0, 0x6020500#128, [], svc, by decide +kernel⟩⟩

theorem witness_MisalignedRequestCompletesWithProto :
    (∃ (p : Port) (w : Slot) (_fl : List Block) (k : ReqKind) (s : State), (k = .rd ∨ k = .wr) ∧ accepts s p = true ∧
      ((slotLen w = 1 ∧ slotBlk w % 2 ≠ 0 ∨ slotLen w = 2 ∧ slotBlk w % 4 ≠ 0))) ∧
    (∃ (_map blk i len : Nat), len < 3 ∧ blk % lenBlocks len = 0 ∧ i < lenBlocks len) :=
  ⟨
    ⟨0, 0x104020500#128, [], .rd, svc, by decide +kernel⟩,
    ⟨2, 4, 3, 2, by decide +kernel⟩⟩

theorem witness_LinkSlotsChecksAndResends :
    (∃ (p : Port) (_w : Slot) (_shadowed : Bool) (s : State), accepts s p = true ∧ s.links[p].repairQ = []) ∧
    (∃ (p : Port) (w : Slot) (s : State), accepts s p = true ∧ 7 < slotOpc w) ∧
    (∃ (p : Port) (r : Resp) (s : State), sendsNew s p = true ∧ nextResp s.ports[p] = some r ∧ txRoom s p (1 + r.data.length)
      = true) ∧
    (∃ (p : Port) (s : State), sendsNew s p = true ∧ nextResp s.ports[p] = none ∧ txRoom s p 1 = true) ∧
    (∃ (p : Port) (e : EvRec) (rest : List EvRec) (s : State), sendsNew s p = true ∧ s.ports[p].sigWait = e :: rest ∧ 0 <
      s.ports[p].sigCred ∧ txRoom s p 1 = true ∧ s.evt.stopped = false) ∧
    (∃ (p : Port) (_f : Block) (_c : Word) (s : State), linkLive s p = true ∧ s.links[p].repair = none ∧ s.links[p].heldBack =
      0 ∧ s.links[p].repairQ = []) ∧
    (∃ (p : Port) (q : Nat) (s : State), linkLive s p = true ∧ s.links[p].muted = false ∧ s.links[p].resendFrom = some q) ∧
    (∃ (p : Port) (s : State), linkLive s p = true ∧ s.links[p].muted = false ∧ s.links[p].resendFrom = none ∧ 32 ≤
      s.links[p].replay.length) :=
  ⟨
    ⟨0, 0x10005#128, false, svc, by decide +kernel⟩,
    ⟨0, 8#128, svc, by decide +kernel⟩,
    ⟨0, { kind := .rd, tag := 5, status := 0 }, onPort svc fun q =>
      { q with tags := [5], egress := [{ kind := .rd, tag := 5, status := 0 }] }, by decide +kernel⟩,
    ⟨0, onPort svc fun q => { q with returns := #v[1, 0, 2] }, by decide +kernel⟩,
    ⟨0, anEvent, [], onPort svc fun q => { q with sigWait := [anEvent], sigCred := 1 }, by decide +kernel⟩,
    ⟨0, 0, 0, svc, by decide +kernel⟩,
    ⟨0, 3, onLink svc fun l => { l with resendFrom := some 3, replay := [⟨2, 7, 0⟩, ⟨3, 8, 0⟩, ⟨4, 9, 0⟩] },
      by decide +kernel⟩,
    ⟨0, onLink svc fun l => { l with replay := List.replicate 32 ⟨2, 7, 0⟩ }, by decide +kernel⟩⟩

theorem witness_PortFailures :
    (∃ (p : Port) (s : State), linkLive s p = true ∧ 8 ≤ s.links[p].failCount) ∧
    (∃ (p : Port) (s : State), s.ports[p].link ≠ .down ∧ (¬ (s.ports[p].link = .failed ∧ s.ports[p].failReason = 2))) ∧
    (∃ (p : Port) (arg : BitVec 16) (s : State), 1 ≤ arg.toNat ∧ arg.toNat ≤ 3 ∧ s.ports[p].link ≠ .down ∧ s.ports[p].link ≠
      .failed) ∧
    (∃ (p : Port) (_arg : BitVec 16) (s : State), s.links[p].trn ≠ .idle) ∧
    (∃ (p : Port) (w : PctlWait) (s : State), s.links[p].pctl = some w) :=
  ⟨
    ⟨0, onLink svc fun l => { l with failCount := 8 }, by decide +kernel⟩,
    ⟨0, svc, by decide +kernel⟩,
    ⟨0, 1, svc, by decide +kernel⟩,
    ⟨0, 1, onLink svc fun l => { l with trn := .started false }, by decide +kernel⟩,
    ⟨0, ⟨3, 9, 0, 3⟩, onLink svc fun l => { l with pctl := some ⟨3, 9, 0, 3⟩ }, by decide +kernel⟩⟩

theorem witness_LaneRepairAndPortResets :
    (∃ (p : Port) (lane : Nat) (s : State), linkLive s p = true ∧ lane < 68 ∧ laneDue s p lane = true ∧ dnBusy s.links[p] =
      false ∧ s.ports[p].mapDn = Vector.replicate 4 none ∧ s.transit.spareTest = [] ∧ ((∀ i : Fin 4, dnSpareBad s p i.val =
      false))) ∧
    (∃ (p : Port) (arg : BitVec 16) (i : Fin 4) (s : State), linkLive s p = true ∧ remapValid arg.toNat = true ∧ i.val =
      bitsOf arg.toNat 7 2 ∧ sparesLeft s.ports[p].mapUp (upSpareBad s p) ≠ 0 ∧ s.ports[p].mapUp[i] = none) ∧
    (∃ (p : Port) (arg : BitVec 16) (i : Fin 4) (s : State), s.ports[p].link = .remap ∧ s.links[p].repair = some arg.toNat ∧
      i.val = bitsOf arg.toNat 7 2 ∧ s.links[p].repairQ = []) ∧
    (∃ (p : Port) (s : State), s.ports[p].link ≠ .down ∧ (¬ (s.ports[p].link = .failed ∧ s.ports[p].failReason = 2))) ∧
    (∃ (p : Port) (s : State), s.ports[p].link = .failed ∧ s.ports[p].failReason = 2) ∧
    (∃ (p : Port) (s : State), s.ports[p].resetting = true ∧ s.ports[p].link = .reset ∧ s.links[p].trained = true ∧ keeperUp s
      = true) :=
  ⟨
    ⟨0, 3, onLink svc fun l => { l with laneErrs := [(3, 0), (3, 0), (3, 0)] }, by decide +kernel⟩,
    ⟨0, 643, 1, svc, by decide +kernel⟩,
    ⟨0, 643, 1, onLink (onPort svc fun q => { q with link := .remap }) fun l => { l with repair := some 643 },
      by decide +kernel⟩,
    ⟨0, svc, by decide +kernel⟩,
    ⟨0, onPort svc fun q => { q with link := .failed, failReason := 2 }, by decide +kernel⟩,
    ⟨0, onLink (onPort svc fun q => { q with link := .reset, resetting := true }) fun l => { l with trained := true },
      by decide +kernel⟩⟩

theorem witness_PctlTrainingFrames :
    (∃ (_p : Port) (cmd : Byte) (arg : BitVec 16) (crc : Byte) (_s : State), pctlCrc cmd arg ≠ crc.toNat ∨ pctlKnown cmd.toNat
      = false) ∧
    (∃ (p : Port) (_arg : BitVec 16) (fast : Bool) (s : State), s.links[p].trn = .started fast ∧ keeperUp s = true) ∧
    (∃ (p : Port) (arg : BitVec 16) (fast : Bool) (step at_ : Nat) (s : State), s.links[p].trn = .running fast step true at_ ∧
      arg.toNat % 8 = step) ∧
    (∃ (p : Port) (arg : BitVec 16) (fast dir : Bool) (step at_ : Nat) (s : State), s.links[p].trn = .running fast step dir
      at_ ∧ bitsOf arg.toNat 0 7 < 72) :=
  ⟨
    ⟨0, 0, 0, 1, svc, by decide +kernel⟩,
    ⟨0, 0, true, onLink svc fun l => { l with trn := .started true }, by decide +kernel⟩,
    ⟨0, 2, false, 2, 0, onLink svc fun l => { l with trn := .running false 2 true 0 }, by decide +kernel⟩,
    ⟨0, 71, false, true, 2, 0, onLink svc fun l => { l with trn := .running false 2 true 0 }, by decide +kernel⟩⟩

theorem witness_StagingReleases :
    (∃ (p : Port) (r : StReq) (s : State), releases s p = true ∧ nextStaged (atRelease s p) p = some r ∧ r.kind = .rd ∧ atOnce
      (atRelease s p) r = none ∧ (hostPool (atRelease s p).pcs[r.pc (atRelease s p)] r.urgent).isSome = true) ∧
    (∃ (p : Port) (r : StReq) (s : State), releases s p = true ∧ nextStaged (atRelease s p) p = some r ∧ r.kind = .fence ∧
      s.power.failing = false) ∧
    (∃ (p : Port) (r : StReq) (s : State), releases s p = true ∧ nextStaged (atRelease s p) p = some r ∧ r.kind = .mark ∧
      s.power.failing = false ∧ markRefused s p (slotEpoch r.slot) = 0 ∧ boundaryHeld s (slotEpoch r.slot) = false ∧ slotEpoch
      r.slot ≤ s.epochs.newest) :=
  ⟨
    ⟨0, { kind := .rd, slot := 0x20500#128, ord := 1, arrived := 0 }, onPort svc fun q =>
      { q with tags := [5], staging := [{ kind := .rd, slot := 0x20500#128, ord := 1, arrived := 0 }] }, by decide +kernel⟩,
    ⟨0, { kind := .fence, slot := 0x507#128, ord := 1, arrived := 0 }, onPort svc fun q =>
      { q with tags := [5], staging := [{ kind := .fence, slot := 0x507#128, ord := 1, arrived := 0 }] }, by decide +kernel⟩,
    ⟨0, { kind := .mark, slot := 0x10000000000000506#128, ord := 1, arrived := 0 },
      { (onPort svc fun q => { q with tags := [5], staging := [{ kind := .mark, slot := 0x10000000000000506#128, ord := 1, arrived := 0 }] }) with epochs := { svc.epochs with newest := 1, two := true } },
      by decide +kernel⟩⟩

theorem witness_BoundariesAndEpochCloses :
    (∃ (p : Port) (m : Member) (r : StReq) (since : Nat) (s : State), m.val = p.val ∧ heldMark s.ports[p] = some (r, since) ∧
      boundaryFree s (slotEpoch r.slot) = true ∧ slotEpoch r.slot ≤ s.epochs.newest) ∧
    (∃ (p : Port) (m : Member) (r : StReq) (since : Nat) (s : State), m.val = p.val ∧ heldMark s.ports[p] = some (r, since) ∧
      r.stalled = false) ∧
    (∃ (v since : Nat) (s : State), s.epochs.engHeld = some (v, since) ∧ s.epochs.engStalled = false) ∧
    (∃ (s : State), canClose s = true ∧ ((∀ i : Fin 16, csrFld s (trigReg i.val 0) 0 1 = 0))) ∧
    (∃ (v : BitVec 18) (s : State), s.epochs.pendingSet = some v ∧ setFree s = true) ∧
    (∃ (d : Deferred) (rest : List Deferred) (s : State), s.epochs.deferred = d :: rest ∧ keeperUp s = true ∧ (d.action = 1 ∨
      d.action = 4 ∨ d.action = 5)) :=
  ⟨
    ⟨0, 0, { kind := .mark, slot := 0x10000000000000506#128, ord := 1, arrived := 0, heldSince := some 4 }, 4,
      { (onPort svc fun q => { q with tags := [5], staging := [{ kind := .mark, slot := 0x10000000000000506#128, ord := 1, arrived := 0, heldSince := some 4 }] }) with epochs := { svc.epochs with newest := 1, two := true } },
      by decide +kernel⟩,
    ⟨0, 0, { kind := .mark, slot := 0x10000000000000506#128, ord := 1, arrived := 0, heldSince := some 4 }, 4, onPort svc fun
      q =>
      { q with tags := [5], staging := [{ kind := .mark, slot := 0x10000000000000506#128, ord := 1, arrived := 0, heldSince := some 4 }] },
      by decide +kernel⟩,
    ⟨2, 5, { svc with epochs := { svc.epochs with engHeld := some (2, 5) } }, by decide +kernel⟩,
    ⟨{ svc with epochs := { svc.epochs with newest := 1, two := true, cur := Vector.replicate 18 1 } }, by decide +kernel⟩,
    ⟨3, { svc with epochs := { svc.epochs with pendingSet := some 3 } }, by decide +kernel⟩,
    ⟨⟨2, 0, 4, false, 0⟩, [], { svc with epochs := { svc.epochs with deferred := [⟨2, 0, 4, false, 0⟩] } }, by decide +kernel⟩⟩

theorem witness_CalibrationCopyChosenOnLoading :
    (∃ (r : CalRec), r.a.ok = true ∧ r.b.ok = true ∧ r.a.gen < r.b.gen) ∧
    (∃ (r : CalRec), r.a.ok = true ∧ r.b.ok = true ∧ r.b.gen < r.a.gen) ∧
    (∃ (r : CalRec), r.a.ok = true ∧ r.b.ok = true ∧ r.a.gen = r.b.gen) ∧
    (∃ (r : CalRec), r.a.ok = true ∧ r.b.ok = false) ∧
    (∃ (r : CalRec), r.a.ok = false ∧ r.b.ok = true) ∧
    (∃ (n : Pc) (c : CalCopy) (k : Nat) (x : CalLane) (s : State), trainable s (.pc n) = true ∧ needsFull s (.pc n) = false ∧
      useCopy s.train.recs[regionNo (.pc n)] = some c ∧ c.lanes = [(k, x)] ∧ k < 148 ∧ (laneGet s (laneKey (regionNo (.pc
      n)).val k)).auto = none) ∧
    (∃ (r : Region) (_sw : List LaneSweep) (s : State), trainable s r = true ∧ handshake s r true = true ∧ r ≠ .crossing ∧ ((∀
      n : Pc, r = .pc n → needsFull s r = false)) ∧ s.train.recs[regionNo r].a.ok = false ∧ s.train.recs[regionNo r].b.ok =
      false) :=
  ⟨
    ⟨{ a := goodCopy 1 [], b := goodCopy 2 [] }, by decide +kernel⟩,
    ⟨{ a := goodCopy 2 [], b := goodCopy 1 [] }, by decide +kernel⟩,
    ⟨{ a := goodCopy 2 [], b := goodCopy 2 [] }, by decide +kernel⟩,
    ⟨{ a := goodCopy 2 [], b := {} }, by decide +kernel⟩,
    ⟨{ a := {}, b := goodCopy 1 [] }, by decide +kernel⟩,
    ⟨0, goodCopy 1 [(3, { delay := 100, thresh := 30 })], 3, { delay := 100, thresh := 30 },
      { State.reset with stack := { State.reset.stack with keeper := .running }, train := { State.reset.train with recs := State.reset.train.recs.set 16 { a := goodCopy 1 [(3, { delay := 100, thresh := 30 })] } } },
      by decide +kernel⟩,
    ⟨.port 0, [], onLink (onPort svc fun q => { q with link := .training }) fun l => { l with trn := .done true },
      by decide +kernel⟩⟩

theorem witness_TrainingAndRetraining :
    (∃ (r : Region) (w : LaneSweep) (s : State), trainable s r = true ∧ handshake s r false = true ∧ ((∃ p : Port, r = .port p
      ∧ w.lane < 72 ∧ w.write = false) ∨ (∃ n : Pc, r = .pc n ∧ needsFull s r = true ∧ w.lane < 74))) ∧
    (∃ (n : Pc) (lock : Bool) (s : State), pcOnline s n = true ∧ (lock = true ∨ lanesLost s n = true)) ∧
    (∃ (n : Pc) (s : State), s.pcs[n].mode = .retrain ∧ s.pcs[n].retrained = some true ∧ keeperUp s = true ∧ s.fw.mPend =
      none) ∧
    (∃ (n : Pc) (s : State), s.pcs[n].mode = .retrain ∧ s.pcs[n].retrained = some false ∧ keeperUp s = true ∧ s.fw.mPend =
      none) ∧
    (∃ (k : Fin 81) (s : State), s.train.recs[k].due = true ∧ keeperUp s = true ∧ s.power.failing = false) :=
  ⟨
    ⟨.pc 0, { lane := 3 },
      { State.reset with stack := { State.reset.stack with keeper := .running }, start := { State.reset.start with wiped := true } },
      by decide +kernel⟩,
    ⟨0, true, svc, by decide +kernel⟩,
    ⟨0, onPc svc fun c => { c with mode := .retrain, retrained := some true }, by decide +kernel⟩,
    ⟨0, onPc svc fun c => { c with mode := .retrain, retrained := some false }, by decide +kernel⟩,
    ⟨16, { svc with train := { svc.train with recs := svc.train.recs.set 16 { due := true } } }, by decide +kernel⟩⟩

theorem witness_CalibrationMovesOneTap :
    (∃ (l : LaneRef) (_m : CalMeas) (g : Nat) (s : State), refRegion l = some g ∧ laneLive s g l.lane = true ∧ periodFull s g
      l.lane = true) ∧
    (∃ (l : LaneRef) (g : Nat) (s : State), refRegion l = some g ∧ laneLive s g l.lane = true ∧ (laneGet s (laneKey g
      l.lane)).measured = true ∧ (laneGet s (laneKey g l.lane)).overridden = false ∧ (laneGet s (laneKey g l.lane)).onesOff =
      false ∧ (laneGet s (laneKey g l.lane)).delay ≠ tapWithin 383 (laneGet s (laneKey g l.lane)).target) ∧
    (∃ (i : Fin 64) (g lane : Nat) (s : State), ovrLane s i.val = some (g, lane) ∧ ovrShadowed s i.val = false ∧ (laneGet s
      (laneKey g lane)).failed = false ∧ (laneGet s (laneKey g lane)).delay ≠ min 383 (bitsOf (csrGet s (0x0F0204 + 8 *
      i.val)) 0 9)) :=
  ⟨
    ⟨⟨0, 0, 3⟩, { phase := List.replicate 60 0 }, 0, svc, by decide +kernel⟩,
    ⟨⟨1, 0, 3⟩, 16, { svc with train := { svc.train with lanes := [(4099, { target := 9, measured := true })] } },
      by decide +kernel⟩,
    ⟨0, 16, 3, csrSet (csrSet (csrSet svc 0x0F0000 1) 0x0F0200 0x20C01) 0x0F0204 40, by decide +kernel⟩⟩

theorem witness_SchedulerPicksARead :
    ∃ (n : Pc) (e : QEnt) (s : State), pcOnline s n = true ∧ requests s n = [e] ∧ e.kind = .rd ∧ e.isLine = false ∧ pickable
      (wiClear s n) n e = true :=
  ⟨0, { id := 1, src := .host 0, kind := .rd, cls := 1, blk := 0, n := 1, arrived := 0, pool := 1 }, onPc svc fun c =>
    { c with queue := [{ id := 1, src := .host 0, kind := .rd, cls := 1, blk := 0, n := 1, arrived := 0, pool := 1 }] },
    by decide +kernel⟩

theorem witness_QueuedRequestsComplete :
    (∃ (n : Pc) (id : Nat) (_up : List Upset) (e : QEnt) (s : State), entryOf s n id = some e ∧ readReady s n e = true ∧
      lagAllows s (readWays s e) = true) ∧
    (∃ (n : Pc) (id : Nat) (e : QEnt) (s : State), entryOf s n id = some e ∧ writeReady s n e = true ∧ writeHeldByWalk s e =
      false ∧ writeCapped s e = false) ∧
    (∃ (n : Pc) (id : Nat) (e : QEnt) (d : Block) (s : State), entryOf s n id = some e ∧ writeReady s n e = true ∧ e.kind =
      .wr ∧ e.blocks = [e.blk] ∧ e.data = [d] ∧ validLine s e.blk = none) ∧
    (∃ (n : Pc) (id : Nat) (e : QEnt) (s : State), entryOf s n id = some e ∧ mergeReady s n e = true ∧ lagAllows s (if
      e.urgent then [] else waysOf s [e.blk / 4]) = true ∧ e.mask = 0) ∧
    (∃ (n : Pc) (id : Nat) (e : QEnt) (l : Line) (s : State), entryOf s n id = some e ∧ mergeReady s n e = true ∧ lagAllows s
      (if e.urgent then [] else waysOf s [e.blk / 4]) = true ∧ e.mask ≠ 0 ∧ lineOf s (e.blk / 4) = some l ∧ underWalk s l =
      false ∧ ((s.lagoon.degrade ≠ 2 ∨ e.urgent = true)) ∧ capWaits s (e.blk / 4) e.cap e.urgent = false ∧ claimZero s e.blk =
      true) ∧
    (∃ (n : Pc) (d : Derived) (rest : List Derived) (s : State), s.pcs[n].derived = d :: rest ∧ intRoom s.pcs[n] = true ∧
      smGet 0 s.dram.lastWrite d.blk ≤ d.readId ∧ validLine s d.blk = none) ∧
    (∃ (n : Pc) (s : State), s.pcs[n].lapsed = true ∧ ((∀ u : Nat, anyBreach s n u = false)) ∧ urgThrottled s n = false) :=
  ⟨
    ⟨0, 1, [], { id := 1, src := .host 0, kind := .rd, cls := 1, blk := 0, n := 1, arrived := 0, pool := 1, issued := true },
      onPc svc fun c =>
      { c with queue := [{ id := 1, src := .host 0, kind := .rd, cls := 1, blk := 0, n := 1, arrived := 0, pool := 1, issued := true }] },
      by decide +kernel⟩,
    ⟨0, 1,
      { id := 1, src := .host 0, kind := .wr, cls := 1, blk := 0, n := 1, arrived := 0, pool := 1, data := [9], issued := true },
      onPc svc fun c =>
      { c with queue := [{ id := 1, src := .host 0, kind := .wr, cls := 1, blk := 0, n := 1, arrived := 0, pool := 1, data := [9], issued := true }] },
      by decide +kernel⟩,
    ⟨0, 1,
      { id := 1, src := .host 0, kind := .wr, cls := 1, blk := 0, n := 1, arrived := 0, pool := 1, data := [9], issued := true },
      9, onPc svc fun c =>
      { c with queue := [{ id := 1, src := .host 0, kind := .wr, cls := 1, blk := 0, n := 1, arrived := 0, pool := 1, data := [9], issued := true }] },
      by decide +kernel⟩,
    ⟨0, 1,
      { id := 1, src := .host 0, kind := .wrm, cls := 1, blk := 0, n := 1, arrived := 0, pool := 1, data := [9], issued := true },
      onPc svc fun c =>
      { c with queue := [{ id := 1, src := .host 0, kind := .wrm, cls := 1, blk := 0, n := 1, arrived := 0, pool := 1, data := [9], issued := true }] },
      by decide +kernel⟩,
    ⟨0, 1, mergeEnt, claimedLine, mergeState, by decide +kernel, by decide +kernel, by decide +kernel, by decide +kernel, rfl,
      by decide +kernel, by decide +kernel, by decide +kernel⟩,
    ⟨0, { blk := 0, readId := 1, data := 9, poison := false, finder := 0 }, [], onPc svc fun c =>
      { c with derived := [{ blk := 0, readId := 1, data := 9, poison := false, finder := 0 }] }, by decide +kernel⟩,
    ⟨0, onPc svc fun c => { c with lapsed := true, cause := 2 }, by decide +kernel, fun _ => rfl, by decide +kernel⟩⟩

theorem witness_LagoonRowsLinesAndWays :
    (∃ (n : Pc) (b : Fin 32) (row : Nat) (o : Offer) (s : State), s.pcs[n].offers.find? (fun o => o.bank == b.val && o.row ==
      row) = some o ∧ offerReady s n b row = true ∧ outranksCopy (s.atLeast (offerTime s n b)) n o.at_ = false ∧ offerRefused
      s n.val b.val row = 0) ∧
    (∃ (n : Pc) (b : Fin 32) (row : Nat) (s : State), s.pcs[n].banks[b].capture = some row ∧ lagAllows s (waysOf s (rowUnits s
      n.val b.val row)) = true) ∧
    (∃ (n : Pc) (u : Nat) (l : Line) (s : State), lineOf s u = some l ∧ unitPc s u = n.val ∧ l.dirty ≠ 0 ∧ l.captured = false
      ∧ l.wb = 0) ∧
    (∃ (n : Pc) (u : Nat) (l : Line) (s : State), lineOf s u = some l ∧ unitPc s u = n.val ∧ l.wb ≠ 0 ∧ l.issued = true ∧
      pcOnline s n = true) ∧
    (∃ (w : Fin 16) (cause : Fin 5) (_tag : Option (Pc × Nat)) (_lost : List Nat) (s : State), wayMayFail s w.val = true ∧ 1 ≤
      cause.val ∧ s.lagoon.recovering = none) ∧
    (∃ (w : Fin 16) (_lost : List Nat) (s : State), s.lagoon.recovering = some w.val) :=
  ⟨
    ⟨0, 0, 7, ⟨0, 7, none, false, 0⟩, csrSet (onPc svc fun c => { c with offers := [⟨0, 7, none, false, 0⟩] }) 0x060000 2,
      by decide +kernel⟩,
    ⟨0, 0, 7, onPc svc fun c => { c with banks := c.banks.set 0 { capture := some 7 } }, by decide +kernel⟩,
    ⟨0, 0, { way := 0, unit := 0, valid := 3, dirty := 2 },
      { svc with lagoon := { svc.lagoon with lines := [{ way := 0, unit := 0, valid := 3, dirty := 2 }] } },
      by decide +kernel⟩,
    ⟨0, 0, { way := 0, unit := 0, valid := 3, dirty := 2, wb := 2, issued := true },
      { svc with lagoon := { svc.lagoon with lines := [{ way := 0, unit := 0, valid := 3, dirty := 2, wb := 2, issued := true }] } },
      by decide +kernel⟩,
    ⟨3, 1, none, [], svc, by decide +kernel⟩,
    ⟨3, [], { svc with lagoon := { svc.lagoon with recovering := some 3 } }, by decide +kernel⟩⟩

theorem witness_RefreshAndRowGuard :
    (∃ (n : Pc) (s : State), refreshing s n = true) ∧
    (∃ (n : Pc) (b : Fin 32) (s : State), refreshReady s n b = true) ∧
    (∃ (n : Pc) (b : Fin 32) (row : Nat) (s : State), pcOnline s n = true ∧ (guardParams s).2.1 ≤ estOf s n b.val row ∧
      rowHeld s.pcs[n].banks[b] row = false) ∧
    (∃ (n : Pc) (b : Fin 32) (row : Nat) (rest : List Nat) (s : State), s.pcs[n].banks[b].trig = row :: rest ∧ targetedReady s
      n b row = true) ∧
    (∃ (s : State), s.stack.ready = true) ∧
    (∃ (q : Fin 1024) (x : Nat × Nat × Bool) (s : State), stepDue (guardParams s).2.2.1 (thrOf s q.val) = some x ∧ (thrOf s
      q.val).step < (guardParams s).2.2.2) :=
  ⟨
    ⟨0, onPc svc fun c => { c with refPos := 4 }, by decide +kernel⟩,
    ⟨0, 5, onPc svc fun c => { c with banks := c.banks.set 5 { debt := 1 } }, by decide +kernel⟩,
    ⟨0, 5, 7, onPc svc fun c => { c with tracker := [⟨5, 7, 600⟩] }, by decide +kernel⟩,
    ⟨0, 5, 7, [], onPc svc fun c => { c with banks := c.banks.set 5 { trig := [7] } }, by decide +kernel⟩,
    ⟨svc, by decide +kernel⟩,
    ⟨3, (0, 65, false), { svc with guard := { svc.guard with thr := [(3, { spills := [(0, 65, false)] })] } },
      by decide +kernel⟩⟩

theorem witness_FillAndScrub :
    (∃ (_us : Nat) (s : State), s.scrub.tidefill = true) ∧
    (∃ (page u mask : Nat) (c : Claim) (s : State), s.dram.claims.find? (fun c => decide (c.page = page)) = some c ∧ fillUnit
      c = some (u, mask) ∧ intRoom s.pcs[pcFin (coordOf s.dram.mapActive (64 * page + 4 * u)).pc] = true ∧ pcOnline s (pcFin
      (coordOf s.dram.mapActive (64 * page + 4 * u)).pc) = true) ∧
    (∃ (n : Pc) (s : State), walkerReady s n = true ∧ (idleOnly s = true ∨ rangesOn s = false)) ∧
    (∃ (s : State), lapDone s = true) :=
  ⟨
    ⟨5, { svc with scrub := { svc.scrub with tidefill := true } }, by decide +kernel⟩,
    ⟨0, 0, 15, { page := 0, done := 0 }, { svc with dram := { svc.dram with claims := [{ page := 0, done := 0 }] } },
      by decide +kernel⟩,
    ⟨0, svc, by decide +kernel⟩,
    ⟨{ svc with pcs := Vector.replicate 64 { mode := .online, walker := { inLap := false } } }, by decide +kernel⟩⟩

theorem witness_RowAndLaneRepair :
    (∃ (n : Pc) (b : Fin 32) (row : Nat) (s : State), keeperUp s = true ∧ softTurn s n b.val row = true ∧
      s.pcs[n].banks[b].repair = none ∧ softRefused
      { s with dram := { s.dram with candidates := s.dram.candidates.erase (n.val, b.val, row) } } n b.val row = 0) ∧
    (∃ (n : Pc) (b : Fin 32) (row : Nat) (s : State), repairBank s.pcs[n] = some b ∧ s.pcs[n].banks[b].repair = some row ∧
      pcOnline s n = true ∧ mayOpen s n b.val false = true ∧ rowStopped s n b.val row = false ∧ outranksCopy s n s.now =
      false) ∧
    (∃ (n : Pc) (lane : Nat) (s : State), lane < 72 ∧ (erasures s.pcs[n]).contains lane = false ∧ tsvDue s n lane = true ∧
      pcOnline s n = true) ∧
    (∃ (n : Pc) (lane : Nat) (i : Fin 2) (s : State), (erasures s.pcs[n]).head? = some lane ∧ tsvSpare s n = some i ∧ keeperUp
      s = true ∧ pcOnline s n = true) ∧
    (∃ (n : Pc) (lane : Nat) (i : Fin 2) (s : State), s.pcs[n].mode = .tsvSwitch ∧ s.pcs[n].switching = some (lane, i.val)) :=
  ⟨
    ⟨0, 5, 7, { svc with dram := { svc.dram with candidates := [(0, 5, 7)] } }, by decide +kernel⟩,
    ⟨0, 5, 7, onPc svc fun c => { c with banks := c.banks.set 5 { repair := some 7 } }, by decide +kernel⟩,
    ⟨0, 9, { svc with train := { svc.train with lanes := [(256 * 16 + 9, { low := 3 })] } }, by decide +kernel⟩,
    ⟨0, 9, 0, onPc svc fun c => { c with failedLanes := [9] }, by decide +kernel⟩,
    ⟨0, 9, 0, onPc svc fun c => { c with mode := .tsvSwitch, failedLanes := [9], switching := some (9, 0) },
      by decide +kernel⟩⟩

theorem witness_JournalEventsAndAlert :
    (∃ (s : State), s.jrn.flushed < s.jrn.count ∧ dramAwake s = true) ∧
    (∃ (s : State), s.jrn.busy = true) ∧
    (∃ (k : Fin 4) (e : EvRec) (rest : List EvRec) (s : State), s.evt.rings[k].waiting = e :: rest ∧ s.evt.rings[k].active =
      true ∧ evRingServed s k = true ∧ s.evt.stopped = false ∧ flood s = true ∧ s.evt.rings[k].tail - s.evt.rings[k].head <
      evRingSize s k ∧ blkOnline s (evSlotBlk s k (s.evt.rings[k].tail % evRingSize s k)) = true) ∧
    (∃ (s : State), s.evt.alertN = true) :=
  ⟨
    ⟨{ svc with jrn := { svc.jrn with count := 3, flushed := 1 } }, by decide +kernel⟩,
    ⟨{ svc with jrn := { svc.jrn with busy := true } }, by decide +kernel⟩,
    ⟨0, anEvent, [], csrSet
      { svc with evt := { svc.evt with rings := svc.evt.rings.set 0 { active := true, waiting := [anEvent] } } } 0x0A0108
      0x2B, by decide +kernel⟩,
    ⟨{ svc with evt := { svc.evt with alertN := true } }, by decide +kernel⟩⟩

theorem witness_CreditSettingsLoadAtTraining :
    (∃ (path : Path) (_p : Port) (_v : Word) (s : State), quietPath s path) ∧
    (∃ (p : Port) (s : State), s.ports[p].resetting = true ∧ s.ports[p].link = .reset ∧ s.links[p].trained = true ∧ keeperUp s
      = true ∧ crdValid (csrGet s (portReg p 4)) = true) ∧
    (∃ (p : Port) (s : State), s.ports[p].link = .training ∧ s.ports[p].resetting = false ∧ s.links[p].trn = .done false ∧
      keeperUp s = true ∧ s.links[p].upBad = [] ∧ crdValid (csrGet s (portReg p 4)) = true) ∧
    (∃ (p : Port) (c : CalCopy) (s : State), s.ports[p].link = .training ∧ s.ports[p].resetting = false ∧ s.links[p].trn =
      .done true ∧ keeperUp s = true ∧ ((∀ k : Nat, k < 72 → (laneGet s (laneKey p.val k)).failed = false)) ∧ s.links[p].upBad
      = [] ∧ useCopy s.train.recs[regionNo (.port p)] = some c ∧ crdValid (csrGet s (portReg p 4)) = true) :=
  ⟨
    ⟨0, 3, 0x00102030, svc, by decide +kernel⟩,
    ⟨0, onLink (onPort svc fun q => { q with link := .reset, resetting := true }) fun l => { l with trained := true },
      by decide +kernel⟩,
    ⟨0, onLink (onPort svc fun q => { q with link := .training }) fun l => { l with trn := .done false }, by decide +kernel⟩,
    ⟨0, goodCopy 1 [(3, { delay := 100, thresh := 30 })],
      { onLink (onPort svc fun q => { q with link := .training }) (fun l => { l with trn := .done true }) with train := { svc.train with recs := svc.train.recs.set 0 { a := goodCopy 1 [(3, { delay := 100, thresh := 30 })] } } },
      by decide +kernel⟩⟩

theorem witness_MapLockHoldsMapNext :
    (∃ (path : Path) (_v : Word) (s : State), (quietPath s path) ∧ csrFld s 0x000020 4 1 = 1) ∧
    (∃ (path : Path) (_v : Word) (s : State), (quietPath s path) ∧ csrFld s 0x000020 4 1 = 0) ∧
    (∃ (_strap : BitVec 3) (s : State), powerAway s = true) ∧
    (∃ (s : State), s.power.phase = .lowWater ∧ s.power.coreLost = false ∧ s.power.drained = 7 ∧ s.power.lwSeal.cause ≠ 2) ∧
    (∃ (s : State), s.power.phase = .held 1) ∧
    (∃ (s : State), s.power.phase = .held 2) :=
  ⟨
    ⟨0, 1, csrSet svc 0x000020 0x12, by decide +kernel⟩,
    ⟨0, 0x11, svc, by decide +kernel⟩,
    ⟨2, csrSet State.reset 0x000020 0x12, by decide +kernel⟩,
    ⟨csrSet
      { State.reset with power := { State.reset.power with phase := .lowWater, coreLost := false, lwSeal := { state := 2 } } }
      0x000020 0x12, by decide +kernel⟩,
    ⟨csrSet { State.reset with power := { State.reset.power with phase := .held 1, drained := 6 } } 0x000020 0x12,
      by decide +kernel⟩,
    ⟨csrSet { State.reset with power := { State.reset.power with phase := .held 2 } } 0x000020 0x12, by decide +kernel⟩⟩

theorem witness_DualWrites :
    (∃ (path : Path) (_v _c : Word) (s : State), quietPath s path) ∧
    (∃ (path : Path) (_v _c : Word) (s : State), quietPath s path) ∧
    (∃ (path : Path) (_v _c : Word) (s : State), quietPath s path) ∧
    (∃ (path : Path) (v c : Word) (s : State), (quietPath s path) ∧ keeperUp s = true ∧ s.stack.ready = true ∧ v.getLsbD 0 =
      true ∧ c = ~~~v ∧ s.transit.running = false ∧ path.val ≠ 17) ∧
    (∃ (path : Path) (v c : Word) (s : State), (quietPath s path) ∧ v.getLsbD 0 = true ∧ c = ~~~v ∧ s.scrub.held = true) ∧
    (∃ (path : Path) (_v _c : Word) (s : State), (quietPath s path) ∧ s.therm.shut = true) ∧
    (∃ (path : Path) (v c : Word) (s : State), (quietPath s path) ∧ path.val < 16 ∧ v.getLsbD 0 = true ∧ c = ~~~v ∧
      s.fw.holder = 1 ∧ s.fw.activated = 0) ∧
    (∃ (d : Dual) (s : State), s.regs.dual = some d ∧ s.regs.dualK = none) :=
  ⟨
    ⟨0, 3, ~~~3, svc, by decide +kernel⟩,
    ⟨0, 1, ~~~1, svc, by decide +kernel⟩,
    ⟨0, 3, ~~~3, svc, by decide +kernel⟩,
    ⟨0, 1, ~~~1, svc, by decide +kernel⟩,
    ⟨0, 1, ~~~1, { svc with scrub := { svc.scrub with held := true } }, by decide +kernel⟩,
    ⟨0, 1, ~~~1, { svc with therm := { svc.therm with shut := true } }, by decide +kernel⟩,
    ⟨0, 1, ~~~1, { svc with fw := { svc.fw with holder := 1 } }, by decide +kernel⟩,
    ⟨⟨0, 0x000040, 3, 5⟩, { svc with regs := { svc.regs with dual := some ⟨0, 0x000040, 3, 5⟩ } }, by decide +kernel⟩⟩

theorem witness_UnownedPathChangesNothing :
    ∃ (path : Path) (_a : BitVec 24) (_v : Word) (s : State), pathUp s path = true ∧ isOwner s path = false :=
  ⟨3, 0x000020, 1, csrSet svc 0x000040 1, by decide +kernel⟩

theorem witness_EventRingRegisters :
    (∃ (path : Path) (k : Fin 4) (v : Word) (s : State), (quietPath s path) ∧ v.getLsbD 5 = true ∧ evRingServed s k = true ∧
      s.evt.rings[k].active = false ∧ evRingOk (csrSet s (evRingReg k.val 8) (bitsOf v.toNat 0 5 + bitsOf (csrGet s (evRingReg
      k.val 8)) 5 1 * 32 + bitsOf v.toNat 6 1 * 64)) k = true) ∧
    (∃ (path : Path) (k : Fin 4) (v : Word) (s : State), (quietPath s path) ∧ v.getLsbD 5 = false ∧ evRingServed s k = true) ∧
    (∃ (path : Path) (k : Fin 4) (v : Word) (s : State), (quietPath s path) ∧ evRingServed s k = true ∧ v.toNat % 65536 <
      evRingSize s k ∧ (v.toNat % 65536 + evRingSize s k - s.evt.rings[k].head % evRingSize s k) % evRingSize s k ≤
      s.evt.rings[k].tail - s.evt.rings[k].head) ∧
    (∃ (path : Path) (_v : DWord) (s : State), quietPath s path) :=
  ⟨
    ⟨0, 0, 0x27, svc, by decide +kernel⟩,
    ⟨0, 0, 0, svc, by decide +kernel⟩,
    ⟨0, 0, 2, csrSet { svc with evt := { svc.evt with rings := svc.evt.rings.set 0 { active := true, tail := 3 } } } 0x0A0108
      0x27, by decide +kernel⟩,
    ⟨0, 5, svc, by decide +kernel⟩⟩

theorem witness_ReadsAnswerTheOldValue :
    (∃ (path : Path) (s : State), (quietPath s path) ∧ s.regs.latch[path] = none) ∧
    (∃ (path : Path) (s : State), (quietPath s path) ∧ s.regs.latch[path] = none ∧ s.jrn.found = true) ∧
    (∃ (path : Path) (s : State), (quietPath s path) ∧ s.regs.latch[path] = none) ∧
    (∃ (path : Path) (s : State), (quietPath s path) ∧ s.regs.latch[path] = none ∧ chrosyOn s = true) :=
  ⟨
    ⟨0, svc, by decide +kernel⟩,
    ⟨0, { svc with jrn := { svc.jrn with found := true } }, by decide +kernel⟩,
    ⟨0, svc, by decide +kernel⟩,
    ⟨0, mir, by decide +kernel⟩⟩

theorem witness_SelectionAndEpochRegisters :
    (∃ (path : Path) (_v : Word) (s : State), quietPath s path) ∧
    (∃ (path : Path) (_v : Word) (s : State), (quietPath s path) ∧ chrosyOn s = true) ∧
    (∃ (path : Path) (_v : DWord) (s : State), quietPath s path) ∧
    (∃ (path : Path) (_v : Word) (s : State), quietPath s path) ∧
    (∃ (path : Path) (_v : Word) (s : State), (quietPath s path) ∧ setFree s = true ∧ chrosyOn s = false) ∧
    (∃ (path : Path) (_v : Word) (s : State), (quietPath s path) ∧ setFree s = false ∧ chrosyOn s = false) ∧
    (∃ (path : Path) (_v : DWord) (s : State), quietPath s path) ∧
    (∃ (path : Path) (i : Fin 16) (v : Word) (s : State), (quietPath s path) ∧ v.getLsbD 0 = true ∧ csrFld s (trigReg i.val 0)
      0 1 = 0 ∧ bitsOf v.toNat 2 3 = 0 ∧ momentPassed s (v.getLsbD 1) (csrPair s (trigReg i.val 4)) = false) :=
  ⟨
    ⟨0, 0xC01, svc, by decide +kernel⟩,
    ⟨0, 3, mir, by decide +kernel⟩,
    ⟨0, 3, svc, by decide +kernel⟩,
    ⟨0, 0x2003, svc, by decide +kernel⟩,
    ⟨0, 3, svc, by decide +kernel⟩,
    ⟨0, 3, { svc with epochs := { svc.epochs with newest := 1, two := true } }, by decide +kernel⟩,
    ⟨0, 3, svc, by decide +kernel⟩,
    ⟨0, 0, 1, csrSet svc (trigReg 0 4) 5, by decide +kernel⟩⟩

theorem witness_ManagementTransactions :
    (∃ (bytes : List Byte) (s : State), pathUp s mgmtPath = true ∧ mgmtBusy s = false ∧ bytes.length = 4 ∧ pecOk s (byteNats
      bytes) = true ∧ (byteNats bytes).getD 2 0 % 4 = 0) ∧
    (∃ (p : Port) (bytes : List Byte) (s : State), (quietPath s mgmtPath) ∧ mgmtBusy s = false ∧ bytes.length = 8 ∧ pecOk s
      (byteNats bytes) = true ∧ mgmtCsr (byteNats bytes) = portReg p 4) ∧
    (∃ (bytes : List Byte) (s : State), (quietPath s mgmtPath) ∧ mgmtBusy s = false ∧ bytes.length = 5 ∧ pecOk s (byteNats
      bytes) = true ∧ (byteNats bytes).getD 2 0 % 4 = 0 ∧ (byteNats bytes).getD 3 0 = 4 ∧ mgmtCsr (byteNats bytes) < 0x100000
      ∧ s.regs.latch[mgmtPath] = none) ∧
    (∃ (_bytes : List Byte) (s : State), pathUp s mgmtPath = true ∧ mgmtBusy s = true) ∧
    (∃ (s : State), pathUp s mgmtPath = true) :=
  ⟨
    ⟨withPec [1, 2, 8], svc, by decide +kernel⟩,
    ⟨0, withPec [0, 2, 4, 1, 2, 3, 0], svc, by decide +kernel⟩,
    ⟨withPec [0, 0, 12, 4], svc, by decide +kernel⟩,
    ⟨[1], { svc with regs := { svc.regs with mgmtBusy := 3 } }, by decide +kernel⟩,
    ⟨svc, by decide +kernel⟩⟩

theorem witness_DoorbellsAndRings :
    (∃ (path : Path) (_r : Fin 64) (_v : Word) (s : State), (quietPath s path) ∧ path.val ≠ 16) ∧
    (∃ (path : Path) (r : Fin 64) (v : Word) (s : State), (quietPath s path) ∧ path.val ≠ 16 ∧ s.wetex.rings[r].st = .active ∧
      v.toNat % 4096 < wxCqSize s r.val) ∧
    (∃ (path : Path) (r : Fin 64) (v : Word) (s : State), (quietPath s path) ∧ v.getLsbD 10 = true ∧ s.wetex.rings[r].st =
      .disabled) ∧
    (∃ (path : Path) (r : Fin 64) (v : Word) (s : State), (quietPath s path) ∧ v.getLsbD 10 = false ∧ s.wetex.rings[r].st =
      .active) :=
  ⟨
    ⟨0, 0, 3, onRing svc { st := .active, sqTail := 1 }, by decide +kernel⟩,
    ⟨0, 0, 3, onRing svc { st := .active, unfreed := 5, cqTail := 5 }, by decide +kernel⟩,
    ⟨0, 0, 0x444, svc, by decide +kernel⟩,
    ⟨0, 0, 0x44, onRing svc { st := .active, sqTail := 1 }, by decide +kernel⟩⟩

theorem witness_DescriptorsFetchedDispatchedCompleted :
    (∃ (r : Fin 64) (s : State), wxCqSize s r.val ≤ s.wetex.rings[r].act.length + s.wetex.rings[r].unfreed) ∧
    (∃ (r : Fin 64) (s : State), engineRuns s = true ∧ s.therm.shut = false ∧ s.wetex.rings[r].st = .active ∧
      s.wetex.rings[r].sqHead ≠ s.wetex.rings[r].sqTail ∧ wxActive s < 1024 ∧ s.wetex.rings[r].act.length +
      s.wetex.rings[r].unfreed < wxCqSize s r.val ∧ blkOnline s (wxSqBase s r.val / 64 + s.wetex.rings[r].sqHead) = true) ∧
    (∃ (r : Fin 64) (s : State), engineRuns s = true ∧ s.therm.shut = false ∧ s.wetex.rings[r].st = .active ∧
      s.wetex.rings[r].sqHead ≠ s.wetex.rings[r].sqTail ∧ wxActive s < 1024 ∧ s.wetex.rings[r].act.length +
      s.wetex.rings[r].unfreed < wxCqSize s r.val ∧ blkOnline s (wxSqBase s r.val / 64 + s.wetex.rings[r].sqHead) = false ∧
      s.wetex.rings[r].act ≠ []) ∧
    (∃ (r : Fin 64) (d : WxDesc) (s : State), nextPair s = some r ∧ nextDesc s.wetex.rings[r] = some d ∧ engineRuns s = true ∧
      csrFld s 0x090000 7 1 = 0 ∧ epochWait s = false) ∧
    (∃ (r : Fin 64) (idx : Nat) (d : WxDesc) (s : State), wxGet s r idx = some d ∧ d.fin.isSome = true ∧ engineRuns s = true ∧
      s.therm.shut = false ∧ recordReady s r d = true) :=
  ⟨
    ⟨0, onRing svc { st := .active, sqTail := 1, unfreed := 16 }, by decide +kernel⟩,
    ⟨0, onRing svc { st := .active, sqTail := 1 }, by decide +kernel⟩,
    ⟨0, onRing { svc with pcs := Vector.replicate 64 { mode := .offline } }
      { st := .active, sqHead := 1, sqTail := 2, act := [dsc 2] }, by decide +kernel⟩,
    ⟨0, { idx := 0, desc := descBlock 2 1 0 0 0 }, onRing svc
      { st := .active, sqHead := 1, sqTail := 1, act := [{ idx := 0, desc := descBlock 2 1 0 0 0 }] }, by decide +kernel⟩,
    ⟨0, 0, { dsc (descBlock 2 1 0 0 0) with fin := some (0, 1, 0) }, onRing svc
      { st := .active, sqHead := 1, sqTail := 1, act := [{ dsc (descBlock 2 1 0 0 0) with fin := some (0, 1, 0) }] },
      by decide +kernel⟩⟩

theorem witness_WritingOpcodes :
    (∃ (r : Fin 64) (idx : Nat) (d : WxDesc) (s : State), mayStart s 0x01 r idx d) ∧
    (∃ (r : Fin 64) (idx : Nat) (d : WxDesc) (s : State), mayStart s 0x02 r idx d) ∧
    (∃ (r : Fin 64) (idx : Nat) (d : WxDesc) (s : State), mayStart s 0x05 r idx d) ∧
    (∃ (r : Fin 64) (idx : Nat) (d : WxDesc) (s : State), (mayStart s 0x02 r idx d) ∧ 0 < d.len ∧ blkOnline s (d.adrA / 64) =
      false) ∧
    (∃ (p i : Nat), p < 2 ^ 64 ∧ i < 8) :=
  ⟨
    ⟨0, 0, dsc (descBlock 1 1 0 0 0), onEngine svc (descBlock 1 1 0 0 0), by decide +kernel⟩,
    ⟨0, 0, dsc (descBlock 2 1 0 0 0), onEngine svc (descBlock 2 1 0 0 0), by decide +kernel⟩,
    ⟨0, 0, dsc (descBlock 5 1 0 0 0), onEngine svc (descBlock 5 1 0 0 0), by decide +kernel⟩,
    ⟨0, 0, dsc (descBlock 2 1 0 0 0), onEngine ({ svc with pcs := Vector.replicate 64 { mode := .offline } }) (descBlock 2 1 0
      0 0), by decide +kernel⟩,
    ⟨2 ^ 64 - 1, 7, by decide +kernel⟩⟩

theorem witness_ReadingOpcodes :
    (∃ (r : Fin 64) (idx : Nat) (d : WxDesc) (s : State), mayStart s 0x03 r idx d) ∧
    (∃ (r : Fin 64) (idx : Nat) (d : WxDesc) (s : State), mayStart s 0x04 r idx d) ∧
    (∃ (r : Fin 64) (idx : Nat) (d : WxDesc) (s : State), mayStart s 0x06 r idx d) ∧
    (∃ (r : Fin 64) (idx : Nat) (d : WxDesc) (s : State), mayStart s 0x07 r idx d) :=
  ⟨
    ⟨0, 0, dsc (descBlock 3 1 0 0 0), onEngine svc (descBlock 3 1 0 0 0), by decide +kernel⟩,
    ⟨0, 0, dsc (descBlock 4 1 0 0 0), onEngine svc (descBlock 4 1 0 0 0), by decide +kernel⟩,
    ⟨0, 0, dsc (descBlock 6 1 0 0 0), onEngine svc (descBlock 6 1 0 0 0), by decide +kernel⟩,
    ⟨0, 0, dsc (descBlock 7 1 0 0 0), onEngine svc (descBlock 7 1 0 0 0), by decide +kernel⟩⟩

theorem witness_EpochAndJournalOpcodes :
    (∃ (r : Fin 64) (idx : Nat) (d : WxDesc) (s : State), (mayStart s 0x08 r idx d) ∧ isMember s 16 = false) ∧
    (∃ (r : Fin 64) (idx : Nat) (d : WxDesc) (s : State), (mayStart s 0x08 r idx d) ∧ isMember s 16 = true ∧ d.opd 0 ≠
      s.epochs.cur[16] + 1) ∧
    (∃ (r : Fin 64) (idx : Nat) (d : WxDesc) (s : State), (mayStart s 0x08 r idx d) ∧ isMember s 16 = true ∧ d.opd 0 =
      s.epochs.cur[16] + 1 ∧ boundaryHeld s (d.opd 0) = true) ∧
    (∃ (r : Fin 64) (idx : Nat) (d : WxDesc) (s : State), (mayStart s 0x08 r idx d) ∧ isMember s 16 = true ∧ d.opd 0 =
      s.epochs.cur[16] + 1 ∧ boundaryHeld s (d.opd 0) = false ∧ d.opd 0 ≤ s.epochs.newest) ∧
    (∃ (r : Fin 64) (idx : Nat) (d : WxDesc) (s : State), mayStart s 0x09 r idx d) ∧
    (∃ (r : Fin 64) (idx : Nat) (d : WxDesc) (s : State), (mayStart s 0x0A r idx d) ∧ (epochOpen s (d.opd 0) = true ∨
      s.epochs.newest < d.opd 0 ∨ d.opd 0 + 4 < s.epochs.newest)) ∧
    (∃ (r : Fin 64) (idx : Nat) (d : WxDesc) (s : State), (mayStart s 0x0A r idx d) ∧ epochOpen s (d.opd 0) = false ∧ d.opd 0
      ≤ s.epochs.newest ∧ s.epochs.newest ≤ d.opd 0 + 4) ∧
    (∃ (r : Fin 64) (idx : Nat) (d : WxDesc) (s : State), mayStart s 0x0D r idx d) :=
  ⟨
    ⟨0, 0, dsc (descBlock 8 0 0 0 0), onEngine ({ svc with epochs := { svc.epochs with portset := 3 } }) (descBlock 8 0 0 0
      0), by decide +kernel⟩,
    ⟨0, 0, dsc (descBlock 8 0 2 0 0), onEngine svc (descBlock 8 0 2 0 0), by decide +kernel⟩,
    ⟨0, 0, dsc (descBlock 8 0 2 0 0), onEngine
      ({ svc with epochs := { svc.epochs with newest := 1, two := true, cur := Vector.replicate 18 1 } }) (descBlock 8 0 2 0
      0), by decide +kernel⟩,
    ⟨0, 0, dsc (descBlock 8 0 1 0 0), onEngine ({ svc with epochs := { svc.epochs with newest := 1, two := true } })
      (descBlock 8 0 1 0 0), by decide +kernel⟩,
    ⟨0, 0, dsc (descBlock 9 4 0 0 0), onEngine
      ({ svc with epochs := { svc.epochs with newest := 1, maps := [{ epoch := 1 }, { epoch := 0, bits := 5 }] } }) (descBlock
      9 4 0 0 0), by decide +kernel⟩,
    ⟨0, 0, dsc (descBlock 10 0 0 0 0), onEngine svc (descBlock 10 0 0 0 0), by decide +kernel⟩,
    ⟨0, 0, dsc (descBlock 10 0 0 0 3), onEngine
      ({ svc with epochs := { svc.epochs with newest := 1, cum := 5, maps := [{ epoch := 1, bits := 1 }, { epoch := 0, bits := 5 }] } })
      (descBlock 10 0 0 0 3), by decide +kernel⟩,
    ⟨0, 0, dsc (descBlock 13 1 0 0 0), onEngine svc (descBlock 13 1 0 0 0), by decide +kernel⟩⟩

theorem witness_RepairAndChannelOpcodes :
    (∃ (r : Fin 64) (idx : Nat) (d : WxDesc) (s : State), (mayStart s 0x14 r idx d) ∧ repairBank s.pcs[pcFin (d.opd 0 % 64)] =
      none) ∧
    (∃ (r : Fin 64) (idx : Nat) (d : WxDesc) (s : State), mayStart s 0x16 r idx d) ∧
    (∃ (r : Fin 64) (idx : Nat) (_sw : List LaneSweep) (d : WxDesc) (s : State), (mayStart s 0x17 r idx d) ∧ s.pcs[pcFin
      (d.opd 0 % 64)].mode = .online) ∧
    (∃ (r : Fin 64) (idx : Nat) (_sw : List LaneSweep) (d : WxDesc) (s : State), (mayStart s 0x17 r idx d) ∧ s.pcs[pcFin
      (d.opd 0 % 64)].mode ≠ .online ∧ s.transit.pcs.contains (d.opd 0 % 64) = false ∧ s.fuse.lc ≠ 5) ∧
    (∃ (r : Fin 64) (idx : Nat) (d e : WxDesc) (rest : List WxDesc) (s : State), (mayStart s 0x1F r idx d) ∧
      s.wetex.rings[r].act = e :: rest) :=
  ⟨
    ⟨0, 0, dsc (descBlock 0x14 0 (7 * 2 ^ 11) 0 0), onEngine svc (descBlock 0x14 0 (7 * 2 ^ 11) 0 0), by decide +kernel⟩,
    ⟨0, 0, dsc (descBlock 0x16 0 3 0 0), onEngine svc (descBlock 0x16 0 3 0 0), by decide +kernel⟩,
    ⟨0, 0, [], dsc (descBlock 0x17 0 3 0 0), onEngine svc (descBlock 0x17 0 3 0 0), by decide +kernel⟩,
    ⟨0, 0, [], dsc (descBlock 0x17 0 0 0 0), onEngine (onPc svc fun c => { c with mode := .offline }) (descBlock 0x17 0 0 0
      0), by decide +kernel⟩,
    ⟨0, 0, dsc (descBlock 0x1F 0 0 0 0), dsc (descBlock 0x1F 0 0 0 0), [], onEngine svc (descBlock 0x1F 0 0 0 0),
      by decide +kernel⟩⟩

theorem witness_WriteMessages :
    ∃ (vc : Fin 2) (c : Instr) (h : BitVec 256) (bs : List Block) (s : State), rxLive s = true ∧ ((c = .syncWrite h bs ∧
      writeForm h bs 1 = true ∧ vc = 0 ∨ c = .asyncWrite h bs ∧ writeForm h bs 2 = true ∧ vc = 1 ∨ c = .resyncData h bs ∧
      writeForm h bs 10 = true ∧ vc = resyncVc s h bs)) :=
  ⟨0, .syncWrite (msgHdr 1 0 0 0 4 3 0) [9], msgHdr 1 0 0 0 4 3 0, [9], mirRx, by decide +kernel⟩

theorem witness_MarksBarriersAndReservedTypes :
    (∃ (h : BitVec 256) (s : State), rxLive s = true ∧ hType h = 3 ∧ csrFld s 0x0B0108 0 1 = 0) ∧
    (∃ (h : BitVec 256) (s : State), rxLive s = true ∧ hType h = 3 ∧ csrFld s 0x0B0108 0 1 = 1 ∧ applyFree s = true ∧ isMember
      s 17 = true ∧ hEpoch h = s.epochs.cur[17] + 1 ∧ boundaryHeld s (hEpoch h) = false ∧ hEpoch h ≤ s.epochs.newest) ∧
    (∃ (h : BitVec 256) (s : State), rxLive s = true ∧ hType h = 3 ∧ csrFld s 0x0B0108 0 1 = 1 ∧ applyFree s = false) ∧
    (∃ (h : BitVec 256) (s : State), rxLive s = true ∧ hType h = 4) ∧
    (∃ (h : BitVec 256) (s : State), rxLive s = true ∧ reservedType (hType h) = true) :=
  ⟨
    ⟨msgHdr 3 0 0 0 0 0 1, mir, by decide +kernel⟩,
    ⟨msgHdr 3 0 0 0 0 0 1, { mirRx with epochs := { mirRx.epochs with newest := 1, two := true, portset := 0x3FFFF } },
      by decide +kernel⟩,
    ⟨msgHdr 3 0 0 0 0 0 1, { mirRx with mirror := { mirRx.mirror with apply := #v[[{ hdr := msgHdr 4 0 0 0 2 0 0 }], []] } },
      by decide +kernel⟩,
    ⟨msgHdr 4 0 0 0 2 0 0, mirRx, by decide +kernel⟩,
    ⟨msgHdr 0x0B 0 0 0 0 0 0, mirRx, by decide +kernel⟩⟩

theorem witness_AcknowledgementsAndDivergence :
    (∃ (h : BitVec 256) (e : Nat × Nat) (s : State), rxLive s = true ∧ hType h = 5 ∧ hEntries h = [e] ∧ s.mirror.resync =
      none) ∧
    (∃ (h : BitVec 256) (s : State), rxLive s = true ∧ hType h = 6 ∧ s.mirror.resync = none ∧ (s.mirror.outs.any (fun o =>
      decide (o.win = hWin h ∧ o.wseq = hSeq h)) = true) ∧ s.mirror.wins[winFin (hWin h)].st = .inSync) ∧
    (∃ (h : BitVec 256) (s : State), rxLive s = true ∧ hType h = 7) ∧
    (∃ (w : Fin 64) (at_ : Nat) (s : State), syncSent s w.val = some at_ ∧ s.mirror.resync = none ∧ s.mirror.wins[w].st =
      .inSync) :=
  ⟨
    ⟨BitVec.ofNat 256 (5 + 2 ^ 16 + 4 * 2 ^ 40), (0, 4),
      { mir with mirror := { mir.mirror with wins := mir.mirror.wins.set 0 { st := .inSync, next := 6 }, outs := [{ win := 0, wseq := 4, sync := false, resync := false }] } },
      by decide +kernel⟩,
    ⟨msgHdr 6 0 0 2 4 0 0,
      { mir with mirror := { mir.mirror with wins := mir.mirror.wins.set 0 { st := .inSync, next := 6 }, outs := [{ win := 0, wseq := 4, sync := false, resync := false }] } },
      by decide +kernel⟩,
    ⟨BitVec.ofNat 256 (7 + 2 ^ 16 + 4 * 2 ^ 40),
      { mir with mirror := { mir.mirror with outs := [{ win := 0, wseq := 4, sync := false, resync := false }] } },
      by decide +kernel⟩,
    ⟨0, 3,
      { mir with mirror := { mir.mirror with wins := mir.mirror.wins.set 0 { st := .inSync, next := 6 }, outs := [{ win := 0, wseq := 4, sync := true, resync := false, sentAt := some 3 }] } },
      by decide +kernel⟩⟩

theorem witness_PullAndResync :
    (∃ (h : BitVec 256) (s : State), rxLive s = true ∧ hType h = 8 ∧ hLen h < 3) ∧
    (∃ (h : BitVec 256) (j : PullJob) (q : PullReq) (s : State), rxLive s = true ∧ hType h = 9 ∧ hLen h < 3 ∧ hCode h ≠ 0 ∧
      s.mirror.pull = some j ∧ j.reqs = [q] ∧ q.tag = hSeq h) ∧
    (∃ (r : Fin 64) (idx : Nat) (d : WxDesc) (s : State), (mayStart s 0x0C r idx d) ∧ s.mirror.pull = none ∧ (linkUpNow s =
      false ∨ s.mirror.wins[winFin (d.opd 0 % 64)].st = .off)) ∧
    (∃ (r : Fin 64) (idx : Nat) (d : WxDesc) (s : State), (mayStart s 0x0C r idx d) ∧ s.mirror.pull = none ∧ linkUpNow s =
      true ∧ s.mirror.wins[winFin (d.opd 0 % 64)].st ≠ .off ∧ 0 < d.len ∧ blkOnline s (d.adrA / 64) = true) ∧
    (∃ (r : Fin 64) (idx : Nat) (d : WxDesc) (s : State), (mayStart s 0x0B r idx d) ∧ s.mirror.resync = none ∧ resyncRefused s
      (d.opd 0) ≠ 0) ∧
    (∃ (r : Fin 64) (idx : Nat) (w : Fin 64) (d : WxDesc) (s : State), (mayStart s 0x0B r idx d) ∧ s.mirror.resync = none ∧
      d.opd 0 = 2 ^ w.val ∧ (d.opd 1).testBit 0 = false ∧ resyncRefused s (d.opd 0) = 0 ∧ s.mirror.outs = [] ∧ ((∀ g : Nat,
      winBase s w.val ≤ g → g < winBase s w.val + winLen s w.val → s.epochs.cum.testBit g = false)) ∧ winLen s w.val < 2 ^ 21
      ∧ s.therm.shut = false) :=
  ⟨
    ⟨msgHdr 8 0 0 0 7 3 0, mirRx, by decide +kernel⟩,
    ⟨msgHdr 9 0 1 1 7 0 0,
      { ring := 0, idx := 0, win := 0, next := 4, stop := 4, reqs := [{ tag := 7, blk := 0, left := 4, formed := 0 }] },
      { tag := 7, blk := 0, left := 4, formed := 0 },
      { mir with mirror := { mir.mirror with pull := some { ring := 0, idx := 0, win := 0, next := 4, stop := 4, reqs := [{ tag := 7, blk := 0, left := 4, formed := 0 }] } } },
      by decide +kernel⟩,
    ⟨0, 0, dsc (descBlock 0x0C 1 0 0 0), onEngine svc (descBlock 0x0C 1 0 0 0), by decide +kernel⟩,
    ⟨0, 0, dsc (descBlock 0x0C 1 0 0 0), onEngine
      ({ mir with mirror := { mir.mirror with wins := mir.mirror.wins.set 0 { st := .inSync } } }) (descBlock 0x0C 1 0 0 0),
      by decide +kernel⟩,
    ⟨0, 0, dsc (descBlock 0x0B 0 1 0 0), onEngine svc (descBlock 0x0B 0 1 0 0), by decide +kernel⟩,
    ⟨0, 0, 0, dsc (descBlock 0x0B 0 1 0 0), onEngine
      { mir with mirror := { mir.mirror with wins := mir.mirror.wins.set 0 { st := .diverged } } } (descBlock 0x0B 0 1 0 0),
      by decide +kernel, by decide +kernel, by decide +kernel, by decide +kernel, by decide +kernel, by decide +kernel, fun g
      _ _ => Nat.zero_testBit g, by decide +kernel⟩⟩

theorem witness_ApplySendAndWindows :
    (∃ (vc : Fin 2) (m : Msg) (rest : List Msg) (s : State), s.mirror.apply[vc] = m :: rest ∧ s.epochs.mirHeld = none ∧ flood
      s = true ∧ hType m.hdr ≠ 3 ∧ hType m.hdr ≠ 4 ∧ nackCode s m.hdr = 0 ∧ applyReady s m.hdr = true) ∧
    (∃ (vc : Fin 2) (m : Msg) (rest : List Msg) (s : State), s.mirror.apply[vc] = m :: rest ∧ s.epochs.mirHeld = none ∧ flood
      s = true ∧ hType m.hdr ≠ 3 ∧ hType m.hdr ≠ 4 ∧ nackCode s m.hdr ≠ 0) ∧
    (∃ (s : State), rxLive s = true ∧ s.chrosy.txq[(0 : Fin 2)] = [] ∧ 0 < s.chrosy.credits[(0 : Fin 2)] ∧ s.mirror.acks ≠ []) ∧
    (∃ (m : Msg) (s : State), rxLive s = true ∧ s.chrosy.txq[(1 : Fin 2)] = [] ∧ 0 < s.chrosy.credits[(1 : Fin 2)] ∧
      s.mirror.q[1] = [m] ∧ msgTurn s 1 m = true ∧ s.mirror.resync = none) ∧
    (∃ (m : Msg) (rest : List Msg) (s : State), s.mirror.backlog = m :: rest ∧ s.mirror.q[1].length < 256 ∧ 0 <
      s.chrosy.credits[(1 : Fin 2)] ∧ s.mirror.resync = none) ∧
    (∃ (path : Path) (w : Fin 64) (v : Word) (c : Instr) (s : State), (quietPath s path) ∧ chrosyOn s = true ∧ winExists s
      w.val = true ∧ keeperUp s = true ∧ s.mirror.waitSet = [] ∧ winMode s w.val = 0 ∧ winOk s w.val = true ∧ ((c =
      .windowSetAsync path w v ∧ bitsOf v.toNat 0 2 = 1 ∨ c = .windowSetSync path w v ∧ bitsOf v.toNat 0 2 = 2))) ∧
    (∃ (path : Path) (w : Fin 64) (v : Word) (s : State), (quietPath s path) ∧ chrosyOn s = true ∧ winExists s w.val = true ∧
      keeperUp s = true ∧ s.mirror.waitSet = [] ∧ winMode s w.val ≠ 0 ∧ bitsOf v.toNat 0 2 = 0 ∧ s.mirror.resync = none) :=
  ⟨
    ⟨0, { hdr := msgHdr 1 0 0 0 4 3 0, blocks := [9] }, [],
      { mirRx with mirror := { mirRx.mirror with apply := #v[[{ hdr := msgHdr 1 0 0 0 4 3 0, blocks := [9] }], []] } },
      by decide +kernel⟩,
    ⟨0, { hdr := msgHdr 1 0 0 0 4 3 0, blocks := [9] }, [],
      { mir with mirror := { mir.mirror with apply := #v[[{ hdr := msgHdr 1 0 0 0 4 3 0, blocks := [9] }], []] } },
      by decide +kernel⟩,
    ⟨{ mir with mirror := { mir.mirror with acks := [(0, 4)] } }, by decide +kernel⟩,
    ⟨{ hdr := msgHdr 9 0 0 1 7 0 0, blocks := [] },
      { mir with mirror := { mir.mirror with q := #v[[], [{ hdr := msgHdr 9 0 0 1 7 0 0, blocks := [] }]] } },
      by decide +kernel⟩,
    ⟨{ hdr := msgHdr 2 0 0 0 4 3 0, blocks := [9] }, [],
      { mir with mirror := { mir.mirror with backlog := [{ hdr := msgHdr 2 0 0 0 4 3 0, blocks := [9] }] } },
      by decide +kernel⟩,
    ⟨0, 0, 2, .windowSetSync 0 0 2, csrSet mir (winReg 0 4) 1, by decide +kernel⟩,
    ⟨0, 0, 0, csrSet (csrSet { mir with mirror := { mir.mirror with wins := mir.mirror.wins.set 0 { st := .inSync } } }
      (winReg 0 4) 1) (winReg 0 12) 2, by decide +kernel⟩⟩

theorem witness_ChrosyBlocks :
    (∃ (s : State), linkOn s = true) ∧
    (∃ (cs : List ChrChar) (_fs : List (BitVec 288)) (s : State), linkOn s = true ∧ ctlHeader s cs = none) ∧
    (∃ (cs : List ChrChar) (_f : BitVec 288) (vc : Fin 2) (s : State), linkUpNow s = true ∧ ctlHeader s cs = some
      (s.chrosy.rxNext, 1 - vc.val, vc.val) ∧ s.chrosy.degr = none) :=
  ⟨
    ⟨mir, by decide +kernel⟩,
    ⟨[], [], mir, by decide +kernel⟩,
    ⟨[⟨false, true, 0xF7⟩, ⟨false, false, 0⟩, ⟨false, false, 1⟩, ⟨false, false, 0⟩, ⟨false, false, BitVec.ofNat 8 (crc8 [0, 1,
      0])⟩], BitVec.ofNat 288 (crc32c (0 :: 0 :: bytesOf 32 7) * 2 ^ 256 + 7), 0, mir, by decide +kernel⟩⟩

theorem witness_ChrosyDegradationAndLoss :
    (∃ (pair : BitVec 4) (s : State), linkUpNow s = true ∧ pair.toNat < 4 ∧ 4 < s.chrosy.txW ∧ s.chrosy.txDropped.testBit
      pair.toNat = false) ∧
    (∃ (_reason : BitVec 4) (s : State), linkUpNow s = true) ∧
    (∃ (good : BitVec 4) (s : State), s.chrosy.st = .seek ∧ 4 ≤ lanesLeft (15 - good.toNat)) ∧
    (∃ (_good : Nat) (s : State), s.chrosy.st = .seek ∨ s.chrosy.st = .align) ∧
    (∃ (lane : Fin 9) (cause : Fin 5) (s : State), linkUpNow s = true ∧ 0 < cause.val ∧ laneUsed s lane.val = true ∧
      s.chrosy.lanes[lane].failed = false ∧ s.chrosy.degr = none) ∧
    (∃ (pair since n : Nat) (s : State), s.chrosy.degr = some (pair, since, n) ∧ s.chrosy.degrAnswered = false ∧ linkUpNow s =
      true) ∧
    (∃ (s : State), linkUpNow s = true) ∧
    (∃ (s : State), linkUpNow s = true ∧ s.chrosy.replay ≠ []) :=
  ⟨
    ⟨2, mir, by decide +kernel⟩,
    ⟨3, mir, by decide +kernel⟩,
    ⟨14, { mir with chrosy := { mir.chrosy with st := .seek } }, by decide +kernel⟩,
    ⟨14, { mir with chrosy := { mir.chrosy with st := .seek } }, by decide +kernel⟩,
    ⟨3, 2, mir, by decide +kernel⟩,
    ⟨1, 0, 4, { mir with chrosy := { mir.chrosy with degr := some (1, 0, 4) } }, by decide +kernel⟩,
    ⟨mir, by decide +kernel⟩,
    ⟨{ mir with chrosy := { mir.chrosy with replay := [{ fsn := 4, vc := 0, payload := 1 }, { fsn := 5, vc := 0, payload := 2 }] } },
      by decide +kernel⟩⟩

theorem witness_ChrosySlotsAndControl :
    (∃ (f : Byte) (s : State), fsnHeld s f.toNat = true) ∧
    (∃ (f : Byte) (s : State), fsnHeld s f.toNat = true) ∧
    (∃ (_vc : Fin 2) (n : Byte) (s : State), linkUpNow s = true ∧ 0 < n.toNat) ∧
    (∃ (_x : Byte) (s : State), linkOn s = true) ∧
    (∃ (_w : BitVec 4) (s : State), linkOn s = true) ∧
    (∃ (w : BitVec 4) (s : State), 1 ≤ w.toNat ∧ w.toNat ≤ 3 ∧ (s.chrosy.st = .seek ∨ s.chrosy.st = .align)) ∧
    (∃ (s : State), s.chrosy.st = .seek ∨ s.chrosy.st = .align) ∧
    (∃ (a : ChrAdapt) (l : Fin 9) (s : State), linkOn s = true ∧ a.lane = l.val) ∧
    (∃ (path : Path) (v : Word) (s : State), (quietPath s path) ∧ chrosyOn s = true ∧ v.getLsbD 0 = true ∧ s.chrosy.st = .down
      ∧ microcodeOk s = true ∧ s.stack.ready = true) ∧
    (∃ (path : Path) (v : Word) (s : State), (quietPath s path) ∧ chrosyOn s = true ∧ v.getLsbD 0 = false ∧ linkUpNow s =
      true) :=
  ⟨
    ⟨4,
      { mir with chrosy := { mir.chrosy with replay := [{ fsn := 4, vc := 0, payload := 1 }, { fsn := 5, vc := 0, payload := 2 }] } },
      by decide +kernel⟩,
    ⟨4,
      { mir with chrosy := { mir.chrosy with replay := [{ fsn := 4, vc := 0, payload := 1 }, { fsn := 5, vc := 0, payload := 2 }] } },
      by decide +kernel⟩,
    ⟨1, 3, mir, by decide +kernel⟩,
    ⟨7, mir, by decide +kernel⟩,
    ⟨2, mir, by decide +kernel⟩,
    ⟨3, { mir with chrosy := { mir.chrosy with st := .align, rcvUp := true } }, by decide +kernel⟩,
    ⟨{ mir with chrosy := { mir.chrosy with st := .align, rcvOk := true } }, by decide +kernel⟩,
    ⟨⟨3, 40, 12, 1, []⟩, 3, mir, by decide +kernel⟩,
    ⟨0, 1, csrSet { mir with chrosy := {} } 0x0B0000 0, by decide +kernel⟩,
    ⟨0, 0, mir, by decide +kernel⟩⟩

theorem witness_DrainAndSeal :
    (∃ (k : Fin 8) (cause : Nat) (c : Instr) (s : State), s.power.phase = .service ∧ s.power.armed = true ∧ ((c = .pfailDetect
      k ∧ cause = 0 ∨ c = .droopDetect k ∧ cause = 1 ∧ csrFld s 0x0C0100 0 1 = 1))) ∧
    (∃ (r : Fin 64) (idx : Nat) (d : WxDesc) (s : State), mayStart s 0x18 r idx d) :=
  ⟨
    ⟨7, 0, .pfailDetect 7, svc, by decide +kernel⟩,
    ⟨0, 0, dsc (descBlock 0x18 0 0 0 0), onEngine svc (descBlock 0x18 0 0 0 0), by decide +kernel⟩⟩

theorem witness_PowerStatesAndSupplies :
    (∃ (s : State), powerFree s = true ∧ idle s = true ∧ deeper s = [1] ∧ s.power.low = 0) ∧
    (∃ (k : Nat) (s : State), powerFree s = true ∧ idle s = true ∧ deeper s = [k] ∧ k ≠ 1 ∧ s.power.low = 0) ∧
    (∃ (k : Nat) (s : State), s.power.target = some k ∧ s.power.exiting = false ∧ s.power.failing = false) ∧
    (∃ (cause : Fin 7) (s : State), 0 < lowOrTarget s ∧ s.power.exiting = false ∧ s.power.failing = false ∧ wakeCause s
      (lowOrTarget s) cause.val = true) ∧
    (∃ (s : State), s.power.exiting = true ∧ s.power.failing = false) ∧
    (∃ (d p : Bool) (s : State), s.power.phase = .lowWater ∧ s.power.lantern = true ∧ (d = true ∨ p = true) ∧
      (s.power.lwSeal.state = 1 ∨ s.power.lwSeal.state = 2)) ∧
    (∃ (s : State), s.power.phase = .service) ∧
    (∃ (code : Nat) (s : State), corePowered s = true ∧ s.start.refclkLost = false ∧ 1 ≤ code ∧ code ≤ 3) ∧
    (∃ (at_ : Nat) (s : State), s.start.armAt = some at_ ∧ s.power.armed = false ∧ corePowered s = true ∧ s.start.kind = 2) :=
  ⟨
    ⟨csrSet svc 0x0C0004 500, by decide +kernel⟩,
    ⟨2, csrSet (csrSet (csrSet svc 0x0C0004 1000) 0x0C0000 1) 0x0C0008 2, by decide +kernel⟩,
    ⟨2, { svc with power := { svc.power with target := some 2 } }, by decide +kernel⟩,
    ⟨1, { svc with power := { svc.power with low := 2 } }, by decide +kernel⟩,
    ⟨{ svc with power := { svc.power with low := 2, exiting := true, wakeFrom := 2 } }, by decide +kernel⟩,
    ⟨true, false, { State.reset with power := { State.reset.power with phase := .lowWater, lwSeal := { state := 2 } } },
      by decide +kernel⟩,
    ⟨svc, by decide +kernel⟩,
    ⟨2, svc, by decide +kernel⟩,
    ⟨20, { svc with power := { svc.power with armed := false }, start := { svc.start with armAt := some 20, kind := 2 } },
      by decide +kernel⟩⟩

theorem witness_StartSequence :
    (∃ (_strap : BitVec 3) (s : State), powerAway s = true) ∧
    (∃ (s : State), s.power.phase = .lowWater ∧ s.power.coreLost = false ∧ s.power.drained = 7 ∧ s.power.lwSeal.cause ≠ 2) ∧
    (∃ (_drift : List FuseReading) (s : State), s.power.phase = .starting ∧ s.start.step = 1) ∧
    (∃ (s : State), s.power.phase = .starting ∧ s.start.step = 2 ∧ bootOk s 0 (activeIdx s 0) = true ∧ bootOk s 1 (activeIdx s
      1) = true ∧ chrosyOn s = false) ∧
    (∃ (_ok : Bool) (s : State), s.power.phase = .starting ∧ s.start.step = 2 ∧ bootOk s 0 (activeIdx s 0) = false ∧ bootOk s
      0 (1 - activeIdx s 0) = false) ∧
    (∃ (_msec : Nat) (s : State), mayRelease s = true ∧ s.train.xingFatal = false) ∧
    (∃ (_msec : Nat) (s : State), mayRelease s = true ∧ s.train.xingFatal = true) :=
  ⟨
    ⟨2, State.reset, by decide +kernel⟩,
    ⟨{ State.reset with power := { State.reset.power with phase := .lowWater, coreLost := false, lwSeal := { state := 2 } } },
      by decide +kernel⟩,
    ⟨[],
      { State.reset with power := { State.reset.power with phase := .starting }, start := { State.reset.start with step := 1 } },
      by decide +kernel⟩,
    ⟨{ State.reset with power := { State.reset.power with phase := .starting }, start := { State.reset.start with step := 2 } },
      by decide +kernel⟩,
    ⟨true,
      { State.reset with power := { State.reset.power with phase := .starting }, start := { State.reset.start with step := 2 }, fw := { State.reset.fw with slots := State.reset.fw.slots.set 0 #v[{}, {}] } },
      by decide +kernel⟩,
    ⟨9,
      { State.reset with power := { State.reset.power with phase := .starting }, start := { State.reset.start with step := 4 }, stack := { State.reset.stack with keeper := .running }, ports := svc.ports, pcs := Vector.replicate 64 { trained := true }, therm := { State.reset.therm with coolRound := true }, train := { State.reset.train with xingDone := true } },
      by decide +kernel⟩,
    ⟨9,
      { State.reset with power := { State.reset.power with phase := .starting }, start := { State.reset.start with step := 4 }, stack := { State.reset.stack with keeper := .running }, ports := svc.ports, pcs := Vector.replicate 64 { trained := true }, therm := { State.reset.therm with coolRound := true }, train := { State.reset.train with xingDone := true, xingFatal := true } },
      by decide +kernel⟩⟩

theorem witness_SealIsEmptyFromReadyOn :
    (∃ (c : Instr) (s t : State), s.stack.ready = false ∧ exec c s = .next t ∧ t.stack.ready = true) ∧
    (∃ (s : State), s.power.phase = .service ∧ s.power.lwSeal.state = 0) ∧
    (∃ (_strap : BitVec 3) (s : State), s.power.phase = .lowWater ∧ s.power.coreLost = true ∧ s.power.lwSeal.state = 0) :=
  ⟨
    ⟨.startRelease 9,
      { State.reset with power := { State.reset.power with phase := .starting }, start := { State.reset.start with step := 4 }, stack := { State.reset.stack with keeper := .running }, ports := svc.ports, pcs := Vector.replicate 64 { trained := true }, therm := { State.reset.therm with coolRound := true }, train := { State.reset.train with xingDone := true } },
      ran (.startRelease 9)
      { State.reset with power := { State.reset.power with phase := .starting }, start := { State.reset.start with step := 4 }, stack := { State.reset.stack with keeper := .running }, ports := svc.ports, pcs := Vector.replicate 64 { trained := true }, therm := { State.reset.therm with coolRound := true }, train := { State.reset.train with xingDone := true } },
      by decide +kernel, rfl, by decide +kernel⟩,
    ⟨svc, by decide +kernel⟩,
    ⟨2,
      { State.reset with power := { State.reset.power with phase := .lowWater, coreLost := true, lwSeal := { state := 0 } } },
      by decide +kernel⟩⟩

theorem witness_ResetsAndRestarts :
    (∃ (_k : Fin 8) (s : State), s.power.phase = .service) ∧
    (∃ (s : State), s.power.phase = .service) ∧
    (∃ (s : State), s.power.phase = .held 1 ∧ 6 ≤ s.power.drained) ∧
    (∃ (s : State), s.power.phase = .held 2) ∧
    (∃ (s : State), keeperUp s = true ∧ s.power.failing = false ∧ s.stack.ready = true ∧ s.fw.activated = 0) ∧
    (∃ (_micros : Nat) (x : Nat × Nat) (s : State), s.stack.keeper = .restarting ∧ s.fw.restart = some x ∧ s.fw.actPend = none
      ∧ s.fw.mPend = none ∧ s.mirror.waitSet = []) :=
  ⟨
    ⟨6, svc, by decide +kernel⟩,
    ⟨svc, by decide +kernel⟩,
    ⟨{ State.reset with power := { State.reset.power with phase := .held 1, drained := 6 } }, by decide +kernel⟩,
    ⟨{ State.reset with power := { State.reset.power with phase := .held 2 } }, by decide +kernel⟩,
    ⟨svc, by decide +kernel⟩,
    ⟨5, (3, 0), { svc with stack := { ready := true, keeper := .restarting }, fw := { svc.fw with restart := some (3, 0) } },
      by decide +kernel⟩⟩

theorem witness_WatchTakesTheNextChannel :
    ∃ (_raw _value : Nat) (_xing : List XingCheck) (s : State), watchRuns s = true :=
  ⟨100, 200, [], svc, by decide +kernel⟩

theorem witness_TransitRuns :
    (∃ (_sig _sigexp : DWord) (s : State), s.transit.running = true ∧ s.transit.quick = false ∧ s.transit.log = [] ∧
      s.transit.ovf = false ∧ s.transit.expect < 2 ^ 64) ∧
    (∃ (missing _sig _sigexp : DWord) (s : State), s.transit.running = true ∧ s.transit.quick = false ∧ s.transit.expect < 2 ^
      64 ∧ missing ≠ 0) ∧
    (∃ (_count : Nat) (s : State), s.transit.running = true ∧ s.transit.quick = false ∧ s.transit.wayTest = none) ∧
    (∃ (path : Path) (v : Word) (s : State), (quietPath s path) ∧ v.getLsbD 0 = true ∧ s.transit.running = true ∧
      s.transit.quick = false) ∧
    (∃ (r : Fin 64) (idx _count : Nat) (d : WxDesc) (s : State), (mayStart s 0x13 r idx d) ∧ s.transit.running = true) ∧
    (∃ (r : Fin 64) (idx count : Nat) (d : WxDesc) (s : State), (mayStart s 0x13 r idx d) ∧ s.transit.running = false ∧
      (coreInLimits s = false ∨ cclkInLimits count = false)) ∧
    (∃ (r : Fin 64) (idx count : Nat) (d : WxDesc) (s : State), (mayStart s 0x13 r idx d) ∧ s.transit.running = false ∧
      coreInLimits s = true ∧ cclkInLimits count = true ∧ (testBits fun i => (testsAsked s (d.opd 0 % 4)).testBit i &&
      testRuns s (d.opd 0 % 4) i) ≠ 0) :=
  ⟨
    ⟨5, 5, { svc with transit := { svc.transit with running := true } }, by decide +kernel⟩,
    ⟨1, 5, 5, { svc with transit := { svc.transit with running := true } }, by decide +kernel⟩,
    ⟨16400, { svc with transit := { svc.transit with running := true } }, by decide +kernel⟩,
    ⟨0, 1, { svc with transit := { svc.transit with running := true } }, by decide +kernel⟩,
    ⟨0, 0, 16400, dsc (descBlock 0x13 0 0 0 0), onEngine ({ svc with transit := { svc.transit with running := true } })
      (descBlock 0x13 0 0 0 0), by decide +kernel⟩,
    ⟨0, 0, 16400, dsc (descBlock 0x13 0 0 0 0), onEngine svc (descBlock 0x13 0 0 0 0), by decide +kernel⟩,
    ⟨0, 0, 16400, dsc (descBlock 0x13 0 0 0 0), onEngine
      ({ svc with therm := { svc.therm with chans := svc.therm.chans.set 96 { value := 3000 } } }) (descBlock 0x13 0 0 0 0),
      by decide +kernel⟩⟩

theorem witness_TestAccessPort :
    (∃ (code : Byte) (s : State), corePowered s = true ∧ jtagListed code.toNat = false) ∧
    (∃ (s : State), corePowered s = true) ∧
    (∃ (_bumps : List Bool) (s : State), corePowered s = true) ∧
    (∃ (s : State), corePowered s = true ∧ s.stack.ready = true) ∧
    (∃ (s : State), corePowered s = true ∧ s.stack.ready = false) :=
  ⟨
    ⟨0x77, svc, by decide +kernel⟩,
    ⟨svc, by decide +kernel⟩,
    ⟨[true], svc, by decide +kernel⟩,
    ⟨svc, by decide +kernel⟩,
    ⟨{ State.reset with power := { State.reset.power with phase := .starting }, start := { State.reset.start with step := 2 } },
      by decide +kernel⟩⟩

theorem witness_FuseOperations :
    (∃ (k : Nat) (path : Path) (v _c : Word) (s : State), (quietPath s path) ∧ 1 ≤ k ∧ k ≤ 5 ∧ bitsOf v.toNat 0 3 = k ∧
      keeperUp s = true ∧ s.fuse.op = none) ∧
    (∃ (o : FuseOp) (s : State), s.fuse.op = some o ∧ o.started = false ∧ keeperUp s = true) ∧
    (∃ (o : FuseOp) (_pulses : Nat) (s : State), s.fuse.op = some o ∧ o.started = true ∧ o.op ≠ 8) ∧
    (∃ (_drift : List FuseReading) (s : State), s.stack.ready = true ∧ s.fuse.op = none ∧ s.power.failing = false) :=
  ⟨
    ⟨1, 0, 1, ~~~1, csrSet svc 0x010040 0x100, by decide +kernel⟩,
    ⟨{ op := 1, group := 5, word := 0x100, data := 7 },
      { svc with fuse := { svc.fuse with op := some { op := 1, group := 5, word := 0x100, data := 7 } } }, by decide +kernel⟩,
    ⟨{ op := 1, group := 5, word := 0x100, data := 7, started := true }, 1,
      { svc with fuse := { svc.fuse with op := some { op := 1, group := 5, word := 0x100, data := 7, started := true } } },
      by decide +kernel⟩,
    ⟨[], svc, by decide +kernel⟩⟩

theorem witness_SoftRepairBecomesFuseEntry :
    (∃ (r : Fin 64) (idx : Nat) (_ok : Bool) (d : WxDesc) (s : State), (mayStart s 0x15 r idx d) ∧ (csrFld s 0x070210 0 1 = 0
      ∨ s.fuse.lc ≠ 3 ∨ s.fuse.advanced = true)) ∧
    (∃ (r : Fin 64) (idx : Nat) (i : Fin 256) (e : SoftRep) (slot : Nat) (d : WxDesc) (s : State), (mayStart s 0x15 r idx d) ∧
      csrFld s 0x070210 0 1 = 1 ∧ s.fuse.lc = 3 ∧ s.fuse.advanced = false ∧ csrFld s 0x070210 1 1 = 0 ∧ csrFld s 0x070210 2 8
      = i.val ∧ s.dram.soft[i] = some e ∧ fuseCond s = 7 ∧ fieldSlot s 0 1024 = some slot ∧ (fieldPulse s.fuse.arr slot
      (rowWord e) []).2 = true) :=
  ⟨
    ⟨0, 0, true, dsc (descBlock 0x15 0 0 0 0), onEngine svc (descBlock 0x15 0 0 0 0), by decide +kernel⟩,
    ⟨0, 0, 2, ⟨0, 5, 7, 1⟩, 0, dsc (descBlock 0x15 0 0 0 0), onEngine (csrSet
      { svc with dram := { svc.dram with soft := svc.dram.soft.set 2 (some ⟨0, 5, 7, 1⟩) }, fuse := { svc.fuse with lc := 3 }, therm := { svc.therm with chans := ((svc.therm.chans.set 96 { value := 3000 }).set 109 { value := 7200 }).set 72 { value := 200, seen := true } } }
      0x070210 (1 + 2 * 4)) (descBlock 0x15 0 0 0 0), by decide +kernel⟩⟩

theorem witness_FirmwareStagingAndActivation :
    (∃ (r : Fin 64) (idx : Nat) (d : WxDesc) (s : State), (mayStart s 0x10 r idx d) ∧ bitsOf (d.opd 0) 32 32 ≠ 0 ∧
      s.fw.staging[(0 : Fin 2)] ≠ some (d.opd 0 % 4, bitsOf (d.opd 0) 32 32)) ∧
    (∃ (r : Fin 64) (idx : Nat) (h : ImageHeader) (d : WxDesc) (s : State), (mayStart s 0x10 r idx d) ∧ 512 ≤ bitsOf (d.opd 0)
      32 32 ∧ d.opd 0 % 4 < 3 ∧ s.fw.staging[(0 : Fin 2)] = some (d.opd 0 % 4, bitsOf (d.opd 0) 32 32) ∧ (slotGet s (d.opd 0 %
      4) (idleIdx s (d.opd 0 % 4))).hdr = some h ∧ (slotGet s (d.opd 0 % 4) (idleIdx s (d.opd 0 % 4))).got + 64 * d.len <
      imageBytes h) ∧
    (∃ (v : Word) (h : ImageHeader) (s : State), (quietPath s mgmtPath) ∧ keeperUp s = true ∧ mBusy s = false ∧ bitsOf v.toNat
      0 2 = 0 ∧ bitsOf v.toNat 2 2 < 3 ∧ 512 ≤ csrFld s 0x0D0084 0 21 ∧ s.fw.staging[(1 : Fin 2)] = some (bitsOf v.toNat 2 2,
      csrFld s 0x0D0084 0 21) ∧ (slotGet s (bitsOf v.toNat 2 2) (idleIdx s (bitsOf v.toNat 2 2))).hdr = some h ∧ (slotGet s
      (bitsOf v.toNat 2 2) (idleIdx s (bitsOf v.toNat 2 2))).got + 64 * (bitsOf v.toNat 4 2 + 1) < imageBytes h) ∧
    (∃ (r : Fin 64) (idx : Nat) (_ok : Bool) (d : WxDesc) (s : State), (mayStart s 0x11 r idx d) ∧ sextantBusy s (d.opd 0 % 4)
      = false ∧ activateRefused s 1 (d.opd 0 % 4) ≠ 0) ∧
    (∃ (r : Fin 64) (idx : Nat) (d : WxDesc) (s : State), (mayStart s 0x11 r idx d) ∧ sextantBusy s (d.opd 0 % 4) = false ∧
      activateRefused s 1 (d.opd 0 % 4) = 0 ∧ s.fw.active[compFin (d.opd 0 % 4)] ≤ 1) ∧
    (∃ (v : Word) (_ok : Bool) (s : State), (quietPath s mgmtPath) ∧ keeperUp s = true ∧ mBusy s = false ∧ bitsOf v.toNat 0 2
      = 1 ∧ sextantBusy s (bitsOf v.toNat 2 2) = false) :=
  ⟨
    ⟨0, 0, dsc (descBlock 0x10 1 (4096 * 2 ^ 32) 0 0), onEngine svc (descBlock 0x10 1 (4096 * 2 ^ 32) 0 0), by decide +kernel⟩,
    ⟨0, 0, imgHdr, dsc (descBlock 0x10 1 (512 * 2 ^ 32) 0 0), onEngine
      { svc with fw := { svc.fw with staging := #v[some (0, 512), none], slots := svc.fw.slots.set 0 #v[{ ok := true }, { hdr := some imgHdr, st := 1, got := 512 }] } }
      (descBlock 0x10 1 (512 * 2 ^ 32) 0 0), by decide +kernel⟩,
    ⟨0, imgHdr, csrSet
      { svc with fw := { svc.fw with staging := #v[none, some (0, 512)], slots := svc.fw.slots.set 0 #v[{ ok := true }, { hdr := some imgHdr, st := 1, got := 512 }] } }
      0x0D0084 512, by decide +kernel⟩,
    ⟨0, 0, true, dsc (descBlock 0x11 0 2 0 0), onEngine svc (descBlock 0x11 0 2 0 0), by decide +kernel⟩,
    ⟨0, 0, dsc (descBlock 0x11 0 2 0 0), onEngine
      { svc with fw := { svc.fw with staging := #v[none, none], slots := svc.fw.slots.set 2 #v[{ ok := true }, { hdr := some imgHdr, st := 2, got := 512 }], holder := 1, staged := 4 } }
      (descBlock 0x11 0 2 0 0), by decide +kernel⟩,
    ⟨9, true,
      { svc with fw := { svc.fw with staging := #v[none, none], slots := svc.fw.slots.set 2 #v[{ ok := true }, { hdr := some imgHdr, st := 2, got := 512 }], holder := 2, staged := 4 } },
      by decide +kernel⟩⟩

theorem witness_FirmwareCommitAndSettings :
    (∃ (r : Fin 64) (idx : Nat) (d : WxDesc) (s : State), mayStart s 0x12 r idx d) ∧
    (∃ (v : Word) (s : State), (quietPath s mgmtPath) ∧ keeperUp s = true ∧ mBusy s = false ∧ bitsOf v.toNat 0 2 = 2) ∧
    (∃ (s : State), keeperUp s = true ∧ s.fw.holder ≠ 0 ∧ s.fw.activated = 0) ∧
    (∃ (s : State), keeperUp s = true ∧ s.fw.bootCounted = false) ∧
    (∃ (a : Nat) (row : RegRow) (s : State), keeperUp s = true ∧ s.fw.unsaved = [a] ∧ s.power.failing = false ∧ regRow a =
      some row) ∧
    (∃ (_ok : Bool) (s : State), keeperUp s = true ∧ s.fw.rbPending = true) :=
  ⟨
    ⟨0, 0, dsc (descBlock 0x12 0 0 0 0), onEngine ({ svc with fw := { svc.fw with holder := 1, activated := 4 } }) (descBlock
      0x12 0 0 0 0), by decide +kernel⟩,
    ⟨2, { svc with fw := { svc.fw with holder := 2, activated := 4 } }, by decide +kernel⟩,
    ⟨{ svc with fw := { svc.fw with holder := 2 } }, by decide +kernel⟩,
    ⟨{ svc with fw := { svc.fw with holder := 1, activated := 4, cleanBoots := 2 } }, by decide +kernel⟩,
    ⟨0x000020, { name := "GLOBAL.MEMCFG", base := 0x000020, reset := 2, w := 0x13, l := 0x13, sb := 0x3, tv := 0xF },
      { svc with fw := { svc.fw with unsaved := [0x000020] } }, by decide +kernel⟩,
    ⟨true, { svc with fw := { svc.fw with rbPending := true } }, by decide +kernel⟩⟩

theorem witness_OtherCommandsLeaveAUnitAlone :
    (∃ (c : Instr) (s t : State), movesLinks c = false ∧ exec c s = .next t) ∧
    (∃ (c : Instr) (s t : State), movesJtag c = false ∧ exec c s = .next t) ∧
    (∃ (c : Instr) (s t : State), movesPower c = false ∧ exec c s = .next t) ∧
    (∃ (c : Instr) (s t : State), isAccess c = false ∧ movesScrub c = false ∧ exec c s = .next t) ∧
    (∃ (c : Instr) (s t : State), isAccess c = false ∧ movesGuard c = false ∧ exec c s = .next t) ∧
    (∃ (c : Instr) (s t : State), isAccess c = false ∧ movesStack c = false ∧ exec c s = .next t) ∧
    (∃ (c : Instr) (s t : State), isAccess c = false ∧ movesTransit c = false ∧ exec c s = .next t) ∧
    (∃ (c : Instr) (s t : State), isAccess c = false ∧ movesStart c = false ∧ exec c s = .next t) ∧
    (∃ (c : Instr) (s t : State), isAccess c = false ∧ movesTherm c = false ∧ exec c s = .next t) ∧
    (∃ (c : Instr) (s t : State), isAccess c = false ∧ movesFuse c = false ∧ exec c s = .next t) ∧
    (∃ (c : Instr) (s t : State), isAccess c = false ∧ movesFw c = false ∧ exec c s = .next t) ∧
    (∃ (c : Instr) (s t : State), isAccess c = false ∧ movesTrain c = false ∧ exec c s = .next t) :=
  ⟨
    ⟨.heartbeat 0, svc, svc, by decide +kernel, rfl⟩,
    ⟨.heartbeat 0, svc, svc, by decide +kernel, rfl⟩,
    ⟨.heartbeat 0, svc, svc, by decide +kernel, rfl⟩,
    ⟨.heartbeat 0, svc, svc, by decide +kernel, by decide +kernel, rfl⟩,
    ⟨.heartbeat 0, svc, svc, by decide +kernel, by decide +kernel, rfl⟩,
    ⟨.heartbeat 0, svc, svc, by decide +kernel, by decide +kernel, rfl⟩,
    ⟨.heartbeat 0, svc, svc, by decide +kernel, by decide +kernel, rfl⟩,
    ⟨.heartbeat 0, svc, svc, by decide +kernel, by decide +kernel, rfl⟩,
    ⟨.heartbeat 0, svc, svc, by decide +kernel, by decide +kernel, rfl⟩,
    ⟨.heartbeat 0, svc, svc, by decide +kernel, by decide +kernel, rfl⟩,
    ⟨.heartbeat 0, svc, svc, by decide +kernel, by decide +kernel, rfl⟩,
    ⟨.heartbeat 0, svc, svc, by decide +kernel, by decide +kernel, rfl⟩⟩

theorem witness_CommandsThatKeepMemoryAndRecords :
    (∃ (c : Instr) (s t : State), keepsMemory c = true ∧ exec c s = .next t) ∧
    (∃ (c : Instr) (s t : State), keepsChannels c = true ∧ exec c s = .next t) ∧
    (∃ (c : Instr) (s t : State), keepsEpochs c = true ∧ exec c s = .next t) ∧
    (∃ (c : Instr) (s t : State), keepsMirror c = true ∧ exec c s = .next t) ∧
    (∃ (c : Instr) (s t : State), keepsEngine c = true ∧ exec c s = .next t) ∧
    (∃ (c : Instr) (s t : State), keepsPorts c = true ∧ exec c s = .next t) ∧
    (∃ (c : Instr) (s t : State), keepsRecords c = true ∧ exec c s = .next t) ∧
    (∃ (c : Instr) (s t : State), keepsRegisters c = true ∧ exec c s = .next t) :=
  ⟨
    ⟨.idcode, svc, ran .idcode svc, by decide +kernel, rfl⟩,
    ⟨.idcode, svc, ran .idcode svc, by decide +kernel, rfl⟩,
    ⟨.idcode, svc, ran .idcode svc, by decide +kernel, rfl⟩,
    ⟨.idcode, svc, ran .idcode svc, by decide +kernel, rfl⟩,
    ⟨.idcode, svc, ran .idcode svc, by decide +kernel, rfl⟩,
    ⟨.idcode, svc, ran .idcode svc, by decide +kernel, rfl⟩,
    ⟨.idcode, svc, ran .idcode svc, by decide +kernel, rfl⟩,
    ⟨.idcode, svc, ran .idcode svc, by decide +kernel, rfl⟩⟩

end Sys2Proof.Tests
end

section
/-! The status flags of GLOBAL.STACKSTAT (R30): what each reads as, and when service is paused (O24). -/

namespace Sys2Proof.Machine

/-- A field placed above bit `i` leaves bit `i` of the word as it was. -/
theorem testBit_add_fld_of_lt {i lo : Nat} (h : i < lo) (x w v : Nat) : (x + fld lo w v).testBit i = x.testBit i := by
  have hmod : (x + fld lo w v) % 2 ^ lo = x % 2 ^ lo := Nat.add_mul_mod_self_right x (v % 2 ^ w) (2 ^ lo)
  have hbit := congrArg (·.testBit i) hmod
  simpa only [Nat.testBit_mod_two_pow, h, decide_true, Bool.true_and] using hbit

/-- The low bits of STACKSTAT are READY, KEEPER_UP and SVC_PAUSED; its other fields begin at bit 8. -/
theorem testBit_liveWord_stackStat (s : State) {i : Nat} (h : i < 8) :
    (liveWord s 0x00000C).testBit i =
      (bitAt 0 s.stack.ready + bitAt 1 (keeperUp s) + bitAt 2 (s.stack.ready && !keeperUp s)).testBit i := by
  have hword : liveWord s 0x00000C =
      bitAt 0 s.stack.ready + bitAt 1 (keeperUp s) + bitAt 2 (s.stack.ready && !keeperUp s)
        + fld 8 7 (s.pcs.toList.filter fun c => c.mode == .offline).length + fld 16 8 s.stack.restarts := rfl
  rw [hword, testBit_add_fld_of_lt (by omega), testBit_add_fld_of_lt h]

/-- Three flags in bits 0 to 2 are read back, each at its own bit. -/
theorem testBit_three_flags (a b c : Bool) :
    (bitAt 0 a + bitAt 1 b + bitAt 2 c).testBit 0 = a ∧ (bitAt 0 a + bitAt 1 b + bitAt 2 c).testBit 1 = b ∧
      (bitAt 0 a + bitAt 1 b + bitAt 2 c).testBit 2 = c := by
  revert a b c
  decide

theorem stackStat_ready (s : State) : (liveWord s 0x00000C).testBit 0 = s.stack.ready :=
  (testBit_liveWord_stackStat s (by omega)).trans (testBit_three_flags ..).1

theorem stackStat_keeperUp (s : State) : (liveWord s 0x00000C).testBit 1 = keeperUp s :=
  (testBit_liveWord_stackStat s (by omega)).trans (testBit_three_flags ..).2.1

theorem stackStat_svcPaused (s : State) : (liveWord s 0x00000C).testBit 2 = (s.stack.ready && !keeperUp s) :=
  (testBit_liveWord_stackStat s (by omega)).trans (testBit_three_flags ..).2.2

/-- Settles O24 (R30): the three bits read READY, KEEPER_UP and "READY and not KEEPER_UP". -/
theorem servicePausedExactly : Obligations.ServicePausedExactly := by
  unfold Obligations.ServicePausedExactly
  intro s
  rw [stackStat_svcPaused, stackStat_keeperUp, stackStat_ready, Bool.and_eq_true, Bool.not_eq_true', and_comm]

end Sys2Proof.Machine
end

section
/-! The alignment of Wide Port requests (R77): a misaligned one is answered with PROTO, an aligned one stays within one 256-byte
unit and its pseudo-channel (O7). -/

namespace Sys2Proof.Machine

/-- An RD or WR whose block is no multiple of its length has a format fault. -/
theorem badFormat_of_misaligned {k : ReqKind} {w : Slot} (hk : k = .rd ∨ k = .wr)
    (h : slotBlk w % lenBlocks (slotLen w) ≠ 0) : badFormat k w = true := by
  rcases hk with rfl | rfl <;> simp [badFormat, h]

/-- A response given to a port is the last of its egress. -/
theorem respond_egress (s : State) (p : Port) (r : Resp) :
    (respond s p r).ports[p].egress = s.ports[p].egress ++ [r] := by
  unfold respond
  dsimp only
  split <;> simp only [bump_ports, State.modPort_same]

@[simp] theorem returnCredit_egress (c : Nat) (q : PortSt) : (returnCredit c q).egress = q.egress := by
  unfold returnCredit
  split <;> rfl

@[simp] theorem spendCredit_egress (c : Nat) (q : PortSt) : (spendCredit c q).egress = q.egress := by
  unfold spendCredit
  split <;> rfl

/-- A dropped request puts its PROTO response, and nothing else, at the egress (R91). -/
theorem dropReq_egress (s : State) (p : Port) (k : ReqKind) (w : Slot) (dup : Bool) :
    (dropReq s p k w dup).ports[p].egress = s.ports[p].egress ++ [protoResp k w dup] := by
  unfold dropReq
  dsimp only
  rw [respond_egress, State.modPort_same]
  congr 1
  cases dup <;> cases hadCredit s.ports[p] (creditClass k w) <;> simp

/-- The event of a refused request leaves the egress alone. -/
theorem protoEvent_egress (s : State) (p : Port) (code arg : Nat) :
    (protoEvent s p code arg).ports[p].egress = s.ports[p].egress :=
  (raiseLim_ev ..).port_egress p

/-- A request with a format fault is dropped with an event, whichever check of R91 finds it first. -/
theorem arrive_of_badFormat (s : State) (p : Port) {k : ReqKind} {w : Slot} (data : List Block) (h : badFormat k w = true) :
    ∃ dup code arg, arrive s p k w data = protoEvent (dropReq s p k w dup) p code arg := by
  unfold arrive
  dsimp only
  rw [if_pos h]
  split
  · exact ⟨_, _, _, rfl⟩
  split
  · exact ⟨_, _, _, rfl⟩
  · exact ⟨_, _, _, rfl⟩

/-- A port that accepts slots takes every request. -/
theorem exec_portRequest {s : State} {p : Port} (h : accepts s p = true) (k : ReqKind) (w : Slot) (fl : List Block) :
    ∃ data, exec (portRequest k p w fl) s = .next (arrive s p k w data) := by
  cases k <;> exact ⟨_, if_pos h⟩

/-- Bits of a byte address above its 256-byte unit's offset are bits of the unit's number. -/
theorem bitsOf_unit (blk k w : Nat) : bitsOf (blk * 64) (8 + k) w = bitsOf (blk / 4) k w := by
  unfold bitsOf
  rw [Nat.shiftRight_add, Nat.shiftRight_eq_div_pow _ 8]
  congr 2
  omega

/-- The pseudo-channel of a block is that of its 256-byte unit, in every map order (R77, R133). -/
theorem coordOf_pc_of_unit {b c : Nat} (map : Nat) (h : b / 4 = c / 4) : (coordOf map b).pc = (coordOf map c).pc := by
  have hbits (k w : Nat) : bitsOf (b * 64) (8 + k) w = bitsOf (c * 64) (8 + k) w := by
    rw [bitsOf_unit, bitsOf_unit, h]
  have hregion : b * 64 / region6 = c * 64 / region6 := by unfold region6; omega
  have hoffset : bitsOf (b * 64 % region6) 8 2 = bitsOf (c * 64 % region6) 8 2 := by
    unfold region6 bitsOf
    rw [Nat.shiftRight_eq_div_pow, Nat.shiftRight_eq_div_pow]
    omega
  unfold coordOf
  split
  · exact hbits 0 6
  · exact hbits 5 6
  · show bitsOf (b * 64) (8 + 0) 6 ^^^ bitsOf (bitsOf (b * 64) (8 + 13) 16) 0 6 ^^^ bitsOf (bitsOf (b * 64) (8 + 13) 16) 6 6 = _
    rw [hbits, hbits]
  · show 4 * (b * 64 / region6) + bitsOf (b * 64 % region6) 8 2 = _
    rw [hregion, hoffset]

/-- The blocks of an aligned request lie in one 256-byte unit (R77). -/
theorem unit_of_aligned {blk i len : Nat} (hlen : len < 3) (hblk : blk % lenBlocks len = 0) (hi : i < lenBlocks len) :
    (blk + i) / 4 = blk / 4 := by
  unfold lenBlocks at hblk hi
  match len, hlen with
  | 0, _ => omega
  | 1, _ => omega
  | 2, _ => omega

/-- Settles O7 (R77): a misaligned request has a format fault, so R91 answers it with PROTO; an aligned one stays within its
unit, and the unit decides the pseudo-channel. -/
theorem misalignedRequestCompletesWithProto : Obligations.MisalignedRequestCompletesWithProto := by
  unfold Obligations.MisalignedRequestCompletesWithProto
  refine ⟨fun p w fl k s hk hacc hmis => ?_, fun map blk i len hlen hblk hi => ?_⟩
  · have hblk : slotBlk w % lenBlocks (slotLen w) ≠ 0 := by
      rcases hmis with ⟨hlen, hodd⟩ | ⟨hlen, hodd⟩ <;> rw [hlen] <;> exact hodd
    obtain ⟨data, hexec⟩ := exec_portRequest hacc k w fl
    obtain ⟨dup, code, arg, hdrop⟩ := arrive_of_badFormat s p data (badFormat_of_misaligned hk hblk)
    rw [hdrop] at hexec
    exact ⟨_, hexec, protoResp k w dup, by rw [protoEvent_egress, dropReq_egress], rfl, rfl⟩
  · have hunit := unit_of_aligned hlen hblk hi
    exact ⟨hunit, coordOf_pc_of_unit map hunit⟩

end Sys2Proof.Machine
end

section
/-! The credit settings of a port (R103): a write to CRDINIT keeps the reserved bits above its three fields (O25). -/

namespace Sys2Proof.Machine

/-- On an open path REG_WRITE is the write of its word. -/
theorem exec_regWrite {s : State} {path : Path} (h : pathUp s path = true) (a : BitVec 24) (v : Word) :
    exec (.regWrite path a v) s = .next (writeReg s path a.toNat v.toNat true) :=
  if_pos h

/-- A stack in service, port 0 with the reset value of CRDINIT and reserved bit 24 set beside it. -/
def reservedCrdinit : State :=
  csrSet { State.reset with power := { State.reset.power with phase := .service } } 0x020004 0x1204020

/-- Writing the reset value leaves the reserved bit standing: bits 31:24 lie outside the row's write mask. -/
theorem writeReg_reservedCrdinit :
    csrGet (writeReg reservedCrdinit 16 0x020004 0x204020 true) 0x020004 = 0x1204020 := by
  decide +kernel

/-- Refutes O25: its first clause takes the register to hold exactly the 24 written bits after the write, in every state. The
write replaces bits 23:0 only, so where a reserved bit of CRDINIT is set before (`reservedCrdinit`), it is still set after. -/
theorem not_creditSettingsLoadAtTraining : ¬ Obligations.CreditSettingsLoadAtTraining := by
  unfold Obligations.CreditSettingsLoadAtTraining
  rintro ⟨hwrite, -⟩
  have hquiet : quietPath reservedCrdinit 16 := by decide +kernel
  obtain ⟨t, hexec, hstored, -⟩ := hwrite 16 0 0x204020 reservedCrdinit hquiet
  rw [exec_regWrite hquiet.1] at hexec
  cases hexec
  have hkept : 0x1204020 = 0x204020 := writeReg_reservedCrdinit.symm.trans hstored
  exact absurd hkept (by decide)

end Sys2Proof.Machine
end

section
/-! The registers of the global block (R532): what memory service, mirroring, firmware, the Keeper and the ports do writes none of
them. `globals` gives the stored words of the block; the lemma `<name>_globals` says that an operation keeps them. Each follows from
the same lemmas about the operations it is made of; a stored word is written only by `csrSet`, and there its address decides. -/

namespace Sys2Proof.Machine

/-- The stored words of the global block, below 0x010000. -/
def globals (s : State) (a : Fin 0x010000) : Nat := csrGet s a.val

/-- The same words, from the table that stores the registers. -/
def csrGlobals (m : SMap Word) (a : Fin 0x010000) : Nat := (smGet 0 m a.val).toNat ^^^ regReset a.val

theorem csrGet_of_globals {s t : State} (h : globals t = globals s) {a : Nat} (ha : a < 0x010000) :
    csrGet t a = csrGet s a :=
  congrFun h ⟨a, ha⟩

theorem globals_of_csrGet {s t : State} (h : ∀ a, a < 0x010000 → csrGet t a = csrGet s a) : globals t = globals s :=
  funext fun a => h a.val a.isLt

@[simp] theorem csrGlobals_regs (s : State) : csrGlobals s.regs.csr = globals s := rfl

/-- An update of the state keeps the block where it keeps the stored registers. -/
@[simp] theorem globals_mk {now free nextId pending regs seq jrn evt ports links train pcs dram scrub guard lagoon epochs stack
    transit jtag power start therm chrosy mirror fuse fw wetex} :
    globals ⟨now, free, nextId, pending, regs, seq, jrn, evt, ports, links, train, pcs, dram, scrub, guard, lagoon, epochs, stack,
      transit, jtag, power, start, therm, chrosy, mirror, fuse, fw, wetex⟩ = csrGlobals regs.csr := rfl

@[simp] theorem globals_ite {c : Prop} [Decidable c] (s t : State) :
    globals (if c then s else t) = if c then globals s else globals t := apply_ite ..

@[simp] theorem globals_ite_snd {α : Type} {c : Prop} [Decidable c] (x y : α × State) :
    globals (if c then x else y).2 = if c then globals x.2 else globals y.2 := apply_ite (fun x : α × State => globals x.2) ..

/-- A fold keeps the block where each of its steps does. -/
@[simp] theorem globals_foldl {α : Type} {f : State → α → State} (h : ∀ s x, globals (f s x) = globals s) (l : List α)
    (s : State) : globals (l.foldl f s) = globals s := by
  induction l generalizing s with
  | nil => rfl
  | cons x l ih => rw [List.foldl_cons, ih, h]

@[simp] theorem globals_foldl_snd {α β : Type} {f : β × State → α → β × State}
    (h : ∀ p x, globals (f p x).2 = globals p.2) (l : List α) (p : β × State) : globals (l.foldl f p).2 = globals p.2 := by
  induction l generalizing p with
  | nil => rfl
  | cons x l ih => rw [List.foldl_cons, ih, h]

/-- What moves without the registers (bit 4 of the mask) keeps the block. -/
theorem Moves.globals {m : Nat} {s t : State} (h : Moves m s t) (hm : m.testBit 4 = false) : globals t = globals s :=
  have hregs : t.regs = s.regs := h.regs.resolve_left (by simp [hm])
  globals_of_csrGet fun _ _ => csrGet_of_regs hregs

/-- Records and entries write no register but the loss counters of the event rings, which lie in block 0x0A. -/
theorem EvKeeps.globals {s t : State} (h : EvKeeps s t) : globals t = globals s := by
  refine globals_of_csrGet fun a ha => h.csr a ?_
  rintro ⟨k, rfl⟩
  omega

/-! ### Stored words of other blocks -/

@[simp] theorem csrSet_globals (s : State) {a : Nat} (v : Nat) (h : 0x010000 ≤ a) : globals (csrSet s a v) = globals s :=
  globals_of_csrGet fun _ hb => csrGet_csrSet_other s v (by omega)

@[simp] theorem bump_globals (s : State) {a : Nat} (k : Nat) (h : 0x010000 ≤ a) : globals (bump a k s) = globals s :=
  csrSet_globals s _ h

@[simp] theorem le_portReg (p : Port) (off : Nat) : 0x010000 ≤ portReg p off := by unfold portReg; omega
@[simp] theorem le_pcReg (n off : Nat) : 0x010000 ≤ pcReg n off := by unfold pcReg; omega
@[simp] theorem le_winReg (w off : Nat) : 0x010000 ≤ winReg w off := by unfold winReg; omega
@[simp] theorem le_wxReg (r off : Nat) : 0x010000 ≤ wxReg r off := by unfold wxReg; omega
@[simp] theorem le_evRingReg (k off : Nat) : 0x010000 ≤ evRingReg k off := by unfold evRingReg; omega

/-! ### The clock, events and what writes no register -/

@[simp] theorem atLeast_globals (s : State) (t : Nat) : globals (s.atLeast t) = globals s := by
  unfold State.atLeast
  split <;> rfl

@[simp] theorem raiseX_globals (s : State) (src code sev arg0 arg1 : Nat) (journalled deferred served : Bool) :
    globals (raiseX s src code sev arg0 arg1 journalled deferred served) = globals s :=
  (raiseX_ev ..).globals

@[simp] theorem raise_globals (s : State) (src code sev arg0 arg1 : Nat) :
    globals (raise s src code sev arg0 arg1) = globals s :=
  (raise_ev ..).globals

@[simp] theorem raiseJ_globals (s : State) (src code sev arg0 arg1 : Nat) :
    globals (raiseJ s src code sev arg0 arg1) = globals s :=
  (raiseJ_ev ..).globals

@[simp] theorem raiseLim_globals (s : State) (key period src code sev arg0 arg1 sup : Nat) (journalled : Bool) :
    globals (raiseLim s key period src code sev arg0 arg1 sup journalled) = globals s :=
  (raiseLim_ev ..).globals

@[simp] theorem formEntry_globals (s : State) (kind src body : Nat) : globals (formEntry s kind src body) = globals s :=
  (formEntry_ev ..).globals

@[simp] theorem journal_globals (s : State) (kind src body : Nat) : globals (journal s kind src body) = globals s :=
  (journal_ev ..).globals

@[simp] theorem limitSet_globals (s : State) (key : Nat) (v : Nat × Nat) : globals (limitSet s key v) = globals s :=
  (limitSet_ev ..).globals

@[simp] theorem issueEvent_globals (s : State) (src code sev arg0 arg1 : Nat) (journalled deferred served : Bool) :
    globals (issueEvent s src code sev arg0 arg1 journalled deferred served).1 = globals s :=
  (issueEvent_ev ..).globals

@[simp] theorem modPort_globals (s : State) (p : Port) (f : PortSt → PortSt) : globals (s.modPort p f) = globals s :=
  (State.modPort_mv ..).globals rfl

@[simp] theorem modLink_globals (s : State) (p : Port) (f : LinkSt → LinkSt) : globals (s.modLink p f) = globals s :=
  (State.modLink_mv ..).globals rfl

@[simp] theorem modPc_globals (s : State) (n : Pc) (f : PcSt → PcSt) : globals (s.modPc n f) = globals s :=
  (State.modPc_mv ..).globals rfl

@[simp] theorem tick_globals (s : State) : globals s.tick = globals s :=
  (State.tick_mv ..).globals rfl

@[simp] theorem useFree_globals (s : State) : globals s.useFree = globals s :=
  (State.useFree_mv ..).globals rfl

@[simp] theorem pctlSend_globals (s : State) (p : Port) (cmd arg : Nat) (await : Bool) :
    globals (pctlSend s p cmd arg await) = globals s :=
  (pctlSend_mv ..).globals rfl

@[simp] theorem wxEnd_globals (s : State) (r : Fin 64) (idx st res det : Nat) :
    globals (wxEnd s r idx st res det) = globals s :=
  (wxEnd_mv ..).globals rfl

@[simp] theorem wxSyncLost_globals (s : State) (w : Nat) : globals (wxSyncLost s w) = globals s :=
  (wxSyncLost_mv ..).globals rfl

@[simp] theorem tagWrite_globals (s : State) (t : Option Nat) (blk : Nat) : globals (tagWrite s t blk) = globals s :=
  (tagWrite_mv ..).globals rfl

@[simp] theorem markRange_globals (s : State) (n lo hi : Nat) : globals (markRange s n lo hi) = globals s :=
  (markRange_mv ..).globals rfl

@[simp] theorem rangeErase_globals (s : State) (zero : Bool) (n lo hi : Nat) :
    globals (rangeErase s zero n lo hi) = globals s :=
  (rangeErase_mv ..).globals rfl

@[simp] theorem transitRelease_globals (s : State) : globals (transitRelease s) = globals s :=
  (transitRelease_mv ..).globals rfl

@[simp] theorem transitComplete_globals (s : State) (desc : Option (Nat × Nat)) :
    globals (transitComplete s desc) = globals s :=
  (transitComplete_mv ..).globals rfl

@[simp] theorem marchLost_globals (s : State) : globals (marchLost s) = globals s :=
  (marchLost_mv ..).globals rfl

@[simp] theorem dramWrite_globals (s : State) (blk : Nat) (b : Block) (c : DWord) :
    globals (dramWrite s blk b c) = globals s :=
  (dramWrite_mv ..).globals rfl

@[simp] theorem putLine_globals (s : State) (l : Line) : globals (putLine s l) = globals s :=
  (putLine_mv ..).globals rfl

@[simp] theorem lineWrite_globals (s : State) (l : Line) (blk : Nat) (b : Block) (c : DWord) (urgent : Bool) :
    globals (lineWrite s l blk b c urgent) = globals s :=
  (lineWrite_mv ..).globals rfl

@[simp] theorem noteWrite_globals (s : State) (blk id : Nat) : globals (noteWrite s blk id) = globals s :=
  (noteWrite_mv ..).globals rfl

@[simp] theorem enqueue_globals (s : State) (n : Pc) (e : QEnt) : globals (enqueue s n e) = globals s :=
  (enqueue_mv ..).globals rfl

@[simp] theorem freeEntry_globals (s : State) (n : Pc) (id : Nat) : globals (freeEntry s n id) = globals s :=
  (freeEntry_mv ..).globals rfl

@[simp] theorem modEntry_globals (s : State) (n : Pc) (id : Nat) (f : QEnt → QEnt) :
    globals (modEntry s n id f) = globals s :=
  (modEntry_mv ..).globals rfl

@[simp] theorem dramRead_globals (s : State) (blk : Nat) : globals (dramRead s blk).2 = globals s :=
  (dramRead_mv ..).globals rfl

@[simp] theorem readWord_globals (s : State) (blk : Nat) : globals (readWord s blk).2 = globals s :=
  (readWord_mv ..).globals rfl

@[simp] theorem derive_globals (s : State) (d : Derived) : globals (derive s d) = globals s :=
  (derive_mv ..).globals rfl

@[simp] theorem candidate_globals (s : State) (c : Coord) (syms : List Nat) : globals (candidate s c syms) = globals s :=
  (candidate_mv ..).globals rfl

@[simp] theorem laneReport_globals (s : State) (n : Pc) (syms : List Nat) : globals (laneReport s n syms) = globals s :=
  (laneReport_mv ..).globals rfl

@[simp] theorem drainOrd_globals (s : State) (e : QEnt) : globals (drainOrd s e) = globals s :=
  (drainOrd_mv ..).globals rfl

@[simp] theorem thrSet_globals (s : State) (req : Nat) (t : Thr) : globals (thrSet s req t) = globals s :=
  (thrSet_mv ..).globals rfl

@[simp] theorem modBank_globals (n : Pc) (b : Nat) (f : Bank → Bank) (s : State) : globals (modBank n b f s) = globals s :=
  (modBank_mv ..).globals rfl

@[simp] theorem columns_globals (s : State) (n : Pc) (bank k : Nat) (write : Bool) :
    globals (columns s n bank k write) = globals s :=
  (columns_mv ..).globals rfl

@[simp] theorem modWin_globals (s : State) (w : Nat) (f : WinSt → WinSt) : globals (modWin s w f) = globals s :=
  (modWin_mv ..).globals rfl

@[simp] theorem pushQ_globals (s : State) (vc : Fin 2) (m : Msg) : globals (pushQ s vc m) = globals s :=
  (pushQ_mv ..).globals rfl

@[simp] theorem takeSeq_globals (s : State) (w : Fin 64) : globals (takeSeq s w).2 = globals s :=
  (takeSeq_mv ..).globals rfl

@[simp] theorem afterLineWrite_globals (s : State) (unit : Nat) (thru : Bool) :
    globals (afterLineWrite s unit thru) = globals s :=
  (afterLineWrite_mv ..).globals rfl

@[simp] theorem flushBlocks_globals (s : State) (l : Line) (mask : Nat) : globals (flushBlocks s l mask) = globals s :=
  (flushBlocks_mv ..).globals rfl

@[simp] theorem wbLine_globals (s : State) (l : Line) : globals (wbLine s l) = globals s :=
  (wbLine_mv ..).globals rfl

@[simp] theorem rowAccess_globals (s : State) (blk : Nat) : globals (rowAccess s blk) = globals s :=
  (rowAccess_mv ..).globals rfl

@[simp] theorem markEnt_globals (s : State) (n : Pc) (e : QEnt) (act : Bool) : globals (markEnt s n e act) = globals s :=
  (markEnt_mv ..).globals rfl

@[simp] theorem commitBlock_globals (s : State) (e : QEnt) (blk : Nat) : globals (commitBlock s e blk) = globals s :=
  (commitBlock_mv ..).globals rfl

@[simp] theorem oldBlock_globals (s : State) (blk : Nat) : globals (oldBlock s blk).2 = globals s :=
  (oldBlock_mv ..).globals rfl

@[simp] theorem wiClear_globals (s : State) (n : Pc) : globals (wiClear s n) = globals s :=
  (wiClear_mv ..).globals rfl

@[simp] theorem wiSet_globals (s : State) (n : Pc) (e : QEnt) : globals (wiSet s n e) = globals s :=
  (wiSet_mv ..).globals rfl

@[simp] theorem setJob_globals (s : State) (j : Option ResyncJob) : globals (setJob s j) = globals s :=
  (setJob_mv ..).globals rfl

@[simp] theorem restartBringUp_globals (s : State) : globals (restartBringUp s) = globals s :=
  (restartBringUp_mv ..).globals rfl

@[simp] theorem slotSet_globals (s : State) (c i : Nat) (x : FwSlot) : globals (slotSet s c i x) = globals s :=
  (slotSet_mv ..).globals rfl

@[simp] theorem bootWrite_globals (s : State) : globals (bootWrite s) = globals s :=
  (bootWrite_mv ..).globals rfl

@[simp] theorem setActive_globals (s : State) (c i : Nat) : globals (setActive s c i) = globals s :=
  (setActive_mv ..).globals rfl

@[simp] theorem updEntry_globals (s : State) (c step src version slot outcome : Nat) :
    globals (updEntry s c step src version slot outcome) = globals s :=
  (updEntry_mv ..).globals rfl

@[simp] theorem resetEntry_globals (s : State) (kind check dropped : Nat) :
    globals (resetEntry s kind check dropped) = globals s :=
  (resetEntry_mv ..).globals rfl

@[simp] theorem revert_globals (s : State) (c : Nat) : globals (revert s c) = globals s :=
  (revert_mv ..).globals rfl

@[simp] theorem revertArea_globals (s : State) : globals (revertArea s) = globals s :=
  (revertArea_mv ..).globals rfl

@[simp] theorem swapSlot_globals (s : State) (c : Nat) : globals (swapSlot s c) = globals s :=
  (swapSlot_mv ..).globals rfl

@[simp] theorem fwEnd_globals (s : State) (r : Fin 64) (idx code res : Nat) : globals (fwEnd s r idx code res) = globals s :=
  (fwEnd_mv ..).globals rfl

@[simp] theorem setMResult_globals (s : State) (code : Nat) : globals (setMResult s code) = globals s :=
  (setMResult_mv ..).globals rfl

end Sys2Proof.Machine
end

section
/-! Serving memory keeps the global block: the engines' own requests, the scheduler, the scrubber and
the merges behind them, the messages a write sends to the partner, the responses. -/

namespace Sys2Proof.Machine

@[simp] theorem respond_globals (s : State) (p : Port) (r : Resp) : globals (respond s p r) = globals s := by
  unfold respond
  dsimp only
  split <;> simp

@[simp] theorem poisonClear_globals (s : State) (blk : Nat) : globals (poisonClear s blk) = globals s := by
  unfold poisonClear
  dsimp only
  split <;> simp

@[simp] theorem turn_globals (s : State) (n : Pc) (src : Src) : globals (turn s n src) = globals s := by
  unfold turn
  dsimp only
  split <;> simp

@[simp] theorem repPush_globals (s : State) (e : RepEnt) : globals (repPush s e) = globals s := by
  unfold repPush
  dsimp only
  split
  · simp
  split <;> simp

@[simp] theorem repeatUpdate_globals (s : State) (blk readId : Nat) (data : Block) (syms : List Nat) (own : Bool) :
    globals (repeatUpdate s blk readId data syms own) = globals s := by
  unfold repeatUpdate
  dsimp only
  split <;> simp

@[simp] theorem afterRead_globals (s : State) (blk readId finder : Nat) (f : Found) (own : Bool) :
    globals (afterRead s blk readId finder f own) = globals s := by
  unfold afterRead
  dsimp only
  split <;> simp

@[simp] theorem answer_globals (s : State) (e : QEnt) (status : Nat) (bst : List Nat) (data : List Block) :
    globals (answer s e status bst data) = globals s := by
  unfold answer
  split
  · simp
  split <;> simp

@[simp] theorem spill_globals (s : State) (n : Nat) (req : Option Nat) (urgent : Bool) (t : Nat) :
    globals (spill s n req urgent t) = globals s := by
  unfold spill
  dsimp only
  split <;> simp

@[simp] theorem countAct_globals (s : State) (n : Pc) (bank row : Nat) (req : Option Nat) (urgent : Bool) :
    globals (countAct s n bank row req urgent) = globals s := by
  unfold countAct
  dsimp only
  split <;> simp

@[simp] theorem rowCycle_globals (s : State) (n : Pc) (bank row k : Nat) (write : Bool) :
    globals (rowCycle s n bank row k write) = globals s := by
  unfold rowCycle
  dsimp only
  split <;> simp

@[simp] theorem ownWrites_globals (s : State) (l : List (Nat × Block)) : globals (ownWrites s l) = globals s := by
  simp [ownWrites]

@[simp] theorem releaseSync_globals (s : State) (w : SyncWait) (status : Nat) :
    globals (releaseSync s w status) = globals s := by
  unfold releaseSync
  dsimp only
  split <;> simp

@[simp] theorem releaseWaits_globals (s : State) (p : SyncWait → Bool) (status : Nat) :
    globals (releaseWaits s p status) = globals s := by
  simp [releaseWaits]

@[simp] theorem diverge_globals (s : State) (w : Fin 64) (reason : Nat) : globals (diverge s w reason) = globals s := by
  unfold diverge
  dsimp only
  split <;> simp

@[simp] theorem backlogHigh_globals (s t : State) : globals (backlogHigh s t) = globals t := by
  unfold backlogHigh
  dsimp only
  split <;> simp

@[simp] theorem toBacklog_globals (s : State) (m : Msg) : globals (toBacklog s m) = globals s := by
  simp [toBacklog]

@[simp] theorem placeMsg_globals (s : State) (w : Fin 64) (m : Msg) (sync resync : Bool) :
    globals (placeMsg s w m sync resync) = globals s := by
  unfold placeMsg
  dsimp only
  split <;> simp

@[simp] theorem mirrorWrite_globals (s : State) (blk : Nat) (data : List Block) (epoch : Nat) :
    globals (mirrorWrite s blk data epoch).2 = globals s := by
  unfold mirrorWrite
  dsimp only
  split <;> simp

@[simp] theorem respondMirrored_globals (s : State) (p : Port) (r : Resp) (gone : Bool) (win : Nat) (m : Option (Option Nat)) :
    globals (respondMirrored s p r gone win m) = globals s := by
  unfold respondMirrored
  dsimp only
  split <;> simp

@[simp] theorem countWb_globals (s : State) (l : Line) (mask : Nat) : globals (countWb s l mask) = globals s := by
  unfold countWb
  dsimp only
  split <;> simp

@[simp] theorem flushLine_globals (s : State) (l : Line) : globals (flushLine s l) = globals s := by
  unfold flushLine
  dsimp only
  split <;> simp

@[simp] theorem issueCol_globals (s : State) (n : Pc) (e : QEnt) : globals (issueCol s n e) = globals s := by
  unfold issueCol
  dsimp only
  split <;> simp

@[simp] theorem issueCmd_globals (s : State) (n : Pc) (e : QEnt) : globals (issueCmd s n e) = globals s := by
  unfold issueCmd
  dsimp only
  split <;> simp

@[simp] theorem streakAfter_globals (s : State) (n : Pc) (why : Nat) : globals (streakAfter s n why) = globals s := by
  unfold streakAfter
  dsimp only
  split <;> simp

@[simp] theorem schedule_globals (s : State) (n : Pc) : globals (schedule s n) = globals s := by
  unfold schedule
  dsimp only
  split
  · simp
  split <;> simp

@[simp] theorem readBlock_globals (s : State) (e : QEnt) (blk : Nat) : globals (readBlock s e blk).2 = globals s := by
  unfold readBlock
  dsimp only
  split
  · simp
  split <;> simp

@[simp] theorem hostBlock_globals (s : State) (e : QEnt) (blk : Nat) : globals (hostBlock s e blk).2.2 = globals s := by
  unfold hostBlock
  dsimp only
  split <;> simp

@[simp] theorem hostRead_globals (s : State) (n : Pc) (e : QEnt) : globals (hostRead s n e) = globals s := by
  simp [hostRead]

@[simp] theorem scrubFound_globals (s : State) (e : QEnt) (n : Pc) (blk : Nat) (f : Found) :
    globals (scrubFound s e n blk f) = globals s := by
  unfold scrubFound
  dsimp only
  split <;> simp

@[simp] theorem scrubBlock_globals (s : State) (e : QEnt) (blk : Nat) : globals (scrubBlock s e blk) = globals s := by
  unfold scrubBlock
  dsimp only
  split <;> simp

@[simp] theorem scrubRead_globals (s : State) (n : Pc) (e : QEnt) : globals (scrubRead s n e) = globals s := by
  simp [scrubRead]

@[simp] theorem commitEntry_globals (s : State) (e : QEnt) : globals (commitEntry s e) = globals s := by
  simp [commitEntry]

@[simp] theorem drainHost_globals (s : State) (e : QEnt) (data : List Block) : globals (drainHost s e data) = globals s := by
  unfold drainHost
  dsimp only
  split <;> simp

@[simp] theorem finishWrite_globals (s : State) (n : Pc) (e : QEnt) : globals (finishWrite s n e) = globals s := by
  unfold finishWrite
  dsimp only
  split <;> simp

@[simp] theorem mergeInEntry_globals (s : State) (n : Pc) (e : QEnt) (b : Block) :
    globals (mergeInEntry s n e b) = globals s := by
  simp [mergeInEntry]

@[simp] theorem mergeInLine_globals (s : State) (n : Pc) (e : QEnt) (b : Block) :
    globals (mergeInLine s n e b) = globals s := by
  unfold mergeInLine
  dsimp only
  split <;> simp

@[simp] theorem mergeFails_globals (s : State) (n : Pc) (e : QEnt) (status : Nat) :
    globals (mergeFails s n e status) = globals s := by
  simp [mergeFails]

/-- A line that a merge claims leaves the registers as they were. -/
theorem globals_of_mergePlace {s t : State} {unit : Nat} {urgent : Bool} (h : mergePlace s unit urgent = .line t) :
    globals t = globals s :=
  (mergePlace_mv s unit urgent h).globals rfl

@[simp] theorem mergeDo_globals (s : State) (n : Pc) (e : QEnt) : globals (mergeDo s n e) = globals s := by
  unfold mergeDo
  dsimp only
  split
  · simp
  split
  · next t hplace => simp [globals_of_mergePlace hplace]
  · simp

@[simp] theorem pick_globals (s : State) (n : Pc) : globals (pick s n) = globals s := by
  unfold pick
  dsimp only
  split
  · simp
  split
  · simp
  split
  · simp
  split <;> simp

@[simp] theorem makeWay_globals (s : State) (unit : Nat) : globals (makeWay s unit) = globals s := by
  unfold makeWay
  dsimp only
  split <;> simp

@[simp] theorem mergeNow_globals (s : State) (n : Pc) (e : QEnt) : globals (mergeNow s n e) = globals s := by
  unfold mergeNow
  dsimp only
  split <;> simp

@[simp] theorem entryCycle_globals (s : State) (n : Pc) (e : QEnt) : globals (entryCycle s n e) = globals s := by
  unfold entryCycle
  split <;> simp

@[simp] theorem settleEntry_globals (s : State) (n : Pc) (e : QEnt) : globals (settleEntry s n e) = globals s := by
  unfold settleEntry
  dsimp only
  split
  · split <;> simp
  · simp
  · split <;> simp
  · simp

@[simp] theorem serveOut_globals (s : State) (n : Pc) (e : QEnt) : globals (serveOut s n e) = globals s := by
  simp [serveOut]

@[simp] theorem serveTo_globals (fuel : Nat) (s : State) (n : Pc) (id : Nat) : globals (serveTo fuel s n id) = globals s := by
  induction fuel generalizing s with
  | zero =>
    unfold serveTo
    split <;> simp
  | succ fuel ih =>
    unfold serveTo
    split
    · rfl
    dsimp only
    split
    · rfl
    split
    · simp [ih]
    split <;> simp [ih]

@[simp] theorem intWait_globals (s : State) (n : Pc) : globals (intWait s n) = globals s := by
  unfold intWait
  split
  · simp
  split <;> simp

@[simp] theorem ownRequest_globals (s : State) (e : QEnt) : globals (ownRequest s e).2.2 = globals s := by
  simp [ownRequest]

@[simp] theorem engineRead_globals (s : State) (blk : Nat) : globals (engineRead s blk).2.2 = globals s := by
  simp [engineRead]

@[simp] theorem readNow_globals (s : State) (blk finder : Nat) : globals (readNow s blk finder).2.2 = globals s := by
  unfold readNow
  dsimp only
  split <;> simp

@[simp] theorem wxRequest_globals (s : State) (blk : Nat) : globals (wxRequest s blk) = globals s := by
  simp [wxRequest]

end Sys2Proof.Machine
end

section
/-! Mirroring keeps the global block: divergence, copies, window settings that waited for the Keeper. -/

namespace Sys2Proof.Machine

@[simp] theorem mirrorCfg_globals (s : State) (addr value : Nat) : globals (mirrorCfg s addr value) = globals s := by
  simp [mirrorCfg]

@[simp] theorem sendCopy_globals (s : State) (w : Fin 64) (blk : Nat) (data : List Block) :
    globals (sendCopy s w blk data) = globals s := by
  simp [sendCopy]

@[simp] theorem copyBlock_globals (s : State) (blk : Nat) : globals (copyBlock s blk).2 = globals s := by
  unfold copyBlock
  dsimp only
  split <;> simp

@[simp] theorem copyReads_globals (s : State) (unit : Nat) : globals (copyReads s unit).2 = globals s := by
  simp [copyReads]

@[simp] theorem copySends_globals (s : State) (w : Fin 64) (unit : Nat) (bs : List (Option Block)) :
    globals (copySends s w unit bs).2 = globals s := by
  unfold copySends
  dsimp only
  split
  · simp
  · refine globals_foldl (fun s x => ?_) _ s
    split <;> simp

@[simp] theorem copyUnit_globals (s : State) (w : Fin 64) (unit : Nat) : globals (copyUnit s w unit).2 = globals s := by
  simp [copyUnit]

@[simp] theorem fillCopy_globals (fuel : Nat) (s : State) : globals (fillCopy fuel s) = globals s := by
  induction fuel generalizing s with
  | zero => rfl
  | succ fuel ih =>
    unfold fillCopy
    split
    · rfl
    split
    · rfl
    dsimp only
    split
    · simp [ih]
    split
    · simp [ih]
    split
    · simp [ih]
    split
    · split <;> simp [ih]
    · rfl

@[simp] theorem copyAcked_globals (s : State) (w : Nat) : globals (copyAcked s w) = globals s := by
  unfold copyAcked
  split <;> simp

@[simp] theorem resyncStep_globals (s : State) : globals (resyncStep s) = globals s := by
  unfold resyncStep
  extract_lets t
  have ht : globals t = globals s := by simp [t]
  split
  · exact ht
  · dsimp only
    split <;> simp [ht]

@[simp] theorem winStart_globals (s : State) (w : Nat) (assume : Bool) : globals (winStart s w assume) = globals s := by
  unfold winStart
  split <;> simp

@[simp] theorem winStop_globals (s : State) (w : Nat) : globals (winStop s w) = globals s := by
  simp [winStop]

@[simp] theorem winAct_globals (s : State) (w v : Nat) : globals (winAct s w v) = globals s := by
  unfold winAct
  dsimp only
  split <;> simp

@[simp] theorem winWaiting_globals (s : State) : globals (winWaiting s) = globals s := by
  simp [winWaiting]

end Sys2Proof.Machine
end

section
/-! The Keeper and firmware keep the global block: a run of Transit cut short, staging, activation, commit, the
watchdog, a restart. -/

namespace Sys2Proof.Machine

@[simp] theorem regDw_globals (s : State) (addr path reason : Nat) : globals (regDw s addr path reason) = globals s := by
  simp [regDw]

@[simp] theorem dwHardware_globals (s : State) (a : Nat) : globals (dwHardware s a) = globals s := by
  unfold dwHardware
  extract_lets regs t regs'
  have ht : globals t = globals s := by
    simp only [t]
    split
    · split <;> simp [regs]
    · rfl
  split
  · split <;> simp [regs', ht]
  · exact ht

@[simp] theorem marchActs_globals (s : State) (n lo hi algo : Nat) : globals (marchActs s n lo hi algo) = globals s := by
  simp [marchActs]

@[simp] theorem marchLeaves_globals (s : State) (n lo hi algo : Nat) (whole : Bool) :
    globals (marchLeaves s n lo hi algo whole) = globals s := by
  simp [marchLeaves]

@[simp] theorem transitAbort_globals (s : State) (cause : Nat) : globals (transitAbort s cause) = globals s := by
  unfold transitAbort
  dsimp only
  split <;> simp

@[simp] theorem fuseProg_globals (s : State) (word op result pulses : Nat) :
    globals (fuseProg s word op result pulses) = globals s := by
  simp [fuseProg]

@[simp] theorem fuseNoPulse_globals (s : State) (word : Nat) : globals (fuseNoPulse s word) = globals s := by
  simp [fuseNoPulse]

@[simp] theorem updEvent_globals (s : State) (src code sev a0 a1 : Nat) :
    globals (updEvent s src code sev a0 a1) = globals s := by
  simp [updEvent]

@[simp] theorem endLease_globals (s : State) (cause : Nat) : globals (endLease s cause) = globals s := by
  unfold endLease
  dsimp only
  split <;> simp

@[simp] theorem takeHeader_globals (s : State) (src comp : Nat) (h : ImageHeader) :
    globals (takeHeader s src comp h).2 = globals s := by
  unfold takeHeader
  dsimp only
  split
  · split <;> simp
  · simp

@[simp] theorem stagedWhole_globals (s : State) (src comp : Nat) : globals (stagedWhole s src comp).2 = globals s := by
  unfold stagedWhole
  dsimp only
  split <;> simp

@[simp] theorem stageBody_globals (s : State) (src comp : Nat) (blocks : List Block) :
    globals (stageBody s src comp blocks).2 = globals s := by
  unfold stageBody
  dsimp only
  split <;> simp

@[simp] theorem stageStep_globals (s : State) (src comp off : Nat) (blocks : List Block) :
    globals (stageStep s src comp off blocks).2 = globals s := by
  simp [stageStep]

@[simp] theorem keeperStop_globals (s : State) (kind : Nat) : globals (keeperStop s kind) = globals s := by
  simp [keeperStop]

@[simp] theorem fallback_globals (s : State) : globals (fallback s) = globals s := by
  simp [fallback]

@[simp] theorem watchdog_globals (s : State) : globals (watchdog s) = globals s := by
  simp [watchdog]

@[simp] theorem activated_globals (s : State) (src c : Nat) : globals (activated s src c) = globals s := by
  unfold activated
  dsimp only
  split <;> simp

@[simp] theorem activationFails_globals (s : State) (src c : Nat) : globals (activationFails s src c) = globals s := by
  simp [activationFails]

@[simp] theorem activate_globals (s : State) (src c : Nat) (desc : Option (Nat × Nat)) (selfCheck : Bool) :
    globals (activate s src c desc selfCheck).2 = globals s := by
  unfold activate
  dsimp only
  split <;> simp

@[simp] theorem rbAdvance_globals (s : State) (c : Nat) (ok : Bool) : globals (rbAdvance s c ok) = globals s := by
  unfold rbAdvance
  dsimp only
  split <;> simp

@[simp] theorem rbTry_globals (s : State) (ok : Bool) : globals (rbTry s ok) = globals s := by
  simp [rbTry]

@[simp] theorem commit_globals (s : State) : globals (commit s) = globals s := by
  unfold commit
  dsimp only
  rw [endLease_globals, updEvent_globals, updEntry_globals]
  split <;> simp

@[simp] theorem commitReq_globals (s : State) (src : Nat) : globals (commitReq s src).2.2 = globals s := by
  unfold commitReq
  dsimp only
  split
  · simp
  split
  · simp
  split <;> simp

@[simp] theorem runMcmd_globals (s : State) (v : Nat) (selfCheck : Bool) : globals (runMcmd s v selfCheck) = globals s := by
  have hact := activate_globals s 2 (bitsOf v 2 2) none selfCheck
  unfold runMcmd
  dsimp only
  split
  · simp
  split
  · split <;> next hrun => simpa [hrun] using hact
  · split <;> simp

@[simp] theorem runWaiting_globals (s : State) : globals (runWaiting s) = globals s := by
  unfold runWaiting
  dsimp only
  split <;> simp

@[simp] theorem convertSettings_globals (s : State) : globals (convertSettings s) = globals s := by
  unfold convertSettings
  dsimp only
  split <;> simp

@[simp] theorem bootCheck_globals (s : State) (c : Nat) : globals (bootCheck s c).2 = globals s := by
  unfold bootCheck
  dsimp only
  split <;> simp

@[simp] theorem keeperOther_globals (s : State) : globals (keeperOther s).2 = globals s := by
  simp [keeperOther]

@[simp] theorem keeperBack_globals (s : State) (kind micros : Nat) : globals (keeperBack s kind micros) = globals s := by
  unfold keeperBack
  dsimp only
  rw [runWaiting_globals, winWaiting_globals]
  split
  · simp
  · split <;> simp

@[simp] theorem restartDone_globals (s : State) (kind : Nat) (selfCheck : Bool) (micros : Nat) :
    globals (restartDone s kind selfCheck micros) = globals s := by
  unfold restartDone
  dsimp only
  split <;> simp

end Sys2Proof.Machine
end

section
/-! The reset of a port keeps the global block. -/

namespace Sys2Proof.Machine

@[simp] theorem loadCredits_globals (s : State) (p : Port) : globals (loadCredits s p) = globals s := by
  unfold loadCredits
  dsimp only
  split <;> simp

@[simp] theorem portUp_globals (s : State) (p : Port) : globals (portUp s p) = globals s := by
  simp [portUp]

@[simp] theorem endReset_globals (s : State) (p : Port) : globals (endReset s p) = globals s := by
  simp [endReset]

end Sys2Proof.Machine
end

section
/-! Starts return the global block to its reset values (R137, R447), but for what `keptCsr` names. -/

namespace Sys2Proof.Machine

/-- A key that a filter takes out reads as an unlisted one. -/
theorem smGet_filter_of_false {α : Type} {d : α} {p : Nat → Bool} {k : Nat} (h : p k = false) (m : SMap α) :
    smGet d (m.filter fun e => p e.1) k = d := by
  induction m with
  | nil => rfl
  | cons e m ih =>
    rw [List.filter_cons]
    split
    · next he => rw [smGet, if_neg (fun hk => by simp [hk, h] at he), ih]
    · exact ih

theorem csrGet_restartRegs (s : State) {keep cold : Bool} {a : Nat} (ha : a < 0x010000) (h : keptCsr keep cold a = false) :
    csrGet (restartRegs s keep cold) a = regReset a := by
  unfold restartRegs
  dsimp only
  rw [csrGet_of_globals (globals_foldl (by simp) _ _) ha]
  simp [csrGet, smGet_filter_of_false h]

@[simp] theorem wxDisable_globals (s : State) : globals (wxDisable s) = globals s := by
  simp [wxDisable]

theorem csrGet_restartState (s : State) {keep cold : Bool} (lost : Bool) (reason : Nat) {a : Nat} (ha : a < 0x010000)
    (h : keptCsr keep cold a = false) : csrGet (restartState s keep cold lost reason) a = regReset a := by
  unfold restartState
  extract_lets _ _ _ s₃ s₄
  have hdisable : globals s₄ = globals (restartRegs s₃ keep cold) := wxDisable_globals _
  clear_value s₄
  calc
    _ = csrGet s₄ a := csrGet_of_regs rfl
    _ = csrGet (restartRegs s₃ keep cold) a := csrGet_of_globals hdisable ha
    _ = regReset a := csrGet_restartRegs s₃ ha h

@[simp] theorem issueHeld_globals (s : State) (h : Held) : globals (issueHeld s h) = globals s := by
  cases h <;> simp [issueHeld]

@[simp] theorem decideSeries_globals (s : State) (kind check : Nat) (again : Bool) :
    globals (decideSeries s kind check again) = globals s := by
  simp [decideSeries]

@[simp] theorem reportSeal_globals (s : State) (check : Nat) : globals (reportSeal s check) = globals s := rfl
@[simp] theorem storeOne_globals (s : State) (a v : Nat) : globals (storeOne s a v) = globals s := rfl
@[simp] theorem lcErase_globals (s : State) : globals (lcErase s) = globals s := rfl
@[simp] theorem wipe_globals (s : State) : globals (wipe s) = globals s := rfl

/-- A cold start goes on from a restart that keeps DRAM contents or wipes them. -/
theorem globals_coldStart (s : State) (strap : Nat) :
    ∃ keep, globals (coldStart s strap) = globals (restartState s keep true true 6) :=
  ⟨!(decide (sealCheckOf s = 0) || decide (sealCheckOf s = 3) || wipeNext s || !s.start.keyOk), by simp [coldStart]⟩

theorem globals_logicRelease (s : State) (kind : Nat) :
    globals (logicRelease s kind) =
      globals (restartState (s.atLeast s.start.holdTil) true false (decide (kind = 1)) (if kind = 1 then 6 else 1)) := by
  simp [logicRelease]

/-- A power-up clears what no start keeps. -/
theorem csrGet_coldStart (s : State) (strap : Nat) {a : Nat} (ha : a < 0x010000) (h : ∀ keep, keptCsr keep true a = false) :
    csrGet (coldStart s strap) a = regReset a := by
  obtain ⟨keep, hstart⟩ := globals_coldStart s strap
  rw [csrGet_of_globals hstart ha, csrGet_restartState _ _ _ ha (h keep)]

theorem csrGet_logicRelease (s : State) (kind : Nat) {a : Nat} (ha : a < 0x010000) (h : keptCsr true false a = false) :
    csrGet (logicRelease s kind) a = regReset a := by
  rw [csrGet_of_globals (globals_logicRelease s kind) ha, csrGet_restartState _ _ _ ha h]

end Sys2Proof.Machine
end

section
/-! A write of GLOBAL.MEMCFG while no dual write is pending (R137, R334, R540, R541): the lock refuses it, or its masked bits are
stored. -/

namespace Sys2Proof.Machine

/-- The row of GLOBAL.MEMCFG in the register map. -/
def memcfgRow : RegRow :=
  { name := "GLOBAL.MEMCFG", base := 0x000020, reset := 2, w := 0x13, l := 0x13, sb := 0x3, tv := 0xF }

theorem regRow_memcfg : regRow 0x000020 = some memcfgRow := rfl

/-- With no dual write pending, none expires and none is interrupted. -/
theorem expireDual_of_none {s : State} (hd : s.regs.dual = none) (hk : s.regs.dualK = none) : expireDual s = s := by
  simp [expireDual, hd, hk]

theorem interruptDual_of_none {s : State} (path : Path) (a : Nat) (hd : s.regs.dual = none) (hk : s.regs.dualK = none) :
    interruptDual s path a = s := by
  simp [interruptDual, hd, hk]

/-- The owner's write at an aligned address is performed with its whole word. -/
theorem writeReg_of_owner {s : State} {path : Path} (hown : isOwner s path = true) {a v : Nat} (ha : a % 4 = 0)
    (hv : v < 2 ^ 32) (selfCheck : Bool) : writeReg s path a v selfCheck = performWord s path a v selfCheck := by
  have hlane : bitsOf (v * 2 ^ (8 * (a % 8))) (8 * (a % 8)) 32 = v := by
    rw [bitsOf, Nat.shiftRight_eq_div_pow, Nat.mul_div_cancel _ (Nat.two_pow_pos _), Nat.mod_eq_of_lt hv]
  simp [writeReg, cfgWrite, hown, ha, hlane]

theorem performWord_memcfg {s : State} (path : Path) (v : Nat) (selfCheck : Bool) (hd : s.regs.dual = none)
    (hk : s.regs.dualK = none) :
    performWord s path 0x000020 v selfCheck = writeGlobal (clearLatch s path) path memcfgRow 0x000020 v := by
  unfold performWord
  rw [expireDual_of_none hd hk]
  extract_lets t u
  have hu : u = t := interruptDual_of_none path _ hd hk
  -- No doorbell and no complement lies there, and the row has neither dual-write bits nor a pair: the word goes to its block.
  simp only [hu, regRow_memcfg]
  rfl

/-- A field of a word in which the bits of a mask have been replaced, where the mask covers the field. -/
theorem bitsOf_replace {old v m lo w : Nat} (hm : ∀ i < w, m.testBit (lo + i) = true) (hw : lo + w ≤ 32) :
    bitsOf ((without old m ||| (v &&& m)) % 2 ^ 32) lo w = bitsOf v lo w := by
  refine Nat.eq_of_testBit_eq fun i => ?_
  by_cases hi : i < w
  · have hword : lo + i < 32 := by omega
    have hones : Nat.testBit 0xFFFFFFFF (lo + i) = true := by
      rw [show 0xFFFFFFFF = 2 ^ 32 - 1 from rfl, Nat.testBit_two_pow_sub_one]
      exact decide_eq_true hword
    simp only [bitsOf, without, Nat.testBit_mod_two_pow, Nat.testBit_shiftRight, Nat.testBit_or, Nat.testBit_and,
      Nat.testBit_xor, hi, hword, hm i hi, hones, decide_true, Bool.true_and, Bool.xor_self, Bool.and_false, Bool.false_or,
      Bool.and_true]
  · simp [bitsOf, hi]

/-- Where hardware has changed no field, a write of MEMCFG replaces MAP_NEXT and the lock, and keeps the other bits. -/
theorem csrGet_storeWord_memcfg {s : State} (path : Path) (v : Nat) (hquiet : s.regs.hwField = []) :
    csrGet (storeWord s path memcfgRow 0x000020 v) 0x000020 = (without (csrGet s 0x000020) 0x13 ||| (v &&& 0x13)) % 2 ^ 32 := by
  have hlost : hwMask (keepCsr s) 0x000020 = 0 := by simp [hwMask, keepCsr, hquiet]
  have hmask : wMask (keepCsr s) memcfgRow = 0x13 := rfl
  have hcovered : without 0x13 0 = 0x13 := rfl
  unfold storeWord
  simp only [show memcfgRow.cnt = false from rfl, show isMaxReg 0x000020 = false from rfl, hmask, hlost, hcovered,
    Bool.false_eq_true, if_false, Nat.and_zero, if_true]
  exact csrGet_csrSet_same (keepCsr s) 0x000020 _ (by decide)

/-- While the lock is set a write is refused with an event; REG_ACCESS changes neither register nor map. -/
theorem writeGlobal_memcfg_locked {s : State} (path : Path) (v : Nat) (h : csrFld s 0x000020 4 1 = 1) :
    writeGlobal s path memcfgRow 0x000020 v = regAccess s 0x000020 path.val 4 :=
  (if_pos rfl).trans (if_pos h)

/-- While it is clear the write is stored and journalled. -/
theorem writeGlobal_memcfg_unlocked {s : State} (path : Path) (v : Nat) (h : csrFld s 0x000020 4 1 = 0) :
    globals (writeGlobal s path memcfgRow 0x000020 v) = globals (storeWord s path memcfgRow 0x000020 v) ∧
      (writeGlobal s path memcfgRow 0x000020 v).dram = s.dram := by
  have hclear : ¬ csrFld s 0x000020 4 1 = 1 := by omega
  have hdram : (storeWord s path memcfgRow 0x000020 v).dram = s.dram :=
    (storeWord_mv ..).dram.resolve_left (by decide)
  unfold writeGlobal journalReg
  rw [if_pos rfl, if_neg hclear]
  simp [hdram]

end Sys2Proof.Machine
end

section
/-! ARCH_LOCK, bit 4 of GLOBAL.MEMCFG (R137): writes obey it, starts clear it, Keeper and port resets leave it (O26). -/

namespace Sys2Proof.Machine

/-- MEMCFG at its reset value has the lock clear. -/
theorem archLock_of_reset {s : State} (h : csrGet s 0x000020 = regReset 0x000020) : csrFld s 0x000020 4 1 = 0 :=
  congrArg (bitsOf · 4 1) h

theorem archLock_of_globals {s t : State} (h : globals t = globals s) : csrFld t 0x000020 4 1 = csrFld s 0x000020 4 1 :=
  congrArg (bitsOf · 4 1) (csrGet_of_globals h (by decide))

/-- No start keeps MEMCFG. -/
theorem keptCsr_memcfg (keep cold : Bool) : keptCsr keep cold 0x000020 = false := by
  revert keep cold
  decide

/-- A command that may or may not take place keeps what both outcomes keep. -/
theorem Answers.whenDo {c : Instr} {s t : State} {b : Bool} {P : State → Prop} (h : exec c s = whenDo b s t) (hs : P s)
    (ht : P t) : Answers c s P := by
  cases b
  · exact ⟨s, h, hs⟩
  · exact ⟨t, h, ht⟩

theorem exec_regWrite_memcfg {s : State} {path : Path} (h : quietPath s path) (v : Word) :
    exec (.regWrite path 0x000020 v) s = .next (writeGlobal (clearLatch s path) path memcfgRow 0x000020 v.toNat) := by
  obtain ⟨hup, hown, hdual, hdualK, -⟩ := h
  rw [exec_regWrite hup, writeReg_of_owner hown rfl v.isLt]
  exact congrArg _ (performWord_memcfg path v.toNat true hdual hdualK)

theorem memcfg_write_locked {s : State} {path : Path} (hq : quietPath s path) (hlock : csrFld s 0x000020 4 1 = 1) (v : Word) :
    Answers (.regWrite path 0x000020 v) s fun t =>
      csrGet t 0x000020 = csrGet s 0x000020 ∧ t.dram.mapActive = s.dram.mapActive := by
  have hrefused := writeGlobal_memcfg_locked (s := clearLatch s path) path v.toNat hlock
  refine ⟨_, (exec_regWrite_memcfg hq v).trans (congrArg _ hrefused), ?_, ?_⟩
  · exact csrGet_of_globals (raiseLim_globals ..) (by decide)
  · exact congrArg DramSt.mapActive (raiseLim_dram ..)

theorem memcfg_write_unlocked {s : State} {path : Path} (hq : quietPath s path) (hlock : csrFld s 0x000020 4 1 = 0) (v : Word) :
    Answers (.regWrite path 0x000020 v) s fun t =>
      csrFld t 0x000020 0 2 = bitsOf v.toNat 0 2 ∧ csrFld t 0x000020 4 1 = bitsOf v.toNat 4 1 ∧
        t.dram.mapActive = s.dram.mapActive := by
  have ⟨_, _, _, _, hfields, _⟩ := hq
  obtain ⟨hglobals, hdram⟩ := writeGlobal_memcfg_unlocked (s := clearLatch s path) path v.toNat hlock
  have hword := (csrGet_of_globals hglobals (by decide)).trans (csrGet_storeWord_memcfg path v.toNat hfields)
  refine ⟨_, exec_regWrite_memcfg hq v, ?_, ?_, congrArg DramSt.mapActive hdram⟩
  · exact (congrArg (bitsOf · 0 2) hword).trans (bitsOf_replace (by decide) (by decide))
  · exact (congrArg (bitsOf · 4 1) hword).trans (bitsOf_replace (by decide) (by decide))

/-- Both kinds of logic reset clear the lock at their release. -/
theorem archLock_logicRelease (s : State) (kind : Nat) : csrFld (logicRelease s kind) 0x000020 4 1 = 0 :=
  archLock_of_reset (csrGet_logicRelease s kind (by decide) (keptCsr_memcfg ..))

theorem archLock_coldStart (s : State) (strap : Nat) : csrFld (coldStart s strap) 0x000020 4 1 = 0 :=
  archLock_of_reset (csrGet_coldStart s strap (by decide) (keptCsr_memcfg · _))

/-- Settles O26 (R137): a write of MEMCFG ends in an event or in the store of its masked bits; every start passes through
`restartRegs`, which keeps no register but those of `keptCsr`; a Keeper's restart and a port's reset write no global register. -/
theorem mapLockHoldsMapNext : Obligations.MapLockHoldsMapNext := by
  unfold Obligations.MapLockHoldsMapNext
  refine ⟨fun path v s hq hlock => memcfg_write_locked hq hlock v, fun path v s hq hlock => memcfg_write_unlocked hq hlock v,
    ?power, ?recovered, ?prst, ?hrst, ?watchdog, ?restart, ?reset, ?resetDone⟩
  case power => exact fun strap s haway => ⟨_, if_pos haway, archLock_coldStart ..⟩
  case recovered =>
    intro s hphase hcore hdrained hcause
    refine ⟨_, if_pos (by simp [hphase, hcore, hdrained, hcause]), ?_⟩
    exact (archLock_of_globals (raise_globals ..)).trans (archLock_coldStart ..)
  case prst =>
    intro s hphase
    have hexec : execLogicResetRelease s = .next (logicRelease (finishQuiesce s) 1) := by
      simp only [execLogicResetRelease, hphase]
    exact ⟨_, hexec, archLock_logicRelease ..⟩
  case hrst =>
    intro s hphase
    have hexec : execLogicResetRelease s = .next (logicRelease s 2) := by
      simp only [execLogicResetRelease, hphase]
    exact ⟨_, hexec, archLock_logicRelease ..⟩
  case watchdog => exact fun s => Answers.whenDo rfl rfl (archLock_of_globals (watchdog_globals s))
  case restart =>
    intro ok micros s
    show ∃ t, execKeeperRestartDone ok micros s = .next t ∧ _
    unfold execKeeperRestartDone
    split
    · exact ⟨_, rfl, archLock_of_globals (restartDone_globals ..)⟩
    · exact ⟨_, rfl, rfl⟩
  case reset => exact fun p s => Answers.whenDo rfl rfl (archLock_of_globals ((startReset_mv s p).globals rfl))
  case resetDone => exact fun p s => Answers.whenDo rfl rfl (archLock_of_globals (endReset_globals s p))

end Sys2Proof.Machine
end

section
/-! READY (R29, R30): what moves without the stack's state keeps it. The masks of the operations below are wider than what they
move, or the Keeper's part of that state moves; each is shown to keep READY. First the queues, the engines, epochs. -/

namespace Sys2Proof.Machine

/-- What moves without the stack's state (bit 17 of the mask) keeps READY. -/
theorem Moves.ready {m : Nat} {s t : State} (h : Moves m s t) (hm : m.testBit 17 = false) :
    t.stack.ready = s.stack.ready :=
  congrArg StackSt.ready (h.stack.resolve_left (by simp [hm]))

@[simp] theorem ready_ite {c : Prop} [Decidable c] (s t : State) :
    (if c then s else t).stack.ready = if c then s.stack.ready else t.stack.ready :=
  apply_ite (fun s : State => s.stack.ready) ..

@[simp] theorem ready_ite_snd {α : Type} {c : Prop} [Decidable c] (x y : α × State) :
    (if c then x else y).2.stack.ready = if c then x.2.stack.ready else y.2.stack.ready :=
  apply_ite (fun x : α × State => x.2.stack.ready) ..

/-- A fold keeps READY where each of its steps does. -/
@[simp] theorem ready_foldl {α : Type} {f : State → α → State} (h : ∀ s x, (f s x).stack.ready = s.stack.ready)
    (l : List α) (s : State) : (l.foldl f s).stack.ready = s.stack.ready := by
  induction l generalizing s with
  | nil => rfl
  | cons x l ih => rw [List.foldl_cons, ih, h]

@[simp] theorem ready_foldl_snd {α β : Type} {f : β × State → α → β × State}
    (h : ∀ p x, (f p x).2.stack.ready = p.2.stack.ready) (l : List α) (p : β × State) :
    (l.foldl f p).2.stack.ready = p.2.stack.ready := by
  induction l generalizing p with
  | nil => rfl
  | cons x l ih => rw [List.foldl_cons, ih, h]

/-! ### Queue entries settled, the engines' own requests -/

@[simp] theorem makeWay_ready (s : State) (unit : Nat) : (makeWay s unit).stack.ready = s.stack.ready := (makeWay_mv ..).ready rfl

@[simp] theorem freeEntry_ready (s : State) (n : Pc) (id : Nat) : (freeEntry s n id).stack.ready = s.stack.ready :=
  (freeEntry_mv ..).ready rfl

@[simp] theorem entryCycle_ready (s : State) (n : Pc) (e : QEnt) : (entryCycle s n e).stack.ready = s.stack.ready :=
  (entryCycle_mv ..).ready rfl

@[simp] theorem mergeFails_ready (s : State) (n : Pc) (e : QEnt) (st : Nat) :
    (mergeFails s n e st).stack.ready = s.stack.ready := (mergeFails_mv ..).ready rfl

@[simp] theorem mergeDo_ready (s : State) (n : Pc) (e : QEnt) : (mergeDo s n e).stack.ready = s.stack.ready :=
  (mergeDo_mv ..).ready rfl

@[simp] theorem mergeEntry_ready (s : State) (n : Pc) (e : QEnt) : (mergeEntry s n e).stack.ready = s.stack.ready := by
  simp [mergeEntry, (modEntry_mv ..).ready rfl, (capReached_mv ..).ready rfl, (makeRoom_mv ..).ready rfl]

@[simp] theorem mergeNow_ready (s : State) (n : Pc) (e : QEnt) : (mergeNow s n e).stack.ready = s.stack.ready := by
  simp [mergeNow]

@[simp] theorem settleEntry_ready (s : State) (n : Pc) (e : QEnt) : (settleEntry s n e).stack.ready = s.stack.ready := by
  unfold settleEntry
  dsimp only
  split
  case h_1 => simp [(scrubRead_mv ..).ready rfl, (hostRead_mv ..).ready rfl]
  case h_2 => simp [(finishWrite_mv ..).ready rfl]
  case h_3 => split <;> simp [(commitEntry_mv ..).ready rfl]
  case h_4 => simp

@[simp] theorem serveOut_ready (s : State) (n : Pc) (e : QEnt) : (serveOut s n e).stack.ready = s.stack.ready := by
  simp [serveOut]

@[simp] theorem serveTo_ready (fuel : Nat) (s : State) (n : Pc) (id : Nat) :
    (serveTo fuel s n id).stack.ready = s.stack.ready := by
  induction fuel generalizing s with
  | zero =>
    unfold serveTo
    split <;> simp
  | succ fuel ih =>
    unfold serveTo
    split
    · rfl
    dsimp only
    split
    · rfl
    split <;> simp [ih, (pick_mv ..).ready rfl]

@[simp] theorem intWait_ready (s : State) (n : Pc) : (intWait s n).stack.ready = s.stack.ready := by
  unfold intWait
  split
  · rfl
  · split <;> simp

@[simp] theorem ownRequest_ready (s : State) (e : QEnt) : (ownRequest s e).2.2.stack.ready = s.stack.ready := by
  simp [ownRequest, (turn_mv ..).ready rfl, (enqueue_mv ..).ready rfl, (noteWrite_mv ..).ready rfl]

@[simp] theorem writeNow_ready (s : State) (blk : Nat) (b : Block) (c : DWord) :
    (writeNow s blk b c).stack.ready = s.stack.ready := by
  simp [writeNow, (commitBlock_mv ..).ready rfl]

@[simp] theorem engineRead_ready (s : State) (blk : Nat) : (engineRead s blk).2.2.stack.ready = s.stack.ready := by
  simp [engineRead, (readBlock_mv ..).ready rfl]

@[simp] theorem readNow_ready (s : State) (blk finder : Nat) : (readNow s blk finder).2.2.stack.ready = s.stack.ready := by
  unfold readNow
  split
  · rfl
  · simp [(afterRead_mv ..).ready rfl]

@[simp] theorem engineWriteAs_ready (s : State) (blk : Nat) (b : Block) (poisoned : Bool) (tag : Option (Option Nat))
    (mirrored : Bool) : (engineWriteAs s blk b poisoned tag mirrored).2.stack.ready = s.stack.ready := by
  cases tag <;>
    simp [engineWriteAs, (freshClaim_mv ..).ready rfl, (poisonList_mv ..).ready rfl, (poisonClear_mv ..).ready rfl,
      (tagWrite_mv ..).ready rfl, (mirrorWrite_mv ..).ready rfl]

@[simp] theorem stackWrite_ready (s : State) (blk : Nat) (b : Block) : (stackWrite s blk b).stack.ready = s.stack.ready := by
  simp [stackWrite, (poisonClear_mv ..).ready rfl]

@[simp] theorem wxRequest_ready (s : State) (blk : Nat) : (wxRequest s blk).stack.ready = s.stack.ready :=
  (wxRequest_mv ..).ready rfl

@[simp] theorem ringWrite_ready (s : State) (k : Fin 4) (e : EvRec) (rest : List EvRec) :
    (ringWrite s k e rest).stack.ready = s.stack.ready := by
  simp [ringWrite]

@[simp] theorem drainQueue_ready (s : State) (n : Pc) : (drainQueue s n).stack.ready = s.stack.ready := by
  refine ready_foldl (fun s e => ?_) ..
  split <;> simp

@[simp] theorem drainQueues_ready (s : State) : (drainQueues s).stack.ready = s.stack.ready := by
  simp [drainQueues]

/-! ### Epochs -/

@[simp] theorem exportBits_ready (s : State) (bits dest : Nat) : (exportBits s bits dest).stack.ready = s.stack.ready := by
  simp [exportBits, engineWrite]

@[simp] theorem runAction_ready (s : State) (d : Deferred) (late : Bool) :
    (runAction s d late).stack.ready = s.stack.ready := by
  unfold runAction
  dsimp only
  rw [raiseX_stack]
  split <;> simp [(formBarriers_mv ..).ready rfl]

@[simp] theorem fire_ready (s : State) (i : Fin 16) (epoch : Nat) : (fire s i epoch).stack.ready = s.stack.ready := by
  simp [fire]

@[simp] theorem fireAll_ready (s : State) (atClose : Bool) (epoch : Nat) :
    (fireAll s atClose epoch).stack.ready = s.stack.ready := by
  simp [fireAll, (armedStale_mv ..).ready rfl]

@[simp] theorem closeEpoch_ready (s : State) : (closeEpoch s).stack.ready = s.stack.ready := by
  simp [closeEpoch]

@[simp] theorem passBoundary_ready (s : State) (m : Member) (v : Nat) : (passBoundary s m v).stack.ready = s.stack.ready := by
  simp [passBoundary, (openEpoch_mv ..).ready rfl]

@[simp] theorem doMark_ready (s : State) (v : Nat) : (doMark s v).2.stack.ready = s.stack.ready := by
  simp [doMark, (fwdRefused_mv ..).ready rfl, (dropMember_mv ..).ready rfl]

end Sys2Proof.Machine
end

section
/-! READY (R29, R30): mirroring and the Chrosy link keep it. -/

namespace Sys2Proof.Machine

@[simp] theorem copyBlock_ready (s : State) (blk : Nat) : (copyBlock s blk).2.stack.ready = s.stack.ready := by
  simp [copyBlock]

@[simp] theorem copyReads_ready (s : State) (unit : Nat) : (copyReads s unit).2.stack.ready = s.stack.ready := by
  simp [copyReads]

@[simp] theorem copyUnit_ready (s : State) (w : Fin 64) (unit : Nat) : (copyUnit s w unit).2.stack.ready = s.stack.ready := by
  simp [copyUnit, (copySends_mv ..).ready rfl]

@[simp] theorem setJob_ready (s : State) (j : Option ResyncJob) : (setJob s j).stack.ready = s.stack.ready :=
  (setJob_mv ..).ready rfl

@[simp] theorem fillCopy_ready (fuel : Nat) (s : State) : (fillCopy fuel s).stack.ready = s.stack.ready := by
  induction fuel generalizing s with
  | zero => rfl
  | succ fuel ih =>
    unfold fillCopy
    split
    · rfl
    split
    · rfl
    dsimp only
    split
    · simp [ih]
    split
    · simp [ih]
    split
    · simp [ih]
    split
    · split <;> simp [ih]
    · rfl

@[simp] theorem resyncStep_ready (s : State) : (resyncStep s).stack.ready = s.stack.ready := by
  unfold resyncStep
  extract_lets t
  have ht : t.stack.ready = s.stack.ready := by simp [t]
  split
  · exact ht
  · simp [ht, (copyAcked_mv ..).ready rfl, (wxEnd_mv ..).ready rfl]

@[simp] theorem gotNack_ready (s : State) (h : BitVec 256) : (gotNack s h).stack.ready = s.stack.ready := by
  unfold gotNack
  split
  · simp [(diverge_mv ..).ready rfl]
  split
  · split
    · exact (pullAnswered_mv ..).ready rfl
    · rfl
  · rfl

@[simp] theorem supply_ready (s : State) (blk : Nat) : (supply s blk).2.stack.ready = s.stack.ready := by
  simp [supply]

@[simp] theorem pushQ_ready (s : State) (vc : Fin 2) (m : Msg) : (pushQ s vc m).stack.ready = s.stack.ready :=
  (pushQ_mv ..).ready rfl

@[simp] theorem answerPull_ready (s : State) (h : BitVec 256) : (answerPull s h).stack.ready = s.stack.ready := by
  unfold answerPull
  dsimp only
  split
  · simp
  · rw [ready_foldl]
    · simp
    · intro s x
      split <;> simp

@[simp] theorem pullWrite_ready (s : State) (j : PullJob) (formed blk : Nat) (b : Block) :
    (pullWrite s j formed blk b).2.stack.ready = s.stack.ready := by
  simp [pullWrite]

@[simp] theorem pullData_ready (s : State) (j : PullJob) (q : PullReq) (h : BitVec 256) (blocks : List Block) :
    (pullData s j q h blocks).stack.ready = s.stack.ready := by
  simp [pullData, (pullAnswered_mv ..).ready rfl]

@[simp] theorem sendQueued_ready (s : State) (vc : Fin 2) : (sendQueued s vc).stack.ready = s.stack.ready := by
  unfold sendQueued
  split
  · rfl
  · simp [(pushTx_mv ..).ready rfl]

@[simp] theorem sendMsg_ready (s : State) (vc : Fin 2) : (sendMsg s vc).stack.ready = s.stack.ready := by
  simp [sendMsg, (pushTx_mv ..).ready rfl]

@[simp] theorem winStop_ready (s : State) (w : Nat) : (winStop s w).stack.ready = s.stack.ready := by
  simp [winStop, (modWin_mv ..).ready rfl, (wxSyncLost_mv ..).ready rfl, (releaseWaits_mv ..).ready rfl]

@[simp] theorem mirrorCfg_ready (s : State) (a v : Nat) : (mirrorCfg s a v).stack.ready = s.stack.ready :=
  (mirrorCfg_mv ..).ready rfl

@[simp] theorem winAct_ready (s : State) (w v : Nat) : (winAct s w v).stack.ready = s.stack.ready := by
  simp [winAct, (winStart_mv ..).ready rfl]

@[simp] theorem winWaiting_ready (s : State) : (winWaiting s).stack.ready = s.stack.ready := by
  simp [winWaiting]

@[simp] theorem mirrorLoss_ready (s : State) (reason : Nat) : (mirrorLoss s reason).stack.ready = s.stack.ready := by
  unfold mirrorLoss
  dsimp only
  split <;> simp [(divergeLoss_mv ..).ready rfl, (endPull_mv ..).ready rfl]

/-! ### The Chrosy link -/

@[simp] theorem modChr_ready (s : State) (f : ChrosySt → ChrosySt) : (modChr s f).stack.ready = s.stack.ready :=
  (modChr_mv ..).ready rfl

@[simp] theorem loseLink_ready (s : State) (reason : Nat) : (loseLink s reason).stack.ready = s.stack.ready := by
  simp [loseLink, (enterSeek_mv ..).ready rfl, (dropMember_mv ..).ready rfl]

@[simp] theorem stopLink_ready (s : State) (reason : Nat) : (stopLink s reason).stack.ready = s.stack.ready := by
  simp [stopLink, (enterSeek_mv ..).ready rfl, (sendDown_mv ..).ready rfl]

@[simp] theorem degradeStart_ready (s : State) (pair : Nat) : (degradeStart s pair).stack.ready = s.stack.ready := by
  simp [degradeStart]

@[simp] theorem degradeEnd_ready (s : State) : (degradeEnd s).stack.ready = s.stack.ready := by
  unfold degradeEnd
  split
  · split
    · dsimp only
      split <;> simp [(degradedEvent_mv ..).ready rfl, (backUp_mv ..).ready rfl]
    · rfl
  · rfl

@[simp] theorem blockReceived_ready (s : State) (cs : List ChrChar) (fs : List (BitVec 288)) :
    (blockReceived s cs fs).stack.ready = s.stack.ready := by
  unfold blockReceived
  dsimp only
  split <;> simp [(linkRetry_mv ..).ready rfl, (rxInvalid_mv ..).ready rfl, (rxFrames_mv ..).ready rfl]

@[simp] theorem chrLaneFailed_ready (s : State) (l : Fin 9) (cause : Nat) :
    (chrLaneFailed s l cause).stack.ready = s.stack.ready := by
  simp [chrLaneFailed]

end Sys2Proof.Machine
end

section
/-! READY (R29, R30): the Keeper's stop, return and boot, firmware commands and the Watch keep it. -/

namespace Sys2Proof.Machine

@[simp] theorem keeperStop_ready (s : State) (kind : Nat) : (keeperStop s kind).stack.ready = s.stack.ready := by
  simp [keeperStop, (dwHardware_mv ..).ready rfl, (transitAbort_mv ..).ready rfl, (resetEntry_mv ..).ready rfl]

@[simp] theorem watchdog_ready (s : State) : (watchdog s).stack.ready = s.stack.ready := by
  simp [watchdog, (bootWrite_mv ..).ready rfl, (fallback_mv ..).ready rfl]

@[simp] theorem activated_ready (s : State) (src c : Nat) : (activated s src c).stack.ready = s.stack.ready :=
  (activated_mv ..).ready rfl

@[simp] theorem activationFails_ready (s : State) (src c : Nat) : (activationFails s src c).stack.ready = s.stack.ready :=
  (activationFails_mv ..).ready rfl

@[simp] theorem setMResult_ready (s : State) (code : Nat) : (setMResult s code).stack.ready = s.stack.ready :=
  (setMResult_mv ..).ready rfl

@[simp] theorem activate_ready (s : State) (src c : Nat) (desc : Option (Nat × Nat)) (selfCheck : Bool) :
    (activate s src c desc selfCheck).2.stack.ready = s.stack.ready := by
  simp [activate, (swapSlot_mv ..).ready rfl]

@[simp] theorem runMcmd_ready (s : State) (v : Nat) (selfCheck : Bool) : (runMcmd s v selfCheck).stack.ready = s.stack.ready := by
  have hact := activate_ready s 2 (bitsOf v 2 2) none selfCheck
  unfold runMcmd
  dsimp only
  split
  · simp [(stageStep_mv ..).ready rfl]
  split
  · split <;> next hrun => simpa [hrun] using hact
  · simp [(commitReq_mv ..).ready rfl]

@[simp] theorem runWaiting_ready (s : State) : (runWaiting s).stack.ready = s.stack.ready := by
  unfold runWaiting
  split <;> simp

@[simp] theorem convertSettings_ready (s : State) : (convertSettings s).stack.ready = s.stack.ready :=
  (convertSettings_mv ..).ready rfl

@[simp] theorem keeperBack_ready (s : State) (kind micros : Nat) : (keeperBack s kind micros).stack.ready = s.stack.ready := by
  unfold keeperBack
  dsimp only
  rw [runWaiting_ready, winWaiting_ready]
  split
  · simp
  · split <;> simp [(fwEnd_mv ..).ready rfl]

@[simp] theorem restartDone_ready (s : State) (kind : Nat) (selfCheck : Bool) (micros : Nat) :
    (restartDone s kind selfCheck micros).stack.ready = s.stack.ready := by
  unfold restartDone
  split <;> simp [(keeperOther_mv ..).ready rfl]

@[simp] theorem haltStart_ready (s : State) (cause : Nat) : (haltStart s cause).stack.ready = s.stack.ready :=
  (haltStart_mv ..).ready rfl

@[simp] theorem keeperRuns_ready (s : State) : (keeperRuns s).stack.ready = s.stack.ready := by
  simp [keeperRuns, (endLease_mv ..).ready rfl, (startQuick_mv ..).ready rfl]

@[simp] theorem keeperBoot_ready (s : State) (selfCheck : Bool) : (keeperBoot s selfCheck).stack.ready = s.stack.ready := by
  simp [keeperBoot, (bootCheck_mv ..).ready rfl, (keeperOther_mv ..).ready rfl, (chrosyBoot_mv ..).ready rfl]

/-! ### The Watch -/

@[simp] theorem shutdown_ready (s : State) : (shutdown s).stack.ready = s.stack.ready := by
  simp [shutdown, (transitAbort_mv ..).ready rfl, (answerAll_mv ..).ready rfl, (selfRefreshAll_mv ..).ready rfl,
    (flushLagoon_mv ..).ready rfl, (abandon_mv ..).ready rfl]

@[simp] theorem dieShutdown_ready (s : State) (d : Nat) (t : Int) (chan : Nat) :
    (dieShutdown s d t chan).stack.ready = s.stack.ready := by
  simp [dieShutdown]

@[simp] theorem setDie_ready (s : State) (d : Fin 18) (f : DieSt → DieSt) : (setDie s d f).stack.ready = s.stack.ready :=
  (setDie_mv ..).ready rfl

@[simp] theorem checkAllBroken_ready (s : State) (d : Fin 18) : (checkAllBroken s d).stack.ready = s.stack.ready := by
  simp [checkAllBroken]

@[simp] theorem compareDie_ready (s : State) (d : Fin 18) (chan : Nat) : (compareDie s d chan).stack.ready = s.stack.ready := by
  unfold compareDie
  split
  · rfl
  · simp [(settleBuckets_mv ..).ready rfl]

@[simp] theorem inferRound_ready (s : State) : (inferRound s).stack.ready = s.stack.ready := by
  unfold inferRound
  split <;> simp

@[simp] theorem roundEnd_ready (s : State) (xing : List XingCheck) : (roundEnd s xing).stack.ready = s.stack.ready := by
  simp [roundEnd, (shadowVote_mv ..).ready rfl, (crossingCheck_mv ..).ready rfl]

@[simp] theorem watchRead_ready (s : State) (c : Fin 128) (raw value : Nat) (xing : List XingCheck) (fuseRun : Bool) :
    (watchRead s c raw value xing fuseRun).stack.ready = s.stack.ready := by
  simp [watchRead, (stepTime_mv ..).ready rfl, (railEvent_mv ..).ready rfl, (transitAbort_mv ..).ready rfl,
    (refreshRate_mv ..).ready rfl, (critical_mv ..).ready rfl, (resumeService_mv ..).ready rfl]

end Sys2Proof.Machine
end

section
/-! READY (R29, R30): accesses to registers keep it. -/

namespace Sys2Proof.Machine

@[simp] theorem journalReg_ready (s : State) (path a v k : Nat) : (journalReg s path a v k).stack.ready = s.stack.ready :=
  (journalReg_mv ..).ready rfl

@[simp] theorem storeWord_ready (s : State) (path : Path) (r : RegRow) (a v : Nat) :
    (storeWord s path r a v).stack.ready = s.stack.ready := (storeWord_mv ..).ready rfl

@[simp] theorem writeWinCtl_ready (s : State) (w v : Nat) : (writeWinCtl s w v).1.stack.ready = s.stack.ready := by
  unfold writeWinCtl
  split
  · simp
  · split <;> simp

@[simp] theorem writeChrosyCtl_ready (s : State) (v : Nat) : (writeChrosyCtl s v).stack.ready = s.stack.ready := by
  unfold writeChrosyCtl
  dsimp only
  split
  · split <;> simp [(startLink_mv ..).ready rfl]
  · simp

@[simp] theorem writeChrosy_ready (s : State) (path : Path) (r : RegRow) (a v : Nat) :
    (writeChrosy s path r a v).stack.ready = s.stack.ready := by
  simp [writeChrosy, (chrLatch_mv ..).ready rfl, (writeMode_mv ..).ready rfl, (storeSetting_mv ..).ready rfl]

@[simp] theorem writeMcmd_ready (s : State) (v : Nat) (selfCheck : Bool) :
    (writeMcmd s v selfCheck).stack.ready = s.stack.ready := by
  simp [writeMcmd]

@[simp] theorem writeFw_ready (s : State) (path : Path) (r : RegRow) (a v : Nat) (selfCheck : Bool) :
    (writeFw s path r a v selfCheck).stack.ready = s.stack.ready := by
  simp [writeFw]

/-- A word that is applied goes to the block its address names. -/
@[simp] theorem applyWord_ready (s : State) (path : Path) (a v : Nat) (selfCheck : Bool) :
    (applyWord s path a v selfCheck).stack.ready = s.stack.ready := by
  unfold applyWord
  split
  · rfl
  split
  · exact (writeGlobal_mv ..).ready rfl
  · exact (writeFuse_mv ..).ready rfl
  · exact (writePort_mv ..).ready rfl
  · exact (writePort_mv ..).ready rfl
  · exact (writeGuard_mv ..).ready rfl
  · exact (writeLagoon_mv ..).ready rfl
  · exact (writeInteg_mv ..).ready rfl
  · exact (writeThermal_mv ..).ready rfl
  · exact (writeWetex_mv ..).ready rfl
  · exact (writeEvents_mv ..).ready rfl
  · exact writeChrosy_ready ..
  · exact (writePower_mv ..).ready rfl
  · exact writeFw_ready ..
  · exact (writeTransit_mv ..).ready rfl
  · exact (writeSextant_mv ..).ready rfl
  · exact storeWord_ready ..

@[simp] theorem writeKeeperReset_ready (s : State) (v : Nat) : (writeKeeperReset s v).stack.ready = s.stack.ready := by
  simp [writeKeeperReset]

@[simp] theorem acceptDual_ready (s : State) (path : Path) (r : RegRow) (a v : Nat) :
    (acceptDual s path r a v).stack.ready = s.stack.ready := by
  simp [acceptDual, (storeOne_mv ..).ready rfl, (fuseRequest_mv ..).ready rfl, (initDone_mv ..).ready rfl,
    (releaseLease_mv ..).ready rfl]

@[simp] theorem regDw_ready (s : State) (a path reason : Nat) : (regDw s a path reason).stack.ready = s.stack.ready :=
  (regDw_mv ..).ready rfl

@[simp] theorem setDual_ready (s : State) (path : Path) (d : Option Dual) : (setDual s path d).stack.ready = s.stack.ready :=
  (setDual_mv ..).ready rfl

@[simp] theorem complement_ready (s : State) (path : Path) (a v : Nat) : (complement s path a v).stack.ready = s.stack.ready := by
  unfold complement
  split
  · split
    · dsimp only
      split
      · split <;> simp
      · simp
    · simp
  · simp

/-! ### What an access to a word begins with, and the halves of a pair -/

@[simp] theorem expireDual_ready (s : State) : (expireDual s).stack.ready = s.stack.ready := (expireDual_mv ..).ready rfl
@[simp] theorem clearLatch_ready (s : State) (path : Path) : (clearLatch s path).stack.ready = s.stack.ready :=
  (clearLatch_mv ..).ready rfl
@[simp] theorem interruptDual_ready (s : State) (path : Path) (a : Nat) : (interruptDual s path a).stack.ready = s.stack.ready :=
  (interruptDual_mv ..).ready rfl
@[simp] theorem setHeld_ready (s : State) (path : Path) (h : Option (Nat × Word)) :
    (setHeld s path h).stack.ready = s.stack.ready := (setHeld_mv ..).ready rfl
@[simp] theorem applyPair_ready (s : State) (path : Path) (a v : Nat) : (applyPair s path a v).stack.ready = s.stack.ready :=
  (applyPair_mv ..).ready rfl

@[simp] theorem performWord_ready (s : State) (path : Path) (a v : Nat) (selfCheck : Bool) :
    (performWord s path a v selfCheck).stack.ready = s.stack.ready := by
  unfold performWord
  extract_lets u t
  have hu : u.stack.ready = s.stack.ready := by simp [u]
  have ht : t.stack.ready = s.stack.ready := by simp [t, hu]
  clear_value u t
  split
  · simp [hu, (ringDoorbell_mv ..).ready rfl]
  split
  · simp [ht]
  split
  · exact ht
  split
  · exact ht
  split
  · simp [ht, (dualValue_mv ..).ready rfl]
  split
  · simp [ht]
  split
  · split
    · split <;> simp [ht]
    · simp [ht]
  · simp [ht]

@[simp] theorem performDouble_ready (s : State) (path : Path) (a v : Nat) (selfCheck : Bool) :
    (performDouble s path a v selfCheck).stack.ready = s.stack.ready := by
  simp [performDouble]

@[simp] theorem cfgWrite_ready (s : State) (path : Path) (a size wdata : Nat) (selfCheck : Bool) :
    (cfgWrite s path a size wdata selfCheck).2.stack.ready = s.stack.ready := by
  simp [cfgWrite, (regAccess_mv ..).ready rfl]

@[simp] theorem writeReg_ready (s : State) (path : Path) (a v : Nat) (selfCheck : Bool) :
    (writeReg s path a v selfCheck).stack.ready = s.stack.ready :=
  cfgWrite_ready ..

@[simp] theorem writeDual_ready (s : State) (path : Path) (a v c : Nat) :
    (writeDual s path a v c).stack.ready = s.stack.ready := by
  simp [writeDual]

@[simp] theorem writePair_ready (s : State) (path : Path) (a v : Nat) : (writePair s path a v).stack.ready = s.stack.ready :=
  cfgWrite_ready ..

@[simp] theorem mgmtWriteTx_ready (s : State) (l : List Nat) : (mgmtWriteTx s l).stack.ready = s.stack.ready := by
  simp [mgmtWriteTx, mgmtWords, (mgmtPoint_mv ..).ready rfl, (mgmtFails_mv ..).ready rfl]

end Sys2Proof.Machine
end

section
/-! READY (R29, R30) through losses of power, resets and starts: they end it, or keep it where nothing is served. -/

namespace Sys2Proof.Machine

@[simp] theorem enterLowWater_ready (s : State) (lost : Bool) (lwstat : Nat) :
    (enterLowWater s lost lwstat).stack.ready = false := rfl

@[simp] theorem restartState_ready (s : State) (keep cold lost : Bool) (reason : Nat) :
    (restartState s keep cold lost reason).stack.ready = false := rfl

@[simp] theorem warmReset_ready (s : State) (k : Nat) : (warmReset s k).stack.ready = false := rfl

@[simp] theorem hardReset_ready (s : State) : (hardReset s).stack.ready = false := rfl

@[simp] theorem drain_ready (s : State) (cause k : Nat) : (drain s cause k).stack.ready = false := by
  cases k
  · rfl
  · simp [drain]

@[simp] theorem startFails_ready (s : State) : (startFails s).stack.ready = false := by
  simp [startFails]

@[simp] theorem decideSeries_ready (s : State) (kind check : Nat) (again : Bool) :
    (decideSeries s kind check again).stack.ready = s.stack.ready := (decideSeries_mv ..).ready rfl

theorem coldStart_ready (s : State) (strap : Nat) : (coldStart s strap).stack.ready = false := by
  simp [coldStart, (wipe_mv ..).ready rfl, (lcErase_mv ..).ready rfl, (storeOne_mv ..).ready rfl, (reportSeal_mv ..).ready rfl]

theorem logicRelease_ready (s : State) (kind : Nat) : (logicRelease s kind).stack.ready = false := by
  simp [logicRelease, (reportSeal_mv ..).ready rfl]

@[simp] theorem restartStart_ready (s : State) (which : Nat) : (restartStart s which).stack.ready = s.stack.ready := by
  simp [restartStart, (restartRegs_mv ..).ready rfl]

theorem detect_ready {s : State} (cause k : Nat) (hs : s.stack.ready = false) : (detect s cause k).stack.ready = false := by
  unfold detect
  split <;> simp [hs]

theorem coreLoss_ready {s : State} (hs : s.stack.ready = false) : (coreLoss s).stack.ready = false := by
  unfold coreLoss
  dsimp only
  split <;> simp [hs]

end Sys2Proof.Machine
end

section
/-! START_RELEASE alone sets READY (R441, R445): where it is clear, every other command leaves it clear. -/

namespace Sys2Proof.Machine

/-- A next state is without READY; a stop says nothing. -/
def Unready : Out → Prop
  | .next t => t.stack.ready = false
  | _ => True

theorem Unready.next {t : State} (ht : t.stack.ready = false) : Unready (.next t) := ht

theorem Unready.whenDo {b : Bool} {s t : State} (hs : s.stack.ready = false) (ht : t.stack.ready = false) :
    Unready (whenDo b s t) := by
  cases b
  · exact .next hs
  · exact .next ht

/-- A command whose condition does not hold changes nothing. -/
theorem Unready.idle {b : Bool} {s t : State} (hs : s.stack.ready = false) (hb : b = false) : Unready (Machine.whenDo b s t) := by
  subst hb
  exact .next hs

/-- A command that moves without the stack's state (bit 17 of its mask) does not set READY. -/
theorem Unready.of_mv {m : Nat} {s : State} {o : Out} (hs : s.stack.ready = false) (h : MovesO m s o)
    (hm : m.testBit 17 = false) : Unready o := by
  cases o with
  | next t => exact (Moves.ready h hm).trans hs
  | fault _ => trivial
  | refused _ => trivial

@[simp] theorem takeNow_ready (s : State) (vc : Fin 2) (h : BitVec 256) (bs : List Block) :
    (takeNow s vc h bs).stack.ready = s.stack.ready := (takeNow_mv ..).ready rfl

@[simp] theorem popApply_ready (s : State) (vc : Fin 2) : (popApply s vc).stack.ready = s.stack.ready := (popApply_mv ..).ready rfl

@[simp] theorem sendNack_ready (s : State) (h : BitVec 256) (code : Nat) : (sendNack s h code).stack.ready = s.stack.ready :=
  (sendNack_mv ..).ready rfl

section
variable {s : State} (hs : s.stack.ready = false)
include hs

/-! ### The engine's descriptors wait for service (R321, R407) -/

theorem engineRuns_unready : engineRuns s = false := by simp [engineRuns, hs]

theorem wxReady_unready (d : WxDesc) (opc : Nat) : wxReady s d opc = false := by simp [wxReady, engineRuns_unready hs]

theorem Unready.wxRun {opc : Nat} {r : Fin 64} {idx : Nat} {f : WxDesc → State} : Unready (wxRun opc r idx s f) := by
  unfold Machine.wxRun
  split
  · exact .next hs
  · exact .idle hs (wxReady_unready hs ..)

theorem execDescFetch_unready (r : Fin 64) : Unready (execDescFetch r s) :=
  .idle hs (by simp [engineRuns_unready hs])

theorem execCompletionRecord_unready (r : Fin 64) (i : Nat) : Unready (execCompletionRecord r i s) := by
  unfold execCompletionRecord
  split
  · exact .next hs
  split
  · exact .next hs
  · exact .idle hs (by simp [engineRuns_unready hs])

theorem execMirrorResync_unready (r : Fin 64) (idx : Nat) : Unready (execMirrorResync r idx s) := by
  unfold execMirrorResync
  split
  · exact .idle hs (by simp [engineRuns_unready hs])
  · exact .wxRun hs

theorem execFwActivate_unready (r : Fin 64) (idx : Nat) (selfCheck : Bool) : Unready (execFwActivate r idx selfCheck s) := by
  unfold execFwActivate
  split
  · exact .next hs
  · exact .idle hs (by simp [wxReady_unready hs])

/-! ### Staging and boundaries wait for service (R98, R275) -/

theorem execStagingRelease_unready (p : Port) : Unready (execStagingRelease p s) :=
  .idle hs (by simp [releases, linkLive, hs])

theorem boundaryFree_unready (v : Nat) : boundaryFree s v = false := by simp [boundaryFree, hs]

theorem execBoundaryRelease_unready (m : Member) : Unready (execBoundaryRelease m s) := by
  unfold execBoundaryRelease
  split
  · split
    · exact .idle hs (boundaryFree_unready hs _)
    · exact .next hs
  split
  · split
    · exact .idle hs (boundaryFree_unready hs _)
    · exact .next hs
  · split
    · exact .idle hs (boundaryFree_unready hs _)
    · exact .next hs

/-! ### Queues, epochs, events -/

theorem execWrmMerge_unready (n : Pc) (id : Nat) : Unready (execWrmMerge n id s) := by
  unfold execWrmMerge
  split
  · exact .next hs
  · exact .whenDo hs (by simp [(lagCount_mv ..).ready rfl, hs])

theorem execDeferredTriggerAction_unready : Unready (execDeferredTriggerAction s) := by
  unfold execDeferredTriggerAction
  split
  · exact .next hs
  · exact .whenDo hs ((runAction_ready ..).trans hs)

theorem execEventRecordWrite_unready (k : Fin 4) : Unready (execEventRecordWrite k s) := by
  unfold execEventRecordWrite
  dsimp only
  split
  · exact .next hs
  · exact .whenDo hs ((ringWrite_ready ..).trans hs)

/-! ### Messages of the partner and the Chrosy link -/

theorem execMarkMessage_unready (h : BitVec 256) : Unready (execMarkMessage h s) :=
  .whenDo hs (by simp [(pushApply_mv ..).ready rfl, hs])

theorem execMirrorAck_unready (h : BitVec 256) : Unready (execMirrorAck h s) :=
  .whenDo hs (by simp [(ackEntry_mv ..).ready rfl, hs])

theorem execPullReq_unready (h : BitVec 256) : Unready (execPullReq h s) := by
  refine .whenDo hs ?_
  dsimp only
  split <;> simp [hs]

theorem execPullData_unready (h : BitVec 256) (bs : List Block) : Unready (execPullData h bs s) := by
  refine .whenDo hs ?_
  dsimp only
  split
  · simp [hs]
  · split <;> simp [hs]

theorem execApplyWrite_unready (vc : Fin 2) : Unready (execApplyWrite vc s) := by
  unfold execApplyWrite
  split
  · exact .next hs
  dsimp only
  split
  · exact .next hs
  split
  · exact .next (by simp [hs])
  split
  · exact .whenDo hs (by simp [(answerBarrier_mv ..).ready rfl, hs])
  split
  · exact .whenDo hs (by simp [(applyMsg_mv ..).ready rfl, hs])
  · exact .next (by simp [hs])

theorem execBacklogRead_unready : Unready (execBacklogRead s) := by
  unfold execBacklogRead
  split
  · exact .next hs
  · exact .whenDo hs (by simp [(ownReads_mv ..).ready rfl, hs])

theorem execSyncTimeout_unready (w : Fin 64) : Unready (execSyncTimeout w s) := by
  unfold execSyncTimeout
  split
  · exact .next hs
  · exact .next (by simp [(diverge_mv ..).ready rfl, hs])

theorem execChrosyAligned_unready (pairs : BitVec 4) : Unready (execChrosyAligned pairs s) := by
  unfold execChrosyAligned
  dsimp only
  split
  · exact .whenDo hs (by simp [hs])
  · exact .whenDo hs (by simp [hs])
  · exact .next hs

theorem execDegradeRepeat_unready : Unready (execDegradeRepeat s) := by
  unfold execDegradeRepeat
  split
  · exact .next hs
  · exact .whenDo hs (by simp [hs])

/-! ### The Keeper, the Watch, resets and supplies -/

theorem execKeeperRestartDone_unready (ok : Bool) (micros : Nat) : Unready (execKeeperRestartDone ok micros s) := by
  unfold execKeeperRestartDone
  split
  · exact .next ((restartDone_ready ..).trans hs)
  · exact .next hs

theorem execWatchReading_unready (raw : Nat) (r : WatchValue) : Unready (execWatchReading raw r s) :=
  .whenDo hs (by simp [(afterRun_mv ..).ready rfl, hs])

theorem execPfailRecovered_unready : Unready (execPfailRecovered s) := by
  unfold execPfailRecovered
  extract_lets _
  exact .whenDo hs ((congrArg StackSt.ready (raise_stack ..)).trans (coldStart_ready ..))

theorem execPrstAssert_unready (steps : Fin 8) : Unready (execPrstAssert steps s) := by
  unfold execPrstAssert
  split
  · exact .next (warmReset_ready ..)
  · exact .next ((restartStart_ready ..).trans hs)
  · exact .next ((restartStart_ready ..).trans hs)
  · exact .next hs

theorem execHrstAssert_unready : Unready (execHrstAssert s) := by
  unfold execHrstAssert
  split
  · exact .next (hardReset_ready ..)
  · exact .next (hardReset_ready ..)
  · exact .next ((restartStart_ready ..).trans hs)
  · exact .next ((restartStart_ready ..).trans hs)
  · exact .next hs

theorem execLogicResetRelease_unready : Unready (execLogicResetRelease s) := by
  unfold execLogicResetRelease
  split
  · exact .next (logicRelease_ready ..)
  · exact .next (logicRelease_ready ..)
  · exact .next hs

/-- No command but START_RELEASE sets READY (R445): by its mask, by its condition, or because its operation keeps READY. -/
theorem exec_unready (c : Instr) (hc : ∀ msec, c ≠ .startRelease msec) : Unready (exec c s) := by
  cases c with
  | rd p slot => exact .of_mv hs (execRd_mv p slot s) rfl
  | wr p slot flits => exact .of_mv hs (execWr_mv p slot flits s) rfl
  | wrm p slot flits => exact .of_mv hs (execWrm_mv p slot flits s) rfl
  | cfgRd p slot => exact .of_mv hs (execCfgRd_mv p slot s) rfl
  | cfgWr p slot => exact .of_mv hs (execCfgWr_mv p slot s) rfl
  | mark p slot => exact .of_mv hs (execMark_mv p slot s) rfl
  | fence p slot => exact .of_mv hs (execFence_mv p slot s) rfl
  | nop p slot => exact .of_mv hs (execNop_mv p slot s) rfl
  | unlistedOpcode p slot => exact .of_mv hs (execUnlistedOpcode_mv p slot s) rfl
  | flitLinkCheck p flit check => exact .of_mv hs (execFlitLinkCheck_mv p flit check s) rfl
  | resendStart p => exact .of_mv hs (execResendStart_mv p s) rfl
  | replayStorm p => exact .of_mv hs (execReplayStorm_mv p s) rfl
  | downstreamLaneFailed p lane => exact .of_mv hs (execDownstreamLaneFailed_mv p lane s) rfl
  | hckFault p => exact .of_mv hs (execHckFault_mv p s) rfl
  | remap p arg => exact .of_mv hs (execRemap_mv p arg s) rfl
  | remapDone p arg => exact .of_mv hs (execRemapDone_mv p arg s) rfl
  | portReset p => exact .of_mv hs (execPortReset_mv p s) rfl
  | portResetDone p => exact .of_mv hs (execPortResetDone_mv p s) rfl
  | portFail p arg => exact .of_mv hs (execPortFail_mv p arg s) rfl
  | pctlFrameInvalid p cmd arg crc => exact .of_mv hs (execPctlFrameInvalid_mv p cmd arg crc s) rfl
  | pctlAnswerTimeout p => exact .of_mv hs (execPctlAnswerTimeout_mv p s) rfl
  | trnAck p arg => exact .of_mv hs (execTrnAck_mv p arg s) rfl
  | phaseDone p arg => exact .of_mv hs (execPhaseDone_mv p arg s) rfl
  | laneBad p arg => exact .of_mv hs (execLaneBad_mv p arg s) rfl
  | trnFail p arg => exact .of_mv hs (execTrnFail_mv p arg s) rfl
  | stagingRelease p => exact execStagingRelease_unready hs p
  | boundaryRelease m => exact execBoundaryRelease_unready hs m
  | epochClose => exact .whenDo hs ((closeEpoch_ready _).trans hs)
  | epochStall m => exact .of_mv hs (execEpochStall_mv m s) rfl
  | upstreamResponseSend p => exact .of_mv hs (execUpstreamResponseSend_mv p s) rfl
  | sigSend p => exact .of_mv hs (execSigSend_mv p s) rfl
  | fullTraining r sweeps => exact .of_mv hs (execFullTraining_mv r sweeps s) rfl
  | fastTraining r sweeps => exact .of_mv hs (execFastTraining_mv r sweeps s) rfl
  | pcTrainingLost n lockLost => exact .of_mv hs (execPcTrainingLost_mv n lockLost s) rfl
  | pcRetrainDone => exact .whenDo hs (by simp [(retrainDone_mv ..).ready rfl, hs])
  | calPeriodEnd l m => exact .of_mv hs (execCalPeriodEnd_mv l m s) rfl
  | calStep l => exact .of_mv hs (execCalStep_mv l s) rfl
  | overrideStep entry => exact .of_mv hs (execOverrideStep_mv entry s) rfl
  | calRecordRewrite rec => exact .of_mv hs (execCalRecordRewrite_mv rec s) rfl
  | sextantQselWrite => exact .whenDo hs ((writeReg_ready ..).trans hs)
  | sextantQualRead path => exact .of_mv hs (execSextantQualRead_mv path s) rfl
  | schedulerPick n => exact .of_mv hs (execSchedulerPick_mv n s) rfl
  | readDataDecoded n id upsets => exact .of_mv hs (execReadDataDecoded_mv n id upsets s) rfl
  | dramWriteDone n id => exact .of_mv hs (execDramWriteDone_mv n id s) rfl
  | derivedWriteEnqueue n => exact .of_mv hs (execDerivedWriteEnqueue_mv n s) rfl
  | urgentLapseEnd n => exact .of_mv hs (execUrgentLapseEnd_mv n s) rfl
  | wrmMerge n id => exact execWrmMerge_unready hs n id
  | captureOffer n bank row => exact .of_mv hs (execCaptureOffer_mv n bank row s) rfl
  | captureCopyDone n bank row => exact .of_mv hs (execCaptureCopyDone_mv n bank row s) rfl
  | lineWritebackTimeout n line => exact .of_mv hs (execLineWritebackTimeout_mv n line s) rfl
  | lineWritebackDone n line => exact .of_mv hs (execLineWritebackDone_mv n line s) rfl
  | wayFailureDetected way cause tagLost lostBlocks =>
    exact .of_mv hs (execWayFailureDetected_mv way cause tagLost lostBlocks s) rfl
  | wayRecoveryDone way lostBlocks => exact .of_mv hs (execWayRecoveryDone_mv way lostBlocks s) rfl
  | refreshSlot n => exact .of_mv hs (execRefreshSlot_mv n s) rfl
  | refreshStart n bank => exact .of_mv hs (execRefreshStart_mv n bank s) rfl
  | nbrRefreshTrigger n bank row => exact .of_mv hs (execNbrRefreshTrigger_mv n bank row s) rfl
  | targetedRefreshDone n bank => exact .of_mv hs (execTargetedRefreshDone_mv n bank s) rfl
  | trackerWindowEnd => exact .of_mv hs (execTrackerWindowEnd_mv s) rfl
  | throttleStepUp req => exact .of_mv hs (execThrottleStepUp_mv req s) rfl
  | tidefillDone micros => exact .of_mv hs (execTidefillDone_mv micros s) rfl
  | freshClaimFill page => exact .of_mv hs (execFreshClaimFill_mv page s) rfl
  | scrubInitdone => exact .whenDo hs ((writeDual_ready ..).trans hs)
  | scrubUnitIssue n => exact .of_mv hs (execScrubUnitIssue_mv n s) rfl
  | scrubLapEnd => exact .of_mv hs (execScrubLapEnd_mv s) rfl
  | softRepairStart n bank row => exact .of_mv hs (execSoftRepairStart_mv n bank row s) rfl
  | softRepairDone n => exact .of_mv hs (execSoftRepairDone_mv n s) rfl
  | tsvLaneFailed n lane => exact .of_mv hs (execTsvLaneFailed_mv n lane s) rfl
  | tsvSwitchStart n => exact .of_mv hs (execTsvSwitchStart_mv n s) rfl
  | tsvSwitchDone n => exact .of_mv hs (execTsvSwitchDone_mv n s) rfl
  | repairFuseauth => exact .whenDo hs ((writeDual_ready ..).trans hs)
  | epochPortsetWrite => exact .whenDo hs ((writeReg_ready ..).trans hs)
  | portsetApply => exact .of_mv hs (execPortsetApply_mv s) rfl
  | epochInitWrite => exact .whenDo hs ((writePair_ready ..).trans hs)
  | trigArm => exact .whenDo hs ((writeReg_ready ..).trans hs)
  | deferredTriggerAction => exact execDeferredTriggerAction_unready hs
  | sqTailDoorbell => exact .whenDo hs ((writeReg_ready ..).trans hs)
  | cqHeadDoorbell => exact .whenDo hs ((writeReg_ready ..).trans hs)
  | ringEnable => exact .whenDo hs ((writeReg_ready ..).trans hs)
  | ringDisable => exact .whenDo hs ((writeReg_ready ..).trans hs)
  | descFetch r => exact execDescFetch_unready hs r
  | descDispatch => exact .of_mv hs (execDescDispatch_mv s) rfl
  | completionRecord r sqIdx => exact execCompletionRecord_unready hs r sqIdx
  | tidemarkClear r sqIdx => exact .of_mv hs (execTidemarkClear_mv r sqIdx s) rfl
  | mirrorResync r sqIdx => exact execMirrorResync_unready hs r sqIdx
  | mirrorPull r sqIdx => exact .of_mv hs (execMirrorPull_mv r sqIdx s) rfl
  | fwActivate r sqIdx selfCheck => exact execFwActivate_unready hs r sqIdx selfCheck
  | fwCommit r sqIdx => exact .of_mv hs (execFwCommit_mv r sqIdx s) rfl
  | bistRun r sqIdx cclkCount => exact .of_mv hs (execBistRun_mv r sqIdx cclkCount s) rfl
  | repairSoft r sqIdx => exact .of_mv hs (execRepairSoft_mv r sqIdx s) rfl
  | repairFuse r sqIdx verified => exact .of_mv hs (execRepairFuse_mv r sqIdx verified s) rfl
  | descFence r sqIdx => exact .of_mv hs (execDescFence_mv r sqIdx s) rfl
  | journalUnitFlush => exact .of_mv hs (execJournalUnitFlush_mv s) rfl
  | almanacRselWrite => exact .whenDo hs ((writePair_ready ..).trans hs)
  | almanacLookupDone => exact .of_mv hs (execAlmanacLookupDone_mv s) rfl
  | almanacRdataRead path => exact .of_mv hs (execAlmanacRdataRead_mv path s) rfl
  | eventRecordWrite k => exact execEventRecordWrite_unready hs k
  | evtRingEnable => exact .whenDo hs ((writeReg_ready ..).trans hs)
  | evtRingDisable => exact .whenDo hs ((writeReg_ready ..).trans hs)
  | evtRingHeadWrite => exact .whenDo hs ((writeReg_ready ..).trans hs)
  | evtFatalAckWrite => exact .whenDo hs ((writePair_ready ..).trans hs)
  | evtMfifoRead path => exact .of_mv hs (execEvtMfifoRead_mv path s) rfl
  | smbusAlertResponse => exact .of_mv hs (execSmbusAlertResponse_mv s) rfl
  | chrosyBlockStart => exact .of_mv hs (execChrosyBlockStart_mv s) rfl
  | chrosyBlockReceived => exact .whenDo hs ((blockReceived_ready ..).trans hs)
  | chrosyAck fsn => exact .of_mv hs (execChrosyAck_mv fsn s) rfl
  | chrosyNak fsn => exact .of_mv hs (execChrosyNak_mv fsn s) rfl
  | chrosyCredit vc n => exact .of_mv hs (execChrosyCredit_mv vc n s) rfl
  | heartbeat data => exact .of_mv hs (execHeartbeat_mv data s) rfl
  | alignNext width => exact .of_mv hs (execAlignNext_mv width s) rfl
  | alignOk width => exact .of_mv hs (execAlignOk_mv width s) rfl
  | linkUp => exact .of_mv hs (execLinkUp_mv s) rfl
  | degrade pair => exact .of_mv hs (execDegrade_mv pair s) rfl
  | linkDown => exact .whenDo hs ((loseLink_ready ..).trans hs)
  | chrosyAligned goodPairs => exact execChrosyAligned_unready hs goodPairs
  | seekTimeout goodPairs => exact .of_mv hs (execSeekTimeout_mv goodPairs s) rfl
  | chrosyLaneFailed => exact .whenDo hs ((chrLaneFailed_ready ..).trans hs)
  | degradeRepeat => exact execDegradeRepeat_unready hs
  | chrosyNoBlockTimeout => exact .whenDo hs (by simp [hs])
  | chrosyStallTimeout => exact .whenDo hs (by simp [hs])
  | chrosyAdaptTick readings => exact .of_mv hs (execChrosyAdaptTick_mv readings s) rfl
  | chrosyEnable => exact .whenDo hs ((writeReg_ready ..).trans hs)
  | chrosyDisable => exact .whenDo hs ((writeReg_ready ..).trans hs)
  | chrosyQselWrite => exact .whenDo hs ((writeReg_ready ..).trans hs)
  | chrosyQualRead path => exact .of_mv hs (execChrosyQualRead_mv path s) rfl
  | syncWrite hdr blocks => exact .of_mv hs (execSyncWrite_mv hdr blocks s) rfl
  | asyncWrite hdr blocks => exact .of_mv hs (execAsyncWrite_mv hdr blocks s) rfl
  | markMessage hdr => exact execMarkMessage_unready hs hdr
  | barrier hdr => exact .of_mv hs (execBarrier_mv hdr s) rfl
  | mirrorAck hdr => exact execMirrorAck_unready hs hdr
  | nack => exact .whenDo hs (by simp [hs])
  | barrierAck hdr => exact .of_mv hs (execBarrierAck_mv hdr s) rfl
  | pullReq hdr => exact execPullReq_unready hs hdr
  | pullData hdr blocks => exact execPullData_unready hs hdr blocks
  | resyncData hdr blocks => exact .of_mv hs (execResyncData_mv hdr blocks s) rfl
  | reservedMessage hdr => exact .of_mv hs (execReservedMessage_mv hdr s) rfl
  | applyWrite vc => exact execApplyWrite_unready hs vc
  | mirrorMessageSend => exact .whenDo hs ((sendMsg_ready ..).trans hs)
  | backlogRead => exact execBacklogRead_unready hs
  | syncTimeout w => exact execSyncTimeout_unready hs w
  | windowSetAsync => exact .whenDo hs ((writeReg_ready ..).trans hs)
  | windowSetSync => exact .whenDo hs ((writeReg_ready ..).trans hs)
  | windowSetOff => exact .whenDo hs ((writeReg_ready ..).trans hs)
  | lowPowerEntry => exact .of_mv hs (execLowPowerEntry_mv s) rfl
  | lowPowerEntryDone => exact .of_mv hs (execLowPowerEntryDone_mv s) rfl
  | wake cause => exact .of_mv hs (execWake_mv cause s) rfl
  | wakeDone => exact .of_mv hs (execWakeDone_mv s) rfl
  | pfailDetect => exact .next (detect_ready _ _ hs)
  | droopDetect => exact .whenDo hs (detect_ready _ _ hs)
  | lanternRailFault vddD vpp => exact .of_mv hs (execLanternRailFault_mv vddD vpp s) rfl
  | pfailRecovered => exact execPfailRecovered_unready hs
  | powerGood => exact .whenDo hs (coldStart_ready ..)
  | fuseSenseDone drift => exact .of_mv hs (execFuseSenseDone_mv drift s) rfl
  | keeperBootDone => exact .whenDo hs ((keeperBoot_ready ..).trans hs)
  | startRelease msec => exact (hc msec rfl).elim
  | prstAssert steps => exact execPrstAssert_unready hs steps
  | hrstAssert => exact execHrstAssert_unready hs
  | logicResetRelease => exact execLogicResetRelease_unready hs
  | pfailDetectArm => exact .of_mv hs (execPfailDetectArm_mv s) rfl
  | keeperResetRequest => exact .whenDo hs ((writeDual_ready ..).trans hs)
  | wipeNextWrite => exact .whenDo hs ((writeDual_ready ..).trans hs)
  | keeperWatchdogExpiry => exact .whenDo hs ((watchdog_ready _).trans hs)
  | keeperRestartDone selfCheck micros => exact execKeeperRestartDone_unready hs selfCheck micros
  | watchReading raw value => exact execWatchReading_unready hs raw value
  | thermalResumeArm => exact .whenDo hs ((writeDual_ready ..).trans hs)
  | transitCclkWindow count => exact .of_mv hs (execTransitCclkWindow_mv count s) rfl
  | transitRunDone missing signature expected fails =>
    exact .of_mv hs (execTransitRunDone_mv missing signature expected fails s) rfl
  | transitAbort => exact .whenDo hs ((writeReg_ready ..).trans hs)
  | bypass code => exact .of_mv hs (execBypass_mv code s) rfl
  | idcode => exact .of_mv hs (execIdcode_mv s) rfl
  | samplePreload bumps => exact .of_mv hs (execSamplePreload_mv bumps s) rfl
  | extest => exact .of_mv hs (execExtest_mv s) rfl
  | wrapSel => exact .of_mv hs (execWrapSel_mv s) rfl
  | fuseWrite => exact .whenDo hs ((writeDual_ready ..).trans hs)
  | fuseWriteCrc => exact .whenDo hs ((writeDual_ready ..).trans hs)
  | fuseLock => exact .whenDo hs ((writeDual_ready ..).trans hs)
  | lcAdvance => exact .whenDo hs ((writeDual_ready ..).trans hs)
  | fuseDirect => exact .whenDo hs ((writeDual_ready ..).trans hs)
  | fuseOpStart => exact .of_mv hs (execFuseOpStart_mv s) rfl
  | fuseOpDone weak pulses => exact .of_mv hs (execFuseOpDone_mv weak pulses s) rfl
  | fuseResense drift => exact .of_mv hs (execFuseResense_mv drift s) rfl
  | fuseRdselWrite => exact .whenDo hs ((writeReg_ready ..).trans hs)
  | mgmtStage => exact .whenDo hs ((writeReg_ready ..).trans hs)
  | mgmtActivate => exact .whenDo hs ((writeReg_ready ..).trans hs)
  | mgmtCommit => exact .whenDo hs ((writeReg_ready ..).trans hs)
  | fwupRelease => exact .whenDo hs ((writeDual_ready ..).trans hs)
  | leaseTimeout => exact .of_mv hs (execLeaseTimeout_mv s) rfl
  | cleanBoot => exact .of_mv hs (execCleanBoot_mv s) rfl
  | settingsStore => exact .of_mv hs (execSettingsStore_mv s) rfl
  | rollbackFuseRetry ok => exact .of_mv hs (execRollbackFuseRetry_mv ok s) rfl
  | regWrite => exact .whenDo hs ((writeReg_ready ..).trans hs)
  | dwWindowExpiry => exact .of_mv hs (execDwWindowExpiry_mv s) rfl
  | cfgownerWrite => exact .whenDo hs ((writeDual_ready ..).trans hs)
  | mgmtSetPointer bytes => exact .of_mv hs (execMgmtSetPointer_mv bytes s) rfl
  | mgmtWrite => exact .whenDo hs (by simp [(mgmtNack_mv ..).ready rfl, hs])
  | mgmtRead bytes => exact .of_mv hs (execMgmtRead_mv bytes s) rfl
  | smbusTimeout => exact .of_mv hs (execSmbusTimeout_mv s) rfl
  | refclkLoss code => exact .of_mv hs (execRefclkLoss_mv code s) rfl
  | vddCoreLoss => exact .next (coreLoss_ready hs)
  | vlanLoss => exact .of_mv hs (execVlanLoss_mv s) rfl
  -- What is left runs a descriptor: COPY to PC_ONLINE, FW_STAGE and SEAL.
  | _ => exact .wxRun hs

end

end Sys2Proof.Machine
end

section
/-! The seal (R427, R445): READY comes with it EMPTY, a loss of power leaves it as it stands, power good after it wipes (O50). -/

namespace Sys2Proof.Machine

/-- What moves without bit 20 of its mask keeps the power state, the seal in it. -/
theorem Moves.power_eq {m : Nat} {s t : State} (h : Moves m s t) (hm : m.testBit 20 = false) : t.power = s.power :=
  h.power.resolve_left (by simp [hm])

/-- The CCLK that sets READY writes the seal EMPTY. -/
theorem setReady_seal (s : State) (msec : Nat) : (setReady s msec).power.lwSeal = {} := by
  simp [setReady, apply_ite State.power, (startLink_mv ..).power_eq rfl, (scrubRelease_mv ..).power_eq rfl,
    (jtagBypass_mv ..).power_eq rfl]

/-- START_RELEASE halts the start or sets READY; it is idle where a step is still to come (R441, R445). -/
theorem execStartRelease_seal {s t : State} {msec : Nat} (hs : s.stack.ready = false)
    (h : execStartRelease msec s = .next t) (ht : t.stack.ready = true) : t.power.lwSeal.state = 0 := by
  unfold execStartRelease whenDo at h
  split at h
  · split at h
    · cases h
      simp [hs] at ht
    · cases h
      exact congrArg Seal.state (setReady_seal ..)
  · cases h
    simp [hs] at ht

/-- Whatever command sets READY leaves the seal EMPTY. -/
theorem seal_empty_of_ready {c : Instr} {s t : State} (hs : s.stack.ready = false) (h : exec c s = .next t)
    (ht : t.stack.ready = true) : t.power.lwSeal.state = 0 := by
  by_cases hc : ∃ msec, c = .startRelease msec
  · obtain ⟨msec, rfl⟩ := hc
    exact execStartRelease_seal hs h ht
  · have hun := exec_unready hs c fun msec hm => hc ⟨msec, hm⟩
    rw [h] at hun
    exact absurd ht (by simp [show t.stack.ready = false from hun])

/-- An EMPTY seal is found as no seal, whether or not the Lantern has held. -/
theorem sealCheckOf_of_empty {s : State} (h : s.power.lwSeal.state = 0) : sealCheckOf s = 0 := by
  simp [sealCheckOf, h]

/-- A cold start that finds no seal wipes, then decides the series. -/
theorem coldStart_of_no_seal {s : State} (h : sealCheckOf s = 0) (strap : Nat) :
    ∃ u kind check, coldStart s strap = decideSeries (wipe u) kind check true :=
  ⟨_, _, _, if_pos (by simp [h])⟩

theorem decideSeries_dram (s : State) (kind check : Nat) (again : Bool) : (decideSeries s kind check again).dram = s.dram :=
  (decideSeries_mv ..).dram.resolve_left (by decide)

/-- The series value, its RESET entry and the held records leave WIPED as it is. -/
theorem decideSeries_wiped (s : State) (kind check : Nat) (again : Bool) :
    (decideSeries s kind check again).start.wiped = s.start.wiped := by
  unfold decideSeries
  extract_lets q _ t
  have hreset : Moves 496 t (resetEntry t kind check q.dropped) := (Moves.refl _ _).step (resetEntry_mv ..) rfl
  have hrecords := hreset.foldl q.buf issueHeld fun u x hu => hu.step (issueHeld_mv u x) rfl
  calc
    _ = t.start.wiped := congrArg StartSt.wiped (hrecords.start.resolve_left (by decide))
    _ = s.start.wiped := rfl

/-- Settles O50 (R445): START_RELEASE alone sets READY, and it writes the seal EMPTY in the same CCLK; the loss of the core supply
touches no seal; an EMPTY seal is none at power good (R427), so the cold start wipes. -/
theorem sealIsEmptyFromReadyOn : Obligations.SealIsEmptyFromReadyOn := by
  unfold Obligations.SealIsEmptyFromReadyOn
  refine ⟨fun c s t => seal_empty_of_ready, ?loss, ?good⟩
  case loss =>
    intro s hphase hempty
    have hloss : coreLoss s =
        enterLowWater { s with start := { s.start with hrstLost := 0 }, dram := { s.dram with claims := [] } } true
          s.power.lwstat := by
      simp [coreLoss, hphase]
    exact ⟨_, congrArg Host.Outcome.next hloss, hempty, rfl, rfl⟩
  case good =>
    intro strap s hphase hlost hempty
    obtain ⟨u, kind, check, hstart⟩ := coldStart_of_no_seal (sealCheckOf_of_empty hempty) strap.toNat
    have hexec : exec (.powerGood strap) s = .next (coldStart s strap.toNat) := if_pos (by simp [powerAway, hphase, hlost])
    refine ⟨_, hexec.trans (congrArg _ hstart), decideSeries_wiped .., ?_, ?_⟩
    · exact congrArg DramSt.mem (decideSeries_dram ..)
    · exact congrArg DramSt.written (decideSeries_dram ..)

end Sys2Proof.Machine
end

section
/-! Every command (O1 to O5, O59, O60): it answers a next state, takes no other command off the queue, keeps memory canonical and
never turns the clock back; and which of the lists of commands said to keep a part of the state are right. -/

namespace Sys2Proof.Machine

/-- Settles O1: the front command's meaning is run on the state without it. -/
theorem stepRunsTheFrontCommand : Obligations.StepRunsTheFrontCommand := by
  unfold Obligations.StepRunsTheFrontCommand
  intro c rest s
  rfl

/-- Settles O2: memory is empty after reset, and the empty table is canonical. -/
theorem resetMemoryIsCanonical : Obligations.ResetMemoryIsCanonical := by
  unfold Obligations.ResetMemoryIsCanonical
  exact ⟨rfl, rfl⟩

/-! ### Every command answers -/

/-- The outcome is a next state. -/
def Answered : Out → Prop
  | .next _ => True
  | _ => False

theorem Answered.exists {o : Out} (h : Answered o) : ∃ t, o = .next t := by
  cases o with
  | next t => exact ⟨t, rfl⟩
  | fault r => exact h.elim
  | refused r => exact h.elim

@[simp] theorem answered_next (t : State) : Answered (.next t) := trivial

@[simp] theorem answered_whenDo (b : Bool) (s t : State) : Answered (whenDo b s t) := by
  cases b <;> trivial

@[simp] theorem answered_wxRun (opc : Nat) (r : Fin 64) (idx : Nat) (s : State) (f : WxDesc → State) :
    Answered (wxRun opc r idx s f) := by
  unfold wxRun
  split <;> simp

/-- Every meaning of a command ends in `next`: at once, through `whenDo`, or by the branches of its own case split. -/
theorem exec_answered (c : Instr) (s : State) : Answered (exec c s) := by
  cases c
  case copy | fill | crc64 | compare | zero | scrubRange | poisonClear | epochAdvance | tidemarkExport | tidemarkClear
    | mirrorPull | journalRead | fwStage | fwCommit | bistRun | repairSoft | repairFuse | pcOffline | pcOnline
    | descFence => exact answered_wxRun ..
  case pfailDetect | vddCoreLoss | vlanLoss => exact answered_next _
  case resendStart => simp only [exec, execResendStart]; (repeat' split) <;> simp
  case downstreamLaneFailed => simp only [exec, execDownstreamLaneFailed]; (repeat' split) <;> simp
  case pctlAnswerTimeout => simp only [exec, execPctlAnswerTimeout]; (repeat' split) <;> simp
  case trnAck => simp only [exec, execTrnAck]; (repeat' split) <;> simp
  case phaseDone => simp only [exec, execPhaseDone]; (repeat' split) <;> simp
  case laneBad => simp only [exec, execLaneBad]; (repeat' split) <;> simp
  case trnFail => simp only [exec, execTrnFail]; (repeat' split) <;> simp
  case boundaryRelease => simp only [exec, execBoundaryRelease]; (repeat' split) <;> simp
  case epochStall => simp only [exec, execEpochStall]; (repeat' split) <;> simp
  case upstreamResponseSend => simp only [exec, execUpstreamResponseSend]; (repeat' split) <;> simp
  case sigSend => simp only [exec, execSigSend]; (repeat' split) <;> simp
  case calPeriodEnd => simp only [exec, execCalPeriodEnd]; (repeat' split) <;> simp
  case calStep => simp only [exec, execCalStep]; (repeat' split) <;> simp
  case overrideStep => simp only [exec, execOverrideStep]; (repeat' split) <;> simp
  case readDataDecoded => simp only [exec, execReadDataDecoded]; (repeat' split) <;> simp
  case dramWriteDone => simp only [exec, execDramWriteDone]; (repeat' split) <;> simp
  case derivedWriteEnqueue => simp only [exec, execDerivedWriteEnqueue]; (repeat' split) <;> simp
  case wrmMerge => simp only [exec, execWrmMerge]; (repeat' split) <;> simp
  case captureOffer => simp only [exec, execCaptureOffer]; (repeat' split) <;> simp
  case lineWritebackTimeout => simp only [exec, execLineWritebackTimeout]; (repeat' split) <;> simp
  case lineWritebackDone => simp only [exec, execLineWritebackDone]; (repeat' split) <;> simp
  case targetedRefreshDone => simp only [exec, execTargetedRefreshDone]; (repeat' split) <;> simp
  case throttleStepUp => simp only [exec, execThrottleStepUp]; (repeat' split) <;> simp
  case freshClaimFill => simp only [exec, execFreshClaimFill]; (repeat' split) <;> simp
  case softRepairDone => simp only [exec, execSoftRepairDone]; (repeat' split) <;> simp
  case tsvLaneFailed => simp only [exec, execTsvLaneFailed]; (repeat' split) <;> simp
  case tsvSwitchStart => simp only [exec, execTsvSwitchStart]; (repeat' split) <;> simp
  case tsvSwitchDone => simp only [exec, execTsvSwitchDone]; (repeat' split) <;> simp
  case portsetApply => simp only [exec, execPortsetApply]; (repeat' split) <;> simp
  case deferredTriggerAction => simp only [exec, execDeferredTriggerAction]; (repeat' split) <;> simp
  case descDispatch => simp only [exec, execDescDispatch]; (repeat' split) <;> simp
  case completionRecord => simp only [exec, execCompletionRecord]; (repeat' split) <;> simp
  case mirrorResync => simp only [exec, execMirrorResync]; (repeat' split) <;> simp
  case fwActivate => simp only [exec, execFwActivate]; (repeat' split) <;> simp
  case journalUnitFlush => simp only [exec, execJournalUnitFlush]; (repeat' split) <;> simp
  case eventRecordWrite => simp only [exec, execEventRecordWrite]; (repeat' split) <;> simp
  case alignOk => simp only [exec, execAlignOk]; (repeat' split) <;> simp
  case chrosyAligned => simp only [exec, execChrosyAligned]; (repeat' split) <;> simp
  case degradeRepeat => simp only [exec, execDegradeRepeat]; (repeat' split) <;> simp
  case applyWrite => simp only [exec, execApplyWrite]; (repeat' split) <;> simp
  case backlogRead => simp only [exec, execBacklogRead]; (repeat' split) <;> simp
  case syncTimeout => simp only [exec, execSyncTimeout]; (repeat' split) <;> simp
  case lowPowerEntryDone => simp only [exec, execLowPowerEntryDone]; (repeat' split) <;> simp
  case prstAssert => simp only [exec, execPrstAssert]; (repeat' split) <;> simp
  case hrstAssert => simp only [exec, execHrstAssert]; (repeat' split) <;> simp
  case logicResetRelease => simp only [exec, execLogicResetRelease]; (repeat' split) <;> simp
  case pfailDetectArm => simp only [exec, execPfailDetectArm]; (repeat' split) <;> simp
  case keeperRestartDone => simp only [exec, execKeeperRestartDone]; (repeat' split) <;> simp
  case fuseOpStart => simp only [exec, execFuseOpStart]; (repeat' split) <;> simp
  case fuseOpDone => simp only [exec, execFuseOpDone]; (repeat' split) <;> simp
  case dwWindowExpiry => simp only [exec, execDwWindowExpiry]; (repeat' split) <;> simp
  any_goals exact answered_whenDo ..
  -- SEAL, whose constructor's name is a keyword, is the goal left.
  exact answered_wxRun ..

/-- The next state of a command. -/
def nextOf (c : Instr) (s : State) : State :=
  match exec c s with
  | .next t => t
  | _ => s

theorem exec_nextOf (c : Instr) (s : State) : exec c s = .next (nextOf c s) := by
  obtain ⟨t, ht⟩ := (exec_answered c s).exists
  unfold nextOf
  rw [ht]

/-- Settles O5: no command ends in a fault or a refusal. -/
theorem everyCommandAnswers : Obligations.EveryCommandAnswers := by
  unfold Obligations.EveryCommandAnswers
  intro c s
  exact ⟨_, exec_nextOf c s⟩

/-! ### What every command leaves -/

/-- Every command moves the state within some mask; what all moves have in common holds of it. -/
theorem exec_movesO (c : Instr) (s : State) : ∃ m, MovesO m s (exec c s) := by
  cases c with
  | rd => exact ⟨_, execRd_mv ..⟩
  | wr => exact ⟨_, execWr_mv ..⟩
  | wrm => exact ⟨_, execWrm_mv ..⟩
  | cfgRd => exact ⟨_, execCfgRd_mv ..⟩
  | cfgWr => exact ⟨_, execCfgWr_mv ..⟩
  | mark => exact ⟨_, execMark_mv ..⟩
  | fence => exact ⟨_, execFence_mv ..⟩
  | nop => exact ⟨_, execNop_mv ..⟩
  | unlistedOpcode => exact ⟨_, execUnlistedOpcode_mv ..⟩
  | flitLinkCheck => exact ⟨_, execFlitLinkCheck_mv ..⟩
  | resendStart => exact ⟨_, execResendStart_mv ..⟩
  | replayStorm => exact ⟨_, execReplayStorm_mv ..⟩
  | downstreamLaneFailed => exact ⟨_, execDownstreamLaneFailed_mv ..⟩
  | hckFault => exact ⟨_, execHckFault_mv ..⟩
  | remap => exact ⟨_, execRemap_mv ..⟩
  | remapDone => exact ⟨_, execRemapDone_mv ..⟩
  | portReset => exact ⟨_, execPortReset_mv ..⟩
  | portResetDone => exact ⟨_, execPortResetDone_mv ..⟩
  | portFail => exact ⟨_, execPortFail_mv ..⟩
  | pctlFrameInvalid => exact ⟨_, execPctlFrameInvalid_mv ..⟩
  | pctlAnswerTimeout => exact ⟨_, execPctlAnswerTimeout_mv ..⟩
  | trnAck p arg => exact ⟨_, execTrnAck_mv p arg s⟩
  | phaseDone => exact ⟨_, execPhaseDone_mv ..⟩
  | laneBad => exact ⟨_, execLaneBad_mv ..⟩
  | trnFail => exact ⟨_, execTrnFail_mv ..⟩
  | stagingRelease => exact ⟨_, execStagingRelease_mv ..⟩
  | boundaryRelease => exact ⟨_, execBoundaryRelease_mv ..⟩
  | epochClose => exact ⟨_, execEpochClose_mv ..⟩
  | epochStall => exact ⟨_, execEpochStall_mv ..⟩
  | upstreamResponseSend => exact ⟨_, execUpstreamResponseSend_mv ..⟩
  | sigSend => exact ⟨_, execSigSend_mv ..⟩
  | fullTraining => exact ⟨_, execFullTraining_mv ..⟩
  | fastTraining => exact ⟨_, execFastTraining_mv ..⟩
  | pcTrainingLost => exact ⟨_, execPcTrainingLost_mv ..⟩
  | pcRetrainDone => exact ⟨_, execPcRetrainDone_mv ..⟩
  | calPeriodEnd => exact ⟨_, execCalPeriodEnd_mv ..⟩
  | calStep => exact ⟨_, execCalStep_mv ..⟩
  | overrideStep => exact ⟨_, execOverrideStep_mv ..⟩
  | calRecordRewrite => exact ⟨_, execCalRecordRewrite_mv ..⟩
  | sextantQselWrite => exact ⟨_, execSextantQselWrite_mv ..⟩
  | sextantQualRead => exact ⟨_, execSextantQualRead_mv ..⟩
  | schedulerPick => exact ⟨_, execSchedulerPick_mv ..⟩
  | readDataDecoded => exact ⟨_, execReadDataDecoded_mv ..⟩
  | dramWriteDone => exact ⟨_, execDramWriteDone_mv ..⟩
  | derivedWriteEnqueue => exact ⟨_, execDerivedWriteEnqueue_mv ..⟩
  | urgentLapseEnd => exact ⟨_, execUrgentLapseEnd_mv ..⟩
  | wrmMerge => exact ⟨_, execWrmMerge_mv ..⟩
  | captureOffer => exact ⟨_, execCaptureOffer_mv ..⟩
  | captureCopyDone => exact ⟨_, execCaptureCopyDone_mv ..⟩
  | lineWritebackTimeout => exact ⟨_, execLineWritebackTimeout_mv ..⟩
  | lineWritebackDone => exact ⟨_, execLineWritebackDone_mv ..⟩
  | wayFailureDetected => exact ⟨_, execWayFailureDetected_mv ..⟩
  | wayRecoveryDone => exact ⟨_, execWayRecoveryDone_mv ..⟩
  | refreshSlot => exact ⟨_, execRefreshSlot_mv ..⟩
  | refreshStart => exact ⟨_, execRefreshStart_mv ..⟩
  | nbrRefreshTrigger => exact ⟨_, execNbrRefreshTrigger_mv ..⟩
  | targetedRefreshDone => exact ⟨_, execTargetedRefreshDone_mv ..⟩
  | trackerWindowEnd => exact ⟨_, execTrackerWindowEnd_mv ..⟩
  | throttleStepUp => exact ⟨_, execThrottleStepUp_mv ..⟩
  | tidefillDone => exact ⟨_, execTidefillDone_mv ..⟩
  | freshClaimFill => exact ⟨_, execFreshClaimFill_mv ..⟩
  | scrubInitdone => exact ⟨_, execScrubInitdone_mv ..⟩
  | scrubUnitIssue => exact ⟨_, execScrubUnitIssue_mv ..⟩
  | scrubLapEnd => exact ⟨_, execScrubLapEnd_mv ..⟩
  | softRepairStart => exact ⟨_, execSoftRepairStart_mv ..⟩
  | softRepairDone => exact ⟨_, execSoftRepairDone_mv ..⟩
  | tsvLaneFailed => exact ⟨_, execTsvLaneFailed_mv ..⟩
  | tsvSwitchStart => exact ⟨_, execTsvSwitchStart_mv ..⟩
  | tsvSwitchDone => exact ⟨_, execTsvSwitchDone_mv ..⟩
  | repairFuseauth => exact ⟨_, execRepairFuseauth_mv ..⟩
  | epochPortsetWrite => exact ⟨_, execEpochPortsetWrite_mv ..⟩
  | portsetApply => exact ⟨_, execPortsetApply_mv ..⟩
  | epochInitWrite => exact ⟨_, execEpochInitWrite_mv ..⟩
  | trigArm => exact ⟨_, execTrigArm_mv ..⟩
  | deferredTriggerAction => exact ⟨_, execDeferredTriggerAction_mv ..⟩
  | sqTailDoorbell => exact ⟨_, execSqTailDoorbell_mv ..⟩
  | cqHeadDoorbell => exact ⟨_, execCqHeadDoorbell_mv ..⟩
  | ringEnable => exact ⟨_, execRingEnable_mv ..⟩
  | ringDisable => exact ⟨_, execRingDisable_mv ..⟩
  | descFetch => exact ⟨_, execDescFetch_mv ..⟩
  | descDispatch => exact ⟨_, execDescDispatch_mv ..⟩
  | completionRecord => exact ⟨_, execCompletionRecord_mv ..⟩
  | copy => exact ⟨_, execCopy_mv ..⟩
  | fill => exact ⟨_, execFill_mv ..⟩
  | crc64 => exact ⟨_, execCrc64_mv ..⟩
  | compare => exact ⟨_, execCompare_mv ..⟩
  | zero => exact ⟨_, execZero_mv ..⟩
  | scrubRange => exact ⟨_, execScrubRange_mv ..⟩
  | poisonClear => exact ⟨_, execPoisonClear_mv ..⟩
  | epochAdvance => exact ⟨_, execEpochAdvance_mv ..⟩
  | tidemarkExport => exact ⟨_, execTidemarkExport_mv ..⟩
  | tidemarkClear => exact ⟨_, execTidemarkClear_mv ..⟩
  | mirrorResync => exact ⟨_, execMirrorResync_mv ..⟩
  | mirrorPull => exact ⟨_, execMirrorPull_mv ..⟩
  | journalRead => exact ⟨_, execJournalRead_mv ..⟩
  | fwStage => exact ⟨_, execFwStage_mv ..⟩
  | fwActivate => exact ⟨_, execFwActivate_mv ..⟩
  | fwCommit => exact ⟨_, execFwCommit_mv ..⟩
  | bistRun => exact ⟨_, execBistRun_mv ..⟩
  | repairSoft => exact ⟨_, execRepairSoft_mv ..⟩
  | repairFuse => exact ⟨_, execRepairFuse_mv ..⟩
  | pcOffline => exact ⟨_, execPcOffline_mv ..⟩
  | pcOnline => exact ⟨_, execPcOnline_mv ..⟩
  | descFence => exact ⟨_, execDescFence_mv ..⟩
  | journalUnitFlush => exact ⟨_, execJournalUnitFlush_mv ..⟩
  | almanacRselWrite => exact ⟨_, execAlmanacRselWrite_mv ..⟩
  | almanacLookupDone => exact ⟨_, execAlmanacLookupDone_mv ..⟩
  | almanacRdataRead => exact ⟨_, execAlmanacRdataRead_mv ..⟩
  | eventRecordWrite => exact ⟨_, execEventRecordWrite_mv ..⟩
  | evtRingEnable => exact ⟨_, execEvtRingEnable_mv ..⟩
  | evtRingDisable => exact ⟨_, execEvtRingDisable_mv ..⟩
  | evtRingHeadWrite => exact ⟨_, execEvtRingHeadWrite_mv ..⟩
  | evtFatalAckWrite => exact ⟨_, execEvtFatalAckWrite_mv ..⟩
  | evtMfifoRead => exact ⟨_, execEvtMfifoRead_mv ..⟩
  | smbusAlertResponse => exact ⟨_, execSmbusAlertResponse_mv ..⟩
  | chrosyBlockStart => exact ⟨_, execChrosyBlockStart_mv ..⟩
  | chrosyBlockReceived => exact ⟨_, execChrosyBlockReceived_mv ..⟩
  | chrosyAck => exact ⟨_, execChrosyAck_mv ..⟩
  | chrosyNak => exact ⟨_, execChrosyNak_mv ..⟩
  | chrosyCredit => exact ⟨_, execChrosyCredit_mv ..⟩
  | heartbeat => exact ⟨_, execHeartbeat_mv ..⟩
  | alignNext => exact ⟨_, execAlignNext_mv ..⟩
  | alignOk => exact ⟨_, execAlignOk_mv ..⟩
  | linkUp => exact ⟨_, execLinkUp_mv ..⟩
  | degrade => exact ⟨_, execDegrade_mv ..⟩
  | linkDown reason => exact ⟨_, execLinkDown_mv reason s⟩
  | chrosyAligned => exact ⟨_, execChrosyAligned_mv ..⟩
  | seekTimeout => exact ⟨_, execSeekTimeout_mv ..⟩
  | chrosyLaneFailed => exact ⟨_, execChrosyLaneFailed_mv ..⟩
  | degradeRepeat => exact ⟨_, execDegradeRepeat_mv ..⟩
  | chrosyNoBlockTimeout => exact ⟨_, execChrosyNoBlockTimeout_mv ..⟩
  | chrosyStallTimeout => exact ⟨_, execChrosyStallTimeout_mv ..⟩
  | chrosyAdaptTick => exact ⟨_, execChrosyAdaptTick_mv ..⟩
  | chrosyEnable => exact ⟨_, execChrosyEnable_mv ..⟩
  | chrosyDisable => exact ⟨_, execChrosyDisable_mv ..⟩
  | chrosyQselWrite => exact ⟨_, execChrosyQselWrite_mv ..⟩
  | chrosyQualRead => exact ⟨_, execChrosyQualRead_mv ..⟩
  | syncWrite => exact ⟨_, execSyncWrite_mv ..⟩
  | asyncWrite => exact ⟨_, execAsyncWrite_mv ..⟩
  | markMessage => exact ⟨_, execMarkMessage_mv ..⟩
  | barrier => exact ⟨_, execBarrier_mv ..⟩
  | mirrorAck => exact ⟨_, execMirrorAck_mv ..⟩
  | nack => exact ⟨_, execNack_mv ..⟩
  | barrierAck => exact ⟨_, execBarrierAck_mv ..⟩
  | pullReq => exact ⟨_, execPullReq_mv ..⟩
  | pullData => exact ⟨_, execPullData_mv ..⟩
  | resyncData => exact ⟨_, execResyncData_mv ..⟩
  | reservedMessage => exact ⟨_, execReservedMessage_mv ..⟩
  | applyWrite => exact ⟨_, execApplyWrite_mv ..⟩
  | mirrorMessageSend => exact ⟨_, execMirrorMessageSend_mv ..⟩
  | backlogRead => exact ⟨_, execBacklogRead_mv ..⟩
  | syncTimeout => exact ⟨_, execSyncTimeout_mv ..⟩
  | windowSetAsync => exact ⟨_, execWindowSetAsync_mv ..⟩
  | windowSetSync => exact ⟨_, execWindowSetSync_mv ..⟩
  | windowSetOff => exact ⟨_, execWindowSetOff_mv ..⟩
  | lowPowerEntry => exact ⟨_, execLowPowerEntry_mv ..⟩
  | lowPowerEntryDone => exact ⟨_, execLowPowerEntryDone_mv ..⟩
  | wake => exact ⟨_, execWake_mv ..⟩
  | wakeDone => exact ⟨_, execWakeDone_mv ..⟩
  | pfailDetect => exact ⟨_, execPfailDetect_mv ..⟩
  | droopDetect => exact ⟨_, execDroopDetect_mv ..⟩
  | lanternRailFault => exact ⟨_, execLanternRailFault_mv ..⟩
  | pfailRecovered => exact ⟨_, execPfailRecovered_mv ..⟩
  | powerGood => exact ⟨_, execPowerGood_mv ..⟩
  | fuseSenseDone => exact ⟨_, execFuseSenseDone_mv ..⟩
  | keeperBootDone => exact ⟨_, execKeeperBootDone_mv ..⟩
  | startRelease => exact ⟨_, execStartRelease_mv ..⟩
  | prstAssert => exact ⟨_, execPrstAssert_mv ..⟩
  | hrstAssert => exact ⟨_, execHrstAssert_mv ..⟩
  | logicResetRelease => exact ⟨_, execLogicResetRelease_mv ..⟩
  | pfailDetectArm => exact ⟨_, execPfailDetectArm_mv ..⟩
  | keeperResetRequest => exact ⟨_, execKeeperResetRequest_mv ..⟩
  | wipeNextWrite => exact ⟨_, execWipeNextWrite_mv ..⟩
  | keeperWatchdogExpiry => exact ⟨_, execKeeperWatchdogExpiry_mv ..⟩
  | keeperRestartDone => exact ⟨_, execKeeperRestartDone_mv ..⟩
  | watchReading => exact ⟨_, execWatchReading_mv ..⟩
  | thermalResumeArm => exact ⟨_, execThermalResumeArm_mv ..⟩
  | transitCclkWindow => exact ⟨_, execTransitCclkWindow_mv ..⟩
  | transitRunDone => exact ⟨_, execTransitRunDone_mv ..⟩
  | transitAbort => exact ⟨_, execTransitAbort_mv ..⟩
  | bypass => exact ⟨_, execBypass_mv ..⟩
  | idcode => exact ⟨_, execIdcode_mv ..⟩
  | samplePreload => exact ⟨_, execSamplePreload_mv ..⟩
  | extest => exact ⟨_, execExtest_mv ..⟩
  | wrapSel => exact ⟨_, execWrapSel_mv ..⟩
  | fuseWrite => exact ⟨_, execFuseWrite_mv ..⟩
  | fuseWriteCrc => exact ⟨_, execFuseWriteCrc_mv ..⟩
  | fuseLock => exact ⟨_, execFuseLock_mv ..⟩
  | lcAdvance => exact ⟨_, execLcAdvance_mv ..⟩
  | fuseDirect => exact ⟨_, execFuseDirect_mv ..⟩
  | fuseOpStart => exact ⟨_, execFuseOpStart_mv ..⟩
  | fuseOpDone => exact ⟨_, execFuseOpDone_mv ..⟩
  | fuseResense => exact ⟨_, execFuseResense_mv ..⟩
  | fuseRdselWrite => exact ⟨_, execFuseRdselWrite_mv ..⟩
  | mgmtStage => exact ⟨_, execMgmtStage_mv ..⟩
  | mgmtActivate => exact ⟨_, execMgmtActivate_mv ..⟩
  | mgmtCommit => exact ⟨_, execMgmtCommit_mv ..⟩
  | fwupRelease => exact ⟨_, execFwupRelease_mv ..⟩
  | leaseTimeout => exact ⟨_, execLeaseTimeout_mv ..⟩
  | cleanBoot => exact ⟨_, execCleanBoot_mv ..⟩
  | settingsStore => exact ⟨_, execSettingsStore_mv ..⟩
  | rollbackFuseRetry => exact ⟨_, execRollbackFuseRetry_mv ..⟩
  | regWrite => exact ⟨_, execRegWrite_mv ..⟩
  | dwWindowExpiry => exact ⟨_, execDwWindowExpiry_mv ..⟩
  | cfgownerWrite => exact ⟨_, execCfgownerWrite_mv ..⟩
  | mgmtSetPointer => exact ⟨_, execMgmtSetPointer_mv ..⟩
  | mgmtWrite => exact ⟨_, execMgmtWrite_mv ..⟩
  | mgmtRead => exact ⟨_, execMgmtRead_mv ..⟩
  | smbusTimeout => exact ⟨_, execSmbusTimeout_mv ..⟩
  | refclkLoss => exact ⟨_, execRefclkLoss_mv ..⟩
  | vddCoreLoss => exact ⟨_, execVddCoreLoss_mv ..⟩
  | vlanLoss => exact ⟨_, execVlanLoss_mv ..⟩
  -- SEAL alone is left: its constructor's name is a keyword.
  | _ => exact ⟨_, execSeal_mv ..⟩

theorem exec_moves {c : Instr} {s t : State} (h : exec c s = .next t) : ∃ m, Moves m s t := by
  obtain ⟨m, hm⟩ := exec_movesO c s
  rw [h] at hm
  exact ⟨m, hm⟩

/-- A step moves the state from the one without the front command. -/
theorem step_moves {s t : State} (h : step s = .next t) : ∃ m, Moves m { s with pending := s.pending.tail } t := by
  unfold step at h
  split at h
  · next hq =>
    cases h
    rw [show ({ s with pending := s.pending.tail } : State) = s by rw [hq, List.tail_nil, ← hq]]
    exact ⟨_, idleTick_mv s⟩
  · next c rest hq =>
    rw [hq]
    exact exec_moves h

/-- Settles O3: each command's own frame lemma keeps memory canonical; so does the idle CCLK. -/
theorem stepKeepsMemoryCanonical : Obligations.StepKeepsMemoryCanonical := by
  unfold Obligations.StepKeepsMemoryCanonical
  intro s t hs h
  obtain ⟨m, hm⟩ := step_moves h
  exact hm.memory hs

theorem idleTick_eq (s : State) :
    idleTick s = { s with now := s.now + 1, regs := { s.regs with hwField := [], hwCount := [], csr0 := none } } :=
  if_neg (Nat.not_succ_le_self _)

/-- Settles O4: each command leaves the rest of the queue alone and moves the clock and the counters forward; on an empty queue
the clock alone moves. -/
theorem stepTakesOneCommandAndTimeRuns : Obligations.StepTakesOneCommandAndTimeRuns := by
  unfold Obligations.StepTakesOneCommandAndTimeRuns
  refine ⟨fun s t h => ?_, fun s hq => ?_⟩
  · obtain ⟨m, hm⟩ := step_moves h
    exact ⟨hm.pending, hm.now, hm.nextId, hm.free⟩
  · have hstep : step s = .next (idleTick s) := by simp only [step, hq]
    rw [idleTick_eq] at hstep
    exact ⟨_, hstep, rfl, rfl, hq, rfl, rfl, rfl, rfl, rfl⟩

/-! ### The lists of commands that leave a unit alone -/

/-- Refutes O59: a PCTL frame with a wrong CRC-8 is counted in its port's link (R71), and PCTL_FRAME_INVALID is not
among the commands that may change the links. -/
theorem not_otherCommandsLeaveAUnitAlone : ¬ Obligations.OtherCommandsLeaveAUnitAlone := by
  unfold Obligations.OtherCommandsLeaveAUnitAlone
  rintro ⟨hlinks, -⟩
  have hcounted : (nextOf (.pctlFrameInvalid 0 0 0 1) State.reset).links[0].pctlBad = 1 := by decide +kernel
  rw [hlinks _ _ _ rfl (exec_nextOf _ _)] at hcounted
  exact absurd hcounted (by decide)

/-- A stack whose TideFill is under way. -/
def filling : State := { State.reset with scrub := { State.reset.scrub with tidefill := true } }

/-- Refutes O60: TideFill counts the beats it sends on the TSV lanes (R119, R443), and TIDEFILL_DONE stands among the commands that
change no pseudo-channel. -/
theorem not_commandsThatKeepMemoryAndRecords : ¬ Obligations.CommandsThatKeepMemoryAndRecords := by
  unfold Obligations.CommandsThatKeepMemoryAndRecords
  rintro ⟨-, hchannels, -⟩
  have hcounted : (nextOf (.tidefillDone 0) filling).pcs[0].beats = 201326592 := by decide +kernel
  rw [(hchannels _ _ _ rfl (exec_nextOf _ _)).1] at hcounted
  exact absurd hcounted (by decide)

end Sys2Proof.Machine
end

section
/-! SUPPORT. Statements about starts and resets that fail: a start that ends a link's life lets a resynchronisation go on. -/

namespace Sys2Proof.Machine

/-- What a command is said to answer holds of its next state. -/
theorem Answers.nextOf {c : Instr} {s : State} {P : State → Prop} (h : Answers c s P) : P (nextOf c s) := by
  obtain ⟨t, ht, hP⟩ := h
  rwa [← Host.Outcome.next.inj (ht.symm.trans (exec_nextOf c s))]

/-- A write of the stack's own to blocks 0 to 3, its column commands issued. -/
def ownWrite (id n : Nat) : QEnt :=
  { id := id, src := .corrwb, kind := .wr, cls := 3, blk := 0, n := n, data := [1, 0, 0, 0], chk := [0, 0, 0, 0], arrived := 0
    pool := 2, issued := true, drained := true }

/-- A stack whose link is up while a resynchronisation of window 0 is about to copy its first unit; the internal entries of
pseudo-channel 0, where that unit lies, are all taken. -/
def resyncing (ph : Phase) : State :=
  { Tests.svc with
    power := { phase := ph, lantern := true, lwSeal := { state := 2 } }
    chrosy := { Tests.svc.chrosy with st := .up }
    mirror := { Tests.svc.mirror with
      wins := Tests.svc.mirror.wins.set 0 { st := .resync }
      resync := some { ring := 0, idx := 0, all := true, wins := [0], unit := 0, stop := 1 } }
    pcs := Tests.svc.pcs.set 0 { mode := .online, queue := ownWrite 0 4 :: ownWrite 1 4 :: List.replicate 14 (ownWrite 2 0) } }

/-- Refutes O49: a start that keeps DRAM contents loses the link first, and at that loss the resynchronisation under way reads its
next unit; to make room for the read a queued write is served, and memory changes. -/
theorem not_startSequence : ¬ Obligations.StartSequence := by
  unfold Obligations.StartSequence
  rintro ⟨hpowerGood, -⟩
  obtain ⟨-, -, -, -, -, -, hkept⟩ := (hpowerGood 0 (resyncing .off) rfl).nextOf
  rw [if_neg (by decide +kernel)] at hkept
  have hwrites : (nextOf (.powerGood 0) (resyncing .off)).dram.mem.length = 1 := by decide +kernel
  rw [hkept.2.1] at hwrites
  exact absurd hwrites (by decide)

/-- Refutes O51: after HRST_N the link is lost when logic reset is released, and at that loss the resynchronisation under way
reads its next unit; to make room for the read a queued write is served, and memory changes. -/
theorem not_resetsAndRestarts : ¬ Obligations.ResetsAndRestarts := by
  unfold Obligations.ResetsAndRestarts
  rintro ⟨-, -, -, hrelease, -⟩
  obtain ⟨-, -, -, -, -, -, hkept⟩ := (hrelease (resyncing (.held 2)) rfl).nextOf
  have hwrites : (nextOf .logicResetRelease (resyncing (.held 2))).dram.mem.length = 1 := by decide +kernel
  rw [hkept] at hwrites
  exact absurd hwrites (by decide)

end Sys2Proof.Machine
end

section
/-! SUPPORT. Statements about stored registers that fail: a write of a register's fields keeps the bits outside its write mask. -/

namespace Sys2Proof.Machine

/-- A stack in service with one register set. -/
def withWord (a v : Nat) : State := csrSet Tests.svc a v

/-- Refutes O31: its first clause takes SEXTANT.QSEL to hold exactly the 17 written bits, in every state. The write replaces bits
16:0 only, so a reserved bit that stands before, here bit 20, stands after. -/
theorem not_selectionAndEpochRegisters : ¬ Obligations.SelectionAndEpochRegisters := by
  unfold Obligations.SelectionAndEpochRegisters
  rintro ⟨hqsel, -⟩
  have hquiet : quietPath (withWord 0x0F0010 0x100000) 16 := by decide +kernel
  have hstands : csrGet (nextOf (.sextantQselWrite 16 0) (withWord 0x0F0010 0x100000)) 0x0F0010 = 0x100000 := by decide +kernel
  rw [(hqsel 16 0 _ hquiet).nextOf.1] at hstands
  exact absurd hstands (by decide)

/-- A management write of the word 0 to port 0's CRDINIT, with its PEC. -/
def crdinitBytes : List Byte := Tests.withPec [0x00, 0x02, 0x04, 0, 0, 0, 0]
/-- Refutes O32: its clause on MGMT_WRITE takes CRDINIT to hold exactly the 24 written bits, in every state. The write replaces
bits 23:0 only, so a reserved bit that stands before, here bit 24, stands after. -/
theorem not_managementTransactions : ¬ Obligations.ManagementTransactions := by
  unfold Obligations.ManagementTransactions
  rintro ⟨-, hwrite, -⟩
  have hquiet : quietPath (withWord (portReg 0 4) 0x1000000) mgmtPath := by decide +kernel
  have hstands : csrGet (nextOf (.mgmtWrite crdinitBytes) (withWord (portReg 0 4) 0x1000000)) (portReg 0 4) = 0x1000000 := by
    decide +kernel
  rw [(hwrite 0 crdinitBytes _ hquiet (by decide +kernel) (by decide +kernel) (by decide +kernel) (by decide +kernel)).nextOf.1]
    at hstands
  exact absurd hstands (by decide +kernel)

end Sys2Proof.Machine
end

section
/-! SUPPORT. A statement about the Chrosy link's adaptation that fails: the limit of the CTLE is applied to whatever stands. -/

namespace Sys2Proof.Machine

/-- A stack whose Chrosy link is up and whose lane 0 has CTLE step 33, above the largest step 31, its last change 1 ms ago. -/
def overCtle : State :=
  { Tests.mir with
    now := 1600000
    chrosy := { Tests.mir.chrosy with lanes := Tests.mir.chrosy.lanes.set 0 { Tests.mir.chrosy.lanes[0] with ctle := 33 } } }

/-- Readings of lane 0 that ask for a higher CTLE step. -/
def ctleUpReading : ChrAdapt := { lane := 0, eye := 100, berExp := 15, taps := [], ctleUp := 1 }

/-- Refutes O46: its clause on CHROSY_ADAPT_TICK lets the CTLE move by one step at most, in every state. The step is limited to 31,
so where it stands at 33 a request for one more takes it to 31, two steps down. -/
theorem not_chrosySlotsAndControl : ¬ Obligations.ChrosySlotsAndControl := by
  unfold Obligations.ChrosySlotsAndControl
  rintro ⟨-, -, -, -, -, -, -, hadapt, -⟩
  obtain ⟨-, -, -, -, hstep, -⟩ := (hadapt ctleUpReading 0 overCtle (by decide +kernel) rfl).nextOf
  have hlimited : (nextOf (.chrosyAdaptTick [ctleUpReading]) overCtle).chrosy.lanes[(0 : Fin 9)].ctle = 31 := by decide +kernel
  rw [hlimited] at hstep
  exact absurd hstep (by decide +kernel)

end Sys2Proof.Machine
end

section
/-! SUPPORT. A register access on a quiet path: with no dual write pending, what a write, a dual write, a pair's write and a read of
an owner come to. -/

namespace Sys2Proof.Machine

/-- A register that takes 32-bit writes: no doorbell, no complement, no DW register, no half of a pair. -/
def plainReg (a : Nat) : Bool :=
  !isDoorbell a && !isComplement a && (match regRow a with | some r => r.dw == 0 && r.pair == 0 | none => false)

/-- The word of a plain register goes to its block; Chrosy's registers need Chrosy. -/
theorem performWord_plain {s : State} (path : Path) {a : Nat} (v : Nat) (selfCheck : Bool) (hd : s.regs.dual = none)
    (hk : s.regs.dualK = none) (ha : plainReg a = true) (hchr : a / 65536 = 0x0B → chrosyOn s = true) :
    performWord s path a v selfCheck = applyWord (clearLatch s path) path a v selfCheck := by
  unfold plainReg at ha
  cases hr : regRow a with
  | none => simp [hr] at ha
  | some r =>
    simp only [hr, Bool.and_eq_true, Bool.not_eq_true', beq_iff_eq] at ha
    obtain ⟨⟨hdoor, hcomp⟩, hdw, hpair⟩ := ha
    have hon : ¬ (a / 65536 = 0x0B ∧ chrosyOn (clearLatch s path) = false) := fun ⟨hb, hoff⟩ =>
      Bool.noConfusion ((hchr hb).symm.trans hoff)
    unfold performWord
    rw [expireDual_of_none hd hk]
    extract_lets t u
    have hu : u = t := interruptDual_of_none path _ hd hk
    rw [hu, hr, hdoor, hcomp, if_neg Bool.false_ne_true, if_neg Bool.false_ne_true]
    show (if _ then _ else _) = _
    rw [if_neg hon, hdw, hpair]
    rfl

/-- A write of a plain register on a quiet path. -/
theorem writeReg_plain {s : State} {path : Path} (hq : quietPath s path) {a : Nat} (v : Word) (selfCheck : Bool)
    (ha : plainReg a = true) (h4 : a % 4 = 0) (hchr : a / 65536 = 0x0B → chrosyOn s = true) :
    writeReg s path a v.toNat selfCheck = applyWord (clearLatch s path) path a v.toNat selfCheck := by
  obtain ⟨-, hown, hd, hk, -⟩ := hq
  rw [writeReg_of_owner hown h4 v.isLt, performWord_plain path _ _ hd hk ha hchr]

/-- A register with dual-write bits, whose complement lies in the next word. -/
def dualReg (a : Nat) : Bool :=
  decide (a % 4 = 0) && !isDoorbell a && !isComplement a && !isDoorbell (a + 4) && isComplement (a + 4) && decide (a / 65536 ≠ 0x0B) &&
  (match regRow a with | some r => r.dw != 0 | none => false)

/-- The first word of a dual write waits. -/
theorem writeReg_dualFirst {s : State} {path : Path} (hq : quietPath s path) {a : Nat} (v : Word) (ha : dualReg a = true) :
    writeReg s path a v.toNat true =
      setDual (clearLatch s path) path (some { path := path.val, addr := a, value := v, at_ := s.now }) := by
  obtain ⟨-, hown, hd, hk, -⟩ := hq
  unfold dualReg at ha
  cases hr : regRow a with
  | none => simp [hr] at ha
  | some r =>
    simp only [hr, Bool.and_eq_true, Bool.not_eq_true', bne_iff_ne, decide_eq_true_eq] at ha
    obtain ⟨⟨⟨⟨⟨⟨h4, hdoor⟩, hcomp⟩, -⟩, -⟩, hb⟩, hdw⟩ := ha
    have hnone : dualOf (clearLatch s path) path = none := by
      unfold dualOf
      split
      · exact hk
      · exact hd
    rw [writeReg_of_owner hown h4 v.isLt]
    unfold performWord
    rw [expireDual_of_none hd hk]
    extract_lets t u
    have hu : u = t := interruptDual_of_none path _ hd hk
    have hchr : ¬ (a / 65536 = 0x0B ∧ chrosyOn t = false) := fun h => hb h.1
    simp only [hu, hr, hdoor, hcomp, if_neg hchr, if_pos hdw, dualValue]
    rw [hnone, BitVec.ofNat_toNat, BitVec.setWidth_eq]
    rfl

/-- Its second word meets the sequence: the complement decides. -/
theorem writeDual_eq {s : State} {path : Path} (hq : quietPath s path) {a : Nat} {r : RegRow} (v c : Word)
    (ha : dualReg a = true) (hr : regRow a = some r) :
    writeDual s path a v.toNat c.toNat =
      if c = ~~~v then acceptDual (clearLatch s path) path r a v.toNat else regDw (clearLatch s path) a path.val 2 := by
  have hcompl : (c.toNat = 0xFFFFFFFF ^^^ v.toNat) ↔ c = ~~~v := by
    rw [show (0xFFFFFFFF ^^^ v.toNat : Nat) = (~~~v).toNat by
      rw [← BitVec.allOnes_xor, BitVec.toNat_xor]; rfl]
    exact BitVec.toNat_inj
  unfold writeDual
  rw [writeReg_dualFirst hq v ha]
  obtain ⟨-, hown, hd, hk, -⟩ := hq
  unfold dualReg at ha
  simp only [hr, Bool.and_eq_true, Bool.not_eq_true', bne_iff_ne, decide_eq_true_eq] at ha
  obtain ⟨⟨⟨⟨⟨⟨h4, -⟩, -⟩, hdoor⟩, hcomp⟩, -⟩, -⟩ := ha
  -- Of the waiting sequence: it is young, it is not interrupted, and taking it away leaves the state before it.
  have hwait : ∃ w, setDual (clearLatch s path) path (some { path := path.val, addr := a, value := v, at_ := s.now }) = w ∧
      isOwner w path = true ∧ expireDual w = w ∧ interruptDual (clearLatch w path) path (a + 4) = clearLatch w path ∧
      dualOf (clearLatch w path) path = some { path := path.val, addr := a, value := v, at_ := s.now } ∧
      setDual (clearLatch w path) path none = clearLatch s path := by
    refine ⟨_, rfl, ?_⟩
    have hnew : ¬ s.now + 64 < s.now := by omega
    by_cases hp : path.val = 17
    · simp only [setDual, dualOf, interruptDual, hp, if_true]
      refine ⟨hown, ?_, trivial, rfl, ?_⟩
      · simp [expireDual, clearLatch, hd, hnew]
      · simp [clearLatch, ← hk]
    · simp only [setDual, dualOf, interruptDual, hp, if_false]
      refine ⟨hown, ?_, ?_, rfl, ?_⟩
      · simp [expireDual, clearLatch, hk, hnew]
      · simp [clearLatch, hk]
      · simp [clearLatch, ← hd]
  obtain ⟨w, hw, hownw, hyoung, hwaits, hpend, htaken⟩ := hwait
  rw [hw]
  rw [writeReg_of_owner hownw (by omega) c.isLt]
  unfold performWord
  simp only [hyoung, hdoor, hwaits, hcomp, Bool.false_eq_true, if_false, if_true, complement, hpend, htaken, hr, hcompl, and_self]

/-- The low word of a pair. -/
theorem writePair_eq {s : State} {path : Path} (hq : quietPath s path) {a : Nat} (v : DWord) (h8 : a % 8 = 0)
    (hlow : pairLow a = true) (hb : a / 65536 ≠ 0x0B) :
    writePair s path a v.toNat = applyPair (setHeld (clearLatch s path) path none) path a v.toNat := by
  obtain ⟨-, hown, hd, hk, -⟩ := hq
  have hword : v.toNat % 2 ^ 64 = v.toNat := Nat.mod_eq_of_lt v.isLt
  simp only [writePair, cfgWrite, hown, show a % 2 ^ 3 = 0 from h8, hword]
  unfold performDouble
  rw [expireDual_of_none hd hk, interruptDual_of_none path a (by exact hd) (by exact hk)]
  simp [hlow, hb]

/-- A register whose 32-bit read latches no high word. -/
theorem readReg_eq {s : State} {path : Path} (hq : quietPath s path) {a : Nat} (hlatch : s.regs.latch[path] = none)
    (h4 : a % 4 = 0) (hdoor : isDoorbell a = false) (hlow : pairLow a = false) :
    readReg s path a =
      { readEffect (clearLatch s path) a with
        regs := { (readEffect (clearLatch s path) a).regs with lastRead := BitVec.ofNat 64 (liveWord s a) } } := by
  obtain ⟨-, hown, -⟩ := hq
  have hword : liveWord s a * 2 ^ (8 * (a % 8)) / 2 ^ (8 * (a % 8)) = liveWord s a :=
    Nat.mul_div_cancel _ (Nat.two_pow_pos _)
  simp [readReg, cfgRead, hown, h4, readWord32, hdoor, hlatch, hlow, hword]

end Sys2Proof.Machine
end

section
/-! Registers (O27 to O30): dual writes, writes of a port that does not own the registers, event rings, reads with side effects. -/

namespace Sys2Proof.Machine

/-! ### Events touch of the register unit only stored words and lost counts -/

theorem deliverFatal_regs (s : State) (e : EvRec) : (deliverFatal s e).regs = s.regs := by
  unfold deliverFatal
  split <;> rfl

theorem deliverSigs_regs (s : State) (e : EvRec) : (deliverSigs s e).regs = s.regs := by
  unfold deliverSigs
  split <;> rfl

theorem deliverMgmt_regs (s : State) (e : EvRec) : (deliverMgmt s e).regs = s.regs := by
  unfold deliverMgmt
  split <;> rfl

section
variable {β : Type} {g : RegSt → β}

/-- What of the register unit rests neither on the stored words nor on the hardware's counts. -/
def apartFromWords (g : RegSt → β) : Prop := ∀ r c h, g { r with csr := c, hwCount := h } = g r

variable (hg : apartFromWords g)
include hg

theorem bump_regs (a k : Nat) (s : State) : g (bump a k s).regs = g s.regs := hg s.regs _ _

theorem deliverRing_regs (s : State) (k : Fin 4) (e : EvRec) : g (deliverRing s k e).1.regs = g s.regs := by
  unfold deliverRing
  dsimp only
  split
  · exact bump_regs hg ..
  · rfl

theorem deliver_regs (s : State) (e : EvRec) : g (deliver s e).1.regs = g s.regs := by
  unfold deliver
  dsimp only
  split
  · exact congrArg g (deliverFatal_regs ..)
  · rw [deliverMgmt_regs, deliverSigs_regs, deliverRing_regs hg, deliverFatal_regs]

theorem issueEvent_regs (s : State) (src code sev a0 a1 : Nat) (j d served : Bool) :
    g (issueEvent s src code sev a0 a1 j d served).1.regs = g s.regs := by
  unfold issueEvent
  dsimp only
  rw [deliver_regs hg]
  split <;> rfl

theorem raiseLost_regs (s : State) (k : Fin 4) : g (raiseLost s k).regs = g s.regs := by
  unfold raiseLost
  dsimp only
  split
  · rfl
  · exact issueEvent_regs hg ..

theorem raiseX_regs (s : State) (src code sev a0 a1 : Nat) (j d served : Bool) :
    g (raiseX s src code sev a0 a1 j d served).regs = g s.regs := by
  unfold raiseX
  split
  · split
    next t lost h =>
    have ht : g t.regs = g s.regs := by
      rw [← issueEvent_regs hg s src code sev a0 a1 j d served, h]
    split
    · exact (raiseLost_regs hg ..).trans ht
    · exact ht
  · rfl

theorem raiseLim_regs (s : State) (key period src code sev a0 a1 sup : Nat) (j : Bool) :
    g (raiseLim s key period src code sev a0 a1 sup j).regs = g s.regs := by
  unfold raiseLim
  split
  · rfl
  · exact raiseX_regs hg ..

end

/-- A pending dual write survives a rate-limited event. -/
theorem raiseLim_dual (s : State) (key period src code sev a0 a1 sup : Nat) (j : Bool) :
    (raiseLim s key period src code sev a0 a1 sup j).regs.dual = s.regs.dual :=
  raiseLim_regs (g := RegSt.dual) (fun _ _ _ => rfl) ..

theorem regAccess_ev (s : State) (a path reason : Nat) : EvKeeps s (regAccess s a path reason) := raiseLim_ev ..
theorem regDw_ev (s : State) (a path reason : Nat) : EvKeeps s (regDw s a path reason) := raiseLim_ev ..

/-- Settles O28 (R534): the write of a path that is no owner is REG_ACCESS and nothing else. -/
theorem unownedPathChangesNothing : Obligations.UnownedPathChangesNothing := by
  unfold Obligations.UnownedPathChangesNothing
  intro path a v s hup hown
  have hrefused : writeReg s path a.toNat v.toNat true = regAccess s a.toNat path.val 3 := by
    simp [writeReg, cfgWrite, hown]
  refine ⟨_, (exec_regWrite hup a v).trans (congrArg _ hrefused), ?_⟩
  have hev := regAccess_ev s a.toNat path.val 3
  exact ⟨hev.csr, hev.dram, hev.pcs, hev.epochs, hev.wetex, hev.fuse, hev.fw, raiseLim_dual ..⟩

/-! ### Dual writes (R542, R543) -/

/-- A command that is one dual write on a quiet path: its two outcomes. -/
theorem Answers.dual {cmd : Instr} {s : State} {path : Path} {a : Nat} {r : RegRow} {v c : Word} {P : State → Prop}
    (hq : quietPath s path) (hexec : exec cmd s = Machine.whenDo (pathUp s path) s (writeDual s path a v.toNat c.toNat))
    (ha : dualReg a = true) (hr : regRow a = some r)
    (hyes : c = ~~~v → P (acceptDual (clearLatch s path) path r a v.toNat))
    (hno : c ≠ ~~~v → P (regDw (clearLatch s path) a path.val 2)) : Answers cmd s P := by
  refine ⟨_, hexec.trans (if_pos hq.1), ?_⟩
  rw [writeDual_eq hq v c ha hr]
  split
  · next h => exact hyes h
  · next h => exact hno h

/-- Registers other than the stored words, and what is stored beside them, are no event's. -/
theorem regs_ev (s : State) (r : RegSt) (h : r.csr = s.regs.csr) : EvKeeps s { s with regs := r } :=
  ⟨Nat.le_refl _, rfl, fun _ => rfl, fun _ _ => by unfold csrGet; rw [h], rfl, rfl, rfl, rfl, rfl, rfl, rfl, rfl, rfl, rfl, rfl,
    rfl, rfl, rfl, rfl, rfl, rfl, rfl, rfl, rfl, rfl, rfl, rfl, rfl⟩

/-- The journal entry of an accepted register write. -/
theorem journalReg_ev (s : State) (path a v kind : Nat) : EvKeeps s (journalReg s path a v kind) := journal_ev ..

/-- A DW register without an effect of its own stores its dual-write bits. -/
theorem csrGet_stored (s : State) (a v n : Nat) (ha : regReset a < 2 ^ 32) (hn : n ≤ 32) :
    csrGet (csrSet s a (v &&& (2 ^ n - 1))) a = v % 2 ^ n := by
  rw [csrGet_csrSet_same _ _ _ ha, Nat.and_two_pow_sub_one_eq_mod]
  exact Nat.mod_eq_of_lt (Nat.lt_of_lt_of_le (Nat.mod_lt _ (Nat.two_pow_pos n)) (Nat.pow_le_pow_right (by decide) hn))

theorem csrGet_regDw_clearLatch (s : State) (path : Path) {a : Nat} (reason : Nat) (ha : ¬ lossCounter a) :
    csrGet (regDw (clearLatch s path) a path.val reason) a = csrGet s a :=
  (regDw_ev ..).csr a ha

theorem not_lossCounter_of_lt {a : Nat} (h : a < 0x0A0114 ∨ 0x0A0174 < a) : ¬ lossCounter a := by
  rintro ⟨k, rfl⟩
  omega

theorem dwHardware_ev (s : State) (a : Nat) : EvKeeps s (dwHardware s a) := by
  have hdrop (t : State) (d : Option Dual) : EvKeeps t { t with regs := { t.regs with dual := d } } := regs_ev t _ rfl
  have hdropK (t : State) (d : Option Dual) : EvKeeps t { t with regs := { t.regs with dualK := d } } := regs_ev t _ rfl
  unfold dwHardware
  extract_lets _ u
  have hu : EvKeeps s u := by
    unfold u
    split
    · exact EvKeeps.ite ((hdrop s none).trans (regDw_ev ..)) (EvKeeps.refl s)
    · exact EvKeeps.refl s
  refine hu.trans ?_
  split
  · exact EvKeeps.ite ((hdropK u none).trans (regDw_ev ..)) (EvKeeps.refl u)
  · exact EvKeeps.refl u

theorem expireDual_ev (s : State) : EvKeeps s (expireDual s) := by
  have hdrop (t : State) (d : Option Dual) : EvKeeps t { t with regs := { t.regs with dual := d } } := regs_ev t _ rfl
  have hdropK (t : State) (d : Option Dual) : EvKeeps t { t with regs := { t.regs with dualK := d } } := regs_ev t _ rfl
  unfold expireDual
  extract_lets _ u
  have hu : EvKeeps s u := by
    unfold u
    split
    · exact EvKeeps.ite ((hdrop s none).trans (regDw_ev ..)) (EvKeeps.refl s)
    · exact EvKeeps.refl s
  refine hu.trans ?_
  split
  · exact EvKeeps.ite ((hdropK u none).trans (regDw_ev ..)) (EvKeeps.refl u)
  · exact EvKeeps.refl u

/-- A sequence past its window is discarded. -/
theorem expireDual_dual {s : State} {d : Dual} (hd : s.regs.dual = some d) (hlate : d.at_ + 64 < s.now) :
    (expireDual s).regs.dual = none := by
  unfold expireDual
  extract_lets _ u
  have hu : u.regs.dual = none := by
    unfold u
    rw [hd]
    dsimp only
    rw [if_pos hlate]
    exact raiseLim_dual ..
  split
  · split
    · exact (raiseLim_dual ..).trans hu
    · exact hu
  · exact hu

/-- The Keeper stops in service (R450): it restarts and is counted, and FUSEAUTH is disarmed. -/
theorem keeperStop_inService {s : State} (kind : Nat) (hready : s.stack.ready = true) (hrun : s.transit.running = false) :
    (keeperStop s kind).stack = { s.stack with keeper := .restarting, restarts := satAdd 255 s.stack.restarts 1 } ∧
      csrGet (keeperStop s kind) 0x070210 = 0 := by
  unfold keeperStop
  extract_lets _ _ s1 s2 s3 s4 step
  have h2 : EvKeeps (csrSet s1 0x070210 0) s2 := dwHardware_ev ..
  have h3 : s3 = s2 := if_pos (by rw [h2.transit]; simp [s1, csrSet, hrun])
  have h4 : EvKeeps s3 s4 := EvKeeps.ite (formEntry_ev ..)
    (seq_ev _ _ (Nat.le_of_eq (pushHeld_next ..).1.symm) (pushHeld_next ..).2)
  have hkeeps : EvKeeps (csrSet s1 0x070210 0) s4 := h2.trans (h3 ▸ h4)
  have hstack : s4.stack = s1.stack := hkeeps.stack
  rw [if_pos (by rw [hstack]; exact hready)]
  refine ⟨hstack, (hkeeps.csr _ (not_lossCounter_of_lt (by decide))).trans ?_⟩
  exact csrGet_csrSet_same _ _ _ (by decide)

/-- The end of a lease (R518) in the firmware unit: nothing held, staged or activated; the boot record is rewritten. -/
theorem endLease_fw (s : State) (cause : Nat) :
    (endLease s cause).fw = { s.fw with holder := 0, activated := 0, cleanBoots := 0, wdog := 0, staged := 0
                                        staging := Vector.replicate 2 none, hdrBuf := Vector.replicate 2 []
                                        bootGens := s.fw.bootGens.map (· + 1) } := by
  unfold endLease
  extract_lets src _ s1 s2
  have h2 : s2.fw = (bootWrite s1).fw := (journal_ev ..).fw
  split
  · exact h2
  · exact (raiseX_ev ..).fw.trans h2

/-- Settles O27 (R542, R543): the complement decides whether the value is taken; what it starts is that register's own. -/
theorem dualWrites : Obligations.DualWrites := by
  unfold Obligations.DualWrites
  refine ⟨?owner, ?wipe, ?fuseauth, ?keeper, ?initdone, ?resume, ?release, ?expiry⟩
  case owner =>
    intro path v c s hq
    refine Answers.dual hq rfl (a := 0x000040) (by decide) rfl (fun h => ?_) (fun h => ?_)
    · rw [if_pos h]
      exact csrGet_stored _ _ _ 16 (by decide) (by decide)
    · rw [if_neg h]
      exact csrGet_regDw_clearLatch s path 2 (not_lossCounter_of_lt (by decide))
  case wipe =>
    intro path v c s hq
    refine Answers.dual hq rfl (a := 0x000110) (by decide) rfl (fun h => ?_) (fun h => ?_)
    · rw [if_pos h]
      refine (csrGet_csrSet_same _ _ _ (by decide)).trans (Nat.mod_eq_of_lt ?_)
      exact Nat.lt_of_lt_of_le (Nat.mod_lt _ (by decide)) (by decide)
    · rw [if_neg h]
      exact csrGet_regDw_clearLatch s path 2 (not_lossCounter_of_lt (by decide))
  case fuseauth =>
    intro path v c s hq
    refine Answers.dual hq rfl (a := 0x070210) (by decide) rfl (fun h => ?_) (fun h => ?_)
    · rw [if_pos h]
      exact csrGet_stored _ _ _ 25 (by decide) (by decide)
    · rw [if_neg h]
      exact csrGet_regDw_clearLatch s path 2 (not_lossCounter_of_lt (by decide))
  case keeper =>
    intro path v c s hq hkeeper hready hv hc hrun hpath
    refine Answers.dual hq rfl (a := 0x000108) (by decide) rfl (fun _ => ?_) (fun h => absurd hc h)
    have hev := journalReg_ev (clearLatch s path) path.val 0x000108 v.toNat 1
    have hup : keeperUp (journalReg (clearLatch s path) path.val 0x000108 v.toNat 1) = true := by
      rw [keeperUp, hev.stack]
      exact hkeeper
    have hstop := keeperStop_inService (s := journalReg (clearLatch s path) path.val 0x000108 v.toNat 1) 5
      (by rw [hev.stack]; exact hready) (by rw [hev.transit]; exact hrun)
    have hset : v.toNat.testBit 0 = true := hv
    have hdo (r : RegRow) : acceptDual (clearLatch s path) path r 0x000108 v.toNat =
        keeperStop (journalReg (clearLatch s path) path.val 0x000108 v.toNat 1) 5 := if_pos (by rw [hset, hup]; rfl)
    rw [hdo, hstop.1, hev.stack]
    exact ⟨rfl, rfl, hready, hstop.2⟩
  case initdone =>
    intro path v c s hq hv hc hheld
    refine Answers.dual hq rfl (a := 0x070010) (by decide) rfl (fun _ => ?_) (fun h => absurd hc h)
    have hset : v.toNat.testBit 0 = true := hv
    have hodd : v.toNat % 2 = 1 := by simpa [Nat.testBit_zero] using hset
    have hscrub : (csrSet (journalReg (clearLatch s path) path.val 0x070010 v.toNat 1) 0x070010 1).scrub = s.scrub :=
      (journalReg_ev ..).scrub
    have hdo (r : RegRow) : acceptDual (clearLatch s path) path r 0x070010 v.toNat =
        initDone (journalReg (clearLatch s path) path.val 0x070010 v.toNat 1) v.toNat := if_pos hset
    rw [hdo, initDone, if_pos hodd, scrubRelease, if_pos (by rw [hscrub]; exact hheld)]
    exact ⟨rfl, rfl⟩
  case resume =>
    intro path v c s hq hshut
    refine Answers.dual hq rfl (a := 0x080018) (by decide) rfl (fun h => ?_) (fun h => ?_)
    · rw [if_pos h]
      show (if s.therm.shut then _ else _ : State).therm.armed = _
      rw [if_pos hshut]
      rfl
    · rw [if_neg h]
      exact congrArg ThermSt.armed (regDw_ev ..).therm
  case release =>
    intro path v c s hq hpath hv hc hholder hact
    refine Answers.dual hq rfl (a := 0x0D0018) (by decide) rfl (fun _ => ?_) (fun h => absurd hc h)
    have hset : v.toNat.testBit 0 = true := hv
    have hfw : (journalReg (clearLatch s path) path.val 0x0D0018 v.toNat 1).fw = s.fw := (journalReg_ev ..).fw
    have hdo (r : RegRow) : acceptDual (clearLatch s path) path r 0x0D0018 v.toNat =
        releaseLease (journalReg (clearLatch s path) path.val 0x0D0018 v.toNat 1) path := if_pos hset
    rw [hdo, releaseLease, if_pos hpath, if_pos (by rw [hfw]; exact ⟨hholder, by decide, hact⟩), endLease_fw]
    exact ⟨rfl, rfl⟩
  case expiry =>
    intro d s hd hk
    refine ⟨expireDual (s.atLeast (d.at_ + 65)), by simp [exec, execDwWindowExpiry, hd, hk], ?_⟩
    have hlate : d.at_ + 64 < (s.atLeast (d.at_ + 65)).now := by rw [State.atLeast_now]; omega
    have hdt : (s.atLeast (d.at_ + 65)).regs.dual = some d := by rw [← hd]; unfold State.atLeast; split <;> rfl
    have hev := expireDual_ev (s.atLeast (d.at_ + 65))
    refine ⟨?_, by rw [hev.now]; exact hlate, fun a ha => (hev.csr a ha).trans ?_⟩
    · exact expireDual_dual hdt hlate
    · unfold State.atLeast
      split <;> rfl

/-! ### Fields of a word -/

/-- Bits below a limit are those of the word cut there. -/
theorem bitsOf_mod (x : Nat) {n lo w : Nat} (h : lo + w ≤ n) : bitsOf (x % 2 ^ n) lo w = bitsOf x lo w := by
  refine Nat.eq_of_testBit_eq fun i => ?_
  by_cases hi : i < w
  · simp [bitsOf, hi, show lo + i < n by omega]
  · simp [bitsOf, hi]

/-- A word with a field put in: the bits below it, the field, the bits above it. -/
theorem putBits_eq (x lo w v : Nat) :
    putBits x lo w v = x % 2 ^ lo + 2 ^ lo * (v % 2 ^ w + 2 ^ w * (x / 2 ^ lo / 2 ^ w)) := by
  unfold putBits bitsOf
  rw [Nat.shiftRight_eq_div_pow]
  have hx := Nat.div_add_mod x (2 ^ lo)
  have hq := Nat.div_add_mod (x / 2 ^ lo) (2 ^ w)
  have hcut : x = x / 2 ^ lo % 2 ^ w * 2 ^ lo + (x % 2 ^ lo + 2 ^ lo * (2 ^ w * (x / 2 ^ lo / 2 ^ w))) := by
    calc x = 2 ^ lo * (2 ^ w * (x / 2 ^ lo / 2 ^ w) + x / 2 ^ lo % 2 ^ w) + x % 2 ^ lo := by rw [hq, hx]
      _ = _ := by grind
  rw [show x - x / 2 ^ lo % 2 ^ w * 2 ^ lo = x % 2 ^ lo + 2 ^ lo * (2 ^ w * (x / 2 ^ lo / 2 ^ w)) by
    conv => lhs; lhs; rw [hcut]
    exact Nat.add_sub_cancel_left ..]
  grind

/-- A field put into a word is read back. -/
theorem bitsOf_putBits (x lo w v : Nat) : bitsOf (putBits x lo w v) lo w = v % 2 ^ w := by
  have hlow : x % 2 ^ lo < 2 ^ lo := Nat.mod_lt _ (Nat.two_pow_pos lo)
  rw [putBits_eq, bitsOf, Nat.shiftRight_eq_div_pow, Nat.add_mul_div_left _ _ (Nat.two_pow_pos lo), Nat.div_eq_of_lt hlow,
    Nat.zero_add, Nat.add_mul_mod_self_left]
  exact Nat.mod_mod ..

/-- A stored field reads back. -/
theorem csrFld_csrSet_putBits (s : State) {a lo w : Nat} (x v : Nat) (ha : regReset a < 2 ^ 32) (h : lo + w ≤ 32) :
    csrFld (csrSet s a (putBits x lo w v)) a lo w = v % 2 ^ w := by
  unfold csrFld
  rw [csrGet_csrSet_same _ _ _ ha, bitsOf_mod _ h, bitsOf_putBits]

/-! ### Event rings (R343 to R347) -/

/-- A command that is one write of a plain register on a quiet path. -/
theorem Answers.word {cmd : Instr} {s : State} {path : Path} {b : Bool} {a : Nat} {v : Word} {sc : Bool} {P : State → Prop}
    (hq : quietPath s path) (hb : b = true)
    (hexec : exec cmd s = Machine.whenDo (pathUp s path && b) s (writeReg s path a v.toNat sc))
    (ha : plainReg a = true) (h4 : a % 4 = 0) (hchr : a / 65536 = 0x0B → chrosyOn s = true)
    (h : P (applyWord (clearLatch s path) path a v.toNat sc)) : Answers cmd s P := by
  refine ⟨_, hexec.trans (if_pos (by rw [hq.1, hb]; rfl)), ?_⟩
  rw [writeReg_plain hq v sc ha h4 hchr]
  exact h

/-- A write into event ring k's registers, of an offset below 0x20, is taken by ring k while it is served. -/
theorem applyWord_evRing (s : State) (path : Path) (k : Fin 4) {off : Nat} (hoff : off < 0x20) (v : Nat) (sc : Bool)
    (hrow : (regRow (evRingReg k.val off)).isSome) (hserved : evRingServed s k = true) :
    applyWord s path (evRingReg k.val off) v sc =
      if off = 0x08 then writeEvRingCfg s k v else if off = 0x0C then writeEvHead s k v
      else storeWord s path ((regRow (evRingReg k.val off)).get hrow) (evRingReg k.val off) v := by
  obtain ⟨r, hr⟩ := Option.isSome_iff_exists.mp hrow
  have hk := k.isLt
  have hblock : evRingReg k.val off / 65536 = 0x0A := by unfold evRingReg; omega
  have hring : (⟨(evRingReg k.val off - 0x0A0100) / 0x20 % 4, Nat.mod_lt _ (by decide)⟩ : Fin 4) = k := by
    apply Fin.ext
    show (evRingReg k.val off - 0x0A0100) / 0x20 % 4 = k.val
    unfold evRingReg
    omega
  have hmode : evRingReg k.val off ≠ 0x0A0000 := by unfold evRingReg; omega
  have hrange : 0x0A0100 ≤ evRingReg k.val off ∧ evRingReg k.val off < 0x0A0180 := by unfold evRingReg; omega
  have hlow : evRingReg k.val off % 0x20 = off := by unfold evRingReg; omega
  simp only [applyWord, hr, hblock, writeEvents, if_neg hmode, if_pos hrange, hring, hserved, hlow, Option.get_some,
    Bool.true_eq_false, if_false]

theorem plainReg_evRing (k : Fin 4) : plainReg (evRingReg k.val 8) = true ∧ plainReg (evRingReg k.val 12) = true := by
  revert k
  decide

theorem regRow_evRing (k : Fin 4) : (regRow (evRingReg k.val 8)).isSome ∧ (regRow (evRingReg k.val 12)).isSome ∧
    regReset (evRingReg k.val 8) < 2 ^ 32 := by
  revert k
  decide

theorem evRingReg_aligned (k : Fin 4) : evRingReg k.val 8 % 4 = 0 ∧ evRingReg k.val 12 % 4 = 0 ∧
    evRingReg k.val 8 / 65536 ≠ 0x0B ∧ evRingReg k.val 12 / 65536 ≠ 0x0B := by
  unfold evRingReg
  omega

/-- A field of another register than the one written. -/
theorem csrFld_csrSet_other (s : State) {a b : Nat} (x : Nat) (hne : b ≠ a) (lo w : Nat) :
    csrFld (csrSet s a x) b lo w = csrFld s b lo w := by
  unfold csrFld
  rw [csrGet_csrSet_other _ _ hne]

/-- Event ring k's part of the event unit. -/
def setEvRing (s : State) (k : Fin 4) (r : EvRing) : State := { s with evt := { s.evt with rings := s.evt.rings.set k r } }

@[simp] theorem setEvRing_same (s : State) (k : Fin 4) (r : EvRing) : (setEvRing s k r).evt.rings[k] = r := by
  simp [setEvRing]

@[simp] theorem csrFld_setEvRing (s : State) (k : Fin 4) (r : EvRing) (a lo w : Nat) :
    csrFld (setEvRing s k r) a lo w = csrFld s a lo w := rfl

/-- The configuration word of ring k with LOG2 and HOSTMASK of a write and the ENABLE bit it held. -/
def evRingWord (s : State) (k : Fin 4) (log2 v : Nat) : Nat :=
  log2 + bitsOf (csrGet s (evRingReg k.val 8)) 5 1 * 32 + bitsOf v 6 1 * 64

/-- The state in which ring k's ENABLE bit reads b. -/
def setRingEnable (u : State) (k : Fin 4) (b : Nat) : State :=
  csrSet u (evRingReg k.val 8) (putBits (csrGet u (evRingReg k.val 8)) 5 1 b)

theorem csrFld_setRingEnable (u : State) (k : Fin 4) (b : Nat) :
    csrFld (setRingEnable u k b) (evRingReg k.val 8) 5 1 = b % 2 := by
  have h := csrFld_csrSet_putBits (lo := 5) (w := 1) u (csrGet u (evRingReg k.val 8)) b (regRow_evRing k).2.2 (by decide)
  rw [Nat.pow_one] at h
  exact h

/-- A ring that may be enabled starts at tail and head zero with ENABLE set. -/
theorem writeEvRingCfg_enable {s : State} {k : Fin 4} {v : Nat} (hv : v.testBit 5 = true) (hoff : s.evt.rings[k].active = false)
    (hok : evRingOk (csrSet s (evRingReg k.val 8) (evRingWord s k (bitsOf v 0 5) v)) k = true) :
    writeEvRingCfg s k v =
      setEvRing (csrSet (setRingEnable (csrSet s (evRingReg k.val 8) (evRingWord s k (bitsOf v 0 5) v)) k 1)
        (evRingReg k.val 12) 0) k { s.evt.rings[k] with active := true, tail := 0, head := 0, pinIdx := none, last := 0 } := by
  unfold evRingWord at hok
  unfold writeEvRingCfg
  simp only [hoff, hv, hok, Bool.false_eq_true, if_false, if_true]
  rfl

/-- A ring written without ENABLE has the bit cleared; an active one is disabled. -/
theorem writeEvRingCfg_disable {s : State} {k : Fin 4} {v : Nat} (hv : v.testBit 5 = false) :
    ∃ u r, u.evt = s.evt ∧ r.active = false ∧
      writeEvRingCfg s k v = if s.evt.rings[k].active then setEvRing (setRingEnable u k 0) k r else setRingEnable u k 0 := by
  unfold writeEvRingCfg
  extract_lets a r old log2 u _ _ _ w n
  have hclear : ¬ v.testBit 5 = true := by rw [hv]; exact Bool.false_ne_true
  exact ⟨u, { r with active := false, lastTail := r.tail % n, lastPhase := decide (r.tail / n % 2 = 0), pinIdx := none }, rfl, rfl,
    (if_neg hclear).trans rfl⟩

/-- The head moves forward to an index that passes no unwritten record. -/
theorem writeEvHead_head {s : State} {k : Fin 4} {v : Nat} (hin : v % 65536 < evRingSize s k)
    (hfree : (v % 65536 + evRingSize s k - s.evt.rings[k].head % evRingSize s k) % evRingSize s k ≤
      s.evt.rings[k].tail - s.evt.rings[k].head) :
    (writeEvHead s k v).evt.rings[k].head = s.evt.rings[k].head +
      (v % 65536 + evRingSize s k - s.evt.rings[k].head % evRingSize s k) % evRingSize s k := by
  unfold writeEvHead
  simp only [hin, hfree, and_self, if_true]
  simp

/-- Settles O29 (R343 to R347): the ring's register decides, and its own part of the event unit is set. -/
theorem eventRingRegisters : Obligations.EventRingRegisters := by
  unfold Obligations.EventRingRegisters
  refine ⟨?enable, ?disable, ?head, ?ack⟩
  case enable =>
    intro path k v s hq hv hserved hoff hok
    refine Answers.word hq hv rfl (plainReg_evRing k).1 (evRingReg_aligned k).1 (fun h => absurd h (evRingReg_aligned k).2.2.1) ?_
    rw [applyWord_evRing (clearLatch s path) _ k (by decide) _ _ (regRow_evRing k).1 hserved, if_pos rfl]
    have hne : evRingReg k.val 8 ≠ evRingReg k.val 12 := by unfold evRingReg; omega
    rw [writeEvRingCfg_enable (s := clearLatch s path) hv hoff hok, setEvRing_same, csrFld_setEvRing, csrFld_csrSet_other _ _ hne,
      csrFld_setRingEnable]
    exact ⟨rfl, rfl, rfl, rfl⟩
  case disable =>
    intro path k v s hq hv hserved
    refine Answers.word hq (b := !v.getLsbD 5) (by rw [hv]; rfl) rfl (plainReg_evRing k).1 (evRingReg_aligned k).1
      (fun h => absurd h (evRingReg_aligned k).2.2.1) ?_
    rw [applyWord_evRing (clearLatch s path) _ k (by decide) _ _ (regRow_evRing k).1 hserved, if_pos rfl]
    obtain ⟨u, r, hu, hr, hw⟩ := writeEvRingCfg_disable (s := clearLatch s path) (k := k) hv
    rw [hw]
    split
    · rw [setEvRing_same, csrFld_setEvRing, csrFld_setRingEnable]
      exact ⟨hr, rfl⟩
    · next hidle =>
        refine ⟨?_, csrFld_setRingEnable u k 0⟩
        show u.evt.rings[k].active = false
        rw [hu]
        exact Bool.eq_false_iff.mpr hidle
  case head =>
    intro path k v s hq hserved hin hfree
    refine Answers.word hq (b := true) rfl (by rw [Bool.and_true]; rfl) (plainReg_evRing k).2 (evRingReg_aligned k).2.1
      (fun h => absurd h (evRingReg_aligned k).2.2.2) ?_
    rw [applyWord_evRing (clearLatch s path) _ k (by decide) _ _ (regRow_evRing k).2.1 hserved, if_neg (by decide), if_pos rfl]
    exact writeEvHead_head (s := clearLatch s path) hin hfree
  case ack =>
    intro path v s hq
    refine ⟨_, if_pos hq.1, ?_⟩
    rw [writePair_eq hq v (by decide) (by decide) (by decide)]
    exact ⟨Nat.mod_eq_of_lt v.isLt, rfl⟩

/-! ### Reads with a side effect (R536, R539) -/

/-- A command that is one read on a quiet path of a register that latches no high word. -/
theorem Answers.read {cmd : Instr} {s : State} {path : Path} {a : Nat} {P : State → Prop} (hq : quietPath s path)
    (hlatch : s.regs.latch[path] = none) (hexec : exec cmd s = Machine.whenDo (pathUp s path) s (readReg s path a))
    (h4 : a % 4 = 0) (hdoor : isDoorbell a = false) (hlow : pairLow a = false)
    (h : P { readEffect (clearLatch s path) a with
      regs := { (readEffect (clearLatch s path) a).regs with lastRead := BitVec.ofNat 64 (liveWord s a) } }) :
    Answers cmd s P := by
  refine ⟨_, hexec.trans (if_pos hq.1), ?_⟩
  rw [readReg_eq hq hlatch h4 hdoor hlow]
  exact h

/-- Settles O30 (R536, R539): the word read is the one before the side effect, and each register has its own effect. -/
theorem readsAnswerTheOldValue : Obligations.ReadsAnswerTheOldValue := by
  unfold Obligations.ReadsAnswerTheOldValue
  refine ⟨?mfifo, ?rdata, ?qual, ?chrosy⟩
  case mfifo =>
    intro path s hq hlatch
    exact Answers.read hq hlatch rfl (by decide) (by decide) (by decide) ⟨rfl, rfl⟩
  case rdata =>
    intro path s hq hlatch hfound
    refine Answers.read hq hlatch rfl (by decide) (by decide) (by decide) ?_
    have heff : readEffect (clearLatch s path) 0x0A00BC = startLookup (clearLatch s path)
        ((s.jrn.rsel + 1) % 2 ^ 64) (some (s.jrn.foundJ + 1)) := if_pos hfound
    rw [heff]
    exact ⟨rfl, rfl, rfl⟩
  case qual =>
    intro path s hq hlatch
    exact Answers.read hq hlatch rfl (by decide) (by decide) (by decide) ⟨rfl, rfl⟩
  case chrosy =>
    intro path s hq hlatch hon
    refine Answers.read hq hlatch rfl (by decide) (by decide) (by decide) ?_
    have heff : readEffect (clearLatch s path) 0x0B0044 = chrLatch (clearLatch s path) := if_pos hon
    rw [heff]
    exact ⟨rfl, rfl⟩

/-! ### The test access port (R491, R492) -/

/-- An instruction refused acts as BYPASS, and is reported. -/
theorem jtagRefused_keeps (s : State) (code why : Nat) :
    (jtagRefused s code why).jtag = { s.jtag with ir := 0xFF, dr := 0, driven := false } ∧ (jtagRefused s code why).dram = s.dram :=
  ⟨(raise_ev ..).jtag, (raise_ev ..).dram⟩

/-- The identification word has its fixed part below bit 28 and the die step above. -/
theorem idcodeOf_parts (s : State) :
    idcodeOf s % 2 ^ 28 = 0x9616 * 2 ^ 12 + 0x54E * 2 + 1 ∧ idcodeOf s / 2 ^ 28 = bitsOf (csrGet s 0x000000) 16 4 := by
  unfold idcodeOf
  omega

/-- Settles O54 (R491, R492; what IDCODE and BYPASS capture is the model's choice, log entry 56). -/
theorem testAccessPort : Obligations.TestAccessPort := by
  unfold Obligations.TestAccessPort
  refine ⟨?bypass, ?idcode, ?preload, ?ready, ?notReady⟩
  case bypass =>
    intro code s hp hcode
    exact ⟨_, if_pos (by rw [hp, hcode]; rfl), rfl⟩
  case idcode =>
    intro s hp
    exact ⟨_, if_pos hp, rfl, (idcodeOf_parts s).1, (idcodeOf_parts s).2, rfl⟩
  case preload =>
    intro bumps s hp
    exact ⟨_, if_pos hp, rfl, rfl, rfl, rfl⟩
  case ready =>
    intro s hp hready
    refine ⟨⟨_, if_pos hp, ?_⟩, ⟨_, if_pos hp, ?_⟩⟩
    · rw [if_pos hready]
      exact jtagRefused_keeps s 0x03 0
    · rw [if_pos hready]
      exact jtagRefused_keeps s 0x10 0
  case notReady =>
    intro s hp hready
    refine ⟨⟨_, if_pos hp, ?_⟩, ⟨_, if_pos hp, ?_⟩⟩
    · rw [if_neg (by simp [hready])]
      exact ⟨rfl, rfl⟩
    · by_cases hlc : 1 < s.fuse.lc
      · simp [hready, hlc, Nat.not_le.mpr hlc, jtagRefused_keeps]
      · simp [hready, hlc, Nat.le_of_not_lt hlc]

end Sys2Proof.Machine
end


section
/-! Training and calibration (R104 to R132): how each step of a training moves the lanes and the records, and the obligations
O14, O15 and O16. -/

namespace Sys2Proof.Machine

/-! ### Lanes -/

@[simp] theorem laneGet_laneSet_same (s : State) (k : Nat) (l : Lane) : laneGet (laneSet s k l) k = l := smGet_smSet_same

theorem laneGet_laneSet_other (s : State) {k i : Nat} (l : Lane) (h : i ≠ k) : laneGet (laneSet s k l) i = laneGet s i :=
  smGet_smSet_other h

/-- Lanes are read from the training state alone. -/
theorem laneGet_of_lanes {s t : State} (h : t.train.lanes = s.train.lanes) (k : Nat) : laneGet t k = laneGet s k := by
  unfold laneGet
  rw [h]

theorem laneGet_of_train {s t : State} (h : t.train = s.train) (k : Nat) : laneGet t k = laneGet s k :=
  laneGet_of_lanes (h ▸ rfl) k

/-- A drift changes a record at most. -/
theorem checkDrift_eq (s : State) (region lane : Nat) :
    checkDrift s region lane = s ∨ ∃ r f, checkDrift s region lane = setRec s r f := by
  unfold checkDrift
  extract_lets k
  split
  · exact .inl rfl
  · extract_lets
    split
    · exact .inr ⟨k, _, rfl⟩
    · exact .inl rfl

theorem checkDrift_lanes (s : State) (region lane : Nat) : (checkDrift s region lane).train.lanes = s.train.lanes := by
  rcases checkDrift_eq s region lane with h | ⟨r, f, h⟩ 
  · rw [h]
  · rw [h]
    rfl

theorem checkDrift_now (s : State) (region lane : Nat) : (checkDrift s region lane).now = s.now := by
  rcases checkDrift_eq s region lane with h | ⟨r, f, h⟩ 
  · rw [h]
  · rw [h]
    rfl

/-! ### The sweeps of a region -/

/-- One lane's training, as `trainLanes` folds it. -/
def trainOne (region : Nat) (f : LaneSweep → Lane → Lane × Bool) (x : List LaneSweep × State) (w : LaneSweep) :
    List LaneSweep × State :=
  (if (f w (laneGet x.2 (laneKey region (sweepPos w)))).2 then x.1 else x.1 ++ [w],
    laneSet x.2 (laneKey region (sweepPos w)) (f w (laneGet x.2 (laneKey region (sweepPos w)))).1)

theorem trainLanes_eq (s : State) (region : Nat) (f : LaneSweep → Lane → Lane × Bool) (sw : List LaneSweep) :
    trainLanes s region f sw = (regionSweeps region sw).foldl (trainOne region f) ([], s) := rfl

/-- A lane that no sweep of the list names keeps its state. -/
theorem foldl_trainOne_other (region : Nat) (f : LaneSweep → Lane → Lane × Bool) (k : Nat) (l : List LaneSweep)
    (x : List LaneSweep × State) (h : ∀ w ∈ l, k ≠ laneKey region (sweepPos w)) :
    laneGet (l.foldl (trainOne region f) x).2 k = laneGet x.2 k := by
  induction l generalizing x with
  | nil => rfl
  | cons w l ih =>
    rw [List.foldl_cons, ih _ fun v hv => h v (List.mem_cons_of_mem _ hv)]
    exact laneGet_laneSet_other _ _ (h w List.mem_cons_self)

/-- A lane swept once becomes what its sweep gives. -/
theorem foldl_trainOne_mem (region : Nat) (f : LaneSweep → Lane → Lane × Bool) (w : LaneSweep) (l : List LaneSweep)
    (x : List LaneSweep × State) (hw : w ∈ l) (hd : l.Pairwise fun a b => sweepPos a ≠ sweepPos b) :
    laneGet (l.foldl (trainOne region f) x).2 (laneKey region (sweepPos w)) =
      (f w (laneGet x.2 (laneKey region (sweepPos w)))).1 := by
  induction l generalizing x with
  | nil => exact absurd hw List.not_mem_nil
  | cons v l ih =>
    obtain ⟨hv, hl⟩ := List.pairwise_cons.mp hd
    rw [List.foldl_cons]
    have hkey : ∀ {a b : LaneSweep}, sweepPos a ≠ sweepPos b → laneKey region (sweepPos a) ≠ laneKey region (sweepPos b) := by
      intro a b h
      unfold laneKey
      omega
    rcases List.mem_cons.mp hw with rfl | hw
    · rw [foldl_trainOne_other region f _ l _ fun u hu => hkey (hv u hu)]
      exact laneGet_laneSet_same ..
    · rw [ih _ hw hl]
      exact congrArg (fun y => (f w y).1) (laneGet_laneSet_other _ _ (hkey (hv w hw)).symm)

/-- Only a swept lane whose sweep tells a failure is listed as failed. -/
theorem mem_foldl_trainOne_failed (region : Nat) (f : LaneSweep → Lane → Lane × Bool) {v : LaneSweep} (l : List LaneSweep)
    (x : List LaneSweep × State) (h : v ∈ (l.foldl (trainOne region f) x).1) :
    v ∈ x.1 ∨ (v ∈ l ∧ ∃ y, (f v y).2 = false) := by
  induction l generalizing x with
  | nil => exact .inl h
  | cons w l ih =>
    rcases ih _ h with h | ⟨hv, hy⟩
    · unfold trainOne at h
      by_cases hok : (f w (laneGet x.2 (laneKey region (sweepPos w)))).2 = true
      · exact .inl (by rw [if_pos hok] at h; exact h)
      · rw [if_neg hok] at h
        rcases List.mem_append.mp h with h | h
        · exact .inl h
        · obtain rfl := List.mem_singleton.mp h
          exact .inr ⟨List.mem_cons_self, _, Bool.eq_false_iff.mpr hok⟩
    · exact .inr ⟨List.mem_cons_of_mem _ hv, hy⟩

/-- A property of every lane that each sweep of the list keeps, the whole list keeps. -/
theorem foldl_trainOne_keeps {α : Type} (g : Lane → α) (region : Nat) (f : LaneSweep → Lane → Lane × Bool) (k : Nat)
    (l : List LaneSweep) (x : List LaneSweep × State) (h : ∀ w ∈ l, ∀ y, g (f w y).1 = g y) :
    g (laneGet (l.foldl (trainOne region f) x).2 k) = g (laneGet x.2 k) := by
  induction l generalizing x with
  | nil => rfl
  | cons w l ih =>
    rw [List.foldl_cons, ih _ fun v hv => h v (List.mem_cons_of_mem _ hv)]
    by_cases hk : k = laneKey region (sweepPos w)
    · subst hk
      exact (congrArg g (laneGet_laneSet_same ..)).trans (h w List.mem_cons_self _)
    · exact congrArg g (laneGet_laneSet_other _ _ hk)

/-- `markWrites` changes no lane but the read lane of a failed write lane. -/
theorem markWrites_other (region : Nat) (failed : List LaneSweep) (s : State) {k : Nat}
    (h : ∀ w ∈ failed, w.write = true → k ≠ laneKey region w.lane) : laneGet (markWrites region failed s) k = laneGet s k := by
  unfold markWrites
  have hl : ∀ w ∈ failed.filter (·.write), k ≠ laneKey region w.lane := fun w hw =>
    h w (List.mem_filter.mp hw).1 (List.mem_filter.mp hw).2
  generalize failed.filter (·.write) = l at hl
  induction l generalizing s with
  | nil => rfl
  | cons w l ih =>
    rw [List.foldl_cons, ih _ fun v hv => hl v (List.mem_cons_of_mem _ hv)]
    exact laneGet_laneSet_other _ _ (hl w List.mem_cons_self)

/-- It marks a lane failed and keeps its taps. -/
theorem markWrites_keeps {α : Type} (g : Lane → α) (hg : ∀ l : Lane, g { l with failed := true } = g l) (region : Nat)
    (failed : List LaneSweep) (s : State) (k : Nat) : g (laneGet (markWrites region failed s) k) = g (laneGet s k) := by
  unfold markWrites
  generalize failed.filter (·.write) = l
  induction l generalizing s with
  | nil => rfl
  | cons w l ih =>
    rw [List.foldl_cons, ih]
    by_cases hk : k = laneKey region w.lane
    · subst hk
      exact (congrArg g (laneGet_laneSet_same ..)).trans (hg _)
    · exact congrArg g (laneGet_laneSet_other _ _ hk)

/-- The sweep of a lane that reports no error at any tap. -/
def cleanSweep (lane : Nat) (write : Bool) : LaneSweep := { lane := lane, write := write }

/-- The sweep a list gives for a lane: its own entry or one without errors. -/
def sweepFor (sw : List LaneSweep) (lane : Nat) (write : Bool) : LaneSweep :=
  (sw.find? fun w => decide (w.lane = lane) && (w.write == write)).getD (cleanSweep lane write)

theorem regionSweeps_port {region : Nat} (h : region < 16) (sw : List LaneSweep) :
    regionSweeps region sw = (List.range 72).map (sweepFor sw · false) := if_pos h

theorem regionSweeps_pc {region : Nat} (h16 : 16 ≤ region) (h80 : region < 80) (sw : List LaneSweep) :
    regionSweeps region sw = (List.range 74).map (sweepFor sw · false) ++ (List.range 74).map (sweepFor sw · true) :=
  (if_neg (by omega)).trans (if_pos h80)

theorem sweepFor_lane (sw : List LaneSweep) (lane : Nat) (write : Bool) :
    (sweepFor sw lane write).lane = lane ∧ (sweepFor sw lane write).write = write := by
  unfold sweepFor
  cases h : sw.find? fun w => decide (w.lane = lane) && (w.write == write) with
  | none => exact ⟨rfl, rfl⟩
  | some w => simpa using List.find?_some h

/-- A list of one sweep gives it for its own lane and a sweep without errors for the others. -/
theorem sweepFor_singleton (w : LaneSweep) (lane : Nat) (write : Bool) :
    sweepFor [w] lane write = w ∨ sweepFor [w] lane write = cleanSweep lane write := by
  unfold sweepFor
  by_cases h : (decide (w.lane = lane) && (w.write == write)) = true
  · exact .inl (by simp [List.find?, h])
  · exact .inr (by simp [List.find?, Bool.eq_false_iff.mpr h])

theorem sweepFor_singleton_self (w : LaneSweep) : sweepFor [w] w.lane w.write = w := by
  simp [sweepFor]

/-- The sweeps of a port or a pseudo-channel name different positions. -/
theorem regionSweeps_distinct {region : Nat} (h80 : region < 80) (sw : List LaneSweep) :
    (regionSweeps region sw).Pairwise fun a b => sweepPos a ≠ sweepPos b := by
  have hdir : ∀ (n : Nat) (write : Bool),
      ((List.range n).map (sweepFor sw · write)).Pairwise fun a b => sweepPos a ≠ sweepPos b := by
    intro n write
    refine List.pairwise_map.mpr (List.nodup_range.imp fun {a b} hab => ?_)
    simp only [sweepPos, sweepFor_lane]
    omega
  by_cases h : region < 16
  · rw [regionSweeps_port h]
    exact hdir 72 false
  · rw [regionSweeps_pc (by omega) h80]
    refine List.pairwise_append.mpr ⟨hdir 74 false, hdir 74 true, ?_⟩
    intro a ha b hb
    obtain ⟨i, hi, rfl⟩ := List.mem_map.mp ha
    obtain ⟨j, hj, rfl⟩ := List.mem_map.mp hb
    have := List.mem_range.mp hi
    simp only [sweepPos, sweepFor_lane, Bool.false_eq_true, if_false, if_true]
    omega

/-- Each sweep of a region is a sweep of the list or one without errors, of a lane below 74. -/
theorem mem_regionSweeps_singleton {region : Nat} (h80 : region < 80) {w v : LaneSweep} (h : v ∈ regionSweeps region [w]) :
    v.lane < 74 ∧ (v = w ∨ v = cleanSweep v.lane v.write) := by
  have hone : ∀ lane write, lane < 74 → v = sweepFor [w] lane write →
      v.lane < 74 ∧ (v = w ∨ v = cleanSweep v.lane v.write) := by
    intro lane write hl hv
    obtain ⟨hlane, hwrite⟩ := sweepFor_lane [w] lane write
    rw [← hv] at hlane hwrite
    refine ⟨hlane ▸ hl, ?_⟩
    rw [hlane, hwrite, hv]
    exact sweepFor_singleton w lane write
  by_cases hp : region < 16
  · rw [regionSweeps_port hp] at h
    obtain ⟨i, hi, rfl⟩ := List.mem_map.mp h
    exact hone i false (by have := List.mem_range.mp hi; omega) rfl
  · rw [regionSweeps_pc (by omega) h80] at h
    rcases List.mem_append.mp h with h | h
    · obtain ⟨i, hi, rfl⟩ := List.mem_map.mp h
      exact hone i false (List.mem_range.mp hi) rfl
    · obtain ⟨i, hi, rfl⟩ := List.mem_map.mp h
      exact hone i true (List.mem_range.mp hi) rfl

/-- With no sweep given every lane of the region is swept without errors. -/
theorem mem_regionSweeps_nil {region : Nat} (h80 : region < 80) {v : LaneSweep} (h : v ∈ regionSweeps region []) :
    v = cleanSweep v.lane v.write := by
  by_cases hp : region < 16
  · rw [regionSweeps_port hp] at h
    obtain ⟨i, -, rfl⟩ := List.mem_map.mp h
    rfl
  · rw [regionSweeps_pc (by omega) h80] at h
    rcases List.mem_append.mp h with h | h <;>
    · obtain ⟨i, -, rfl⟩ := List.mem_map.mp h
      rfl

/-- A sweep without errors passes the full training of a port's or a pseudo-channel's lane. -/
theorem fullLane_clean {region : Nat} (h80 : region < 80) (lane : Nat) (write : Bool) (l : Lane) :
    (fullLane region (cleanSweep lane write) l).2 = true := by
  unfold fullLane
  rw [if_neg (by omega)]
  unfold centreLane
  simp [cleanSweep, widest, widestFrom, longer, runMiddle]

/-- At fast training it keeps the lane's taps. -/
theorem fastLaneOf_clean (region lane : Nat) (write : Bool) (l : Lane) :
    ((fastLaneOf region (cleanSweep lane write) l).1.delay, (fastLaneOf region (cleanSweep lane write) l).1.thresh) =
      (l.delay, l.thresh) := by
  unfold fastLaneOf
  simp [cleanSweep, verified]

/-! ### Records and fast training (O14) -/

/-- The end of a pseudo-channel's training keeps its lanes: what follows concerns spares, records and the queue. -/
theorem pcTrained_lanes (s : State) (n : Pc) (fast : Bool) (bad : List Nat) :
    (pcTrained s n fast bad).train.lanes = s.train.lanes := by
  unfold pcTrained
  extract_lets old
  split
  next m ok _ =>
    extract_lets lanes u v
    have hv : v.train.lanes = s.train.lanes := by
      simp only [v]
      split <;> rfl
    split
    · exact hv
    · rw [(goOffline_mv v n).train.resolve_left (by decide)]
      exact hv

/-- Loading a stored value changes its own lane alone. -/
theorem loadLane_self (k : Nat) (s : State) (x : Nat × CalLane) (h : (laneGet s (laneKey k x.1)).auto = none) :
    (laneGet (loadLane k s x) (laneKey k x.1)).delay = x.2.delay ∧ (laneGet (loadLane k s x) (laneKey k x.1)).thresh = x.2.thresh := by
  unfold loadLane
  simp [h]

/-- Fast training of a pseudo-channel without sweep entries: the stored lane is loaded, every lane is verified. -/
theorem fastTrain_pc_lanes {s : State} {n : Pc} {c : CalCopy} {e : Nat × CalLane}
    (hcopy : useCopy s.train.recs[regionNo (.pc n)] = some c) (hlanes : c.lanes = [e]) :
    ∃ u failed, u.train.lanes = (loadLane (regionNo (.pc n)).val s e).train.lanes ∧
      (fastTrain s (.pc n) []).train.lanes =
        (markWrites (regionNo (.pc n)).val failed
          (trainLanes u (regionNo (.pc n)).val (fastLaneOf (regionNo (.pc n)).val) []).2).train.lanes := by
  unfold fastTrain
  extract_lets k
  split
  next h => exact absurd (h.symm.trans hcopy) (by simp)
  next s1 _ d h =>
    obtain rfl : d = c := Option.some.inj (h.symm.trans hcopy)
    rw [hlanes]
    extract_lets u
    refine ⟨u, _, ?_, (pcTrained_lanes ..).trans rfl⟩
    have hu : u.train = (loadLane k.val s1 e).train := (restoreMap_mv ..).train.resolve_left (by decide)
    have hload : (loadLane k.val s1 e).train.lanes = (loadLane k.val s e).train.lanes := by
      have hs1 : laneGet s1 (laneKey k.val e.1) = laneGet s (laneKey k.val e.1) := laneGet_of_lanes rfl _
      unfold loadLane
      simp only [hs1]
      split <;> rfl
    exact (congrArg TrainSt.lanes hu).trans hload

/-- Both copies bad: the region's lanes stay, it is due for full training, and the bad record is reported. -/
theorem needFull_lanes (s : State) (r : Region) : (needFull s r).train.lanes = s.train.lanes := by
  unfold needFull
  cases r <;> simp [recordBad, raise]

/-- A raised event takes the next SSN of a decided series. -/
theorem raise_next {s u : State} (h : u.seq = s.seq) (hd : s.seq.decided = true) {src code sev a0 a1 : Nat} :
    s.seq.next < (raise u src code sev a0 a1).seq.next := by
  rw [← h]
  exact raiseX_next _ _ _ _ _ _ _ _ _ (h ▸ hd)

theorem useCopy_none {r : CalRec} (ha : r.a.ok = false) (hb : r.b.ok = false) : useCopy r = none := by
  simp [useCopy, ha, hb]

theorem needFull_trn (s : State) (p : Port) : (needFull s (.port p)).links[p].trn = .started false := by
  unfold needFull recordBad
  dsimp only
  rw [raise, (raiseX_ev ..).links, pctlSend, State.modLink_same, State.modLink_same]

theorem needFull_next {s : State} {r : Region} (hr : r ≠ .crossing) (hd : s.seq.decided = true) :
    s.seq.next < (needFull s r).seq.next := by
  unfold needFull recordBad
  cases r with
  | port p =>
    dsimp only
    exact raise_next (by rfl) hd
  | pc n =>
    dsimp only
    exact raise_next (by rfl) hd
  | crossing => exact absurd rfl hr

/-- Settles O14 (R115, R124). -/
theorem calibrationCopyChosenOnLoading : Obligations.CalibrationCopyChosenOnLoading := by
  unfold Obligations.CalibrationCopyChosenOnLoading
  refine ⟨?higherB, ?higherA, ?equal, ?onlyA, ?onlyB, ?load, ?bothBad⟩
  case higherB =>
    intro r ha hb hg
    simp [useCopy, ha, hb, hg]
  case higherA =>
    intro r ha hb hg
    have hle : ¬ r.a.gen < r.b.gen := by bv_omega
    simp [useCopy, ha, hb, hle]
  case equal =>
    intro r ha hb hg
    simp [useCopy, ha, hb, hg]
  case onlyA =>
    intro r ha hb
    simp [useCopy, ha, hb]
  case onlyB =>
    intro r ha hb
    simp [useCopy, ha, hb]
  case load =>
    intro n c k x s ht hfull hcopy hlanes hk hauto
    refine ⟨_, if_pos (by simp [ht, hfull, handshake]), ?_⟩
    obtain ⟨u, failed, hu, hl⟩ := fastTrain_pc_lanes hcopy hlanes
    have hpair : ((laneGet (fastTrain s (.pc n) []) (laneKey (regionNo (.pc n)).val k)).delay,
        (laneGet (fastTrain s (.pc n) []) (laneKey (regionNo (.pc n)).val k)).thresh) = (x.delay, x.thresh) := by
      have h80 : (regionNo (.pc n)).val < 80 := by show 16 + n.val < 80; omega
      rw [laneGet_of_lanes hl, markWrites_keeps (fun l => (l.delay, l.thresh)) (fun _ => rfl), trainLanes_eq,
        foldl_trainOne_keeps (fun l => (l.delay, l.thresh)), laneGet_of_lanes hu]
      · obtain ⟨hd, ht⟩ := loadLane_self (regionNo (.pc n)).val s (k, x) hauto
        exact Prod.ext hd ht
      · intro w hw y
        rw [mem_regionSweeps_nil h80 hw]
        exact fastLaneOf_clean ..
    exact Prod.ext_iff.mp hpair
  case bothBad =>
    intro r sw s ht hh hr hfull ha hb
    have hnone : useCopy s.train.recs[regionNo r] = none := useCopy_none ha hb
    have hrun : fastTrain s r sw = needFull s r := by
      unfold fastTrain
      simp only [hnone]
    refine ⟨_, if_pos ?_, ?_⟩
    · cases r with
      | port p => simp [ht, hh]
      | pc n => simp [ht, hh, hfull n rfl]
      | crossing => exact absurd rfl hr
    · rw [hrun]
      exact ⟨needFull_lanes s r, fun p hp => hp ▸ needFull_trn s p, needFull_next hr⟩

/-! ### Full training (O15) -/

theorem recordDue_due (s : State) (r : Fin 81) (m : Bool) : (recordDue s r m).train.recs[r].due = true := by
  simp [recordDue]

/-- A change of its map makes a pseudo-channel's record due; nothing else of a training's end touches the training state. -/
theorem pcTrained_train (s : State) (n : Pc) (fast : Bool) (bad : List Nat) :
    (pcTrained s n fast bad).train = s.train ∨
      (pcTrained s n fast bad).train = (recordDue s (regionNo (.pc n)) true).train := by
  unfold pcTrained
  extract_lets old
  split
  next m ok _ =>
    extract_lets lanes u v
    have hv : v.train = s.train ∨ v.train = (recordDue s (regionNo (.pc n)) true).train := by
      simp only [v]
      split
      · exact .inr rfl
      · exact .inl rfl
    split
    · exact hv
    · rw [(goOffline_mv v n).train.resolve_left (by decide)]
      exact hv

/-- So does a port's. -/
theorem portTrained_train (s : State) (p : Port) (fast : Bool) (dn up : List Nat) :
    (portTrained s p fast dn up).train = s.train ∨
      (portTrained s p fast dn up).train = (recordDue s (regionNo (.port p)) true).train := by
  unfold portTrained
  extract_lets md mu
  split
  next md' okd _ =>
  split
  next mu' oku _ =>
  extract_lets gd gu u v
  have hv : v.train = s.train ∨ v.train = (recordDue s (regionNo (.port p)) true).train := by
    simp only [v]
    split
    · exact .inr rfl
    · exact .inl rfl
  split
  · rw [(failPort_mv v p 2 true).train.resolve_left (by decide)]
    exact hv
  · next w arg x y _ =>
    have hw : w.train = v.train := by
      rw [(sparesLow_mv ..).train.resolve_left (by decide), (sparesLow_mv ..).train.resolve_left (by decide)]
    have hx : x.train = w.train := by
      simp only [x]
      split <;> rfl
    have hy : y.train = x.train := (raise_ev ..).train
    have hend : ∀ z : State, z.train = y.train → z.train = s.train ∨ z.train = (recordDue s (regionNo (.port p)) true).train :=
      fun z hz => by
        rw [hz, hy, hx, hw]
        exact hv
    split
    · exact hend _ rfl
    · exact hend _ ((portUp_mv y p).train.resolve_left (by decide))

/-- The state of a full training when its lanes have been swept: the record is due. -/
def fullSwept (s : State) (r : Region) (sw : List LaneSweep) : State :=
  let x := trainLanes (trainTime s r) (regionNo r).val (fullLane (regionNo r).val) sw
  markWrites (regionNo r).val x.1 x.2

/-- Full training of a port or a pseudo-channel: the lanes are those of the sweeps, the record is due. -/
theorem fullTrain_train {s : State} {r : Region} (hr : r ≠ .crossing) (sw : List LaneSweep) :
    (fullTrain s r sw).train.lanes = (fullSwept s r sw).train.lanes ∧
      (fullTrain s r sw).train.recs[regionNo r].due = true ∧
      ((fullSwept s r sw).stack.ready = false → (fullTrain s r sw).train.lastFull = true) := by
  unfold fullTrain fullSwept
  extract_lets k x
  split
  next failed u hx =>
  rw [show x = (failed, u) from hx]
  extract_lets v _ w y
  have hw : w.train.lanes = v.train.lanes ∧ (v.stack.ready = false → w.train.lastFull = true) := by
    simp only [w]
    split
    · next hready => exact ⟨rfl, fun h => absurd hready (by simp [h])⟩
    · exact ⟨rfl, fun _ => rfl⟩
  have hy : y.train.lanes = v.train.lanes ∧ y.train.recs[regionNo r].due = true ∧
      (v.stack.ready = false → y.train.lastFull = true) := ⟨hw.1, by simp [y, setRec, k], hw.2⟩
  have hend : ∀ z : State, z.train = y.train ∨ z.train = (recordDue y (regionNo r) true).train →
      z.train.lanes = v.train.lanes ∧ z.train.recs[regionNo r].due = true ∧
      (v.stack.ready = false → z.train.lastFull = true) := by
    rintro z (hz | hz)
    · rw [hz]
      exact hy
    · rw [hz]
      exact ⟨hy.1, recordDue_due .., hy.2.2⟩
  cases r with
  | port p => exact hend _ (portTrained_train ..)
  | pc n => exact hend _ (pcTrained_train ..)
  | crossing => exact absurd rfl hr

/-- The one sweep given decides its own lane; the others are swept without errors and mark none. -/
theorem fullSwept_lane {s : State} {r : Region} {w : LaneSweep} (h80 : (regionNo r).val < 80)
    (hw : w ∈ regionSweeps (regionNo r).val [w]) :
    laneGet (fullSwept s r [w]) (laneKey (regionNo r).val (sweepPos w)) =
      (fullLane (regionNo r).val w (laneGet s (laneKey (regionNo r).val (sweepPos w)))).1 := by
  have htime : (trainTime s r).train = s.train := by
    unfold trainTime
    split
    · exact State.atLeast_train ..
    · rfl
  have hlane : w.lane < 74 := (mem_regionSweeps_singleton h80 hw).1
  unfold fullSwept
  rw [markWrites_other, trainLanes_eq, foldl_trainOne_mem _ _ w _ _ hw (regionSweeps_distinct h80 _)]
  · rw [laneGet_of_train htime]
  · intro v hv hwrite hkey
    rw [trainLanes_eq] at hv
    rcases mem_foldl_trainOne_failed _ _ _ _ hv with hnil | ⟨hmem, y, hfail⟩
    · exact absurd hnil List.not_mem_nil
    obtain ⟨hv74, hown | hclean⟩ := mem_regionSweeps_singleton h80 hmem
    · subst hown
      simp only [laneKey, sweepPos, hwrite, if_true] at hkey
      omega
    · rw [hclean, fullLane_clean h80] at hfail
      cases hfail

theorem fullSwept_stack (s : State) (r : Region) (sw : List LaneSweep) : (fullSwept s r sw).stack = s.stack := by
  have htime : (trainTime s r).stack = s.stack := by
    unfold trainTime
    split
    · exact State.atLeast_stack ..
    · rfl
  unfold fullSwept
  rw [(markWrites_mv ..).stack.resolve_left (by decide), (trainLanes_mv ..).stack.resolve_left (by decide), htime]

/-- The sweep of a listed lane is among those of its region. -/
theorem mem_regionSweeps_self {r : Region} {w : LaneSweep}
    (h : (∃ p : Port, r = .port p ∧ w.lane < 72 ∧ w.write = false) ∨ (∃ n : Pc, r = .pc n ∧ w.lane < 74)) :
    (regionNo r).val < 80 ∧ w ∈ regionSweeps (regionNo r).val [w] := by
  have hself := sweepFor_singleton_self w
  rcases h with ⟨p, rfl, hlane, hwrite⟩ | ⟨n, rfl, hlane⟩
  · refine ⟨by show p.val < 80; omega, ?_⟩
    rw [regionSweeps_port (by show p.val < 16; omega)]
    rw [hwrite] at hself
    exact List.mem_map.mpr ⟨w.lane, List.mem_range.mpr hlane, hself⟩
  · refine ⟨by show 16 + n.val < 80; omega, ?_⟩
    rw [regionSweeps_pc (by show 16 ≤ 16 + n.val; omega) (by show 16 + n.val < 80; omega)]
    refine List.mem_append.mpr ?_
    cases hwrite : w.write <;> rw [hwrite] at hself
    · exact .inl (List.mem_map.mpr ⟨w.lane, List.mem_range.mpr hlane, hself⟩)
    · exact .inr (List.mem_map.mpr ⟨w.lane, List.mem_range.mpr hlane, hself⟩)

/-! ### Retraining and records (O15) -/

/-- A pseudo-channel is read from the pseudo-channels alone. -/
theorem pc_of_pcs {s t : State} (h : t.pcs = s.pcs) (n : Pc) : t.pcs[n] = s.pcs[n] := by rw [h]

/-- Adopting the order registers changes no pseudo-channel but its order. -/
theorem adoptOrder_keeps {α : Type} (g : PcSt → α) (hg : ∀ c l, g { c with order := l } = g c) (s : State) (n : Pc) :
    g (adoptOrder s n).pcs[n] = g s.pcs[n] := by
  unfold adoptOrder
  extract_lets l
  split
  · rw [State.modPc_same, hg]
  · next u _ _ _ i _ =>
    have hu : g u.pcs[n] = g s.pcs[n] := by
      simp only [u]
      rw [State.modPc_same, hg]
    split
    · exact hu
    · exact (congrArg g (pc_of_pcs (raiseLim_ev ..).pcs n)).trans hu

theorem activityAfter_pcs (s : State) : (activityAfter s).pcs = s.pcs := (activityAfter_mv s).pcs.resolve_left (by decide)

theorem goOffline_mode (s : State) (n : Pc) : (goOffline s n).pcs[n].mode = .offline := by
  unfold goOffline
  simp only [State.modPc_same]

/-- A retraining that passed: online with the queue it had. -/
theorem retrainDone_passed (s : State) (n : Pc) :
    (retrainDone s n true).pcs[n].mode = .online ∧ (retrainDone s n true).pcs[n].queue = s.pcs[n].queue := by
  unfold retrainDone
  simp only [if_true, activityAfter_pcs, State.modPc_same]
  unfold wakePc
  refine ⟨?_, ?_⟩
  · rw [adoptOrder_keeps PcSt.mode fun _ _ => rfl, State.modPc_same]
  · rw [adoptOrder_keeps PcSt.queue fun _ _ => rfl, State.modPc_same]
    rfl

theorem retrainDone_failed (s : State) (n : Pc) : (retrainDone s n false).pcs[n].mode = .offline := by
  unfold retrainDone
  simp only [Bool.false_eq_true, if_false, activityAfter_pcs, goOffline_mode]

/-- With no management command waiting the end of a retraining runs nothing more. -/
theorem runWaiting_retrainDone {s : State} (h : s.fw.mPend = none) (n : Pc) (ok : Bool) :
    runWaiting (retrainDone s n ok) = retrainDone s n ok := by
  have hfw : (retrainDone s n ok).fw.mPend = none := by
    rw [(retrainDone_mv s n ok).fw.resolve_left (by decide)]
    exact h
  unfold runWaiting
  rw [hfw]

@[simp] theorem setRec_same (s : State) (r : Fin 81) (f : CalRec → CalRec) : (setRec s r f).train.recs[r] = f s.train.recs[r] := by
  simp [setRec]

/-- The copy a rewrite stores passes its check. -/
theorem newCopy_ok (s : State) (k : Fin 81) : (newCopy s k).ok = true := decide_eq_true rfl

/-- A rewrite ends with the new copy in both places and nothing due. -/
theorem rewriteRecord_rec (s : State) (k : Fin 81) :
    (rewriteRecord s k).train.recs[k].due = false ∧ (rewriteRecord s k).train.recs[k].a = (rewriteRecord s k).train.recs[k].b ∧
      (rewriteRecord s k).train.recs[k].a.ok = true ∧ (rewriteRecord s k).train.recs[k].a.gen =
        (if s.train.recs[k].a.gen < s.train.recs[k].b.gen then s.train.recs[k].b.gen else s.train.recs[k].a.gen) + 1 := by
  unfold rewriteRecord
  extract_lets r u c one both v w _ x
  have hu : u.train = s.train := by
    simp only [u]
    split
    · rfl
    · exact State.atLeast_train ..
  have hfirst : (if firstIsB r then v.train.recs[k].b else v.train.recs[k].a) = c := by
    simp only [v, setRec_same, hu, one, ← show r = s.train.recs[k] from rfl]
    split <;> rfl
  have hw : w = setRec v k both := if_pos (by rw [hfirst]; exact newCopy_ok u k)
  have hrec : x.train.recs[k] = both v.train.recs[k] := by
    show w.train.recs[k] = _
    rw [hw, setRec_same]
  have hend : ∀ z : State, z.train = x.train → z.train.recs[k].due = false ∧ z.train.recs[k].a = z.train.recs[k].b ∧
      z.train.recs[k].a.ok = true ∧ z.train.recs[k].a.gen =
        (if s.train.recs[k].a.gen < s.train.recs[k].b.gen then s.train.recs[k].b.gen else s.train.recs[k].a.gen) + 1 := by
    intro z hz
    rw [hz, hrec]
    refine ⟨rfl, rfl, newCopy_ok u k, ?_⟩
    show (newCopy u k).gen = _
    unfold newCopy
    rw [hu]
  split
  · exact hend _ (raise_ev ..).train
  · exact hend _ rfl

/-- Settles O15 (R110, R117, R125; what a sweep's counts give is the model's choice, log entry 84). -/
theorem trainingAndRetraining : Obligations.TrainingAndRetraining := by
  unfold Obligations.TrainingAndRetraining
  refine ⟨?full, ?lost, ?passed, ?failed, ?rewrite⟩
  case full =>
    intro r w s ht hh hcase
    have hself : (∃ p : Port, r = .port p ∧ w.lane < 72 ∧ w.write = false) ∨ (∃ n : Pc, r = .pc n ∧ w.lane < 74) :=
      hcase.imp_right fun ⟨n, hr, _, hlane⟩ => ⟨n, hr, hlane⟩
    obtain ⟨h80, hmem⟩ := mem_regionSweeps_self hself
    have hr : r ≠ .crossing := by
      rintro rfl
      exact absurd h80 (by decide)
    refine ⟨_, if_pos ?_, ?_⟩
    · rcases hcase with ⟨p, rfl, -⟩ | ⟨n, rfl, hfull, -⟩
      · simp [ht, hh]
      · simp [ht, hh, hfull]
    · obtain ⟨hlanes, hdue, hfull⟩ := fullTrain_train (s := s) hr [w]
      refine ⟨hdue, fun h => hfull (by rw [fullSwept_stack]; exact h), ?_⟩
      rw [laneGet_of_lanes hlanes]
      exact fullSwept_lane h80 hmem
  case lost =>
    intro n lock s hon hlost
    refine ⟨_, if_pos (by simpa [hon] using hlost), ?_⟩
    unfold trainingLost
    extract_lets u _ v
    have hpc : (raise v (pcSrc n.val 11) 0x0120 sevWarn (4 * 256) 0).pcs[n] = u.pcs[n] := pc_of_pcs (raise_ev ..).pcs n
    dsimp only
    rw [hpc, State.modPc_same]
    exact ⟨rfl, rfl, congrArg TrainSt.activity (raise_ev ..).train⟩
  case passed =>
    intro n s hmode hdone hup hpend
    refine ⟨_, if_pos (by rw [hmode, hdone, hup]; simp), ?_⟩
    rw [runWaiting_retrainDone hpend]
    exact retrainDone_passed s n
  case failed =>
    intro n s hmode hdone hup hpend
    refine ⟨_, if_pos (by rw [hmode, hdone, hup]; simp), ?_⟩
    rw [runWaiting_retrainDone hpend]
    exact retrainDone_failed s n
  case rewrite =>
    intro k s hdue hup hpower
    obtain ⟨h1, h2, h3, h4⟩ := rewriteRecord_rec s k
    exact ⟨_, if_pos (by simp only [hdue, hup, hpower]; rfl), h1, h2, h4, h3⟩

/-! ### Background calibration and overrides (O16) -/

theorem le_atLeast_now (s : State) (t : Nat) : t ≤ (s.atLeast t).now := by
  rw [State.atLeast_now]
  exact Nat.le_max_right ..

/-- Waiting changes no stored register. -/
theorem csrGet_atLeast (s : State) (t a : Nat) : csrGet (s.atLeast t) a = csrGet s a := by
  unfold State.atLeast
  split <;> rfl

theorem ovrEvent_now (s : State) (g i v : Nat) : (ovrEvent s g i v).now = s.now := by
  unfold ovrEvent
  split <;> exact (raise_ev ..).now

/-- A period's end keeps the delay and stores the figures of the measurement. -/
theorem calPeriod_lane (s : State) (g lane : Nat) (m : CalMeas) :
    ∃ l : Lane, laneGet (calPeriod s g lane m) (laneKey g lane) = l ∧
      l.target = (laneGet s (laneKey g lane)).delay + phaseOffset (phaseRun m) ∧ l.eyeW = eyeWidth (phaseRun m).2 ∧
      l.eyeH = 4 * heightTaps m ∧ l.measured = true ∧ l.delay = (laneGet s (laneKey g lane)).delay := by
  unfold calPeriod
  extract_lets k u l r w h below v
  have hu : laneGet u k = laneGet s k := by
    refine laneGet_of_train ?_ k
    simp only [u]
    split
    · exact State.atLeast_train ..
    · rfl
  have hl : l = laneGet s k := hu
  refine ⟨laneGet v k, ?_, ?_⟩
  · split
    · exact laneGet_of_train (raiseLim_ev ..).train k
    · rfl
  · simp only [v, laneGet_laneSet_same]
    rw [hl]
    exact ⟨rfl, rfl, rfl, trivial, rfl⟩

/-- A step whose threshold is not due moves the delay, ten microseconds or more after the step before. -/
theorem calStep_lane {s : State} {g lane : Nat} (hones : (laneGet s (laneKey g lane)).onesOff = false)
    (hdue : (laneGet s (laneKey g lane)).delay ≠ tapWithin 383 (laneGet s (laneKey g lane)).target) :
    (laneGet (calStep s g lane) (laneKey g lane)).delay =
        towards (laneGet s (laneKey g lane)).delay (tapWithin 383 (laneGet s (laneKey g lane)).target) ∧
      (laneGet s (laneKey g lane)).stepAt + us10 ≤ (calStep s g lane).now := by
  unfold calStep
  extract_lets k u l d t beyond dDue tDue v kw w0 w
  have hl : l = laneGet s k := laneGet_of_train (State.atLeast_train ..) k
  have hd : (dDue && !(tDue && l.lastWasDelay)) = true := by
    simp only [dDue, tDue, d, hl]
    simp [k, hones, hdue]
  rw [if_pos hd]
  have hw : laneGet w k = laneGet v k ∧ w.now = u.now := by
    simp only [w]
    split
    · exact ⟨laneGet_laneSet_other _ _ (by simp only [k, kw, laneKey]; omega), rfl⟩
    · exact ⟨rfl, rfl⟩
  refine ⟨?_, ?_⟩
  · rw [laneGet_of_lanes (checkDrift_lanes ..)]
    show (laneGet w k).delay = _
    rw [hw.1]
    simp only [v, laneGet_laneSet_same, d, hl]
    rfl
  · rw [checkDrift_now, hw.2]
    exact le_atLeast_now ..

/-- An override whose value is not reached moves the delay one tap. -/
theorem ovrStep_lane {s : State} {i g lane : Nat}
    (hdue : (laneGet s (laneKey g lane)).delay ≠ min 383 (bitsOf (csrGet s (0x0F0204 + 8 * i)) 0 9)) :
    (laneGet (ovrStep s i g lane) (laneKey g lane)).delay =
        towards (laneGet s (laneKey g lane)).delay (min 383 (bitsOf (csrGet s (0x0F0204 + 8 * i)) 0 9)) ∧
      (laneGet s (laneKey g lane)).stepAt + us10 ≤ (ovrStep s i g lane).now := by
  unfold ovrStep
  extract_lets k u l v d t l1 l2 at_ w
  have hl : l = laneGet s k := laneGet_of_train (State.atLeast_train ..) k
  have hv : v = csrGet s (0x0F0204 + 8 * i) := csrGet_atLeast ..
  have hl2 : l2 = { l1 with delay := towards l1.delay d, stepAt := u.now } := if_pos (by simp only [l1, d, hl, hv]; exact hdue)
  have hw : (laneGet w k).delay = towards (laneGet s k).delay (min 383 (bitsOf (csrGet s (0x0F0204 + 8 * i)) 0 9)) := by
    simp only [w, laneGet_laneSet_same, hl2, l1, d, hl, hv]
  have hnow : (laneGet s k).stepAt + us10 ≤ w.now := le_atLeast_now ..
  have hend : ∀ z : State, z.train = w.train → z.now = w.now → (laneGet z k).delay =
      towards (laneGet s k).delay (min 383 (bitsOf (csrGet s (0x0F0204 + 8 * i)) 0 9)) ∧ (laneGet s k).stepAt + us10 ≤ z.now :=
    fun z htrain hz => ⟨(congrArg Lane.delay (laneGet_of_train htrain k)).trans hw, hz ▸ hnow⟩
  split
  · exact hend _ ((ovrEvent_mv ..).train.resolve_left (by decide)) (ovrEvent_now ..)
  · exact hend _ rfl rfl

/-- Settles O16 (R119, R120, R127; which run, its middle and the rounding are the model's choice, log entry 84). -/
theorem calibrationMovesOneTap : Obligations.CalibrationMovesOneTap := by
  unfold Obligations.CalibrationMovesOneTap
  refine ⟨?period, ?step, ?override⟩
  case period =>
    intro l m g s hg hlive hfull
    refine ⟨calPeriod s g l.lane m, ?_, ?_⟩
    · show execCalPeriodEnd l m s = _
      unfold execCalPeriodEnd
      simp only [hg]
      exact if_pos (by rw [hlive, hfull]; rfl)
    · obtain ⟨l', hl', h⟩ := calPeriod_lane s g l.lane m
      rw [hl']
      exact h
  case step =>
    intro l g s hg hlive hmeas hover hones hdue
    refine ⟨calStep s g l.lane, ?_, calStep_lane hones hdue⟩
    show execCalStep l s = _
    unfold execCalStep
    simp only [hg]
    exact if_pos (by rw [hlive, hmeas, hover]; rfl)
  case override =>
    intro i g lane s hg hshadow hfailed hdue
    refine ⟨ovrStep s i.val g lane, ?_, ovrStep_lane hdue⟩
    show execOverrideStep i s = _
    unfold execOverrideStep
    simp only [hg]
    exact if_pos (by rw [hshadow, hfailed]; rfl)

end Sys2Proof.Machine
end


section
/-! The scheduler's pick of a lone read (R139 to R148): obligation O17. -/

namespace Sys2Proof.Machine

/-! ### What the scheduler reads -/

theorem requests_of {s t : State} (hp : t.pcs = s.pcs) (hl : t.lagoon = s.lagoon) (hd : t.dram = s.dram) (n : Pc) :
    requests t n = requests s n := by
  unfold requests unitPc
  rw [hp, hl, hd]

theorem bankOf_of {s t : State} (hp : t.pcs = s.pcs) (hd : t.dram = s.dram) (n : Pc) (e : QEnt) : bankOf t n e = bankOf s n e :=
  (congrArg (fun p : Vector PcSt 64 => p[n].banks[bankFin (coordOf t.dram.mapActive e.blk).bank]) hp).trans
    (congrArg (fun d : DramSt => s.pcs[n].banks[bankFin (coordOf d.mapActive e.blk).bank]) hd)

theorem legalAt_of {s t : State} (hp : t.pcs = s.pcs) (hd : t.dram = s.dram) (n : Pc) (e : QEnt) :
    legalAt t n e = legalAt s n e := by
  unfold legalAt QEnt.coord
  rw [bankOf_of hp hd, hp, hd]

/-- Of one request the choice is that request, for no special reason. -/
theorem choose_singleton (s : State) (n : Pc) (e : QEnt) : choose s n [e] = some ⟨e, 0⟩ := by
  unfold choose
  by_cases h : rowHit s n e = true <;> simp [maxBy, h, oldest]

/-- A lone request that may be picked is given its command at the CCLK at which it is legal. -/
theorem schedule_singleton {s : State} {n : Pc} {e : QEnt} (hr : requests s n = [e]) (hp : pickable s n e = true) :
    schedule s n = issueCmd (streakAfter (s.atLeast (legalAt s n e)) n 0) n e := by
  have hl : (requests s n).filter (pickable s n) = [e] := by simp [hr, hp]
  have hlegal : legalAt (s.atLeast (legalAt s n e)) n e ≤ (s.atLeast (legalAt s n e)).now := by
    rw [legalAt_of (State.atLeast_pcs ..) (State.atLeast_dram ..)]
    exact le_atLeast_now ..
  unfold schedule
  simp only [hl, List.foldl_nil, List.filter_cons, List.filter_nil, hlegal, decide_true, if_true, choose_singleton]

/-! ### The command of a read -/

/-- The count of an ACT changes neither the queue nor the banks. -/
theorem countAct_keeps {α : Type} (g : PcSt → α) (ht : ∀ w c b r, g (trackAct w c b r) = g c) (ho : ∀ c l, g { c with offers := l } = g c)
    (s : State) (n : Pc) (bank row : Nat) (req : Option Nat) (urgent : Bool) :
    g (countAct s n bank row req urgent).pcs[n] = g s.pcs[n] := by
  unfold countAct
  extract_lets old u est
  have hu : g u.pcs[n] = g s.pcs[n] := by
    simp only [u]
    rw [State.modPc_same, ht]
  split
  · split
    · exact hu
    · split
      · rw [State.modPc_same, ho]
        exact hu
      · exact (congrArg g (pc_of_pcs ((spill_mv ..).pcs.resolve_left (by decide)) n)).trans hu

theorem trackAct_queue (w : Nat) (c : PcSt) (b r : Nat) : (trackAct w c b r).queue = c.queue := by
  unfold trackAct trkFresh
  extract_lets d
  have hd : d.queue = c.queue := by
    simp only [d]
    split <;> rfl
  split
  · exact hd
  · split <;> exact hd

theorem trackAct_banks (w : Nat) (c : PcSt) (b r : Nat) : (trackAct w c b r).banks = c.banks := by
  unfold trackAct trkFresh
  extract_lets d
  have hd : d.banks = c.banks := by
    simp only [d]
    split <;> rfl
  split
  · exact hd
  · split <;> exact hd

/-- A mark of a queue entry that is no line's write-back. -/
theorem markEnt_queued (s : State) (n : Pc) {e : QEnt} (he : e.isLine = false) (act : Bool) :
    markEnt s n e act = modEntry s n e.id fun f => { f with acted := f.acted || act, issued := !act } := by
  unfold markEnt
  unfold QEnt.isLine at he
  cases h : e.src with
  | line u => simp [h] at he
  | _ => rfl

/-- What the pick of a lone read leaves of it: its bank's row and the one entry of its queue. -/
structure PickedRead (s t : State) (n : Pc) (e f : QEnt) : Prop where
  queue : t.pcs[n].queue = [f]
  kind : f.kind = .rd
  id : f.id = e.id
  lagoon : t.lagoon = s.lagoon
  dram : t.dram = s.dram
  opened : (bankOf s n e).row = none → (bankOf t n e).row = some (e.coord s).row ∧ f.acted = true
  issued : (bankOf s n e).row = some (e.coord s).row → f.issued = true
  closed : (bankOf s n e).row ≠ none → (bankOf s n e).row ≠ some (e.coord s).row → (bankOf t n e).row = none ∧ f = e

/-- A bank is read from its pseudo-channel's banks and the address map. -/
theorem bankOf_banks {s t : State} {n : Pc} {e : QEnt} {v : Vector Bank 32} (hd : t.dram = s.dram) (hb : t.pcs[n].banks = v) :
    bankOf t n e = v[bankFin (e.coord s).bank] :=
  (congrArg (fun b : Vector Bank 32 => b[bankFin (coordOf t.dram.mapActive e.blk).bank]) hb).trans
    (congrArg (fun d : DramSt => v[bankFin (coordOf d.mapActive e.blk).bank]) hd)

/-- A queue of the one entry changed. -/
theorem map_own {e : QEnt} {l : List QEnt} (hq : l = [e]) (f : QEnt → QEnt) :
    (l.map fun x => if x.id = e.id then f x else x) = [f e] := by
  simp [hq]

theorem modBank_same (s : State) (n : Pc) (b : Nat) (f : Bank → Bank) :
    (modBank n b f s).pcs[n] = { s.pcs[n] with banks := s.pcs[n].banks.set (bankFin b) (f s.pcs[n].banks[bankFin b]) } :=
  State.modPc_same ..

theorem modEntry_same (s : State) (n : Pc) (id : Nat) (f : QEnt → QEnt) :
    (modEntry s n id f).pcs[n] = { s.pcs[n] with queue := s.pcs[n].queue.map fun e => if e.id = id then f e else e } :=
  State.modPc_same ..

theorem columns_queue (s : State) (n : Pc) (b k : Nat) (w : Bool) : (columns s n b k w).pcs[n].queue = s.pcs[n].queue := by
  unfold columns
  rw [State.modPc_same, modBank_same]
  split <;> rfl

/-- The row opened for a read: an ACT, counted. -/
theorem actRead {s u : State} {n : Pc} {e : QEnt} (hq : s.pcs[n].queue = [e]) (hk : e.kind = .rd) (hl : e.isLine = false)
    (hrow : (bankOf s n e).row = none)
    (hu : u = markEnt ((modBank n (e.coord s).bank (fun b => { b with row := some (e.coord s).row, actAt := s.now }) s).modPc n
      (pushAct s.now)) n e true) :
    PickedRead s (countAct (bump (pcReg n.val 0x010) 1 u) n (e.coord s).bank (e.coord s).row (requester e) e.urgent) n e
      { e with acted := true, issued := false } := by
  rw [markEnt_queued _ _ hl] at hu
  have hpc := congrArg (fun t : State => t.pcs[n]) hu
  simp only [modEntry_same, State.modPc_same, modBank_same] at hpc
  have hqueue : u.pcs[n].queue = [{ e with acted := true, issued := false }] := by
    rw [hpc]
    refine (map_own hq _).trans ?_
    simp
  have hmoves := countAct_mv (bump (pcReg n.val 0x010) 1 u) n (e.coord s).bank (e.coord s).row (requester e) e.urgent
  have hdram := (hmoves.dram.resolve_left (by decide)).trans (show u.dram = s.dram by rw [hu]; rfl)
  refine ⟨?_, hk, rfl, (hmoves.lagoon.resolve_left (by decide)).trans (by rw [hu]; rfl), hdram, fun _ => ⟨?_, rfl⟩, ?_, ?_⟩
  · exact (countAct_keeps PcSt.queue trackAct_queue (fun _ _ => rfl) ..).trans hqueue
  · rw [bankOf_banks hdram (countAct_keeps PcSt.banks trackAct_banks (fun _ _ => rfl) ..)]
    show (u.pcs[n].banks[bankFin (e.coord s).bank]).row = _
    rw [hpc]
    simp [pushAct]
  · intro h
    rw [hrow] at h
    cases h
  · exact fun h => absurd hrow h

/-- A column command of a read marks its entry issued; the bank may be closed behind it. -/
theorem issueCol_read {s : State} {n : Pc} {e : QEnt} (hq : s.pcs[n].queue = [e]) (hk : e.kind = .rd) (hl : e.isLine = false)
    (hrow : (bankOf s n e).row = some (e.coord s).row) : PickedRead s (issueCol s n e) n e { e with acted := e.acted || false, issued := true } := by
  unfold issueCol
  extract_lets b bank others close k u v
  have hv : v.pcs[n].queue = [{ e with acted := e.acted || false, issued := true }] ∧ v.lagoon = s.lagoon ∧ v.dram = s.dram := by
    simp only [v]
    rw [columns_queue, markEnt_queued _ _ hl, modEntry_same]
    exact ⟨map_own (show u.pcs[n].queue = [e] from hq) _, rfl, rfl⟩
  obtain ⟨hqueue, hlagoon, hdram⟩ := hv
  have hend : ∀ t : State, t.pcs[n].queue = v.pcs[n].queue → t.lagoon = v.lagoon → t.dram = v.dram →
      PickedRead s t n e { e with acted := e.acted || false, issued := true } := fun t h1 h2 h3 =>
    ⟨h1.trans hqueue, hk, rfl, h2.trans hlagoon, h3.trans hdram, fun h => (by rw [hrow] at h; cases h), fun _ => rfl,
      fun _ h => absurd hrow h⟩
  split
  · refine hend _ ?_ rfl rfl
    rw [modBank_same]
  · exact hend v rfl rfl rfl

/-- The same command seen from a state with the same queue, banks, lines and map. -/
theorem PickedRead.of_base {s u t : State} {n : Pc} {e f : QEnt} (h : PickedRead u t n e f) (hd : u.dram = s.dram)
    (hl : u.lagoon = s.lagoon) (hb : u.pcs[n].banks = s.pcs[n].banks) : PickedRead s t n e f := by
  have hbank : bankOf u n e = bankOf s n e := bankOf_banks hd hb
  have hcoord : e.coord u = e.coord s := by unfold QEnt.coord; rw [hd]
  obtain ⟨h1, h2, h3, h4, h5, h6, h7, h8⟩ := h
  rw [hbank, hcoord] at h6 h7 h8
  exact ⟨h1, h2, h3, h4.trans hl, h5.trans hd, h6, h7, h8⟩

theorem issueCmd_read {s : State} {n : Pc} {e : QEnt} (hq : s.pcs[n].queue = [e]) (hk : e.kind = .rd) (hl : e.isLine = false) :
    ∃ f, PickedRead s (issueCmd s n e) n e f := by
  unfold issueCmd
  cases hrow : (bankOf s n e).row with
  | none => exact ⟨_, actRead hq hk hl hrow rfl⟩
  | some r =>
    by_cases hr : r = (e.coord s).row
    · refine ⟨{ e with acted := e.acted || false, issued := true }, ?_⟩
      simp only [if_pos hr]
      exact issueCol_read hq hk hl (hr ▸ hrow)
    · refine ⟨e, ?_⟩
      simp only [if_neg hr]
      refine ⟨?_, hk, rfl, rfl, rfl, ?_, ?_, fun _ _ => ⟨?_, rfl⟩⟩
      · rw [modBank_same]
        exact hq
      · intro h
        rw [hrow] at h
        cases h
      · intro h
        exact absurd (Option.some.inj (hrow.symm.trans h)) hr
      · have hbank := bankOf_banks (s := s) (n := n) (e := e)
          (t := modBank n (e.coord s).bank (fun b => { b with row := none, preAt := s.now }) s) rfl
          (congrArg PcSt.banks (modBank_same ..))
        rw [hbank]
        simp

/-! ### The pick (O17) -/

theorem streakAfter_keeps (s : State) (n : Pc) (why : Nat) :
    (streakAfter s n why).pcs[n].queue = s.pcs[n].queue ∧ (streakAfter s n why).pcs[n].banks = s.pcs[n].banks := by
  unfold streakAfter
  extract_lets u
  have hu : u.pcs[n].queue = s.pcs[n].queue ∧ u.pcs[n].banks = s.pcs[n].banks := by
    simp only [u]
    rw [State.modPc_same]
    exact ⟨rfl, rfl⟩
  split <;> exact hu

/-- A lone request that is no write-back is the whole queue, and no write-back waits. -/
theorem requests_singleton {s : State} {n : Pc} {e : QEnt} (hr : requests s n = [e]) (hl : e.isLine = false) :
    s.pcs[n].queue = [e] ∧
      (s.lagoon.lines.filter fun l => decide (l.wb ≠ 0) && decide (unitPc s l.unit = n.val)).map Line.entry = [] := by
  unfold requests at hr
  rcases List.append_eq_singleton_iff.mp hr with ⟨-, h⟩ | h
  · obtain ⟨l, -, hle⟩ := List.mem_map.mp (h ▸ List.mem_singleton_self e)
    rw [← hle] at hl
    cases hl
  · exact h

/-- The pick of a lone read is one scheduled command: it issues no write. -/
theorem pick_read {s : State} {n : Pc} {e : QEnt} (hr : requests s n = [e]) (hk : e.kind = .rd) (hl : e.isLine = false)
    (hp : pickable (wiClear s n) n e = true) :
    ∃ f, PickedRead s (pick s n) n e f ∧ legalAt s n e ≤ (pick s n).now := by
  have hpcs : (wiClear s n).pcs = s.pcs := (wiClear_mv s n).pcs.resolve_left (by decide)
  have hdram : (wiClear s n).dram = s.dram := (wiClear_mv s n).dram.resolve_left (by decide)
  have hlagoon : (wiClear s n).lagoon = s.lagoon := (wiClear_mv s n).lagoon.resolve_left (by decide)
  obtain ⟨hqueue, hlines⟩ := requests_singleton hr hl
  have hreq : requests (wiClear s n) n = [e] := (requests_of hpcs hlagoon hdram n).trans hr
  have hsched := schedule_singleton hreq hp
  rw [legalAt_of hpcs hdram] at hsched
  generalize hw : (wiClear s n).atLeast (legalAt s n e) = w at hsched
  obtain ⟨hsq, hsb⟩ := streakAfter_keeps w n 0
  have hwp : w.pcs = s.pcs := by rw [← hw, State.atLeast_pcs, hpcs]
  have hwd : w.dram = s.dram := by rw [← hw, State.atLeast_dram, hdram]
  have hwl : w.lagoon = s.lagoon := by rw [← hw, State.atLeast_lagoon, hlagoon]
  obtain ⟨f, hf⟩ := issueCmd_read (s := streakAfter w n 0) (e := e) (hsq.trans ((congrArg PcSt.queue (pc_of_pcs hwp n)).trans hqueue)) hk hl
  rw [← hsched] at hf
  have hpick : PickedRead s (schedule (wiClear s n) n) n e f :=
    hf.of_base (hwd ▸ (streakAfter_mv w n 0).dram.resolve_left (by decide))
      (hwl ▸ (streakAfter_mv w n 0).lagoon.resolve_left (by decide)) (hsb.trans (congrArg PcSt.banks (pc_of_pcs hwp n)))
  have hnone : newlyIssued (wiClear s n) (schedule (wiClear s n) n) n = [] := by
    have hlines' : requests (schedule (wiClear s n) n) n = [f] := by
      unfold requests unitPc
      rw [hpick.queue, hpick.lagoon, hpick.dram]
      exact congrArg ([f] ++ ·) hlines
    unfold newlyIssued
    simp [hlines', QEnt.writes, hpick.kind]
  have heq : pick s n = schedule (wiClear s n) n := by
    unfold pick
    simp only [hnone]
  refine ⟨f, heq ▸ hpick, ?_⟩
  rw [heq, hsched]
  calc legalAt s n e ≤ w.now := hw ▸ le_atLeast_now ..
    _ ≤ (streakAfter w n 0).now := (streakAfter_mv w n 0).now
    _ ≤ (issueCmd (streakAfter w n 0) n e).now := (issueCmd_mv ..).now

/-- Settles O17 (R139 to R144, R148). -/
theorem schedulerPicksARead : Obligations.SchedulerPicksARead := by
  unfold Obligations.SchedulerPicksARead
  intro n e s hon hr hk hl hp
  refine ⟨_, if_pos hon, ?_⟩
  obtain ⟨f, hf, hnow⟩ := pick_read hr hk hl hp
  have hmem : f ∈ (pick s n).pcs[n].queue := hf.queue ▸ List.mem_singleton_self f
  refine ⟨hnow, fun h => ⟨(hf.opened h).1, f, hmem, hf.id, (hf.opened h).2⟩, fun h => ⟨f, hmem, hf.id, hf.issued h⟩, ?_⟩
  intro h1 h2
  obtain ⟨hrow, rfl⟩ := hf.closed h1 h2
  exact ⟨hrow, hf.queue.trans (requests_singleton hr hl).1.symm⟩

end Sys2Proof.Machine
end


section
/-! Refresh and row guard (R189 to R205): obligation O20. -/

namespace Sys2Proof.Machine

/-! ### What keeps a part of a pseudo-channel -/

/-- A fold keeps what each of its steps keeps. -/
theorem foldl_keeps {α β : Type} (g : State → β) (f : State → α → State) (h : ∀ s x, g (f s x) = g s) (l : List α) (s : State) :
    g (l.foldl f s) = g s := by
  induction l generalizing s with
  | nil => rfl
  | cons x l ih => exact (ih _).trans (h s x)

/-- A change of one pseudo-channel keeps a part of every pseudo-channel that it keeps in its own. -/
theorem modPc_keeps {β : Type} (g : PcSt → β) {f : PcSt → PcSt} (h : ∀ c, g (f c) = g c) (s : State) (k n : Pc) :
    g (s.modPc k f).pcs[n] = g s.pcs[n] := by
  by_cases hk : k = n
  · subst hk
    rw [State.modPc_same, h]
  · rw [State.modPc_other s f hk]

/-- A row guard event moves no part of the pseudo-channels. -/
theorem rgEvent_ev (s : State) (src code sev a0 a1 sup : Nat) (j : Bool) : EvKeeps s (rgEvent s src code sev a0 a1 sup j) :=
  raiseLim_ev ..

/-- A lapse changes neither banks nor queue nor tracker. -/
theorem lapse_keeps {β : Type} (g : PcSt → β) (h : ∀ c b x t, g { c with lapsed := b, cause := x, breachAt := t } = g c)
    (s : State) (k n : Pc) (cause bank port stream : Nat) : g (lapse s k cause bank port stream).pcs[n] = g s.pcs[n] := by
  unfold lapse
  rw [pc_of_pcs (raiseLim_ev ..).pcs n]
  exact modPc_keeps g (fun c => h c _ _ _) s k n

/-- A change of a bank: the bank itself. -/
@[simp] theorem modBank_bank (s : State) (n : Pc) (b : Nat) (f : Bank → Bank) :
    (modBank n b f s).pcs[n].banks[bankFin b] = f s.pcs[n].banks[bankFin b] := by
  rw [modBank_same]
  exact Vector.getElem_set_self ..

theorem bankFin_val (b : Fin 32) : bankFin b.val = b := Fin.ext (Nat.mod_eq_of_lt b.isLt)

theorem modBank_fin (s : State) (n : Pc) (b : Fin 32) (f : Bank → Bank) :
    (modBank n b.val f s).pcs[n].banks[b] = f s.pcs[n].banks[b] := by
  have h := modBank_bank s n b.val f
  simpa only [bankFin_val] using h

/-- And what it keeps of its pseudo-channel. -/
theorem modBank_keeps {β : Type} (g : PcSt → β) (h : ∀ c v, g { c with banks := v } = g c) (s : State) (n : Pc) (b : Nat)
    (f : Bank → Bank) : g (modBank n b f s).pcs[n] = g s.pcs[n] := by
  rw [modBank_same, h]

/-- A bank is read from its pseudo-channel's banks alone. -/
theorem bank_of_banks {c d : PcSt} (h : c.banks = d.banks) (b : Fin 32) : c.banks[b] = d.banks[b] := by rw [h]

/-! ### Refresh (R189 to R192) -/

/-- A slot that ends: the rotation moves on, and a command not given becomes a debt. -/
theorem refreshSlot_pc (s : State) (n : Pc) :
    (refreshSlot s n).pcs[n].refPos = (s.pcs[n].refPos + 1) % 32 ∧
      (refreshSlot s n).pcs[n].slotAt = s.pcs[n].slotAt + refSlotLen s.pcs[n] ∧
      s.pcs[n].slotAt + refSlotLen s.pcs[n] ≤ (refreshSlot s n).now ∧
      (refreshSlot s n).pcs[n].banks[bankFin (slotBank s.pcs[n])].debt =
        s.pcs[n].banks[bankFin (slotBank s.pcs[n])].debt + b2n (!s.pcs[n].slotDone) := by
  unfold refreshSlot
  extract_lets c u b old v w x
  have hu : u.pcs[n] = c := pc_of_pcs (State.atLeast_pcs ..) n
  have hreach : c.slotAt + refSlotLen c ≤ u.now := le_atLeast_now ..
  clear_value u
  have hw : (w.pcs[n].refPos, w.pcs[n].slotAt, w.pcs[n].banks) = ((c.refPos + 1) % 32, c.slotAt + refSlotLen c, c.banks) ∧
      c.slotAt + refSlotLen c ≤ w.now := by
    have hv : (v.pcs[n].refPos, v.pcs[n].slotAt, v.pcs[n].banks) = ((c.refPos + 1) % 32, c.slotAt + refSlotLen c, c.banks) := by
      simp only [v]
      rw [State.modPc_same, hu]
    have hnow : c.slotAt + refSlotLen c ≤ v.now := hreach
    simp only [w]
    split
    · exact ⟨(adoptOrder_keeps (fun c => (c.refPos, c.slotAt, c.banks)) (fun _ _ => rfl) v n).trans hv,
        Nat.le_trans hnow (adoptOrder_mv v n).now⟩
    · exact ⟨hv, hnow⟩
  obtain ⟨hparts, hnow⟩ := hw
  obtain ⟨hpos, hrest⟩ := Prod.mk.inj hparts
  obtain ⟨hslot, hbanks⟩ := Prod.mk.inj hrest
  by_cases hd : c.slotDone = true
  · rw [if_pos hd]
    refine ⟨hpos, hslot, hnow, ?_⟩
    rw [hbanks, show s.pcs[n].slotDone = true from hd]
    rfl
  · rw [if_neg hd]
    have hend : ∀ t : State, t.pcs = x.pcs → x.now ≤ t.now → t.pcs[n].refPos = (c.refPos + 1) % 32 ∧
        t.pcs[n].slotAt = c.slotAt + refSlotLen c ∧ c.slotAt + refSlotLen c ≤ t.now ∧
        t.pcs[n].banks[bankFin b].debt = c.banks[bankFin b].debt + b2n (!c.slotDone) := by
      intro t ht hle
      rw [pc_of_pcs ht n]
      refine ⟨?_, ?_, Nat.le_trans hnow hle, ?_⟩
      · exact (modBank_keeps PcSt.refPos (fun _ _ => rfl) ..).trans hpos
      · exact (modBank_keeps PcSt.slotAt (fun _ _ => rfl) ..).trans hslot
      · rw [modBank_bank, bank_of_banks hbanks, Bool.eq_false_iff.mpr hd]
        rfl
    split
    · exact hend _ (rgEvent_ev ..).pcs (Nat.le_of_eq (rgEvent_ev ..).now.symm)
    · exact hend x rfl (Nat.le_refl _)

/-- A refresh pays one back, closes the bank and is the slot's own where the bank owed none. -/
theorem startRefresh_pc (s : State) (n : Pc) (b : Fin 32) :
    (startRefresh s n b).pcs[n].banks[b].debt = s.pcs[n].banks[b].debt - 1 ∧ (startRefresh s n b).pcs[n].banks[b].row = none ∧
      (startRefresh s n b).pcs[n].banks[b].refAt = (startRefresh s n b).now ∧
      (s.pcs[n].banks[b].debt = 0 → (startRefresh s n b).pcs[n].slotDone = true) := by
  unfold startRefresh
  extract_lets k u v w
  have hu : u.pcs[n] = s.pcs[n] := pc_of_pcs (State.atLeast_pcs ..) n
  clear_value u
  have hbank : w.pcs[n].banks[b] = { u.pcs[n].banks[b] with row := none, debt := u.pcs[n].banks[b].debt - 1, refAt := u.now } :=
    (bank_of_banks (modPc_keeps PcSt.banks (fun _ => by rfl) v n n) b).trans (modBank_fin u n b _)
  have hdone : w.pcs[n].slotDone = (v.pcs[n].slotDone || decide (k.debt = 0)) := by
    simp only [w]
    rw [State.modPc_same]
  have hend : ∀ t : State, t.pcs = w.pcs → t.now = u.now → t.pcs[n].banks[b].debt = s.pcs[n].banks[b].debt - 1 ∧
      t.pcs[n].banks[b].row = none ∧ t.pcs[n].banks[b].refAt = t.now ∧ (k.debt = 0 → t.pcs[n].slotDone = true) := by
    intro t ht hnow
    rw [pc_of_pcs ht n, hbank, hdone, hu, hnow]
    exact ⟨rfl, rfl, rfl, fun h => by simp [h]⟩
  split
  · exact hend _ rfl rfl
  · exact hend _ rfl rfl

/-! ### Targeted refresh (R198, R199) -/

/-- A targeted refresh takes the bank's first waiting row, closes the bank and returns the aggressor's estimate to 0. -/
theorem targetedRefresh_pc {s : State} {n : Pc} {b : Fin 32} {row : Nat} {rest : List Nat}
    (htrig : s.pcs[n].banks[b].trig = row :: rest) :
    (targetedRefresh s n b row).pcs[n].banks[b].trig = rest ∧ (targetedRefresh s n b row).pcs[n].banks[b].row = none ∧
      ∀ e ∈ (targetedRefresh s n b row).pcs[n].tracker, e.bank = b.val → e.row = row → e.est = 0 := by
  unfold targetedRefresh
  extract_lets ps start u v w zero x y
  have hv : v.pcs[n].banks = s.pcs[n].banks := by
    simp only [v]
    rw [foldl_keeps (fun t => t.pcs[n].banks) _ fun t _ =>
      countAct_keeps PcSt.banks trackAct_banks (fun _ _ => rfl) t n ..]
    exact congrArg PcSt.banks (pc_of_pcs (State.atLeast_pcs ..) n)
  clear_value v
  have hbank : y.pcs[n].banks[b] =
      { s.pcs[n].banks[b] with trig := s.pcs[n].banks[b].trig.erase row, row := none, actAt := x.now - 69, preAt := x.now - 23 } := by
    have hx : x.pcs[n].banks[b] = s.pcs[n].banks[b] :=
      (bank_of_banks (modPc_keeps PcSt.banks (fun _ => by rfl) w n n) b).trans (bank_of_banks hv b)
    rw [← hx]
    exact modBank_fin x n b _
  have htracker : y.pcs[n].tracker = w.pcs[n].tracker.map zero := by
    simp only [y]
    rw [modBank_keeps PcSt.tracker fun _ _ => rfl]
    exact congrArg PcSt.tracker (State.modPc_same ..)
  have hout : (rgEvent (bump (pcReg n.val 0x048) 1 y) (pcSrc n.val 2) 0x0211 sevInfo (b.val + row * 32) 0 1 false).pcs[n] =
    y.pcs[n] := pc_of_pcs (rgEvent_ev ..).pcs n
  rw [hout, hbank, htracker]
  refine ⟨?_, rfl, ?_⟩
  · rw [htrig]
    exact List.erase_cons_head row rest
  · intro e he hb hr
    obtain ⟨o, -, rfl⟩ := List.mem_map.mp he
    simp only [zero] at hb hr ⊢
    split
    · rfl
    · next h =>
      rw [if_neg h] at hb hr
      exact absurd ⟨hb, hr⟩ h

/-! ### Windows and throttles (R195, R202 to R205) -/

/-- Estimates of a window that has passed are zero in the next. -/
theorem trkFresh_zero {c : PcSt} {w : Nat} (h : c.trkWin < w) : ∀ e ∈ (trkFresh w c).tracker, e.est = 0 := by
  unfold trkFresh
  rw [if_pos h]
  intro e he
  obtain ⟨o, -, rfl⟩ := List.mem_map.mp he
  rfl

/-- A window's end for one requester moves neither the window nor a tracker's window. -/
theorem windowThr_keeps (w : Nat) (s : State) (req : Nat) (t : Thr) (n : Pc) :
    (windowThr w s req t).guard.windowAt = s.guard.windowAt ∧ (windowThr w s req t).guard.winNo = s.guard.winNo ∧
      (windowThr w s req t).pcs[n].trkWin = s.pcs[n].trkWin := by
  unfold windowThr
  split
  extract_lets kept
  split
  · next u t' _ =>
    have hu : u.guard = s.guard ∧ u.pcs[n].trkWin = s.pcs[n].trkWin := by
      refine ⟨(throttleFrees_mv s t).guard.resolve_left (by decide), ?_⟩
      exact foldl_keeps (fun t => t.pcs[n].trkWin) _ (fun t k => modPc_keeps PcSt.trkWin (fun _ => by rfl) t (pcFin k) n) ..
    have hev := rgEvent_ev (thrSet u req t') (pcSrc t'.lastPc 3) 0x0212 sevNotice (req + t'.step * 2 ^ 10 + b2n t'.urg * 2 ^ 13) 0 2 true
    unfold throttleEvent
    rw [hev.guard, pc_of_pcs hev.pcs n]
    exact ⟨show u.guard.windowAt = _ from congrArg GuardSt.windowAt hu.1, show u.guard.winNo = _ from congrArg GuardSt.winNo hu.1, hu.2⟩
  · exact ⟨rfl, rfl, rfl⟩

/-- The state at a window's end: 32 ms after the one before. -/
def windowReached (s : State) : State := s.atLeast (s.guard.windowAt + 51200000)

/-- Its quiet captured rows released. -/
def windowReleased (s : State) : State :=
  ((heldRows s).filter fun r => decide (smGet 0 s.lagoon.rowAcc (rowKey s.guard.winNo r.1 r.2.1 r.2.2) < releaseAcc s)).foldl
    (fun s r => releaseRow s r.1 r.2.1 r.2.2) s

/-- And its throttles stepped. -/
def windowStepped (s : State) : State :=
  (windowReleased s).guard.thr.foldl (fun t x => windowThr s.guard.winNo t x.1 x.2) (windowReleased s)

/-- A window's end begins every tracker anew. -/
theorem windowEnd_parts (s : State) :
    (windowEnd s).guard.windowAt = (windowStepped (windowReached s)).guard.windowAt + 51200000 ∧
      (windowEnd s).pcs = (windowStepped (windowReached s)).pcs.map (trkFresh ((windowReached s).guard.winNo + 1)) :=
  ⟨rfl, rfl⟩

/-- It comes no earlier: from the moment reached on it is the same step. -/
theorem windowEnd_now (s : State) : s.guard.windowAt + 51200000 ≤ (windowEnd s).now := by
  have hat : (windowReached s).guard = s.guard := State.atLeast_guard ..
  have hreach : s.guard.windowAt + 51200000 ≤ (windowReached s).now := le_atLeast_now ..
  have hsame : windowEnd (windowReached s) = windowEnd s := by
    unfold windowEnd
    rw [hat, State.atLeast_eq _ _ hreach]
    rfl
  rw [← hsame]
  exact Nat.le_trans hreach (windowEnd_mv (windowReached s)).now

/-- Releases and throttle steps move neither the window nor a tracker's window. -/
theorem windowStepped_keeps (s : State) :
    (windowStepped s).guard.windowAt = s.guard.windowAt ∧
      ∀ n : Pc, (windowStepped s).pcs[n].trkWin = s.pcs[n].trkWin := by
  have hrel : Moves 32768 s (windowReleased s) :=
    Moves.foldl _ _ (Moves.refl _ _) fun a r ha => ha.step (releaseRow_mv a r.1 r.2.1 r.2.2) rfl
  refine ⟨?_, fun n => ?_⟩
  · refine Eq.trans ?_ (congrArg GuardSt.windowAt (hrel.guard.resolve_left (by decide)))
    exact foldl_keeps (fun t => t.guard.windowAt) _ (fun t (r : Nat × Thr) => (windowThr_keeps _ t r.1 r.2 0).1) ..
  · refine Eq.trans ?_ (congrArg PcSt.trkWin (pc_of_pcs (hrel.pcs.resolve_left (by decide)) n))
    exact foldl_keeps (fun t => t.pcs[n].trkWin) _ (fun t (r : Nat × Thr) => (windowThr_keeps _ t r.1 r.2 n).2.2) ..

/-- A tracker of the ended window stands at zero in the next. -/
theorem windowEnd_tracker {s : State} {n : Pc} (h : s.pcs[n].trkWin ≤ s.guard.winNo) :
    ∀ e ∈ (windowEnd s).pcs[n].tracker, e.est = 0 := by
  have hpc : (windowEnd s).pcs[n] = trkFresh ((windowReached s).guard.winNo + 1) (windowStepped (windowReached s)).pcs[n] :=
    (congrArg (fun v : Vector PcSt 64 => v[n]) (windowEnd_parts s).2).trans (Vector.getElem_map ..)
  rw [hpc]
  refine trkFresh_zero ?_
  rw [(windowStepped_keeps _).2 n]
  have hat : (windowReached s).guard = s.guard ∧ (windowReached s).pcs = s.pcs := ⟨State.atLeast_guard .., State.atLeast_pcs ..⟩
  rw [hat.1, pc_of_pcs hat.2 n]
  omega

/-- Steps and lapses of a requester that a lapse keeps. -/
theorem throttleLapse_keeps {β : Type} (g : Thr → β) (hg : ∀ t l, g { t with pcs := l } = g t) (s : State) (req : Nat) :
    g (thrOf (throttleLapse s req) req) = g (thrOf s req) := by
  unfold throttleLapse
  refine foldl_keeps (fun t => g (thrOf t req)) _ (fun t n => ?_) ..
  dsimp only
  split
  · have hthr : ∀ v : State, (lapse v n 5 0 (req / 64) (req % 64)).guard = v.guard := fun v =>
      (lapse_mv v n 5 0 (req / 64) (req % 64)).guard.resolve_left (by decide)
    simp only [thrOf, hthr, thrSet, smGet_smSet_same]
    exact hg ..
  · rfl

/-- A requester's step up: its own step rises, for the sub-window found. -/
theorem stepUp_thr (s : State) (req : Nat) (t : Thr) (x : Nat × Nat × Bool) :
    (thrOf (stepUp s req t x) req).step = t.step + 1 ∧ (thrOf (stepUp s req t x) req).stepped = some x.1 := by
  unfold stepUp
  extract_lets first t' u v
  have hu : thrOf u req = t' := smGet_smSet_same
  have hv : (thrOf v req).step = t'.step ∧ (thrOf v req).stepped = t'.stepped := by
    simp only [v]
    split
    · rw [throttleLapse_keeps Thr.step (fun _ _ => rfl), throttleLapse_keeps Thr.stepped (fun _ _ => rfl), hu]
      exact ⟨rfl, rfl⟩
    · rw [hu]
      exact ⟨rfl, rfl⟩
  have hev : (throttleEvent v req t' x.2.1).guard = v.guard := (rgEvent_ev ..).guard
  unfold thrOf at hv ⊢
  rw [hev]
  exact hv

/-- Settles O20 (R189 to R192, R195 to R205; each boundary as a command is the model's choice, log entry 1, and of the rows that
wait the bank's list is taken from its head). -/
theorem refreshAndRowGuard : Obligations.RefreshAndRowGuard := by
  unfold Obligations.RefreshAndRowGuard
  refine ⟨?slot, ?refresh, ?trigger, ?targeted, ?window, ?throttle⟩
  case slot =>
    intro n s hr
    obtain ⟨hpos, hslot, hnow, hdebt⟩ := refreshSlot_pc s n
    exact ⟨_, if_pos hr, hpos, hslot, hslot ▸ hnow, hdebt⟩
  case refresh =>
    intro n b s hr
    exact ⟨_, if_pos hr, startRefresh_pc s n b⟩
  case trigger =>
    intro n b row s hon hest hheld
    refine ⟨_, if_pos (by rw [hon, hheld]; simpa using hest), ?_⟩
    have hbank := modBank_fin s n b fun b => { b with trig := setInsert b.trig row }
    dsimp only
    split
    · rw [bank_of_banks (lapse_keeps PcSt.banks (fun _ _ _ _ => rfl) ..), hbank]
    · rw [hbank]
  case targeted =>
    intro n b row rest s htrig hready
    refine ⟨targetedRefresh s n b row, ?_, targetedRefresh_pc htrig⟩
    show execTargetedRefreshDone n b s = _
    unfold execTargetedRefreshDone
    rw [htrig]
    exact if_pos hready
  case window =>
    intro s hready
    refine ⟨_, if_pos hready, windowEnd_now s, ?_, fun n h => windowEnd_tracker h⟩
    rw [(windowEnd_parts s).1, (windowStepped_keeps _).1]
    exact congrArg (fun g : GuardSt => g.windowAt + 51200000) (State.atLeast_guard ..)
  case throttle =>
    intro q x s hx hstep
    refine ⟨stepUp s q.val (thrOf s q.val) x, ?_, stepUp_thr ..⟩
    show execThrottleStepUp q s = _
    unfold execThrottleStepUp
    dsimp only
    rw [hx]
    exact if_pos (decide_eq_true hstep)

end Sys2Proof.Machine
end


section
/-! TideFill, claim fills, the scrubber's walk and its laps (R230 to R246): obligation O21. -/

namespace Sys2Proof.Machine

/-! ### Registers in force -/

/-- The value in force is read from the register and its mode's. -/
theorem csrForce_of {s t : State} {a m : Nat} (hm : (regRow a).map (·.mode) = some m) (ha : csrGet t a = csrGet s a)
    (hmode : csrGet t m = csrGet s m) : csrForce t a = csrForce s a := by
  unfold csrForce expert csrFld
  cases h : regRow a with
  | none => rfl
  | some r =>
    obtain rfl : r.mode = m := by simpa [h] using hm
    simp only [ha, hmode]

/-- Two states that agree on the scrubber's registers and on what it is doing. -/
structure SameScrub (s t : State) : Prop where
  csr : ∀ a, 0x070000 ≤ a → a < 0x080000 → csrGet t a = csrGet s a
  scrub : t.scrub = s.scrub

theorem SameScrub.of_ev {s t : State} (h : EvKeeps s t) : SameScrub s t :=
  ⟨fun a _ ha => h.csr a (not_lossCounter_of_lt (.inl (by omega))), h.scrub⟩

theorem SameScrub.trans {s t u : State} (h : SameScrub s t) (k : SameScrub t u) : SameScrub s u :=
  ⟨fun a h1 h2 => (k.csr a h1 h2).trans (h.csr a h1 h2), k.scrub.trans h.scrub⟩

theorem SameScrub.modPc (s : State) (n : Pc) (f : PcSt → PcSt) : SameScrub s (s.modPc n f) :=
  ⟨fun _ _ _ => csrGet_of_regs rfl, rfl⟩

theorem SameScrub.idleOnly {s t : State} (h : SameScrub s t) : idleOnly t = idleOnly s := by
  unfold Machine.idleOnly csrForceFld
  rw [h.scrub, csrForce_of (m := 0x070000) (by decide) (h.csr _ (by decide) (by decide)) (h.csr _ (by decide) (by decide))]

theorem scrubRange_modes (i : Fin 8) : (regRow (0x070100 + 8 * i.val)).map (·.mode) = some 0x070000 ∧
    (regRow (0x070104 + 8 * i.val)).map (·.mode) = some 0x070000 := by
  revert i
  decide

theorem SameScrub.scrubRange {s t : State} (h : SameScrub s t) (i : Fin 8) : scrubRange t i.val = scrubRange s i.val := by
  obtain ⟨h1, h2⟩ := scrubRange_modes i
  unfold Machine.scrubRange
  rw [csrForce_of h1 (h.csr _ (by omega) (by omega)) (h.csr _ (by decide) (by decide)),
    csrForce_of h2 (h.csr _ (by omega) (by omega)) (h.csr _ (by decide) (by decide))]

/-- With no range due the patrol's pointer is the one that issues. -/
theorem nextPointer_none {s : State} (h : idleOnly s = true ∨ rangesOn s = false) (w : Walker) : nextPointer s w = none := by
  unfold nextPointer
  split
  · rfl
  · next hidle =>
    have hoff : ∀ i : Fin 8, scrubRange s i.val = none := by
      intro i
      have hall := List.any_eq_false.mp (h.resolve_left hidle) i.val (List.mem_range.mpr i.isLt)
      exact Option.not_isSome_iff_eq_none.mp hall
    exact List.foldlRecOn (motive := fun x => x = none) _ _ rfl fun x hx i _ => by simp [hx, rangeDue, hoff i]

/-- A counter stepped stands at its limit at most. -/
theorem csrGet_bump (s : State) (a k : Nat) (ha : regReset a < 2 ^ 32) :
    csrGet (bump a k s) a = satAdd 0xFFFFFFFF (csrGet s a) k := by
  refine (csrGet_of_regs (s := csrSet s a _) rfl).trans ?_
  rw [csrGet_csrSet_same _ _ _ ha]
  exact Nat.mod_eq_of_lt (by unfold satAdd; omega)

/-! ### The walk (R237 to R240) -/

/-- A unit's issue moves no walker's place. -/
theorem issueUnit_pos (s : State) (n : Pc) (unit : Nat) : (issueUnit s n unit).pcs[n].walker.pos = s.pcs[n].walker.pos := by
  unfold issueUnit
  split
  · rfl
  · extract_lets u id e
    have hu : u.pcs[n] = s.pcs[n] := pc_of_pcs ((turn_mv s n .scrub).pcs.resolve_left (by decide)) n
    clear_value u
    rw [modPc_keeps (fun c : PcSt => c.walker.pos) fun _ => by rfl]
    unfold enqueue
    rw [modPc_keeps (fun c : PcSt => c.walker.pos) fun _ => by rfl]
    exact congrArg (fun c : PcSt => c.walker.pos) hu

/-- Whether the walker catches up does not move it. -/
theorem walkerCatchUp_pos (c : PcSt) (b : Bool) :
    ({ c with walker := { c.walker with catchUp := b } } : PcSt).walker.pos = c.walker.pos := rfl

/-- The patrol passes to its next unit no earlier than the unit's time. -/
theorem scrubIssue_pos {s : State} {n : Pc} (h : idleOnly s = true ∨ rangesOn s = false) :
    (scrubIssue s n).pcs[n].walker.pos = s.pcs[n].walker.pos + 1 ∧ walkTime s n ≤ (scrubIssue s n).now := by
  unfold scrubIssue
  extract_lets u v
  have hat : SameScrub s (s.atLeast (walkTime s n)) := ⟨fun a _ _ => csrGet_atLeast .., State.atLeast_scrub ..⟩
  have hu : SameScrub (s.atLeast (walkTime s n)) u ∧ u.pcs[n].walker.pos = s.pcs[n].walker.pos ∧ walkTime s n ≤ u.now := by
    have hpos : (s.atLeast (walkTime s n)).pcs[n].walker.pos = s.pcs[n].walker.pos :=
      congrArg (fun c : PcSt => c.walker.pos) (pc_of_pcs (State.atLeast_pcs ..) n)
    have hnow : walkTime s n ≤ (s.atLeast (walkTime s n)).now := le_atLeast_now ..
    simp only [u]
    generalize s.atLeast (walkTime s n) = a at hpos hnow
    unfold behindEvent
    extract_lets w
    split
    · next b _ =>
      have hev := raiseLim_ev b (evKey (pcSrc n.val 8) 0x0225) ms (pcSrc n.val 8) 0x0225 sevNotice (unitsBehind b w) 0 1 false
      refine ⟨.trans (t := b) (.modPc ..) (.of_ev hev), ?_, Nat.le_trans hnow (Nat.le_of_eq (hev.now.trans (State.modPc_now ..)).symm)⟩
      rw [pc_of_pcs hev.pcs n]
      simp only [b]
      rw [modPc_keeps (fun c : PcSt => c.walker.pos) fun _ => by rfl]
      exact hpos
    · exact ⟨⟨fun _ _ _ => rfl, rfl⟩, hpos, hnow⟩
  obtain ⟨hsame, hpos, hnow⟩ := hu
  clear_value u
  have hv : SameScrub s v := hat.trans (hsame.trans (.modPc ..))
  have hnone : ∀ w : Walker, nextPointer v w = none := by
    refine nextPointer_none (h.imp (fun hi => hv.idleOnly.trans hi) fun hr => ?_)
    refine List.any_eq_false.mpr fun i hi => ?_
    rw [hv.scrubRange ⟨i, List.mem_range.mp hi⟩]
    exact List.any_eq_false.mp hr i hi
  have hvpos : v.pcs[n].walker.pos = s.pcs[n].walker.pos := by
    simp only [v]
    rw [modPc_keeps (fun c : PcSt => c.walker.pos) fun c => by exact walkerCatchUp_pos c _]
    exact hpos
  have hvnow : walkTime s n ≤ v.now := Nat.le_trans hnow (Nat.le_of_eq (State.modPc_now ..).symm)
  rw [hnone]
  refine ⟨?_, Nat.le_trans hvnow (scrubIssueAt_mv v n _ none).now⟩
  unfold scrubIssueAt
  dsimp only
  rw [issueUnit_pos, State.modPc_same, hvpos]

/-! ### Laps (R237) and TideFill (R230) -/

/-- A lap's end counts it and begins the next with every walker at its first unit. -/
theorem lapEnd_parts (s : State) :
    (lapEnd s).scrub.lap = s.scrub.lap + 1 ∧ (lapEnd s).scrub.lapStart = s.now ∧ (lapEnd s).scrub.verify = false ∧
      csrGet (lapEnd s) 0x070020 = satAdd 0xFFFFFFFF (csrGet s 0x070020) 1 ∧
      ∀ n : Pc, (lapEnd s).pcs[n].walker.pos = 0 ∧ ((lapEnd s).pcs[n].walker.inLap = true ↔ s.pcs[n].mode = .online) := by
  unfold lapEnd
  extract_lets lap len out keep v rg _ u w x start
  have hev : EvKeeps w x := raiseLim_ev ..
  have hx : csrGet x 0x070020 = satAdd 0xFFFFFFFF (csrGet s 0x070020) 1 := by
    rw [hev.csr _ (not_lossCounter_of_lt (by decide))]
    exact csrGet_bump u 0x070020 1 (by decide)
  have hpc : ∀ n : Pc, (x.pcs.map start)[n] = start s.pcs[n] := fun n => by
    rw [show x.pcs = s.pcs from hev.pcs]
    exact Vector.getElem_map ..
  have hnow : x.now = s.now := hev.now
  refine ⟨rfl, hnow, rfl, (csrGet_of_regs rfl).trans hx, fun n => ?_⟩
  show ((x.pcs.map start)[n]).walker.pos = 0 ∧ (((x.pcs.map start)[n]).walker.inLap = true ↔ _)
  rw [hpc n]
  simp [start]

theorem tidefillDone_parts (s : State) (us : Nat) :
    (tidefillDone s us).dram.mem = [] ∧ (tidefillDone s us).dram.chk = [] ∧ (tidefillDone s us).dram.freshAll = true ∧
      (tidefillDone s us).dram.poison = Vector.replicate 512 none ∧ (tidefillDone s us).scrub.tidefill = false ∧
      (tidefillDone s us).scrub.held = false := by
  unfold tidefillDone
  extract_lets u v
  rw [(journal_ev ..).dram, (journal_ev ..).scrub]
  exact ⟨rfl, rfl, rfl, rfl, rfl, rfl⟩

/-! ### Claim fills (R233) -/

/-- An entry put into a queue stands at its end. -/
theorem enqueue_queue (s : State) (n : Pc) (e : QEnt) : (enqueue s n e).pcs[n].queue = s.pcs[n].queue ++ [e] := by
  unfold enqueue
  rw [State.modPc_same]

theorem turn_nextId (s : State) (n : Pc) (src : Src) : (turn s n src).nextId = s.nextId := by
  unfold turn
  extract_lets
  split
  · exact State.atLeast_nextId ..
  · rfl

/-- A claim's fill puts its write of zeros into the unit's queue. -/
theorem claimFill_mem (s : State) (page u mask : Nat) :
    ∃ e ∈ (claimFill s page u mask).pcs[pcFin (coordOf s.dram.mapActive (64 * page + 4 * u)).pc].queue,
      e.id = s.nextId ∧ e.kind = .wr ∧ e.blk = 64 * page + 4 * u ∧ e.cover = mask ∧ e.data = List.replicate 4 0 := by
  unfold claimFill
  extract_lets blk n v id e
  have hid : id = s.nextId := turn_nextId ..
  clear_value v
  have hq : (e.blocks.foldl (fun s b => noteWrite s b id) (enqueue v.tick n e)).pcs[n] = (enqueue v.tick n e).pcs[n] :=
    foldl_keeps (fun t => t.pcs[n]) _ (fun t b => pc_of_pcs ((noteWrite_mv t b id).pcs.resolve_left (by decide)) n) ..
  refine ⟨e, ?_, hid, rfl, rfl, rfl, rfl⟩
  rw [hq, enqueue_queue]
  exact List.mem_append_right _ (List.mem_singleton_self e)

/-- Settles O21 (R230, R233, R237 to R240). -/
theorem fillAndScrub : Obligations.FillAndScrub := by
  unfold Obligations.FillAndScrub
  refine ⟨?tidefill, ?claim, ?issue, ?lap⟩
  case tidefill =>
    intro us s h
    exact ⟨_, if_pos h, tidefillDone_parts s us⟩
  case claim =>
    intro page u mask c s hc hu hroom hon
    refine ⟨claimFill s page u mask, ?_, claimFill_mem s page u mask⟩
    show execFreshClaimFill page s = _
    unfold execFreshClaimFill
    rw [hc]
    dsimp only
    rw [hu]
    exact if_pos (by rw [hroom, hon]; rfl)
  case issue =>
    intro n s hready h
    exact ⟨_, if_pos hready, scrubIssue_pos h⟩
  case lap =>
    intro s h
    exact ⟨_, if_pos h, lapEnd_parts s⟩

end Sys2Proof.Machine
end


section
/-! Row and lane repair (R259 to R268), journal flushes, lookups, event records and the alert (R335 to R348): obligations O22
and O23. -/

namespace Sys2Proof.Machine

/-! ### A run cut short keeps the pseudo-channels -/

theorem marchLeaves_whole_pcs (s : State) (n lo hi algo : Nat) : (marchLeaves s n lo hi algo true).pcs = s.pcs := by
  unfold marchLeaves
  extract_lets u v
  rw [(journal_ev ..).pcs]
  exact ((markRange_mv ..).pcs.resolve_left (by decide)).trans ((rangeErase_mv ..).pcs.resolve_left (by decide))

/-- A run that is cut short at once has opened no row: no pseudo-channel changes. -/
theorem transitAbort_pcs (s : State) (cause : Nat) : (transitAbort s cause).pcs = s.pcs := by
  unfold transitAbort
  split
  · rfl
  · extract_lets desc _ u v w x
    have hv : v.pcs = s.pcs := by
      simp only [v]
      split
      · exact (marchLost_mv u).pcs.resolve_left (by decide)
      · exact foldl_keeps State.pcs _ (fun t n => marchLeaves_whole_pcs ..) ..
    have hw : w.pcs = v.pcs := (transitRelease_mv v).pcs.resolve_left (by decide)
    have hx : x.pcs = w.pcs := (raiseX_ev ..).pcs
    rw [(transitComplete_mv x desc).pcs.resolve_left (by decide), hx, hw, hv]

/-! ### Soft repair (R260, R261) -/

/-- The end of a copy frees the bank and closes it. -/
theorem softDone_bank (s : State) (n : Pc) (b : Fin 32) (row : Nat) :
    (softDone s n b row).pcs[n].banks[b].repair = none ∧ (softDone s n b row).pcs[n].banks[b].row = none := by
  unfold softDone
  extract_lets u v w x y
  clear_value x
  have hy : y.pcs[n].banks[b] = { x.pcs[n].banks[b] with repair := none, row := none, actAt := x.now - 70, preAt := x.now - 23 } :=
    modBank_fin x n b _
  have hend : ∀ t : State, t.pcs = y.pcs → t.pcs[n].banks[b].repair = none ∧ t.pcs[n].banks[b].row = none := by
    intro t ht
    rw [pc_of_pcs ht n, hy]
    exact ⟨rfl, rfl⟩
  split
  · exact hend _ ((raiseX_ev ..).pcs.trans rfl)
  · exact hend _ ((raiseX_ev ..).pcs.trans rfl)

/-! ### TSV lanes (R266 to R268) -/

theorem tsvMark_pcs (s : State) (n : Pc) (pos : Nat) : (tsvMark s n pos).pcs = s.pcs :=
  (tsvMark_mv s n pos).pcs.resolve_left (by decide)

/-- The lanes after a mark: the lane marked, and no other changed. -/
theorem tsvMark_lanes (s : State) (n : Pc) (pos : Nat) : (tsvMark s n pos).train.lanes =
    smSet {} s.train.lanes (tsvKey n.val pos) { smGet {} s.train.lanes (tsvKey n.val pos) with failed := true, low := 0 } := by
  unfold tsvMark
  extract_lets l u
  have hu : u.train = s.train := by
    simp only [u]
    split
    · exact (raise_ev ..).train
    · rfl
  simp only [hu, l]

/-- A free spare stands at another position than any lane that can fail. -/
theorem tsvPos_ne_free {s : State} {n : Pc} {lane : Nat} {i : Fin 2} (hlane : lane < 72) (h : tsvSpareFree s n i = true) :
    tsvPos s.pcs[n] lane ≠ 72 + i.val := by
  unfold tsvPos
  cases hf : (List.finRange 2).find? fun i => decide (s.pcs[n].spares[i] = some lane) with
  | none => exact fun h => by simp only at h; omega
  | some j =>
    intro hij
    have hj := List.find?_some hf
    obtain rfl : j = i := Fin.ext (by simp only at hij; omega)
    have hfree := (Bool.and_eq_true_iff.mp h).1
    rw [of_decide_eq_true hj] at hfree
    cases hfree

/-- Going offline changes the queue, the mode and the banks, not the failed lanes. -/
theorem goOffline_failedLanes (s : State) (n : Pc) : (goOffline s n).pcs[n].failedLanes = s.pcs[n].failedLanes := by
  unfold goOffline
  extract_lets c u v w
  rw [State.modPc_same]
  have hu : u.pcs = s.pcs := rfl
  have hv : v.pcs[n].failedLanes = u.pcs[n].failedLanes := by
    refine foldl_keeps (fun t => t.pcs[n].failedLanes) _ (fun t e => ?_) ..
    unfold failEntry freeEntry
    extract_lets x
    rw [modPc_keeps PcSt.failedLanes fun _ => by rfl]
    exact congrArg PcSt.failedLanes (pc_of_pcs
      (((drainOrd_mv x e).pcs.resolve_left (by decide)).trans ((answer_mv t e ..).pcs.resolve_left (by decide))) n)
  have hw : w.pcs = v.pcs := foldl_keeps State.pcs _ (fun t d => (uncorrFound_mv ..).pcs.resolve_left (by decide)) ..
  exact (congrArg PcSt.failedLanes (pc_of_pcs hw n)).trans hv

/-- A failed lane is listed and marked; with a free spare the pseudo-channel keeps its service. -/
theorem tsvFail_parts {s : State} {n : Pc} {lane : Nat} (hlane : lane < 72) :
    (tsvFail s n lane).pcs[n].failedLanes.contains lane = true ∧
      (smGet {} (tsvFail s n lane).train.lanes (tsvKey n.val (tsvPos s.pcs[n] lane))).failed = true ∧
      (tsvSpareFree s n 0 = true ∨ tsvSpareFree s n 1 = true → (tsvFail s n lane).pcs[n].mode = s.pcs[n].mode) := by
  unfold tsvFail
  extract_lets u v un w
  have hu : u.pcs[n] = s.pcs[n] := pc_of_pcs (tsvMark_pcs ..) n
  have hlanes : u.train.lanes = _ := tsvMark_lanes s n (tsvPos s.pcs[n] lane)
  clear_value u
  have hlist : v.pcs[n].failedLanes.contains lane = true := by
    simp only [v]
    rw [State.modPc_same]
    dsimp only
    split
    · assumption
    · simp
  have hmark : (smGet {} v.train.lanes (tsvKey n.val (tsvPos s.pcs[n] lane))).failed = true := by
    rw [show v.train.lanes = _ from hlanes, smGet_smSet_same]
  have hmode : v.pcs[n].mode = s.pcs[n].mode := (modPc_keeps PcSt.mode (fun _ => by rfl) u n n).trans (congrArg PcSt.mode hu)
  have hfree : ∀ i : Fin 2, tsvSpareFree s n i = true → tsvSpareFree v n i = true := by
    intro i hi
    have hne := tsvPos_ne_free hlane hi
    obtain ⟨hnone, hgood⟩ := Bool.and_eq_true_iff.mp hi
    refine Bool.and_eq_true_iff.mpr ⟨?_, ?_⟩
    · have hsp : v.pcs[n].spares = s.pcs[n].spares.map fun x => if x = some lane then none else x := by
        simp only [v]
        rw [State.modPc_same, hu]
      have hi : v.pcs[n].spares[i] = if s.pcs[n].spares[i] = some lane then none else s.pcs[n].spares[i] :=
        (congrArg (fun x : Vector (Option Nat) 2 => x[i]) hsp).trans (Vector.getElem_map ..)
      rw [hi, Option.isNone_iff_eq_none.mp hnone]
      rfl
    · rw [show v.train.lanes = _ from hlanes, smGet_smSet_other (by unfold tsvKey; omega)]
      exact hgood
  by_cases hany : (List.finRange 2).any (tsvSpareFree v n) = true
  · rw [if_pos hany]
    exact ⟨hlist, hmark, fun _ => hmode⟩
  · rw [if_neg hany]
    have hw : EvKeeps v w := raiseX_ev ..
    have hnone : ¬ (tsvSpareFree s n 0 = true ∨ tsvSpareFree s n 1 = true) := fun h =>
      hany (List.any_eq_true.mpr (h.elim (fun h => ⟨0, List.mem_finRange _, hfree 0 h⟩) fun h => ⟨1, List.mem_finRange _, hfree 1 h⟩))
    split
    · rw [goOffline_failedLanes, (goOffline_mv w n).train.resolve_left (by decide), hw.train, pc_of_pcs hw.pcs n]
      exact ⟨hlist, hmark, fun h => absurd h hnone⟩
    · rw [hw.train, pc_of_pcs hw.pcs n]
      exact ⟨hlist, hmark, fun h => absurd h hnone⟩

/-- A switch begun holds the pseudo-channel, with its queue. -/
theorem tsvStart_pc (s : State) (n : Pc) (lane : Nat) (i : Fin 2) :
    (tsvStart s n lane i).pcs[n].mode = .tsvSwitch ∧ (tsvStart s n lane i).pcs[n].switching = some (lane, i.val) ∧
      (tsvStart s n lane i).pcs[n].queue = s.pcs[n].queue := by
  unfold tsvStart
  extract_lets u
  have hu : u.pcs = s.pcs := by
    simp only [u, transitSpareTaken]
    split
    · exact transitAbort_pcs ..
    · rfl
  clear_value u
  rw [State.modPc_same, pc_of_pcs hu n]
  exact ⟨rfl, rfl, rfl⟩

/-- A switch ended puts the lane on its spare and the repair among those to be fused. -/
theorem tsvDone_parts (s : State) (n : Pc) (lane : Nat) (i : Fin 2) :
    (tsvDone s n lane i).pcs[n].mode = .online ∧ (tsvDone s n lane i).pcs[n].switching = none ∧
      (tsvDone s n lane i).pcs[n].spares = s.pcs[n].spares.set i (some lane) ∧
      (tsvDone s n lane i).dram.tsvPending = s.dram.tsvPending ++ [(n.val, lane, i.val)] := by
  unfold tsvDone
  extract_lets u _ v w
  have hev : EvKeeps w (raiseJ w (pcSrc n.val 11) 0x0121 sevNotice lane i.val) := raiseX_ev ..
  have hu : u.pcs[n] = { s.pcs[n] with mode := .online, switching := none, spares := s.pcs[n].spares.set i (some lane) } :=
    State.modPc_same ..
  rw [hev.dram, pc_of_pcs hev.pcs n, show w.pcs[n] = u.pcs[n] from rfl, hu]
  exact ⟨rfl, rfl, rfl, rfl⟩

/-- Settles O22 (R259 to R261, R266, R267). -/
theorem rowAndLaneRepair : Obligations.RowAndLaneRepair := by
  unfold Obligations.RowAndLaneRepair
  refine ⟨?start, ?done, ?failed, ?switch, ?switched⟩
  case start =>
    intro n b row s hup hturn hrep hok
    refine ⟨_, if_pos (by rw [hup, hturn, hrep]; rfl), ?_⟩
    unfold softStart
    rw [hok]
    exact ⟨congrArg Bank.repair (modBank_fin _ n b _), rfl⟩
  case done =>
    intro n b row s hb hrow hon hopen hstop hrank
    refine ⟨softDone s n b row, ?_, softDone_bank s n b row⟩
    show execSoftRepairDone n s = _
    unfold execSoftRepairDone
    rw [hb]
    dsimp only
    rw [hrow]
    exact if_pos (by rw [hon, hopen, hstop, hrank]; rfl)
  case failed =>
    intro n lane s hlane hnew hdue hon
    obtain ⟨h1, h2, h3⟩ := tsvFail_parts (s := s) (n := n) hlane
    refine ⟨tsvFail s n lane, ?_, h1, h2, fun h => (h3 h).trans ?_⟩
    · show execTsvLaneFailed n lane s = _
      unfold execTsvLaneFailed
      rw [if_pos hlane]
      exact if_pos (by rw [hnew, hdue, hon]; rfl)
    · exact eq_of_beq hon
  case switch =>
    intro n lane i s hlane hspare hup hon
    refine ⟨tsvStart s n lane i, ?_, tsvStart_pc s n lane i⟩
    show execTsvSwitchStart n s = _
    unfold execTsvSwitchStart
    rw [hlane, hspare]
    exact if_pos (by rw [hup, hon]; rfl)
  case switched =>
    intro n lane i s hmode hsw
    refine ⟨tsvDone s n lane i, ?_, tsvDone_parts s n lane i⟩
    show execTsvSwitchDone n s = _
    unfold execTsvSwitchDone
    rw [hmode, hsw]
    dsimp only
    rw [show (⟨i.val % 2, Nat.mod_lt _ (by decide)⟩ : Fin 2) = i from Fin.ext (Nat.mod_eq_of_lt i.isLt)]

/-! ### The journal and its lookups (R335, R338) -/

/-- A unit's flush moves the count to the unit's end, or to the count of the entries there are. -/
theorem flushUnit_flushed (s : State) : (flushUnit s).jrn.flushed = min (s.jrn.flushed / 4 * 4 + 4) s.jrn.count := rfl

/-- A lookup finds an entry exactly where one lies at or after the place sought. -/
theorem lookup_parts (s : State) : (lookup s).jrn.busy = false ∧ (lookup s).jrn.fromJ = none ∧
    ((lookup s).jrn.found = true ↔
      (match s.jrn.fromJ with | some k => max k (oldestJ s) | none => seekJ s s.jrn.rsel) < s.jrn.count) := by
  unfold lookup
  extract_lets j gap b rsel
  by_cases h : j < s.jrn.count
  · rw [if_pos h]
    exact ⟨rfl, rfl, fun _ => h, fun _ => rfl⟩
  · rw [if_neg h]
    exact ⟨rfl, rfl, fun hf => absurd hf Bool.false_ne_true, fun hj => absurd hj h⟩

/-! ### Event records (R343, R345) -/

/-- A record written takes the ring's next slot, and is its pin where it is severe enough. -/
theorem ringWrite_ring (s : State) (k : Fin 4) (e : EvRec) (rest : List EvRec) :
    (ringWrite s k e rest).evt.rings[k].waiting = rest ∧ (ringWrite s k e rest).evt.rings[k].tail = s.evt.rings[k].tail + 1 ∧
      (ringWrite s k e rest).evt.rings[k].lostBefore = false ∧
      (sevLimit (ringWrite s k e rest) 0 ≤ e.sev →
        (ringWrite s k e rest).evt.rings[k].pinIdx = some s.evt.rings[k].tail) := by
  unfold ringWrite
  extract_lets r n i phase e' w filler u pin r'
  have hsev : e'.sev = e.sev := by
    simp only [e']
    split <;> rfl
  clear_value u
  have hring : (setEvRing u k r').evt.rings[k] = r' := setEvRing_same u k r'
  have hlimit : sevLimit (setEvRing u k r') 0 = sevLimit u 0 := by
    unfold sevLimit before setEvRing
    cases u.regs.csr0 <;> rfl
  show (setEvRing u k r').evt.rings[k].waiting = rest ∧ (setEvRing u k r').evt.rings[k].tail = r.tail + 1 ∧
    (setEvRing u k r').evt.rings[k].lostBefore = false ∧
    (sevLimit (setEvRing u k r') 0 ≤ e.sev → (setEvRing u k r').evt.rings[k].pinIdx = some r.tail)
  rw [hring, hlimit]
  refine ⟨rfl, rfl, rfl, fun h => ?_⟩
  exact if_pos (decide_eq_true (hsev.symm ▸ h))

/-- Settles O23 (R335, R338, R343, R345, R348; the place a lookup seeks is the model's choice, log entry 37). -/
theorem journalEventsAndAlert : Obligations.JournalEventsAndAlert := by
  unfold Obligations.JournalEventsAndAlert
  refine ⟨?flush, ?lookup, ?record, ?alert⟩
  case flush =>
    intro s hleft hawake
    by_cases hwhole : s.jrn.flushed / 4 * 4 + 4 ≤ s.jrn.count
    · refine ⟨flushUnit s, ?_, flushUnit_flushed s, fun h => absurd hwhole (Nat.not_le.mpr h)⟩
      show execJournalUnitFlush s = _
      simp [execJournalUnitFlush, Nat.not_le.mpr hleft, hawake, hwhole]
    · refine ⟨flushUnit (s.atLeast (s.jrn.unitAt + 160000)), ?_, ?_, fun _ => ?_⟩
      · show execJournalUnitFlush s = _
        simp [execJournalUnitFlush, Nat.not_le.mpr hleft, hawake, hwhole]
      · rw [flushUnit_flushed, State.atLeast_jrn]
      · exact Nat.le_trans (le_atLeast_now ..) (flushUnit_mv _).now
  case lookup =>
    intro s hbusy
    exact ⟨_, if_pos hbusy, lookup_parts s⟩
  case record =>
    intro k e rest s hwait hactive hserved hrun hflood hroom hon
    refine ⟨ringWrite s k e rest, ?_, ringWrite_ring s k e rest⟩
    show execEventRecordWrite k s = _
    unfold execEventRecordWrite
    dsimp only
    rw [hwait]
    exact if_pos (by rw [hactive, hserved, hrun, hflood, hon, decide_eq_true hroom]; rfl)
  case alert =>
    intro s h
    exact ⟨_, if_pos h, rfl, rfl, rfl⟩

end Sys2Proof.Machine
end


section
/-! SUPPORT. A statement about queued requests that fails: a mirrored host write may go to the backlog, which lies in DRAM. -/

namespace Sys2Proof.Machine

/-- A host write of block 0 whose command has been issued, not yet in the drain domain. -/
def hostWrite : QEnt :=
  { id := 1, src := .host 0, kind := .wr, cls := 1, blk := 0, n := 1, data := [7], chk := [0], arrived := 0, pool := 0, issued := true }

/-- A stack whose link is up, with window 0 mirroring granule 0 asynchronously; an earlier message of the window stands in the
backlog, and `hostWrite` in the queue. -/
def mirroring : State :=
  csrSet (csrSet
    { Tests.mir with
      mirror := { Tests.mir.mirror with
        wins := Tests.mir.mirror.wins.set 0 { st := .inSync }
        backlog := [{ hdr := Tests.msgHdr 2 0 0 0 0 0 0 }] }
      pcs := Tests.mir.pcs.set 0 { mode := .online, queue := [hostWrite] } } (winReg 0 4) 1) (winReg 0 12) 1

/-- Refutes O18: its clause on DRAM_WRITE_DONE says that no block but the one written changes. A host write of a mirrored window
whose messages wait in the backlog puts its own message there, and the backlog lies in DRAM (R397): the message's header is
written to the backlog's first block. -/
theorem not_queuedRequestsComplete : ¬ Obligations.QueuedRequestsComplete := by
  unfold Obligations.QueuedRequestsComplete
  rintro ⟨-, -, hstore, -⟩
  obtain ⟨-, hothers⟩ := (hstore 0 1 hostWrite 7 mirroring (by decide +kernel) (by decide +kernel) rfl (by decide +kernel) rfl
    (by decide +kernel)).nextOf
  have hbacklog : memBlock (nextOf (.dramWriteDone 0 1) mirroring).dram.mem (backlogBlk 0) ≠ memBlock mirroring.dram.mem (backlogBlk 0) := by
    decide +kernel
  exact hbacklog (hothers (backlogBlk 0) (by decide +kernel))

end Sys2Proof.Machine
end

section
/-! SUPPORT. A descriptor that runs: the descriptor found, its end, and that it stays found while the engine's rings keep their
indices. -/

namespace Sys2Proof.Machine

theorem wxGet_of {s t : State} (h : t.wetex = s.wetex) (r : Fin 64) (idx : Nat) : wxGet t r idx = wxGet s r idx := by
  unfold wxGet
  rw [h]

/-- A descriptor found has the index sought. -/
theorem wxGet_idx {s : State} {r : Fin 64} {idx : Nat} {d : WxDesc} (h : wxGet s r idx = some d) : d.idx = idx := by
  simpa using List.find?_some h

/-- A descriptor is found exactly where its pair lists the index. -/
theorem wxGet_isSome {s : State} {r : Fin 64} {idx : Nat} : (wxGet s r idx).isSome ↔ idx ∈ (actIdx s.wetex)[r] := by
  simp [wxGet, actIdx, List.find?_isSome]

/-- A descriptor stays found while the rings keep their indices. -/
theorem wxGet_of_acts {s t : State} {r : Fin 64} {idx : Nat} {d : WxDesc} (h : wxGet s r idx = some d)
    (ha : actIdx t.wetex = actIdx s.wetex) : ∃ e, wxGet t r idx = some e := by
  have hs : (wxGet s r idx).isSome := by rw [h]; rfl
  rw [wxGet_isSome, ← ha, ← wxGet_isSome] at hs
  exact Option.isSome_iff_exists.mp hs

/-- What a change of the descriptors of one index, which keeps the index, leaves to be found. -/
theorem wxGet_wxMod (s : State) (r : Fin 64) (idx : Nat) {f : WxDesc → WxDesc} (hf : ∀ d, (f d).idx = d.idx) :
    wxGet (wxMod s r idx f) r idx = (wxGet s r idx).map f := by
  have hp : (fun d : WxDesc => decide (d.idx = idx)) ∘ (fun d => if d.idx = idx then f d else d) =
      fun d => decide (d.idx = idx) := by
    funext d
    by_cases h : d.idx = idx <;> simp [h, hf]
  have hmap : wxGet (wxMod s r idx f) r idx =
      ((s.wetex.rings[r].act.map fun d => if d.idx = idx then f d else d).find? fun d => decide (d.idx = idx)) := by
    simp [wxGet, wxMod, wxModRing]
  rw [hmap, List.find?_map, hp]
  cases hg : wxGet s r idx with
  | none =>
    have hg' : s.wetex.rings[r].act.find? (fun d => decide (d.idx = idx)) = none := hg
    rw [hg']
    rfl
  | some d =>
    have hg' : s.wetex.rings[r].act.find? (fun d => decide (d.idx = idx)) = some d := hg
    rw [hg', Option.map_some, Option.map_some, if_pos (wxGet_idx hg)]

/-- The end of a descriptor that is found is its end as told. -/
theorem endedAs_wxEnd {t : State} {r : Fin 64} {idx st res det : Nat} {P : Nat → Nat → Nat → Prop} {d : WxDesc}
    (h : wxGet t r idx = some d) (hP : P st res det) : endedAs (wxEnd t r idx st res det) r idx P := by
  refine ⟨{ d with fin := some (st, res, det), running := false }, st, res, det, ?_, rfl, hP⟩
  unfold wxEnd
  refine (wxGet_wxMod t r idx (fun _ => by rfl)).trans ?_
  rw [h]
  rfl

/-- A descriptor that may start runs. -/
theorem wxRun_eq {s : State} {opc : Nat} {r : Fin 64} {idx : Nat} {d : WxDesc} (h : mayStart s opc r idx d) (f : WxDesc → State) :
    wxRun opc r idx s f = .next (f d) := by
  obtain ⟨hget, hready⟩ := h
  unfold wxRun
  rw [hget]
  exact if_pos hready

/-- A command that runs a descriptor. -/
theorem Answers.run {cmd : Instr} {s : State} {opc : Nat} {r : Fin 64} {idx : Nat} {d : WxDesc} {f : WxDesc → State}
    {P : State → Prop} (h : mayStart s opc r idx d) (hexec : exec cmd s = wxRun opc r idx s f) (hP : P (f d)) : Answers cmd s P :=
  ⟨f d, hexec.trans (wxRun_eq h f), hP⟩

end Sys2Proof.Machine
end

section
/-! Fuses (O55, O56): requests, their start and end, re-sensing, the fuse entry of a soft repair. -/

namespace Sys2Proof.Machine

/-! ### What a fuse operation reads -/

/-- A refusal rests on the fuse unit alone. -/
theorem fuseRefused_of {s t : State} (h : t.fuse = s.fuse) (o : FuseOp) : fuseRefused t o = fuseRefused s o := by
  calc fuseRefused t o = fuseRefused { s with fuse := t.fuse } o := rfl
    _ = fuseRefused s o := by rw [h]

/-- A request with no operation under way, of an opcode other than 0, the Keeper up: refused with its result, or pending. -/
theorem fuseRequest_fuse {s : State} {v : Word} (hop : bitsOf v.toNat 0 3 ≠ 0) (hk : keeperUp s = true) (hn : s.fuse.op = none) :
    (fuseRequest s v.toNat).fuse.arr = s.fuse.arr ∧
      if fuseRefused s (fuseRequested s v) = 0 then (fuseRequest s v.toNat).fuse.op = some (fuseRequested s v)
      else (fuseRequest s v.toNat).fuse.op = none ∧ (fuseRequest s v.toNat).fuse.result = fuseRefused s (fuseRequested s v) := by
  have hidle : ¬ s.fuse.op.isSome = true := by simp [hn]
  by_cases hr : fuseRefused s (fuseRequested s v) = 0
  · have hdo : fuseRequest s v.toNat = { s with fuse := { s.fuse with
        op := some (fuseRequested s v), result := 0, pulses := 0
        advanced := s.fuse.advanced || (decide (bitsOf v.toNat 0 3 = 4) && keeperUp s) } } := by
      have hpass : ¬ (keeperUp s && decide (fuseRefused s (fuseRequested s v) ≠ 0)) = true := by simp [hr]
      exact (if_neg hop).trans ((if_neg hidle).trans (if_neg hpass))
    rw [if_pos hr, hdo]
    exact ⟨rfl, rfl⟩
  · have hdo : fuseRequest s v.toNat = setFuseResult s (fuseRefused s (fuseRequested s v)) := by
      have hstop : (keeperUp s && decide (fuseRefused s (fuseRequested s v) ≠ 0)) = true := by simp [hr, hk]
      exact (if_neg hop).trans ((if_neg hidle).trans (if_pos hstop))
    rw [if_neg hr, hdo]
    exact ⟨rfl, hn, rfl⟩

/-- Each of the five commands is the dual write of FUSE.PCMD. -/
theorem exec_fuseRequestCmd {k : Nat} (h1 : 1 ≤ k) (h5 : k ≤ 5) {path : Path} {v c : Word} {s : State}
    (hv : bitsOf v.toNat 0 3 = k) :
    exec (fuseRequestCmd k path v c) s = whenDo (pathUp s path) s (writeDual s path 0x010048 v.toNat c.toNat) := by
  have hop : fuseCommand s path k v c = whenDo (pathUp s path) s (writeDual s path 0x010048 v.toNat c.toNat) := by
    simp [fuseCommand, hv]
  rw [← hop]
  obtain rfl | rfl | rfl | rfl | rfl : k = 1 ∨ k = 2 ∨ k = 3 ∨ k = 4 ∨ k = 5 := by omega
  all_goals rfl

/-! ### An operation's start and end -/

theorem fuseNoPulse_fuse (s : State) (word : Nat) : (fuseNoPulse s word).fuse = { s.fuse with op := none, result := 4 } :=
  (raise_ev ..).fuse

theorem fuseProg_ev (s : State) (word op result pulses : Nat) : EvKeeps s (fuseProg s word op result pulses) := raiseX_ev ..

/-- A start refuses, fails on a condition, or fixes word and data; it programs nothing. -/
theorem fuseStart_fuse (s : State) (o : FuseOp) :
    (fuseStart s o).fuse.arr = s.fuse.arr ∧
      if fuseRefused s o ≠ 0 then (fuseStart s o).fuse.op = none ∧ (fuseStart s o).fuse.result = fuseRefused s o
      else if fuseCond s ≠ 7 then (fuseStart s o).fuse.op = none ∧ (fuseStart s o).fuse.result = 4
      else (fuseStart s o).fuse.op = some { o with
        word := (fuseTarget s o).1, data := BitVec.ofNat 32 (fuseTarget s o).2, started := true } := by
  by_cases hr : fuseRefused s o ≠ 0
  · rw [if_pos hr, fuseStart, if_pos hr]
    exact ⟨rfl, rfl, rfl⟩
  · rw [if_neg hr, fuseStart, if_neg hr]
    by_cases hc : fuseCond s ≠ 7
    · rw [if_pos hc, if_pos hc, fuseNoPulse_fuse]
      exact ⟨rfl, rfl, rfl⟩
    · rw [if_neg hc, if_neg hc]
      exact ⟨rfl, rfl⟩

/-- Pulses with no weak word: the word gains the data at every reference. -/
theorem fuseRead_fusePulse_same (a : SMap FuseWord) (w : Nat) (d : Word) (ref : Nat) :
    fuseRead (fusePulse a w d.toNat []) w ref = fuseRead a w ref ||| d.toNat := by
  simp only [fuseRead, fusePulse, List.find?_nil, smGet_smSet_same, BitVec.ofNat_toNat, BitVec.setWidth_eq]
  split
  · rfl
  · split <;> rfl

theorem fuseRead_fusePulse_other (a : SMap FuseWord) {w k : Nat} (d ref : Nat) (h : k ≠ w) :
    fuseRead (fusePulse a w d []) k ref = fuseRead a k ref := by
  simp only [fuseRead, fusePulse, List.find?_nil, smGet_smSet_other h]

/-- An operation's end: no operation, the pulses told, the array with the word programmed, result 0 exactly where it verifies. -/
theorem fuseDone_fuse {s : State} {o : FuseOp} (h8 : o.op ≠ 8) (pulses : Nat) :
    (fuseDone s o [] pulses).fuse.op = none ∧ (fuseDone s o [] pulses).fuse.pulses = pulses ∧
      (fuseDone s o [] pulses).fuse.arr = fusePulse s.fuse.arr o.word o.data.toNat [] ∧
      ((fuseDone s o [] pulses).fuse.result = 0 ↔
        fuseVerified s.fuse.arr (fusePulse s.fuse.arr o.word o.data.toNat []) o.word o.data.toNat = true) := by
  unfold fuseDone
  extract_lets d a _ r s1 s2
  split
  · next h =>
    rw [fuseNoPulse_fuse]
    refine ⟨rfl, rfl, rfl, ?_⟩
    rw [h.2]
    exact ⟨fun h4 => absurd h4 (show (4 : Nat) ≠ 0 by decide), fun hf => absurd hf Bool.false_ne_true⟩
  · have h2 : s2.fuse = s1.fuse := (fuseProg_ev ..).fuse
    have hres : r = 0 ↔ fuseVerified s.fuse.arr a o.word d = true := by
      unfold r
      split <;> simp [*]
    split
    · rw [show (raiseJ s2 1417 0x0D06 sevNotice (lcOf a) s2.fuse.lc).fuse = s1.fuse from (raiseX_ev ..).fuse.trans h2]
      exact ⟨rfl, rfl, rfl, hres⟩
    · rw [h2]
      exact ⟨rfl, rfl, rfl, hres⟩

/-! ### Re-sensing -/

/-- What a drifted word leaves of the fuse unit, and the clock. -/
theorem driftWord_keeps (s : State) (x : Nat × FuseWord) :
    (driftWord s x).fuse.arr = s.fuse.arr ∧ (driftWord s x).fuse.latched = s.fuse.latched ∧ (driftWord s x).fuse.lc = s.fuse.lc ∧
      (driftWord s x).fuse.resenseAt = s.fuse.resenseAt ∧ (driftWord s x).now = s.now := by
  unfold driftWord
  split
  · exact ⟨rfl, rfl, rfl, rfl, rfl⟩
  · extract_lets s1 s2
    split
    · exact ⟨rfl, rfl, rfl, rfl, rfl⟩
    · rw [(raise_ev ..).fuse, (raise_ev ..).now]
      exact ⟨rfl, rfl, rfl, rfl, rfl⟩

theorem resense_fuse (s : State) (drift : List FuseReading) :
    (resense s drift).fuse.arr = putReadings s.fuse.arr drift ∧ (resense s drift).fuse.latched = s.fuse.latched ∧
      (resense s drift).fuse.lc = s.fuse.lc ∧
      (resense s drift).fuse.resenseAt = s.now - (s.now - s.fuse.resenseAt) % tenMinutes ∧ (resense s drift).now = s.now := by
  unfold resense
  extract_lets s1 words
  refine ⟨?_, ?_, ?_, ?_, ?_⟩
  · exact foldl_keeps (·.fuse.arr) _ (fun s x => (driftWord_keeps s x).1) _ _
  · exact foldl_keeps (·.fuse.latched) _ (fun s x => (driftWord_keeps s x).2.1) _ _
  · exact foldl_keeps (·.fuse.lc) _ (fun s x => (driftWord_keeps s x).2.2.1) _ _
  · exact foldl_keeps (·.fuse.resenseAt) _ (fun s x => (driftWord_keeps s x).2.2.2.1) _ _
  · exact foldl_keeps (·.now) _ (fun s x => (driftWord_keeps s x).2.2.2.2) _ _

/-- Settles O55 (R502 to R508). -/
theorem fuseOperations : Obligations.FuseOperations := by
  unfold Obligations.FuseOperations
  refine ⟨?request, ?start, ?done, ?resense⟩
  case request =>
    intro k path v c s hq h1 h5 hv hk hn
    refine Answers.dual hq (exec_fuseRequestCmd h1 h5 hv) (by decide) rfl (fun h => ?_) (fun h => ?_)
    · have hev := journalReg_ev (clearLatch s path) path.val 0x010048 v.toNat 1
      have hfuse : (journalReg (clearLatch s path) path.val 0x010048 v.toNat 1).fuse = s.fuse := hev.fuse
      have hasked : fuseRequested (journalReg (clearLatch s path) path.val 0x010048 v.toNat 1) v = fuseRequested s v := by
        unfold fuseRequested csrFld
        rw [hev.csr _ (not_lossCounter_of_lt (by decide)), hev.csr _ (not_lossCounter_of_lt (by decide))]
        rfl
      have hup : keeperUp (journalReg (clearLatch s path) path.val 0x010048 v.toNat 1) = true := by
        rw [keeperUp, hev.stack]
        exact hk
      have hreq := fuseRequest_fuse (v := v) (by rw [hv]; omega) hup (by rw [hfuse]; exact hn)
      rw [hasked, fuseRefused_of hfuse, hfuse] at hreq
      rw [if_pos h]
      exact hreq
    · rw [if_neg h]
      exact ⟨congrArg FuseSt.arr (regDw_ev ..).fuse, (regDw_ev ..).fuse⟩
  case start =>
    intro o s ho hs hk
    refine ⟨fuseStart s o, ?_, fuseStart_fuse s o⟩
    show execFuseOpStart s = _
    unfold execFuseOpStart
    rw [ho]
    exact if_pos (by rw [hk, hs]; rfl)
  case done =>
    intro o pulses s ho hs h8
    refine ⟨fuseDone s o [] pulses, ?_, ?_⟩
    · show execFuseOpDone [] pulses s = _
      unfold execFuseOpDone
      rw [ho]
      exact if_pos hs
    · obtain ⟨hop, hpulses, harr, hres⟩ := fuseDone_fuse (s := s) h8 pulses
      rw [harr]
      exact ⟨hop, hpulses, fun ref => fuseRead_fusePulse_same .., fun w ref h => fuseRead_fusePulse_other _ _ _ h, hres⟩
  case resense =>
    intro drift s hready hn hf
    refine ⟨resense (s.atLeast (s.fuse.resenseAt + tenMinutes)) drift, if_pos (by rw [hready, hn, hf]; rfl), ?_⟩
    have hfuse := State.atLeast_fuse s (s.fuse.resenseAt + tenMinutes)
    have hlate := le_atLeast_now s (s.fuse.resenseAt + tenMinutes)
    generalize s.atLeast (s.fuse.resenseAt + tenMinutes) = u at *
    obtain ⟨harr, hlatched, hlc, hat, hnow⟩ := resense_fuse u drift
    rw [hfuse] at harr hlatched hlc hat
    show _ ≤ (resense u drift).now ∧ _ = (resense u drift).now - ((resense u drift).now - _) % _ ∧ _
    rw [hnow]
    exact ⟨hlate, hat, harr, hlatched, hlc⟩

/-! ### REPAIR_FUSE (R263 to R265) -/

/-- What hardware discards of a pending dual write touches no other part of the register unit than its dual writes. -/
theorem dwHardware_csr0 (s : State) (a : Nat) : (dwHardware s a).regs.csr0 = s.regs.csr0 := by
  have hdw (t : State) (path reason : Nat) : (regDw t a path reason).regs.csr0 = t.regs.csr0 :=
    raiseLim_regs (g := RegSt.csr0) (fun _ _ _ => rfl) ..
  unfold dwHardware
  extract_lets _ u
  have hu : u.regs.csr0 = s.regs.csr0 := by
    unfold u
    split
    · split
      · exact hdw ..
      · rfl
    · rfl
  split
  · split
    · exact (hdw ..).trans hu
    · exact hu
  · exact hu

/-- The stored words of Pyevo that the CCLK began with. -/
theorem csrGet_before_of {s t : State} (h0 : t.regs.csr0 = s.regs.csr0) {a : Nat} (h : csrGet t a = csrGet s a) :
    csrGet (before t) a = csrGet (before s) a := by
  unfold before
  rw [h0]
  split
  · rfl
  · exact h

theorem thresholdReg_mode (d : Fin 18) : (regRow (0x080004 + 4 * dieKind d.val)).map (·.mode) = some 0x080000 ∧
    0x080000 ≤ 0x080004 + 4 * dieKind d.val ∧ 0x080004 + 4 * dieKind d.val < 0x090000 := by
  revert d
  decide

/-- The programming conditions rest on the readings, the TRIM group and Pyevo's thresholds. -/
theorem fuseCond_of {s t : State} (htherm : t.therm = s.therm) (hfuse : t.fuse = s.fuse)
    (hcsr : ∀ a, 0x080000 ≤ a → a < 0x090000 → csrGet (before t) a = csrGet (before s) a) : fuseCond t = fuseCond s := by
  have hthreshold (d : Fin 18) (which : Nat) : threshold t d.val which = threshold s d.val which := by
    obtain ⟨hmode, hlo, hhi⟩ := thresholdReg_mode d
    have hforce := csrForce_of hmode (hcsr _ hlo hhi) (hcsr 0x080000 (by decide) (by decide))
    unfold threshold csrForceFld trimOff
    rw [hforce, hfuse]
  have hchan : chanTemp t = chanTemp s := by
    funext c
    unfold chanTemp
    rw [hthreshold, htherm]
  have hdie : dieTemp t 17 = dieTemp s 17 := by
    unfold dieTemp
    rw [hchan, htherm]
    rfl
  unfold fuseCond coreInLimits
  rw [hdie, htherm]

/-- A refused repair programs nothing and ends its descriptor with the reason. -/
theorem fuseRepairRefused_parts {s : State} {r : Fin 64} {d e : WxDesc} (hget : wxGet s r d.idx = some e) (n bank row why : Nat) :
    EvKeeps s (repairRefused s (pcFin n) bank row why) ∧
      endedAs (fuseRepairRefused s r d n bank row why) r d.idx fun st res det => st = wxRefused ∧ res = 0 ∧ det = why :=
  have hev : EvKeeps s (repairRefused s (pcFin n) bank row why) := raise_ev ..
  ⟨hev, endedAs_wxEnd ((wxGet_of hev.wetex ..).trans hget) ⟨rfl, rfl, rfl⟩⟩

theorem fieldProg_ev (s : State) (old new : SMap FuseWord) (i w pulses : Nat) : EvKeeps s (fieldProg s old new i w pulses) :=
  EvKeeps.ite ((fuseProg_ev ..).trans (fuseProg_ev ..)) (fuseProg_ev ..)

/-- The state in which REPAIR_FUSE works: FUSEAUTH disarmed, a pending dual write of it discarded. -/
def fuseauthDisarmed (s : State) : State := dwHardware (csrSet s 0x070210 0) 0x070210

theorem fuseauthDisarmed_ev (s : State) : EvKeeps (csrSet s 0x070210 0) (fuseauthDisarmed s) := dwHardware_ev ..

theorem fuseCond_fuseauthDisarmed (s : State) : fuseCond (fuseauthDisarmed s) = fuseCond s := by
  have hev := fuseauthDisarmed_ev s
  have h0 : (fuseauthDisarmed s).regs.csr0 = s.regs.csr0 := dwHardware_csr0 ..
  refine fuseCond_of hev.therm hev.fuse fun a hlo hhi => csrGet_before_of h0 ?_
  rw [hev.csr a (not_lossCounter_of_lt (by omega)), csrGet_csrSet_other _ _ (by omega)]

/-- Pulses that verify: the array, the records of the two WRITE operations, what takes force, and the end. -/
theorem fuseRepairProgram_verified {s : State} {slot w : Nat} (h : (fieldPulse s.fuse.arr slot w []).2 = true) (r : Fin 64)
    (d : WxDesc) (kind n : Nat) (f : State → State) :
    fuseRepairProgram s r d kind n slot w true f =
      wxEnd (raiseJ (f (fieldProg { s with fuse := { s.fuse with arr := (fieldPulse s.fuse.arr slot w []).1 } } s.fuse.arr
        (fieldPulse s.fuse.arr slot w []).1 slot w 0)) (pcSrc n 6) 0x0232 sevNotice kind (1 + slot * 16)) r d.idx 0 slot 0 :=
  if_pos h

/-- The soft repair of an entry is over and its row a fuse entry in force. -/
def softFused (i : Fin 256) (e : SoftRep) (s : State) : State :=
  { s with dram := { s.dram with soft := s.dram.soft.set i none, fuseRows := s.dram.fuseRows ++ [e] } }

/-- A row's soft repair, with a free slot and supplies in range, programs its field entry. -/
theorem fuseRow_parts {s : State} {r : Fin 64} {d f : WxDesc} {i : Fin 256} {e : SoftRep} {slot : Nat}
    (hget : wxGet s r d.idx = some f) (hsoft : s.dram.soft[i] = some e) (hslot : fieldSlot s 0 1024 = some slot)
    (hcond : fuseCond s = 7) (hgood : (fieldPulse s.fuse.arr slot (rowWord e) []).2 = true) :
    csrGet (fuseRow s r d i true) 0x070210 = csrGet s 0x070210 ∧
      (fuseRow s r d i true).fuse.arr = (fieldPulse s.fuse.arr slot (rowWord e) []).1 ∧
      (fuseRow s r d i true).dram.soft[i] = none ∧ (fuseRow s r d i true).dram.fuseRows = s.dram.fuseRows ++ [e] ∧
      endedAs (fuseRow s r d i true) r d.idx fun st res det => st = 0 ∧ res = slot ∧ det = 0 := by
  have hdo : fuseRow s r d i true = fuseRepairProgram s r d 0 e.pc slot (rowWord e) true (softFused i e) := by
    unfold fuseRow
    rw [hsoft]
    dsimp only
    rw [hslot]
    exact if_neg (by rw [hcond]; simp)
  rw [hdo, fuseRepairProgram_verified hgood]
  -- The records of the two WRITE operations and FUSE_REPAIRED are events; between them the row takes force.
  have hprog := fieldProg_ev { s with fuse := { s.fuse with arr := (fieldPulse s.fuse.arr slot (rowWord e) []).1 } } s.fuse.arr
    (fieldPulse s.fuse.arr slot (rowWord e) []).1 slot (rowWord e) 0
  generalize fieldProg _ _ _ _ _ _ = u at hprog
  have hrep : EvKeeps (softFused i e u) (raiseJ (softFused i e u) (pcSrc e.pc 6) 0x0232 sevNotice 0 (1 + slot * 16)) := raiseX_ev ..
  generalize raiseJ _ _ _ _ _ _ = t at hrep
  have ha := not_lossCounter_of_lt (a := 0x070210) (by decide)
  refine ⟨(hrep.csr _ ha).trans (hprog.csr _ ha), ?_, ?_, ?_,
    endedAs_wxEnd ((wxGet_of (hrep.wetex.trans hprog.wetex) ..).trans hget) ⟨rfl, rfl, rfl⟩⟩
  · exact congrArg FuseSt.arr (hrep.fuse.trans hprog.fuse)
  · show t.dram.soft[i] = none
    rw [hrep.dram]
    simp [softFused]
  · show t.dram.fuseRows = _
    rw [hrep.dram]
    show u.dram.fuseRows ++ [e] = _
    rw [hprog.dram]

/-- Settles O56 (R263 to R265). -/
theorem softRepairBecomesFuseEntry : Obligations.SoftRepairBecomesFuseEntry := by
  unfold Obligations.SoftRepairBecomesFuseEntry
  refine ⟨?refused, ?programmed⟩
  case refused =>
    intro r idx ok d s hmay hwhy
    refine Answers.run hmay rfl ?_
    obtain rfl := wxGet_idx hmay.1
    have hev := fuseauthDisarmed_ev s
    obtain ⟨hrep, hend⟩ := fuseRepairRefused_parts (s := fuseauthDisarmed s) ((wxGet_of hev.wetex ..).trans hmay.1)
      (bitsOf (csrGet s 0x070210) 10 6) (bitsOf (csrGet s 0x070210) 16 5) 0 5
    have hwhy' : bitsOf (csrGet s 0x070210) 0 1 = 0 ∨ (fuseauthDisarmed s).fuse.lc ≠ 3 ∨
        (fuseauthDisarmed s).fuse.advanced = true := by
      rw [hev.fuse]
      exact hwhy
    have hdo : repairFuse s r d ok = fuseRepairRefused (fuseauthDisarmed s) r d (bitsOf (csrGet s 0x070210) 10 6)
        (bitsOf (csrGet s 0x070210) 16 5) 0 5 := if_pos hwhy'
    have hkeeps := hev.trans hrep
    rw [hdo]
    refine ⟨(hkeeps.csr _ (not_lossCounter_of_lt (by decide))).trans (csrGet_csrSet_same _ _ _ (by decide)), ?_, hkeeps.dram, hend⟩
    exact congrArg FuseSt.arr hkeeps.fuse
  case programmed =>
    intro r idx i e slot d s hmay harmed hlc hadv hrow hidx hsoft hcond hslot hgood
    refine Answers.run hmay rfl ?_
    obtain rfl := wxGet_idx hmay.1
    have hev := fuseauthDisarmed_ev s
    have hdo : repairFuse s r d true = fuseRow (fuseauthDisarmed s) r d i true := by
      have hgo : ¬ (bitsOf (csrGet s 0x070210) 0 1 = 0 ∨ (fuseauthDisarmed s).fuse.lc ≠ 3 ∨
          (fuseauthDisarmed s).fuse.advanced = true) := by
        rw [hev.fuse]
        simp [show bitsOf (csrGet s 0x070210) 0 1 = 1 from harmed, hlc, hadv]
      have hi : (⟨bitsOf (csrGet s 0x070210) 2 8 % 256, Nat.mod_lt _ (by decide)⟩ : Fin 256) = i := by
        apply Fin.ext
        show bitsOf (csrGet s 0x070210) 2 8 % 256 = i.val
        rw [show bitsOf (csrGet s 0x070210) 2 8 = i.val from hidx]
        exact Nat.mod_eq_of_lt i.isLt
      rw [← hi]
      exact (if_neg hgo).trans (if_pos hrow)
    have hparts := fuseRow_parts (s := fuseauthDisarmed s) (d := d) (slot := slot) ((wxGet_of hev.wetex ..).trans hmay.1)
      (by rw [hev.dram]; exact hsoft) (by rw [fieldSlot, hev.fuse]; exact hslot) (by rw [fuseCond_fuseauthDisarmed, hcond])
      (by rw [hev.fuse]; exact hgood)
    rw [hev.fuse, hev.dram, hev.csr _ (not_lossCounter_of_lt (by decide)), csrGet_csrSet_same _ _ _ (by decide)] at hparts
    rw [hdo]
    exact hparts

end Sys2Proof.Machine
end

section
/-! Firmware commits, lease, clean boots and settings (O58). -/

namespace Sys2Proof.Machine

/-! ### The rollback fuses (R524) -/

theorem rbAdvance_fw (s : State) (c : Nat) (ok : Bool) : (rbAdvance s c ok).fw = s.fw :=
  (rbAdvance_mv ..).fw.resolve_left (by decide)

/-- Some component's fuses fall short of its floor. -/
def rbShort (s : State) : Bool := (List.range 3).any fun c => decide (rollbackIdx s.fuse.arr c < s.fw.floors[compFin c])

theorem rbShort_iff {s : State} : rbShort s = true ↔ ∃ c : Fin 3, rollbackIdx s.fuse.arr c.val < s.fw.floors[c] := by
  have hfloor (c : Fin 3) : s.fw.floors[compFin c.val] = s.fw.floors[c] :=
    congrArg (fun i : Fin 3 => s.fw.floors[i]) (Fin.ext (Nat.mod_eq_of_lt c.isLt))
  simp only [rbShort, List.any_eq_true, List.mem_range, decide_eq_true_eq]
  constructor
  · rintro ⟨c, hc, hlt⟩
    exact ⟨⟨c, hc⟩, (hfloor ⟨c, hc⟩) ▸ hlt⟩
  · rintro ⟨c, hlt⟩
    exact ⟨c.val, c.isLt, (hfloor c).symm ▸ hlt⟩

/-- The fuses as far as a try advances them. -/
def rbAdvanced (s : State) (ok : Bool) : State :=
  if rbPossible s then (List.range 3).foldl (fun s c => rbAdvance s c ok) s else s

theorem rbAdvanced_fw (s : State) (ok : Bool) : (rbAdvanced s ok).fw = s.fw := by
  unfold rbAdvanced
  split
  · exact foldl_keeps (·.fw) _ (fun s c => rbAdvance_fw s c ok) _ _
  · rfl

theorem rbTry_eq (s : State) (ok : Bool) : rbTry s ok =
    { rbAdvanced s ok with
      fw := { (rbAdvanced s ok).fw with rbPending := rbShort (rbAdvanced s ok), rbTriedAt := (rbAdvanced s ok).now } } := rfl

/-! ### Commit (R523) -/

/-- What a commit and the end of a lease keep of the firmware unit. -/
structure SameImages (s t : State) : Prop where
  active : t.fw.active = s.fw.active
  bootCounted : t.fw.bootCounted = s.fw.bootCounted

theorem SameImages.trans {s t u : State} (h : SameImages s t) (k : SameImages t u) : SameImages s u :=
  ⟨k.active.trans h.active, k.bootCounted.trans h.bootCounted⟩

theorem SameImages.of_fw {s t : State} (h : t.fw = s.fw) : SameImages s t := by
  constructor <;> rw [h]

/-- A commit ends the lease and keeps the active images; nothing stays activated. -/
theorem commit_fw (s : State) : (commit s).fw.holder = 0 ∧ (commit s).fw.activated = 0 ∧ SameImages s (commit s) := by
  unfold commit
  extract_lets done src first s1 s2 _ s3 s4 s5
  have h1 : SameImages s s1 := by
    refine ⟨foldl_keeps (·.fw.active) _ (fun s c => ?_) _ _, foldl_keeps (·.fw.bootCounted) _ (fun s c => ?_) _ _⟩
    all_goals
      dsimp only
      split <;> rfl
  have h2 : SameImages s1 s2 := by
    unfold s2
    rw [rbTry_eq]
    exact SameImages.of_fw (s := s1) (t := rbAdvanced s1.useFree _) (rbAdvanced_fw ..) |>.trans ⟨rfl, rfl⟩
  have h3 : SameImages s2 s3 := by
    unfold s3
    split <;> exact ⟨rfl, rfl⟩
  have h4 : SameImages s3 s4 := .of_fw (journal_ev ..).fw
  have h5 : SameImages s4 s5 := .of_fw (raiseX_ev ..).fw
  have hend : SameImages s5 (endLease s5 0) := by constructor <;> rw [endLease_fw]
  exact ⟨by rw [endLease_fw], by rw [endLease_fw], ((((h1.trans h2).trans h3).trans h4).trans h5).trans hend⟩

theorem commit_wetex (s : State) : (commit s).wetex = s.wetex := (commit_mv s).wetex.resolve_left (by decide)

/-- A commit request of a source. -/
theorem commitReq_of_holder {s : State} {src : Nat} (hsrc : src ≠ 0) (h : s.fw.holder = src ∧ s.fw.activated ≠ 0) :
    commitReq s src = (0, s.fw.activated + 8 * b2n (commit s).fw.rbPending, commit s) := by
  obtain ⟨hholder, hact⟩ := h
  exact (if_neg (by omega)).trans ((if_neg (by omega)).trans (if_neg hact))

/-- Why a commit of a source is refused. -/
def commitCode (s : State) (src : Nat) : Nat := if s.fw.holder = 0 then 0x10 else if s.fw.holder ≠ src then 0x12 else 0x11

theorem commitReq_refused {s : State} {src : Nat} (h : ¬ (s.fw.holder = src ∧ s.fw.activated ≠ 0)) :
    commitReq s src = (commitCode s src, 0, s) := by
  unfold commitReq commitCode
  by_cases h0 : s.fw.holder = 0
  · rw [if_pos h0, if_pos h0]
  · rw [if_neg h0, if_neg h0]
    by_cases hs : s.fw.holder ≠ src
    · rw [if_pos hs, if_pos hs]
    · rw [if_neg hs, if_neg hs, if_pos (by omega)]

/-- The end of a host's activation or commit that did what was asked. -/
theorem fwEnd_done {t : State} {r : Fin 64} {idx : Nat} {d : WxDesc} (h : wxGet t r idx = some d) (res : Nat) :
    endedAs (fwEnd t r idx 0 res) r idx fun st x det => st = 0 ∧ x = res ∧ det = 0 :=
  endedAs_wxEnd h ⟨rfl, rfl, rfl⟩

/-- The end of one that is refused: BUSY for another's lease, else with its reason. -/
theorem fwEnd_refused {t : State} {r : Fin 64} {idx : Nat} {d : WxDesc} (h : wxGet t r idx = some d) {code : Nat} (hc : code ≠ 0)
    (res : Nat) : endedAs (fwEnd t r idx code res) r idx fun st x det =>
      x = 0 ∧ if code = 0x12 then st = wxBusy ∧ det = 0 else st = wxRefused ∧ det = code := by
  unfold fwEnd
  rw [if_neg hc]
  split
  · exact endedAs_wxEnd h ⟨rfl, rfl, rfl⟩
  · exact endedAs_wxEnd h ⟨rfl, rfl, rfl⟩

@[simp] theorem fwEnd_fw (t : State) (r : Fin 64) (idx code res : Nat) : (fwEnd t r idx code res).fw = t.fw := by
  unfold fwEnd
  split
  · rfl
  · split <;> rfl

theorem endedAs_mono {t : State} {r : Fin 64} {idx : Nat} {P Q : Nat → Nat → Nat → Prop} (h : endedAs t r idx P)
    (hPQ : ∀ st res det, P st res det → Q st res det) : endedAs t r idx Q := by
  obtain ⟨d, st, res, det, hd, hfin, hP⟩ := h
  exact ⟨d, st, res, det, hd, hfin, hPQ _ _ _ hP⟩

theorem endLease_now (s : State) (cause : Nat) : (endLease s cause).now = s.now := by
  unfold endLease
  extract_lets src _ s1 s2
  have h2 : s2.now = s.now := (journal_ev ..).now
  split
  · exact h2
  · exact (raiseX_ev ..).now.trans h2

/-! ### The management port's commands (R527) -/

/-- A command of the management port that may run at once. -/
theorem Answers.mcmd {cmd : Instr} {s : State} {v : Word} {op : Nat} {sc : Bool} {P : State → Prop} (hq : quietPath s mgmtPath)
    (hup : keeperUp s = true) (hidle : mBusy s = false) (hop : bitsOf v.toNat 0 2 = op)
    (hsex : op = 1 → sextantBusy s (bitsOf v.toNat 2 2) = false)
    (hexec : exec cmd s = Machine.whenDo (pathUp s mgmtPath && decide (bitsOf v.toNat 0 2 = op)) s
      (writeReg s mgmtPath 0x0D0080 v.toNat sc))
    (h : P (runMcmd (clearLatch s mgmtPath) v.toNat sc)) : Answers cmd s P := by
  refine Answers.word hq (decide_eq_true hop) hexec (by decide) (by decide) (fun h => absurd h (by decide)) ?_
  have hdo : applyWord (clearLatch s mgmtPath) mgmtPath 0x0D0080 v.toNat sc = writeMcmd (clearLatch s mgmtPath) v.toNat sc := rfl
  have hgo : ¬ (!keeperUp (clearLatch s mgmtPath) ||
      (decide (bitsOf v.toNat 0 2 = 1) && sextantBusy (clearLatch s mgmtPath) (bitsOf v.toNat 2 2))) = true := by
    have hup' : keeperUp (clearLatch s mgmtPath) = true := hup
    by_cases h1 : bitsOf v.toNat 0 2 = 1
    · have hs : sextantBusy (clearLatch s mgmtPath) (bitsOf v.toNat 2 2) = false := hsex (hop.symm.trans h1)
      simp [hup', hs]
    · simp [hup', h1]
  have hfree : ¬ mBusy (clearLatch s mgmtPath) = true := by
    have hidle' : mBusy (clearLatch s mgmtPath) = false := hidle
    simp [hidle']
  rw [hdo, writeMcmd, if_neg hfree, if_neg hgo]
  exact h

/-! ### Settings (R525) -/

/-- One written setting is stored: its backed bits. -/
theorem storeSettings_one {s : State} {a : Nat} {row : RegRow} (hu : s.fw.unsaved = [a]) (hr : regRow a = some row) :
    (storeSettings s).fw.unsaved = [] ∧
      settingOf (storeSettings s) a = (((csrGet s a ^^^ regReset a) &&& row.sb) % 2 ^ 32) ^^^ regReset a := by
  refine ⟨rfl, ?_⟩
  have hrec : (storeSettings s).fw.areas[areaFin (storeSettings s).fw.area] = rewriteRec s.fw.areas[areaFin s.fw.area]
      (smSet 0 s.fw.areas[areaFin s.fw.area].vals a (BitVec.ofNat 32 ((csrGet s a ^^^ regReset a) &&& row.sb))) := by
    unfold storeSettings
    rw [hu]
    simp [hr]
  unfold settingOf
  rw [hrec]
  simp only [rewriteRec, smGet_smSet_same, BitVec.toNat_ofNat]

/-! ### Clean boots (R523) and retries of the rollback fuses (R524) -/

theorem commit_now (s : State) : s.now ≤ (commit s).now := (commit_mv s).now

/-- A clean boot of s, counted in the state t that its time has come in. -/
def countBoot (s t : State) : State :=
  let n := satAdd 3 s.fw.cleanBoots 1
  let u := { t with fw := { t.fw with bootCounted := true, cleanBoots := if s.fw.activated = 0 then s.fw.cleanBoots else n } }
  if s.fw.activated = 0 then u else if n = 3 then commit u else bootWrite u

theorem cleanBoot_eq (s : State) : cleanBoot s = countBoot s (s.atLeast (s.fw.bootAt + tenSeconds)) := rfl

/-- A clean boot is counted; with something activated it is one more, and the third commits. -/
theorem countBoot_parts {s t : State} (h : t.fw = s.fw) :
    t.now ≤ (countBoot s t).now ∧ (countBoot s t).fw.bootCounted = true ∧
      (s.fw.activated = 0 → (countBoot s t).fw.cleanBoots = s.fw.cleanBoots) ∧
      (s.fw.activated ≠ 0 → s.fw.cleanBoots < 2 →
        (countBoot s t).fw.cleanBoots = s.fw.cleanBoots + 1 ∧ (countBoot s t).fw.activated = s.fw.activated) ∧
      (s.fw.activated ≠ 0 → s.fw.cleanBoots = 2 → (countBoot s t).fw.activated = 0 ∧ (countBoot s t).fw.holder = 0) := by
  unfold countBoot
  rw [← h]
  extract_lets n _ u
  have hn : n = min 3 (t.fw.cleanBoots + 1) := rfl
  by_cases hact : t.fw.activated = 0
  · rw [if_pos hact]
    exact ⟨Nat.le_refl _, rfl, fun _ => if_pos hact, fun h => absurd hact h, fun h => absurd hact h⟩
  rw [if_neg hact]
  by_cases h3 : n = 3
  · obtain ⟨hholder, hnone, himages⟩ := commit_fw u
    rw [if_pos h3]
    refine ⟨commit_now u, himages.bootCounted, fun h => absurd h hact, fun _ _ => ?_, fun _ _ => ⟨hnone, hholder⟩⟩
    omega
  · rw [if_neg h3]
    refine ⟨Nat.le_refl _, rfl, fun h => absurd h hact, fun _ _ => ⟨?_, rfl⟩, fun _ _ => ?_⟩
    · refine (if_neg hact).trans ?_
      omega
    · omega

/-- A try of the rollback fuses: its time, what stays pending, and nothing programmed where it may not. -/
theorem rbTry_parts (s : State) (ok : Bool) : s.now ≤ (rbTry s ok).now ∧ (rbTry s ok).fw.rbTriedAt = (rbTry s ok).now ∧
    ((rbTry s ok).fw.rbPending = true ↔ ∃ c : Fin 3, rollbackIdx (rbTry s ok).fuse.arr c.val < s.fw.floors[c]) ∧
    (rbPossible s = false → (rbTry s ok).fuse.arr = s.fuse.arr) := by
  refine ⟨(rbTry_mv s ok).now, rfl, ?_, fun h => ?_⟩
  · rw [rbTry_eq, ← rbAdvanced_fw s ok]
    exact rbShort_iff
  · rw [rbTry_eq, rbAdvanced, if_neg (by rw [h]; exact Bool.false_ne_true)]

/-- Settles O58 (R518, R523 to R525, R527). -/
theorem firmwareCommitAndSettings : Obligations.FirmwareCommitAndSettings := by
  unfold Obligations.FirmwareCommitAndSettings
  refine ⟨?host, ?mgmt, ?lease, ?boot, ?store, ?retry⟩
  case host =>
    intro r idx d s hmay
    refine Answers.run hmay rfl ?_
    obtain rfl := wxGet_idx hmay.1
    by_cases h : s.fw.holder = 1 ∧ s.fw.activated ≠ 0
    · rw [if_pos h, commitReq_of_holder (by decide) h]
      obtain ⟨hholder, hact, himages⟩ := commit_fw s
      refine ⟨?_, ?_, ?_, ?_⟩ <;> dsimp only <;> rw [fwEnd_fw]
      · exact hholder
      · exact hact
      · exact himages.active
      · exact fwEnd_done ((wxGet_of (commit_wetex s) ..).trans hmay.1) _
    · rw [if_neg h, commitReq_refused h]
      have hcode : commitCode s 1 ≠ 0 := by
        unfold commitCode
        (repeat' split) <;> decide
      refine ⟨fwEnd_fw .., endedAs_mono (fwEnd_refused hmay.1 hcode 0) fun st res det hend => ⟨hend.1, ?_⟩⟩
      obtain ⟨-, hend⟩ := hend
      split at hend
      · exact .inr hend.1
      · exact .inl hend.1
  case mgmt =>
    intro v s hq hup hidle hop
    refine Answers.mcmd hq hup hidle hop (fun h => absurd h (by decide)) rfl ?_
    have hdo : runMcmd (clearLatch s mgmtPath) v.toNat true =
        setMResult (commitReq (clearLatch s mgmtPath) 2).2.2 (commitReq (clearLatch s mgmtPath) 2).1 := by
      unfold runMcmd
      simp only [hop]
      rfl
    rw [hdo]
    by_cases h : s.fw.holder = 2 ∧ s.fw.activated ≠ 0
    · rw [if_pos h, commitReq_of_holder (s := clearLatch s mgmtPath) (by decide) h]
      obtain ⟨hholder, hact, -⟩ := commit_fw (clearLatch s mgmtPath)
      exact ⟨rfl, hholder, hact⟩
    · rw [if_neg h, commitReq_refused (s := clearLatch s mgmtPath) h]
      rfl
  case lease =>
    intro s hup hheld hnone
    refine ⟨endLease (s.atLeast (s.fw.leaseAt + tenMinutes)) 3, if_pos (by simp [hup, hheld, hnone]), ?_⟩
    have hfw := State.atLeast_fw s (s.fw.leaseAt + tenMinutes)
    have hlate := le_atLeast_now s (s.fw.leaseAt + tenMinutes)
    generalize s.atLeast (s.fw.leaseAt + tenMinutes) = u at *
    refine ⟨by rw [endLease_fw], by rw [endLease_fw], by rw [endLease_now]; exact hlate, by rw [endLease_fw, hfw]⟩
  case boot =>
    intro s hup hnew
    refine ⟨cleanBoot s, if_pos (by simp [hup, hnew]), ?_⟩
    rw [cleanBoot_eq]
    have hfw := State.atLeast_fw s (s.fw.bootAt + tenSeconds)
    have hlate := le_atLeast_now s (s.fw.bootAt + tenSeconds)
    generalize s.atLeast (s.fw.bootAt + tenSeconds) = t at *
    obtain ⟨hnow, hparts⟩ := countBoot_parts hfw
    exact ⟨Nat.le_trans hlate hnow, hparts⟩
  case store =>
    intro a row s hup hu hf hr
    exact ⟨storeSettings s, if_pos (by simp [hup, hu, hf]), storeSettings_one hu hr⟩
  case retry =>
    intro ok s hup hpend
    refine ⟨rbTry (if s.fw.rbTriedAt = 0 then s else s.atLeast (s.fw.rbTriedAt + tenMinutes)) ok, if_pos (by rw [hup, hpend]; rfl), ?_⟩
    have hlate : s.fw.rbTriedAt ≠ 0 → s.fw.rbTriedAt + tenMinutes ≤
        (if s.fw.rbTriedAt = 0 then s else s.atLeast (s.fw.rbTriedAt + tenMinutes)).now := fun h => by
      rw [if_neg h]
      exact le_atLeast_now ..
    have hfuse : (if s.fw.rbTriedAt = 0 then s else s.atLeast (s.fw.rbTriedAt + tenMinutes)).fuse = s.fuse := by
      split
      · rfl
      · exact State.atLeast_fuse ..
    have hfw : (if s.fw.rbTriedAt = 0 then s else s.atLeast (s.fw.rbTriedAt + tenMinutes)).fw = s.fw := by
      split
      · rfl
      · exact State.atLeast_fw ..
    generalize (if s.fw.rbTriedAt = 0 then s else s.atLeast (s.fw.rbTriedAt + tenMinutes)) = u at *
    obtain ⟨hnow, htried, hpending, hkept⟩ := rbTry_parts u ok
    rw [hfw] at hpending
    refine ⟨fun h => Nat.le_trans (hlate h) hnow, htried, hpending, fun h => ?_⟩
    rw [hkept (by rw [rbPossible, hfuse]; exact h), hfuse]

end Sys2Proof.Machine
end

section
/-! Wetex doorbells and ring registers (O33). -/

namespace Sys2Proof.Machine

/-! ### Doorbells (R298) -/

/-- A port's write at a doorbell on a quiet path rings it. -/
theorem writeReg_doorbell {s : State} {path : Path} (hq : quietPath s path) (hpath : path.val ≠ 16) {a : Nat} (v : Word)
    (h4 : a % 4 = 0) (hbell : isDoorbell a = true) :
    writeReg s path a v.toNat true = ringDoorbell (clearLatch s path) a v.toNat := by
  obtain ⟨-, hown, hd, hk, -⟩ := hq
  rw [writeReg_of_owner hown h4 v.isLt]
  unfold performWord
  rw [expireDual_of_none hd hk]
  exact (if_pos hbell).trans (if_neg hpath)

/-- The doorbells of pair r. -/
theorem ringDoorbell_sq (s : State) (r : Fin 64) (v : Nat) : ringDoorbell s (0x100000 + 0x1000 * r.val) v = sqDoorbell s r v := by
  have hr : (⟨(0x100000 + 0x1000 * r.val - 0x100000) / 0x1000 % 64, Nat.mod_lt _ (by decide)⟩ : Fin 64) = r := by
    apply Fin.ext
    show (0x100000 + 0x1000 * r.val - 0x100000) / 0x1000 % 64 = r.val
    omega
  unfold ringDoorbell
  rw [hr]
  exact if_pos (by omega)

theorem ringDoorbell_cq (s : State) (r : Fin 64) (v : Nat) : ringDoorbell s (0x100004 + 0x1000 * r.val) v = cqDoorbell s r v := by
  have hr : (⟨(0x100004 + 0x1000 * r.val - 0x100000) / 0x1000 % 64, Nat.mod_lt _ (by decide)⟩ : Fin 64) = r := by
    apply Fin.ext
    show (0x100004 + 0x1000 * r.val - 0x100000) / 0x1000 % 64 = r.val
    omega
  unfold ringDoorbell
  rw [hr]
  exact (if_neg (by omega)).trans (if_pos (by omega))

theorem isDoorbell_pair (r : Fin 64) :
    isDoorbell (0x100000 + 0x1000 * r.val) = true ∧ isDoorbell (0x100004 + 0x1000 * r.val) = true := by
  have := r.isLt
  simp only [isDoorbell, Bool.and_eq_true, decide_eq_true_eq]
  omega

/-- A command that is a port's write at a doorbell. -/
theorem Answers.bell {cmd : Instr} {s : State} {path : Path} {a : Nat} {v : Word} {P : State → Prop} (hq : quietPath s path)
    (hpath : path.val ≠ 16) (hexec : exec cmd s = Machine.whenDo (pathUp s path) s (writeReg s path a v.toNat true))
    (h4 : a % 4 = 0) (hbell : isDoorbell a = true) (h : P (ringDoorbell (clearLatch s path) a v.toNat)) : Answers cmd s P := by
  refine ⟨_, hexec.trans (if_pos hq.1), ?_⟩
  rw [writeReg_doorbell hq hpath v h4 hbell]
  exact h

@[simp] theorem wxModRing_same (s : State) (r : Fin 64) (f : WxRing → WxRing) :
    (wxModRing s r f).wetex.rings[r] = f s.wetex.rings[r] := by
  simp [wxModRing]

theorem ring_of_wetex {s t : State} (h : t.wetex = s.wetex) (r : Fin 64) : t.wetex.rings[r] = s.wetex.rings[r] := by rw [h]

/-- DOORBELL_BAD (R326) is an event. -/
theorem doorbellBad_ev (s : State) (r which v : Nat) : EvKeeps s (doorbellBad s r which v) := raise_ev ..

theorem doorbellBad_next {s : State} (hd : s.seq.decided = true) {r which v : Nat} :
    s.seq.next < (doorbellBad s r which v).seq.next := by
  unfold doorbellBad wxErr
  exact raise_next rfl hd

/-- The tail moves where the ring is active and the index within it. -/
theorem sqDoorbell_tail (s : State) (r : Fin 64) (v : Nat) :
    (sqDoorbell s r v).wetex.rings[r].sqTail =
      if s.wetex.rings[r].st = .active ∧ v % 4096 < wxSqSize s r.val then v % 4096 else s.wetex.rings[r].sqTail := by
  unfold sqDoorbell
  extract_lets i
  by_cases hst : s.wetex.rings[r].st = .active
  · rw [if_neg (fun hne => hne hst)]
    by_cases hi : i < wxSqSize s r.val
    · rw [if_pos hi, if_pos ⟨hst, hi⟩, wxModRing_same]
    · rw [if_neg hi, if_neg (fun h => hi h.2), ring_of_wetex (doorbellBad_ev ..).wetex]
  · rw [if_pos hst, if_neg (fun h => hst h.1)]

/-- The head of an active ring frees what is written, and a head past that is DOORBELL_BAD. -/
theorem cqDoorbell_parts {s : State} {r : Fin 64} {v : Nat} (hst : s.wetex.rings[r].st = .active)
    (hin : v % 4096 < wxCqSize s r.val) :
    cqDoorbell s r v =
      if (v % 4096 + wxCqSize s r.val - s.wetex.rings[r].cqHead) % wxCqSize s r.val ≤ s.wetex.rings[r].unfreed then
        wxModRing s r fun q => { q with cqHead := v % 4096, unfreed := q.unfreed -
          (v % 4096 + wxCqSize s r.val - s.wetex.rings[r].cqHead) % wxCqSize s r.val }
      else doorbellBad s r.val 1 v := by
  unfold cqDoorbell
  extract_lets i n q
  rw [if_neg (fun hne => hne hst)]
  by_cases hfree : (i + n - q.cqHead) % n ≤ q.unfreed
  · exact (if_pos ⟨hin, hfree⟩).trans (if_pos hfree).symm
  · exact (if_neg fun h => hfree h.2).trans (if_neg hfree).symm

/-! ### Enable and disable (R296, R297) -/

/-- The configuration registers of the pairs are plain. -/
theorem wxCfgReg_plain (r : Fin 64) : plainReg (wxReg r.val 0x10) = true ∧ (regRow (wxReg r.val 0x10)).isSome = true := by
  revert r
  decide

theorem wxCfgReg_aligned (r : Fin 64) : wxReg r.val 0x10 % 4 = 0 ∧ wxReg r.val 0x10 / 65536 ≠ 0x0B := by
  have := r.isLt
  unfold wxReg
  omega

theorem regReset_wxCfg (r : Fin 64) : regReset (wxReg r.val 0x10) < 2 ^ 32 := by
  revert r
  decide

theorem applyWord_wxCfg (s : State) (path : Path) (r : Fin 64) (v : Nat) (sc : Bool) :
    applyWord s path (wxReg r.val 0x10) v sc = writeWxCfg s r v := by
  obtain ⟨row, hrow⟩ := Option.isSome_iff_exists.mp (wxCfgReg_plain r).2
  have hr := r.isLt
  have hblock : wxReg r.val 0x10 / 65536 = 0x09 := by unfold wxReg; omega
  have hring : (⟨(wxReg r.val 0x10 - 0x091000) / 0x40 % 64, Nat.mod_lt _ (by decide)⟩ : Fin 64) = r := by
    apply Fin.ext
    show (wxReg r.val 0x10 - 0x091000) / 0x40 % 64 = r.val
    unfold wxReg
    omega
  have hctl : wxReg r.val 0x10 ≠ 0x090000 := by unfold wxReg; omega
  have hcfg : 0x091000 ≤ wxReg r.val 0x10 ∧ wxReg r.val 0x10 % 0x40 = 0x10 := by unfold wxReg; omega
  simp only [applyWord, hrow, hblock, writeWetex, if_neg hctl, if_pos hcfg, hring]

/-- A field of the stored configuration word. -/
theorem csrFld_wxCfg (s : State) (r : Fin 64) (v : Nat) {lo w : Nat} (h : lo + w ≤ 32) :
    csrFld (csrSet s (wxReg r.val 0x10) v) (wxReg r.val 0x10) lo w = bitsOf v lo w := by
  unfold csrFld
  rw [csrGet_csrSet_same _ _ _ (regReset_wxCfg r), bitsOf_mod _ h]

theorem bitsOf_ten_one (v : Nat) : bitsOf v 10 1 = if v.testBit 10 then 1 else 0 := by
  rw [Nat.testBit_eq_decide_div_mod_eq, bitsOf, Nat.shiftRight_eq_div_pow]
  split <;> simp_all

/-- A disabled ring written with ENABLE starts where its configuration is right, and else stays off. -/
theorem writeWxCfg_enable {s : State} {r : Fin 64} {v : Nat} (hst : s.wetex.rings[r].st = .disabled) (hv : v.testBit 10 = true) :
    writeWxCfg s r v = if wxCfgOk (csrSet s (wxReg r.val 0x10) (v % 2 ^ 10)) r.val then
        wxModRing (csrSet (csrSet s (wxReg r.val 0x10) (v % 2 ^ 10)) (wxReg r.val 0x10) (v % 2 ^ 11)) r fun q =>
          { q with st := .active, sqHead := 0, sqTail := 0, cqHead := 0, cqTail := 0, phase := true, unfreed := 0, stop := 0
                   last := 0 }
      else wxErr (csrSet s (wxReg r.val 0x10) (v % 2 ^ 10)) r.val 0x0504 sevWarn 0x10 v :=
  (if_pos hst).trans (if_pos hv)

/-- An active ring written without ENABLE drains, and is off at once where nothing is active. -/
theorem writeWxCfg_disable {s : State} {r : Fin 64} {v : Nat} (hst : s.wetex.rings[r].st = .active) (hv : v.testBit 10 = false) :
    (writeWxCfg s r v).wetex.rings[r].st = (if s.wetex.rings[r].act = [] then .disabled else .draining) ∧
      csrFld (writeWxCfg s r v) (wxReg r.val 0x10) 10 1 = 0 := by
  have hon : ¬ s.wetex.rings[r].st = .disabled := by rw [hst]; decide
  have hclear : ¬ v.testBit 10 = true := by rw [hv]; decide
  have hdo : writeWxCfg s r v =
      wxSettle (wxModRing (csrSet s (wxReg r.val 0x10) (putBits (csrGet s (wxReg r.val 0x10)) 10 1 0)) r
        fun q => { q with st := .draining }) r :=
    (if_neg hon).trans ((if_neg hclear).trans (congrArg (wxSettle · r) (if_pos hst)))
  have hbit : csrFld (csrSet s (wxReg r.val 0x10) (putBits (csrGet s (wxReg r.val 0x10)) 10 1 0)) (wxReg r.val 0x10) 10 1 = 0 :=
    csrFld_csrSet_putBits (w := 1) s _ 0 (regReset_wxCfg r) (by decide)
  rw [hdo]
  generalize hu : csrSet s (wxReg r.val 0x10) (putBits (csrGet s (wxReg r.val 0x10)) 10 1 0) = u at hbit
  have hring : u.wetex.rings[r] = s.wetex.rings[r] := by rw [← hu]; rfl
  unfold wxSettle
  extract_lets q en
  have hq : q = { s.wetex.rings[r] with st := .draining } := (wxModRing_same ..).trans (by rw [hring])
  by_cases hact : s.wetex.rings[r].act = []
  · rw [if_pos ⟨by rw [hq]; exact List.isEmpty_iff.mpr hact, .inl (by rw [hq])⟩, if_pos hact, wxModRing_same]
    exact ⟨rfl, hbit⟩
  · have hbusy : ¬ q.act.isEmpty = true := by
      rw [hq]
      exact fun h => hact (List.isEmpty_iff.mp h)
    rw [if_neg (fun h => hbusy h.1), if_neg hact, wxModRing_same]
    exact ⟨rfl, hbit⟩

/-- Settles O33 (R296 to R298). -/
theorem doorbellsAndRings : Obligations.DoorbellsAndRings := by
  unfold Obligations.DoorbellsAndRings
  refine ⟨?sq, ?cq, ?enable, ?disable⟩
  case sq =>
    intro path r v s hq hpath
    refine Answers.bell hq hpath rfl (by omega) (isDoorbell_pair r).1 ?_
    rw [ringDoorbell_sq]
    exact sqDoorbell_tail (clearLatch s path) r v.toNat
  case cq =>
    intro path r v s hq hpath hst hin
    refine Answers.bell hq hpath rfl (by omega) (isDoorbell_pair r).2 ?_
    rw [ringDoorbell_cq, cqDoorbell_parts (s := clearLatch s path) hst hin]
    by_cases hfree : (v.toNat % 4096 + wxCqSize s r.val - s.wetex.rings[r].cqHead) % wxCqSize s r.val ≤ s.wetex.rings[r].unfreed
    · rw [if_pos hfree, if_pos (by exact hfree), wxModRing_same]
      exact ⟨rfl, rfl⟩
    · rw [if_neg hfree, if_neg (by exact hfree)]
      exact ⟨(doorbellBad_ev ..).wetex, fun hd => doorbellBad_next (s := clearLatch s path) hd⟩
  case enable =>
    intro path r v s hq hv hst
    refine Answers.word hq hv rfl (wxCfgReg_plain r).1 (wxCfgReg_aligned r).1 (fun h => absurd h (wxCfgReg_aligned r).2) ?_
    rw [applyWord_wxCfg, writeWxCfg_enable (s := clearLatch s path) hst hv]
    by_cases hok : wxCfgOk (csrSet s (wxReg r.val 0x10) (v.toNat % 2 ^ 10)) r.val
    · rw [if_pos hok, if_pos (by exact hok), wxModRing_same]
      refine ⟨rfl, rfl, rfl, rfl, rfl, rfl, (csrFld_wxCfg _ r _ (by decide)).trans ?_⟩
      rw [bitsOf_mod _ (by decide), bitsOf_ten_one]
      exact if_pos hv
    · rw [if_neg hok, if_neg (by exact hok)]
      have hev : EvKeeps (csrSet (clearLatch s path) (wxReg r.val 0x10) (v.toNat % 2 ^ 10)) (wxErr _ r.val 0x0504 sevWarn 0x10 v.toNat) :=
        raise_ev ..
      refine ⟨hev.wetex, ?_⟩
      have hcfg : ¬ lossCounter (wxReg r.val 0x10) := not_lossCounter_of_lt (.inl (by have := r.isLt; unfold wxReg; omega))
      have hfld := csrFld_wxCfg (clearLatch s path) r (v.toNat % 2 ^ 10) (lo := 10) (w := 1) (by decide)
      unfold csrFld at hfld ⊢
      rw [hev.csr _ hcfg, hfld, bitsOf_ten_one, Nat.testBit_mod_two_pow]
      rfl
  case disable =>
    intro path r v s hq hv hst
    refine Answers.word hq (b := !v.getLsbD 10) (by rw [hv]; rfl) rfl (wxCfgReg_plain r).1 (wxCfgReg_aligned r).1
      (fun h => absurd h (wxCfgReg_aligned r).2) ?_
    rw [applyWord_wxCfg]
    exact writeWxCfg_disable (s := clearLatch s path) hst hv

end Sys2Proof.Machine
end

section
/-! Transit runs (O53). -/

namespace Sys2Proof.Machine

/-! ### What ends a run (R484, R486) -/

theorem marchLeaves_transit (s : State) (n lo hi algo : Nat) (whole : Bool) : (marchLeaves s n lo hi algo whole).transit = s.transit :=
  (marchLeaves_mv ..).transit.resolve_left (by decide)

theorem emptyWay_transit (s : State) (w : Nat) : (emptyWay s w).transit = s.transit :=
  (emptyWay_mv ..).transit.resolve_left (by decide)

theorem transitComplete_transit (s : State) (desc : Option (Nat × Nat)) : (transitComplete s desc).transit = s.transit :=
  (transitComplete_mv ..).transit.resolve_left (by decide)

/-- What was held for the run returns; its results stay. -/
theorem transitRelease_transit (s : State) : (transitRelease s).transit =
    { s.transit with spareTest := [], wayTest := none, pcs := [], running := false, quick := false, desc := none } := by
  have h : (spareResume s).transit = s.transit := (spareResume_mv s).transit.resolve_left (by decide)
  rw [← h]
  rfl

/-- A run cut short: INCOMPLETE with its cause. -/
theorem transitAbort_transit {s : State} (hrun : s.transit.running = true) {cause : Nat} (hc : cause ≠ 5) :
    (transitAbort s cause).transit.running = false ∧ (transitAbort s cause).transit.done = false ∧
      (transitAbort s cause).transit.verdict = 3 ∧ (transitAbort s cause).transit.abortCause = cause := by
  unfold transitAbort
  rw [if_neg (by rw [hrun]; decide)]
  extract_lets desc _ u v w x
  have hv : v.transit = u.transit :=
    (congrArg State.transit (if_neg hc)).trans (foldl_keeps State.transit _ (fun t n => marchLeaves_transit ..) _ _)
  have hx : x.transit = { u.transit with
      spareTest := [], wayTest := none, pcs := [], running := false, quick := false, desc := none } := by
    rw [← hv]
    exact (raiseX_ev ..).transit.trans (transitRelease_transit v)
  rw [transitComplete_transit, hx]
  exact ⟨rfl, rfl, rfl, rfl⟩

/-- The results of a run whose last test has ended with no failure in it (R486, R487). -/
def runResults (t : TransitSt) (missing sig sigexp : Nat) : TransitSt :=
  { t with spareTest := [], wayTest := none, pcs := [], running := false, quick := false, desc := none, done := true
           test := lastTest t.tests, sig := sig, sigexp := sigexp, cycles := (t.expect + 2 ^ 64 - missing) % 2 ^ 64 }

theorem runDone_transit (s : State) (missing sig sigexp : Nat) : (runDone s missing sig sigexp []).transit =
    { runResults s.transit missing sig sigexp with verdict := transitVerdict (runResults s.transit missing sig sigexp) } := by
  unfold runDone
  extract_lets t _ a b c f g u d e
  have ha : a.transit = s.transit := foldl_keeps State.transit _ (fun s n => marchLeaves_transit ..) _ _
  have hb : b.transit = s.transit := by
    unfold b
    split
    · exact (foldl_keeps State.transit _ (fun s n => emptyWay_transit ..) _ _).trans ha
    · exact ha
  have hu : u = runResults s.transit missing sig sigexp := by
    have hf : f.transit = { s.transit with
        spareTest := [], wayTest := none, pcs := [], running := false, quick := false, desc := none } := by
      rw [← hb]
      exact transitRelease_transit b
    unfold u g
    rw [hf]
    rfl
  have he : e.transit = d.transit := (raiseX_ev ..).transit
  have hd : d.transit = { u with verdict := transitVerdict u } := rfl
  rw [transitComplete_transit, he, hd, hu]

/-- The verdict of a run that has ended: INCOMPLETE, FAIL or PASS. -/
theorem transitVerdict_runResults (t : TransitSt) (missing sig sigexp : Nat) :
    transitVerdict (runResults t missing sig sigexp) =
      if (t.expect + 2 ^ 64 - missing) % 2 ^ 64 ≠ t.expect then 3 else if sig ≠ sigexp ∨ t.log ≠ [] ∨ t.ovf then 2 else 1 := by
  simp only [transitVerdict, runResults, Bool.not_true, Bool.false_or]
  exact ite_congr decide_eq_true_eq (fun _ => rfl) (fun _ => rfl)

/-- A command that ends a run other than a start's is what the run's end leaves. -/
theorem afterRun_of_full {s : State} (hq : s.transit.quick = false) (t : State) : afterRun s t = t :=
  if_neg (by rw [hq]; simp)

/-- With no way under test nothing follows. -/
theorem nextWayTest_none {s : State} (h : s.transit.wayTest = none) : nextWayTest s = s := by
  unfold nextWayTest
  rw [h]

/-- ABORT ends a run other than a start's. -/
theorem writeTransitCtl_abort {s : State} {v : Nat} (hv : v.testBit 0 = true) (hrun : s.transit.running = true)
    (hquick : s.transit.quick = false) : writeTransitCtl s v = transitAbort s 7 :=
  if_pos (by rw [hv, hrun, hquick]; rfl)

/-! ### BIST_RUN (R483, R485) -/

/-- A way taken for its test is named; nothing else of the run changes. -/
theorem testWay_run (s : State) (lo : Nat) : ∃ w, (testWay s lo).transit = { s.transit with wayTest := w } := by
  unfold testWay
  split
  · next w _ =>
    extract_lets u _
    have hu : u.transit = s.transit := (abandonCopies_mv ..).transit.resolve_left (by decide)
    refine ⟨some w, (walkWay_mv ..).transit.resolve_left (by decide) |>.trans ?_⟩
    exact congrArg (fun x : TransitSt => { x with wayTest := some w }) hu
  · exact ⟨none, rfl⟩

/-- A run that starts: what it was started with. -/
theorem startRun_transit (s : State) (tests skipped algo : Nat) (pcs : List Nat) (rows : Nat × Nat) (quick : Bool)
    (desc : Option (Nat × Nat)) :
    (startRun s tests skipped algo pcs rows quick desc).transit.running = true ∧
      (startRun s tests skipped algo pcs rows quick desc).transit.quick = quick ∧
      (startRun s tests skipped algo pcs rows quick desc).transit.desc = desc ∧
      (startRun s tests skipped algo pcs rows quick desc).transit.window = s.transit.window ∧
      (startRun s tests skipped algo pcs rows quick desc).transit.tests = tests := by
  unfold startRun
  extract_lets march free u spares v
  have hu : u.transit = s.transit := by
    unfold u
    split <;> rfl
  have hv : v.transit.running = true ∧ v.transit.quick = quick ∧ v.transit.desc = desc ∧
      v.transit.window = s.transit.window ∧ v.transit.tests = tests := by
    refine ⟨rfl, rfl, rfl, ?_, rfl⟩
    show u.transit.window = s.transit.window
    rw [hu]
  have hway : ∃ w, (if tests.testBit 9 then testWay v 0 else v).transit = { v.transit with wayTest := w } := by
    split
    · exact testWay_run v 0
    · exact ⟨v.transit.wayTest, rfl⟩
  obtain ⟨w, hw⟩ := hway
  have hbump (x : State) : (bump 0x0E0048 1 x).transit = x.transit := rfl
  rw [hbump, hw]
  exact hv

/-- A run refused while another is under way: reason 2. -/
theorem bistRun_busy {s : State} {r : Fin 64} {d : WxDesc} {count : Nat} (hrun : s.transit.running = true) :
    bistRun s r d count = wxEnd s r d.idx wxRefused 0 2 := if_pos hrun

/-- A run refused for a condition out of limits: NOT RUN, reason 1. -/
theorem bistRun_limits {s : State} {r : Fin 64} {d : WxDesc} {count : Nat} (hrun : s.transit.running = false)
    (h : coreInLimits s = false ∨ cclkInLimits count = false) :
    bistRun s r d count = wxEnd (raise { s with transit := { s.transit with
      window := count, done := false, verdict := 4, abortCause := 0 } } 1507 0x0C03 sevWarn (s.therm.chans[96].value / 4) count)
      r d.idx wxRefused 4 1 := by
  have hout : (!coreInLimits s || !cclkInLimits count) = true := by
    rcases h with h | h <;> simp [h]
  have hidle : ¬ s.transit.running = true := by rw [hrun]; decide
  exact (if_neg hidle).trans (if_pos hout)

/-- The tests that a BIST_RUN of this operand runs. -/
def bistTests (s : State) (opd : Nat) : Nat := testBits fun i => (testsAsked s opd).testBit i && testRuns s opd i

/-- Within limits, and with a test left, the run starts. -/
theorem bistRun_starts {s : State} {r : Fin 64} {d : WxDesc} {count : Nat} (hrun : s.transit.running = false)
    (hcore : coreInLimits s = true) (hclk : cclkInLimits count = true) (htests : bistTests s (d.opd 0 % 4) ≠ 0) :
    ∃ skipped algo pcs rows, bistRun s r d count =
      wxMod (startRun { s with transit := { s.transit with window := count } } (bistTests s (d.opd 0 % 4)) skipped algo pcs rows
        false (some (r.val, d.idx))) r d.idx fun d => { d with running := true } := by
  have hidle : ¬ s.transit.running = true := by rw [hrun]; decide
  have hin : ¬ (!coreInLimits s || !cclkInLimits count) = true := by simp [hcore, hclk]
  exact ⟨_, _, _, _, (if_neg hidle).trans ((if_neg hin).trans (if_neg htests))⟩

/-- Settles O53 (R483 to R487). -/
theorem transitRuns : Obligations.TransitRuns := by
  unfold Obligations.TransitRuns
  refine ⟨?pass, ?incomplete, ?window, ?abort, ?busy, ?limits, ?starts⟩
  case pass =>
    intro sig sigexp s hrun hquick hlog hovf hexp
    refine ⟨afterRun s (runDone s 0 sig.toNat sigexp.toNat []), if_pos hrun, ?_⟩
    have hall : (s.transit.expect + 2 ^ 64 - 0) % 2 ^ 64 = s.transit.expect := by omega
    rw [afterRun_of_full hquick]
    dsimp only
    rw [runDone_transit, transitVerdict_runResults, hall, hlog, hovf]
    refine ⟨rfl, rfl, hall, ?_⟩
    simp [BitVec.toNat_inj]
  case incomplete =>
    intro missing sig sigexp s hrun hquick hexp hm
    refine ⟨afterRun s (runDone s missing.toNat sig.toNat sigexp.toNat []), if_pos hrun, ?_⟩
    have hpos : missing.toNat ≠ 0 := fun h => hm (BitVec.toNat_inj.mp h)
    have hlt := missing.isLt
    have hshort : (s.transit.expect + 2 ^ 64 - missing.toNat) % 2 ^ 64 ≠ s.transit.expect := by omega
    rw [afterRun_of_full hquick]
    dsimp only
    rw [runDone_transit, transitVerdict_runResults, if_pos hshort]
    exact ⟨rfl, rfl⟩
  case window =>
    intro count s hrun hquick hway
    refine ⟨afterRun s (cclkWindow s count), if_pos hrun, ?_⟩
    rw [afterRun_of_full hquick, cclkWindow]
    dsimp only
    by_cases hlim : cclkInLimits count
    · rw [if_pos hlim, if_pos hlim, nextWayTest_none (by exact hway)]
      exact ⟨rfl, rfl⟩
    · rw [if_neg hlim, if_neg hlim]
      exact transitAbort_transit (s := { s with transit := { s.transit with window := count } }) (cause := 1) hrun (by decide)
  case abort =>
    intro path v s hq hv hrun hquick
    refine Answers.word hq hv rfl (by decide) (by decide) (fun h => absurd h (by decide)) ?_
    have hctl : applyWord (clearLatch s path) path 0x0E0008 v.toNat true = writeTransitCtl (clearLatch s path) v.toNat := rfl
    rw [hctl, writeTransitCtl_abort (s := clearLatch s path) hv hrun hquick]
    exact transitAbort_transit (s := clearLatch s path) hrun (by decide)
  case busy =>
    intro r idx count d s hmay hrun
    refine Answers.run hmay rfl ?_
    obtain rfl := wxGet_idx hmay.1
    rw [bistRun_busy hrun]
    exact ⟨rfl, endedAs_wxEnd hmay.1 ⟨rfl, rfl, rfl⟩⟩
  case limits =>
    intro r idx count d s hmay hrun hout
    refine Answers.run hmay rfl ?_
    obtain rfl := wxGet_idx hmay.1
    rw [bistRun_limits hrun hout]
    have hev : EvKeeps _ (raise { s with transit := { s.transit with
      window := count, done := false, verdict := 4, abortCause := 0 } } 1507 0x0C03 sevWarn (s.therm.chans[96].value / 4) count) :=
      raise_ev ..
    refine ⟨?_, ?_, endedAs_wxEnd ((wxGet_of hev.wetex ..).trans hmay.1) ⟨rfl, rfl, rfl⟩⟩
    · exact congrArg TransitSt.verdict hev.transit
    · exact (congrArg TransitSt.running hev.transit).trans hrun
  case starts =>
    intro r idx count d s hmay hrun hcore hclk htests
    refine Answers.run hmay rfl ?_
    obtain rfl := wxGet_idx hmay.1
    obtain ⟨skipped, algo, pcs, rows, hdo⟩ := bistRun_starts (r := r) hrun hcore hclk htests
    obtain ⟨hruns, hfull, hdesc, hwindow, hbits⟩ := startRun_transit { s with transit := { s.transit with window := count } }
      (bistTests s (d.opd 0 % 4)) skipped algo pcs rows false (some (r.val, d.idx))
    rw [hdo]
    exact ⟨hruns, hfull, hdesc, hwindow, hbits⟩

end Sys2Proof.Machine
end

section
/-! Power states, supplies and clock (O48). -/

namespace Sys2Proof.Machine

/-! ### Waking (R410) -/

theorem adoptOrder_other (s : State) {k n : Pc} (h : n ≠ k) : (adoptOrder s k).pcs[n] = s.pcs[n] := by
  unfold adoptOrder
  extract_lets l
  split
  · exact State.modPc_other _ _ h.symm
  · next u _ _ _ i _ =>
    have hu : u.pcs[n] = s.pcs[n] := State.modPc_other _ _ h.symm
    split
    · exact hu
    · exact (pc_of_pcs (raiseLim_ev ..).pcs n).trans hu

theorem wakePc_mode_same (s : State) (n : Pc) (first : Nat) : (wakePc s n first).pcs[n].mode = .online := by
  unfold wakePc
  rw [adoptOrder_keeps (·.mode) (fun _ _ => rfl), State.modPc_same]

theorem wakePc_other (s : State) {k n : Pc} (h : n ≠ k) (first : Nat) : (wakePc s k first).pcs[n] = s.pcs[n] := by
  unfold wakePc
  rw [adoptOrder_other _ h, State.modPc_other _ _ h.symm]

/-- No pseudo-channel of a list that is woken in turn stays in self-refresh. -/
theorem foldl_wake_mode (first : Nat) (n : Pc) (l : List Pc) (s : State) (h : n ∈ l ∨ s.pcs[n].mode ≠ .selfRefresh) :
    (l.foldl (fun s n => if s.pcs[n].mode == .selfRefresh then wakePc s n first else s) s).pcs[n].mode ≠ .selfRefresh := by
  induction l generalizing s with
  | nil => exact h.resolve_left (by simp)
  | cons k l ih =>
    rw [List.foldl_cons]
    refine ih _ ?_
    by_cases hk : n = k
    · subst hk
      refine .inr ?_
      split
      · rw [wakePc_mode_same]
        decide
      · next hm => exact fun hs => hm (by rw [hs]; rfl)
    · refine h.imp (fun hmem => (List.mem_cons.mp hmem).resolve_left hk) fun hm => ?_
      split
      · rw [wakePc_other s hk]
        exact hm
      · exact hm

theorem wakeAll_mode (s : State) (first : Nat) (n : Pc) : (wakeAll s first).pcs[n].mode ≠ .selfRefresh :=
  foldl_wake_mode first n _ s (.inl (List.mem_finRange n))

theorem wakeAll_csr (s : State) (first : Nat) {a : Nat} (ha : ¬ lossCounter a) : csrGet (wakeAll s first) a = csrGet s a := by
  refine foldl_keeps (csrGet · a) _ (fun s n => ?_) _ _
  split
  · unfold wakePc
    have hu : csrGet (s.modPc n fun c => { refreshRestart first c with mode := .online }) a = csrGet s a := rfl
    generalize s.modPc n _ = u at hu ⊢
    unfold adoptOrder
    extract_lets l
    split
    · exact hu
    · next v _ _ _ i _ =>
      have hv : csrGet v a = csrGet s a := hu
      split
      · exact hv
      · exact ((raiseLim_ev ..).csr a ha).trans hv
  · rfl

/-- The charge of the time in a state counts it, and no other register. -/
theorem settleResidency_csr (s : State) {a : Nat} (h : a < 0x0C0020 ∨ 0x0C0028 < a) : csrGet (settleResidency s) a = csrGet s a := by
  unfold settleResidency
  split
  · rfl
  · extract_lets i t _ u
    have hi := i.isLt
    split
    · rfl
    · exact csrGet_csrSet_other (b := a) u _ (by omega)

theorem settleResidency_pcs (s : State) : (settleResidency s).pcs = s.pcs := (settleResidency_mv s).pcs.resolve_left (by decide)

/-- The end of an exit from a low state entered in state t: FLOOD, counted, and nothing in self-refresh. -/
theorem wakeDone_parts (s : State) :
    (wakeDone s).power.low = 0 ∧ (wakeDone s).power.exiting = false ∧
      s.power.wakeAt + exitCclk s.power.wakeFrom ≤ (wakeDone s).now ∧
      csrGet (wakeDone s) 0x0C002C = satAdd 0xFFFFFFFF (csrGet s 0x0C002C) 1 ∧
      ∀ n : Pc, (wakeDone s).pcs[n].mode ≠ .selfRefresh := by
  unfold wakeDone
  have hlate := le_atLeast_now s (s.power.wakeAt + exitCclk s.power.wakeFrom)
  have hcsr := csrGet_atLeast s (s.power.wakeAt + exitCclk s.power.wakeFrom) 0x0C002C
  generalize s.atLeast (s.power.wakeAt + exitCclk s.power.wakeFrom) = u at *
  extract_lets _ stopped v _ _ w
  have hlow : w.power.low = 0 := rfl
  have hexit : w.power.exiting = false := rfl
  have hnow : u.now ≤ w.now := (settleResidency_mv u).now
  have hcount : csrGet w 0x0C002C = csrGet u 0x0C002C := settleResidency_csr u (.inr (by decide))
  clear_value w
  have hw : (wakeAll w w.now).power = w.power := (wakeAll_mv ..).power.resolve_left (by decide)
  rw [bump_power, bump_now, bump_pcs, hw]
  refine ⟨hlow, hexit, ?_, ?_, fun n => wakeAll_mode w w.now n⟩
  · exact Nat.le_trans (Nat.le_trans hlate hnow) (wakeAll_mv w w.now).now
  · rw [csrGet_bump _ _ _ (by decide), wakeAll_csr _ _ (not_lossCounter_of_lt (by decide)), hcount, hcsr]

/-! ### Entry (R407 to R409) -/

/-- Every pseudo-channel not offline is in self-refresh. -/
theorem selfRefreshAll_mode (s : State) (n : Pc) :
    (selfRefreshAll s).pcs[n].mode = .offline ∨ (selfRefreshAll s).pcs[n].mode = .selfRefresh := by
  have hmode : (selfRefreshAll s).pcs[n].mode = if s.pcs[n].mode == .offline then .offline else .selfRefresh :=
    congrArg PcSt.mode (Vector.getElem_map ..)
  rw [hmode]
  split
  · exact .inl rfl
  · exact .inr rfl

theorem lowEntered_parts (s : State) (k : Nat) :
    (lowEntered s k).power.low = k ∧ (lowEntered s k).power.target = none ∧ (lowEntered s k).power.lowAt = (lowEntered s k).now ∧
      ∀ n : Pc, (lowEntered s k).pcs[n].mode = .offline ∨ (lowEntered s k).pcs[n].mode = .selfRefresh := by
  unfold lowEntered
  refine ⟨rfl, rfl, rfl, fun n => ?_⟩
  have h : (settleResidency (selfRefreshAll (flushLagoon s))).pcs[n] = (selfRefreshAll (flushLagoon s)).pcs[n] :=
    pc_of_pcs (settleResidency_pcs _) n
  show (settleResidency (selfRefreshAll (flushLagoon s))).pcs[n].mode = _ ∨ _ = _
  rw [h]
  exact selfRefreshAll_mode _ n

/-- The entry to a low state whose hysteresis has passed in state t. -/
def lowEntryAt (t : State) (t0 k : Nat) : State :=
  let s := { t with power := { t.power with idleAt := some t0, scrubWake := false } }
  if k = 1 then { s with power := { s.power with low := 1, lowAt := s.now } }
  else { s with power := { s.power with target := some k } }

/-- With one state allowed it is entered after its hysteresis. -/
theorem lowEntry_singleton {s : State} (k : Nat) (hlow : s.power.low = 0) :
    lowEntry s [k] = lowEntryAt (s.atLeast (s.now + hystCclk s k)) s.now k := by
  have hhyst : [k].foldl (fun m k => min m (hystCclk s k)) (hystCclk s ([k].headD 1)) = hystCclk s k := Nat.min_self _
  have hpick : ([k].filter fun j => decide (hystCclk s j ≤ hystCclk s k)).getLastD 1 = k := by simp
  unfold lowEntry
  rw [if_pos hlow, hhyst]
  dsimp only
  rw [hpick]
  rfl

/-- The loss of the clock is declared. -/
def refclkGone (s : State) : State := { s with start := { s.start with refclkLost := true } }

/-- A journalled event takes the next SSN of a decided series. -/
theorem raiseJ_next {s u : State} (h : u.seq = s.seq) (hd : s.seq.decided = true) {src code sev a0 a1 : Nat} :
    s.seq.next < (raiseJ u src code sev a0 a1).seq.next := by
  rw [← h]
  exact raiseX_next _ _ _ _ _ _ _ _ _ (h ▸ hd)

/-- Power-fail detection is armed in the state its time has come in. -/
def detectionArmed (t : State) : State :=
  { t with power := { t.power with armed := true }, start := { t.start with armAt := none } }

/-- Settles O48 (R407 to R411, R421, R429, R448, R553, R558). -/
theorem powerStatesAndSupplies : Obligations.PowerStatesAndSupplies := by
  unfold Obligations.PowerStatesAndSupplies
  refine ⟨?neap, ?deep, ?entered, ?wake, ?woken, ?lantern, ?core, ?vlan, ?refclk, ?arm⟩
  case neap =>
    intro s hfree hidle hdeep hlow
    refine ⟨lowEntry s [1], ?_, ?_⟩
    · show execLowPowerEntry s = _
      unfold execLowPowerEntry
      rw [hdeep]
      exact if_pos (by rw [hfree, hidle]; rfl)
    · have htarget : s.power.target = none := by
        unfold powerFree at hfree
        simp only [Bool.and_eq_true] at hfree
        exact Option.isNone_iff_eq_none.mp hfree.2
      rw [lowEntry_singleton 1 hlow]
      have hlate := le_atLeast_now s (s.now + hystCclk s 1)
      have hpower := State.atLeast_power s (s.now + hystCclk s 1)
      have hpcs := State.atLeast_pcs s (s.now + hystCclk s 1)
      generalize s.atLeast (s.now + hystCclk s 1) = u at *
      exact ⟨rfl, (congrArg PowerSt.target hpower).trans htarget, hlate, hpcs⟩
  case deep =>
    intro k s hfree hidle hdeep hk hlow
    refine ⟨lowEntry s [k], ?_, ?_⟩
    · show execLowPowerEntry s = _
      unfold execLowPowerEntry
      rw [hdeep]
      exact if_pos (by rw [hfree, hidle]; rfl)
    · rw [lowEntry_singleton k hlow]
      have hlate := le_atLeast_now s (s.now + hystCclk s k)
      have hpower := State.atLeast_power s (s.now + hystCclk s k)
      generalize s.atLeast (s.now + hystCclk s k) = u at *
      unfold lowEntryAt
      rw [if_neg hk]
      exact ⟨rfl, (congrArg PowerSt.low hpower).trans hlow, hlate⟩
  case entered =>
    intro k s ht he hf
    refine ⟨lowEntered s k, ?_, lowEntered_parts s k⟩
    show execLowPowerEntryDone s = _
    unfold execLowPowerEntryDone
    rw [ht]
    exact if_pos (by rw [he, hf]; rfl)
  case wake =>
    intro cause s hlow he hf hcause
    exact ⟨wake s cause.val, if_pos (by simp [hlow, he, hf, hcause]), rfl, rfl, rfl, rfl, rfl⟩
  case woken =>
    intro s he hf
    exact ⟨wakeDone s, if_pos (by rw [he, hf]; rfl), wakeDone_parts s⟩
  case lantern =>
    intro d p s hphase hl hdp hstate
    refine ⟨_, if_pos ?_, rfl, rfl, rfl⟩
    rcases hdp with h | h <;> rcases hstate with h' | h' <;> simp [hphase, hl, h, h']
  case core =>
    intro s hphase
    refine ⟨coreLoss s, rfl, ?_⟩
    have hdo : coreLoss s = enterLowWater
        { s with start := { s.start with hrstLost := 0 }, dram := { s.dram with claims := [] } } true s.power.lwstat := by
      unfold coreLoss
      dsimp only
      rw [hphase]
    rw [hdo]
    exact ⟨rfl, rfl, rfl, rfl, rfl, rfl⟩
  case vlan => exact fun s => ⟨_, rfl, rfl, rfl, rfl, rfl, rfl⟩
  case refclk =>
    intro code s hcore hlost h1 h3
    refine ⟨raiseJ (refclkGone s) 1263 0x0B11 sevFatal code 0, if_pos (by simp [hcore, hlost, h1, h3]), ?_⟩
    have hev : EvKeeps (refclkGone s) (raiseJ (refclkGone s) 1263 0x0B11 sevFatal code 0) := raiseX_ev ..
    exact ⟨congrArg StartSt.refclkLost hev.start, hev.power, hev.dram, fun hd => raiseJ_next (s := s) (by rfl) hd⟩
  case arm =>
    intro at_ s hat harm hcore hkind
    refine ⟨detectionArmed (s.atLeast at_), ?_, rfl, rfl, le_atLeast_now s at_⟩
    show execPfailDetectArm s = _
    unfold execPfailDetectArm
    rw [hat]
    show Machine.whenDo (!s.power.armed && corePowered s && decide (s.start.kind = 2)) s (detectionArmed (s.atLeast at_)) = _
    exact if_pos (by simp [harm, hcore, hkind])

end Sys2Proof.Machine
end

section
/-! SUPPORT. What memory requests served at once, epoch closes and the stack's own writes leave alone: the units they do not reach,
the engine's list of active descriptors, and the power unit but for its write-intent ring. -/

namespace Sys2Proof.Machine

/-- The parts of the state that serving memory leaves alone. -/
structure Rest where
  links : Vector LinkSt 16
  train : TrainSt
  scrub : ScrubSt
  stack : StackSt
  transit : TransitSt
  jtag : JtagSt
  start : StartSt
  therm : ThermSt
  chrosy : ChrosySt
  fuse : FuseSt
  fw : FwSt
  acts : Vector (List Nat) 64
  /-- The power unit, its write-intent ring left out. -/
  power : PowerSt

def rest (s : State) : Rest :=
  { links := s.links, train := s.train, scrub := s.scrub, stack := s.stack, transit := s.transit, jtag := s.jtag, start := s.start
    therm := s.therm, chrosy := s.chrosy, fuse := s.fuse, fw := s.fw, acts := actIdx s.wetex
    power := { s.power with ring := Vector.replicate 256 none } }

/-- The bits of the frame masks that stand for these parts. -/
def restMask : Nat := 2 ^ 9 + 2 ^ 10 + 2 ^ 13 + 2 ^ 17 + 2 ^ 18 + 2 ^ 19 + 2 ^ 20 + 2 ^ 21 + 2 ^ 22 + 2 ^ 23 + 2 ^ 25 + 2 ^ 26 + 2 ^ 28

/-- An operation whose mask names none of these parts leaves them alone. -/
theorem Moves.rest {m : Nat} {s t : State} (h : Moves m s t) (hm : m &&& restMask = 0) : rest t = rest s := by
  have hoff (i : Nat) (hi : restMask.testBit i = true) : ¬ m.testBit i = true := fun hb => by
    have := congrArg (Nat.testBit · i) hm
    simp [Nat.testBit_and, hb, hi] at this
  unfold Machine.rest
  rw [h.links.resolve_left (hoff 9 rfl), h.train.resolve_left (hoff 10 rfl), h.scrub.resolve_left (hoff 13 rfl),
    h.stack.resolve_left (hoff 17 rfl), h.transit.resolve_left (hoff 18 rfl), h.jtag.resolve_left (hoff 19 rfl),
    h.power.resolve_left (hoff 20 rfl), h.start.resolve_left (hoff 21 rfl), h.therm.resolve_left (hoff 22 rfl),
    h.chrosy.resolve_left (hoff 23 rfl), h.fuse.resolve_left (hoff 25 rfl), h.fw.resolve_left (hoff 26 rfl),
    h.acts.resolve_left (hoff 28 rfl)]

section
variable {s t : State} (h : Machine.rest t = Machine.rest s)
include h

theorem therm_of_rest : t.therm = s.therm := congrArg Rest.therm h
theorem chrosy_of_rest : t.chrosy = s.chrosy := congrArg Rest.chrosy h
theorem fw_of_rest : t.fw = s.fw := congrArg Rest.fw h
theorem acts_of_rest : actIdx t.wetex = actIdx s.wetex := congrArg Rest.acts h

/-- What of the power unit does not lie in its write-intent ring. -/
theorem power_of_rest {β : Type} (g : PowerSt → β) (hg : ∀ x r, g { x with ring := r } = g x) : g t.power = g s.power :=
  (hg t.power _).symm.trans ((congrArg (g ·.power) h).trans (hg s.power _))

end

theorem foldl_rest {α : Type} (f : State → α → State) (h : ∀ s x, rest (f s x) = rest s) (l : List α) (s : State) :
    rest (l.foldl f s) = rest s := foldl_keeps rest f h l s

theorem ite_rest {c : Prop} [Decidable c] {s a b : State} (ha : rest a = rest s) (hb : rest b = rest s) :
    rest (if c then a else b) = rest s := by
  split
  · exact ha
  · exact hb

/-! ### The write-intent ring (R422) -/

theorem wiSet_rest (s : State) (n : Pc) (e : QEnt) : rest (wiSet s n e) = rest s := by
  unfold wiSet
  extract_lets c
  split <;> rfl

theorem wiClear_rest (s : State) (n : Pc) : rest (wiClear s n) = rest s := by
  unfold wiClear
  refine foldl_rest _ (fun s i => ?_) _ s
  split
  · split <;> rfl
  · rfl

theorem schedule_rest (s : State) (n : Pc) : rest (schedule s n) = rest s := (schedule_mv s n).rest (by decide)

theorem pick_rest (s : State) (n : Pc) : rest (pick s n) = rest s := by
  unfold pick
  extract_lets s1 t1 t2 s2 t3
  have hs1 : rest s1 = rest s := wiClear_rest s n
  have ht1 : rest t1 = rest s := (schedule_rest s1 n).trans hs1
  have ht2 : rest t2 = rest s := (wiClear_rest t1 n).trans ht1
  have hs2 : rest s2 = rest s := (wiClear_rest _ n).trans (((State.atLeast_mv s1 _).rest (by decide)).trans hs1)
  have ht3 : rest t3 = rest s := (schedule_rest s2 n).trans hs2
  split
  · exact ht1
  · refine ite_rest ((wiSet_rest ..).trans ht2) ?_
    split
    · exact ht3
    · exact ite_rest ((wiSet_rest ..).trans ht3) hs2

/-! ### Requests served at once -/

theorem makeWay_rest (s : State) (unit : Nat) : rest (makeWay s unit) = rest s := (makeWay_mv s unit).rest (by decide)
theorem mergeDo_rest (s : State) (n : Pc) (e : QEnt) : rest (mergeDo s n e) = rest s := (mergeDo_mv s n e).rest (by decide)
theorem entryCycle_rest (s : State) (n : Pc) (e : QEnt) : rest (entryCycle s n e) = rest s := (entryCycle_mv s n e).rest (by decide)

theorem mergeNow_rest (s : State) (n : Pc) (e : QEnt) : rest (mergeNow s n e) = rest s := by
  unfold mergeNow
  extract_lets place t
  have ht : rest t = rest s := ite_rest (makeWay_rest ..) rfl
  exact ite_rest (((mergeFails_mv t n e stOk).rest (by decide)).trans ht) ((mergeDo_rest t n e).trans ht)

theorem settleEntry_rest (s : State) (n : Pc) (e : QEnt) : rest (settleEntry s n e) = rest s := by
  unfold settleEntry
  extract_lets t u
  have ht : rest t = rest s := entryCycle_rest s n e
  have hu : rest u = rest s := ite_rest ht ((mergeNow_rest t n e).trans ht)
  split
  · exact ite_rest (((scrubRead_mv t n e).rest (by decide)).trans ht) (((hostRead_mv t n e).rest (by decide)).trans ht)
  · exact ((finishWrite_mv _ n e).rest (by decide)).trans (ite_rest ((makeWay_rest ..).trans ht) ht)
  · split
    · refine ite_rest ?_ hu
      exact ((freeEntry_mv _ n _).rest (by decide)).trans (((commitEntry_mv _ _).rest (by decide)).trans
        (ite_rest hu ((entryCycle_rest ..).trans hu)))
    · exact hu
  · exact ht

theorem serveOut_rest (s : State) (n : Pc) (e : QEnt) : rest (serveOut s n e) = rest s :=
  (entryCycle_rest ..).trans (foldl_rest _ (fun s f => settleEntry_rest s n f) _ s)

theorem serveTo_rest (fuel : Nat) (s : State) (n : Pc) (id : Nat) : rest (serveTo fuel s n id) = rest s := by
  induction fuel generalizing s with
  | zero =>
    unfold serveTo
    split
    · rfl
    · exact serveOut_rest ..
  | succ k ih =>
    unfold serveTo
    split
    · rfl
    · dsimp only
      split
      · rfl
      · split
        · exact (ih _).trans (settleEntry_rest ..)
        · exact ite_rest ((ih _).trans (pick_rest ..)) (serveOut_rest ..)

theorem intWait_rest (s : State) (n : Pc) : rest (intWait s n) = rest s := by
  unfold intWait
  split
  · rfl
  · split
    · exact (settleEntry_rest ..).trans (serveTo_rest ..)
    · rfl

theorem ownRequest_rest (s : State) (e : QEnt) : rest (ownRequest s e).2.2 = rest s := by
  unfold ownRequest
  extract_lets n s1 e1 s2 s3
  have h1 : rest s1 = rest s := ((turn_mv _ n e.src).rest (by decide)).trans (intWait_rest s n)
  have h2 : rest s2 = rest s := 
    ((enqueue_mv s1.tick n e1).rest (by decide)).trans (((State.tick_mv s1).rest (by decide)).trans h1)
  have h3 : rest s3 = rest s := ite_rest (((noteWrite_mv s2 e1.blk e1.id).rest (by decide)).trans h2) h2
  exact (serveTo_rest ..).trans h3

theorem writeNow_rest (s : State) (blk : Nat) (b : Block) (c : DWord) : rest (writeNow s blk b c) = rest s := by
  unfold writeNow
  split
  next e n t h =>
  have ht : rest t = rest s := by
    rw [← ownRequest_rest s, h]
  exact ((commitBlock_mv _ e blk).rest (by decide)).trans (((freeEntry_mv _ n e.id).rest (by decide)).trans
    (ite_rest ((makeWay_rest ..).trans ht) ht))

theorem engineRead_rest (s : State) (blk : Nat) : rest (engineRead s blk).2.2 = rest s := by
  unfold engineRead
  split
  next e n t h =>
  have ht : rest t = rest s := by
    rw [← ownRequest_rest s, h]
  split
  next f u hu =>
  have hread : rest u = rest t := by
    have hmv := readBlock_mv t e blk
    rw [hu] at hmv
    exact hmv.rest (by decide)
  exact ((freeEntry_mv u n e.id).rest (by decide)).trans (hread.trans ht)

theorem readNow_rest (s : State) (blk finder : Nat) : rest (readNow s blk finder).2.2 = rest s := by
  unfold readNow
  split
  · rfl
  · split
    next f id t h =>
    have ht : rest t = rest s := by
      rw [← engineRead_rest s blk, h]
    exact ((afterRead_mv t blk id finder f false).rest (by decide)).trans ht

/-- A descriptor's request is counted. -/
theorem wxRequest_rest (s : State) (blk : Nat) : rest (wxRequest s blk) = rest s := by
  unfold wxRequest
  extract_lets n w c
  split
  next t k _ =>
  have hat : rest (s.atLeast t) = rest s := (State.atLeast_mv s t).rest (by decide)
  exact hat

theorem engineWriteAs_rest (s : State) (blk : Nat) (b : Block) (poisoned : Bool) (tag : Option (Option Nat)) (mirrored : Bool) :
    rest (engineWriteAs s blk b poisoned tag mirrored).2 = rest s := by
  unfold engineWriteAs
  extract_lets s1 s2 s3 s4
  have h1 : rest s1 = rest s := (freshClaim_mv s blk).rest (by decide)
  have h2 : rest s2 = rest s := (writeNow_rest ..).trans h1
  have h3 : rest s3 = rest s :=
    ite_rest (((poisonList_mv s2 blk 3).rest (by decide)).trans h2) (((poisonClear_mv s2 blk).rest (by decide)).trans h2)
  have h4 : rest s4 = rest s := by
    unfold s4
    split
    · exact ((tagWrite_mv ..).rest (by decide)).trans h3
    · exact h3
  split
  · exact ((mirrorWrite_mv ..).rest (by decide)).trans h4
  · exact h4

theorem engineWrite_rest (s : State) (blk : Nat) (b : Block) (poisoned tagged mirrored : Bool) :
    rest (engineWrite s blk b poisoned tagged mirrored) = rest s := engineWriteAs_rest ..

theorem drainQueue_rest (s : State) (n : Pc) : rest (drainQueue s n) = rest s := by
  unfold drainQueue
  refine foldl_rest _ (fun s e => ?_) _ s
  split
  · exact settleEntry_rest ..
  · rfl

theorem drainQueues_rest (s : State) : rest (drainQueues s) = rest s := foldl_rest _ drainQueue_rest _ s

/-! ### Epochs (R275 to R280) -/

theorem exportBits_rest (s : State) (bits dest : Nat) : rest (exportBits s bits dest) = rest s :=
  foldl_rest _ (fun _ _ => ite_rest (engineWrite_rest ..) rfl) _ s

theorem runAction_rest (s : State) (d : Deferred) (late : Bool) : rest (runAction s d late) = rest s := by
  unfold runAction
  extract_lets _ t
  have ht : rest t = rest s := by
    unfold t
    split
    · exact (journal_mv ..).rest (by decide)
    · exact (formBarriers_mv ..).rest (by decide)
    · exact exportBits_rest ..
    · exact (hwFld_mv ..).rest (by decide)
    · exact (hwFld_mv ..).rest (by decide)
    · rfl
  exact ((raiseX_mv ..).rest (by decide)).trans ht

theorem fire_rest (s : State) (i : Fin 16) (epoch : Nat) : rest (fire s i epoch) = rest s := by
  unfold fire
  extract_lets ctl arg action t _ u d
  have ht : rest t = rest s := (hwFld_mv ..).rest (by decide)
  have hu : rest u = rest s := ht
  exact ite_rest (((raise_mv ..).rest (by decide)).trans hu) (ite_rest ((runAction_rest ..).trans hu) hu)

theorem fireAll_rest (s : State) (atClose : Bool) (epoch : Nat) : rest (fireAll s atClose epoch) = rest s :=
  foldl_rest _ (fun s i => ite_rest (ite_rest ((armedStale_mv s i epoch).rest (by decide)) (fire_rest s i epoch)) rfl) _ s

theorem closeEpoch_rest (s : State) : rest (closeEpoch s) = rest s := by
  unfold closeEpoch
  extract_lets e _ t u
  exact (fireAll_rest ..).trans ((raiseLim_mv ..).rest (by decide))

theorem passBoundary_rest (s : State) (m : Member) (v : Nat) : rest (passBoundary s m v) = rest s := by
  unfold passBoundary
  extract_lets src s1 opens s2 _ s3 s4
  have h1 : rest s1 = rest s := (journal_mv ..).rest (by decide)
  have h2 : rest s2 = rest s := ite_rest (((openEpoch_mv s1 v).rest (by decide)).trans h1) h1
  have h3 : rest s3 = rest s := h2
  have h4 : rest s4 = rest s := ite_rest ((closeEpoch_rest s3).trans h3) h3
  exact ite_rest ((fireAll_rest ..).trans h4) h3

end Sys2Proof.Machine
end

section
/-! The Watch (O52): what follows a reading keeps every channel's value and the round's place. -/

namespace Sys2Proof.Machine

/-- What a channel was last read as. -/
def Chan.reading (c : Chan) : Nat × Bool := (c.value, c.seen)

/-- From `s` to `t` the clock does not fall back, and the channels' readings and the round's place stay. -/
structure KeepsReadings (s t : State) : Prop where
  now : s.now ≤ t.now
  chans : t.therm.chans.map Chan.reading = s.therm.chans.map Chan.reading
  next : t.therm.next = s.therm.next

theorem KeepsReadings.refl (s : State) : KeepsReadings s s := ⟨Nat.le_refl _, rfl, rfl⟩

theorem KeepsReadings.trans {s t u : State} (h : KeepsReadings s t) (k : KeepsReadings t u) : KeepsReadings s u :=
  ⟨Nat.le_trans h.now k.now, k.chans.trans h.chans, k.next.trans h.next⟩

/-- What leaves the thermal unit alone. -/
theorem KeepsReadings.of_therm {s t : State} (hn : s.now ≤ t.now) (h : t.therm = s.therm) : KeepsReadings s t :=
  ⟨hn, by rw [h], by rw [h]⟩

theorem Moves.readings {m : Nat} {s t : State} (h : Moves m s t) (hm : m.testBit 22 = false) : KeepsReadings s t :=
  .of_therm h.now (h.therm.resolve_left (by rw [hm]; exact Bool.false_ne_true))

theorem KeepsReadings.therm {s : State} {x : ThermSt} (hc : x.chans = s.therm.chans) (hn : x.next = s.therm.next) :
    KeepsReadings s { s with therm := x } := ⟨Nat.le_refl _, by rw [hc], hn⟩

theorem KeepsReadings.ite {c : Prop} [Decidable c] {s a b : State} (ha : KeepsReadings s a) (hb : KeepsReadings s b) :
    KeepsReadings s (if c then a else b) := by
  split
  · exact ha
  · exact hb

theorem KeepsReadings.foldl {α : Type} (f : State → α → State) (h : ∀ s x, KeepsReadings s (f s x)) (l : List α) (s : State) :
    KeepsReadings s (l.foldl f s) := by
  induction l generalizing s with
  | nil => exact .refl s
  | cons x l ih => exact (h s x).trans (ih _)

/-! ### Shutdown (R465, R470) -/

theorem drainQueues_therm (s : State) : (drainQueues s).therm = s.therm := therm_of_rest (drainQueues_rest s)

theorem shutdown_readings (s : State) : KeepsReadings s (shutdown s) := by
  unfold shutdown
  extract_lets _ t u v
  have ht : KeepsReadings s t := ⟨Nat.le_refl _, rfl, rfl⟩
  have hu : KeepsReadings t u := ((transitAbort_mv t 6).readings (by decide)).trans ((bump_mv ..).readings (by decide))
  have hv : KeepsReadings u v := (answerAll_mv ..).readings (by decide)
  have hdrain : KeepsReadings (abandon v) (drainQueues (abandon v)) :=
    .of_therm (drainQueues_mv _).now (drainQueues_therm _)
  exact (((ht.trans hu).trans hv).trans ((abandon_mv v).readings (by decide))).trans
    (hdrain.trans (((flushLagoon_mv _).readings (by decide)).trans ((selfRefreshAll_mv _).readings (by decide))))

theorem dieShutdown_readings (s : State) (d : Nat) (t : Int) (chan : Nat) : KeepsReadings s (dieShutdown s d t chan) := by
  unfold dieShutdown
  extract_lets u
  have hu : KeepsReadings s u := (raiseJ_mv ..).readings (by decide)
  exact .ite (hu.trans (shutdown_readings u)) hu

theorem setDie_readings (s : State) (d : Fin 18) (f : DieSt → DieSt) : KeepsReadings s (setDie s d f) :=
  ⟨Nat.le_refl _, rfl, rfl⟩

theorem checkAllBroken_readings (s : State) (d : Fin 18) : KeepsReadings s (checkAllBroken s d) := by
  unfold checkAllBroken
  extract_lets lost t u
  have hu : KeepsReadings s u := (setDie_readings ..).trans ((raiseJ_mv ..).readings (by decide))
  exact .ite (hu.trans (dieShutdown_readings ..)) (.refl s)

theorem compareDie_readings (s : State) (d : Fin 18) (chan : Nat) : KeepsReadings s (compareDie s d chan) := by
  unfold compareDie
  split
  · exact .refl s
  · extract_lets old cool level step t u v
    have ht : KeepsReadings s t := ⟨Nat.le_refl _, rfl, rfl⟩
    have hu : KeepsReadings s u := .ite (ht.trans ((raise_mv ..).readings (by decide))) ht
    have hv : KeepsReadings s v := .ite (hu.trans ((raiseLim_mv ..).readings (by decide))) hu
    exact .ite (hv.trans (dieShutdown_readings ..)) hv

/-! ### The end of a round (R471, R472) -/

/-- A sensor group marked broken keeps its readings. -/
theorem mapIdx_reading (v : Vector Chan 128) (br : Nat → Chan → Chan) (h : ∀ i c, (br i c).reading = c.reading) :
    (v.mapIdx br).map Chan.reading = v.map Chan.reading := by
  refine Vector.ext fun i hi => ?_
  simp [h]

theorem inferRound_readings (s : State) : KeepsReadings s (inferRound s) := by
  unfold inferRound
  split
  · exact (KeepsReadings.therm (x := { s.therm with inferOk := false }) rfl rfl).trans (checkAllBroken_readings ..)
  · extract_lets _ t hot miss m _ u br _ v w
    have hu : KeepsReadings s u := ⟨Nat.le_refl _, rfl, rfl⟩
    have hw : KeepsReadings s w := by
      refine .ite (.trans (t := v) ⟨Nat.le_refl _, ?_, rfl⟩ ((raiseJ_mv ..).readings (by decide))) hu
      exact mapIdx_reading _ br fun i c => by
        unfold br
        split <;> rfl
    exact .ite (hw.trans (compareDie_readings ..)) hw

theorem roundEnd_readings (s : State) (xing : List XingCheck) : KeepsReadings s (roundEnd s xing) := by
  unfold roundEnd
  extract_lets t cool
  have ht : KeepsReadings s t := inferRound_readings s
  have hcool : KeepsReadings t { t with therm := { t.therm with coolRound := cool } } := ⟨Nat.le_refl _, rfl, rfl⟩
  exact ((ht.trans hcool).trans ((crossingCheck_mv ..).readings (by decide))).trans ((shadowVote_mv ..).readings (by decide))

theorem resumeService_readings (s : State) : KeepsReadings s (resumeService s) := by
  unfold resumeService
  extract_lets time relax _ t u
  have ht : KeepsReadings s t := (KeepsReadings.therm (x := { s.therm with shut := false, armed := false }) rfl rfl).trans
    ((dwHardware_mv ..).readings (by decide))
  have hrelax (s : State) (d : Fin 18) : KeepsReadings s (relax s d) := by
    unfold relax
    split
    · exact setDie_readings ..
    · exact .refl s
  have hu : KeepsReadings t u := .foldl relax hrelax _ t
  exact ((ht.trans hu).trans ((wakeAll_mv ..).readings (by decide))).trans ((raiseJ_mv ..).readings (by decide))

/-! ### A reading (R455, R456, R469) -/

/-- The state in which channel c has just been read, in its time. -/
def chanRead (s : State) (c : Fin 128) (raw value : Nat) : State :=
  let s := s.atLeast (match s.therm.lastAt with | some t => t + 25000 | none => 0)
  let s := stepTime s (s.now - s.therm.lastAt.getD s.now)
  { s with therm := { s.therm with
      chans := s.therm.chans.set c (readChan s c raw value), lastAt := some s.now, next := (c.val + 1) % 128 } }

theorem watchRead_readings (s : State) (c : Fin 128) (raw value : Nat) (xing : List XingCheck) (fuseRun : Bool) :
    KeepsReadings (chanRead s c raw value) (watchRead s c raw value xing fuseRun) := by
  unfold watchRead
  extract_lets t u old k _ v w x y d a b z
  have hw : KeepsReadings v w := .ite ((raiseJ_mv ..).readings (by decide)) (.refl v)
  have hx : KeepsReadings w x := (railEvent_mv ..).readings (by decide)
  have hy : KeepsReadings x y := .ite ((transitAbort_mv x 1).readings (by decide)) (.refl x)
  have ha : KeepsReadings y a := (checkAllBroken_readings y d).trans (compareDie_readings ..)
  have hb : KeepsReadings y b := .ite (.ite (ha.trans ((refreshRate_mv ..).readings (by decide))) ha) (.refl y)
  have hz : KeepsReadings b z := .ite (roundEnd_readings b xing) (.refl b)
  have hcrit : KeepsReadings z (critical z) := ⟨Nat.le_refl _, rfl, rfl⟩
  have hall : KeepsReadings v (critical z) := (((hw.trans hx).trans hy).trans hb).trans (hz.trans hcrit)
  have hread : chanRead s c raw value = v := rfl
  rw [hread]
  exact .ite (hall.trans (resumeService_readings _)) hall

theorem afterRun_readings (s t : State) : KeepsReadings t (afterRun s t) :=
  .ite ((quickEnd_mv t).readings (by decide)) (.refl t)

/-- The channel just read, its place, and the time since the reading before. -/
theorem chanRead_parts (s : State) (c : Fin 128) (raw value : Nat) :
    (chanRead s c raw value).therm.chans[c].reading = (value % 65536, true) ∧
      (chanRead s c raw value).therm.next = (c.val + 1) % 128 ∧
      ∀ last, s.therm.lastAt = some last → last + 25000 ≤ (chanRead s c raw value).now := by
  refine ⟨?_, rfl, fun last h => ?_⟩
  · unfold chanRead
    simp [Chan.reading, readChan]
  · have hlate := le_atLeast_now s (last + 25000)
    unfold chanRead
    rw [h]
    exact Nat.le_trans hlate (stepTime_mv _ _).now

/-- Settles O52 (R455, R456, R469). -/
theorem watchTakesTheNextChannel : Obligations.WatchTakesTheNextChannel := by
  unfold Obligations.WatchTakesTheNextChannel
  intro raw value xing s hrun
  refine ⟨_, if_pos hrun, ?_⟩
  obtain ⟨hread, hnext, hlate⟩ := chanRead_parts s (nextChan s) raw value
  have hkeep := (watchRead_readings s (nextChan s) raw value xing s.fuse.op.isSome).trans (afterRun_readings s _)
  have hchan : (afterRun s (watchRead s (nextChan s) raw value xing s.fuse.op.isSome)).therm.chans[nextChan s].reading =
      (chanRead s (nextChan s) raw value).therm.chans[nextChan s].reading := by
    have h := congrArg (fun v : Vector (Nat × Bool) 128 => v[nextChan s]) hkeep.chans
    simpa using h
  rw [hread] at hchan
  refine ⟨congrArg Prod.fst hchan, congrArg Prod.snd hchan, hkeep.next.trans hnext, fun last h => Nat.le_trans (hlate last h) hkeep.now⟩

end Sys2Proof.Machine
end

section
/-! SUPPORT. The copy of a resynchronisation and the loss of the link leave alone what serving memory leaves alone, the link's own
state apart. O47: the drain and its seal (R412, R416, R419 to R421). -/

namespace Sys2Proof.Machine

/-! ### A resynchronisation's copy -/

theorem wxMod_rest (s : State) (r : Fin 64) (idx : Nat) {f : WxDesc → WxDesc} (hf : ∀ d, (f d).idx = d.idx) :
    rest (wxMod s r idx f) = rest s := by
  have hact : actIdx (wxMod s r idx f).wetex = actIdx s.wetex := by
    refine actIdx_set _ _ _ ?_
    rw [List.map_map]
    refine List.map_congr_left fun d _ => ?_
    simp only [Function.comp]
    split
    · exact hf d
    · rfl
  unfold rest
  rw [hact]
  rfl

theorem wxEnd_rest (s : State) (r : Fin 64) (idx st res det : Nat) : rest (wxEnd s r idx st res det) = rest s :=
  wxMod_rest s r idx fun _ => by rfl

theorem copyBlock_rest (s : State) (blk : Nat) : rest (copyBlock s blk).2 = rest s := by
  unfold copyBlock
  split
  · rfl
  · split
    next st b t h =>
    have ht : rest t = rest s := by
      rw [← wxRequest_rest s blk, ← readNow_rest (wxRequest s blk) blk 3, h]
    exact ht

theorem copyReads_rest (s : State) (unit : Nat) : rest (copyReads s unit).2 = rest s :=
  List.foldlRecOn (motive := fun a : List (Option Block) × State => rest a.2 = rest s) _ _ rfl
    fun a ha i _ => (copyBlock_rest a.2 (4 * unit + i)).trans ha

theorem copyUnit_rest (s : State) (w : Fin 64) (unit : Nat) : rest (copyUnit s w unit).2 = rest s :=
  ((copySends_mv _ w unit _).rest (by decide)).trans (copyReads_rest s unit)

theorem setJob_rest (s : State) (j : Option ResyncJob) : rest (setJob s j) = rest s := (setJob_mv s j).rest (by decide)

theorem fillCopy_rest (fuel : Nat) (s : State) : rest (fillCopy fuel s) = rest s := by
  induction fuel generalizing s with
  | zero => rfl
  | succ k ih =>
    have hjob (j : Option ResyncJob) : rest (fillCopy k (setJob s j)) = rest s := (ih _).trans (setJob_rest s j)
    unfold fillCopy
    split
    · rfl
    · split
      · rfl
      · refine ite_rest (hjob _) (ite_rest (hjob _) (ite_rest (hjob _) (ite_rest ?_ rfl)))
        split
        next miss t h =>
        have ht : rest t = rest s := by rw [← copyUnit_rest s, h]
        split
        · exact ht
        · exact (ih _).trans ((setJob_rest t _).trans ht)

theorem resyncStep_rest (s : State) : rest (resyncStep s) = rest s := by
  unfold resyncStep
  extract_lets t
  have ht : rest t = rest s := ite_rest rfl (fillCopy_rest _ s)
  clear_value t
  split
  · exact ht
  · extract_lets done u v
    have hu : rest u = rest s := (setJob_rest t _).trans ht
    have hv : rest v = rest s := (foldl_rest _ (fun s w => (copyAcked_mv s w).rest (by decide)) _ u).trans hu
    exact ite_rest ((wxEnd_rest ..).trans ((setJob_rest v none).trans hv)) hv

theorem endPull_rest (s : State) (j : PullJob) (st det : Nat) : rest (endPull s j st det) = rest s :=
  (wxEnd_rest ..).trans ((setPull_mv s none).rest (by decide))

theorem mirrorLoss_rest (s : State) (reason : Nat) : rest (mirrorLoss s reason) = rest s := by
  unfold mirrorLoss
  extract_lets t u q
  have ht : rest t = rest s := (resyncStep_rest _).trans ((divergeLoss_mv s reason).rest (by decide))
  have hu : rest u = rest s := by
    unfold u
    split
    · exact (endPull_rest ..).trans ht
    · exact ht
  clear_value u q
  exact hu

/-! ### The loss of the link keeps the power unit but for its write-intent ring -/

/-- The power unit without its write-intent ring. -/
def powerRest (s : State) : PowerSt := (rest s).power

theorem loseLink_power (s : State) (reason : Nat) : powerRest (loseLink s reason) = powerRest s := by
  unfold loseLink
  split
  · rfl
  · extract_lets n t u v f
    have hu : powerRest u = powerRest t := congrArg Rest.power ((raiseJ_mv t ..).rest (by decide))
    have hv : powerRest v = powerRest u :=
      congrArg Rest.power (((dropMember_mv _ 17).rest (by decide)).trans (mirrorLoss_rest ..))
    have ht : powerRest t = powerRest s := rfl
    clear_value t u v
    rw [← ht, ← hu, ← hv]
    rfl

theorem stopLink_power (s : State) (reason : Nat) : powerRest (stopLink s reason) = powerRest s := by
  have hsend (t : State) : powerRest (sendDown t reason) = powerRest t := by
    unfold powerRest rest
    rw [(sendDown_mv t reason).power.resolve_left (by decide)]
  unfold stopLink
  extract_lets t
  have ht : powerRest t = powerRest s := by
    unfold t
    split
    · exact (hsend _).trans (loseLink_power s reason)
    · rfl
  exact ht

/-! ### The drain's steps and its seal (R416, R419, R420) -/

theorem lwSeal_of_rest {s t : State} (h : rest t = rest s) : t.power.lwSeal = s.power.lwSeal :=
  power_of_rest h PowerSt.lwSeal fun _ _ => rfl

/-- Every step of the drain but the fifth keeps the seal. -/
theorem drainStep_lwSeal (s : State) {i : Nat} (hi : i ≠ 5) : (drainStep s i).power.lwSeal = s.power.lwSeal := by
  unfold drainStep
  split
  · exact lwSeal_of_rest (drainQueues_rest s)
  · exact lwSeal_of_rest ((flushLagoon_mv s).rest (by decide))
  · exact lwSeal_of_rest (((flushJournal_mv _).rest (by decide)).trans ((drainClaims_mv s).rest (by decide)))
  · exact absurd rfl hi
  · exact lwSeal_of_rest ((selfRefreshAll_mv s).rest (by decide))
  · show (powerRest (stopLink s 6)).lwSeal = (powerRest s).lwSeal
    rw [stopLink_power]
  · rfl

/-- The fifth step makes the seal CLEAN and keeps its cause. -/
theorem drainEnd_lwSeal (s : State) :
    (drainEnd s).power.lwSeal.state = 2 ∧ (drainEnd s).power.lwSeal.cause = s.power.lwSeal.cause := by
  unfold drainEnd
  extract_lets ns wi t next u
  have ht : t.power = s.power := (journal_mv ..).power.resolve_left (by decide)
  have hu : u.power = t.power :=
    ((flushJournal_mv _).power.resolve_left (by decide)).trans ((journal_mv ..).power.resolve_left (by decide))
  rw [(copySeal_mv _).power.resolve_left (by decide)]
  exact ⟨rfl, congrArg (·.lwSeal.cause) (hu.trans ht)⟩

/-- The seal's state and cause after steps of the drain. -/
theorem foldl_drainStep_lwSeal (l : List Nat) (s : State) :
    (l.foldl drainStep s).power.lwSeal.state = (if 5 ∈ l then 2 else s.power.lwSeal.state) ∧
    (l.foldl drainStep s).power.lwSeal.cause = s.power.lwSeal.cause := by
  induction l generalizing s with
  | nil => exact ⟨rfl, rfl⟩
  | cons i l ih =>
    obtain ⟨hstate, hcause⟩ := ih (drainStep s i)
    rw [List.foldl_cons, hstate, hcause]
    by_cases hi : i = 5
    · subst hi
      obtain ⟨hend, hkept⟩ := drainEnd_lwSeal s
      refine ⟨?_, hkept⟩
      rw [show drainStep s 5 = drainEnd s from rfl, hend, if_pos List.mem_cons_self, ite_self]
    · rw [drainStep_lwSeal s hi]
      simp [Ne.symm hi]

/-- The start of the drain leaves the seal TORN with its cause. -/
theorem drainStart_lwSeal (s : State) (cause : Nat) (quiesce : Bool) :
    (drainStart s cause quiesce).power.lwSeal.state = 1 ∧ (drainStart s cause quiesce).power.lwSeal.cause = cause := by
  unfold drainStart
  extract_lets t n sl _ _ u v
  have hv : v.power = u.power := (journal_mv ..).power.resolve_left (by decide)
  rw [(fenceStaging_mv _).power.resolve_left (by decide), (fenceEngine_mv _).power.resolve_left (by decide),
    (fuseStop_mv _).power.resolve_left (by decide), (abandon_mv _).power.resolve_left (by decide), hv]
  exact ⟨rfl, rfl⟩

/-- What a drain from detection to the `k`-th step leaves (R416, R419, R420). -/
theorem drain_parts (s : State) (cause : Nat) (k : Nat) (hk : k ≤ 7) :
    (drain s cause k).power.phase = .lowWater ∧ (drain s cause k).stack.ready = false ∧
    (drain s cause k).stack.keeper = .off ∧ (drain s cause k).power.drained = k ∧
    (k = 0 → (drain s cause k).power.lwSeal = s.power.lwSeal ∧ (drain s cause k).dram = s.dram) ∧
    (1 ≤ k → (drain s cause k).power.lwSeal.state = (if k < 5 then 1 else 2) ∧ (drain s cause k).power.lwSeal.cause = cause) ∧
    (drain s cause k).power.coreLost = decide (k < 7) ∧ (k = 7 → (drain s cause k).power.lwstat = 1) := by
  cases k with
  | zero => exact ⟨rfl, rfl, rfl, rfl, fun _ => ⟨rfl, rfl⟩, fun h => absurd h (by decide), rfl, fun h => absurd h (by decide)⟩
  | succ k =>
    obtain ⟨t, ht⟩ : ∃ t, t = drainSteps (drainStart s cause false) 1 (k + 1) := ⟨_, rfl⟩
    have hdrain : drain s cause (k + 1) = if k = 6 then enterLowWater t false 1 else enterLowWater t true t.power.lwstat := by
      rw [ht]
      rfl
    obtain ⟨htorn, hcause⟩ := drainStart_lwSeal s cause false
    have hseal : t.power.lwSeal.state = (if k + 1 < 5 then 1 else 2) ∧ t.power.lwSeal.cause = cause := by
      rw [ht]
      unfold drainSteps
      obtain ⟨hstate, hkept⟩ := foldl_drainStep_lwSeal
        ((List.range 8).filter fun i => decide (1 < i) && decide (i ≤ k + 1)) (drainStart s cause false)
      refine ⟨hstate.trans ?_, hkept.trans hcause⟩
      have hmem : 5 ∈ (List.range 8).filter (fun i => decide (1 < i) && decide (i ≤ k + 1)) ↔ ¬ k + 1 < 5 := by
        simp
      rw [htorn, ite_congr (propext hmem) (fun _ => rfl) (fun _ => rfl), ite_not]
    have hdrained : t.power.drained = k + 1 := by
      rw [ht]
      exact Nat.max_eq_right (by omega)
    rw [hdrain]
    split
    next h6 =>
      subst h6
      exact ⟨rfl, rfl, rfl, hdrained, fun h => absurd h (by decide), fun _ => hseal, rfl, fun _ => rfl⟩
    next h6 =>
      refine ⟨rfl, rfl, rfl, hdrained, fun h => absurd h (by omega), fun _ => hseal, ?_, fun h => absurd h (by omega)⟩
      exact (decide_eq_true (by omega)).symm

/-- Settles O47. -/
theorem drainAndSeal : Obligations.DrainAndSeal := by
  unfold Obligations.DrainAndSeal
  refine ⟨fun k cause c s hphase harmed hc => ?_, fun r idx d s hmay => ?_⟩
  · have hdetect (n : Nat) : detect s n k.val = drain s n k.val := by
      unfold detect
      rw [hphase]
      exact if_pos harmed
    refine ⟨drain s cause k.val, ?_, drain_parts s cause k.val (Nat.le_of_lt_succ k.isLt)⟩
    rcases hc with ⟨rfl, rfl⟩ | ⟨rfl, rfl, hon⟩
    · exact congrArg (fun t => (.next t : Out)) (hdetect 0)
    · refine Eq.trans (b := Machine.whenDo (csrFld s 0x0C0100 0 1 == 1) s (detect s 1 k.val)) rfl ?_
      rw [hdetect, hon]
      rfl
  · refine Answers.run hmay rfl ?_
    obtain ⟨hphase, hready, -, hdrained, -, hseal, hlost, -⟩ := drain_parts s 2 7 (by decide)
    obtain ⟨hstate, hcause⟩ := hseal (by decide)
    exact ⟨hphase, hready, hdrained, hstate, hcause, hlost⟩

end Sys2Proof.Machine
end

section
/-! SUPPORT. Walks of a descriptor over a range of blocks: how one ends and what its reads and writes leave alone. O35 and O36: the
writing and the reading opcodes (R307 to R310). -/

namespace Sys2Proof.Machine

/-! ### A walk over a range -/

/-- What a loop over the numbers below n keeps, step by step. -/
theorem foldl_range_ind {β : Type} {P : Nat → β → Prop} {f : β → Nat → β} {b : β} (n : Nat) (h0 : P 0 b)
    (hstep : ∀ i, i < n → ∀ x, P i x → P (i + 1) (f x i)) : P n ((List.range n).foldl f b) := by
  induction n with
  | zero => exact h0
  | succ n ih =>
    rw [List.range_succ, List.foldl_append]
    exact hstep n (Nat.lt_succ_self n) _ (ih fun i hi => hstep i (Nat.lt_succ_of_lt hi))

/-- A walk that goes on as G tells, or has stopped with an end that E tells of. -/
def walks (G : Scan → Prop) (E : Nat × Nat × Nat → Prop) (a : Scan) : Prop := (a.halt = none ∧ G a) ∨ ∃ e, a.halt = some e ∧ E e

theorem walks_stop {G : Scan → Prop} {E : Nat × Nat × Nat → Prop} {a : Scan} (e : Nat × Nat × Nat) (h : E e) :
    walks G E { a with halt := some e } := .inr ⟨e, rfl, h⟩

/-- How a walk over n blocks ends: past the last, or at the end its last step told. -/
theorem scan_walks {G : Nat → Scan → Prop} {E : Nat × Nat × Nat → Prop} {s : State} {init n : Nat} {f : Scan → Nat → Scan}
    (h0 : G 0 { s := s, out := init })
    (hstep : ∀ i, i < n → ∀ a, a.halt = none → G i a → walks (G (i + 1)) E (f a i)) : walks (G n) E (scan s init n f) := by
  refine foldl_range_ind (P := fun i a => walks (G i) E a) n (.inl ⟨rfl, h0⟩) fun i hi a ha => ?_
  rcases ha with ⟨hnone, hG⟩ | ⟨e, hsome, hE⟩
  · rw [if_neg (by rw [hnone]; decide)]
    exact hstep i hi a hnone hG
  · rw [if_pos (by rw [hsome]; rfl)]
    exact .inr ⟨e, hsome, hE⟩

/-- What every step of a walk leaves alone, the walk leaves alone. -/
theorem scan_rest {s : State} {init n : Nat} {f : Scan → Nat → Scan} (h : ∀ a i, rest (f a i).s = rest a.s) :
    rest (scan s init n f).s = rest s :=
  List.foldlRecOn (motive := fun a : Scan => rest a.s = rest s) _ _ rfl fun a ha i _ => by
    split
    · exact ha
    · exact (h a i).trans ha

/-- A read of a walk: it goes on where it stood, its status raised to at most 3, and to at most 1 where the block was read. -/
structure ReadOf (a : Scan) (st : Nat) (x : Scan) : Prop where
  n : x.n = a.n
  out : x.out = a.out
  halt : x.halt = a.halt
  le : x.st ≤ max a.st 3
  le_of_read : ¬ (st = stPoison ∨ st = stUncorr) → x.st ≤ max a.st 1
  rest : rest x.s = rest a.s

theorem scanRead_of {a x : Scan} {blk st : Nat} {b : Block} (h : scanRead a blk = (st, b, x)) : ReadOf a st x := by
  have hrest : rest (readNow (wxRequest a.s blk) blk 3).2.2 = rest a.s := (readNow_rest ..).trans (wxRequest_rest ..)
  unfold scanRead at h
  generalize readNow (wxRequest a.s blk) blk 3 = q at h hrest
  obtain ⟨st', b', t⟩ := q
  simp only [Prod.mk.injEq] at h
  obtain ⟨rfl, -, rfl⟩ := h
  refine ⟨rfl, rfl, rfl, ?_, fun hread => ?_, hrest⟩
  · dsimp only
    (repeat' split) <;> omega
  · dsimp only
    rw [not_or] at hread
    rw [if_neg hread.1, if_neg hread.2]
    (repeat' split) <;> omega

/-- A write of a walk: it goes on where it stood. -/
structure WriteOf (a x : Scan) : Prop where
  n : x.n = a.n
  out : x.out = a.out
  st : x.st = a.st
  halt : x.halt = a.halt
  rest : rest x.s = rest a.s

theorem scanWrite_of (d : WxDesc) (a : Scan) (blk : Nat) (b : Block) (poisoned : Bool) :
    WriteOf a (scanWrite d a blk b poisoned) := by
  have hrest : rest (engineWriteAs (wxRequest a.s blk) blk b poisoned (some d.tag) true).2 = rest a.s :=
    (engineWriteAs_rest ..).trans (wxRequest_rest ..)
  unfold scanWrite
  generalize engineWriteAs (wxRequest a.s blk) blk b poisoned (some d.tag) true = q at hrest ⊢
  obtain ⟨m, t⟩ := q
  rcases m with _ | _ | m
  · exact ⟨rfl, rfl, rfl, rfl, hrest⟩
  · exact ⟨rfl, rfl, rfl, rfl, hrest⟩
  · exact ⟨rfl, rfl, rfl, rfl, hrest⟩

/-- A descriptor ends as its walk did. -/
theorem endedAs_scanEnd {s : State} {r : Fin 64} {d : WxDesc} {a : Scan} {res det : Nat} {P : Nat → Nat → Nat → Prop}
    {G : Scan → Prop} (hget : wxGet s r d.idx = some d) (hrest : rest a.s = rest s) (h : walks G (fun e => P e.1 e.2.1 e.2.2) a)
    (hG : G a → P a.st res det) : endedAs (scanEnd r d a res det) r d.idx P := by
  obtain ⟨e, he⟩ := wxGet_of_acts hget (acts_of_rest hrest)
  have hend : P (a.halt.getD (a.st, res, det)).1 (a.halt.getD (a.st, res, det)).2.1 (a.halt.getD (a.st, res, det)).2.2 := by
    rcases h with ⟨hnone, hgo⟩ | ⟨e, hsome, hE⟩
    · rw [hnone]
      exact hG hgo
    · rw [hsome]
      exact hE
  unfold scanEnd
  generalize a.halt.getD (a.st, res, det) = q at hend ⊢
  obtain ⟨st, res, det⟩ := q
  exact ⟨_, st, res, det, (wxGet_wxMod a.s r d.idx (fun _ => by rfl)).trans (congrArg (Option.map _) he), rfl, hend⟩

/-! ### The opcodes that write (R308, R309) -/

/-- A write of a walk is counted. -/
theorem walks_counted {d : WxDesc} {a : Scan} {i blk : Nat} {b : Block} {poisoned : Bool} {E : Nat × Nat × Nat → Prop} {m : Nat}
    (hhalt : a.halt = none) (hn : a.n = i) (hst : a.st ≤ m) :
    walks (fun x => x.n = i + 1 ∧ x.st ≤ m) E
      { scanWrite d a blk b poisoned with n := (scanWrite d a blk b poisoned).n + 1 } := by
  have hw := scanWrite_of d a blk b poisoned
  refine .inl ⟨hw.halt.trans hhalt, ?_, hw.st ▸ hst⟩
  rw [hw.n, hn]

/-- A walk that stops at an offline block tells the number of blocks before it. -/
def offlineAt (n : Nat) (e : Nat × Nat × Nat) : Prop := e.1 = wxOffline ∧ e.2.1 = e.2.2 ∧ e.2.2 < n

theorem fillStep_walks (d : WxDesc) (b : Block) {a : Scan} {i n : Nat} (hi : i < n) (hhalt : a.halt = none)
    (h : a.n = i ∧ a.st ≤ 0) : walks (fun x => x.n = i + 1 ∧ x.st ≤ 0) (offlineAt n) (fillStep d b a i) := by
  obtain ⟨hn, hst⟩ := h
  unfold fillStep
  extract_lets blk x
  split
  · exact walks_stop _ ⟨rfl, hn, hi⟩
  · exact walks_counted hhalt hn hst

theorem fillStep_rest (d : WxDesc) (b : Block) (a : Scan) (i : Nat) : rest (fillStep d b a i).s = rest a.s := by
  unfold fillStep
  extract_lets blk x
  split
  · rfl
  · exact (scanWrite_of d a blk b false).rest

/-- FILL and ZERO end after the range, or at an offline block. -/
theorem endedAs_filled {s : State} {r : Fin 64} {d : WxDesc} (b : Block) (hget : wxGet s r d.idx = some d) :
    endedAs (scanEnd r d (scan s 0 d.len (fillStep d b)) (scan s 0 d.len (fillStep d b)).n 0) r d.idx fun st res det =>
      (st = 0 ∧ res = d.len ∧ det = 0) ∨ (st = wxOffline ∧ res = det ∧ det < d.len) := by
  have hw := scan_walks (G := fun i x => x.n = i ∧ x.st ≤ 0) (E := offlineAt d.len) (s := s) (init := 0) (n := d.len)
    (f := fillStep d b) ⟨rfl, Nat.le_refl _⟩ fun i hi a hhalt h => fillStep_walks d b hi hhalt h
  refine endedAs_scanEnd (G := fun x => x.n = d.len ∧ x.st ≤ 0) hget (scan_rest (fillStep_rest d b)) (hw.imp id ?_) ?_
  · exact fun ⟨e, he, hoff⟩ => ⟨e, he, .inr hoff⟩
  · exact fun ⟨hn, hst⟩ => .inl ⟨Nat.le_zero.mp hst, hn, rfl⟩

/-- A FILL whose first block is offline does nothing. -/
theorem fill_offline (s : State) (d : WxDesc) (b : Block) (hlen : 0 < d.len) (hoff : blkOnline s (d.adrA / 64) = false) :
    (scan s 0 d.len (fillStep d b)).s = s ∧ (scan s 0 d.len (fillStep d b)).halt = some (wxOffline, 0, 0) := by
  have hstop := foldl_range_ind (P := fun i (a : Scan) => a.s = s ∧ (0 < i → a.halt = some (wxOffline, 0, 0)) ∧ (i = 0 → a.halt = none ∧ a.n = 0))
    (f := fun a i => if a.halt.isSome then a else fillStep d b a i) (b := { s := s }) d.len ⟨rfl, by omega, fun _ => ⟨rfl, rfl⟩⟩ ?_
  · exact ⟨hstop.1, hstop.2.1 hlen⟩
  · intro i hi a ⟨hs, hgone, hnew⟩
    rcases Nat.eq_zero_or_pos i with rfl | hpos
    · obtain ⟨hhalt, hn⟩ := hnew rfl
      have hstep : fillStep d b a 0 = scanOffline a 0 a.n := by
        unfold fillStep
        exact if_pos (by rw [hs, Nat.add_zero, hoff]; rfl)
      rw [if_neg (by rw [hhalt]; decide), hstep, hn]
      exact ⟨hs, fun _ => rfl, by omega⟩
    · rw [if_pos (by rw [hgone hpos]; rfl)]
      exact ⟨hs, fun _ => hgone hpos, by omega⟩

theorem copyStep_walks (d : WxDesc) {a : Scan} {i n : Nat} (hi : i < n) (hhalt : a.halt = none) (h : a.n = i ∧ a.st ≤ 3) :
    walks (fun x => x.n = i + 1 ∧ x.st ≤ 3) (offlineAt n) (copyStep d a i) := by
  obtain ⟨hn, hst⟩ := h
  unfold copyStep
  extract_lets src dst
  split
  · exact walks_stop _ ⟨rfl, hn, hi⟩
  · split
    next st b x h =>
    obtain ⟨hrn, -, hrhalt, hrst, -, -⟩ := scanRead_of h
    have hw := scanWrite_of d x dst b (decide (st = stPoison) || decide (st = stUncorr))
    refine .inl ⟨hw.halt.trans (hrhalt.trans hhalt), ?_, Nat.le_trans (Nat.le_of_eq hw.st) ?_⟩
    · exact congrArg (· + 1) (hw.n.trans (hrn.trans hn))
    · omega

theorem copyStep_rest (d : WxDesc) (a : Scan) (i : Nat) : rest (copyStep d a i).s = rest a.s := by
  unfold copyStep
  extract_lets src dst
  split
  · rfl
  · split
    next st b x h => exact (scanWrite_of d x dst b _).rest.trans (scanRead_of h).rest

/-- A number of n places that all hold p. -/
def places (p n : Nat) : Nat := ((List.range n).map fun k => p * 2 ^ (64 * k)).sum

/-- A common factor of a list's terms is a factor of their sum. -/
theorem sum_map_factor (c : Nat) (f : Nat → Nat) (l : List Nat) : (l.map fun k => c * f k).sum = c * (l.map f).sum := by
  induction l with
  | nil => rfl
  | cons k l ih => rw [List.map_cons, List.sum_cons, ih, List.map_cons, List.sum_cons, Nat.mul_add]

theorem places_succ (p n : Nat) : places p (n + 1) = p + 2 ^ 64 * places p n := by
  have hplace (k : Nat) : p * 2 ^ (64 * (k + 1)) = 2 ^ 64 * (p * 2 ^ (64 * k)) := by
    rw [Nat.mul_add, Nat.mul_one, Nat.pow_add]
    grind
  unfold places
  rw [List.range_succ_eq_map, List.map_cons, List.sum_cons, List.map_map, ← sum_map_factor, Nat.mul_zero, Nat.pow_zero,
    Nat.mul_one]
  exact congrArg (p + List.sum ·) (List.map_congr_left fun k _ => hplace k)

theorem places_at {p i n : Nat} (hp : p < 2 ^ 64) (hi : i < n) : places p n / 2 ^ (64 * i) % 2 ^ 64 = p := by
  induction n generalizing i with
  | zero => omega
  | succ n ih =>
    rw [places_succ]
    cases i with
    | zero => omega
    | succ i =>
      rw [Nat.mul_add, Nat.mul_one, Nat.add_comm (64 * i), Nat.pow_add, ← Nat.div_div_eq_div_mul,
        Nat.add_mul_div_left _ _ (by decide), Nat.div_eq_of_lt hp, Nat.zero_add]
      exact ih (by omega)

/-- The 64 bits of one place of a pattern block. -/
theorem bitsOf_patternBlock {p i : Nat} (hp : p < 2 ^ 64) (hi : i < 8) : bitsOf (patternBlock p).toNat (64 * i) 64 = p := by
  have hblock : patternBlock p = BitVec.ofNat 512 (places p 8) := rfl
  have hbits : 64 * i + 64 ≤ 512 := by omega
  rw [hblock, BitVec.toNat_ofNat, bitsOf_mod _ hbits, bitsOf, Nat.shiftRight_eq_div_pow]
  exact places_at hp hi

/-- Settles O35. -/
theorem writingOpcodes : Obligations.WritingOpcodes := by
  unfold Obligations.WritingOpcodes
  refine ⟨?copy, ?fill, ?zero, ?offline, fun p i hp hi => bitsOf_patternBlock hp hi⟩
  case copy =>
    intro r idx d s hmay
    refine Answers.run hmay rfl ?_
    obtain rfl := wxGet_idx hmay.1
    have hw := scan_walks (G := fun i x => x.n = i ∧ x.st ≤ 3) (E := offlineAt d.len) (s := s) (init := 0) (n := d.len)
      (f := copyStep d) ⟨rfl, Nat.zero_le _⟩ fun i hi a hhalt h => copyStep_walks d hi hhalt h
    refine endedAs_scanEnd (G := fun x => x.n = d.len ∧ x.st ≤ 3) hmay.1 (scan_rest (copyStep_rest d)) (hw.imp id ?_) ?_
    · exact fun ⟨e, he, hoff⟩ => ⟨e, he, .inr hoff⟩
    · exact fun ⟨hn, hst⟩ => .inl ⟨hst, hn⟩
  case fill =>
    intro r idx d s hmay
    refine Answers.run hmay rfl ?_
    obtain rfl := wxGet_idx hmay.1
    exact endedAs_filled _ hmay.1
  case zero =>
    intro r idx d s hmay
    refine Answers.run hmay rfl ?_
    obtain rfl := wxGet_idx hmay.1
    exact endedAs_filled _ hmay.1
  case offline =>
    intro r idx d s hmay hlen hoff
    refine Answers.run hmay rfl ?_
    obtain rfl := wxGet_idx hmay.1
    obtain ⟨hs, hhalt⟩ := fill_offline s d (patternBlock (d.opd 0)) hlen hoff
    refine ⟨?_, ?_, ?_⟩
    · exact congrArg (·.dram) hs
    · exact congrArg (·.pcs) hs
    · refine endedAs_scanEnd (G := fun _ => False) hmay.1 (congrArg rest hs) (.inr ⟨_, hhalt, rfl, rfl, rfl⟩) False.elim

/-! ### The opcodes that read (R309, R310) -/

theorem crcStep_walks (d : WxDesc) {a : Scan} {i n : Nat} (hi : i < n) (hhalt : a.halt = none) (hst : a.st ≤ 1) :
    walks (fun x => x.st ≤ 1) (fun e => (e.1 = 6 ∨ e.1 = wxOffline) ∧ e.2.2 < n) (crcStep d a i) := by
  unfold crcStep
  extract_lets blk
  split
  · exact walks_stop _ ⟨.inr rfl, hi⟩
  · split
    next st b x h =>
    obtain ⟨-, -, hrhalt, -, hread, -⟩ := scanRead_of h
    split
    · exact walks_stop _ ⟨.inl rfl, hi⟩
    next hgood => 
      refine .inl ⟨hrhalt.trans hhalt, Nat.le_trans (hread hgood) ?_⟩
      omega

theorem crcStep_rest (d : WxDesc) (a : Scan) (i : Nat) : rest (crcStep d a i).s = rest a.s := by
  unfold crcStep
  extract_lets blk
  split
  · rfl
  · split
    next st b x h =>
    split <;> exact (scanRead_of h).rest

theorem firstDiff_lt {x y : Block} {k : Nat} (h : firstDiff x y = some k) : k < 64 :=
  List.mem_range.mp (List.mem_of_find?_eq_some h)

theorem compareStep_walks (d : WxDesc) {a : Scan} {i n : Nat} (hi : i < n) (hhalt : a.halt = none) (h : a.st ≤ 1 ∧ a.out = 0) :
    walks (fun x => x.st ≤ 1 ∧ x.out = 0)
      (fun e => (e.1 = 4 ∧ e.2.1 < 64 * n ∧ e.2.2 = 0) ∨ ((e.1 = 6 ∨ e.1 = wxOffline) ∧ e.2.1 = 0 ∧ e.2.2 < n))
      (compareStep d a i) := by
  obtain ⟨hst, hout⟩ := h
  unfold compareStep
  extract_lets p q
  split
  · exact walks_stop _ (.inr ⟨.inr rfl, rfl, hi⟩)
  · split
    next sx bx x hx =>
    split
    next sy bz y hy =>
    obtain ⟨-, hxout, hxhalt, -, hxread, -⟩ := scanRead_of hx
    obtain ⟨-, hyout, hyhalt, -, hyread, -⟩ := scanRead_of hy
    have hyzero : y.out = 0 := hyout.trans (hxout.trans hout)
    split
    · exact walks_stop _ (.inr ⟨.inl rfl, hyzero, hi⟩)
    next hgood =>
      split
      next k hk =>
        have hk64 := firstDiff_lt hk
        exact walks_stop _ (.inl ⟨rfl, by dsimp only; omega, rfl⟩)
      · have hx1 := hxread fun h => hgood (h.elim .inl fun h => .inr (.inl h))
        have hy1 := hyread fun h => hgood (.inr (.inr h))
        exact .inl ⟨hyhalt.trans (hxhalt.trans hhalt), by dsimp only; omega, hyzero⟩

theorem compareStep_rest (d : WxDesc) (a : Scan) (i : Nat) : rest (compareStep d a i).s = rest a.s := by
  unfold compareStep
  extract_lets p q
  split
  · rfl
  · split
    next sx bx x hx =>
    split
    next sy bz y hy =>
    have hy : rest y.s = rest a.s := (scanRead_of hy).rest.trans (scanRead_of hx).rest
    split
    · exact hy
    · split <;> exact hy

theorem scrubStep_walks (d : WxDesc) {a : Scan} {i n : Nat} (hi : i < n) (hhalt : a.halt = none) (h : a.n = i ∧ a.st ≤ 3) :
    walks (fun x => x.n = i + 1 ∧ x.st ≤ 3) (offlineAt n) (scrubStep d a i) := by
  obtain ⟨hn, hst⟩ := h
  unfold scrubStep
  extract_lets blk s
  split
  · exact walks_stop _ ⟨rfl, hn, hi⟩
  · split
    · exact .inl ⟨hhalt, congrArg (· + 1) hn, hst⟩
    · split
      refine .inl ⟨hhalt, congrArg (· + 1) hn, ?_⟩
      dsimp only
      (repeat' split) <;> omega

theorem afterRead_rest (s : State) (blk id finder : Nat) (f : Found) (scrubbed : Bool) :
    rest (afterRead s blk id finder f scrubbed) = rest s := (afterRead_mv ..).rest (by decide)

theorem scrubStep_rest (d : WxDesc) (a : Scan) (i : Nat) : rest (scrubStep d a i).s = rest a.s := by
  unfold scrubStep
  extract_lets blk s
  have hs : rest s = rest a.s := wxRequest_rest ..
  split
  · rfl
  · split
    · exact hs
    · split
      next f id t h =>
      have ht : rest t = rest a.s := by rw [← hs, ← engineRead_rest s blk, h]
      extract_lets u st v
      have hu : rest u = rest a.s := (afterRead_rest ..).trans ht
      exact ite_rest (((derive_mv ..).rest (by decide)).trans hu) hu

theorem clearStep_walks (d : WxDesc) {a : Scan} {i n : Nat} (hi : i < n) (hhalt : a.halt = none)
    (h : a.n ≤ i ∧ (a.st = 0 ∨ a.st = 2)) :
    walks (fun x => x.n ≤ i + 1 ∧ (x.st = 0 ∨ x.st = 2)) (fun e => e.1 = wxOffline ∧ e.2.1 ≤ e.2.2 ∧ e.2.2 < n) (clearStep d a i) := by
  obtain ⟨hn, hst⟩ := h
  unfold clearStep
  extract_lets blk s
  split
  · exact walks_stop _ ⟨rfl, hn, hi⟩
  · split
    · exact .inl ⟨hhalt, by dsimp only; omega, hst⟩
    · split
      extract_lets st x u y
      split
      · exact .inl ⟨(scanWrite_of ..).halt.trans hhalt, by dsimp only; omega, by dsimp only; omega⟩
      · split
        · have hw := scanWrite_of d { a with s := u } blk 0 false
          exact .inl ⟨hw.halt.trans hhalt, by dsimp only; omega, by rw [← hw.st] at hst; exact hst⟩
        · exact .inl ⟨hhalt, by dsimp only; omega, hst⟩

theorem clearStep_rest (d : WxDesc) (a : Scan) (i : Nat) : rest (clearStep d a i).s = rest a.s := by
  unfold clearStep
  extract_lets blk s
  have hs : rest s = rest a.s := wxRequest_rest ..
  split
  · rfl
  · split
    · exact hs
    · split
      next f id t h =>
      have ht : rest t = rest a.s := by rw [← hs, ← engineRead_rest s blk, h]
      extract_lets st x u y
      have hu : rest u = rest t := (bump_mv ..).rest (by decide)
      split
      · exact (scanWrite_of d { a with s := t } blk 0 false).rest.trans ht
      · split
        · exact (scanWrite_of d { a with s := u } blk 0 false).rest.trans (hu.trans ht)
        · exact (afterRead_rest ..).trans ht

/-- Settles O36. -/
theorem readingOpcodes : Obligations.ReadingOpcodes := by
  unfold Obligations.ReadingOpcodes
  refine ⟨?crc, ?compare, ?scrub, ?clear, by decide +kernel⟩
  case crc =>
    intro r idx d s hmay
    refine Answers.run hmay rfl ?_
    obtain rfl := wxGet_idx hmay.1
    have hw := scan_walks (G := fun _ x => x.st ≤ 1) (E := fun e => (e.1 = 6 ∨ e.1 = wxOffline) ∧ e.2.2 < d.len) (s := s)
      (init := d.opd 0) (n := d.len) (f := crcStep d) (Nat.zero_le _) fun i hi a hhalt h => crcStep_walks d hi hhalt h
    refine endedAs_scanEnd (G := fun x => x.st ≤ 1) hmay.1 (scan_rest (crcStep_rest d)) (hw.imp id ?_) fun hst => .inl ⟨hst, rfl⟩
    exact fun ⟨e, he, hE⟩ => ⟨e, he, .inr hE⟩
  case compare =>
    intro r idx d s hmay
    refine Answers.run hmay rfl ?_
    obtain rfl := wxGet_idx hmay.1
    have hw := scan_walks (G := fun _ x => x.st ≤ 1 ∧ x.out = 0) (s := s) (init := 0) (n := d.len) (f := compareStep d)
      ⟨Nat.zero_le _, rfl⟩ fun i hi a hhalt h => compareStep_walks d hi hhalt h
    refine endedAs_scanEnd (G := fun x => x.st ≤ 1 ∧ x.out = 0) hmay.1 (scan_rest (compareStep_rest d)) (hw.imp id ?_)
      fun h => .inl ⟨h.1, rfl, rfl⟩
    exact fun ⟨e, he, hE⟩ => ⟨e, he, .inr hE⟩
  case scrub =>
    intro r idx d s hmay
    refine Answers.run hmay rfl ?_
    obtain rfl := wxGet_idx hmay.1
    have hw := scan_walks (G := fun i x => x.n = i ∧ x.st ≤ 3) (E := offlineAt d.len) (s := s) (init := 0) (n := d.len)
      (f := scrubStep d) ⟨rfl, Nat.zero_le _⟩ fun i hi a hhalt h => scrubStep_walks d hi hhalt h
    refine endedAs_scanEnd (G := fun x => x.n = d.len ∧ x.st ≤ 3) hmay.1 (scan_rest (scrubStep_rest d)) (hw.imp id ?_) ?_
    · exact fun ⟨e, he, hoff⟩ => ⟨e, he, .inr hoff⟩
    · exact fun ⟨hn, hst⟩ => .inl ⟨hst, hn⟩
  case clear =>
    intro r idx d s hmay
    refine Answers.run hmay rfl ?_
    obtain rfl := wxGet_idx hmay.1
    have hw := scan_walks (G := fun i x => x.n ≤ i ∧ (x.st = 0 ∨ x.st = 2)) (s := s) (init := 0) (n := d.len)
      (f := clearStep d) ⟨Nat.le_refl _, .inl rfl⟩ fun i hi a hhalt h => clearStep_walks d hi hhalt h
    refine endedAs_scanEnd (G := fun x => x.n ≤ d.len ∧ (x.st = 0 ∨ x.st = 2)) hmay.1 (scan_rest (clearStep_rest d))
      (hw.imp id ?_) fun ⟨hn, hst⟩ => .inl ⟨hst, hn, rfl⟩
    exact fun ⟨e, he, hE⟩ => ⟨e, he, .inr hE⟩

end Sys2Proof.Machine
end

section
/-! Firmware staging and activation (O57, R517 to R522, R527). -/

namespace Sys2Proof.Machine

/-! ### What firmware state tells is the same where that state is -/

section
variable {s t : State} (h : t.fw = s.fw)
include h

theorem activeIdx_of_fw (c : Nat) : activeIdx t c = activeIdx s c := congrArg (fun x : FwSt => x.active[compFin c]) h

theorem activeVersion_of_fw (c : Nat) : activeVersion t c = activeVersion s c := by
  unfold activeVersion slotGet
  rw [activeIdx_of_fw h, h]

theorem idleIdx_of_fw (c : Nat) : idleIdx t c = idleIdx s c := congrArg (1 - ·) (activeIdx_of_fw h c)

/-- The idle slot of a component. -/
theorem idleSlot_of_fw (c : Nat) : slotGet t c (idleIdx t c) = slotGet s c (idleIdx s c) := by
  rw [idleIdx_of_fw h]
  unfold slotGet
  rw [h]

end

/-! ### Staging (R517 to R519) -/

/-- The blocks a FW_STAGE has read: as many as it passed, unless a block was offline. -/
structure ReadSoFar (s : State) (n i : Nat) (a : Scan × List Block) : Prop where
  rest : rest a.1.s = rest s
  st : a.1.st ≤ 3
  read : (a.1.halt = none ∧ a.2.length = i) ∨ ∃ j, j < n ∧ a.1.halt = some (wxOffline, 0, j)

theorem readStep_soFar {s : State} {d : WxDesc} {n i : Nat} {a : Scan × List Block} (hi : i < n) (h : ReadSoFar s n i a) :
    ReadSoFar s n (i + 1) (readStep d a i) := by
  obtain ⟨hrest, hst, hread⟩ := h
  unfold readStep
  extract_lets blk
  rcases hread with ⟨hnone, hlen⟩ | ⟨j, hj, hsome⟩
  · rw [if_neg (by rw [hnone]; decide)]
    split
    · exact ⟨hrest, hst, .inr ⟨i, hi, rfl⟩⟩
    · split
      next st b x hx =>
      obtain ⟨-, -, hhalt, hle, -, hkept⟩ := scanRead_of hx
      exact ⟨hkept.trans hrest, Nat.le_trans hle (by omega), .inl ⟨hhalt.trans hnone, by simp [hlen]⟩⟩
  · rw [if_pos (by rw [hsome]; rfl)]
    exact ⟨hrest, hst, .inr ⟨j, hj, hsome⟩⟩

/-- The blocks of a FW_STAGE. -/
def stageReads (s : State) (d : WxDesc) : Scan × List Block := (List.range d.len).foldl (readStep d) ({ s := s }, [])

theorem stageReads_soFar (s : State) (d : WxDesc) : ReadSoFar s d.len d.len (stageReads s d) :=
  foldl_range_ind (P := fun i a => ReadSoFar s d.len i a) d.len ⟨rfl, Nat.zero_le _, .inl ⟨rfl, rfl⟩⟩
    fun _ hi _ h => readStep_soFar hi h

/-- What a FW_STAGE makes of the blocks it has read. -/
def stageWith (r : Fin 64) (d : WxDesc) (a : Scan) (q : Nat × State) : State :=
  if q.1 = 0 then wxEnd q.2 r d.idx a.st (accepted q.2 1 (d.opd 0 % 4)) 0
  else if q.1 = 0x12 then wxEnd q.2 r d.idx wxBusy 0 0
  else wxEnd q.2 r d.idx wxRefused 0 q.1

theorem fwStage_eq (s : State) (r : Fin 64) (d : WxDesc) : fwStage s r d =
    match (stageReads s d).1.halt with
    | some (st, res, det) => wxEnd (stageReads s d).1.s r d.idx st res det
    | none => stageWith r d (stageReads s d).1
        (stageStep (stageReads s d).1.s 1 (d.opd 0 % 4) (bitsOf (d.opd 0) 32 32) (stageReads s d).2) := by
  unfold fwStage
  split
  next a blocks h =>
  have h : stageReads s d = (a, blocks) := h
  rw [h]
  rfl

/-- Blocks of another offset than the image has reached are refused. -/
theorem stageStep_misplaced {s : State} {src comp off : Nat} (hoff : off ≠ 0) (h : s.fw.staging[srcFin src] ≠ some (comp, off))
    (blocks : List Block) : stageStep s src comp off blocks = (0x0E, s) := by
  unfold stageStep
  extract_lets f exp
  exact if_pos (by rw [show exp = s.fw.staging[f] from if_neg hoff]; exact h)

/-- The bytes of an image with blocks added to it. -/
def grown (s : State) (comp : Nat) (blocks : List Block) : Nat := (slotGet s comp (idleIdx s comp)).got + 64 * blocks.length

/-- Blocks taken into the body of an image: their bytes are told, and the active images stay. -/
structure BodyTaken (s : State) (src comp n : Nat) (t : State) : Prop where
  staging : t.fw.staging[srcFin src] = some (comp, n)
  active : t.fw.active = s.fw.active
  wetex : t.wetex = s.wetex

theorem BodyTaken.accepted {s t : State} {src comp n : Nat} (h : BodyTaken s src comp n t) : accepted t src comp = n := by
  unfold Machine.accepted
  rw [h.staging]
  exact if_pos rfl

theorem stageStep_body {s : State} {src comp off : Nat} {h : ImageHeader} {blocks : List Block} (hoff : 512 ≤ off)
    (hcomp : comp < 3) (hat : s.fw.staging[srcFin src] = some (comp, off))
    (hhdr : (slotGet s comp (idleIdx s comp)).hdr = some h) (hroom : grown s comp blocks < imageBytes h) :
    ∃ t, stageStep s src comp off blocks = (0, t) ∧ BodyTaken s src comp (grown s comp blocks) t := by
  have hbody : stageStep s src comp off blocks = stageBody s src comp blocks := by
    unfold stageStep
    extract_lets f exp buf
    have hexp : exp = some (comp, off) := (if_neg (by omega)).trans hat
    rw [if_neg (fun hne => hne hexp), if_neg (by omega), if_neg (by omega)]
  rw [hbody]
  unfold stageBody
  extract_lets i x got u _ v
  rw [show x.hdr = some h from hhdr]
  dsimp only
  have hgot : got = grown s comp blocks := rfl
  rw [if_neg (by omega), if_neg (by omega), ← hgot]
  exact ⟨v, rfl, Vector.getElem_set_self .., rfl, rfl⟩

/-! ### Activation (R520 to R522) -/

theorem activate_refused {s : State} {src c : Nat} (h : activateRefused s src c ≠ 0) (desc : Option (Nat × Nat)) (ok : Bool) :
    activate s src c desc ok = (some (activateRefused s src c), s) := if_pos h

/-- The Keeper's own image is activated by its restart. -/
def keeperActivation (s : State) (src : Nat) (desc : Option (Nat × Nat)) : State :=
  keeperStop { swapSlot s 0 with fw := { (swapSlot s 0).fw with actPend := some (src, desc, false) } } 4

theorem activate_keeper {s : State} {src : Nat} (h : activateRefused s src 0 = 0) (desc : Option (Nat × Nat)) (ok : Bool) :
    activate s src 0 desc ok = (none, keeperActivation s src desc) := if_neg (fun hne => hne h)

theorem activate_other {s : State} {src c : Nat} (h : activateRefused s src c = 0) (hc : c ≠ 0) (desc : Option (Nat × Nat))
    (ok : Bool) : activate s src c desc ok =
      if ok then (some 0, activated (swapSlot s c) src c) else (some 0x0F, activationFails (swapSlot s c) src c) :=
  (if_neg (fun hne => hne h)).trans (if_neg hc)

theorem activated_fw (s : State) (src c : Nat) : (activated s src c).fw = s.fw := (activated_mv ..).fw.resolve_left (by decide)

theorem activeIdx_setActive (s : State) (c i : Nat) : activeIdx (setActive s c i) c = i := Vector.getElem_set_self ..

/-- The idle slot becomes the active one, and the component is activated. -/
theorem swapSlot_parts (s : State) (c : Nat) :
    activeIdx (swapSlot s c) c = idleIdx s c ∧ (swapSlot s c).fw.activated.testBit c = true ∧ (swapSlot s c).wetex = s.wetex ∧
      (swapSlot s c).stack = s.stack := by
  unfold swapSlot
  extract_lets old x t
  have ht : activeIdx t c = idleIdx s c := activeIdx_setActive ..
  have hact : t.fw.activated = s.fw.activated := rfl
  have hwetex : t.wetex = s.wetex := rfl
  have hstack : t.stack = s.stack := rfl
  clear_value t
  exact ⟨ht, (Nat.testBit_or ..).trans (by rw [Nat.testBit_two_pow_self, Bool.or_true]), hwetex, hstack⟩

/-- A restart of the Keeper in service: it restarts, and of the firmware unit only that is noted. -/
theorem keeperStop_parts {s : State} (kind : Nat) (hready : s.stack.ready = true) :
    (keeperStop s kind).stack.keeper = .restarting ∧ (keeperStop s kind).fw = { s.fw with restart := some (kind, s.now) } := by
  unfold keeperStop
  extract_lets _ _ s1 s2 s3 s4 step
  have h2 : s2.stack = s1.stack ∧ s2.fw = s1.fw := 
    ⟨((dwHardware_mv ..).stack.resolve_left (by decide)).trans rfl, ((dwHardware_mv ..).fw.resolve_left (by decide)).trans rfl⟩
  have h3 : s3.stack = s2.stack ∧ s3.fw = s2.fw :=
    ⟨(transitAbort_mv ..).stack.resolve_left (by decide), (transitAbort_mv ..).fw.resolve_left (by decide)⟩
  have h4 : s4.stack = s3.stack ∧ s4.fw = s3.fw := by
    unfold s4
    split
    · exact ⟨(resetEntry_mv ..).stack.resolve_left (by decide), (resetEntry_mv ..).fw.resolve_left (by decide)⟩
    · exact ⟨rfl, rfl⟩
  have hstack : s4.stack = s1.stack := h4.1.trans (h3.1.trans h2.1)
  have hfw : s4.fw = s1.fw := h4.2.trans (h3.2.trans h2.2)
  have hready4 : s4.stack.ready = true := by
    rw [hstack]
    exact hready
  rw [if_pos hready4]
  exact ⟨by rw [hstack], hfw⟩

theorem activationFails_holder (s : State) (src c : Nat) : (activationFails s src c).fw.holder = 0 := by
  unfold activationFails
  extract_lets i v s1 s2 s3 s4
  rw [endLease_fw]

/-- How an activation from the host ends, or that it waits for the Keeper's restart. -/
def activateEnd (r : Fin 64) (idx c : Nat) (q : Option Nat × State) : State :=
  match q with
  | (some code, t) => fwEnd t r idx code (activeVersion t c)
  | (none, t) => wxMod t r idx fun d => { d with running := true }

theorem exec_fwActivate {s : State} {r : Fin 64} {idx : Nat} {d : WxDesc} (hmay : mayStart s 0x11 r idx d)
    (hfree : sextantBusy s (d.opd 0 % 4) = false) (ok : Bool) : exec (.fwActivate r idx ok) s =
      .next (activateEnd r idx (d.opd 0 % 4) (activate s 1 (d.opd 0 % 4) (some (r.val, idx)) ok)) := by
  obtain ⟨hget, hready⟩ := hmay
  show execFwActivate r idx ok s = _
  unfold execFwActivate
  rw [hget]
  exact if_pos (by rw [hready, hfree]; rfl)

/-- The result of a stage command of the management port. -/
def stageResult (c : Nat) (q : Nat × State) : State :=
  setMResult { q.2 with fw := { q.2.fw with mAccepted := accepted q.2 2 c } } q.1

theorem runMcmd_stage {v : Nat} (hop : bitsOf v 0 2 = 0) (s : State) (ok : Bool) : runMcmd s v ok =
    stageResult (bitsOf v 2 2) (stageStep s 2 (bitsOf v 2 2) (csrFld s 0x0D0084 0 21) (mbuf s (bitsOf v 4 2 + 1))) :=
  if_pos hop

/-- The result of an activation from the management port. -/
def activateResult (q : Option Nat × State) : State :=
  match q with
  | (some code, t) => setMResult t code
  | (none, t) => t

theorem runMcmd_activate {v : Nat} (hop : bitsOf v 0 2 = 1) (s : State) (ok : Bool) :
    runMcmd s v ok = activateResult (activate s 2 (bitsOf v 2 2) none ok) := by
  refine ((if_neg (by omega)).trans (if_pos hop)).trans ?_
  rcases activate s 2 (bitsOf v 2 2) none ok with ⟨_ | code, t⟩ <;> rfl

/-- Settles O57. -/
theorem firmwareStagingAndActivation : Obligations.FirmwareStagingAndActivation := by
  unfold Obligations.FirmwareStagingAndActivation
  refine ⟨?misplaced, ?body, ?mgmtStage, ?refused, ?activate, ?mgmtActivate⟩
  case misplaced =>
    intro r idx d s hmay hoff hat
    refine Answers.run hmay rfl ?_
    obtain rfl := wxGet_idx hmay.1
    obtain ⟨hrest, -, hread⟩ := stageReads_soFar s d
    rw [fwStage_eq]
    generalize stageReads s d = a at hrest hread
    obtain ⟨e, he⟩ := wxGet_of_acts hmay.1 (acts_of_rest hrest)
    have hfw : a.1.s.fw = s.fw := fw_of_rest hrest
    rcases hread with ⟨hnone, -⟩ | ⟨j, hj, hsome⟩
    · rw [hnone]
      dsimp only
      rw [stageStep_misplaced (s := a.1.s) (src := 1) hoff (by rw [hfw]; exact hat)]
      exact ⟨hfw, endedAs_wxEnd he ⟨rfl, .inl ⟨rfl, rfl⟩⟩⟩
    · rw [hsome]
      exact ⟨hfw, endedAs_wxEnd he ⟨rfl, .inr ⟨rfl, hj⟩⟩⟩
  case body =>
    intro r idx h d s hmay hoff hcomp hat hhdr hroom
    refine Answers.run hmay rfl ?_
    obtain rfl := wxGet_idx hmay.1
    obtain ⟨hrest, hst, hread⟩ := stageReads_soFar s d
    rw [fwStage_eq]
    generalize stageReads s d = a at hrest hst hread
    obtain ⟨e, he⟩ := wxGet_of_acts hmay.1 (acts_of_rest hrest)
    have hfw : a.1.s.fw = s.fw := fw_of_rest hrest
    rcases hread with ⟨hnone, hlen⟩ | ⟨j, hj, hsome⟩
    · have hgrown : grown a.1.s (d.opd 0 % 4) a.2 =
          (slotGet s (d.opd 0 % 4) (idleIdx s (d.opd 0 % 4))).got + 64 * d.len := by
        unfold grown
        rw [idleSlot_of_fw hfw, hlen]
      obtain ⟨t, ht, htaken⟩ := stageStep_body (s := a.1.s) (src := 1) (h := h) (blocks := a.2) hoff hcomp (by rw [hfw]; exact hat)
        (by rw [idleSlot_of_fw hfw]; exact hhdr) (by rw [hgrown]; exact hroom)
      rw [hnone]
      dsimp only
      rw [ht]
      refine endedAs_wxEnd ((wxGet_of htaken.wetex ..).trans he) (.inl ⟨hst, ?_, rfl, ?_⟩)
      · exact htaken.accepted.trans hgrown
      · exact htaken.staging.trans (by rw [htaken.accepted])
    · rw [hsome]
      exact endedAs_wxEnd he (.inr ⟨rfl, rfl, hj, hfw⟩)
  case mgmtStage =>
    intro v h s hq hup hidle hop hcomp hoff hat hhdr hroom
    refine Answers.mcmd hq hup hidle hop (fun h => absurd h (by decide)) rfl ?_
    rw [runMcmd_stage hop]
    generalize hu : clearLatch s mgmtPath = u
    have hfw : u.fw = s.fw := by rw [← hu]; rfl
    have hcsr : csrFld u 0x0D0084 0 21 = csrFld s 0x0D0084 0 21 := by rw [← hu]; rfl
    have hgrown : grown u (bitsOf v.toNat 2 2) (mbuf u (bitsOf v.toNat 4 2 + 1)) =
        (slotGet s (bitsOf v.toNat 2 2) (idleIdx s (bitsOf v.toNat 2 2))).got + 64 * (bitsOf v.toNat 4 2 + 1) := by
      unfold grown mbuf
      rw [idleSlot_of_fw hfw, List.length_map, List.length_range]
    obtain ⟨t, ht, htaken⟩ := stageStep_body (s := u) (src := 2) (h := h) (blocks := mbuf u (bitsOf v.toNat 4 2 + 1)) (off := csrFld u 0x0D0084 0 21)
      (by rw [hcsr]; exact hoff) hcomp (by rw [hfw, hcsr]; exact hat) (by rw [idleSlot_of_fw hfw]; exact hhdr)
      (by rw [hgrown]; exact hroom)
    rw [ht]
    refine ⟨rfl, htaken.active.trans (by rw [hfw]), htaken.accepted.trans hgrown⟩
  case refused =>
    intro r idx ok d s hmay hfree hcode
    refine ⟨_, exec_fwActivate hmay hfree ok, ?_⟩
    rw [activate_refused hcode]
    exact ⟨fwEnd_fw .., fwEnd_refused hmay.1 hcode _⟩
  case activate =>
    intro r idx d s hmay hfree hcode hact
    refine ⟨_, exec_fwActivate hmay hfree true, ?_⟩
    obtain ⟨hidle, hdone, hwetex, hstack⟩ := swapSlot_parts s (d.opd 0 % 4)
    by_cases hc : d.opd 0 % 4 = 0
    · rw [hc] at hcode hidle hdone hstack ⊢
      rw [activate_keeper hcode, if_pos rfl]
      have hready : s.stack.ready = true := by
        have hruns := hmay.2
        simp only [wxReady, engineRuns, Bool.and_eq_true] at hruns
        obtain ⟨⟨⟨⟨⟨⟨⟨⟨⟨hready, -⟩, -⟩, -⟩, -⟩, -⟩, -⟩, -⟩, -⟩, -⟩ := hruns
        exact hready
      obtain ⟨hkeeper, hkept⟩ := keeperStop_parts (s := { swapSlot s 0 with fw := { (swapSlot s 0).fw with
        actPend := some (1, some (r.val, idx), false) } }) 4 (by rw [← hstack] at hready; exact hready)
      refine ⟨?_, ?_, hkeeper⟩
      · exact (congrArg (fun x : FwSt => x.active[compFin 0]) hkept).trans hidle
      · exact (congrArg (fun x : FwSt => x.activated.testBit 0) hkept).trans hdone
    · rw [activate_other hcode hc, if_pos rfl, if_neg hc]
      have hfw := activated_fw (swapSlot s (d.opd 0 % 4)) 1 (d.opd 0 % 4)
      have hfwEnd : (activateEnd r idx (d.opd 0 % 4) (some 0, activated (swapSlot s (d.opd 0 % 4)) 1 (d.opd 0 % 4))).fw =
          (activated (swapSlot s (d.opd 0 % 4)) 1 (d.opd 0 % 4)).fw := fwEnd_fw ..
      refine ⟨?_, ?_, ?_⟩
      · rw [activeIdx_of_fw (hfwEnd.trans hfw), hidle]
      · rw [hfwEnd, hfw]
        exact hdone
      · rw [activeVersion_of_fw hfwEnd]
        refine fwEnd_done ((wxGet_of ?_ ..).trans hmay.1) _
        exact ((activated_mv ..).wetex.resolve_left (by decide)).trans hwetex
  case mgmtActivate =>
    intro v ok s hq hup hidle hop hfree
    refine Answers.mcmd hq hup hidle hop (fun _ => hfree) rfl ?_
    rw [runMcmd_activate hop]
    generalize bitsOf v.toNat 2 2 = c
    have hrefused : activateRefused (clearLatch s mgmtPath) 2 c = activateRefused s 2 c := rfl
    rw [← hrefused]
    generalize hu : clearLatch s mgmtPath = u
    have hfw : u.fw = s.fw := by rw [← hu]; rfl
    by_cases hcode : activateRefused u 2 c = 0
    · rw [if_neg (fun hne => hne hcode)]
      refine ⟨fun hc hok => ?_, fun hc hok => ?_⟩
      · rw [activate_other hcode hc, if_pos hok]
        refine ⟨rfl, ?_⟩
        exact (activeIdx_of_fw (activated_fw (swapSlot u c) 2 c) c).trans
          ((swapSlot_parts u c).1.trans (idleIdx_of_fw hfw c))
      · rw [activate_other hcode hc, if_neg (by rw [hok]; decide)]
        exact ⟨rfl, activationFails_holder ..⟩
    · rw [if_pos hcode, activate_refused hcode, ← hfw]
      rfl

end Sys2Proof.Machine
end

section
/-! Descriptors fetched, dispatched and completed (O34, R302 to R305, R314, R320). -/

namespace Sys2Proof.Machine

/-- A pair that has settled has the descriptors it had. -/
theorem wxSettle_act (s : State) (r : Fin 64) : (wxSettle s r).wetex.rings[r].act = s.wetex.rings[r].act := by
  unfold wxSettle
  extract_lets q en
  split
  · rw [wxModRing_same]
  · rfl

/-- A pair with active descriptors stays as it is. -/
theorem wxSettle_of_active {s : State} {r : Fin 64} (h : s.wetex.rings[r].act ≠ []) : wxSettle s r = s :=
  if_neg fun hidle => h (List.isEmpty_iff.mp hidle.1)

/-- A stopped pair: why, and its descriptors. -/
theorem wxStop_ring (s : State) (r : Fin 64) (why : Nat) :
    (wxStop s r why).wetex.rings[r] = { s.wetex.rings[r] with st := .stopped, stop := why } := by
  unfold wxStop
  extract_lets q t
  have hkept : (raiseJ t (1281 + 2 * r.val) 0x0502 sevError why (q.sqHead + q.cqTail * 65536)).wetex = t.wetex :=
    (raiseX_ev ..).wetex
  rw [hkept, wxModRing_same]

theorem wxDrop_act (s : State) (r : Fin 64) (idx : Nat) : ∀ e ∈ (wxDrop s r idx).wetex.rings[r].act, e.idx ≠ idx := by
  unfold wxDrop
  rw [wxModRing_same]
  intro e he
  exact of_decide_eq_true (List.mem_filter.mp he).2

/-- A completed descriptor is no longer active. -/
theorem complete_act (s : State) (r : Fin 64) (d : WxDesc) (st res det : Nat) :
    ∀ e ∈ (complete s r d st res det).wetex.rings[r].act, e.idx ≠ d.idx := by
  unfold complete
  extract_lets q blk ssn s1 w filler s2 n s3 s4 s5
  split
  · rw [wxSettle_act]
    exact wxDrop_act _ r _
  · split
    · rw [wxSettle_act]
      exact wxDrop_act _ r _
    · rw [wxSettle_act, (complEvents_mv ..).wetex.resolve_left (by decide)]
      exact wxDrop_act _ r _

/-- A pair may fetch a descriptor. -/
structure MayFetch (s : State) (r : Fin 64) : Prop where
  run : engineRuns s = true
  cool : s.therm.shut = false
  active : s.wetex.rings[r].st = .active
  waiting : s.wetex.rings[r].sqHead ≠ s.wetex.rings[r].sqTail
  few : wxActive s < 1024
  room : s.wetex.rings[r].act.length + s.wetex.rings[r].unfreed < wxCqSize s r.val

theorem exec_descFetch {s : State} {r : Fin 64} (h : MayFetch s r) : exec (.descFetch r) s = .next (wxFetch s r) := by
  refine if_pos ?_
  simp only [h.run, h.cool, h.active, Bool.and_eq_true, decide_eq_true_eq]
  exact ⟨⟨⟨⟨⟨trivial, rfl⟩, rfl⟩, h.waiting⟩, h.few⟩, h.room⟩

/-- A descriptor fetched waits for dispatch, ended at once only where it could not be read. -/
theorem wxFetch_act {s : State} {r : Fin 64} (honline : blkOnline s (wxSqBase s r.val / 64 + s.wetex.rings[r].sqHead) = true) :
    ∃ d ∈ (wxFetch s r).wetex.rings[r].act, d.idx = s.wetex.rings[r].sqHead ∧ d.disp = none ∧ d.running = false ∧
      (d.bad = true ↔ d.fin = some (wxDescErr, 0, 0)) := by
  unfold wxFetch
  extract_lets q blk
  rw [if_neg (by rw [honline]; decide)]
  split
  next st b t h =>
  extract_lets bad d u
  rw [(journal_mv ..).wetex.resolve_left (by decide)]
  refine ⟨d, ?_, rfl, rfl, rfl, ?_⟩
  · unfold u
    rw [wxModRing_same]
    exact List.mem_append_right _ List.mem_cons_self
  · show bad = true ↔ (if bad = true then some (wxDescErr, 0, 0) else none) = some (wxDescErr, 0, 0)
    by_cases hbad : bad = true <;> simp [hbad]

/-- A descriptor dispatched has its place in the order and the status of its checks. -/
theorem wxDispatch_act {s : State} {r : Fin 64} {d : WxDesc} (h : d ∈ s.wetex.rings[r].act) :
    ∃ e ∈ (wxDispatch s r d).wetex.rings[r].act, e.idx = d.idx ∧ e.desc = d.desc ∧ e.disp = some s.wetex.order ∧
      e.fin = if descCheck s d = 0 then none else some (descCheck s d, 0, 0) := by
  unfold wxDispatch
  extract_lets st ord t
  unfold wxMod
  rw [wxModRing_same]
  exact ⟨_, List.mem_map.mpr ⟨d, h, if_pos rfl⟩, rfl, rfl, rfl, rfl⟩

/-- Settles O34. -/
theorem descriptorsFetchedDispatchedCompleted : Obligations.DescriptorsFetchedDispatchedCompleted := by
  unfold Obligations.DescriptorsFetchedDispatchedCompleted
  refine ⟨?full, ?fetch, ?stop, ?dispatch, ?record⟩
  case full =>
    intro r s hfull
    refine if_neg ?_
    rw [decide_eq_false (Nat.not_lt.mpr hfull), Bool.and_false]
    decide
  case fetch =>
    intro r s hrun hcool hactive hwaiting hfew hroom honline
    exact ⟨_, exec_descFetch ⟨hrun, hcool, hactive, hwaiting, hfew, hroom⟩, wxFetch_act honline⟩
  case stop =>
    intro r s hrun hcool hactive hwaiting hfew hroom hoff hact
    have hfetch : wxFetch s r = wxSettle (wxStop s r 1) r := if_pos (by rw [hoff]; rfl)
    have hring := wxStop_ring s r 1
    refine ⟨_, exec_descFetch ⟨hrun, hcool, hactive, hwaiting, hfew, hroom⟩, ?_⟩
    rw [hfetch, wxSettle_of_active (by rw [hring]; exact hact)]
    dsimp only
    rw [hring]
    exact ⟨rfl, rfl⟩
  case dispatch =>
    intro r d s hpair hnext hrun hon hwait
    refine ⟨wxDispatch s r d, ?_, rfl, wxDispatch_act (List.mem_of_find?_eq_some hnext)⟩
    show execDescDispatch s = _
    unfold execDescDispatch
    rw [hpair]
    dsimp only
    rw [hnext]
    exact if_pos (by rw [hrun, hon, hwait]; rfl)
  case record =>
    intro r idx d s hget hfin hrun hcool hready
    obtain rfl := wxGet_idx hget
    obtain ⟨e, he⟩ := Option.isSome_iff_exists.mp hfin
    refine ⟨complete s r d (finStatus d e.1) e.2.1 e.2.2, ?_, complete_act _ r d _ _ _⟩
    show execCompletionRecord r d.idx s = _
    unfold execCompletionRecord
    rw [hget]
    dsimp only
    rw [he]
    exact if_pos (by rw [hrun, hcool, hready]; rfl)

end Sys2Proof.Machine
end

section
/-! Epoch and journal opcodes (O37, R275, R285, R286, R313, R316). -/

namespace Sys2Proof.Machine

/-! ### EPOCH_ADVANCE -/

/-- A member's epoch moves. -/
def moveMember (s : State) (m : Member) (v : Nat) : State :=
  { s with epochs := { s.epochs with cur := s.epochs.cur.set m v, started := true } }

/-- A member that passes the boundary of an open epoch: the pass is journalled, its own epoch moves, no epoch opens. -/
theorem passBoundary_eq {s : State} {m : Member} {v : Nat} (h : v ≤ s.epochs.newest) : passBoundary s m v =
    moveMember (journal s 0x0003 (if m.val < 16 then 768 + 16 * m.val else 1456) (bodyAt 24 m.val + bodyAt 32 v)) m v := by
  unfold passBoundary
  extract_lets src t opens u _ w x
  have ht : t.epochs = s.epochs := (journal_mv ..).epochs.resolve_left (by decide)
  have hopens : ¬ opens = true := by
    unfold opens
    rw [ht]
    simpa using h
  rw [if_neg hopens, show w = moveMember u m v from rfl, show u = t from if_neg hopens]

/-- The epochs after a pass that opens none. -/
theorem passBoundary_epochs {s : State} {m : Member} {v : Nat} (h : v ≤ s.epochs.newest) :
    (passBoundary s m v).epochs = { s.epochs with cur := s.epochs.cur.set m v, started := true } := by
  rw [passBoundary_eq h, moveMember, (journal_mv ..).epochs.resolve_left (by decide)]

/-! ### TIDEMARK_EXPORT and JOURNAL_READ -/

theorem exportStep_walks (d : WxDesc) (bits : Nat) {a : Scan} {i n : Nat} (hi : i < n) (hhalt : a.halt = none) (hst : a.st = 0) :
    walks (fun x => x.st = 0) (fun e => e.1 = wxOffline ∧ e.2.1 = 0 ∧ e.2.2 < n) (exportStep d bits a i) := by
  unfold exportStep
  extract_lets blk b win
  split
  · exact walks_stop _ ⟨rfl, rfl, hi⟩
  · split
    next m t h =>
    rcases m with _ | _ | q
    · exact .inl ⟨hhalt, hst⟩
    · exact .inl ⟨hhalt, hst⟩
    · exact .inl ⟨hhalt, hst⟩

theorem exportStep_rest (d : WxDesc) (bits : Nat) (a : Scan) (i : Nat) : rest (exportStep d bits a i).s = rest a.s := by
  unfold exportStep
  extract_lets blk b win
  split
  · rfl
  · split
    next m t h =>
    have ht : rest t = rest a.s := by
      rw [← wxRequest_rest a.s blk, ← engineWriteAs_rest (wxRequest a.s blk) blk b false none true, h]
    rcases m with _ | _ | q
    · exact ht
    · exact ht
    · exact ht

theorem tidemarkExport_ends {s : State} {r : Fin 64} {d : WxDesc} (hget : wxGet s r d.idx = some d) :
    endedAs (tidemarkExport s r d) r d.idx fun st res det =>
      if (d.opd 1).testBit 0 = false ∧ exportRefused s (d.opd 0) ≠ 0 then
        st = wxRefused ∧ res = 0 ∧ det = exportRefused s (d.opd 0)
      else
        (st = 0 ∧ det = 0 ∧ res = popc 21 (if (d.opd 1).testBit 0 then s.epochs.cum else epochBits s (d.opd 0))) ∨
        (st = wxOffline ∧ res = 0 ∧ det < 3072) := by
  unfold tidemarkExport
  extract_lets cum why bits
  have hwhy : why ≠ 0 ↔ (d.opd 1).testBit 0 = false ∧ exportRefused s (d.opd 0) ≠ 0 := by
    unfold why cum
    by_cases hc : (d.opd 1).testBit 0 = true <;> simp [hc]
  by_cases h : why ≠ 0
  · have hrefused : why = exportRefused s (d.opd 0) := if_neg (by rw [show cum = false from (hwhy.mp h).1]; decide)
    rw [if_pos h]
    refine endedAs_mono (endedAs_wxEnd (P := fun st res det => st = wxRefused ∧ res = 0 ∧ det = why) hget ⟨rfl, rfl, rfl⟩) ?_
    rintro st res det ⟨hst, hres, hdet⟩
    rw [if_pos (hwhy.mp h)]
    exact ⟨hst, hres, hdet.trans hrefused⟩
  · have hw := scan_walks (G := fun _ x => x.st = 0) (s := s) (init := 0) (n := 3072) (f := exportStep d bits) rfl
      fun i hi a hhalt hst => exportStep_walks d bits hi hhalt hst
    rw [if_neg h]
    simp only [if_neg (mt hwhy.mpr h)]
    refine endedAs_scanEnd (G := fun x => x.st = 0) hget (scan_rest (exportStep_rest d bits)) (hw.imp id ?_)
      fun hst => .inl ⟨hst, rfl, rfl⟩
    exact fun ⟨e, he, hE⟩ => ⟨e, he, .inr hE⟩

/-- A range of the journal that has been written down so far: status 0 throughout. -/
theorem journalStep_walks (d : WxDesc) (j0 : Nat) {a : Scan} {i n : Nat} (hi : i < n) (hhalt : a.halt = none)
    (h : a.n = i ∧ a.st = 0) :
    walks (fun x => x.n = i + 1 ∧ x.st = 0) (fun e => (e.1 = 0 ∧ e.2.2 < n) ∨ (e.1 = wxOffline ∧ e.2.2 < n))
      (journalStep d j0 a i) := by
  obtain ⟨hn, hst⟩ := h
  unfold journalStep
  extract_lets blk b x
  split
  · exact walks_stop _ (.inl ⟨hst, hn ▸ hi⟩)
  · split
    · exact walks_stop _ (.inr ⟨rfl, hi⟩)
    · have hw := scanWrite_of d a blk (b.getD 0) false
      exact .inl ⟨hw.halt.trans hhalt, congrArg (· + 1) (hw.n.trans hn), hw.st.trans hst⟩

theorem journalStep_rest (d : WxDesc) (j0 : Nat) (a : Scan) (i : Nat) : rest (journalStep d j0 a i).s = rest a.s := by
  unfold journalStep
  extract_lets blk b x
  split
  · rfl
  · split
    · rfl
    · exact (scanWrite_of d a blk (b.getD 0) false).rest

theorem journalRead_ends {s : State} {r : Fin 64} {d : WxDesc} (hget : wxGet s r d.idx = some d) :
    endedAs (journalRead s r d) r d.idx fun st _ det =>
      (st = 0 ∧ det % 2 ^ 17 ≤ d.len) ∨ (st = wxOffline ∧ det < d.len) := by
  unfold journalRead
  extract_lets gap a b
  have hcount (n : Nat) (h : n ≤ d.len) : (n + b2n gap * 2 ^ 17) % 2 ^ 17 ≤ d.len := by
    rw [Nat.add_mul_mod_self_right]
    exact Nat.le_trans (Nat.mod_le ..) h
  have hw : walks (fun x => x.n = d.len ∧ x.st = 0) (fun e => (e.1 = 0 ∧ e.2.2 < d.len) ∨ (e.1 = wxOffline ∧ e.2.2 < d.len)) a :=
    scan_walks (G := fun i x => x.n = i ∧ x.st = 0) ⟨rfl, rfl⟩ fun i hi x hhalt h => journalStep_walks d _ hi hhalt h
  refine endedAs_scanEnd (G := fun x => x.n = d.len ∧ x.st = 0) hget (scan_rest (journalStep_rest d _)) ?_ ?_
  · rcases hw with ⟨hnone, hgo⟩ | ⟨e, hsome, hE⟩
    · exact .inl ⟨congrArg (Option.map _) hnone, hgo⟩
    · refine .inr ⟨_, congrArg (Option.map _) hsome, ?_⟩
      dsimp only
      split
      next hoff => exact .inr ⟨hoff, hE.elim (fun h => h.2) fun h => h.2⟩
      next hoff =>
        obtain ⟨hst, hlt⟩ := hE.resolve_right fun h => hoff h.1
        exact .inl ⟨hst, hcount _ (Nat.le_of_lt hlt)⟩
  · exact fun ⟨hn, hst⟩ => .inl ⟨hst, hcount _ (Nat.le_of_eq hn)⟩

/-! ### TIDEMARK_CLEAR -/

/-- A bit of a word with a field put in. -/
theorem testBit_putBits (x lo w v i : Nat) :
    (putBits x lo w v).testBit i = if lo ≤ i ∧ i < lo + w then v.testBit (i - lo) else x.testBit i := by
  have hlow : x % 2 ^ lo < 2 ^ lo := Nat.mod_lt _ (Nat.two_pow_pos lo)
  have hmid : v % 2 ^ w < 2 ^ w := Nat.mod_lt _ (Nat.two_pow_pos w)
  rw [putBits_eq, Nat.add_comm, Nat.testBit_two_pow_mul_add _ hlow, Nat.add_comm (v % 2 ^ w), Nat.testBit_two_pow_mul_add _ hmid]
  simp only [Nat.testBit_mod_two_pow, Nat.testBit_div_two_pow]
  by_cases hi : i < lo
  · rw [if_pos hi, if_neg (by omega), decide_eq_true hi, Bool.true_and]
  · by_cases hj : i - lo < w
    · rw [if_neg hi, if_pos hj, if_pos (by omega), decide_eq_true hj, Bool.true_and]
    · rw [if_neg hi, if_neg hj, if_neg (by omega), show i - lo - w + w + lo = i by omega]

/-- A bit of the union of maps. -/
theorem testBit_foldl_or (l : List EpMap) (x g : Nat) :
    (l.foldl (fun a m => a ||| m.bits) x).testBit g = (x.testBit g || l.any fun m => m.bits.testBit g) := by
  induction l generalizing x with
  | nil => simp
  | cons m l ih => rw [List.foldl_cons, ih, Nat.testBit_or, List.any_cons, Bool.or_assoc]

/-- The cumulative map after a clear: within the range, what retained later epochs hold. -/
theorem clearThrough_cum (s : State) (c lo n g : Nat) : (clearThrough s c lo n).epochs.cum.testBit g =
    if lo ≤ g ∧ g < lo + n then s.epochs.maps.any fun m => decide (c < m.epoch) && m.bits.testBit g
    else s.epochs.cum.testBit g := by
  unfold clearThrough
  extract_lets keep
  have hkeep : keep.testBit g = s.epochs.maps.any fun m => decide (c < m.epoch) && m.bits.testBit g := by
    unfold keep
    rw [testBit_foldl_or, Nat.zero_testBit, Bool.false_or, List.any_filter]
  refine (testBit_putBits ..).trans ?_
  by_cases hin : lo ≤ g ∧ g < lo + n
  · have hlt : g - lo < n := by omega
    rw [if_pos hin, if_pos hin, ← hkeep, bitsOf, Nat.testBit_mod_two_pow, Nat.testBit_shiftRight, decide_eq_true hlt,
      Bool.true_and, Nat.add_sub_cancel' hin.1]
  · rw [if_neg hin, if_neg hin]

/-- Settles O37. -/
theorem epochAndJournalOpcodes : Obligations.EpochAndJournalOpcodes := by
  unfold Obligations.EpochAndJournalOpcodes
  refine ⟨?alone, ?skips, ?held, ?passes, ?dirty, ?clearRefused, ?clear, ?journal⟩
  case alone =>
    intro r idx d s hmay hmember
    refine Answers.run hmay rfl ?_
    obtain rfl := wxGet_idx hmay.1
    rw [show advance s r d = wxEnd s r d.idx wxRefused 0 2 from if_pos (by rw [hmember]; rfl)]
    exact ⟨rfl, endedAs_wxEnd hmay.1 ⟨rfl, rfl, rfl⟩⟩
  case skips =>
    intro r idx d s hmay hmember hv
    refine Answers.run hmay rfl ?_
    obtain rfl := wxGet_idx hmay.1
    have hadv : advance s r d = wxEnd s r d.idx wxRefused 0 1 := (if_neg (by rw [hmember]; decide)).trans (if_pos hv)
    rw [hadv]
    exact ⟨rfl, endedAs_wxEnd hmay.1 ⟨rfl, rfl, rfl⟩⟩
  case held =>
    intro r idx d s hmay hmember hv hheld
    refine Answers.run hmay rfl ?_
    obtain rfl := wxGet_idx hmay.1
    have hadv : advance s r d = _ :=
      (if_neg (by rw [hmember]; decide)).trans ((if_neg (fun hne => hne hv)).trans (if_pos hheld))
    rw [hadv]
    refine ⟨rfl, rfl, _, (wxGet_wxMod _ r d.idx (fun _ => by rfl)).trans (congrArg (Option.map _) hmay.1), rfl⟩
  case passes =>
    intro r idx d s hmay hmember hv hheld hopen
    refine Answers.run hmay rfl ?_
    obtain rfl := wxGet_idx hmay.1
    have hadv : advance s r d = wxEnd (passBoundary s 16 (d.opd 0)) r d.idx 0 (d.opd 0) 0 :=
      (if_neg (by rw [hmember]; decide)).trans ((if_neg (fun hne => hne hv)).trans (if_neg (by rw [hheld]; decide)))
    have hepochs := passBoundary_epochs (m := 16) hopen
    obtain ⟨e, he⟩ := wxGet_of_acts hmay.1 (acts_of_rest (passBoundary_rest s 16 (d.opd 0)))
    have hcur : (passBoundary s 16 (d.opd 0)).epochs.cur[16] = d.opd 0 := by
      rw [hepochs]
      exact Vector.getElem_set_self ..
    have hnewest : (passBoundary s 16 (d.opd 0)).epochs.newest = s.epochs.newest := by rw [hepochs]
    rw [hadv]
    exact ⟨hcur, hnewest, endedAs_wxEnd he ⟨rfl, rfl, rfl⟩⟩
  case dirty =>
    intro r idx d s hmay
    refine Answers.run hmay rfl ?_
    obtain rfl := wxGet_idx hmay.1
    exact tidemarkExport_ends hmay.1
  case clearRefused =>
    intro r idx d s hmay hbad
    refine Answers.run hmay rfl ?_
    obtain rfl := wxGet_idx hmay.1
    have hclear : tidemarkClear s r d = wxEnd s r d.idx wxRefused 0 (if epochOpen s (d.opd 0) then 3 else 4) := by
      unfold tidemarkClear
      by_cases hopen : epochOpen s (d.opd 0) = true
      · rw [if_pos hopen, if_pos hopen]
      · rw [if_neg hopen, if_neg hopen, if_pos (hbad.resolve_left hopen)]
    rw [hclear]
    exact ⟨rfl, endedAs_wxEnd hmay.1 ⟨rfl, rfl, rfl⟩⟩
  case clear =>
    intro r idx d s hmay hclosed hold hkept
    refine Answers.run hmay rfl ?_
    obtain rfl := wxGet_idx hmay.1
    obtain ⟨res, hclear⟩ : ∃ res, tidemarkClear s r d =
        wxEnd (clearThrough s (d.opd 0) (bitsOf (d.opd 1) 0 21) (bitsOf (d.opd 2) 0 22)) r d.idx 0 res 0 :=
      ⟨_, (if_neg (by rw [hclosed]; decide)).trans (if_neg (by omega))⟩
    rw [hclear]
    exact ⟨clearThrough_cum s _ _ _, rfl, endedAs_wxEnd hmay.1 ⟨rfl, rfl⟩⟩
  case journal =>
    intro r idx d s hmay
    refine Answers.run hmay rfl ?_
    obtain rfl := wxGet_idx hmay.1
    exact journalRead_ends hmay.1

end Sys2Proof.Machine
end

section
/-! Repair, pseudo-channels and fences of the engine (O38, R260, R312, R315). -/

namespace Sys2Proof.Machine

theorem endRepairs_rest (s : State) (p : Nat → Nat → Nat → Bool) (st res det : Nat) : rest (endRepairs s p st res det) = rest s :=
  (endRepairs_mv ..).rest (by decide)

theorem bringOnline_acts (s : State) (n : Pc) (sweeps : List LaneSweep) :
    actIdx (bringOnline s n sweeps).wetex = actIdx s.wetex := by
  unfold bringOnline
  extract_lets t u
  have ht : actIdx t.wetex = actIdx s.wetex := rfl
  have hu : actIdx u.wetex = actIdx t.wetex := (fullTrain_mv t (.pc n) sweeps).acts.resolve_left (by decide)
  split
  · exact hu.trans ht
  · rw [(flushPc_mv ..).acts.resolve_left (by decide), acts_of_rest (drainQueue_rest ..),
      (wakePc_mv ..).acts.resolve_left (by decide), hu, ht]

/-- PC_ONLINE ends as the pseudo-channel then stands. -/
def onlineEnd (r : Fin 64) (d : WxDesc) (n : Pc) (t : State) : State :=
  if t.pcs[n].mode == .online then wxEnd t r d.idx 0 0 0 else wxEnd t r d.idx wxRefused 0 5

/-- A pseudo-channel taken offline has every bank closed. -/
theorem takeOffline_pc (s : State) (n : Pc) :
    (takeOffline s n).pcs[n].mode = .offline ∧ ∀ b : Fin 32, (takeOffline s n).pcs[n].banks[b].row = none := by
  unfold takeOffline
  extract_lets t u
  unfold u
  rw [State.modPc_same]
  exact ⟨rfl, fun b => by rw [Fin.getElem_fin, Vector.getElem_map]⟩

theorem takeOffline_rest (s : State) (n : Pc) : rest (takeOffline s n) = rest s := by
  unfold takeOffline
  extract_lets t u
  have ht : rest t = rest s := (endRepairs_rest ..).trans (drainQueue_rest s n)
  exact ((State.modPc_mv ..).rest (by decide)).trans (((State.atLeast_mv ..).rest (by decide)).trans ht)

/-- A command that runs a descriptor, and what it makes of the state. -/
theorem Answers.runs {cmd : Instr} {s t : State} {opc : Nat} {r : Fin 64} {idx : Nat} {d : WxDesc} {f : WxDesc → State}
    {P : State → Prop} (h : mayStart s opc r idx d) (hexec : exec cmd s = wxRun opc r idx s f) (hf : f d = t) (hP : P t) :
    Answers cmd s P :=
  Answers.run h hexec (hf ▸ hP)

/-- A soft repair that is not refused starts the copy of its row and runs on. -/
theorem repairSoft_starts {s : State} {r : Fin 64} {d : WxDesc} (hget : wxGet s r d.idx = some d)
    (h : softRefused s (pcFin (d.opd 0 % 64)) (bitsOf (d.opd 0) 6 5) (bitsOf (d.opd 0) 11 16) = 0) :
    (repairSoft s r d).pcs[pcFin (d.opd 0 % 64)].banks[bankFin (bitsOf (d.opd 0) 6 5)].repair =
        some (bitsOf (d.opd 0) 11 16) ∧
      ∃ e, wxGet (repairSoft s r d) r d.idx = some e ∧ e.running = true := by
  unfold repairSoft
  extract_lets n bank row
  rw [show softRefused s n bank row = 0 from h]
  dsimp only
  refine ⟨?_, _, (wxGet_wxMod _ r d.idx (fun _ => by rfl)).trans (congrArg (Option.map _) hget), rfl⟩
  show (modBank n bank (fun b => { b with repair := some row }) s).pcs[n].banks[bankFin bank].repair = some row
  rw [modBank_same]
  exact congrArg Bank.repair (Vector.getElem_set_self ..)

/-- A soft repair that is refused changes no pseudo-channel. -/
theorem repairSoft_refused {s : State} {r : Fin 64} {d : WxDesc} (hget : wxGet s r d.idx = some d)
    (h : softRefused s (pcFin (d.opd 0 % 64)) (bitsOf (d.opd 0) 6 5) (bitsOf (d.opd 0) 11 16) ≠ 0) :
    (repairSoft s r d).pcs = s.pcs ∧ endedAs (repairSoft s r d) r d.idx fun st res det =>
      st = wxRefused ∧ res = 0 ∧
        det = softRefused s (pcFin (d.opd 0 % 64)) (bitsOf (d.opd 0) 6 5) (bitsOf (d.opd 0) 11 16) := by
  obtain ⟨k, hk⟩ := Nat.exists_eq_succ_of_ne_zero h
  unfold repairSoft
  extract_lets n bank row
  have hk : softRefused s n bank row = k + 1 := hk
  rw [hk]
  have hev := raise_ev s (pcSrc n.val 6) 0x0231 sevWarn (bank + row * 32) (k + 1)
  exact ⟨hev.pcs, endedAs_wxEnd ((wxGet_of hev.wetex ..).trans hget) ⟨rfl, rfl, rfl⟩⟩

/-- Settles O38. -/
theorem repairAndChannelOpcodes : Obligations.RepairAndChannelOpcodes := by
  unfold Obligations.RepairAndChannelOpcodes
  refine ⟨?repair, ?offline, ?inService, ?online, ?fence⟩
  case repair =>
    intro r idx d s hmay hfree
    obtain rfl := wxGet_idx hmay.1
    refine Answers.runs (t := repairSoft s r d) hmay rfl (if_neg (by rw [hfree]; decide)) ?_
    split
    next h => exact repairSoft_starts hmay.1 h
    next h => exact repairSoft_refused hmay.1 h
  case offline =>
    intro r idx d s hmay
    obtain rfl := wxGet_idx hmay.1
    by_cases hmode : s.pcs[pcFin (d.opd 0 % 64)].mode = .offline
    · refine Answers.runs (t := wxEnd s r d.idx 0 0 0) hmay rfl (if_pos (beq_iff_eq.mpr hmode)) ?_
      exact ⟨fun h => absurd hmode h, fun _ => rfl, endedAs_wxEnd hmay.1 ⟨rfl, rfl, rfl⟩⟩
    · refine Answers.runs (t := wxEnd (takeOffline s (pcFin (d.opd 0 % 64))) r d.idx 0 0 0) hmay rfl
        (if_neg fun h => hmode (beq_iff_eq.mp h)) ?_
      obtain ⟨e, he⟩ := wxGet_of_acts hmay.1 (acts_of_rest (takeOffline_rest s (pcFin (d.opd 0 % 64))))
      exact ⟨fun _ => takeOffline_pc .., fun h => absurd h hmode, endedAs_wxEnd he ⟨rfl, rfl, rfl⟩⟩
  case inService =>
    intro r idx sw d s hmay hon
    refine Answers.run hmay rfl ?_
    obtain rfl := wxGet_idx hmay.1
    rw [show pcOnlineOp s r d (pcFin (d.opd 0 % 64)) sw = wxEnd s r d.idx 0 0 0 from if_pos (by rw [hon]; rfl)]
    exact ⟨rfl, endedAs_wxEnd hmay.1 ⟨rfl, rfl, rfl⟩⟩
  case online =>
    intro r idx sw d s hmay hoff htransit hlc
    obtain rfl := wxGet_idx hmay.1
    obtain ⟨e, he⟩ := wxGet_of_acts hmay.1 (bringOnline_acts s (pcFin (d.opd 0 % 64)) sw)
    have hval : (pcFin (d.opd 0 % 64)).val = d.opd 0 % 64 := Nat.mod_mod ..
    refine Answers.runs (t := onlineEnd r d (pcFin (d.opd 0 % 64)) (bringOnline s (pcFin (d.opd 0 % 64)) sw)) hmay rfl ?_ ?_
    · refine (if_neg fun h => hoff (beq_iff_eq.mp h)).trans ((if_neg ?_).trans (if_neg hlc))
      rw [hval, htransit]
      decide
    · generalize bringOnline s (pcFin (d.opd 0 % 64)) sw = t at he
      unfold onlineEnd
      by_cases hon : t.pcs[pcFin (d.opd 0 % 64)].mode = .online
      · rw [if_pos (beq_iff_eq.mpr hon)]
        exact endedAs_wxEnd he ⟨rfl, (if_pos hon).mpr ⟨rfl, rfl⟩⟩
      · rw [if_neg fun h => hon (beq_iff_eq.mp h)]
        exact endedAs_wxEnd he ⟨rfl, (if_neg hon).mpr ⟨rfl, rfl⟩⟩
  case fence =>
    intro r idx d e l s hmay hact
    refine Answers.run hmay rfl ?_
    obtain rfl := wxGet_idx hmay.1
    rw [hact]
    dsimp only
    by_cases he : e.idx = d.idx
    · rw [if_pos he, if_pos he]
      exact ⟨rfl, rfl, endedAs_wxEnd hmay.1 ⟨rfl, rfl, rfl⟩⟩
    · rw [if_neg he, if_neg he]
      exact ⟨rfl, rfl, rfl⟩

end Sys2Proof.Machine
end

section
/-! Messages of the mirror: the fields of a header, and what writes, marks and barriers do (O39, O40, R386, R389 to R391, R399). -/

namespace Sys2Proof.Machine

/-! ### The fields of a header (R386) -/

section
variable (s : State) {type len code : Nat} (win wseq blk epoch : Nat) (htype : type < 256) (hlen : len < 4) (hcode : code < 256)
include htype hlen hcode

/-- The places of a header's fields do not meet. -/
theorem mkHdr_fields : hType (mkHdr s type win len code wseq blk epoch) = type ∧
    hWin (mkHdr s type win len code wseq blk epoch) = win % 64 ∧ hCode (mkHdr s type win len code wseq blk epoch) = code ∧
    hSeq (mkHdr s type win len code wseq blk epoch) = wseq % 2 ^ 32 := by
  have hwin : win % 64 < 64 := Nat.mod_lt _ (by decide)
  have hseq : wseq % 2 ^ 32 < 2 ^ 32 := Nat.mod_lt _ (by decide)
  have hbits (lo w : Nat) (h : lo + w ≤ 256) : bitsOf (mkHdr s type win len code wseq blk epoch).toNat lo w =
      (type + (win % 64 + len * 64) * 2 ^ 8 + code * 2 ^ 16 + (wseq % 2 ^ 32) * 2 ^ 32
        + (s.seq.next % 2 ^ 64) * 2 ^ 64 + (blk % 2 ^ 31) * 2 ^ 128 + (epoch % 2 ^ 64) * 2 ^ 192) / 2 ^ lo % 2 ^ w := by
    rw [mkHdr, BitVec.toNat_ofNat, bitsOf_mod _ h, bitsOf, Nat.shiftRight_eq_div_pow]
  unfold hType hWin hCode hSeq
  rw [hbits 0 8 (by decide), hbits 8 6 (by decide), hbits 16 8 (by decide), hbits 32 32 (by decide)]
  generalize win % 64 = a at *
  generalize wseq % 2 ^ 32 = b at *
  generalize s.seq.next % 2 ^ 64 = c
  generalize blk % 2 ^ 31 = d
  generalize epoch % 2 ^ 64 = e
  refine ⟨?_, ?_, ?_, ?_⟩ <;> omega

end

/-- A command whose condition holds. -/
theorem Answers.does {c : Instr} {s t : State} {b : Bool} {P : State → Prop} (hb : b = true)
    (h : exec c s = Machine.whenDo b s t) (ht : P t) : Answers c s P :=
  ⟨t, h.trans (if_pos hb), ht⟩

theorem hWin_lt (h : BitVec 256) : hWin h < 64 := Nat.mod_lt _ (by decide)
theorem hSeq_lt (h : BitVec 256) : hSeq h < 2 ^ 32 := Nat.mod_lt _ (by decide)

/-! ### Messages taken, refused or queued (R389, R391) -/

/-- Frames that leave the receive buffer change the link alone. -/
theorem takeRx_chrosy (s : State) (vc : Fin 2) (h : BitVec 256) (bs : List Block) :
    ∃ k x, takeRx s vc h bs = (k, { s with chrosy := x }) := by
  unfold takeRx
  extract_lets fs q
  split <;> exact ⟨_, _, rfl⟩

/-- A message taken at once changes the link alone. -/
theorem takeNow_chrosy (s : State) (vc : Fin 2) (h : BitVec 256) (bs : List Block) :
    ∃ x, takeNow s vc h bs = { s with chrosy := x } := by
  obtain ⟨k, x, hx⟩ := takeRx_chrosy s vc h bs
  unfold takeNow
  rw [hx]
  exact ⟨_, rfl⟩

/-- Why a message is refused does not depend on the link. -/
theorem nackCode_of_chrosy (s : State) (x : ChrosySt) (h : BitVec 256) : nackCode { s with chrosy := x } h = nackCode s h := rfl

/-- The codes of a refusal fit their field. -/
theorem nackCode_lt (s : State) (h : BitVec 256) : nackCode s h < 256 := by
  unfold nackCode
  extract_lets a n lo hi
  (repeat' split) <;> decide

/-- The NACK of a message. -/
def nackMsg (s : State) (h : BitVec 256) (code : Nat) : Msg := { hdr := mkHdr s 6 (hWin h) 3 code (hSeq h) (hBlk h) (hEpoch h) }

theorem nackMsg_fields (s : State) (h : BitVec 256) {code : Nat} (hcode : code < 256) : hType (nackMsg s h code).hdr = 6 ∧
    hWin (nackMsg s h code).hdr = hWin h ∧ hSeq (nackMsg s h code).hdr = hSeq h ∧ hCode (nackMsg s h code).hdr = code := by
  obtain ⟨htype, hwin, hco, hseq⟩ := mkHdr_fields s (type := 6) (len := 3) (hWin h) (hSeq h) (hBlk h) (hEpoch h) (by decide)
    (by decide) hcode
  rw [Nat.mod_eq_of_lt (hWin_lt h)] at hwin
  rw [Nat.mod_eq_of_lt (hSeq_lt h)] at hseq
  exact ⟨htype, hwin, hseq, hco⟩

@[simp] theorem pushQ_same (s : State) (vc : Fin 2) (m : Msg) : (pushQ s vc m).mirror.q[vc] = s.mirror.q[vc] ++ [m] :=
  Vector.getElem_set_self ..

/-- A NACK joins the queue of channel 0; of the rest of mirroring and of memory nothing changes. -/
theorem sendNack_keeps (s : State) (h : BitVec 256) (code : Nat) :
    (sendNack s h code).mirror = (pushQ s 0 (nackMsg s h code)).mirror ∧ (sendNack s h code).dram = s.dram :=
  have hev := raiseLim_ev (pushQ s 0 (nackMsg s h code)) (evKey 1121 0x0802) ms 1121 0x0802 sevWarn
    (64 * hBlk h % 2 ^ 37 + code * 2 ^ 40) 0 1 false
  ⟨hev.mirror, hev.dram⟩

/-- A message that waits for apply is the newest of its channel; nothing is answered. -/
theorem pushApply_keeps (s : State) (vc : Fin 2) (h : BitVec 256) (bs : List Block) :
    (∃ k, (pushApply s vc h bs).mirror.apply[vc] = s.mirror.apply[vc] ++ [{ hdr := h, blocks := bs, frames := k }]) ∧
      (pushApply s vc h bs).mirror.q = s.mirror.q ∧ (pushApply s vc h bs).mirror.backs = s.mirror.backs ∧
      (pushApply s vc h bs).dram = s.dram ∧ (pushApply s vc h bs).epochs = s.epochs := by
  obtain ⟨k, x, hx⟩ := takeRx_chrosy s vc h bs
  unfold pushApply
  rw [hx]
  exact ⟨⟨k, Vector.getElem_set_self ..⟩, rfl, rfl, rfl, rfl⟩

/-- A write message that arrives. -/
def writeArrives (s : State) (vc : Fin 2) (h : BitVec 256) (bs : List Block) (t : State) : Prop :=
  if nackCode s h = 0 then
    t.mirror.apply[vc].map (fun m => (m.hdr, m.blocks)) = s.mirror.apply[vc].map (fun m => (m.hdr, m.blocks)) ++ [(h, bs)] ∧
    t.mirror.q = s.mirror.q ∧ t.dram = s.dram
  else
    t.mirror.apply = s.mirror.apply ∧ t.dram = s.dram ∧
    ∃ m, t.mirror.q[0] = s.mirror.q[0] ++ [m] ∧ hType m.hdr = 6 ∧ hWin m.hdr = hWin h ∧ hSeq m.hdr = hSeq h ∧
      hCode m.hdr = nackCode s h

theorem rxWrite_arrives (s : State) (vc : Fin 2) (h : BitVec 256) (bs : List Block) : writeArrives s vc h bs (rxWrite s vc h bs) := by
  unfold writeArrives rxWrite
  split
  next hcode =>
    obtain ⟨⟨k, happly⟩, hq, -, hdram, -⟩ := pushApply_keeps s vc h bs
    rw [hcode]
    dsimp only
    exact ⟨by rw [happly, List.map_append]; rfl, hq, hdram⟩
  next hcode =>
    obtain ⟨k, hk⟩ := Nat.exists_eq_succ_of_ne_zero hcode
    have hlt := nackCode_lt s h
    obtain ⟨x, hx⟩ := takeNow_chrosy s vc h bs
    rw [hk] at hlt ⊢
    dsimp only
    rw [hx]
    obtain ⟨hmirror, hdram⟩ := sendNack_keeps { s with chrosy := x } h (k + 1)
    obtain ⟨htype, hwin, hseq, hco⟩ := nackMsg_fields { s with chrosy := x } h hlt
    exact ⟨(congrArg MirrorSt.apply hmirror :), hdram, _, (congrArg (fun m : MirrorSt => m.q[0]) hmirror).trans (pushQ_same ..),
      htype, hwin, hseq, hco⟩

/-- Settles O39. -/
theorem writeMessages : Obligations.WriteMessages := by
  unfold Obligations.WriteMessages
  intro vc c h bs s hlive hc
  rcases hc with ⟨rfl, hform, rfl⟩ | ⟨rfl, hform, rfl⟩ | ⟨rfl, hform, rfl⟩
  · exact Answers.does (by rw [hlive, hform]; rfl) rfl (rxWrite_arrives s 0 h bs)
  · exact Answers.does (by rw [hlive, hform]; rfl) rfl (rxWrite_arrives s 1 h bs)
  · exact Answers.does (by rw [hlive, hform]; rfl) rfl (rxWrite_arrives s (resyncVc s h bs) h bs)

/-! ### Marks, barriers and reserved messages (R386, R390, R399) -/

theorem passBoundary_mirror {s : State} {m : Member} {v : Nat} (h : v ≤ s.epochs.newest) :
    (passBoundary s m v).mirror = s.mirror := by
  rw [passBoundary_eq h]
  exact (journal_mv ..).mirror.resolve_left (by decide)

/-- Settles O40. -/
theorem marksBarriersAndReservedTypes : Obligations.MarksBarriersAndReservedTypes := by
  unfold Obligations.MarksBarriersAndReservedTypes
  refine ⟨?off, ?passes, ?waits, ?barrier, ?reserved⟩
  case off =>
    intro h s hlive htype hoff
    refine Answers.does (by rw [hlive, htype]; rfl) rfl ?_
    obtain ⟨x, hx⟩ := takeNow_chrosy s 0 h []
    rw [if_pos hoff, hx]
    exact ⟨rfl, rfl⟩
  case passes =>
    intro h s hlive htype hon hfree hmember hnext hheld hopen
    refine Answers.does (by rw [hlive, htype]; rfl) rfl ?_
    have hmark : doMark s (hEpoch h) = (true, passBoundary s 17 (hEpoch h)) :=
      (if_neg (by rw [hmember]; decide)).trans ((if_neg (fun hne => hne hnext)).trans (if_neg (by rw [hheld]; decide)))
    rw [if_neg (by rw [hon]; decide), if_pos hfree, hmark]
    dsimp only
    obtain ⟨x, hx⟩ := takeNow_chrosy (passBoundary s 17 (hEpoch h)) 0 h []
    rw [if_pos rfl, hx]
    have hepochs := passBoundary_epochs (m := 17) hopen
    refine ⟨?_, ?_⟩
    · refine (congrArg (fun x : EpochSt => x.cur[17]) hepochs).trans ?_
      exact Vector.getElem_set_self ..
    · exact congrArg MirrorSt.apply (passBoundary_mirror hopen)
  case waits =>
    intro h s hlive htype hon hbusy
    refine Answers.does (by rw [hlive, htype]; rfl) rfl ?_
    obtain ⟨⟨k, happly⟩, -, -, -, hepochs⟩ := pushApply_keeps s 0 h []
    rw [if_neg (by rw [hon]; decide), if_neg (by rw [hbusy]; decide)]
    exact ⟨hepochs, (congrArg (List.map (·.hdr)) happly).trans List.map_append⟩
  case barrier =>
    intro h s hlive htype
    refine Answers.does (by rw [hlive, htype]; rfl) rfl ?_
    split
    next hready =>
      obtain ⟨x, hx⟩ := takeNow_chrosy s 0 h []
      rw [hx]
      exact ⟨rfl, rfl⟩
    next hready =>
      obtain ⟨⟨k, happly⟩, -, hbacks, -⟩ := pushApply_keeps s 0 h []
      exact ⟨hbacks, (congrArg (List.map (·.hdr)) happly).trans List.map_append⟩
  case reserved =>
    intro h s hlive htype
    refine Answers.does (by rw [hlive, htype]; rfl) rfl ?_
    obtain ⟨x, hx⟩ : ∃ x, (if s.chrosy.rxq[0].head? = some h then takeNow s 0 h [] else takeNow s 1 h []) = { s with chrosy := x } := by
      split
      · exact takeNow_chrosy s 0 h []
      · exact takeNow_chrosy s 1 h []
    rw [hx]
    have hev := raiseLim_ev { s with chrosy := x } (evKey 1121 0x0802) ms 1121 0x0802 sevWarn
      (64 * hBlk h % 2 ^ 37 + 7 * 2 ^ 40) 0 1 false
    exact ⟨hev.mirror, hev.dram, hev.epochs, hev.pcs⟩

end Sys2Proof.Machine
end

section
/-! Pulls and resynchronisation (O42, R391, R400 to R402). -/

namespace Sys2Proof.Machine

/-! ### PULL_REQ answered (R402) -/

/-- The queue of channel 1 holds an answer to a PULL_REQ. -/
def pullAnswer (h : BitVec 256) (s : State) : Prop := ∃ m ∈ s.mirror.q[1], hType m.hdr = 9 ∧ hSeq m.hdr = hSeq h ∧ hWin m.hdr = hWin h

theorem lenCode_lt (n : Nat) : lenCode n < 4 := by
  unfold lenCode
  (repeat' split) <;> decide

theorem pushQ_pullAnswer (s t : State) (h : BitVec 256) (blk : Nat) (bs : List Block) (n : Nat) {code : Nat} (hcode : code < 256) :
    pullAnswer h (pushQ s 1 (pullMsg t h blk bs n code)) := by
  obtain ⟨htype, hwin, -, hseq⟩ := mkHdr_fields t (type := 9) (len := lenCode n) (hWin h) (hSeq h) blk 0 (by decide)
    (lenCode_lt n) hcode
  rw [Nat.mod_eq_of_lt (hWin_lt h)] at hwin
  rw [Nat.mod_eq_of_lt (hSeq_lt h)] at hseq
  refine ⟨pullMsg t h blk bs n code, ?_, htype, hseq, hwin⟩
  have hq := pushQ_same s 1 (pullMsg t h blk bs n code)
  exact hq ▸ List.mem_append_right _ List.mem_cons_self

/-- What every step of a loop establishes holds after a loop of one step or more. -/
theorem foldl_establishes {α β : Type} {P : β → Prop} {f : β → α → β} (h : ∀ b x, P (f b x)) {l : List α} (hl : l ≠ []) (b : β) :
    P (l.foldl f b) := by
  rw [← List.dropLast_concat_getLast hl, List.foldl_append]
  exact h _ _

theorem answerPull_answers (s : State) (h : BitVec 256) : pullAnswer h (answerPull s h) := by
  unfold answerPull
  extract_lets n
  split
  next bs t hread =>
  have hlen : bs.length = n := by
    have hcount := foldl_range_ind (P := fun i (a : List (Option Block) × State) => a.1.length = i)
      (f := fun a i => (a.1 ++ [(supply a.2 (hBlk h + i)).1], (supply a.2 (hBlk h + i)).2)) (b := ([], s)) n rfl
      fun i _ a ha => by rw [List.length_append, ha]; rfl
    have hsame : (List.range n).foldl (fun (a : List (Option Block) × State) i =>
        (a.1 ++ [(supply a.2 (hBlk h + i)).1], (supply a.2 (hBlk h + i)).2)) ([], s) = (bs, t) := hread
    rwa [hsame] at hcount
  have hpos : 0 < n := Nat.two_pow_pos _
  extract_lets good
  split
  · exact pushQ_pullAnswer t t h _ good n (by decide)
  · refine foldl_establishes (fun u x => ?_) (fun hnil => ?_) t
    · split
      · exact pushQ_pullAnswer u u h _ _ _ (by decide)
      · exact pushQ_pullAnswer u u h _ _ _ (by decide)
    · have hbs : bs = [] := List.zipIdx_eq_nil_iff.mp hnil
      rw [hbs] at hlen
      exact Nat.ne_of_lt hpos hlen

/-! ### A pull of the engine -/

/-- A pull that has asked for all its blocks ends. -/
theorem pullNext_ends {s : State} {j : PullJob} (h : j.stop ≤ j.next) : pullNext s j = endPull s j 0 (sat24 j.missing) := if_pos h

theorem pullNext_ends_pull {s : State} {j : PullJob} (h : j.stop ≤ j.next) : (pullNext s j).mirror.pull = none := by
  rw [pullNext_ends h]
  rfl

theorem pullNext_dram (s : State) (j : PullJob) : (pullNext s j).dram = s.dram := by
  unfold pullNext
  extract_lets n tag m req u v
  (repeat' split) <;> rfl

/-- Blocks answered as missing change no memory; the request goes on, or the pull ends with its last. -/
theorem pullAnswered_missing (s : State) (j : PullJob) (q : PullReq) (n : Nat) :
    (pullAnswered s j q n 0 n).dram = s.dram ∧
      (n < q.left → (pullAnswered s j q n 0 n).mirror.pull =
        some { j with missing := j.missing + n, reqs := [{ q with left := q.left - n }] }) ∧
      (q.left ≤ n → j.stop ≤ j.next → (pullAnswered s j q n 0 n).mirror.pull = none) := by
  unfold pullAnswered
  extract_lets k
  split
  next hall =>
    exact ⟨pullNext_dram .., fun h => absurd hall (by omega), fun _ hend => pullNext_ends_pull hend⟩
  next hmore => exact ⟨rfl, fun _ => rfl, fun h => absurd h hmore⟩

/-- The piece asked for is aligned and lies within the range. -/
theorem pieceOf_fits {blk stop : Nat} (h : blk < stop) : blk + pieceOf blk stop ≤ stop ∧ blk % pieceOf blk stop = 0 := by
  unfold pieceOf
  (repeat' split) <;> omega

/-- The next PULL_REQ of a pull that has blocks to ask for. -/
theorem pullNext_asks {s : State} {j : PullJob} (hmore : j.next < j.stop) (honline : blkOnline s j.next = true) :
    (∃ m, (pullNext s j).mirror.q[0] = s.mirror.q[0] ++ [m] ∧ hType m.hdr = 8 ∧ hSeq m.hdr = s.mirror.pullTag % 2 ^ 32) ∧
      (∃ q, (pullNext s j).mirror.pull = some { j with next := j.next + q.left, reqs := [q] } ∧ q.blk = j.next ∧
        q.tag = s.mirror.pullTag ∧ j.next + q.left ≤ j.stop ∧ q.blk % q.left = 0) := by
  unfold pullNext
  extract_lets n tag m req u v
  obtain ⟨hfits, haligned⟩ := pieceOf_fits hmore
  obtain ⟨htype, -, -, hseq⟩ := mkHdr_fields s (type := 8) (len := lenCode n) j.win tag (partnerBlk s j.win j.next) 0 (by decide)
    (lenCode_lt n) (code := 0) (by decide)
  rw [if_neg (by omega), if_neg (by rw [honline]; decide)]
  exact ⟨⟨m, pushQ_same s.tick 0 m, htype, hseq⟩, req, rfl, rfl, rfl, hfits, haligned⟩

/-! ### A resynchronisation with nothing to copy -/

/-- A copy with no window left is done. -/
theorem fillCopy_done {s : State} {j : ResyncJob} (fuel : Nat) (hj : s.mirror.resync = some j) (hw : j.wins = []) :
    fillCopy fuel s = s := by
  cases fuel with
  | zero => rfl
  | succ f =>
    unfold fillCopy
    split
    · rfl
    next k hk =>
      obtain rfl : j = k := Option.some.inj (hj.symm.trans hk)
      rw [hw]

section
variable {s : State} {j : ResyncJob} {w : Nat} {ws : List Nat} (fuel : Nat) (hj : s.mirror.resync = some j) (hw : j.wins = w :: ws)
  (hst : s.mirror.wins[winFin w].st = .resync)
include hj hw hst

/-- The window at hand has been copied: the next one is begun. -/
theorem fillCopy_passed (hend : j.stop ≤ j.unit) : fillCopy (fuel + 1) s =
    fillCopy fuel (setJob s (some { j with wins := ws, copied := j.copied ++ [w], unit := (winUnits s (ws.headD 0)).1,
                                           stop := (winUnits s (ws.headD 0)).2 })) := by
  conv => lhs; unfold fillCopy
  split
  next hnone => rw [hj] at hnone; cases hnone
  next k hk =>
    obtain rfl : j = k := Option.some.inj (hj.symm.trans hk)
    rw [hw]
    dsimp only
    rw [hst, if_neg (by decide), if_pos hend]

/-- A granule that is not to be copied is passed over. -/
theorem fillCopy_skips (hmore : j.unit < j.stop) (hclean : copied s j (j.unit / granUnits) = false) : fillCopy (fuel + 1) s =
    fillCopy fuel (setJob s (some { j with unit := (j.unit / granUnits + 1) * granUnits })) := by
  conv => lhs; unfold fillCopy
  split
  next hnone => rw [hj] at hnone; cases hnone
  next k hk =>
    obtain rfl : j = k := Option.some.inj (hj.symm.trans hk)
    rw [hw]
    dsimp only
    rw [hst, if_neg (by decide), if_neg (by omega), hclean]
    rfl

end

/-- A copy with no granule to send passes over its window. -/
theorem fillCopy_clean {s : State} {j : ResyncJob} {w g : Nat} (k fuel : Nat) (hj : s.mirror.resync = some j) (hw : j.wins = [w])
    (hst : s.mirror.wins[winFin w].st = .resync) (hall : j.all = false) (hunit : j.unit = g * granUnits)
    (hstop : j.stop = (g + k) * granUnits) (hclean : ∀ i, g ≤ i → i < g + k → s.epochs.cum.testBit i = false)
    (hf : k < fuel) :
    ∃ u p, fillCopy fuel s = setJob s (some { j with wins := [], copied := j.copied ++ [w], unit := u, stop := p }) := by
  induction k generalizing s j g fuel with
  | zero =>
    obtain ⟨f, rfl⟩ : ∃ f, fuel = f + 1 := ⟨fuel - 1, by omega⟩
    rw [fillCopy_passed f hj hw hst (Nat.le_of_eq (by rw [hstop, hunit, Nat.add_zero]))]
    exact ⟨_, _, fillCopy_done f rfl rfl⟩
  | succ k ih =>
    obtain ⟨f, rfl⟩ : ∃ f, fuel = f + 1 := ⟨fuel - 1, by omega⟩
    have hgran : j.unit / granUnits = g := by
      rw [hunit]
      exact Nat.mul_div_cancel g (by decide)
    have hmore : j.unit < j.stop := by
      rw [hstop, hunit]
      unfold granUnits
      omega
    have hcopied : copied s j (j.unit / granUnits) = false := by
      rw [hgran, copied, hall, hclean g (Nat.le_refl g) (by omega)]
      rfl
    rw [fillCopy_skips f hj hw hst hmore hcopied, hgran]
    obtain ⟨u, p, hfill⟩ := ih (s := setJob s (some { j with unit := (g + 1) * granUnits })) (g := g + 1) f rfl hw hst hall rfl
      (hstop.trans (by rw [Nat.add_right_comm, Nat.add_assoc])) (fun i hi hlt => hclean i (by omega) (by omega)) (by omega)
    exact ⟨u, p, hfill⟩

/-- A window whose copy is acknowledged is IN_SYNC; of the rest of mirroring nothing changes, nor of the engine. -/
theorem copyAcked_window {s : State} {w : Nat} (hst : s.mirror.wins[winFin w].st = .resync) :
    (copyAcked s w).mirror.wins[winFin w].st = .inSync ∧ (copyAcked s w).wetex = s.wetex := by
  unfold copyAcked
  rw [if_pos (beq_iff_eq.mpr hst)]
  have hev : EvKeeps (modWin s w fun x => { x with st := .inSync })
      (raiseJ (modWin s w fun x => { x with st := .inSync }) 1120 0x0801 sevNotice w 1) := raiseX_ev ..
  have hwin : (modWin s w fun x => { x with st := .inSync }).mirror.wins[winFin w] =
      { s.mirror.wins[winFin w] with st := .inSync } := Vector.getElem_set_self ..
  refine ⟨?_, hev.wetex⟩
  exact (congrArg (fun m : MirrorSt => m.wins[winFin w].st) hev.mirror).trans (congrArg WinSt.st hwin)

/-- The job goes on where its copy ended with nothing outstanding: the window is IN_SYNC and the descriptor ends. -/
theorem resyncStep_clean {s : State} {j : ResyncJob} {w : Nat} (hcool : s.therm.shut = false)
    (hfill : fillCopy fillFuel s = setJob s (some j)) (hwins : j.wins = []) (hcopied : j.copied = [w])
    (houts : s.mirror.outs = []) (hfailed : j.failed = false) (hgran : j.granules = 0) (hsent : j.notSent = 0)
    (hst : s.mirror.wins[winFin w].st = .resync) :
    (resyncStep s).mirror.wins[winFin w].st = .inSync ∧ (resyncStep s).mirror.resync = none ∧
      ∀ d, wxGet s (jobRing j.ring) j.idx = some d →
        endedAs (resyncStep s) (jobRing j.ring) j.idx fun st res det => st = 0 ∧ res = 0 ∧ det = 0 := by
  unfold resyncStep
  extract_lets t
  have ht : t = setJob s (some j) := (if_neg (by rw [hcool]; decide)).trans hfill
  clear_value t
  subst ht
  split
  next hnone => cases hnone
  next k hk =>
    obtain rfl : j = k := Option.some.inj hk
    extract_lets done u v
    have hfree (x : Nat) : ((setJob s (some j)).mirror.outs.any fun o => decide (o.win = x) && o.resync) = false := by
      rw [show (setJob s (some j)).mirror.outs = [] from houts]
      rfl
    have hdone : done = [w] := by
      show (j.copied.filter fun x => !((setJob s (some j)).mirror.outs.any fun o => decide (o.win = x) && o.resync)) = [w]
      simp [hcopied, hfree]
    have hleft : (j.copied.filter fun x => (setJob s (some j)).mirror.outs.any fun o => decide (o.win = x) && o.resync) = [] := by
      simp [hcopied, hfree]
    obtain ⟨hsync, hwetex⟩ := copyAcked_window (s := u) (w := w) hst
    have hv : v = copyAcked u w := by
      unfold v
      rw [hdone]
      rfl
    rw [if_pos ⟨by rw [hwins]; rfl, by rw [hleft]; rfl⟩, hv, hfailed, hgran, hsent]
    refine ⟨hsync, rfl, fun d hd => endedAs_wxEnd ((wxGet_of ?_ ..).trans hd) ⟨rfl, rfl, rfl⟩⟩
    exact hwetex

/-- The one window of a mask. -/
theorem filter_testBit_two_pow (w : Fin 64) : ((List.range 64).filter fun i => (2 ^ w.val).testBit i) = [w.val] := by
  have hall : ∀ w : Fin 64, ((List.range 64).filter fun i => (2 ^ w.val).testBit i) = [w.val] := by decide +kernel
  exact hall w

theorem exec_mirrorResync {s : State} (hjob : s.mirror.resync = none) (r : Fin 64) (idx : Nat) :
    exec (.mirrorResync r idx) s = wxRun 0x0B r idx s fun d => startResync s r d := by
  show execMirrorResync r idx s = _
  unfold execMirrorResync
  rw [hjob]

/-- The job of a resynchronisation of one window. -/
def soleJob (s : State) (r : Fin 64) (d : WxDesc) (w : Fin 64) : ResyncJob :=
  { ring := r.val, idx := d.idx, all := (d.opd 1).testBit 0, wins := [w.val]
    unit := winBase s w.val * granUnits, stop := (winBase s w.val + winLen s w.val) * granUnits }

/-- A resynchronisation of one window that has started. -/
def soleStarted (s : State) (r : Fin 64) (d : WxDesc) (w : Fin 64) : State :=
  wxMod (setJob (modWin s w.val fun x => { x with st := .resync }) (some (soleJob s r d w))) r d.idx fun d => { d with running := true }

theorem startResync_sole {s : State} {r : Fin 64} {d : WxDesc} {w : Fin 64} (hmask : d.opd 0 = 2 ^ w.val)
    (hcode : resyncRefused s (d.opd 0) = 0) : startResync s r d = resyncStep (soleStarted s r d w) := by
  unfold startResync
  extract_lets mask ws t u v
  have hws : ws = [w.val] := by
    unfold ws mask
    rw [hmask, filter_testBit_two_pow]
  have ht : t = modWin s w.val fun x => { x with st := .resync } := by
    unfold t
    rw [hws]
    rfl
  have hv : v = setJob t (some (soleJob s r d w)) := by
    unfold v u
    rw [hws, ht]
    rfl
  rw [show resyncRefused s mask = 0 from hcode, hv, ht]
  rfl

/-- Settles O42. -/
theorem pullAndResync : Obligations.PullAndResync := by
  unfold Obligations.PullAndResync
  refine ⟨?asked, ?missing, ?pullRefused, ?pull, ?refused, ?clean⟩
  case asked =>
    intro h s hlive htype hlen
    refine Answers.does (by rw [hlive, htype, decide_eq_true hlen]; rfl) rfl ?_
    obtain ⟨x, hx⟩ := takeNow_chrosy s 0 h []
    dsimp only
    rw [hx]
    generalize hu : ({ s with chrosy := x } : State) = u
    have hsame : nackCode u h = nackCode s h := by rw [← hu, nackCode_of_chrosy]
    rw [hsame]
    split
    next hcode =>
      rw [hcode]
      exact answerPull_answers _ h
    next hcode =>
      have hlt := nackCode_lt s h
      obtain ⟨k, hk⟩ := Nat.exists_eq_succ_of_ne_zero hcode
      rw [hk] at hlt ⊢
      obtain ⟨hmirror, -⟩ := sendNack_keeps u h (k + 1)
      obtain ⟨htype, -, hseq, hco⟩ := nackMsg_fields u h hlt
      have hq : (sendNack u h (k + 1)).mirror.q[0] = u.mirror.q[0] ++ [nackMsg u h (k + 1)] :=
        (congrArg (fun m : MirrorSt => m.q[0]) hmirror).trans (pushQ_same ..)
      exact ⟨_, hq ▸ List.mem_append_right _ List.mem_cons_self, htype, hseq, hco⟩
  case missing =>
    intro h j q s hlive htype hlen hcode hpull hreqs htag
    refine Answers.does (by rw [hlive, htype, decide_eq_true hlen, decide_eq_true hcode]; simp) rfl ?_
    obtain ⟨x, hx⟩ := takeNow_chrosy s 1 h []
    have hfind : (j.reqs.find? fun q => decide (q.tag = hSeq h)) = some q := by simp [hreqs, htag]
    have hdata : pullData { s with chrosy := x } j q h [] =
        pullAnswered { s with chrosy := x } j q (lenBlocks (hLen h)) 0 (lenBlocks (hLen h)) := if_neg hcode
    dsimp only
    rw [hx]
    dsimp only
    rw [hpull]
    dsimp only
    rw [hfind]
    dsimp only
    rw [hdata]
    exact pullAnswered_missing ..
  case pullRefused =>
    intro r idx d s hmay hpull hdown
    obtain rfl := wxGet_idx hmay.1
    refine Answers.runs (t := startPull s r d) hmay rfl (if_neg (by rw [hpull]; decide)) ?_
    unfold startPull
    extract_lets w
    by_cases hup : linkUpNow s = true
    · rw [if_neg (by rw [hup]; decide), if_pos (by rw [hdown.resolve_left (by rw [hup]; decide)]; rfl), if_pos hup]
      exact ⟨rfl, endedAs_wxEnd hmay.1 ⟨rfl, rfl, rfl⟩⟩
    · rw [if_pos (by simpa using hup), if_neg hup]
      exact ⟨rfl, endedAs_wxEnd hmay.1 ⟨rfl, rfl, rfl⟩⟩
  case pull =>
    intro r idx d s hmay hpull hup hwin hlen honline
    obtain rfl := wxGet_idx hmay.1
    refine Answers.runs (t := startPull s r d) hmay rfl (if_neg (by rw [hpull]; decide)) ?_
    unfold startPull
    extract_lets w t
    rw [if_neg (by rw [hup]; decide), if_neg fun h => hwin (beq_iff_eq.mp h)]
    obtain ⟨hmsg, q, hjob, hblk, htag, hfits, haligned⟩ := pullNext_asks (s := t)
      (j := { ring := r.val, idx := d.idx, win := w, next := d.adrA / 64, stop := d.adrA / 64 + d.len })
      (Nat.lt_add_of_pos_right hlen) honline
    exact ⟨hmsg, _, q, hjob, rfl, rfl, hblk, htag, rfl, Nat.le_of_add_le_add_left hfits, haligned⟩
  case refused =>
    intro r idx d s hmay hjob hcode
    obtain rfl := wxGet_idx hmay.1
    obtain ⟨k, hk⟩ := Nat.exists_eq_succ_of_ne_zero hcode
    have hrefused : startResync s r d = wxEnd s r d.idx wxRefused 0 (k + 1) := by
      unfold startResync
      extract_lets mask
      rw [show resyncRefused s mask = k + 1 from hk]
    refine Answers.runs hmay (exec_mirrorResync hjob r d.idx) hrefused ?_
    exact ⟨rfl, endedAs_wxEnd hmay.1 ⟨rfl, rfl, hk.symm⟩⟩
  case clean =>
    intro r idx w d s hmay hjob hmask hall hcode houts hclean hlen hcool
    obtain rfl := wxGet_idx hmay.1
    refine Answers.runs hmay (exec_mirrorResync hjob r d.idx) (startResync_sole hmask hcode) ?_
    have hget : wxGet (soleStarted s r d w) r d.idx = some { d with running := true } :=
      (wxGet_wxMod _ r d.idx (fun _ => by rfl)).trans (congrArg (Option.map _) hmay.1)
    have hw : winFin w.val = w := Fin.ext (Nat.mod_eq_of_lt w.isLt)
    have hr : jobRing r.val = r := Fin.ext (Nat.mod_eq_of_lt r.isLt)
    have hst : (soleStarted s r d w).mirror.wins[winFin w.val].st = .resync :=
      congrArg WinSt.st (Vector.getElem_set_self ..)
    have hfuel : winLen s w.val < fillFuel := by
      unfold fillFuel
      omega
    obtain ⟨u, p, hfill⟩ := fillCopy_clean (s := soleStarted s r d w) (j := soleJob s r d w) (winLen s w.val) fillFuel rfl rfl hst
      hall rfl rfl hclean hfuel
    obtain ⟨hsync, hdone, hend⟩ := resyncStep_clean (s := soleStarted s r d w) hcool hfill rfl rfl houts rfl rfl rfl hst
    simp only [hw] at hsync
    refine ⟨hsync, hdone, ?_⟩
    have hend := hend _ (by rw [show jobRing (soleJob s r d w).ring = r from hr]; exact hget)
    rw [show jobRing (soleJob s r d w).ring = r from hr] at hend
    exact hend

end Sys2Proof.Machine
end

section
/-! Apply, sending, the backlog and window settings (O43, R383, R384, R389, R390, R393, R397). -/

namespace Sys2Proof.Machine

/-! ### Without a resynchronisation there is nothing to go on with -/

theorem fillCopy_none {s : State} (fuel : Nat) (h : s.mirror.resync = none) : fillCopy fuel s = s := by
  cases fuel with
  | zero => rfl
  | succ f =>
    unfold fillCopy
    rw [h]

theorem resyncStep_none {s : State} (h : s.mirror.resync = none) : resyncStep s = s := by
  unfold resyncStep
  extract_lets t
  have ht : t = s := by
    unfold t
    rw [fillCopy_none _ h, ite_self]
  clear_value t
  subst ht
  rw [h]

/-! ### Apply (R389, R390) -/

/-- The head of a channel leaves it; besides that only the link changes. -/
theorem popApply_eq {s : State} {vc : Fin 2} {m : Msg} {l : List Msg} (h : s.mirror.apply[vc] = m :: l) :
    ∃ x, popApply s vc = { s with chrosy := x, mirror := { s.mirror with apply := s.mirror.apply.set vc l } } := by
  unfold popApply
  rw [h]
  exact ⟨_, rfl⟩

/-- A message's write stands in its pseudo-channel's queue, and its acknowledgement is due. -/
theorem applyMsg_parts (s : State) (h : BitVec 256) (bs : List Block) :
    (applyMsg s h bs).mirror.apply = s.mirror.apply ∧ (hWin h, hSeq h) ∈ (applyMsg s h bs).mirror.acks ∧
      ∃ e ∈ (applyMsg s h bs).pcs[pcFin (coordOf s.dram.mapActive (hBlk h)).pc].queue,
        e.id = s.nextId ∧ e.src = .apply ∧ e.kind = .wr ∧ e.blk = hBlk h ∧ e.data = bs := by
  unfold applyMsg
  extract_lets blk n t id tag e u v w x y
  have hid : id = s.nextId := turn_nextId ..
  have htm : t.mirror = s.mirror := (turn_mv ..).mirror.resolve_left (by decide)
  have hum : u.mirror = t.mirror :=
    foldl_keeps (·.mirror) _ (fun s i => (freshClaim_mv s (blk + i)).mirror.resolve_left (by decide)) _ t
  have hvm : v.mirror = u.mirror :=
    ((enqueue_mv u.tick n e).mirror.resolve_left (by decide)).trans ((State.tick_mv u).mirror.resolve_left (by decide))
  have hwm : w.mirror = v.mirror :=
    foldl_keeps (·.mirror) _ (fun s i => (noteWrite_mv s (blk + i) id).mirror.resolve_left (by decide)) _ v
  have hxm : x.mirror = w.mirror := (tagWrite_mv ..).mirror.resolve_left (by decide)
  have hym : y.mirror = x.mirror := by
    unfold y
    split
    · rfl
    · exact (bump_mv ..).mirror.resolve_left (by decide)
  have hwp : w.pcs = v.pcs :=
    foldl_keeps (·.pcs) _ (fun s i => (noteWrite_mv s (blk + i) id).pcs.resolve_left (by decide)) _ v
  have hyp : y.pcs = w.pcs := by
    unfold y
    split
    · exact (tagWrite_mv ..).pcs.resolve_left (by decide)
    · exact ((bump_mv ..).pcs.resolve_left (by decide)).trans ((tagWrite_mv ..).pcs.resolve_left (by decide))
  have hqueue : y.pcs[n].queue = u.tick.pcs[n].queue ++ [e] := by
    rw [pc_of_pcs (hyp.trans hwp) n]
    exact enqueue_queue u.tick n e
  refine ⟨?_, List.mem_append_right _ (List.mem_singleton_self _), e, ?_, hid, rfl, rfl, rfl, rfl⟩
  · show y.mirror.apply = s.mirror.apply
    rw [hym, hxm, hwm, hvm, hum, htm]
  · show e ∈ y.pcs[n].queue
    rw [hqueue]
    exact List.mem_append_right _ (List.mem_singleton_self e)

/-! ### Messages sent (R390, R393, R397) -/

theorem txFrames_payload (vc : Fin 2) (m : Msg) : (txFrames vc m).map (·.payload) = msgFrames m.hdr m.blocks := by
  unfold txFrames
  rw [List.map_map]
  exact List.zipIdx_map_fst ..

/-- A message put on a channel with nothing to send is what the channel sends. -/
theorem pushTx_payload {s : State} {vc : Fin 2} (h : s.chrosy.txq[vc] = []) (m : Msg) :
    (pushTx s vc m).chrosy.txq[vc].map (·.payload) = msgFrames m.hdr m.blocks := by
  have hq : (pushTx s vc m).chrosy.txq[vc] = s.chrosy.txq[vc] ++ txFrames vc m := Vector.getElem_set_self ..
  rw [hq, h, List.nil_append, txFrames_payload]

/-- A message leaves its queue. -/
def leaveQ (s : State) (vc : Fin 2) (m : Msg) : State :=
  { s with mirror := { s.mirror with q := s.mirror.q.set vc (s.mirror.q[vc].erase m) } }

/-- A write message that is sent is counted. -/
def countSent (s : State) (m : Msg) : State := if hType m.hdr = 1 ∨ hType m.hdr = 2 then bump 0x0B0120 1 s else s

theorem countSent_keeps (s : State) (m : Msg) : (countSent s m).mirror = s.mirror ∧ (countSent s m).chrosy = s.chrosy := by
  unfold countSent
  split <;> exact ⟨rfl, rfl⟩

/-- The one message of a queue, its turn come, is sent. -/
theorem sendQueued_sole {s : State} {vc : Fin 2} {m : Msg} (hfree : s.chrosy.txq[vc] = []) (hq : s.mirror.q[vc] = [m])
    (hturn : msgTurn s vc m = true) (hjob : s.mirror.resync = none) :
    (sendQueued s vc).mirror.q[vc] = [] ∧ (sendQueued s vc).mirror.outs = s.mirror.outs ∧
      (sendQueued s vc).chrosy.txq[vc].map (·.payload) = msgFrames m.hdr m.blocks := by
  have hfind : s.mirror.q[vc].find? (msgTurn s vc) = some m := by rw [hq, List.find?_singleton, hturn, if_pos rfl]
  have hdo : sendQueued s vc = resyncStep (pushTx (countSent (leaveQ s vc m) m) vc m) := by
    unfold sendQueued
    rw [hfind]
    rfl
  have hempty : (leaveQ s vc m).mirror.q[vc] = [] := by
    refine (Vector.getElem_set_self ..).trans ?_
    rw [hq]
    simp
  obtain ⟨hmirror, hchrosy⟩ := countSent_keeps (leaveQ s vc m) m
  generalize countSent (leaveQ s vc m) m = u at *
  have hsent : resyncStep (pushTx u vc m) = pushTx u vc m := resyncStep_none (by
    show u.mirror.resync = none
    rw [hmirror]
    exact hjob)
  rw [hdo, hsent]
  refine ⟨?_, (congrArg MirrorSt.outs hmirror :), pushTx_payload ((congrArg (fun c : ChrosySt => c.txq[vc]) hchrosy).trans hfree) m⟩
  exact (congrArg (fun m : MirrorSt => m.q[vc]) hmirror).trans hempty

/-- The oldest backlog message goes to the queue of channel 1. -/
theorem backlogMoved {s : State} {m : Msg} {l : List Msg} (blks : List Nat) (hjob : s.mirror.resync = none) :
    let t := ownReads s blks
    let u := resyncStep (pushQ { t with mirror := { t.mirror with backlog := l } } 1 { m with cellsAt := [] })
    u.mirror.backlog = l ∧ u.mirror.q[1] = s.mirror.q[1] ++ [{ m with cellsAt := [] }] ∧ u.mirror.q[0] = s.mirror.q[0] := by
  intro t u
  have ht : t.mirror = s.mirror := (ownReads_mv s blks).mirror.resolve_left (by decide)
  have hu : u = pushQ { t with mirror := { t.mirror with backlog := l } } 1 { m with cellsAt := [] } := resyncStep_none (by
    show t.mirror.resync = none
    rw [ht, hjob])
  rw [hu, ← ht]
  refine ⟨rfl, pushQ_same .., ?_⟩
  simp [pushQ]

/-! ### Window settings (R383, R384) -/

/-- The control registers of the windows are plain. -/
theorem winCtl_plain (w : Fin 64) : plainReg (winReg w.val 12) = true ∧ (regRow (winReg w.val 12)).isSome = true ∧
    regReset (winReg w.val 12) < 2 ^ 32 := by
  revert w
  decide

theorem winCtl_places (w : Fin 64) : winReg w.val 12 % 4 = 0 ∧ winReg w.val 12 / 65536 = 0x0B ∧ 0x0B1000 ≤ winReg w.val 12 := by
  have := w.isLt
  unfold winReg
  omega

theorem applyWord_winCtl {s : State} (path : Path) {w : Fin 64} (v : Nat) (sc : Bool) (hex : winExists s w.val = true) :
    applyWord s path (winReg w.val 12) v sc =
      let q := writeWinCtl s w.val v
      if q.2 then journalReg { q.1 with fw := { q.1.fw with unsaved := setInsert q.1.fw.unsaved (winReg w.val 12) } } path.val
        (winReg w.val 12) v 2 else q.1 := by
  obtain ⟨row, hrow⟩ := Option.isSome_iff_exists.mp (winCtl_plain w).2.1
  obtain ⟨-, hblock, hfrom⟩ := winCtl_places w
  have hw : (winReg w.val 12 - 0x0B1000) / 0x20 = w.val := by unfold winReg; omega
  have hctl : winReg w.val 12 % 0x20 = 0x0C := by unfold winReg; omega
  have hne (a : Nat) (ha : a < 0x0B1000) : winReg w.val 12 ≠ a := by omega
  simp only [applyWord, hrow, hblock, writeChrosy, if_neg (hne 0x0B0000 (by decide)), if_neg (hne 0x0B0040 (by decide)),
    if_neg (hne 0x0B0100 (by decide)), if_neg (hne 0x0B0104 (by decide)), if_pos hfrom, hw, hex, hctl, if_pos]
  rfl

/-- What a state's registers tell of a window's mode. -/
theorem winMode_of_csr {s t : State} {w m : Nat} (hon : chrosyOn s = true) (h8 : csrGet t 8 = csrGet s 8)
    (hctl : csrGet t (winReg w 12) = m) : winMode t w = m % 4 := by
  have hon' : chrosyOn t = true := by
    unfold chrosyOn csrFld at hon ⊢
    rwa [h8]
  unfold winMode csrFld
  rw [hon', if_pos rfl, hctl]
  rfl

/-- A change of mode that takes effect at once. -/
theorem writeWinCtl_now {s : State} {w v : Nat} (hchange : winChange s w (v % 4) = true) (hup : keeperUp s = true)
    (hfree : s.mirror.waitSet = []) : writeWinCtl s w v =
      (if v % 4 = 0 then winStop (csrSet s (winReg w 12) (v % 4)) w
       else winStart (csrSet s (winReg w 12) (v % 4)) w (v.testBit 2), true) := by
  have hact : winAct s w v = if v % 4 = 0 then winStop (csrSet s (winReg w 12) (v % 4)) w
      else winStart (csrSet s (winReg w 12) (v % 4)) w (v.testBit 2) := if_pos hchange
  unfold writeWinCtl
  rw [hchange, if_neg (by decide), if_pos (by rw [hup, hfree]; rfl), hact]

/-- What a window that leaves OFF, or goes back, shares with the state before: the registers but counters of ports and losses. -/
structure SameSettings (s t : State) : Prop where
  csr : ∀ a, a = 8 ∨ 0x0B1000 ≤ a → csrGet t a = csrGet s a

theorem SameSettings.trans {s t u : State} (h : SameSettings s t) (k : SameSettings t u) : SameSettings s u :=
  ⟨fun a ha => (k.csr a ha).trans (h.csr a ha)⟩

theorem SameSettings.of_ev {s t : State} (h : EvKeeps s t) : SameSettings s t :=
  ⟨fun a ha => h.csr a (not_lossCounter_of_lt (by omega))⟩

theorem SameSettings.of_regs {s t : State} (h : t.regs = s.regs) : SameSettings s t := ⟨fun _ _ => csrGet_of_regs h⟩

theorem modWin_same (s : State) (w : Fin 64) (f : WinSt → WinSt) : (modWin s w.val f).mirror.wins[w] = f s.mirror.wins[w] := by
  have hw : winFin w.val = w := Fin.ext (Nat.mod_eq_of_lt w.isLt)
  unfold modWin
  simp only [hw]
  exact Vector.getElem_set_self ..

/-- A window that leaves OFF. -/
theorem winStart_parts (s : State) (w : Fin 64) (assume : Bool) :
    (winStart s w.val assume).mirror.wins[w].st = (if assume then .inSync else .diverged) ∧
      (winStart s w.val assume).mirror.wins[w].reason = 0 ∧ (winStart s w.val assume).mirror.q = s.mirror.q ∧
      SameSettings s (winStart s w.val assume) := by
  have hraise (f : WinSt → WinSt) (src code sev a0 a1 : Nat) :
      EvKeeps (modWin s w.val f) (raiseJ (modWin s w.val f) src code sev a0 a1) := raiseX_ev ..
  have hparts (f : WinSt → WinSt) (src code sev a0 a1 : Nat) :
      (raiseJ (modWin s w.val f) src code sev a0 a1).mirror.wins[w] = f s.mirror.wins[w] ∧
      (raiseJ (modWin s w.val f) src code sev a0 a1).mirror.q = s.mirror.q ∧
      SameSettings s (raiseJ (modWin s w.val f) src code sev a0 a1) := by
    have hev := hraise f src code sev a0 a1
    refine ⟨?_, ?_, SameSettings.trans (t := modWin s w.val f) (.of_regs rfl) (.of_ev hev)⟩
    · rw [hev.mirror]
      exact modWin_same s w f
    · rw [hev.mirror]
      rfl
  cases assume
  · obtain ⟨hwin, hq, hsame⟩ := hparts (fun x => { x with st := .diverged, reason := 0 }) 1120 0x0800 sevError w.val
      s.mirror.wins[winFin w.val].acked
    exact ⟨congrArg WinSt.st hwin, congrArg WinSt.reason hwin, hq, hsame⟩
  · obtain ⟨hwin, hq, hsame⟩ := hparts (fun x => { x with st := .inSync, reason := 0 }) 1120 0x0801 sevNotice w.val 0
    exact ⟨congrArg WinSt.st hwin, congrArg WinSt.reason hwin, hq, hsame⟩

/-- A counter of a port or of mirroring moves no setting. -/
theorem bump_settings (s : State) {a : Nat} (k : Nat) (ha : a ≠ 8 ∧ a < 0x0B1000) : SameSettings s (bump a k s) :=
  ⟨fun b hb => (csrGet_of_regs (s := csrSet s a (satAdd 0xFFFFFFFF (csrGet s a) k)) rfl).trans
    (csrGet_csrSet_other _ _ (by omega))⟩

theorem respond_settings (s : State) (p : Port) (r : Resp) : SameSettings s (respond s p r) := by
  have hp := p.isLt
  unfold respond
  extract_lets t
  have ht : SameSettings s t := .of_regs rfl
  split
  · exact ht.trans (bump_settings t 1 (by unfold portReg; omega))
  · exact ht

theorem releaseSync_settings (s : State) (x : SyncWait) (status : Nat) : SameSettings s (releaseSync s x status) := by
  unfold releaseSync
  extract_lets t
  have ht : SameSettings s t := by
    unfold t
    split
    · exact bump_settings s 1 (by decide)
    · exact .of_regs rfl
  split
  · exact ht.trans (.of_regs rfl)
  · exact ht.trans (respond_settings ..)

theorem releaseWaits_settings (s : State) (p : SyncWait → Bool) (status : Nat) : SameSettings s (releaseWaits s p status) := by
  unfold releaseWaits
  extract_lets l _ t
  have ht : SameSettings s t := .of_regs rfl
  exact List.foldlRecOn (motive := fun u => SameSettings s u) _ _ ht fun u hu x _ => hu.trans (releaseSync_settings ..)

/-- Of mirroring, waits that are released leave all but themselves. -/
theorem releaseWaits_mirror (s : State) (p : SyncWait → Bool) (status : Nat) :
    (releaseWaits s p status).mirror = { s.mirror with waits := s.mirror.waits.filter fun w => !p w } :=
  foldl_keeps (·.mirror) _ (fun s x => (releaseSync_mv s x status).mirror.resolve_left (by decide)) _ _

/-- A window that stops. -/
theorem winStop_parts {s : State} (w : Fin 64) (hjob : s.mirror.resync = none) :
    (winStop s w.val).mirror.wins[w].st = .off ∧ (∀ o ∈ (winStop s w.val).mirror.outs, o.win ≠ w.val) ∧
      (∀ x ∈ (winStop s w.val).mirror.waits, x.win ≠ w.val) ∧ SameSettings s (winStop s w.val) := by
  unfold winStop
  extract_lets keep m job t u
  have hmirror := releaseWaits_mirror (wxSyncLost u w.val) (fun x => decide (x.win = w.val)) stMirrorFail
  have hsettings : SameSettings s (releaseWaits (wxSyncLost u w.val) (fun x => decide (x.win = w.val)) stMirrorFail) :=
    SameSettings.trans (t := wxSyncLost u w.val) (.of_regs rfl) (releaseWaits_settings ..)
  have hwin : u.mirror.wins[w].st = .off := congrArg WinSt.st (modWin_same t w _)
  have hnone : (wxSyncLost u w.val).mirror.resync = none := by
    show s.mirror.resync.map _ = none
    rw [hjob]
    rfl
  rw [resyncStep_none (by rw [hmirror]; exact hnone), hmirror]
  refine ⟨hwin, fun o ho => of_decide_eq_true (List.mem_filter.mp ho).2, fun x hx => ?_, hsettings⟩
  have := (List.mem_filter.mp hx).2
  simpa using this

/-- A setting that has taken effect is noted and journalled. -/
theorem noted_keeps (s : State) (path a v : Nat) (l : List Nat) :
    (journalReg { s with fw := { s.fw with unsaved := l } } path a v 2).mirror = s.mirror ∧
      SameSettings s (journalReg { s with fw := { s.fw with unsaved := l } } path a v 2) := by
  have hev := journalReg_ev { s with fw := { s.fw with unsaved := l } } path a v 2
  exact ⟨hev.mirror, SameSettings.trans (t := { s with fw := { s.fw with unsaved := l } }) (.of_regs rfl) (.of_ev hev)⟩

section
variable {s : State} {path : Path} {w : Fin 64} {v : Nat} (hon : chrosyOn s = true) (hex : winExists s w.val = true)
  (hup : keeperUp s = true) (hfree : s.mirror.waitSet = [])
include hon hex hup hfree

/-- A mode that takes effect is what the window then has. -/
theorem winCtl_effect (hchange : winChange s w.val (v % 4) = true) {u : State}
    (hu : u = if v % 4 = 0 then winStop (csrSet s (winReg w.val 12) (v % 4)) w.val
      else winStart (csrSet s (winReg w.val 12) (v % 4)) w.val (v.testBit 2))
    (hsame : SameSettings (csrSet s (winReg w.val 12) (v % 4)) u) :
    winMode (applyWord s path (winReg w.val 12) v true) w.val = v % 4 ∧
      (applyWord s path (winReg w.val 12) v true).mirror = u.mirror := by
  obtain ⟨-, -, hreset⟩ := winCtl_plain w
  obtain ⟨-, -, hfrom⟩ := winCtl_places w
  have hdo := applyWord_winCtl path v true hex
  rw [writeWinCtl_now hchange hup hfree, ← hu] at hdo
  obtain ⟨hmirror, hnoted⟩ := noted_keeps u path.val (winReg w.val 12) v (setInsert u.fw.unsaved (winReg w.val 12))
  have hall := hsame.trans hnoted
  rw [hdo]
  refine ⟨(winMode_of_csr (m := v % 4) hon ?_ ?_).trans (Nat.mod_mod ..), hmirror⟩
  · exact (hall.csr 8 (.inl rfl)).trans (csrGet_csrSet_other _ _ (by omega))
  · refine (hall.csr _ (.inr hfrom)).trans ((csrGet_csrSet_same _ _ _ hreset).trans ?_)
    omega

/-- A window that is set from OFF. -/
theorem winCtl_starts (hmode : winMode s w.val = 0) (hok : winOk s w.val = true) (hv : v % 4 = 1 ∨ v % 4 = 2) :
    winMode (applyWord s path (winReg w.val 12) v true) w.val = v % 4 ∧
      (applyWord s path (winReg w.val 12) v true).mirror.wins[w].st = (if v.testBit 2 then .inSync else .diverged) ∧
      (applyWord s path (winReg w.val 12) v true).mirror.wins[w].reason = 0 ∧
      (applyWord s path (winReg w.val 12) v true).mirror.q = s.mirror.q := by
  have hchange : winChange s w.val (v % 4) = true := by
    refine (if_pos hmode).trans ?_
    simpa using And.intro hv hok
  obtain ⟨hst, hreason, hq, hsame⟩ := winStart_parts (csrSet s (winReg w.val 12) (v % 4)) w (v.testBit 2)
  obtain ⟨hmode', hmirror⟩ := winCtl_effect (path := path) hon hex hup hfree hchange (if_neg (by omega)).symm hsame
  exact ⟨hmode', by rw [hmirror, hst], by rw [hmirror, hreason], by rw [hmirror, hq]; rfl⟩

/-- A window that is set OFF. -/
theorem winCtl_stops (hmode : winMode s w.val ≠ 0) (hv : v % 4 = 0) (hjob : s.mirror.resync = none) :
    winMode (applyWord s path (winReg w.val 12) v true) w.val = 0 ∧
      (applyWord s path (winReg w.val 12) v true).mirror.wins[w].st = .off ∧
      (∀ o ∈ (applyWord s path (winReg w.val 12) v true).mirror.outs, o.win ≠ w.val) ∧
      ∀ x ∈ (applyWord s path (winReg w.val 12) v true).mirror.waits, x.win ≠ w.val := by
  have hchange : winChange s w.val (v % 4) = true := (if_neg hmode).trans (decide_eq_true hv)
  obtain ⟨hst, houts, hwaits, hsame⟩ := winStop_parts (s := csrSet s (winReg w.val 12) (v % 4)) w hjob
  obtain ⟨hmode', hmirror⟩ := winCtl_effect (path := path) hon hex hup hfree hchange (if_pos hv).symm hsame
  rw [hmirror]
  exact ⟨hmode'.trans hv, hst, houts, hwaits⟩

end

/-- Settles O43. -/
theorem applySendAndWindows : Obligations.ApplySendAndWindows := by
  unfold Obligations.ApplySendAndWindows
  refine ⟨?apply, ?refused, ?acks, ?send, ?backlog, ?set, ?off⟩
  case apply =>
    intro vc m l s happly hheld hflood h3 h4 hcode hready
    obtain ⟨x, hx⟩ := popApply_eq happly
    obtain ⟨hrest, hack, hqueue⟩ := applyMsg_parts (popApply s vc) m.hdr m.blocks
    refine ⟨applyMsg (popApply s vc) m.hdr m.blocks, ?_, ?_, hack, ?_⟩
    · show execApplyWrite vc s = _
      unfold execApplyWrite
      rw [happly]
      dsimp only
      rw [if_neg (by rw [hheld, hflood]; decide), if_neg h3, if_neg h4, hcode]
      exact if_pos hready
    · rw [hrest, hx]
      exact Vector.getElem_set_self ..
    · rw [hx] at hqueue ⊢
      exact hqueue
  case refused =>
    intro vc m l s happly hheld hflood h3 h4 hcode
    obtain ⟨x, hx⟩ := popApply_eq happly
    obtain ⟨k, hk⟩ := Nat.exists_eq_succ_of_ne_zero hcode
    have hlt : k + 1 < 256 := Nat.lt_of_le_of_lt (Nat.le_of_eq hk.symm) (nackCode_lt s m.hdr)
    obtain ⟨hmirror, hdram⟩ := sendNack_keeps (popApply s vc) m.hdr (k + 1)
    obtain ⟨htype, -, hseq, hco⟩ := nackMsg_fields (popApply s vc) m.hdr hlt
    have hq : (sendNack (popApply s vc) m.hdr (k + 1)).mirror.q[0] =
        (popApply s vc).mirror.q[0] ++ [nackMsg (popApply s vc) m.hdr (k + 1)] :=
      (congrArg (fun m : MirrorSt => m.q[0]) hmirror).trans (pushQ_same ..)
    refine ⟨sendNack (popApply s vc) m.hdr (k + 1), ?_, ?_, ?_, _, hq.trans ?_, htype, hseq, hco.trans hk.symm⟩
    · show execApplyWrite vc s = _
      unfold execApplyWrite
      rw [happly]
      dsimp only
      rw [if_neg (by rw [hheld, hflood]; decide), if_neg h3, if_neg h4, hk]
    · rw [hmirror, hx]
      exact Vector.getElem_set_self ..
    · rw [hdram, hx]
    · rw [hx]
  case acks =>
    intro s hlive hfree hcredit hacks
    refine Answers.does (by rw [hlive, hfree, decide_eq_true hcredit]; rfl) rfl ?_
    have hsend : sendMsg s 0 = pushTx { s with mirror := { s.mirror with acks := s.mirror.acks.drop 5 } } 0
        { hdr := ackHdr 5 (s.mirror.acks.take 5) } := if_pos ⟨rfl, by simpa using hacks⟩
    rw [hsend]
    exact ⟨rfl, rfl, pushTx_payload hfree _⟩
  case send =>
    intro m s hlive hfree hcredit hq hturn hjob
    exact Answers.does (by rw [hlive, hfree, decide_eq_true hcredit]; rfl) rfl (sendQueued_sole hfree hq hturn hjob)
  case backlog =>
    intro m l s hlog hroom hcredit hjob
    refine ⟨_, ?_, backlogMoved (m := m) (l := l) ((m.cellsAt.map backlogBlk).filter (blkOnline s)) hjob⟩
    show execBacklogRead s = _
    unfold execBacklogRead
    rw [hlog]
    exact if_pos (Bool.and_eq_true_iff.mpr ⟨decide_eq_true hroom, decide_eq_true hcredit⟩)
  case set =>
    intro path w v c s hq hon hex hup hfree hmode hok hc
    have hm : v.toNat % 4 = 1 ∨ v.toNat % 4 = 2 := hc.imp (·.2) (·.2)
    have hparts := winCtl_starts (s := clearLatch s path) (path := path) hon hex hup hfree hmode hok hm
    obtain ⟨h4, -, -⟩ := winCtl_places w
    rcases hc with ⟨rfl, hop⟩ | ⟨rfl, hop⟩
    · exact Answers.word hq (decide_eq_true hop) rfl (winCtl_plain w).1 h4 (fun _ => hon) hparts
    · exact Answers.word hq (decide_eq_true hop) rfl (winCtl_plain w).1 h4 (fun _ => hon) hparts
  case off =>
    intro path w v s hq hon hex hup hfree hmode hop hjob
    exact Answers.word hq (decide_eq_true hop) rfl (winCtl_plain w).1 (winCtl_places w).1 (fun _ => hon)
      (winCtl_stops (s := clearLatch s path) (path := path) hon hex hup hfree hmode hop hjob)

end Sys2Proof.Machine
end

section
/-! The Chrosy link: degradation and loss (O45, R373, R374, R376, R377). -/

namespace Sys2Proof.Machine

theorem linkOn_of_up {s : State} (h : linkUpNow s = true) : linkOn s = true := by
  unfold linkOn
  rcases Bool.or_eq_true_iff.mp h with h | h <;> rw [beq_iff_eq.mp h] <;> rfl

theorem linkUpNow_of_chrosy {s t : State} (h : t.chrosy = s.chrosy) : linkUpNow t = linkUpNow s :=
  congrArg (fun c : ChrosySt => c.st == .up || c.st == .degrade) h

/-! ### Loss (R377) -/

/-- What a loss of the link leaves of it. -/
structure LinkLost (s : State) (reason : Nat) (t : State) : Prop where
  st : t.chrosy.st = .seek
  downReason : t.chrosy.downReason = reason
  replay : t.chrosy.replay = []
  credits : t.chrosy.credits = #v[0, 0]
  now : s.now ≤ t.now

theorem loseLink_lost {s : State} (hup : linkUpNow s = true) (reason : Nat) : LinkLost s reason (loseLink s reason) := by
  unfold loseLink
  rw [if_neg (by rw [hup]; decide)]
  extract_lets n t u v f
  have hu : u.chrosy = t.chrosy := (raiseJ_mv t ..).chrosy.resolve_left (by decide)
  have hv : v.chrosy = u.chrosy :=
    ((dropMember_mv _ 17).chrosy.resolve_left (by decide)).trans (chrosy_of_rest (mirrorLoss_rest ..))
  have hnow : s.now ≤ v.now :=
    Nat.le_trans (raiseJ_mv t ..).now (Nat.le_trans (mirrorLoss_mv u _).now (dropMember_mv _ 17).now)
  have hreason : v.chrosy.downReason = reason := by
    rw [hv, hu]
    rfl
  clear_value v
  exact ⟨rfl, hreason, rfl, rfl, hnow⟩

/-! ### Lanes (R376) -/

/-- The state of a link whose lane is declared failed, before anything follows from it. -/
theorem degradeStart_parts {s : State} (hup : linkUpNow s = true) (pair : Nat) :
    if s.chrosy.rxW ≤ 4 then LinkLost s 4 (degradeStart s pair)
    else (degradeStart s pair).chrosy.st = .degrade ∧ (degradeStart s pair).chrosy.rxW = s.chrosy.rxW - 2 ∧
      (degradeStart s pair).chrosy.rxDropped.testBit pair = true ∧ (degradeStart s pair).chrosy.lanes = s.chrosy.lanes := by
  unfold degradeStart
  split
  · exact loseLink_lost hup 4
  · exact ⟨rfl, rfl, (Nat.testBit_or ..).trans (by rw [Nat.testBit_two_pow_self, Bool.or_true]), rfl⟩

/-- A lane marked as failed. -/
def markLane (s : State) (l : Fin 9) (cause : Nat) : State :=
  modChr s fun c => { c with lanes := c.lanes.set l { c.lanes[l] with failed := true, locked := c.lanes[l].locked && decide (cause ≠ 1) } }

theorem markLane_failed (s : State) (l : Fin 9) (cause : Nat) : (markLane s l cause).chrosy.lanes[l].failed = true :=
  congrArg ChrLane.failed (Vector.getElem_set_self ..)

/-- What follows from a failed lane. -/
theorem chrLaneFailed_eq (s : State) (l : Fin 9) (cause : Nat) : ∃ t, t.chrosy = (markLane s l cause).chrosy ∧
    chrLaneFailed s l cause = if l.val = 8 then loseLink t 2
      else if t.chrosy.degr.isSome then
        modChr t fun c => { c with degrQ := setInsert c.degrQ (if l.val = 8 then 15 else l.val / 2) }
      else degradeStart t (if l.val = 8 then 15 else l.val / 2) := by
  unfold chrLaneFailed
  extract_lets pair t u v
  have hu : u.chrosy = t.chrosy := by
    unfold u
    split <;> rfl
  exact ⟨v, ((raiseJ_mv u ..).chrosy.resolve_left (by decide)).trans hu, rfl⟩

/-- A lane that fails while no pair is being dropped: the link is lost, or the lane's pair is dropped. -/
theorem chrLaneFailed_parts {s : State} {l : Fin 9} (hup : linkUpNow s = true) (hfree : s.chrosy.degr = none) (cause : Nat) :
    if l.val = 8 ∨ s.chrosy.rxW ≤ 4 then
      (chrLaneFailed s l cause).chrosy.st = .seek ∧ (chrLaneFailed s l cause).chrosy.downReason = if l.val = 8 then 2 else 4
    else (chrLaneFailed s l cause).chrosy.st = .degrade ∧ (chrLaneFailed s l cause).chrosy.rxW = s.chrosy.rxW - 2 ∧
      (chrLaneFailed s l cause).chrosy.rxDropped.testBit (l.val / 2) = true ∧
      (chrLaneFailed s l cause).chrosy.lanes[l].failed = true := by
  obtain ⟨t, ht, hdo⟩ := chrLaneFailed_eq s l cause
  have hupt : linkUpNow t = true := (linkUpNow_of_chrosy ht).trans hup
  have hfreet : t.chrosy.degr = none := (congrArg ChrosySt.degr ht).trans hfree
  have hwidth : t.chrosy.rxW = s.chrosy.rxW := (congrArg ChrosySt.rxW ht :)
  by_cases h8 : l.val = 8
  · have hlost := loseLink_lost hupt 2
    rw [hdo, if_pos (.inl h8), if_pos h8, if_pos h8]
    exact ⟨hlost.st, hlost.downReason⟩
  · have hstart := degradeStart_parts hupt (l.val / 2)
    have hdo : chrLaneFailed s l cause = degradeStart t (l.val / 2) := by
      rw [hdo, if_neg h8, if_neg (by rw [hfreet]; decide), if_neg h8]
    rw [hdo]
    by_cases hnarrow : s.chrosy.rxW ≤ 4
    · rw [if_pos (Nat.le_trans (Nat.le_of_eq hwidth) hnarrow)] at hstart
      rw [if_pos (.inr hnarrow), if_neg h8]
      exact ⟨hstart.st, hstart.downReason⟩
    · rw [if_neg (hwidth ▸ hnarrow)] at hstart
      obtain ⟨hst, hrx, hbit, hlanes⟩ := hstart
      rw [if_neg (not_or.mpr ⟨h8, hnarrow⟩)]
      refine ⟨hst, hrx.trans (by rw [hwidth]), hbit, ?_⟩
      rw [hlanes, ht]
      exact markLane_failed s l cause

/-- A link that counts an attempt of its bring-up. -/
def countAttempt (s : State) : State := modChr (enterSeek s) fun c => { c with attempts := s.chrosy.attempts + 1 }

/-- A bring-up that takes too long, in the state whose time has come. -/
def seekTimedOut (good : Nat) (s : State) : State :=
  raiseLim (countAttempt s) (evKey 1097 0x0705) 1600000000 1097 0x0705 sevWarn good (s.chrosy.attempts + 1) 0 false

theorem seekTimedOut_chrosy (good : Nat) (s : State) : (seekTimedOut good s).chrosy = (countAttempt s).chrosy := (raiseLim_ev ..).chrosy
theorem seekTimedOut_now (good : Nat) (s : State) : (seekTimedOut good s).now = s.now := (raiseLim_ev ..).now

/-- Settles O45. -/
theorem chrosyDegradationAndLoss : Obligations.ChrosyDegradationAndLoss := by
  unfold Obligations.ChrosyDegradationAndLoss
  refine ⟨?degrade, ?down, ?aligned, ?seek, ?lane, ?repeats, ?noBlock, ?stall⟩
  case degrade =>
    intro pair s hup hpair hw hfree
    refine Answers.does (by rw [hup, decide_eq_true hpair, decide_eq_true hw]; rfl) rfl ?_
    rw [show gotDegrade s pair.toNat = _ from if_neg (by rw [hfree]; decide)]
    exact ⟨rfl, rfl, (Nat.testBit_or ..).trans (by rw [Nat.testBit_two_pow_self, Bool.or_true]), rfl, rfl⟩
  case down =>
    intro reason s hup
    have h := loseLink_lost hup 5
    exact Answers.does (linkOn_of_up hup) rfl ⟨h.st, h.downReason, h.replay, h.credits⟩
  case aligned =>
    intro good s hst hgood
    refine ⟨modChr s fun c => { c with st := .align, rxDropped := 15 - good.toNat, rxW := lanesLeft (15 - good.toNat),
                                       cmds := c.cmds ++ [(2, widthCode (lanesLeft (15 - good.toNat)))] }, ?_, rfl, rfl, rfl⟩
    show execChrosyAligned good s = _
    unfold execChrosyAligned
    rw [hst]
    exact if_pos (decide_eq_true hgood)
  case seek =>
    intro good s hst
    refine Answers.does (t := seekTimedOut good (s.atLeast (s.chrosy.seekAt + 32000000)))
      (by rcases hst with h | h <;> rw [h] <;> rfl) rfl ⟨?_, ?_, ?_⟩
    · rw [seekTimedOut_chrosy]
      rfl
    · rw [seekTimedOut_chrosy]
      exact congrArg (·.attempts + 1) (State.atLeast_chrosy ..)
    · rw [seekTimedOut_now]
      exact le_atLeast_now ..
  case lane =>
    intro lane cause s hup hcause hused hnew hfree
    exact Answers.does (by rw [hup, decide_eq_true hcause, hused, hnew]; rfl) rfl (chrLaneFailed_parts hup hfree cause.val)
  case repeats =>
    intro pair since n s hdegr hwait hup
    have hlate := le_atLeast_now s (since + 1600)
    have hchr := State.atLeast_chrosy s (since + 1600)
    refine ⟨if n < 4 then modChr (s.atLeast (since + 1600)) fun c =>
        { c with degr := some (pair, (s.atLeast (since + 1600)).now, n + 1), cmds := c.cmds ++ [(4, pair)] }
      else loseLink (s.atLeast (since + 1600)) 2, ?_, ?_⟩
    · show execDegradeRepeat s = _
      unfold execDegradeRepeat
      rw [hdegr]
      exact if_pos (by rw [hwait]; rfl)
    · generalize s.atLeast (since + 1600) = u at *
      split
      next hn => exact ⟨hlate, rfl, (congrArg ChrosySt.st hchr :)⟩
      next hn =>
        have h := loseLink_lost ((linkUpNow_of_chrosy hchr).trans hup) 2
        exact ⟨Nat.le_trans hlate h.now, h.st, h.downReason⟩
  case noBlock =>
    intro s hup
    have h := loseLink_lost ((linkUpNow_of_chrosy (State.atLeast_chrosy s (s.chrosy.lastBlock + 1600))).trans hup) 2
    exact Answers.does hup rfl ⟨h.st, h.downReason, Nat.le_trans (le_atLeast_now ..) h.now⟩
  case stall =>
    intro s hup hheld
    have h := loseLink_lost ((linkUpNow_of_chrosy (State.atLeast_chrosy s (s.chrosy.progressAt + 160000))).trans hup) 3
    refine Answers.does ?_ rfl ⟨h.st, h.downReason, Nat.le_trans (le_atLeast_now ..) h.now⟩
    simpa [hup] using hheld

end Sys2Proof.Machine
end

section
/-! Chrosy blocks sent and received (O44, R360 to R364, R367). -/

namespace Sys2Proof.Machine

/-! ### A block sent -/

/-- What the slots and lanes of a block leave of the link: its frames, its credits, its blocks and the time. -/
structure KeepsFrames (s t : State) : Prop where
  txq : t.chrosy.txq = s.chrosy.txq
  replay : t.chrosy.replay = s.chrosy.replay
  credits : t.chrosy.credits = s.chrosy.credits
  blocks : t.chrosy.blocks = s.chrosy.blocks
  startAt : t.chrosy.startAt = s.chrosy.startAt
  now : t.now = s.now

theorem KeepsFrames.refl (s : State) : KeepsFrames s s := ⟨rfl, rfl, rfl, rfl, rfl, rfl⟩

theorem KeepsFrames.trans {s t u : State} (h : KeepsFrames s t) (k : KeepsFrames t u) : KeepsFrames s u :=
  ⟨k.txq.trans h.txq, k.replay.trans h.replay, k.credits.trans h.credits, k.blocks.trans h.blocks, k.startAt.trans h.startAt,
    k.now.trans h.now⟩

theorem ite_keepsFrames {c : Prop} [Decidable c] {s : State} {f g : ChrosySt → ChrosySt} (hf : KeepsFrames s (modChr s f))
    (hg : KeepsFrames s (modChr s g)) : KeepsFrames s (modChr s fun x => if c then f x else g x) := by
  by_cases h : c
  · simp only [if_pos h]
    exact hf
  · simp only [if_neg h]
    exact hg

theorem slotSent_keeps (s : State) (x : Nat × Nat) : KeepsFrames s (slotSent s x) := by
  unfold slotSent
  refine ite_keepsFrames ?_ (ite_keepsFrames ?_ (ite_keepsFrames ?_ (ite_keepsFrames ?_ (ite_keepsFrames ?_ (ite_keepsFrames ?_ ?_)))))
  all_goals exact ⟨rfl, rfl, rfl, rfl, rfl, rfl⟩

theorem slotsSent_keeps (l : List (Nat × Nat)) (s : State) : KeepsFrames s (l.foldl slotSent s) :=
  List.foldlRecOn (motive := KeepsFrames s) _ _ (.refl s) fun t ht x _ => ht.trans (slotSent_keeps t x)

theorem sendLanes_keeps (s : State) (marker : Bool) (fs : List ChrFrame) : KeepsFrames s (sendLanes s marker fs) :=
  ⟨rfl, rfl, rfl, rfl, rfl, rfl⟩

theorem linkRetry_keeps (s : State) : KeepsFrames s (linkRetry s) := by
  unfold linkRetry
  extract_lets key
  split
  · exact .refl s
  · split
    · exact .refl s
    next a b t _ _ _ _ =>
      have hev := raise_ev t 1098 0x0706 sevInfo a b
      have ht : KeepsFrames s t := ⟨rfl, rfl, rfl, rfl, rfl, rfl⟩
      refine ht.trans ⟨?_, ?_, ?_, ?_, ?_, hev.now⟩ <;> rw [hev.chrosy]

/-- The frames a block sends, and the state after they are taken. -/
def blockFramesOut (s : State) (cap : Nat) : List ChrFrame × State :=
  if !txFrames? s then ([], s)
  else match s.chrosy.resend with
    | some f => sendResend s f cap
    | none => sendNew s cap

theorem sendNew_state (s : State) (cap : Nat) : ∃ k : Fin 2 → Nat, (∀ vc, k vc ≤ s.chrosy.credits[vc]) ∧
    (sendNew s cap).2.chrosy.txq = #v[s.chrosy.txq[0].drop (k 0), s.chrosy.txq[1].drop (k 1)] ∧
    (sendNew s cap).2.chrosy.credits = #v[s.chrosy.credits[0] - k 0, s.chrosy.credits[1] - k 1] := by
  unfold sendNew
  extract_lets c room a b fs t
  have ha : a.length ≤ c.credits[0] := Nat.le_trans (List.length_take_le ..) (Nat.min_le_right ..)
  have hb : b.length ≤ c.credits[1] := Nat.le_trans (List.length_take_le ..) (Nat.min_le_right ..)
  refine ⟨fun vc => if vc = 0 then a.length else b.length, fun vc => ?_, rfl, rfl⟩
  match vc with
  | 0 => exact ha
  | 1 => exact hb

theorem blockFramesOut_count (s : State) (cap : Nat) : (blockFramesOut s cap).2.chrosy.blocks = s.chrosy.blocks ∧
    (blockFramesOut s cap).2.now = s.now := by
  unfold blockFramesOut
  split
  · exact ⟨rfl, rfl⟩
  · split <;> exact ⟨rfl, rfl⟩

/-- The link commands a block brings up, and its counters. -/
def blockOpened (s : State) : State :=
  modChr (modChr s fun c =>
      { c with cmds := if c.blocks % 4 = 0 then c.cmds ++ (stateCmd s).filter (fun x => !c.cmds.contains x) else c.cmds })
    fun c => { c with txMarker := false, sinceIdle := c.sinceIdle + 1, sinceHb := c.sinceHb + 1 }

theorem blockOpened_keeps (s : State) : KeepsFrames s (blockOpened s) ∧ (blockOpened s).chrosy.resend = s.chrosy.resend ∧
    txFrames? (blockOpened s) = txFrames? s :=
  ⟨⟨rfl, rfl, rfl, rfl, rfl, rfl⟩, rfl, rfl⟩

/-- The slots and lanes of a block with its frames, and its control block. -/
def blockClosed (w fsn0 : Nat) (marker : Bool) (q : List ChrFrame × State) : State :=
  let slots := slotsOf q.2
  let s := sendLanes (slots.foldl slotSent q.2) marker q.1
  let n0 := (q.1.filter fun f => decide (f.vc = 0)).length
  let fsn := match q.1 with | f :: _ => f.fsn | [] => fsn0
  linkRetry (modChr s fun c =>
    { c with blocks := c.blocks + 1, startAt := s.now, ctl := ctlBlock w fsn n0 (q.1.length - n0) slots })

/-- A block that closes is counted and begins now; of its frames nothing more changes. -/
structure BlockCounted (s t : State) : Prop where
  txq : t.chrosy.txq = s.chrosy.txq
  replay : t.chrosy.replay = s.chrosy.replay
  credits : t.chrosy.credits = s.chrosy.credits
  blocks : t.chrosy.blocks = s.chrosy.blocks + 1
  startAt : t.chrosy.startAt = t.now
  now : t.now = s.now

theorem blockClosed_counted (w fsn0 : Nat) (marker : Bool) (q : List ChrFrame × State) :
    BlockCounted q.2 (blockClosed w fsn0 marker q) := by
  unfold blockClosed
  extract_lets slots t n0 fsn
  have ht : KeepsFrames q.2 t := (slotsSent_keeps slots q.2).trans (sendLanes_keeps _ marker q.1)
  clear_value t slots n0 fsn
  have hg := linkRetry_keeps (modChr t fun c =>
    { c with blocks := c.blocks + 1, startAt := t.now, ctl := ctlBlock w fsn n0 (q.1.length - n0) slots })
  refine ⟨hg.txq.trans ht.txq, hg.replay.trans ht.replay, hg.credits.trans ht.credits, ?_, ?_, hg.now.trans ht.now⟩
  · exact hg.blocks.trans (congrArg (· + 1) ht.blocks)
  · exact hg.startAt.trans hg.now.symm

/-- The time a block begins, no earlier than the block before has ended. -/
def blockTimed (s : State) : State :=
  s.atLeast (if s.chrosy.blocks = 0 then 0 else s.chrosy.startAt + blockTime (txLanes s).length)

theorem blockTimed_parts (s : State) : (blockTimed s).chrosy = s.chrosy ∧
    (s.chrosy.blocks ≠ 0 → s.chrosy.startAt + blockTime (txLanes s).length ≤ (blockTimed s).now) := by
  refine ⟨State.atLeast_chrosy .., fun h => Nat.le_trans (Nat.le_of_eq ?_) (le_atLeast_now ..)⟩
  rw [if_neg h]

/-- The frames a block has room for. -/
def blockCap (s : State) : Nat := 25 - b2n s.chrosy.txMarker - b2n (debtDue (blockOpened s))

theorem blockStart_eq (s : State) : blockStart s =
    blockClosed (txLanes s).length (blockOpened (blockTimed s)).chrosy.nextFsn (blockTimed s).chrosy.txMarker
      (blockFramesOut (blockOpened (blockTimed s)) (blockCap (blockTimed s))) := rfl

/-- A block begun (R360, R363). -/
theorem blockStart_parts (s : State) :
    (blockStart s).chrosy.blocks = s.chrosy.blocks + 1 ∧ (blockStart s).chrosy.startAt = (blockStart s).now ∧
    (s.chrosy.blocks ≠ 0 → s.chrosy.startAt + blockTime (txLanes s).length ≤ (blockStart s).now) ∧
    (txFrames? s = false → (blockStart s).chrosy.txq = s.chrosy.txq ∧ (blockStart s).chrosy.replay = s.chrosy.replay) ∧
    (txFrames? s = true → s.chrosy.resend = none → ∀ vc : Fin 2, ∃ k, k ≤ s.chrosy.credits[vc] ∧
      (blockStart s).chrosy.txq[vc] = s.chrosy.txq[vc].drop k ∧
      (blockStart s).chrosy.credits[vc] = s.chrosy.credits[vc] - k) := by
  obtain ⟨hchr, hlate⟩ := blockTimed_parts s
  have hframes : txFrames? (blockTimed s) = txFrames? s :=
    congrArg (fun x : ChrosySt => (x.st == .up || x.st == .degrade) && x.txDegr.isNone) hchr
  rw [blockStart_eq]
  generalize blockTimed s = a at hchr hlate hframes
  obtain ⟨hopen, hresend, hsends⟩ := blockOpened_keeps a
  generalize blockCap a = cap
  generalize blockOpened a = u at hopen hresend hsends
  have hclosed := blockClosed_counted (txLanes s).length u.chrosy.nextFsn a.chrosy.txMarker (blockFramesOut u cap)
  obtain ⟨hblocks, hnow⟩ := blockFramesOut_count u cap
  generalize blockClosed (txLanes s).length u.chrosy.nextFsn a.chrosy.txMarker (blockFramesOut u cap) = t at hclosed
  refine ⟨?_, hclosed.startAt, fun h => ?_, fun hno => ?_, fun hyes hnone vc => ?_⟩
  · rw [hclosed.blocks, hblocks, hopen.blocks, hchr]
  · rw [hclosed.now, hnow, hopen.now]
    exact hlate h
  · have hout : blockFramesOut u cap = ([], u) := if_pos (by rw [hsends, hframes, hno]; rfl)
    rw [hclosed.txq, hclosed.replay, hout, hopen.txq, hopen.replay, hchr]
    exact ⟨rfl, rfl⟩
  · have hout : blockFramesOut u cap = sendNew u cap := by
      unfold blockFramesOut
      rw [if_neg (by rw [hsends, hframes, hyes]; decide), hresend, hchr, hnone]
    obtain ⟨k, hk, htxq, hcredits⟩ := sendNew_state u cap
    have hvc : u.chrosy.credits[vc] = s.chrosy.credits[vc] := by rw [hopen.credits, hchr]
    refine ⟨k vc, hvc ▸ hk vc, ?_, ?_⟩
    · rw [hclosed.txq, hout, htxq, hopen.txq, hchr]
      match vc with
      | 0 => rfl
      | 1 => rfl
    · rw [hclosed.credits, hout, hcredits, hopen.credits, hchr]
      match vc with
      | 0 => rfl
      | 1 => rfl

/-! ### A block received -/

/-- LINK_RETRY clears the counts of the last 1 ms and touches no other part of the link, nor a register but the lost counts. -/
theorem linkRetry_parts (s : State) :
    (∃ a b, (linkRetry s).chrosy = (modChr s fun c => { c with resentMs := a, invalidMs := b }).chrosy) ∧
    ∀ a, ¬ lossCounter a → csrGet (linkRetry s) a = csrGet s a := by
  unfold linkRetry
  extract_lets key
  split
  · exact ⟨⟨s.chrosy.resentMs, s.chrosy.invalidMs, rfl⟩, fun _ _ => rfl⟩
  · split
    · exact ⟨⟨s.chrosy.resentMs, s.chrosy.invalidMs, rfl⟩, fun _ _ => rfl⟩
    next a b t _ _ _ _ =>
      have hev := raise_ev t 1098 0x0706 sevInfo a b
      exact ⟨⟨0, 0, hev.chrosy⟩, hev.csr⟩

/-- What the frames of a block leave in the receive direction. -/
structure SameReceipt (s t : State) : Prop where
  lastBlock : t.chrosy.lastBlock = s.chrosy.lastBlock
  rxNext : t.chrosy.rxNext = s.chrosy.rxNext
  rxq : t.chrosy.rxq = s.chrosy.rxq
  ackDue : t.chrosy.ackDue = s.chrosy.ackDue
  nakDue : t.chrosy.nakDue = s.chrosy.nakDue
  discarding : t.chrosy.discarding = s.chrosy.discarding

/-- A block has been received: its marker is taken and LINK_RETRY may follow. -/
def blockTaken (s : State) : State := linkRetry (modChr s fun c => { c with rxMarker := false })

theorem blockTaken_parts (s : State) :
    SameReceipt s (blockTaken s) ∧ ∀ a, ¬ lossCounter a → csrGet (blockTaken s) a = csrGet s a := by
  obtain ⟨⟨a, b, hchr⟩, hcsr⟩ := linkRetry_parts (modChr s fun c => { c with rxMarker := false })
  exact ⟨⟨(congrArg ChrosySt.lastBlock hchr :), (congrArg ChrosySt.rxNext hchr :), (congrArg ChrosySt.rxq hchr :),
    (congrArg ChrosySt.ackDue hchr :), (congrArg ChrosySt.nakDue hchr :), (congrArg ChrosySt.discarding hchr :)⟩, hcsr⟩

theorem rxInvalid_parts (s : State) (fs : List (BitVec 288)) :
    csrGet (rxInvalid s fs) 0x0B0014 = satAdd 0xFFFFFFFF (csrGet s 0x0B0014) 1 ∧
    (rxInvalid s fs).chrosy.rxNext = s.chrosy.rxNext ∧ (rxInvalid s fs).chrosy.rxq = s.chrosy.rxq ∧
    (rxInvalid s fs).chrosy.lastBlock = s.chrosy.lastBlock := by
  unfold rxInvalid
  extract_lets u
  have hcount : csrGet u 0x0B0014 = satAdd 0xFFFFFFFF (csrGet s 0x0B0014) 1 := csrGet_bump _ 0x0B0014 1 (by decide)
  split
  · split
    · exact ⟨hcount, rfl, rfl, rfl⟩
    · refine ⟨(csrGet_of_regs (s := csrSet u 0x0B0010 _) rfl).trans ?_, rfl, rfl, rfl⟩
      rw [csrGet_csrSet_other u _ (by decide), hcount]
  · exact ⟨hcount, rfl, rfl, rfl⟩

/-- A block with an unreadable control header (R364). -/
theorem blockReceived_unreadable {s : State} {cs : List ChrChar} (fs : List (BitVec 288)) (h : ctlHeader s cs = none) :
    csrGet (blockReceived s cs fs) 0x0B0014 = satAdd 0xFFFFFFFF (csrGet s 0x0B0014) 1 ∧
    (blockReceived s cs fs).chrosy.rxNext = s.chrosy.rxNext ∧ (blockReceived s cs fs).chrosy.rxq = s.chrosy.rxq ∧
    (blockReceived s cs fs).chrosy.lastBlock = s.chrosy.lastBlock := by
  have heq : blockReceived s cs fs = blockTaken (rxInvalid s fs) := by
    unfold blockReceived
    rw [h]
    rfl
  obtain ⟨hsame, hcsr⟩ := blockTaken_parts (rxInvalid s fs)
  obtain ⟨hcount, hnext, hrxq, hlast⟩ := rxInvalid_parts s fs
  rw [heq]
  exact ⟨(hcsr _ (not_lossCounter_of_lt (by decide))).trans hcount, hsame.rxNext.trans hnext, hsame.rxq.trans hrxq,
    hsame.lastBlock.trans hlast⟩

theorem dataChar_lt {c : Option ChrChar} {n : Nat} (h : dataChar c = some n) : n < 256 := by
  unfold dataChar at h
  split at h
  · split at h
    · cases h
    · cases h
      exact BitVec.isLt _
  · cases h

theorem ctlHeader_lt {s : State} {cs : List ChrChar} {f n0 n1 : Nat} (h : ctlHeader s cs = some (f, n0, n1)) : f < 256 := by
  unfold ctlHeader at h
  split at h
  next hf _ _ _ =>
    split at h
    · cases h
      exact dataChar_lt hf
    · cases h
  · cases h

theorem rxFrames_one (s : State) {fsn : Nat} (h : fsn < 256) (vc : Fin 2) (f : BitVec 288) :
    rxFrames s fsn (1 - vc.val) vc.val [f] = rxFrame s fsn vc f := by
  match vc with
  | 0 => exact congrArg (rxFrame s · 0 f) (Nat.mod_eq_of_lt h)
  | 1 => exact congrArg (rxFrame s · 1 f) (Nat.mod_eq_of_lt h)

/-- The frame awaited: received where its check passes, else discarded and asked for (R364, R367). -/
theorem rxFrame_awaited (s : State) (vc : Fin 2) (f : BitVec 288) :
    (rxFrame s s.chrosy.rxNext vc f).chrosy.lastBlock = s.chrosy.lastBlock ∧
    if crc32c (s.chrosy.rxNext :: vc.val :: bytesOf 32 (bitsOf f.toNat 0 256)) = bitsOf f.toNat 256 32 then
      (rxFrame s s.chrosy.rxNext vc f).chrosy.rxNext = (s.chrosy.rxNext + 1) % 256 ∧
      (rxFrame s s.chrosy.rxNext vc f).chrosy.ackDue = true ∧ (rxFrame s s.chrosy.rxNext vc f).chrosy.discarding = false ∧
      (rxFrame s s.chrosy.rxNext vc f).chrosy.rxq[vc] = s.chrosy.rxq[vc] ++ [BitVec.ofNat 256 (bitsOf f.toNat 0 256)]
    else
      (rxFrame s s.chrosy.rxNext vc f).chrosy.rxNext = s.chrosy.rxNext ∧
      (rxFrame s s.chrosy.rxNext vc f).chrosy.rxq = s.chrosy.rxq ∧
      (rxFrame s s.chrosy.rxNext vc f).chrosy.discarding = true ∧
      (s.chrosy.discarding = false → (rxFrame s s.chrosy.rxNext vc f).chrosy.nakDue = true) := by
  unfold rxFrame
  rw [if_neg (fun hne => hne rfl)]
  extract_lets p
  by_cases hpass : crc32c (s.chrosy.rxNext :: vc.val :: bytesOf 32 (bitsOf f.toNat 0 256)) = bitsOf f.toNat 256 32
  · rw [if_pos hpass, if_pos hpass]
    exact ⟨rfl, rfl, rfl, rfl, Vector.getElem_set_self vc.isLt⟩
  · rw [if_neg hpass, if_neg hpass]
    by_cases hdisc : s.chrosy.discarding = true
    · rw [if_pos hdisc]
      exact ⟨rfl, rfl, rfl, hdisc, fun h => absurd h (by rw [hdisc]; decide)⟩
    · rw [if_neg hdisc]
      exact ⟨rfl, rfl, rfl, rfl, fun _ => rfl⟩

/-- A block's control header has been read: the time is kept, its bad slots counted. -/
def blockSeen (s : State) (cs : List ChrChar) : State :=
  bump 0x0B0014 (badSlots cs) (modChr s fun c => { c with lastBlock := s.now })

theorem rxFrame_degr (s : State) (fsn : Nat) (vc : Fin 2) (f : BitVec 288) :
    (rxFrame s fsn vc f).chrosy.degr = s.chrosy.degr := by
  unfold rxFrame
  extract_lets p
  split
  · rfl
  · split
    · rfl
    · split <;> rfl

theorem blockReceived_one {s : State} {cs : List ChrChar} (f : BitVec 288) {vc : Fin 2} (hup : linkUpNow s = true)
    (h : ctlHeader s cs = some (s.chrosy.rxNext, 1 - vc.val, vc.val)) (hdegr : s.chrosy.degr = none) :
    blockReceived s cs [f] = blockTaken (rxFrame (blockSeen s cs) s.chrosy.rxNext vc f) := by
  have hend : (rxFrame (blockSeen s cs) s.chrosy.rxNext vc f).chrosy.degr = none := (rxFrame_degr ..).trans hdegr
  unfold blockReceived
  rw [h]
  show blockTaken (if linkUpNow (blockSeen s cs) then
    degradeEnd (rxFrames (blockSeen s cs) s.chrosy.rxNext (1 - vc.val) vc.val [f]) else _) = _
  rw [if_pos (c := linkUpNow (blockSeen s cs) = true) hup, rxFrames_one _ (ctlHeader_lt h)]
  unfold degradeEnd
  rw [hend]

/-- Settles O44: the block begun by `blockStart_parts`, the block received by the header and by the check of its frame. -/
theorem chrosyBlocks : Obligations.ChrosyBlocks := by
  unfold Obligations.ChrosyBlocks
  refine ⟨?start, ?unreadable, ?frame⟩
  case start => exact fun s hlink => Answers.does hlink rfl (blockStart_parts s)
  case unreadable => exact fun cs fs s hon h => Answers.does hon rfl (blockReceived_unreadable fs h)
  case frame =>
    intro cs f vc s hup h hdegr
    refine Answers.does (linkOn_of_up hup) rfl ?_
    rw [blockReceived_one f hup h hdegr]
    obtain ⟨hlast, hframe⟩ := rxFrame_awaited (blockSeen s cs) vc f
    obtain ⟨hsame, -⟩ := blockTaken_parts (rxFrame (blockSeen s cs) s.chrosy.rxNext vc f)
    refine ⟨hsame.lastBlock.trans hlast, ?_⟩
    rw [hsame.rxNext, hsame.ackDue, hsame.discarding, hsame.rxq, hsame.nakDue]
    exact hframe

end Sys2Proof.Machine
end

section
/-! Boundaries held and released, closes, set changes, deferred actions (O13, R275 to R278, R287 to R289). -/

namespace Sys2Proof.Machine

/-! ### What events and answers leave of a port -/

/-- A port without the SIGs that wait at it. -/
def PortSt.core (q : PortSt) : PortSt := { q with sigWait := [], sigLost := false }

theorem EvKeeps.core {s t : State} (h : EvKeeps s t) (p : Port) : t.ports[p].core = s.ports[p].core :=
  (congrArg PortSt.core (h.ports p) :)

theorem staging_of_core {q r : PortSt} (h : q.core = r.core) : q.staging = r.staging := (congrArg PortSt.staging h :)
theorem respond_port (s : State) (p : Port) (r : Resp) :
    (respond s p r).ports[p] = { s.ports[p] with egress := s.ports[p].egress ++ [r] } := by
  have ht : (s.modPort p fun q => { q with egress := q.egress ++ [r] }).ports[p] =
      { s.ports[p] with egress := s.ports[p].egress ++ [r] } := State.modPort_same ..
  unfold respond
  extract_lets t
  split <;> exact ht

theorem returnCredit_staging (c : Nat) (q : PortSt) : (returnCredit c q).staging = q.staging := by
  unfold returnCredit
  split <;> rfl

/-- A staged request that is answered leaves staging; its response joins the egress (R89). -/
theorem answerStaged_port (s : State) (p : Port) (r : StReq) (status : Nat) :
    (answerStaged s p r status).ports[p].staging = s.ports[p].staging.filter (fun x => decide (x.ord ≠ r.ord)) ∧
    ∃ a ∈ (answerStaged s p r status).ports[p].egress, a.kind = r.kind ∧ a.tag = slotTag r.slot ∧ a.status = status := by
  unfold answerStaged
  extract_lets n t c u
  have hu : u.ports[p].staging = s.ports[p].staging.filter (fun x => decide (x.ord ≠ r.ord)) := by
    show t.ports[p].staging = _
    unfold t
    rw [State.modPort_same]
    exact congrArg (List.filter _) (returnCredit_staging ..)
  rw [respond_port]
  exact ⟨hu, _, List.mem_append_right _ List.mem_cons_self, rfl, rfl, rfl⟩

theorem answerStaged_epochs (s : State) (p : Port) (r : StReq) (status : Nat) :
    (answerStaged s p r status).epochs = s.epochs := (answerStaged_mv ..).epochs.resolve_left (by decide)

theorem passBoundary_core {s : State} (m : Member) {v : Nat} (h : v ≤ s.epochs.newest) (p : Port) :
    (passBoundary s m v).ports[p].core = s.ports[p].core := by
  rw [passBoundary_eq h]
  exact (journal_ev ..).core p

/-- A MARK of an open epoch is recorded: it leaves staging and its port passes, and no epoch opens (R89, R272). -/
theorem recordMark_parts {s : State} (p : Port) {r : StReq} (h : slotEpoch r.slot ≤ s.epochs.newest) :
    (recordMark s p r).epochs =
      { s.epochs with cur := s.epochs.cur.set p.val (slotEpoch r.slot), started := true } ∧
    ∀ x ∈ (recordMark s p r).ports[p].staging, x.ord ≠ r.ord := by
  unfold recordMark
  extract_lets a t
  have hopen : t.epochs = s.epochs := answerStaged_epochs ..
  have hle : slotEpoch r.slot ≤ t.epochs.newest := hopen.symm ▸ h
  constructor
  · rw [passBoundary_epochs hle, hopen]
  · intro x hx
    rw [staging_of_core (passBoundary_core _ hle p)] at hx
    unfold t a at hx
    rw [State.modPort_same] at hx
    rw [show ∀ q : PortSt, ({ q with lastMark := r.ord } : PortSt).staging = q.staging from fun _ => rfl,
      (answerStaged_port s p r stOk).1] at hx
    exact of_decide_eq_true (List.mem_filter.mp hx).2

/-! ### EPOCH_STALL -/

/-- A boundary's stall is reported no earlier than 100 us after its holding began (R275). -/
theorem stallEvent_parts (s : State) (v since : Nat) : EvKeeps (s.atLeast (since + 160000)) (stallEvent s v since) ∧
    since + 160000 ≤ (stallEvent s v since).now ∧ (s.seq.decided = true → s.seq.next < (stallEvent s v since).seq.next) := by
  have hev : EvKeeps (s.atLeast (since + 160000)) (stallEvent s v since) := raise_ev ..
  exact ⟨hev, hev.now ▸ le_atLeast_now .., fun hd => raise_next (u := s.atLeast _) (State.atLeast_seq ..) hd⟩

/-! ### EPOCH_CLOSE -/

/-- No trigger is armed: none fires (R290). -/
theorem fireAll_unarmed {s : State} (h : ∀ i : Fin 16, (csrGet s (trigReg i.val 0)).testBit 0 = false) (atClose : Bool) (e : Nat) :
    fireAll s atClose e = s := by
  unfold fireAll
  refine List.foldlRecOn (motive := fun t => t = s) _ _ rfl fun t ht i _ => ?_
  subst ht
  simp [h i]

theorem testBit_zero_of_field {s : State} {a : Nat} (h : csrFld s a 0 1 = 0) : (csrGet s a).testBit 0 = false := by
  unfold csrFld bitsOf at h
  simpa [Nat.testBit_zero] using h

theorem closeEpoch_unarmed {s : State} (h : ∀ i : Fin 16, csrFld s (trigReg i.val 0) 0 1 = 0) :
    (closeEpoch s).epochs = { s.epochs with two := false } := by
  unfold closeEpoch
  extract_lets e _ a t
  have hev : EvKeeps a t := raiseLim_ev ..
  have hidle : ∀ i : Fin 16, (csrGet t (trigReg i.val 0)).testBit 0 = false := fun i => by
    have hreg : ¬ lossCounter (trigReg i.val 0) := not_lossCounter_of_lt (.inr (by unfold trigReg; omega))
    rw [hev.csr _ hreg]
    exact testBit_zero_of_field (h i)
  rw [fireAll_unarmed hidle]
  exact hev.epochs

/-! ### Deferred actions -/

theorem csrFld_hwFld_bit (s : State) (a lo v : Nat) (ha : regReset a < 2 ^ 32) (h : lo + 1 ≤ 32) :
    csrFld (hwFld s a lo 1 v) a lo 1 = v % 2 :=
  (csrFld_csrSet_putBits (w := 1) s (csrGet s a) v ha h).trans (by rw [Nat.pow_one])

/-- What an action of a trigger other than EVENT does before TRIG_FIRED. -/
def actionRun (s : State) (d : Deferred) : State :=
  match d.action with
  | 1 => journal s 0x000A 1457 (bodyAt 24 d.trig + bodyAt 32 d.arg)
  | 2 => formBarriers s d.arg
  | 3 => exportBits s (if d.src then s.epochs.cum else epochBits s d.epoch) d.arg
  | 4 => hwFld s 0x070004 11 1 1
  | 5 => hwFld s 0x070004 11 1 0
  | _ => s

theorem runAction_ev (s : State) (d : Deferred) (late : Bool) : EvKeeps (actionRun s d) (runAction s d late) := raiseX_ev ..

/-- The journal entry, SCRUB_PAUSE and SCRUB_RESUME: epochs are kept, and the scrubber's PAUSE is set or cleared. -/
theorem actionRun_parts (s : State) (d : Deferred) (h : d.action = 1 ∨ d.action = 4 ∨ d.action = 5) :
    (actionRun s d).epochs = s.epochs ∧ (d.action = 4 → csrFld (actionRun s d) 0x070004 11 1 = 1) ∧
    (d.action = 5 → csrFld (actionRun s d) 0x070004 11 1 = 0) := by
  unfold actionRun
  rcases h with h | h | h <;> rw [h]
  · exact ⟨(journal_mv ..).epochs.resolve_left (by decide), fun h4 => absurd h4 (by decide), fun h5 => absurd h5 (by decide)⟩
  · exact ⟨rfl, fun _ => csrFld_hwFld_bit s _ 11 1 (by decide) (by decide), fun h5 => absurd h5 (by decide)⟩
  · exact ⟨rfl, fun h4 => absurd h4 (by decide), fun _ => csrFld_hwFld_bit s _ 11 0 (by decide) (by decide)⟩

theorem runAction_parts (s : State) (d : Deferred) (late : Bool) (h : d.action = 1 ∨ d.action = 4 ∨ d.action = 5) :
    (runAction s d late).epochs = s.epochs ∧ (d.action = 4 → csrFld (runAction s d late) 0x070004 11 1 = 1) ∧
    (d.action = 5 → csrFld (runAction s d late) 0x070004 11 1 = 0) := by
  have hev := runAction_ev s d late
  have hpause : csrFld (runAction s d late) 0x070004 11 1 = csrFld (actionRun s d) 0x070004 11 1 :=
    congrArg (bitsOf · 11 1) (hev.csr 0x070004 (not_lossCounter_of_lt (by decide)))
  obtain ⟨hepochs, hset, hclear⟩ := actionRun_parts s d h
  rw [hpause]
  exact ⟨hev.epochs.trans hepochs, hset, hclear⟩

/-! ### The settled statement -/

/-- A port is the member of its number. -/
theorem port_of_member {p : Port} {m : Member} (h : m.val = p.val) : ∃ hlt : m.val < 16, p = ⟨m.val, hlt⟩ :=
  ⟨h ▸ p.isLt, Fin.ext h.symm⟩

/-- The state in which EPOCH_STALL reports the held MARK `r` of a port. -/
def markStalled (s : State) (p : Port) (r : StReq) : State :=
  s.modPort p fun q => { q with staging := q.staging.map fun x => if x.ord = r.ord then { x with stalled := true } else x }

theorem markStalled_staging (s : State) (p : Port) (r : StReq) :
    ∀ x ∈ (markStalled s p r).ports[p].staging, x.ord = r.ord → x.stalled = true := by
  unfold markStalled
  rw [State.modPort_same]
  intro x hx hord
  obtain ⟨y, -, rfl⟩ := List.mem_map.mp hx
  by_cases hy : y.ord = r.ord
  · rw [if_pos hy]
  · rw [if_neg hy] at hord
    exact absurd hord hy

/-- Settles O13, command by command: `recordMark_parts`, `stallEvent_parts`, `closeEpoch_unarmed` and `runAction_parts`. -/
theorem boundariesAndEpochCloses : Obligations.BoundariesAndEpochCloses := by
  unfold Obligations.BoundariesAndEpochCloses
  refine ⟨?release, ?stallPort, ?stallEngine, ?close, ?apply, ?deferred⟩
  case release =>
    intro p m r since s hm hheld hfree hopen
    obtain ⟨hlt, rfl⟩ := port_of_member hm
    refine ⟨recordMark s ⟨m.val, hlt⟩ r, ?_, ?_, (recordMark_parts _ hopen).2⟩
    · show execBoundaryRelease m s = _
      unfold execBoundaryRelease
      rw [dif_pos hlt, hheld]
      exact if_pos hfree
    · rw [(recordMark_parts _ hopen).1]
      exact Vector.getElem_set_self m.isLt
  case stallPort =>
    intro p m r since s hm hheld hnew
    obtain ⟨hlt, rfl⟩ := port_of_member hm
    obtain ⟨hev, hnow, hseq⟩ := stallEvent_parts (markStalled s ⟨m.val, hlt⟩ r) (slotEpoch r.slot) since
    refine ⟨_, ?_, hnow, ?_, hseq⟩
    · show execEpochStall m s = _
      unfold execEpochStall
      rw [dif_pos hlt]
      extract_lets p
      rw [show heldMark s.ports[p] = some (r, since) from hheld]
      exact if_neg (by rw [hnew]; decide)
    · rw [staging_of_core (hev.core _), State.atLeast_ports]
      exact markStalled_staging s _ r
  case stallEngine =>
    intro v since s hheld hnew
    obtain ⟨hev, hnow, -⟩ := stallEvent_parts { s with epochs := { s.epochs with engStalled := true } } v since
    refine ⟨_, ?_, hnow, by rw [hev.epochs, State.atLeast_epochs]⟩
    show execEpochStall 16 s = _
    unfold execEpochStall
    rw [dif_neg (by decide), if_pos (by decide), hheld]
    exact if_pos (by rw [hnew]; rfl)
  case close => exact fun s hclose hidle => Answers.does hclose rfl (closeEpoch_unarmed hidle)
  case apply =>
    intro v s hpend hfree
    refine ⟨applySet s v, ?_, rfl, rfl, rfl, fun m => ?_⟩
    · show execPortsetApply s = _
      unfold execPortsetApply
      rw [hpend]
      exact if_pos hfree
    · refine (Vector.getElem_ofFn m.isLt).trans ?_
      simp only [Bool.and_eq_true, Bool.not_eq_true', Fin.eta]
  case deferred =>
    intro d rest s hdef hup haction
    refine ⟨runAction { s with epochs := { s.epochs with deferred := rest } } d true, ?_, runAction_parts _ d true haction⟩
    show execDeferredTriggerAction s = _
    unfold execDeferredTriggerAction
    rw [hdef]
    exact if_pos hup

end Sys2Proof.Machine
end

section
/-! STAGING_RELEASE (O12, R89, R93, R96, R272). -/

namespace Sys2Proof.Machine

/-- The state in which a release of port `p` is done: no other leaves in this CCLK (R93). -/
def releaseOpen (s : State) (p : Port) : State :=
  (atRelease s p).modPort p fun q => { q with leaveAt := (atRelease s p).now + 1 }

theorem releaseStaged_some {s : State} {p : Port} {r : StReq} (h : nextStaged (atRelease s p) p = some r) :
    releaseStaged s p = leave (releaseOpen s p) p r := by
  show (match nextStaged (atRelease s p) p with | some r => leave (releaseOpen s p) p r | none => _) = _
  rw [h]

theorem releaseOpen_power (s : State) (p : Port) : (releaseOpen s p).power = s.power :=
  ((reportClaims_mv ..).power.resolve_left (by decide)).trans (State.atLeast_power ..)

theorem releaseOpen_epochs (s : State) (p : Port) : (releaseOpen s p).epochs = s.epochs :=
  ((reportClaims_mv ..).epochs.resolve_left (by decide)).trans (State.atLeast_epochs ..)

/-! ### A read -/

theorem entryOfReq_read (s : State) (p : Port) {r : StReq} (pool : Nat) (h : r.kind = .rd) :
    (entryOfReq s p r pool).kind = .rd := by
  show (if (r.kind == .wrm && _) = true then ReqKind.wr else r.kind) = .rd
  rw [h]
  rfl

theorem unstage_staging (s : State) (p : Port) (r : StReq) : ∀ x ∈ (unstage s p r).ports[p].staging, x.ord ≠ r.ord := by
  unfold unstage
  rw [State.modPort_same]
  exact fun x hx => of_decide_eq_true (List.mem_filter.mp hx).2

/-- A read takes its place in the queue (R89, R139). -/
theorem enterQueue_read (s : State) (p : Port) {r : StReq} (pool : Nat) (h : r.kind = .rd) :
    (∀ x ∈ (enterQueue s p r pool).ports[p].staging, x.ord ≠ r.ord) ∧
    ∃ e ∈ (enterQueue s p r pool).pcs[r.pc s].queue, e.kind = .rd ∧ e.blk = slotBlk r.slot ∧ e.n = reqBlocks r.kind r.slot ∧
      e.src = .host p ∧ e.tag = slotTag r.slot := by
  unfold enterQueue
  extract_lets n t e req u v w f
  have hkind : e.kind = .rd := entryOfReq_read t p pool h
  rw [if_pos (by rw [hkind]; rfl)]
  have hports : w.ports = (unstage t.tick p r).ports := by
    have hv : v.ports = u.ports := by
      unfold v
      split
      · rfl
      · exact (thermTake_mv ..).ports.resolve_left (by decide)
    exact hv.trans ((throttleTake_mv ..).ports.resolve_left (by decide))
  refine ⟨fun x hx => unstage_staging t.tick p r x ?_, e, ?_, hkind, rfl, rfl, rfl, rfl⟩
  · rw [← hports]
    exact hx
  · rw [enqueue_queue]
    exact List.mem_append_right _ List.mem_cons_self

theorem leave_read {s : State} {p : Port} {r : StReq} (h : r.kind = .rd) (hnow : atOnce s r = none) {pool : Nat}
    (hpool : hostPool s.pcs[r.pc s] r.urgent = some pool) : leave s p r = enterQueue s p r pool := by
  unfold leave
  rw [h, hnow]
  show (match hostPool s.pcs[r.pc s] r.urgent with | some pool => enterQueue s p r pool | none => s) = _
  rw [hpool]

theorem leave_fence {s : State} (p : Port) {r : StReq} (h : r.kind = .fence) (hpower : s.power.failing = false) :
    leave s p r = answerStaged s p r stOk := by
  unfold leave
  rw [h, hpower]
  rfl

theorem leave_mark {s : State} {p : Port} {r : StReq} (h : r.kind = .mark) (hpower : s.power.failing = false)
    (hok : markRefused s p (slotEpoch r.slot) = 0) (hfree : boundaryHeld s (slotEpoch r.slot) = false) :
    leave s p r = recordMark s p r := by
  unfold leave
  rw [h, hpower]
  show doMarkReq s p r = _
  unfold doMarkReq
  extract_lets v why
  rw [if_neg (fun hne => hne hok), if_neg (by rw [show boundaryHeld s v = false from hfree]; decide)]

theorem markRefused_of_epochs {s t : State} (h : t.epochs = s.epochs) (p : Port) (v : Nat) :
    markRefused t p v = markRefused s p v := by
  unfold markRefused isMember
  rw [h]

theorem boundaryHeld_of_epochs {s t : State} (h : t.epochs = s.epochs) (v : Nat) : boundaryHeld t v = boundaryHeld s v := by
  unfold boundaryHeld epochOpen
  rw [h]

/-- Settles O12: what `leave` does with the chosen request, by its kind. -/
theorem stagingReleases : Obligations.StagingReleases := by
  unfold Obligations.StagingReleases
  refine ⟨?read, ?fence, ?mark⟩
  case read =>
    intro p r s hrel hnext hkind hserved hroom
    refine Answers.does hrel rfl ?_
    obtain ⟨pool, hpool⟩ := Option.isSome_iff_exists.mp hroom
    rw [releaseStaged_some hnext, leave_read (s := releaseOpen s p) hkind hserved hpool]
    exact enterQueue_read (releaseOpen s p) p pool hkind
  case fence =>
    intro p r s hrel hnext hkind hpower
    refine Answers.does hrel rfl ?_
    rw [releaseStaged_some hnext, leave_fence p hkind ((congrArg _ (releaseOpen_power s p)).trans hpower)]
    obtain ⟨hstaging, a, ha, hfence, htag, hstatus⟩ := answerStaged_port (releaseOpen s p) p r stOk
    refine ⟨fun x hx => ?_, a, ha, hfence.trans hkind, htag, hstatus⟩
    rw [hstaging] at hx
    exact of_decide_eq_true (List.mem_filter.mp hx).2
  case mark =>
    intro p r s hrel hnext hkind hpower hok hfree hopen
    refine Answers.does hrel rfl ?_
    have hepochs := releaseOpen_epochs s p
    rw [releaseStaged_some hnext, leave_mark hkind ((congrArg _ (releaseOpen_power s p)).trans hpower)
      ((markRefused_of_epochs hepochs ..).trans hok) ((boundaryHeld_of_epochs hepochs _).trans hfree)]
    obtain ⟨hpass, hstaging⟩ := recordMark_parts (s := releaseOpen s p) p (r := r) (hepochs.symm ▸ hopen)
    refine ⟨hstaging, ?_, ?_⟩
    · rw [hpass]
      exact Vector.getElem_set_self _
    · rw [hpass, hepochs]

end Sys2Proof.Machine
end

section
/-! Requests taken into staging or refused with PROTO (O6, R75, R89, R91). -/

namespace Sys2Proof.Machine

/-! ### What the URGENT accounting leaves of a port -/

/-- The requests, tags, responses and credits of a port. -/
def reqView (q : PortSt) : List Slot × List Nat × List Resp × Vector Nat 3 := (q.staging.map (·.slot), q.tags, q.egress, q.credits)

theorem reqView_of_core {q r : PortSt} (h : q.core = r.core) : reqView q = reqView r := (congrArg reqView h :)

/-- The view of port `p` in a state. -/
def viewOf (p : Port) (s : State) : List Slot × List Nat × List Resp × Vector Nat 3 := reqView s.ports[p]

theorem viewOf_ports {s t : State} (p : Port) (h : t.ports = s.ports) : viewOf p t = viewOf p s := by
  unfold viewOf
  rw [h]

theorem viewOf_lapse (p : Port) (s : State) (n : Pc) (cause bank port stream : Nat) :
    viewOf p (lapse s n cause bank port stream) = viewOf p s :=
  reqView_of_core ((raiseLim_ev ..).core p)

theorem viewOf_ite {c : Prop} [Decidable c] (p : Port) {s t u : State} (ht : viewOf p t = viewOf p s)
    (hu : viewOf p u = viewOf p s) : viewOf p (if c then t else u) = viewOf p s := by
  split
  · exact ht
  · exact hu

theorem viewOf_countUrgent (v : Port) (s : State) (p : Port) (n : Pc) (bank bytes id stream at_ : Nat) :
    viewOf v (countUrgent s p n bank bytes id stream at_) = viewOf v s := by
  unfold countUrgent
  extract_lets t b u
  have hnote : t.ports = s.ports := (State.modPc_ports ..).trans ((noteAll_mv s).ports.resolve_left (by decide))
  have ht : viewOf v t = viewOf v s := viewOf_ports v hnote
  have hu : viewOf v u = viewOf v s := (viewOf_ite v (viewOf_lapse ..) rfl).trans ht
  refine (viewOf_ite v (s := u) (foldl_keeps (viewOf v) _ (fun x m => viewOf_ite v (viewOf_lapse ..) rfl) _ u) rfl).trans hu

theorem viewOf_cappedArrives (v : Port) (s : State) (p : Port) (n : Pc) (bank req : Nat) :
    viewOf v (cappedArrives s p n bank req) = viewOf v s :=
  viewOf_ite v ((viewOf_lapse ..).trans rfl) rfl

theorem viewOf_urgentArrives (v : Port) (s : State) (p : Port) (k : ReqKind) (w : Slot) (ord : Nat) :
    viewOf v (urgentArrives s p k w ord) = viewOf v s := by
  unfold urgentArrives
  extract_lets c n a b d
  have hb : viewOf v b = viewOf v s := (viewOf_countUrgent ..).trans rfl
  have hd : viewOf v d = viewOf v b := viewOf_ite v (viewOf_lapse ..) rfl
  exact (viewOf_cappedArrives ..).trans (hd.trans hb)

theorem raised_slots (l : List StReq) (ord : Nat) :
    (l.map fun y => if y.ord = ord then { y with raised := true } else y).map (·.slot) = l.map (·.slot) := by
  rw [List.map_map]
  refine List.map_congr_left fun y _ => ?_
  show (if y.ord = ord then { y with raised := true } else y).slot = y.slot
  split <;> rfl

theorem viewOf_raiseReq (p : Port) (s : State) (x : StReq) : viewOf p (raiseReq s p x) = viewOf p s := by
  unfold raiseReq
  split
  · rfl
  · extract_lets t c
    refine (viewOf_countUrgent ..).trans ?_
    unfold viewOf t
    rw [State.modPort_same]
    exact Prod.ext (raised_slots ..) rfl

/-! ### Taken -/

/-- A request of port `p` takes its place. -/
def staged (s : State) (p : Port) (k : ReqKind) (w : Slot) (data : List Block) : State :=
  s.tick.modPort p fun q =>
    { spendCredit (creditClass k w) q with
        staging := s.ports[p].staging ++
          [{ kind := k, slot := w, data := data, ord := s.nextId, bar := s.ports[p].lastBar, arrived := s.now }]
        tags := q.tags ++ [slotTag w]
        undrained := if isWrite k then q.undrained ++ [s.nextId] else q.undrained
        unacked := if isWrite k then q.unacked ++ [s.nextId] else q.unacked
        lastBar := if isBar k then s.nextId else q.lastBar }

theorem stageReq_view (s : State) (p : Port) (k : ReqKind) (w : Slot) (data : List Block) :
    viewOf p (stageReq s p k w data) = viewOf p (staged s p k w data) := by
  unfold stageReq
  extract_lets ord q e t
  exact viewOf_ite p (s := t) ((viewOf_urgentArrives ..).trans (foldl_keeps (viewOf p) _ (viewOf_raiseReq p) _ t)) rfl

theorem spendCredit_credits (c : Nat) (q : PortSt) (i : Fin 3) :
    (spendCredit c q).credits[i] = if c = i.val then q.credits[i] - 1 else q.credits[i] := by
  unfold spendCredit
  by_cases hc : c < 3
  · rw [dif_pos hc]
    by_cases hi : c = i.val
    · subst hi
      rw [if_pos rfl]
      exact Vector.getElem_set_self _
    · rw [if_neg hi]
      exact Vector.getElem_set_ne hc i.isLt hi
  · rw [dif_neg hc, if_neg (by omega)]

theorem staged_view (s : State) (p : Port) (k : ReqKind) (w : Slot) (data : List Block) :
    viewOf p (staged s p k w data) = (s.ports[p].staging.map (·.slot) ++ [w], s.ports[p].tags ++ [slotTag w], s.ports[p].egress,
      (spendCredit (creditClass k w) s.ports[p]).credits) := by
  unfold viewOf staged
  rw [State.modPort_same]
  refine Prod.ext List.map_append (Prod.ext rfl (Prod.ext (spendCredit_egress ..) rfl))

theorem hadCredit_eq {q : PortSt} {c : Nat} {i : Fin 3} (h : c = i.val) : hadCredit q c = decide (0 < q.credits[i]) := by
  subst h
  exact dif_pos i.isLt

theorem arrive_taken {s : State} {p : Port} {k : ReqKind} {w : Slot} (data : List Block)
    (htag : s.ports[p].tags.contains (slotTag w) = false) (hform : badFormat k w = false)
    (hcred : hadCredit s.ports[p] (creditClass k w) = true) : arrive s p k w data = stageReq s p k w data := by
  unfold arrive
  dsimp only
  rw [if_neg (by rw [htag]; decide), if_neg (by rw [hcred]; simp), if_neg (by rw [hform]; decide)]

/-! ### Refused -/

/-- A request that fails a check of R91 is dropped with an event. -/
theorem arrive_refused {s : State} {p : Port} {k : ReqKind} {w : Slot} (data : List Block)
    (h : s.ports[p].tags.contains (slotTag w) = true ∨ badFormat k w = true ∨
      ∃ c : Fin 3, creditClass k w = c.val ∧ s.ports[p].credits[c] = 0) :
    ∃ code arg, arrive s p k w data =
      protoEvent (dropReq s p k w (s.ports[p].tags.contains (slotTag w))) p code arg := by
  unfold arrive
  dsimp only
  by_cases htag : s.ports[p].tags.contains (slotTag w) = true
  · rw [if_pos htag, htag]
    exact ⟨_, _, rfl⟩
  rw [if_neg htag, Bool.eq_false_iff.mpr htag]
  by_cases hcred : (decide (creditClass k w < 3) && !hadCredit s.ports[p] (creditClass k w)) = true
  · rw [if_pos hcred]
    exact ⟨_, _, rfl⟩
  rw [if_neg hcred]
  have hform : badFormat k w = true := by
    rcases h with h | h | ⟨c, hc, hnone⟩
    · exact absurd h htag
    · exact h
    · refine absurd ?_ hcred
      rw [hadCredit_eq hc, hnone, hc]
      simp
  rw [if_pos hform]
  exact ⟨_, _, rfl⟩

theorem respond_staging (s : State) (p : Port) (r : Resp) : (respond s p r).ports[p].staging = s.ports[p].staging := by
  rw [respond_port]

theorem dropReq_staging (s : State) (p : Port) (k : ReqKind) (w : Slot) (dup : Bool) :
    (dropReq s p k w dup).ports[p].staging = s.ports[p].staging := by
  unfold dropReq
  extract_lets c t
  rw [respond_staging]
  unfold t
  rw [State.modPort_same]
  have hcredit : (if hadCredit s.ports[p] c = true then returnCredit c (spendCredit c s.ports[p]) else s.ports[p]).staging =
      s.ports[p].staging := by
    split
    · rw [returnCredit_staging]
      unfold spendCredit
      split <;> rfl
    · rfl
  cases dup <;> exact hcredit

/-- Settles O6, by the checks of R91 in `arrive`. -/
theorem requestsAreTakenOrRefused : Obligations.RequestsAreTakenOrRefused := by
  unfold Obligations.RequestsAreTakenOrRefused
  refine ⟨fun k p w fl s hacc htag hform hcred hclass => ?_, fun k p w fl s hacc hbad => ?_⟩
  · obtain ⟨data, hexec⟩ := exec_portRequest hacc k w fl
    have hhad : hadCredit s.ports[p] (creditClass k w) = true :=
      (hadCredit_eq (i := ⟨creditClass k w, hclass⟩) rfl).trans (decide_eq_true (hcred ⟨_, hclass⟩ rfl))
    refine ⟨_, hexec, ?_⟩
    rw [arrive_taken data htag hform hhad]
    have hview := (stageReq_view s p k w data).trans (staged_view s p k w data)
    refine ⟨(congrArg (·.1) hview :), (congrArg (·.2.1) hview :), (congrArg (·.2.2.1) hview :), fun c => ?_⟩
    exact (congrArg (fun v => v.2.2.2[c]) hview).trans (spendCredit_credits ..)
  · obtain ⟨data, hexec⟩ := exec_portRequest hacc k w fl
    obtain ⟨code, arg, hdrop⟩ := arrive_refused data hbad
    rw [hdrop] at hexec
    have hev : EvKeeps (dropReq s p k w (s.ports[p].tags.contains (slotTag w))) (protoEvent _ p code arg) := raiseLim_ev ..
    refine ⟨_, hexec, ?_, ?_, rfl⟩
    · rw [staging_of_core (hev.core p), dropReq_staging]
    · rw [protoEvent_egress, dropReq_egress]

end Sys2Proof.Machine
end

section
/-! Link slots, link checks, sends and resends of a port (O8, R57, R60, R73, R82, R84, R88). -/

namespace Sys2Proof.Machine

/-! ### Repairs that are over -/

theorem settleLink_links (s : State) (p : Port) : (settleLink s p).links = s.links := by
  unfold settleLink
  split <;> rfl

/-- The end of the repairs changes the link state of a port alone. -/
theorem settleLink_port (s : State) (p : Port) : ∃ l, (settleLink s p).ports[p] = { s.ports[p] with link := l } := by
  unfold settleLink
  split
  · exact ⟨.up, State.modPort_same ..⟩
  · exact ⟨s.ports[p].link, rfl⟩

theorem repairStep_idle {s : State} {p : Port} (h : s.links[p].repairQ = []) : repairStep s p = settleLink s p := by
  unfold repairStep nextRepair
  split
  · rfl
  · rw [h]

/-! ### NOP -/

theorem linkFields_replay (w : Slot) (l : LinkSt) : (linkFields w l).replay = ackFlits l.replay (slotAckSeq w) := by
  unfold linkFields
  extract_lets
  split <;> rfl

theorem linkFields_repairQ (w : Slot) (l : LinkSt) : (linkFields w l).repairQ = l.repairQ := by
  unfold linkFields
  extract_lets
  split <;> rfl

theorem linkSlot_port (s : State) (p : Port) (w : Slot) (shadowed : Bool) :
    (linkSlot s p w shadowed).ports[p] = { s.ports[p] with sigCred := s.ports[p].sigCred + slotSigCrd w } := by
  have h : (s.modPort p fun q => { q with sigCred := q.sigCred + slotSigCrd w }).ports[p] =
      { s.ports[p] with sigCred := s.ports[p].sigCred + slotSigCrd w } := State.modPort_same ..
  unfold linkSlot
  extract_lets t
  split <;> exact h

theorem linkSlot_link (s : State) (p : Port) (w : Slot) (shadowed : Bool) : (linkSlot s p w shadowed).links[p] =
    if slotAckValid w && !shadowed then linkFields w s.links[p] else s.links[p] := by
  unfold linkSlot
  extract_lets t
  split
  · exact State.modLink_same ..
  · rfl

/-- A NOP slot at a port with no repair waiting (R58, R82). -/
theorem nop_parts {s : State} {p : Port} (w : Slot) (shadowed : Bool) (h : s.links[p].repairQ = []) :
    (repairStep (linkSlot s p w shadowed) p).ports[p].sigCred = s.ports[p].sigCred + slotSigCrd w ∧
    (repairStep (linkSlot s p w shadowed) p).ports[p].staging = s.ports[p].staging ∧
    (repairStep (linkSlot s p w shadowed) p).links[p].replay =
      if slotAckValid w && !shadowed then ackFlits s.links[p].replay (slotAckSeq w) else s.links[p].replay := by
  have hlink := linkSlot_link s p w shadowed
  have hidle : (linkSlot s p w shadowed).links[p].repairQ = [] := by
    rw [hlink]
    split
    · exact (linkFields_repairQ ..).trans h
    · exact h
  obtain ⟨l, hport⟩ := settleLink_port (linkSlot s p w shadowed) p
  rw [repairStep_idle hidle, hport, linkSlot_port, settleLink_links, hlink]
  refine ⟨rfl, rfl, ?_⟩
  split
  · exact linkFields_replay ..
  · rfl

/-! ### Events of a request -/

theorem raiseLim_next {s : State} {key period : Nat} (hdue : (limitDue s key period).isSome = true) (hd : s.seq.decided = true)
    (src code sev a0 a1 sup : Nat) (j : Bool) : s.seq.next < (raiseLim s key period src code sev a0 a1 sup j).seq.next := by
  obtain ⟨c, hc⟩ := Option.isSome_iff_exists.mp hdue
  unfold raiseLim
  rw [hc]
  exact raiseX_next (limitSet s key (s.now + 1, 0)) _ _ _ _ _ _ _ _ hd

/-! ### New flits -/

theorem sendOut_lastSent (l : LinkSt) (map : Vector (Option Nat) 4) (fs : List TxFlit) : (sendOut l map fs).lastSent = fs := by
  unfold sendOut
  exact List.foldlRecOn (motive := fun x : LinkSt => x.lastSent = fs) _ _ rfl fun x hx _ _ => hx

theorem newFlits_flit (seq : Nat) (fs : List Block) : (newFlits seq fs).map (·.flit) = fs := by
  unfold newFlits
  rw [List.map_map]
  exact List.zipIdx_map_fst 0 fs

/-- New flits wait in the replay buffer, carry the ACK due and give the freed credits back (R57, R89). -/
theorem sendFlits_parts (s : State) (p : Port) (fs : List Block) :
    (sendFlits s p fs).links[p].lastSent.map (·.flit) = fs ∧
    (sendFlits s p fs).links[p].replay = s.links[p].replay ++ (sendFlits s p fs).links[p].lastSent ∧
    (sendFlits s p fs).links[p].ackPending = false ∧
    ∃ credits returns, (∀ c : Fin 3, credits[c] = s.ports[p].credits[c] + min 255 s.ports[p].returns[c]) ∧
      (sendFlits s p fs).ports[p] = { s.ports[p] with credits := credits, returns := returns } := by
  unfold sendFlits
  extract_lets give t fs'
  have hlast : (t.modLink p fun l => { sendOut l t.ports[p].mapUp fs' with
      replay := l.replay ++ fs', txSeq := (l.txSeq + fs.length) % 256, ackPending := false, nakPending := false }).links[p].lastSent =
        fs' := by
    rw [State.modLink_same]
    exact sendOut_lastSent ..
  refine ⟨?_, ?_, ?_, Vector.ofFn fun i : Fin 3 => s.ports[p].credits[i] + min 255 s.ports[p].returns[i],
    Vector.ofFn fun i : Fin 3 => s.ports[p].returns[i] - min 255 s.ports[p].returns[i], fun c => Vector.getElem_ofFn c.isLt,
    State.modPort_same ..⟩
  · rw [hlast]
    exact newFlits_flit ..
  · rw [hlast, State.modLink_same]
    rfl
  · rw [State.modLink_same]

/-- A response leaves with its data; its tag is free unless it answers a repeated one (R88). -/
theorem sendResp_parts (s : State) (p : Port) (r : Resp) :
    (sendResp s p r).ports[p].egress = s.ports[p].egress.erase r ∧
    (sendResp s p r).ports[p].tags = (if r.dup then s.ports[p].tags else s.ports[p].tags.erase r.tag) ∧
    (sendResp s p r).links[p].lastSent.map (·.flit) = headerFlit (crdSlot s p) (respSlot r) :: r.data ∧
    (sendResp s p r).links[p].replay = s.links[p].replay ++ (sendResp s p r).links[p].lastSent := by
  unfold sendResp
  extract_lets crd t u
  have hports : (if (r.urgent && decide (r.status ≠ stProto)) = true then urgentSent u r else u).ports = u.ports := by
    split
    · exact (urgentSent_mv ..).ports.resolve_left (by decide)
    · rfl
  have hlinks : (if (r.urgent && decide (r.status ≠ stProto)) = true then urgentSent u r else u).links = u.links := by
    split
    · exact (urgentSent_mv ..).links.resolve_left (by decide)
    · rfl
  obtain ⟨hlast, hreplay, -, credits, returns, -, hport⟩ := sendFlits_parts t p (headerFlit crd (respSlot r) :: r.data)
  have ht : t.ports[p] = { s.ports[p] with
      egress := s.ports[p].egress.erase r
      tags := if r.dup then s.ports[p].tags else s.ports[p].tags.erase r.tag
      unacked := if isWrite r.kind then s.ports[p].unacked.filter (fun o => decide (o ≠ r.ord)) else s.ports[p].unacked } :=
    State.modPort_same ..
  rw [hports, hlinks, hport, ht]
  exact ⟨rfl, rfl, hlast, hreplay⟩

/-! ### Link checks -/

theorem flitAccept_link (s : State) (p : Port) (f : Block) (check : Word) :
    (flitAccept s p f check).links[p].rxSeq = (s.links[p].rxSeq + 1) % 256 ∧ (flitAccept s p f check).links[p].ackPending = true ∧
    (flitAccept s p f check).links[p].failCount = 0 ∧ (flitAccept s p f check).links[p].repairQ = s.links[p].repairQ := by
  unfold flitAccept
  rw [State.modLink_same]
  exact ⟨rfl, rfl, rfl, rfl⟩

theorem flitReject_link (s : State) (p : Port) (f : Block) (check : Word) :
    (flitReject s p f check).links[p].rxSeq = s.links[p].rxSeq ∧ (flitReject s p f check).links[p].nakPending = true ∧
    (flitReject s p f check).links[p].failCount = s.links[p].failCount + 1 := by
  unfold flitReject
  extract_lets t
  have ht : t.links[p].rxSeq = s.links[p].rxSeq ∧ t.links[p].nakPending = true ∧
      t.links[p].failCount = s.links[p].failCount + 1 := by
    unfold t
    rw [State.modLink_same]
    exact ⟨rfl, rfl, rfl⟩
  exact ht

/-! ### Resends -/

theorem linkReplay_links (s : State) (p : Port) : (linkReplay s p).links = s.links :=
  (linkReplay_mv ..).links.resolve_left (by decide)

/-- A resend sends the held flits from a number on, and holds them still (R60). -/
theorem resend_link (s : State) (p : Port) (q : Nat) :
    (resend s p q).links[p].resendFrom = none ∧ (resend s p q).links[p].replay = s.links[p].replay ∧
    (resend s p q).links[p].lastSent = s.links[p].replay.dropWhile fun f => decide (f.seq ≠ q) := by
  unfold resend
  extract_lets fs t
  have ht : t.links[p].resendFrom = none ∧ t.links[p].replay = s.links[p].replay ∧ t.links[p].lastSent = fs := by
    unfold t
    rw [State.modLink_same]
    refine ⟨rfl, ?_, sendOut_lastSent ..⟩
    exact List.foldlRecOn (motive := fun x : LinkSt => x.replay = s.links[p].replay) _ _ rfl fun x hx _ _ => hx
  rw [linkReplay_links]
  exact ht

theorem exec_resendStart {s : State} {p : Port} {q : Nat} (hlive : linkLive s p = true) (hmuted : s.links[p].muted = false)
    (h : resendPoint s.links[p] = some q) : exec (.resendStart p) s = .next (resend s p q) := by
  show execResendStart p s = _
  unfold execResendStart
  rw [h]
  exact if_pos (by rw [hlive, hmuted]; rfl)

theorem not_muted_of_sendsNew {s : State} {p : Port} (h : sendsNew s p = true) : (linkLive s p && s.links[p].muted) = false := by
  obtain ⟨h, -⟩ := Bool.and_eq_true_iff.mp h
  obtain ⟨-, hmuted⟩ := Bool.and_eq_true_iff.mp h
  rw [Bool.not_eq_true'] at hmuted
  rw [hmuted, Bool.and_false]

theorem exec_sendResp {s : State} {p : Port} (hsends : sendsNew s p = true) {r : Resp} (h : nextResp s.ports[p] = some r)
    (hroom : txRoom s p (1 + r.data.length) = true) : exec (.upstreamResponseSend p) s = .next (sendResp s p r) := by
  show execUpstreamResponseSend p s = _
  unfold execUpstreamResponseSend
  rw [if_neg (by rw [not_muted_of_sendsNew hsends]; decide), h]
  exact if_pos (by rw [hsends, hroom]; rfl)

theorem exec_sendIdle {s : State} {p : Port} (hsends : sendsNew s p = true) (h : nextResp s.ports[p] = none)
    (hroom : txRoom s p 1 = true) :
    exec (.upstreamResponseSend p) s = .next (sendFlits s p [headerFlit (crdSlot s p) 0]) := by
  show execUpstreamResponseSend p s = _
  unfold execUpstreamResponseSend
  rw [if_neg (by rw [not_muted_of_sendsNew hsends]; decide), h]
  exact if_pos (by rw [hsends, hroom]; rfl)

/-- Settles O8, command by command. -/
theorem linkSlotsChecksAndResends : Obligations.LinkSlotsChecksAndResends := by
  unfold Obligations.LinkSlotsChecksAndResends
  refine ⟨?nop, ?unlisted, ?resp, ?idle, ?sig, ?check, ?asked, ?full⟩
  case nop => exact fun p w shadowed s hacc hidle => Answers.does hacc rfl (nop_parts w shadowed hidle)
  case unlisted =>
    intro p w s hacc hopc
    refine Answers.does (by rw [hacc, decide_eq_true hopc]; rfl) rfl ?_
    have hev : EvKeeps s (protoEvent s p 0x0107 (bitsOf w.toNat 0 64)) := raiseLim_ev ..
    exact ⟨staging_of_core (hev.core p), (congrArg PortSt.tags (hev.core p) :), hev.links, hev.pcs,
      fun hd hdue => raiseLim_next hdue hd ..⟩
  case resp =>
    exact fun p r s hsends hnext hroom => ⟨_, exec_sendResp hsends hnext hroom, sendResp_parts s p r⟩
  case idle =>
    intro p s hsends hnext hroom
    obtain ⟨hlast, -, hack, credits, returns, hcredits, hport⟩ := sendFlits_parts s p [headerFlit (crdSlot s p) 0]
    refine ⟨_, exec_sendIdle hsends hnext hroom, hlast, hack, fun c => ?_⟩
    rw [hport]
    exact hcredits c
  case sig =>
    intro p e rest s hsends hwait hcred hroom hstop
    obtain ⟨hlast, -, -, credits, returns, -, hport⟩ := sendFlits_parts
      (s.modPort p fun q => { q with sigWait := rest, sigCred := q.sigCred - 1 }) p [headerFlit (crdSlot s p) (sigSlot e)]
    rw [State.modPort_same] at hport
    refine ⟨_, ?_, ?_, ?_, hlast⟩
    · show execSigSend p s = _
      unfold execSigSend
      rw [hwait]
      exact if_pos (by rw [hsends, hroom, hstop, decide_eq_true hcred]; rfl)
    · rw [hport]
    · rw [hport]
  case check =>
    intro p f c s hlive hrepair hheld hidle
    refine Answers.does hlive rfl ?_
    have hopen : ¬ (s.links[p].repair.isSome || (decide (0 < s.links[p].heldBack) && decide (f = 0) && decide (c = 0))) = true := by
      rw [hrepair, hheld]
      simp
    rw [if_neg hopen]
    by_cases hpass : flitPasses s.links[p].rxSeq f c = true
    · rw [if_pos hpass, if_pos hpass]
      obtain ⟨hseq, hack, hfail, hq⟩ := flitAccept_link s p f c
      rw [repairStep_idle (hq.trans hidle), settleLink_links]
      exact ⟨hseq, hack, hfail⟩
    · rw [if_neg hpass, if_neg hpass]
      exact flitReject_link s p f c
  case asked =>
    intro p q s hlive hmuted hfrom
    have hpoint : resendPoint s.links[p] = some q := by
      unfold resendPoint
      rw [hfrom]
    exact ⟨_, exec_resendStart hlive hmuted hpoint, resend_link s p q⟩
  case full =>
    intro p s hlive hmuted hfrom hfull
    obtain ⟨f, fs, hreplay⟩ := List.exists_cons_of_length_pos (Nat.lt_of_lt_of_le (by decide) hfull)
    have hpoint : resendPoint s.links[p] = some f.seq := by
      unfold resendPoint
      rw [hfrom]
      show (if 32 ≤ s.links[p].replay.length then _ else _) = _
      rw [if_pos hfull, hreplay]
      rfl
    obtain ⟨-, hkept, hlast⟩ := resend_link s p f.seq
    refine ⟨_, exec_resendStart hlive hmuted hpoint, hkept, ?_⟩
    rw [hlast, hreplay, List.dropWhile_cons_of_neg (by simp)]

end Sys2Proof.Machine
end

section
/-! A port fails (O9, R63, R69, R71, R72, R109). -/

namespace Sys2Proof.Machine

theorem noteAll_ports (s : State) : (noteAll s).ports = s.ports := (noteAll_mv s).ports.resolve_left (by decide)

/-- The requests of a port are discarded: staging and egress are empty, its link and its lanes are kept (R98). -/
theorem discardRequests_port (s : State) (p : Port) : ∃ undrained discarded noResp, (discardRequests s p).ports[p] =
    { s.ports[p] with staging := [], egress := [], unacked := [], undrained := undrained, discarded := discarded
                      noResp := noResp } := by
  unfold discardRequests
  extract_lets q gone mine owed performed nq clear wait t _ u
  have hnote : t.ports = s.ports := by
    unfold t
    exact noteAll_ports s
  clear_value t
  have hu : u.ports = s.ports := hnote
  clear_value u
  refine ⟨s.ports[p].undrained.filter (fun o => !gone.contains o), s.ports[p].discarded + gone.length, s.ports[p].noResp + nq, ?_⟩
  rw [State.modPort_same, hu]

theorem discardRequests_links (s : State) (p : Port) : (discardRequests s p).links = s.links :=
  (discardRequests_mv ..).links.resolve_left (by decide)

theorem noteAll_now (s : State) : (noteAll s).now = s.now := by
  unfold noteAll
  refine foldl_keeps State.now noteBreach (fun t n => ?_) _ s
  unfold noteBreach
  split <;> rfl

theorem discardRequests_now (s : State) (p : Port) : (discardRequests s p).now = s.now := by
  unfold discardRequests
  extract_lets q gone mine owed performed nq clear wait t
  have hnote : t.now = s.now := by
    unfold t
    exact noteAll_now s
  clear_value t
  exact hnote

theorem dropMember_core (s : State) (m : Member) (p : Port) : (dropMember s m).ports[p].core = s.ports[p].core := by
  unfold dropMember
  split
  · exact ((raiseJ_ev ..).core p).trans rfl
  · rfl

theorem dropMember_links (s : State) (m : Member) : (dropMember s m).links = s.links :=
  (dropMember_mv ..).links.resolve_left (by decide)

/-- A failed port's link before its failure is reported: no frame is awaited, no repair, no training (R109). -/
def portStopped (s : State) (p : Port) (reason : Nat) : State :=
  (s.modPort p fun q => { q with link := .failed, failReason := reason, resetting := false }).modLink p fun l =>
    { l with pctl := none, repair := none, repairQ := [], heldBack := 0, muted := false, upHeld := none, trn := .idle, gen := none }

/-- A failure is reported to the host and as an event. -/
def failureReported (s : State) (p : Port) (reason seq : Nat) (send : Bool) : State :=
  raiseJ (if send then pctlSend s p 0x05 reason false else s) (portSrc p 3) 0x0104 sevError reason seq

theorem failPort_eq (s : State) (p : Port) (reason : Nat) (send : Bool) : failPort s p reason send =
    if reason = 2 then
      discardRequests (dropMember (failureReported (portStopped s p reason) p reason s.links[p].rxSeq send) ⟨p.val, by omega⟩) p
    else failureReported (portStopped s p reason) p reason s.links[p].rxSeq send := rfl

/-- A port in the state of a failed link. -/
structure PortFailed (s : State) (p : Port) (reason : Nat) : Prop where
  link : s.ports[p].link = .failed
  failReason : s.ports[p].failReason = reason
  trn : s.links[p].trn = .idle

theorem failureReported_core (s : State) (p : Port) (reason seq : Nat) (send : Bool) :
    (failureReported s p reason seq send).ports[p].core = s.ports[p].core := by
  unfold failureReported
  split
  · exact (raiseJ_ev ..).core p
  · exact (raiseJ_ev ..).core p

theorem failureReported_link (s : State) (p : Port) (reason seq : Nat) (send : Bool) :
    (failureReported s p reason seq send).links[p].trn = s.links[p].trn ∧
    (send = true → (failureReported s p reason seq send).links[p].pctlUp = some (0x05, reason)) := by
  unfold failureReported
  rw [(raiseJ_ev ..).links]
  split
  · unfold pctlSend
    rw [State.modLink_same]
    exact ⟨rfl, fun _ => rfl⟩
  next h => exact ⟨rfl, fun hsend => absurd hsend h⟩

theorem portFailed_of_core {s t : State} {p : Port} {reason : Nat} (h : PortFailed s p reason)
    (hcore : t.ports[p].core = s.ports[p].core) (hlink : t.links[p].trn = s.links[p].trn) : PortFailed t p reason :=
  ⟨(congrArg PortSt.link hcore :).trans h.link, (congrArg PortSt.failReason hcore :).trans h.failReason, hlink.trans h.trn⟩

theorem portStopped_failed (s : State) (p : Port) (reason : Nat) : PortFailed (portStopped s p reason) p reason := by
  unfold portStopped
  refine ⟨?_, ?_, by rw [State.modLink_same]⟩
  · rw [State.modLink_ports, State.modPort_same]
  · rw [State.modLink_ports, State.modPort_same]

/-- What a failure of a port leaves (R98, R109). -/
theorem failPort_parts (s : State) (p : Port) (reason : Nat) (send : Bool) :
    PortFailed (failPort s p reason send) p reason ∧
    (send = true → (failPort s p reason send).links[p].pctlUp = some (0x05, reason)) ∧
    (reason = 2 → (failPort s p reason send).ports[p].staging = []) := by
  rw [failPort_eq]
  obtain ⟨htrn, hframe⟩ := failureReported_link (portStopped s p reason) p reason s.links[p].rxSeq send
  have hfailed := portFailed_of_core (portStopped_failed s p reason) (failureReported_core ..) htrn
  generalize failureReported (portStopped s p reason) p reason s.links[p].rxSeq send = t at hframe hfailed
  split
  · obtain ⟨undrained, discarded, noResp, hport⟩ := discardRequests_port (dropMember t ⟨p.val, by omega⟩) p
    have hlinks : (discardRequests (dropMember t ⟨p.val, by omega⟩) p).links = t.links :=
      (discardRequests_links ..).trans (dropMember_links ..)
    have hdropped : PortFailed (dropMember t ⟨p.val, by omega⟩) p reason :=
      portFailed_of_core hfailed (dropMember_core ..) (by rw [dropMember_links])
    refine ⟨⟨?_, ?_, ?_⟩, ?_, ?_⟩
    · rw [hport]
      exact hdropped.link
    · rw [hport]
      exact hdropped.failReason
    · rw [hlinks]
      exact hfailed.trn
    · exact fun hsend => (congrArg (fun l : Vector LinkSt 16 => l[p].pctlUp) hlinks).trans (hframe hsend)
    · rw [hport]
      exact fun _ => rfl
  next hne => exact ⟨hfailed, hframe, fun h => absurd h hne⟩

/-! ### The settled statement -/

/-- A port that has not failed for good (R69). -/
theorem not_exhausted {q : PortSt} (h : ¬ (q.link = .failed ∧ q.failReason = 2)) :
    (q.link == .failed && decide (q.failReason = 2)) = false := by
  simpa using h

/-- A frame is sent again. -/
def frameRepeated (s : State) (p : Port) (w : PctlWait) : State :=
  (pctlSend s p w.cmd w.arg false).modLink p fun l => { l with pctl := some { w with sentAt := s.now, repeats := w.repeats + 1 } }

theorem frameRepeated_link (s : State) (p : Port) (w : PctlWait) :
    (frameRepeated s p w).links[p].pctl = some { w with sentAt := s.now, repeats := w.repeats + 1 } ∧
    (frameRepeated s p w).links[p].pctlUp = some (w.cmd, w.arg) := by
  unfold frameRepeated
  rw [State.modLink_same]
  unfold pctlSend
  rw [State.modLink_same]
  exact ⟨rfl, rfl⟩

theorem failPort_now (s : State) (p : Port) (reason : Nat) (send : Bool) : (failPort s p reason send).now = s.now := by
  rw [failPort_eq]
  have hrep (t : State) : (failureReported t p reason s.links[p].rxSeq send).now = t.now := by
    unfold failureReported
    split <;> exact (raiseJ_ev ..).now
  split
  · have hdrop (t : State) : (dropMember t ⟨p.val, by omega⟩).now = t.now := by
      unfold dropMember
      split
      · exact (raiseJ_ev ..).now
      · rfl
    rw [discardRequests_now, hdrop, hrep]
    rfl
  · exact hrep _

/-- Settles O9, command by command with `failPort_parts`. -/
theorem portFailures : Obligations.PortFailures := by
  unfold Obligations.PortFailures
  refine ⟨?storm, ?hck, ?host, ?training, ?timeout⟩
  case storm =>
    intro p s hlive hcopies
    obtain ⟨hfailed, hframe, -⟩ := failPort_parts s p 1 true
    exact Answers.does (by rw [hlive, decide_eq_true hcopies]; rfl) rfl ⟨hfailed.link, hfailed.failReason, hframe rfl⟩
  case hck =>
    intro p s hdown hgood
    obtain ⟨hfailed, hframe, hstaging⟩ := failPort_parts s p 2 true
    refine Answers.does ?_ rfl ⟨hfailed.link, hfailed.failReason, hstaging rfl, hframe rfl⟩
    rw [beq_eq_false_iff_ne.mpr hdown, not_exhausted hgood]
    rfl
  case host =>
    intro p arg s hlow hhigh hdown hgood
    obtain ⟨hfailed, -, -⟩ := failPort_parts s p arg.toNat false
    refine Answers.does ?_ rfl ⟨hfailed.link, hfailed.failReason⟩
    rw [beq_eq_false_iff_ne.mpr hdown, beq_eq_false_iff_ne.mpr hgood, decide_eq_true hlow, decide_eq_true hhigh]
    rfl
  case training =>
    intro p arg s htrn
    obtain ⟨hfailed, -, -⟩ := failPort_parts (raise s (portSrc p 9) 0x0111 sevError (arg.toNat % 8) 1) p 3 false
    refine ⟨_, ?_, hfailed.link, hfailed.failReason, hfailed.trn⟩
    show execTrnFail p arg s = _
    unfold execTrnFail
    split
    next h => exact absurd h htrn
    · rfl
  case timeout =>
    intro p w s hw
    have hexec : exec (.pctlAnswerTimeout p) s = .next (if w.repeats < 3 then frameRepeated (s.atLeast (w.sentAt + 3200)) p w
        else failPort (s.atLeast (w.sentAt + 3200)) p 3 true) := by
      show execPctlAnswerTimeout p s = _
      unfold execPctlAnswerTimeout
      rw [hw]
      rfl
    have hlate : w.sentAt + 3200 ≤ (s.atLeast (w.sentAt + 3200)).now := le_atLeast_now ..
    by_cases hfew : w.repeats < 3
    · rw [if_pos hfew] at hexec
      exact ⟨_, hexec, hlate, (if_pos hfew).mpr (frameRepeated_link ..)⟩
    · rw [if_neg hfew] at hexec
      obtain ⟨hfailed, -, -⟩ := failPort_parts (s.atLeast (w.sentAt + 3200)) p 3 true
      exact ⟨_, hexec, (failPort_now ..).symm ▸ hlate, (if_neg hfew).mpr ⟨hfailed.link, hfailed.failReason⟩⟩

end Sys2Proof.Machine
end

section
/-! PCTL frames of a training (O11, R71, R108 to R110, R115). -/

namespace Sys2Proof.Machine

/-! ### Invalid frames -/

/-- A frame with a wrong CRC-8 is counted (R71). -/
def frameCounted (s : State) (p : Port) (bad : Bool) : State :=
  if bad then s.modLink p fun l => { l with pctlBad := l.pctlBad + 1 } else s

theorem frameCounted_parts (s : State) (p : Port) (bad : Bool) :
    (frameCounted s p bad).links[p].pctlBad = s.links[p].pctlBad + b2n bad ∧
    (frameCounted s p bad).links[p].trn = s.links[p].trn ∧ (frameCounted s p bad).ports = s.ports ∧
    (frameCounted s p bad).seq = s.seq := by
  unfold frameCounted
  cases bad
  · exact ⟨rfl, rfl, rfl, rfl⟩
  · rw [if_pos rfl, State.modLink_same]
    exact ⟨rfl, rfl, rfl, rfl⟩

/-! ### The downstream steps -/

theorem patWords_sent (p : Port) (l : List Nat) (s : State) :
    (l.foldl (fun s w => pctlSend s p 0x13 w false) s).now = s.now ∧
    (l.foldl (fun s w => pctlSend s p 0x13 w false) s).regs = s.regs ∧
    (l.foldl (fun s w => pctlSend s p 0x13 w false) s).links[p].pctl = s.links[p].pctl := by
  refine List.foldlRecOn (motive := fun t : State => t.now = s.now ∧ t.regs = s.regs ∧ t.links[p].pctl = s.links[p].pctl) _ _
    ⟨rfl, rfl, rfl⟩ fun t ht w _ => ?_
  obtain ⟨hnow, hregs, hpctl⟩ := ht
  refine ⟨hnow, hregs, ?_⟩
  unfold pctlSend
  rw [State.modLink_same]
  exact hpctl

/-- A downstream step lasts its dwells and awaits no frame (R108 to R110). -/
theorem downStep_parts (p : Port) (s : State) (step : Nat) :
    (downStep p s step).now = s.now + stepDwells step * dwellCclk s ∧ dwellCclk (downStep p s step) = dwellCclk s ∧
    (downStep p s step).links[p].pctl = s.links[p].pctl := by
  unfold downStep
  extract_lets t u
  have ht : t.now = s.now ∧ t.regs = s.regs ∧ t.links[p].pctl = s.links[p].pctl := by
    unfold t
    split
    · exact patWords_sent p patWords s
    · exact ⟨rfl, rfl, rfl⟩
  clear_value t
  obtain ⟨hnow, hregs, hpctl⟩ := ht
  have hdwell (x : State) (hx : x.regs = s.regs) : dwellCclk x = dwellCclk s := by
    unfold dwellCclk csrFld
    rw [csrGet_of_regs hx]
  refine ⟨?_, ?_, ?_⟩
  · rw [State.atLeast_now, hdwell u hregs, show u.now = s.now from hnow]
    exact Nat.max_eq_right (Nat.le_add_right ..)
  · unfold dwellCclk csrFld
    rw [csrGet_atLeast]
    exact hdwell u hregs
  · rw [State.atLeast_links]
    unfold u pctlSend
    rw [State.modLink_same]
    exact hpctl

/-- The dwells of the downstream steps, one after the other. -/
theorem downSteps_parts (p : Port) (l : List Nat) (s : State) :
    (l.foldl (downStep p) s).now = s.now + (l.map stepDwells).sum * dwellCclk s ∧
    (l.foldl (downStep p) s).links[p].pctl = s.links[p].pctl := by
  induction l generalizing s with
  | nil => exact ⟨by simp, rfl⟩
  | cons step l ih =>
    obtain ⟨hnow, hdwell, hpctl⟩ := downStep_parts p s step
    obtain ⟨hnows, hpctls⟩ := ih (downStep p s step)
    refine ⟨?_, hpctls.trans hpctl⟩
    rw [List.foldl_cons, hnows, hnow, hdwell, List.map_cons, List.sum_cons]
    grind

theorem trnSteps_dwells (fast : Bool) : ((trnSteps fast).map stepDwells).sum = if fast then 11 else 588 := by
  cases fast <;> rfl

/-- An upstream step opens with its frame (R108). -/
theorem openStep_link (s : State) (p : Port) (fast : Bool) (step : Nat) :
    (openStep s p fast step).links[p].trn = .running fast step true s.now ∧
    (openStep s p fast step).links[p].pctlUp = some (0x12, phaseArg step 1) ∧
    (openStep s p fast step).links[p].pctl = s.links[p].pctl := by
  unfold openStep pctlSend
  rw [State.modLink_same, State.modLink_same]
  exact ⟨rfl, rfl, rfl⟩

/-- The handshake opens: the downstream steps have run, the first upstream step begins (R109). -/
theorem trnReady_parts (s : State) (p : Port) (fast : Bool) :
    (trnReady s p fast).links[p].trn = .running fast 1 true (trnReady s p fast).now ∧
    (trnReady s p fast).links[p].pctlUp = some (0x12, phaseArg 1 1) ∧ (trnReady s p fast).links[p].pctl = none ∧
    (trnReady s p fast).now = s.now + (if fast then 11 else 588) * dwellCclk s := by
  unfold trnReady
  extract_lets t
  obtain ⟨hnow, hpctl⟩ := downSteps_parts p (trnSteps fast) t
  have hnone : t.links[p].pctl = none := by
    unfold t
    rw [State.modLink_same]
  generalize (trnSteps fast).foldl (downStep p) t = u at hnow hpctl
  obtain ⟨htrn, hframe, hkept⟩ := openStep_link u p fast 1
  refine ⟨htrn, hframe, hkept.trans (hpctl.trans hnone), hnow.trans ?_⟩
  rw [trnSteps_dwells]
  rfl

/-! ### The settled statement -/

/-- Settles O11, frame by frame. -/
theorem pctlTrainingFrames : Obligations.PctlTrainingFrames := by
  unfold Obligations.PctlTrainingFrames
  refine ⟨?invalid, ?ack, ?phase, ?lane⟩
  case invalid =>
    intro p cmd arg crc s hbad
    have hdo : (decide (pctlCrc cmd arg ≠ crc.toNat) || !pctlKnown cmd.toNat) = true := by
      rcases hbad with h | h
      · rw [decide_eq_true h, Bool.true_or]
      · rw [h, Bool.not_false, Bool.or_true]
    obtain ⟨hcount, htrn, hports, hseq⟩ := frameCounted_parts s p (decide (pctlCrc cmd arg ≠ crc.toNat))
    have hev := raise_ev (frameCounted s p (decide (pctlCrc cmd arg ≠ crc.toNat))) (portSrc p 7) 0x010A sevInfo
      (cmd.toNat + arg.toNat * 256) (if decide (pctlCrc cmd arg ≠ crc.toNat) then 0 else 1)
    refine Answers.does hdo rfl ⟨?_, ?_, ?_, fun hd => raise_next hseq hd⟩
    · exact (congrArg (fun l : Vector LinkSt 16 => l[p].pctlBad) hev.links).trans hcount
    · exact (congrArg PortSt.link (hev.core p) :).trans (congrArg (fun l : Vector PortSt 16 => l[p].link) hports)
    · exact (congrArg (fun l : Vector LinkSt 16 => l[p].trn) hev.links).trans htrn
  case ack =>
    intro p arg fast s htrn hup
    refine ⟨trnReady s p fast, ?_, trnReady_parts s p fast⟩
    show execTrnAck p arg s = _
    unfold execTrnAck
    rw [htrn]
    exact if_pos hup
  case phase =>
    intro p arg fast step at_ s htrn hstep
    have hexec : exec (.phaseDone p arg) s = match nextStep fast step with
        | some k => .next (openStep s p fast k)
        | none => .next (s.modLink p fun l => { l with trn := .done fast, gen := none }) := by
      show execPhaseDone p arg s = _
      unfold execPhaseDone
      rw [htrn]
      exact if_pos hstep
    cases hnext : nextStep fast step with
    | some k =>
      rw [hnext] at hexec
      exact ⟨_, hexec, (openStep_link s p fast k).1⟩
    | none =>
      rw [hnext] at hexec
      exact ⟨_, hexec, (congrArg LinkSt.trn (State.modLink_same ..) :)⟩
  case lane =>
    intro p arg fast dir step at_ s htrn hlane
    refine ⟨s.modLink p fun l => { l with upBad := setInsert l.upBad (bitsOf arg.toNat 0 7) }, ?_,
      (congrArg LinkSt.upBad (State.modLink_same ..) :)⟩
    show execLaneBad p arg s = _
    unfold execLaneBad
    rw [htrn]
    exact if_pos (decide_eq_true hlane)

end Sys2Proof.Machine
end

section
/-! Lane repair and port resets (O10, R65 to R69, R98 to R100). -/

namespace Sys2Proof.Machine

/-! ### What the steps of a repair leave -/

theorem transitSpareTaken_core (s : State) (key : Nat × Nat × Nat) (p : Port) :
    (transitSpareTaken s key).ports[p].core = s.ports[p].core := by
  unfold transitSpareTaken
  split
  · unfold transitAbort
    split
    · rfl
    · extract_lets desc _ t u v w
      have hu : u.ports = s.ports := by
        unfold u
        split
        · exact (marchLost_mv t).ports.resolve_left (by decide)
        · exact foldl_keeps State.ports _ (fun x n => (marchLeaves_mv ..).ports.resolve_left (by decide)) _ t
      have hv : v.ports = s.ports := ((transitRelease_mv u).ports.resolve_left (by decide)).trans hu
      clear_value v
      have hw : w.ports[p].core = v.ports[p].core := (raiseJ_ev ..).core p
      clear_value w
      rw [(transitComplete_mv ..).ports.resolve_left (by decide), hw, hv]
  · rfl

theorem remapEvents_ev (s : State) (p : Port) (arg dir left : Nat) : EvKeeps s (remapEvents s p arg dir left) := by
  unfold remapEvents
  extract_lets t
  have ht : EvKeeps s t := raise_ev ..
  split
  · exact ht.trans (raise_ev ..)
  · exact ht

/-- A repair's events and the record that is due leave links and lane maps alone. -/
theorem repairRecorded_keeps (s : State) (p : Port) (arg dir left : Nat) (rec : Fin 81) :
    (recordDue (remapEvents s p arg dir left) rec true).links = s.links ∧
    (recordDue (remapEvents s p arg dir left) rec true).ports[p].core = s.ports[p].core :=
  ⟨(remapEvents_ev ..).links, (remapEvents_ev ..).core p⟩

/-! ### A downstream lane declared failed -/

theorem ovrMoved_ev (s : State) (key : Nat) : EvKeeps s (ovrMoved s key) := by
  unfold ovrMoved
  split
  · extract_lets region sel
    split
    · exact raise_ev ..
    · exact .refl s
  · exact .refl s

/-- A failed lane's record is its own: another lane's is kept. -/
theorem markLaneFailed_keeps (s : State) (key : Nat) (p : Port) : (markLaneFailed s key).links = s.links ∧
    (markLaneFailed s key).ports[p].core = s.ports[p].core ∧ (markLaneFailed s key).transit = s.transit ∧
    ∀ k, key ≠ k → smGet {} (markLaneFailed s key).train.lanes k = smGet {} s.train.lanes k := by
  have hev := ovrMoved_ev s key
  refine ⟨hev.links, hev.core p, hev.transit, fun k hk => ?_⟩
  refine (smGet_smSet_other hk.symm).trans ?_
  rw [hev.train]

theorem dnBusy_laneErrs (l : LinkSt) (errs : List (Nat × Nat)) : dnBusy { l with laneErrs := errs } = dnBusy l := rfl

/-- The repair of a lane by a spare begins: its REMAP is sent and answered by REMAP_DONE (R66). -/
def laneSwitched (s : State) (p : Port) (i : Fin 4) (arg : Nat) : State :=
  pctlSend (((transitSpareTaken s (p.val, 0, i.val)).modPort p fun q => { q with link := .remap }).modLink p fun l =>
    { l with repair := some arg }) p 0x03 arg true

theorem laneSwitched_parts (s : State) (p : Port) (i : Fin 4) (arg : Nat) : (laneSwitched s p i arg).ports[p].link = .remap ∧
    (laneSwitched s p i arg).links[p].repair = some arg ∧ (laneSwitched s p i arg).links[p].pctlUp = some (0x03, arg) := by
  unfold laneSwitched pctlSend
  rw [State.modLink_ports, State.modLink_ports, State.modPort_same, State.modLink_same, State.modLink_same]
  exact ⟨rfl, rfl, rfl⟩

/-- The lane moves to the spare picked: REMAP goes out (R66, R68). -/
theorem declareLane_parts {s : State} {p : Port} {i : Fin 4} (lane : Nat) (hidle : dnBusy s.links[p] = false)
    (hpick : freeSpare s.ports[p].mapDn (fun i => spareTested s p 0 i || dnSpareBad s p i) = some i) :
    (declareLane s p lane).ports[p].link = .remap ∧ (declareLane s p lane).links[p].repair = some (remapArg lane i.val 0) ∧
    (declareLane s p lane).links[p].pctlUp = some (0x03, remapArg lane i.val 0) := by
  unfold declareLane
  extract_lets t m bad pick
  have hbusy : ¬ dnBusy t.links[p] = true := by
    unfold t
    rw [State.modLink_same, dnBusy_laneErrs, hidle]
    decide
  have hsome : pick = some i := by
    unfold pick
    rw [show freeSpare m (fun i => spareTested t p 0 i || bad i) = some i from hpick]
  rw [if_neg hbusy, hsome]
  exact laneSwitched_parts t p i (remapArg lane i.val 0)

theorem freeSpare_none {f : Nat → Bool} (h : f 0 = false) : freeSpare (Vector.replicate 4 none) f = some 0 := by
  show ((List.finRange 4).find? fun i => (Vector.replicate 4 (none : Option Nat))[i].isNone && !f i.val) = _
  refine List.find?_cons_of_pos ?_
  show (true && !f 0) = true
  rw [h]
  rfl

theorem lanePos_unmapped (lane : Nat) : lanePos (Vector.replicate 4 none) lane = lane := by
  have hnone : (List.finRange 4).reverse.find? (fun i => decide ((Vector.replicate 4 (none : Option Nat))[i] = some lane)) = none := by
    simp
  unfold lanePos
  rw [hnone]

/-! ### Repairs of both directions -/

/-- An upstream lane moves onto its spare: new flits stop, and REMAP_DONE answers (R67). -/
theorem remapUp_parts {s : State} {p : Port} {arg : Nat} {i : Fin 4} (hi : i.val = bitsOf arg 7 2)
    (hleft : sparesLeft s.ports[p].mapUp (upSpareBad s p) ≠ 0) :
    (remapUp s p arg).ports[p].mapUp = remapLane s.ports[p].mapUp (bitsOf arg 0 7) i ∧
    (remapUp s p arg).ports[p].link = .remap ∧ (remapUp s p arg).links[p].muted = true ∧
    (remapUp s p arg).links[p].pctlUp = some (0x04, arg) := by
  unfold remapUp
  extract_lets lane j t left u v w x
  have hj : j = i := Fin.ext ((congrArg (· % 4) hi.symm).trans (Nat.mod_eq_of_lt i.isLt))
  have hmap : t.ports[p].mapUp = s.ports[p].mapUp := (congrArg PortSt.mapUp (transitSpareTaken_core s (p.val, 1, j.val) p) :)
  clear_value t
  obtain ⟨hlinks, hcore⟩ := repairRecorded_keeps w p arg 1 (sparesLeft w.ports[p].mapUp (upSpareBad w p)) ⟨p.val, by omega⟩
  have hport : u.ports[p] = { t.ports[p] with link := .remap, mapUp := remapLane t.ports[p].mapUp lane j } := State.modPort_same ..
  have hmuted : w.links[p].muted = true ∧ w.links[p].pctlUp = some (0x04, arg) := by
    unfold w pctlSend
    rw [State.modLink_same]
    unfold v
    rw [State.modLink_same]
    exact ⟨rfl, rfl⟩
  have hw : w.ports[p] = u.ports[p] := rfl
  rw [if_neg hleft]
  refine ⟨?_, ?_, ?_, ?_⟩
  · refine (congrArg PortSt.mapUp hcore :).trans ?_
    rw [hw, hport, ← hmap, ← hj]
    rfl
  · refine (congrArg PortSt.link hcore :).trans ?_
    rw [hw, hport]
    rfl
  · exact (congrArg (fun l : Vector LinkSt 16 => l[p].muted) hlinks).trans hmuted.1
  · exact (congrArg (fun l : Vector LinkSt 16 => l[p].pctlUp) hlinks).trans hmuted.2

/-- The port is UP again exactly when nothing holds it (R68). -/
theorem settleLink_up_iff {s : State} {p : Port} (hlink : s.ports[p].link = .remap) (hrepair : s.links[p].repair = none) :
    (settleLink s p).ports[p].link = .up ↔
      s.links[p].heldBack = 0 ∧ s.links[p].muted = false ∧ s.links[p].upHeld = none := by
  have hcond : (s.ports[p].link == .remap && !dnBusy s.links[p] && !s.links[p].muted && s.links[p].upHeld.isNone) = true ↔
      s.links[p].heldBack = 0 ∧ s.links[p].muted = false ∧ s.links[p].upHeld = none := by
    rw [hlink]
    generalize s.links[p] = l at hrepair
    simp [dnBusy, hrepair, and_assoc]
  unfold settleLink
  split
  next h => exact iff_of_true (congrArg PortSt.link (State.modPort_same ..) :) (hcond.mp h)
  next h =>
    rw [hlink]
    exact iff_of_false (by decide) fun hall => h (hcond.mpr hall)

/-- The lane is taken from its spare, and the resend is asked for (R67, R68). -/
theorem remapDown_parts {s : State} {p : Port} {arg : Nat} {i : Fin 4} (hlink : s.ports[p].link = .remap)
    (hi : i.val = bitsOf arg 7 2) (hidle : s.links[p].repairQ = []) :
    (remapDown s p arg).ports[p].mapDn = remapLane s.ports[p].mapDn (bitsOf arg 0 7) i ∧
    (remapDown s p arg).links[p].repair = none ∧ (remapDown s p arg).links[p].nakPending = true ∧
    ((remapDown s p arg).ports[p].link = .up ↔
      s.links[p].heldBack = 0 ∧ s.links[p].muted = false ∧ s.links[p].upHeld = none) := by
  unfold remapDown
  extract_lets j t u v
  have hj : j = i := Fin.ext ((congrArg (· % 4) hi.symm).trans (Nat.mod_eq_of_lt i.isLt))
  obtain ⟨hlinks, hcore⟩ := repairRecorded_keeps u p arg 0 (sparesLeft u.ports[p].mapDn (dnSpareBad u p)) ⟨p.val, by omega⟩
  have hport : u.ports[p] = { s.ports[p] with mapDn := remapLane s.ports[p].mapDn (bitsOf arg 0 7) j } :=
    (congrArg (fun l : Vector PortSt 16 => l[p]) (State.modLink_ports ..)).trans (State.modPort_same ..)
  have hul : u.links[p] = { s.links[p] with repair := none, pctl := none, nakPending := true } := State.modLink_same ..
  have hvl : (recordDue v ⟨p.val, by omega⟩ true).links[p] = u.links[p] := congrArg (fun l : Vector LinkSt 16 => l[p]) hlinks
  have hvlink : (recordDue v ⟨p.val, by omega⟩ true).ports[p].link = .remap :=
    (congrArg PortSt.link hcore :).trans ((congrArg PortSt.link hport).trans hlink)
  have hvmap : (recordDue v ⟨p.val, by omega⟩ true).ports[p].mapDn = remapLane s.ports[p].mapDn (bitsOf arg 0 7) i :=
    (congrArg PortSt.mapDn hcore :).trans ((congrArg PortSt.mapDn hport).trans (by rw [hj]))
  generalize recordDue v ⟨p.val, by omega⟩ true = x at hvl hvlink hvmap
  rw [hul] at hvl
  have hq : x.links[p].repairQ = [] := (congrArg LinkSt.repairQ hvl).trans hidle
  obtain ⟨l, hsettled⟩ := settleLink_port x p
  have hup := settleLink_up_iff hvlink (congrArg LinkSt.repair hvl)
  rw [repairStep_idle hq, settleLink_links]
  refine ⟨?_, congrArg LinkSt.repair hvl, congrArg LinkSt.nakPending hvl, ?_⟩
  · rw [hsettled]
    exact hvmap
  · rw [hup, hvl]

/-! ### Port resets -/

/-- A per-port reset (R98). -/
theorem startReset_parts (s : State) (p : Port) :
    (startReset s p).ports[p].link = .reset ∧ (startReset s p).ports[p].resetting = true ∧
    (startReset s p).ports[p].staging = [] ∧ (startReset s p).ports[p].tags = [] ∧ (startReset s p).ports[p].sigWait = [] ∧
    (startReset s p).ports[p].mapDn = s.ports[p].mapDn ∧ (startReset s p).links[p].replay = [] ∧
    (startReset s p).links[p].pctlUp = some (0x10, 1) := by
  unfold startReset
  extract_lets t u v w
  have hu : u.ports[p].staging = [] ∧ u.ports[p].tags = [] ∧ u.ports[p].sigWait = [] ∧ u.ports[p].mapDn = s.ports[p].mapDn := by
    obtain ⟨undrained, discarded, noResp, hport⟩ := discardRequests_port t p
    have ht : t.ports[p] = { s.ports[p] with discarded := 0, noResp := 0 } := State.modPort_same ..
    unfold u discardPort
    rw [State.modPort_same, hport, ht]
    exact ⟨rfl, rfl, rfl, rfl⟩
  clear_value u
  obtain ⟨hstaging, htags, hsigs, hmap⟩ := hu
  have hv : v.ports[p] = { u.ports[p] with link := .reset, resetting := true } := State.modPort_same ..
  have hw : (pctlSend w p 0x10 1 true).ports[p] = v.ports[p] := rfl
  have hlinks : (pctlSend w p 0x10 1 true).links[p].replay = [] ∧
      (pctlSend w p 0x10 1 true).links[p].pctlUp = some (0x10, 1) := by
    unfold pctlSend
    rw [State.modLink_same]
    unfold w
    rw [State.modLink_same]
    exact ⟨rfl, rfl⟩
  rw [hw, hv]
  exact ⟨rfl, rfl, hstaging, htags, hsigs, hmap, hlinks.1, hlinks.2⟩

/-- A port that comes up takes the credits of a valid CRDINIT (R90). -/
theorem loadCredits_valid {s : State} {p : Port} (h : crdValid (csrGet s (portReg p 4)) = true) :
    (loadCredits s p).ports[p].credits = #v[bitsOf (csrGet s (portReg p 4)) 0 8, bitsOf (csrGet s (portReg p 4)) 8 8,
      bitsOf (csrGet s (portReg p 4)) 16 8] := by
  unfold loadCredits
  extract_lets v
  rw [if_pos h, State.modPort_same]

/-- A port comes up with both sequence numbers zero (R51, R84). -/
theorem portUp_parts (s : State) (p : Port) : (portUp s p).ports[p].link = .up ∧ (portUp s p).ports[p].resetting = false ∧
    (portUp s p).ports[p].credits = (loadCredits s p).ports[p].credits ∧ (portUp s p).links[p].rxSeq = 0 ∧
    (portUp s p).links[p].txSeq = 0 := by
  unfold portUp
  extract_lets t u
  have hu : u.ports[p] = { t.ports[p] with link := .up, sigLost := false, sigCred := 0, resetting := false } :=
    State.modPort_same ..
  rw [State.modLink_ports, hu, State.modLink_same]
  exact ⟨rfl, rfl, rfl, rfl, rfl⟩

/-- The reset ends: the port is UP, and its frame goes out (R98, R100). -/
theorem endReset_parts (s : State) (p : Port) : (endReset s p).ports[p].link = .up ∧ (endReset s p).ports[p].resetting = false ∧
    (endReset s p).links[p].rxSeq = 0 ∧ (endReset s p).links[p].txSeq = 0 ∧ (endReset s p).links[p].pctlUp = some (0x02, 0) ∧
    (endReset s p).ports[p].credits = (loadCredits s p).ports[p].credits := by
  unfold endReset
  extract_lets d n t u v
  obtain ⟨hlink, hreset, hcredits, hrx, htx⟩ := portUp_parts s p
  have hev := (journal_ev u 0x0006 (portSrc p 5) (bodyAt 24 6 + bodyAt 25 p.val + bodyAt 32 (u.seq.next - 1))).trans
    (raiseX_ev v (portSrc p 5) 0x0108 sevNotice d n true false true)
  have hports : u.ports = t.ports := rfl
  have hul : u.links[p].rxSeq = t.links[p].rxSeq ∧ u.links[p].txSeq = t.links[p].txSeq ∧ u.links[p].pctlUp = some (0x02, 0) := by
    unfold u pctlSend
    rw [State.modLink_same]
    exact ⟨rfl, rfl, rfl⟩
  obtain ⟨hurx, hutx, hframe⟩ := hul
  have hcore := (hev.core p).trans (congrArg (fun l : Vector PortSt 16 => l[p].core) hports)
  rw [hev.links]
  exact ⟨(congrArg PortSt.link hcore :).trans hlink, (congrArg PortSt.resetting hcore :).trans hreset, hurx.trans hrx,
    hutx.trans htx, hframe, (congrArg PortSt.credits hcore :).trans hcredits⟩

/-! ### The settled statement -/

/-- Settles O10, command by command. -/
theorem laneRepairAndPortResets : Obligations.LaneRepairAndPortResets := by
  unfold Obligations.LaneRepairAndPortResets
  refine ⟨?lane, ?remap, ?done, ?reset, ?exhausted, ?resetDone⟩
  case lane =>
    intro p lane s hlive hlane hdue hidle hmap htest hgood
    obtain ⟨hlinks, hcore, htransit, hother⟩ := markLaneFailed_keeps s (laneKey p.val lane) p
    have hexec : exec (.downstreamLaneFailed p lane) s = .next (declareLane (markLaneFailed s (laneKey p.val lane)) p lane) := by
      show execDownstreamLaneFailed p lane s = _
      unfold execDownstreamLaneFailed
      rw [if_pos hlane, hmap, lanePos_unmapped]
      exact if_pos (by rw [hlive, hdue]; rfl)
    have hspare : (spareTested (markLaneFailed s (laneKey p.val lane)) p 0 0 ||
        dnSpareBad (markLaneFailed s (laneKey p.val lane)) p 0) = false := by
      have hbad : dnSpareBad (markLaneFailed s (laneKey p.val lane)) p 0 = dnSpareBad s p 0 :=
        congrArg Lane.failed (hother (256 * p.val + 68 + 0) (by unfold laneKey; omega))
      rw [hbad, show dnSpareBad s p 0 = false from hgood 0]
      unfold spareTested
      rw [htransit, htest]
      rfl
    have hpick : freeSpare (markLaneFailed s (laneKey p.val lane)).ports[p].mapDn
        (fun i => spareTested (markLaneFailed s (laneKey p.val lane)) p 0 i ||
          dnSpareBad (markLaneFailed s (laneKey p.val lane)) p i) = some 0 := by
      have hkept : (markLaneFailed s (laneKey p.val lane)).ports[p].mapDn = Vector.replicate 4 none :=
        (congrArg PortSt.mapDn hcore :).trans hmap
      rw [hkept]
      exact freeSpare_none hspare
    exact ⟨_, hexec, declareLane_parts lane (by rw [hlinks]; exact hidle) hpick⟩
  case remap =>
    intro p arg i s hlive hvalid hi hleft hfree
    refine ⟨remapUp s p arg.toNat, ?_, remapUp_parts hi hleft⟩
    show execRemap p arg s = _
    unfold execRemap
    extract_lets j
    have hj : j = i := Fin.ext ((congrArg (· % 4) hi.symm).trans (Nat.mod_eq_of_lt i.isLt))
    have hspare : s.ports[p].mapUp[j] = none := (congrArg (fun k : Fin 4 => s.ports[p].mapUp[k]) hj).trans hfree
    exact if_pos (by rw [hlive, hvalid, hspare]; simp)
  case done =>
    intro p arg i s hlink hrepair hi hidle
    exact Answers.does (by rw [hlink, hrepair]; simp) rfl (remapDown_parts hlink hi hidle)
  case reset =>
    intro p s hdown hgood
    refine Answers.does ?_ rfl (startReset_parts s p)
    rw [beq_eq_false_iff_ne.mpr hdown, not_exhausted hgood]
    rfl
  case exhausted =>
    intro p s hlink hreason
    refine if_neg ?_
    rw [hlink, hreason]
    decide
  case resetDone =>
    intro p s hreset hlink htrained hup
    obtain ⟨hlinkUp, hdone, hrx, htx, hframe, hcredits⟩ := endReset_parts s p
    refine Answers.does (by rw [hreset, hlink, htrained, hup]; rfl) rfl
      ⟨hlinkUp, hdone, hrx, htx, hframe, fun hvalid => hcredits.trans (loadCredits_valid hvalid)⟩

end Sys2Proof.Machine
end
